-- ==== Sys2Proof/Word.lean ====
section
/-!
DEFINITION. The word types of the ES480 model: bytes, 64-bit words, 4096-bit vector registers (R12, R156), and
the type of the sparse maps that hold memories, register files and tables as plain data.
-/

namespace Sys2Proof

/-- A byte of memory (R2). -/
abbrev Byte := BitVec 8

/-- A 64-bit scalar or local register value (R12, R128). -/
abbrev Word := BitVec 64

/-- A vector register: 128 lanes of 32 bits (R12, R156). -/
abbrev VReg := BitVec 4096

/-- A 56-bit instruction or virtual address (R12, R291). -/
abbrev Addr := BitVec 56

/-- A sparse map from numbers to values, keys strictly rising; an unlisted key holds the default its reader names. -/
abbrev FMap (α : Type) := List (Nat × α)

end Sys2Proof
end

