-- ==== Sys2Proof/Config.lean ====
section
/-!
DEFINITION. What an implementation fixes (constants the spec states) and the free values: constants without a body,
applied to the counter State.fresh, so that no proof can see or choose a value the spec leaves open.
-/

namespace Sys2Proof

/-- MCAP, the matrix capability word (R226). -/
def Config.mcap : Word := 0x01784E3800000EFF#64

/-- Number of tiles (R7). -/
def Config.tiles : Nat := 288

/-- Bytes of a tile's scratchpad (R17). -/
def Config.scratchBytes : Nat := 4194304

/-- Ephemeris group slots per tile (R17). -/
def Config.ephSlots : Nat := 3640

/-- First physical address above local HBM, 768 GiB (R320). -/
def Config.hbmEnd : Nat := 0xC000000000

/-- Configuration space (R320): first and last byte. -/
def Config.cfgBase : Nat := 0xFFF0000000000
def Config.cfgEnd : Nat := 0xFFF0100000000

/-- Lanes of a destination whose variable-latency load is not covered read old (0) or new (1), each its own way (R101). -/
opaque Config.freeLanes : Nat → BitVec 128

/-- The cause code a state-use record carries in DETAIL: the spec names no codes (R302). -/
opaque Config.freeStateUseDetail : Nat → BitVec 64

/-- Handle of a new cohort or communicator: the spec says only that it is not zero (R40, R250). -/
opaque Config.freeHandle : Nat → BitVec 64

/-- Where the search for a free event or graph slot, or for an instance number, starts (R331, R340). -/
opaque Config.freeIndex : Nat → BitVec 24

/-- A vector the spec leaves open: what a port read returns when a watchdog skip completes its wait (R308). -/
opaque Config.freeVec : Nat → BitVec 4096

/-- Which of the values that R230 allows a byte takes that an indexed or aliased transfer both reads and writes. -/
opaque Config.freePick : Nat → Nat

/-- How many LLC misses a quadrant counter sees in a tick, by State.fresh and the counter's offset (R404): caches are not modelled (R274). -/
opaque Config.freeMisses : Nat → Nat → Nat

/-- What a register takes from a write of a number outside its range, where the spec gives no rule for it (R400, R402). -/
opaque Config.freeWord : Nat → BitVec 64

/-- Counters of the lanes at a latch: corrected symbols in bits 31:0, received power in bits 63:48 (R391). -/
opaque Config.freeLane : Nat → BitVec 64

/-- The Device Serial Number that both host ports present (R392): no value is given. -/
opaque Config.deviceSerial : BitVec 64

/-- The firmware's measurement of the ROM, the image and the runtime (R395 step 3): no digest is given. -/
opaque Config.measurement : Nat → BitVec 64

end Sys2Proof
end

