-- ==== Sys2Proof/Syntax.lean ====
section
/-!
DEFINITION. The instruction set: ONE inductive, one constructor per row of spec/opcode_table.json, in the table's
order: the words of the four tile engines, the collective steps, the handler words, then the machine's events
(spec/95: each row of the table is one whole, indivisible step). Operand letters are those of the opcode table.
-/

namespace Sys2Proof

/-- The four engines of a tile, in the path order S, V, M, C (R7, R239). -/
inductive Eng where
  | s | v | m | c
deriving DecidableEq, Repr

/-- The six instruction sets that decode words (R85, R108, R110). -/
inductive Isa where
  | scalar | vector | matrix | copy | handler | collective
deriving DecidableEq, Repr

/-- A tile number, 0 to 287 (R7). -/
abbrev Tid := BitVec 9

/-- A resident: bits 8:0 the tile, bits 11:9 the resident number (R150). -/
abbrev Rh := BitVec 12

/-- A scalar program: that of a resident, or that of a supervisor core (R127). -/
inductive Prog where
  | task (h : Rh)
  | sv (core : BitVec 3)
deriving DecidableEq, Repr

/-- Where an uncorrectable error lies (R325, R403): a memory line, the control state of a die, or other data that a program reads
(its engine e; a supervisor core has the scalar one), at a physical and a virtual address. -/
inductive ErrorPlace where
  | line (n : Nat)
  | die (d : BitVec 2)
  | data (p : Prog) (e : Eng) (pa va : BitVec 64)
deriving DecidableEq, Repr

/-- A requester serial (R350). -/
structure Serial where
  asid : BitVec 14
  nodeInst : BitVec 24
  taskNum : BitVec 20
  seq : BitVec 32
deriving DecidableEq, Repr

/-- What a request asks its owner to do (R40, R42, R251, R276, R335): cohort fn 0 asks for the size, the
asker's rank and the packages of the ranks, 1 joins, 2 leaves, 3 arrives at the barrier. evRead asks for an event's count and status (R244, R333). -/
inductive ROp where
  | handler (h : BitVec 5) (w : Nat)
  | evSignal (n : BitVec 64) (state : BitVec 2) (cause : BitVec 56)
  | evSet (v : BitVec 64) (cancel : Bool)
  | store (bytes : List Byte)
  | load (n : Nat)
  | cohort (fn : BitVec 2) (handle : BitVec 64)
  | evRead (handle : BitVec 64)
deriving DecidableEq, Repr

/-- A request on its way to, or standing at, its owner (R251, R354). -/
structure RReq where
  src : BitVec 10
  id : Nat
  serial : Option Serial
  rt : Bool
  rp : Bool
  inc : BitVec 16
  ct : Option Serial
  cls : BitVec 6
  addr : Nat
  op : ROp
  op0 : BitVec 128
  op1 : BitVec 128
  scope : BitVec 3
deriving DecidableEq, Repr

/-- How an owner answered (R352 STATUS, R354). -/
inductive RStatus where
  | performed | byHfail | stateUse | memError | indeterminate | retired | ownerBusy | protection | unreachable
deriving DecidableEq, Repr

/-- A response on its way to the requester (R354, R355). -/
structure RResp where
  src : BitVec 10
  dst : BitVec 10
  id : Nat
  status : RStatus
  result : BitVec 128
  data : List Byte
  inc : BitVec 16
deriving DecidableEq, Repr

/-- Which receiving step a stream belongs to: pair order, broadcast order, or a transpose (R266, R269, R270). -/
inductive StreamKind where
  | pair | bcast | xpose
deriving DecidableEq, Repr

/-- A collective chunk (R363, R367). comm is the key of the member it is addressed to, src and sender the package and rank it
comes from, run the sender's run it belongs to, ord the stream's ordinal in its ordered pair, serial its serial (SEQ = 2^31 + k),
total the stream's length in bytes, eights the offsets at which 8 bytes of data stood naturally aligned at their source (R275), paid whether it was sent
against a credit, recd the sender's communicator record (R365), inc, rt and rp the incarnation and marks of its delivery as a request has them (R354, R360). -/
structure Chunk where
  comm : Nat
  src : BitVec 10
  sender : Nat
  run : Nat
  kind : StreamKind
  wide : Bool
  ord : Nat
  serial : Serial
  offset : Nat
  total : Nat
  data : List Byte
  eights : List Nat
  miss : BitVec 64
  paid : Bool
  recd : BitVec 64
  inc : BitVec 16
  rt : Bool
  rp : Bool
deriving DecidableEq, Repr

/-- A message of a receiving rank to a sender (R371): credits granted after a refusal, a returned credit, the credits of a window that a stream's first chunk has
bound, a chunk refused (held: its sender has a window; paid: it was sent against a credit; busy: for want of an entry, R354, so that it is sent again), a chunk of an
earlier incarnation (R354), a chunk's acceptance (R267), the end of a window. -/
inductive CreditMsg where
  | grant (comm : Nat) (peer n : Nat)
  | back (comm : Nat) (peer n : Nat)
  | bound (comm peer run : Nat) (kind : StreamKind) (ord n : Nat)
  | refuse (comm peer run : Nat) (kind : StreamKind) (ord : Nat) (held paid busy : Bool)
  | indeterminate (comm peer run : Nat) (inc : BitVec 16)
  | accepted (comm peer run : Nat) (kind : StreamKind) (ord n : Nat)
  | release (comm peer : Nat)
deriving DecidableEq, Repr

/-- What a fabric packet carries (R384, R388). tack is a transport acknowledgement: cum the last packet delivered in order, bit i of sel
whether packet cum + 1 + i has come. routeLost names the pair's packet and the port that was down (R387). A chunk goes in packets of up to 64 payload flits: part of
parts. A credit message goes on its class's channel (R370). barrierPassed tells the sender of an arrival that its barrier is complete (R42). -/
inductive Payload where
  | request (r : RReq)
  | response (r : RResp)
  | ack (src : BitVec 10) (asid : BitVec 14) (ni : BitVec 24) (tn : BitVec 20) (ct : BitVec 32)
  | retireAll (src : BitVec 10) (asid : BitVec 14) (ni : BitVec 24) (tn : BitVec 20)
  | chunk (c : Chunk) (part parts : Nat)
  | credit (c : CreditMsg) (cls : BitVec 2)
  | barrierPassed (id : Nat)
  | eventCount (handle count status : BitVec 64) (set cancel : Bool)
  | tack (cum : BitVec 32) (sel : BitVec 64)
  | routeLost (dst : BitVec 10) (seq : BitVec 32) (port : BitVec 6) (sequenced : Bool)
deriving DecidableEq, Repr

/-- A codeword that is asked for again (R383): its count modulo 4,096, and whether it was itself a replay. -/
structure Replay where
  count : BitVec 12
  again : Bool
deriving DecidableEq, Repr

/-- A fabric packet: sequenced packets are delivered in sequence order, responses when they arrive (R388). via is the
intermediate group of a non-minimal path, until the packet enters that group (R386); hop is the index of the hop it makes now (R384). -/
structure Packet where
  src : BitVec 10
  dst : BitVec 10
  sequenced : Bool
  seq : BitVec 32
  via : Option (BitVec 5)
  hop : Nat
  body : Payload
deriving DecidableEq, Repr

/-- The rows of spec/opcode_table.json. -/
inductive Instr where
  -- all tile engines
  | nop
  -- scalar
  | add (d a b : BitVec 6)
  | sub (d a b : BitVec 6)
  | and (d a b : BitVec 6)
  | or (d a b : BitVec 6)
  | xor (d a b : BitVec 6)
  | shl (d a b : BitVec 6)
  | shr (d a b : BitVec 6)
  | sra (d a b : BitVec 6)
  | slt (d a b : BitVec 6)
  | sltu (d a b : BitVec 6)
  | mul (d a b : BitVec 6)
  | mulh (d a b : BitVec 6)
  | mulhu (d a b : BitVec 6)
  | div (d a b : BitVec 6)
  | divu (d a b : BitVec 6)
  | rem (d a b : BitVec 6)
  | remu (d a b : BitVec 6)
  | min (d a b : BitVec 6)
  | max (d a b : BitVec 6)
  | minu (d a b : BitVec 6)
  | maxu (d a b : BitVec 6)
  | clz (d a : BitVec 6)
  | ctz (d a : BitVec 6)
  | popc (d a : BitVec 6)
  | addi (d a : BitVec 6) (i : BitVec 14)
  | andi (d a : BitVec 6) (i : BitVec 14)
  | ori (d a : BitVec 6) (i : BitVec 14)
  | xori (d a : BitVec 6) (i : BitVec 14)
  | slti (d a : BitVec 6) (i : BitVec 14)
  | sltiu (d a : BitVec 6) (i : BitVec 14)
  | shli (d a s : BitVec 6)
  | shri (d a s : BitVec 6)
  | srai (d a s : BitVec 6)
  | muli (d a : BitVec 6) (i : BitVec 14)
  | lui (d : BitVec 6) (i : BitVec 20)
  | addpc (d : BitVec 6) (i : BitVec 20)
  | lds (z : BitVec 2) (d a : BitVec 6) (i : BitVec 14)
  | sts (z : BitVec 2) (d a : BitVec 6) (i : BitVec 14)
  | ldg (z : BitVec 2) (d a : BitVec 6) (i : BitVec 14)
  | stg (z : BitVec 2) (d a : BitVec 6) (i : BitVec 14)
  | ldsZ (d a : BitVec 6) (z : BitVec 2)
  | ldgZ (d a : BitVec 6) (z : BitVec 2)
  | ldgAcq (d a : BitVec 6) (c : BitVec 3) (z : BitVec 2)
  | ldgAcqZ (d a : BitVec 6) (c : BitVec 3) (z : BitVec 2)
  | stgRel (d a : BitVec 6) (c : BitVec 3) (z : BitVec 2)
  | amo (d a b : BitVec 6) (h : BitVec 5) (c : BitVec 3)
  | red (a b : BitVec 6) (h : BitVec 5) (c : BitVec 3)
  | amoq (d a b : BitVec 6) (h : BitVec 5) (c : BitVec 3)
  | crr (d : BitVec 6) (r : BitVec 14)
  | crw (a : BitVec 6) (r : BitVec 14)
  | time (d : BitVec 6)
  | trap (c : BitVec 8)
  | beq (a b : BitVec 6) (n : BitVec 1) (o : BitVec 13)
  | bne (a b : BitVec 6) (n : BitVec 1) (o : BitVec 13)
  | blt (a b : BitVec 6) (n : BitVec 1) (o : BitVec 13)
  | bge (a b : BitVec 6) (n : BitVec 1) (o : BitVec 13)
  | bltu (a b : BitVec 6) (n : BitVec 1) (o : BitVec 13)
  | bgeu (a b : BitVec 6) (n : BitVec 1) (o : BitVec 13)
  | jump (n : BitVec 1) (o : BitVec 25)
  | jal (n : BitVec 1) (o : BitVec 25)
  | jalr (d a : BitVec 6) (i : BitVec 14)
  | fork (v m c : BitVec 6)
  | join
  | sEnd
  | rett
  | ccreate (d a : BitVec 6)
  | cjoin (d a : BitVec 6)
  | cleave (a : BitVec 6)
  | bar (a : BitVec 6)
  | glaunch (d a b : BitVec 6)
  | rdr (d a b : BitVec 6)
  | wrr (d a b : BitVec 6)
  | resume (d a b : BitVec 6)
  | preempt (d a : BitVec 6)
  | teardown (d a : BitVec 6)
  | tlbi (d a b : BitVec 6)
  | cresume (d a : BitVec 6)
  | cabort (d a : BitVec 6)
  | rinit (o x : BitVec 6)
  | rclaim (o x : BitVec 6) (n : BitVec 10)
  | rpub (o x : BitVec 6) (n : BitVec 10)
  | rwfill (o x : BitVec 6) (n : BitVec 10)
  | rwfree (o x : BitVec 6) (n : BitVec 10)
  | rcons (o : BitVec 6) (n : BitVec 10)
  | rread (o x : BitVec 6) (s : BitVec 2)
  | raddr (o x : BitVec 6)
  | wmwait (o x : BitVec 6)
  | wmarm (o x : BitVec 6) (p : BitVec 1)
  | wmread (o x : BitVec 6)
  | wmidle (o : BitVec 6)
  | evsig (x : BitVec 6) (n : BitVec 10)
  | evsigr (x : BitVec 6)
  | evwait (x : BitVec 6)
  | evread (x : BitVec 6)
  | evset (x : BitVec 6)
  | evsetC (x : BitVec 6)
  | fenceX (s d c : BitVec 3)
  | fenceXu (s d c : BitVec 3)
  | sset (o x : BitVec 6) (i : BitVec 3)
  | sget (o x : BitVec 6) (i : BitVec 3)
  | sbind (o : BitVec 6) (d : BitVec 2)
  | sunbind (o : BitVec 6)
  | ccomm (x : BitVec 6)
  | cstart (x : BitVec 6)
  | cfree (x : BitVec 6)
  -- vector
  | vadd (g : BitVec 2) (d a b : BitVec 7) (m : BitVec 3)
  | vsub (g : BitVec 2) (d a b : BitVec 7) (m : BitVec 3)
  | vmul (g : BitVec 2) (d a b : BitVec 7) (m : BitVec 3)
  | vmin (g : BitVec 2) (d a b : BitVec 7) (m : BitVec 3)
  | vmax (g : BitVec 2) (d a b : BitVec 7) (m : BitVec 3)
  | vand (g : BitVec 2) (d a b : BitVec 7) (m : BitVec 3)
  | vor (g : BitVec 2) (d a b : BitVec 7) (m : BitVec 3)
  | vxor (g : BitVec 2) (d a b : BitVec 7) (m : BitVec 3)
  | vshl (g : BitVec 2) (d a b : BitVec 7) (m : BitVec 3)
  | vshr (g : BitVec 2) (d a b : BitVec 7) (m : BitVec 3)
  | vsra (g : BitVec 2) (d a b : BitVec 7) (m : BitVec 3)
  | vaddi (g : BitVec 2) (d a : BitVec 7) (i : BitVec 10)
  | vshli (g : BitVec 2) (d a : BitVec 7) (s : BitVec 5)
  | vshri (g : BitVec 2) (d a : BitVec 7) (s : BitVec 5)
  | vsrai (g : BitVec 2) (d a : BitVec 7) (s : BitVec 5)
  | vbr (c : BitVec 3) (k : BitVec 5) (o : BitVec 18)
  | vectorEnd
  | vfadd (g : BitVec 2) (d a b : BitVec 7) (m : BitVec 3)
  | vfsub (g : BitVec 2) (d a b : BitVec 7) (m : BitVec 3)
  | vfmul (g : BitVec 2) (d a b : BitVec 7) (m : BitVec 3)
  | vfma (g : BitVec 2) (d a b : BitVec 7) (m : BitVec 3)
  | vfmin (g : BitVec 2) (d a b : BitVec 7) (m : BitVec 3)
  | vfmax (g : BitVec 2) (d a b : BitVec 7) (m : BitVec 3)
  | vfcmp (g : BitVec 2) (c : BitVec 4) (e : BitVec 3) (a b : BitVec 7) (m : BitVec 3)
  | vicmp (g : BitVec 2) (c : BitVec 4) (e : BitVec 3) (a b : BitVec 7) (m : BitVec 3)
  | vdadd (g : BitVec 2) (d a b : BitVec 7) (m : BitVec 3)
  | vdsub (g : BitVec 2) (d a b : BitVec 7) (m : BitVec 3)
  | vdmul (g : BitVec 2) (d a b : BitVec 7) (m : BitVec 3)
  | vdfma (g : BitVec 2) (d a b : BitVec 7) (m : BitVec 3)
  | vdmin (g : BitVec 2) (d a b : BitVec 7) (m : BitVec 3)
  | vdmax (g : BitVec 2) (d a b : BitVec 7) (m : BitVec 3)
  | vdcmp (g : BitVec 2) (c : BitVec 4) (e : BitVec 3) (a b : BitVec 7) (m : BitVec 3)
  | vsel (g : BitVec 2) (d a b : BitVec 7) (m : BitVec 3)
  | vdot (g : BitVec 2) (d a b : BitVec 7) (m : BitVec 3)
  | vlmul (g : BitVec 2) (d a b : BitVec 7) (m : BitVec 3)
  | vldiv (g : BitVec 2) (d a b : BitVec 7) (m : BitVec 3)
  | vlpow (g : BitVec 2) (d : BitVec 7) (p : BitVec 16)
  | vperm (g : BitVec 2) (d a b : BitVec 7) (m : BitVec 3)
  | vcmpx (g : BitVec 2) (d : BitVec 7) (t e : BitVec 1) (b : BitVec 4) (j : BitVec 3)
  | vcmpxPayload (g : BitVec 2) (d a : BitVec 7) (t e : BitVec 1) (b : BitVec 4) (j : BitVec 3)
  | vbcast (g : BitVec 2) (d : BitVec 7) (k : BitVec 5)
  | vbcastD (g : BitVec 2) (d : BitVec 7) (k : BitVec 5)
  | vextr (g : BitVec 2) (d : BitVec 5) (a l : BitVec 7)
  | vextrD (g : BitVec 2) (d : BitVec 5) (a l : BitVec 7)
  | vlds (g : BitVec 2) (d : BitVec 7) (k : BitVec 5) (w : BitVec 3) (o : BitVec 9)
  | vsts (g : BitVec 2) (d : BitVec 7) (k : BitVec 5) (w : BitVec 3) (o : BitVec 9)
  | vldg (g : BitVec 2) (d : BitVec 7) (k : BitVec 5) (w : BitVec 3) (o : BitVec 9)
  | vstg (g : BitVec 2) (d : BitVec 7) (k : BitVec 5) (w : BitVec 3) (o : BitVec 9)
  | vslr (g : BitVec 2) (d : BitVec 7) (z : BitVec 5) (w : BitVec 3) (h : BitVec 1) (r : BitVec 5)
  | vslw (g : BitVec 2) (d : BitVec 7) (z : BitVec 5) (w : BitVec 3) (h : BitVec 1) (r : BitVec 5)
  | vcvt (g : BitVec 2) (d a : BitVec 7) (t s : BitVec 4) (r : BitVec 2)
  | vcvtSr (g : BitVec 2) (d a : BitVec 7) (t s : BitVec 4) (r : BitVec 2)
  | vgaths (g : BitVec 2) (d x : BitVec 7) (k : BitVec 5) (w : BitVec 3) (m : BitVec 2)
  | vscats (g : BitVec 2) (d x : BitVec 7) (k : BitVec 5) (w : BitVec 3) (m : BitVec 2)
  | vgathg (g : BitVec 2) (d x : BitVec 7) (k : BitVec 5) (w : BitVec 3) (m : BitVec 2)
  | vscatg (g : BitVec 2) (d x : BitVec 7) (k : BitVec 5) (w : BitVec 3) (m : BitVec 2)
  | vldsr (g : BitVec 2) (d : BitVec 7) (s k : BitVec 5) (w : BitVec 3) (m : BitVec 2)
  | vstsr (g : BitVec 2) (d : BitVec 7) (s k : BitVec 5) (w : BitVec 3) (m : BitVec 2)
  | vldgr (g : BitVec 2) (d : BitVec 7) (s k : BitVec 5) (w : BitVec 3) (m : BitVec 2)
  | vstgr (g : BitVec 2) (d : BitVec 7) (s k : BitVec 5) (w : BitVec 3) (m : BitVec 2)
  | waitc (g : BitVec 2) (c : BitVec 3) (n : BitVec 6)
  | vamo (d a : BitVec 7) (k h : BitVec 5) (w : BitVec 2)
  | rep (c : BitVec 6) (d a b : BitVec 3) (z : BitVec 1)
  | vmov (g : BitVec 2) (d a : BitVec 7) (m : BitVec 2)
  | vnot (g : BitVec 2) (d a : BitVec 7) (m : BitVec 2)
  | viabs (g : BitVec 2) (d a : BitVec 7) (m : BitVec 2)
  | vineg (g : BitVec 2) (d a : BitVec 7) (m : BitVec 2)
  | vfneg (g : BitVec 2) (d a : BitVec 7) (m : BitVec 2)
  | vfabs (g : BitVec 2) (d a : BitVec 7) (m : BitVec 2)
  | vdneg (g : BitVec 2) (d a : BitVec 7) (m : BitVec 2)
  | vdabs (g : BitVec 2) (d a : BitVec 7) (m : BitVec 2)
  | vclz (g : BitVec 2) (d a : BitVec 7) (m : BitVec 2)
  | vpopc (g : BitVec 2) (d a : BitVec 7) (m : BitVec 2)
  | vtolog (g : BitVec 2) (d a : BitVec 7) (m : BitVec 2)
  | vfromlog (g : BitVec 2) (d a : BitVec 7) (m : BitVec 2)
  | vexp2l (g : BitVec 2) (d a : BitVec 7) (m : BitVec 2)
  | vlog2f (g : BitVec 2) (d a : BitVec 7) (m : BitVec 2)
  | mand (g : BitVec 2) (d b a : BitVec 3)
  | mor (g : BitVec 2) (d b a : BitVec 3)
  | mxor (g : BitVec 2) (d b a : BitVec 3)
  | mandn (g : BitVec 2) (d b a : BitVec 3)
  | mnot (g : BitVec 2) (d a : BitVec 3)
  | mmov (g : BitVec 2) (d a : BitVec 3)
  | mpopc (g : BitVec 2) (d : BitVec 5) (a : BitVec 3)
  | vrsum (g : BitVec 2) (d a : BitVec 7) (m : BitVec 2)
  | vrmin (g : BitVec 2) (d a : BitVec 7) (m : BitVec 2)
  | vrmax (g : BitVec 2) (d a : BitVec 7) (m : BitVec 2)
  | vrfsum (g : BitVec 2) (d a : BitVec 7) (m : BitVec 2)
  | vrfmin (g : BitVec 2) (d a : BitVec 7) (m : BitVec 2)
  | vrfmax (g : BitVec 2) (d a : BitVec 7) (m : BitVec 2)
  | vrdsum (g : BitVec 2) (d a : BitVec 7) (m : BitVec 2)
  | vrdmin (g : BitVec 2) (d a : BitVec 7) (m : BitVec 2)
  | vrdmax (g : BitVec 2) (d a : BitVec 7) (m : BitVec 2)
  | kmov (g : BitVec 2) (d a : BitVec 5)
  | kadd (g : BitVec 2) (d a : BitVec 5)
  | ksub (g : BitVec 2) (d a : BitVec 5)
  | vpackE3m2 (g : BitVec 2) (s : BitVec 3) (d a : BitVec 7)
  | vunpkE3m2 (g : BitVec 2) (s : BitVec 3) (d a : BitVec 7)
  | vpack (g w : BitVec 2) (s : BitVec 4) (d a : BitVec 7)
  | vunpk (g w : BitVec 2) (s : BitVec 4) (d a : BitVec 7)
  -- matrix
  | mma (z : BitVec 5) (a b n : BitVec 4) (i r : BitVec 1)
  | mmas (z : BitVec 5) (a b n : BitVec 4) (s i r : BitVec 1)
  | sbp (z : BitVec 5) (a b n : BitVec 4) (i r : BitVec 1)
  | ephb (b n : BitVec 4)
  | ephl (b n : BitVec 4)
  | ephs (b n : BitVec 4)
  | mzero (z : BitVec 5) (r : BitVec 1)
  | fft2 (a b n : BitVec 4) (s : BitVec 2) (i : BitVec 1)
  | fft3 (a b n : BitVec 4) (s : BitVec 2) (i : BitVec 1)
  | fft4 (a b n : BitVec 4) (s : BitVec 2) (i : BitVec 1)
  | fft5 (a b n : BitVec 4) (s : BitVec 2) (i : BitVec 1)
  | leg (z : BitVec 5) (a b n : BitVec 4) (i y r : BitVec 1)
  | legi (a b n : BitVec 4)
  | macq (z : BitVec 5)
  | mrel (z : BitVec 5)
  | nadd (d a b : BitVec 4)
  | nsub (d a b : BitVec 4)
  | nand (d a b : BitVec 4)
  | nor (d a b : BitVec 4)
  | nxor (d a b : BitVec 4)
  | nshl (d a b : BitVec 4)
  | nshr (d a b : BitVec 4)
  | nsra (d a b : BitVec 4)
  | nmul (d a b : BitVec 4)
  | nmin (d a b : BitVec 4)
  | nmax (d a b : BitVec 4)
  | nminu (d a b : BitVec 4)
  | nmaxu (d a b : BitVec 4)
  | naddi (d a : BitVec 4) (i : BitVec 18)
  | nseth (d a : BitVec 4) (p : BitVec 2) (v : BitVec 16)
  | nget (d : BitVec 4) (s : BitVec 18)
  | mbr (c : BitVec 3) (a : BitVec 4) (o : BitVec 19)
  | matrixEnd
  | mwake
  -- copy
  | cadd (d a b : BitVec 5)
  | csub (d a b : BitVec 5)
  | cand (d a b : BitVec 5)
  | cor (d a b : BitVec 5)
  | cxor (d a b : BitVec 5)
  | cshl (d a b : BitVec 5)
  | cshr (d a b : BitVec 5)
  | csra (d a b : BitVec 5)
  | cmul (d a b : BitVec 5)
  | cmin (d a b : BitVec 5)
  | cmax (d a b : BitVec 5)
  | cminu (d a b : BitVec 5)
  | cmaxu (d a b : BitVec 5)
  | caddi (d a : BitVec 5) (i : BitVec 12)
  | cseth (d a : BitVec 5) (i : BitVec 12)
  | copy (h : BitVec 4) (d a b : BitVec 5) (n k t s : BitVec 1)
  | copy2d (h : BitVec 4) (d a b : BitVec 5) (n k t s : BitVec 1)
  | cgath (h : BitVec 4) (d a b : BitVec 5) (e : BitVec 2) (n k t s : BitVec 1)
  | cscat (d a b : BitVec 5) (e : BitVec 2) (n t s : BitVec 1)
  | fill (h : BitVec 4) (d a b : BitVec 5) (n k t : BitVec 1)
  | pref (a b : BitVec 5)
  | clds (d a : BitVec 5) (i : BitVec 12)
  | cldg (d a : BitVec 5) (i : BitVec 12)
  | cbr (c : BitVec 3) (k : BitVec 5) (o : BitVec 18)
  | copyEnd
  -- collective steps
  | collNop
  | send (ls : BitVec 2) (pa : BitVec 8) (pb : BitVec 20) (buf : BitVec 4) (wide : Bool) (ba : BitVec 8) (bb : BitVec 12)
  | recv (ls : BitVec 2) (pa : BitVec 8) (pb : BitVec 20) (buf : BitVec 4) (ba : BitVec 8) (bb : BitVec 12)
  | rrs (ls : BitVec 2) (pa : BitVec 8) (pb : BitVec 20) (buf : BitVec 4) (fwd : Bool) (ba : BitVec 8) (bb : BitVec 12)
  | rrf (ls : BitVec 2) (pa : BitVec 8) (pb : BitVec 20) (buf : BitVec 4) (ba : BitVec 8) (bb : BitVec 12)
  | collCopy (ls : BitVec 2) (dst src : BitVec 4) (ba : BitVec 8) (bb : BitVec 12)
  | bcast (buf : BitVec 4) (root : BitVec 20)
  | xpose (buf : BitVec 4)
  | wait (buf : BitVec 4) (n : BitVec 24)
  | signal (buf : BitVec 4) (n : BitVec 24)
  | loop (ls : BitVec 2) (limit : BitVec 24)
  | endl (ls : BitVec 2)
  -- handler words
  | hnop
  | hld (d a : BitVec 4) (i : BitVec 16)
  | hst (a b : BitVec 4) (i : BitVec 16)
  | hli (d : BitVec 4) (i : BitVec 16)
  | hlis (d : BitVec 4) (i : BitVec 16)
  | hadd (d a b : BitVec 4) (i : BitVec 16)
  | hsub (d a b : BitVec 4)
  | hand (d a b : BitVec 4)
  | hor (d a b : BitVec 4)
  | hxor (d a b : BitVec 4)
  | hshf (d a : BitVec 4) (k : BitVec 2) (n : BitVec 6)
  | hfadd (d a b : BitVec 4) (f : BitVec 1)
  | hcmp (d a b : BitVec 4) (c : BitVec 3)
  | hsel (d a b : BitVec 4)
  | hbr (c a : BitVec 4) (i : BitVec 16)
  | hret (a : BitVec 4)
  | hfail (a : BitVec 4)
  -- events
  | blockLimit (t : Tid) (e : Eng)
  | unsettledLimit (p : Prog)
  | clockGate (t : Tid) (e : Eng)
  | idleEngineWake (t : Tid) (e : Eng)
  | subarrayGate (t : Tid) (i : BitVec 2)
  | datapathComplete (t : Tid)
  | transferComplete (t : Tid)
  | vectorAccessComplete (id : Nat) (lanes : BitVec 128) (data : BitVec 4096)
  | loadComplete (id : Nat) (data : BitVec 64)
  | streamFetch (h : Rh) (q : BitVec 3)
  | streamStore (h : Rh) (q : BitVec 3)
  | timerExpiry (p : Prog)
  | timerInterrupt (p : Prog)
  | tcmpWrite (p : Prog) (v : BitVec 64)
  | rctlWrite (h : Rh) (v : BitVec 64)
  | rngWrite (h : Rh) (v : BitVec 64)
  | deferredFaultDelivery (h : Rh)
  | watchdog (h : Rh) (e : Eng)
  | faultRecordWrite (core : BitVec 3)
  | faultQueueInterrupt (core : BitVec 3)
  | fqheadWrite (core : BitVec 3) (v : BitVec 64)
  | faultQueueConfigWrite (core : BitVec 3) (size : Bool) (v : BitVec 64)
  | supervisorFaultTrap (core : BitVec 3) (code : BitVec 8) (addr : BitVec 64)
  | supervisorRestart (core : BitVec 3)
  | placeTask
  | loadingComplete (h : Rh)
  | resumeSavedTask
  | restoreContext (h : Rh)
  | saveContext (h : Rh)
  | drain (h : Rh)
  | deferredSupervisorWrite (h : Rh)
  | orreryPreempt
  | replayStart (g : Nat)
  | nodeReady (g n : Nat)
  | nodeComplete (g n : Nat)
  | taskReplay (k : Nat)
  | eventUpdate (k : Nat)
  | registerGraph
  | destroyGraph
  | createEvent
  | destroyEvent
  | launch
  | bindCompletionEvent
  | commandRingConfigWrite (size : Bool) (v : BitVec 64)
  | remoteRequest (k : Nat)
  | remoteResponse (k : Nat)
  | ownerBusyResend (id : Nat)
  | standaloneAck (h : Rh) (owner : BitVec 10)
  | acknowledgement (k : Nat)
  | retireAll (k : Nat)
  | storeCommit (id : Nat)
  | wcBufferIssue (k : Nat)
  | walkComplete (k : Nat)
  | uncorrectableError (e : ErrorPlace)
  | regionRetirement (region : Nat)
  | flitRetry (link : BitVec 8) (again : Bool)
  | linkFence (link : BitVec 8)
  | diectlFence (die : BitVec 2) (v : BitVec 64)
  | diectlRejoin (die : BitVec 2) (v : BitVec 64)
  | llcpinWrite (q : BitVec 2) (v : BitVec 64)
  | chunkSend (q : BitVec 2)
  | chunkArrival (k : Nat)
  | creditReturn (k : Nat)
  | flush (c : Nat)
  | collectiveWatchdog (c : Nat)
  | packetArrival (p : Packet)
  | transportAck (peer : BitVec 10) (cum : BitVec 32) (sel : BitVec 64)
  | retransmitTimeout (peer : BitVec 10) (seq : BitVec 32)
  | routeLost (peer : BitVec 10) (seq : BitVec 32) (port : BitVec 6)
  | codewordReplay (lane : BitVec 12) (again : Replay)
  | portDown (port : BitVec 6)
  | prep (port : BitVec 6) (v : BitVec 64)
  | enable (port : BitVec 6) (v : BitVec 64)
  | portDrained (port : BitVec 6)
  | trainingComplete (port : BitVec 6) (peer : BitVec 10) (inc : BitVec 16)
  | laneRemap (v : BitVec 64)
  | telemetryLatch
  | hostWrite (port bar0 : Bool) (pa : BitVec 40) (bytes : List (BitVec 8)) (ro : Bool)
  | hostRead (port bar0 : Bool) (pa : BitVec 40) (n : Nat)
  | hostAtomic (port : Bool) (pa : BitVec 40) (h : BitVec 5) (op0 op1 : BitVec 128)
  | hostCompletionTimeout (id : Nat)
  | boot
  | loadHandlerSlot (core : BitVec 3)
  | writeAsidEntry (core : BitVec 3)
  | writeAccessRight (core : BitVec 3)
  | fenceDieCall (core : BitVec 3)
  | rejoinDieCall (core : BitVec 3)
  | writeLlcpin (core : BitVec 3)
  | retireHbmRegion (core : BitVec 3)
  | setMasterClass (core : BitVec 3)
  | dvfsWrite (cls : BitVec 6) (die : BitVec 2) (v : BitVec 64)
  | powerCapStep (die : BitVec 2) (watts : Nat)
  | counterCtlWrite (off : BitVec 24) (v : BitVec 64)
  | registerWrite (cls : BitVec 6) (off : BitVec 24) (v : BitVec 64)
  | illegalInstruction (w : BitVec 64)
  | writeLands (h : Rh)
  | progressPointReached (t : Tid) (e : Eng)
  | subarrayWake (t : Tid)
  | sendStagingReady (c : Nat)
  | directoryEviction (line : Nat)
  | patrolScrub (line : Nat) (err : BitVec 2)
  | dieRejoinComplete (die : BitVec 2)
  | packageReset
deriving DecidableEq, Repr

end Sys2Proof
end

