-- ==== Sys2Proof/WellFormed.lean ====
section
/-!
DEFINITION. Which operand values a word of each instruction set may hold: the illegal encodings of R86 and of the
engine chapters that are seen in the word alone, and the ranges of the operands of the events.
-/

namespace Sys2Proof

/-- Scope codes 5 to 7 are illegal (R89). -/
def scopeOk (c : BitVec 3) : Bool := decide (c.toNat ≤ 4)

/-- A register pair or quad operand must name an even register (R148, R230, R238). -/
def even {w : Nat} (x : BitVec w) : Bool := decide (x.toNat % 2 = 0)

/-- Rings are numbered 0 to 31 (R238). -/
def ringOk (o : BitVec 6) : Bool := decide (o.toNat < 32)

/-- Channels and streams are numbered 0 to 15 (R238). -/
def chanOk (o : BitVec 6) : Bool := decide (o.toNat < 16)

/-- The highest local register a format Y word may name on each engine (R90, R149, R206). -/
def regOk (isa : Isa) (x : BitVec 6) : Bool :=
  match isa with
  | .scalar => true
  | .vector => decide (x.toNat < 32)
  | .matrix => decide (x.toNat < 16)
  | .copy => decide (x.toNat < 32)
  | .handler => false
  | .collective => false

/-- The path code of an engine's instruction set (R89). -/
def pathCode (isa : Isa) : Nat :=
  match isa with
  | .scalar => 0
  | .vector => 1
  | .matrix => 2
  | .copy => 3
  | .handler => 5
  | .collective => 4

/-- A fence names the issuing engine's path, or all paths, as source or destination (R246). -/
def fencePaths (isa : Isa) (s d : BitVec 3) : Bool :=
  decide (s.toNat = pathCode isa) || decide (d.toNat = pathCode isa) || decide (s.toNat = 7) || decide (d.toNat = 7)

/-- Legal format pairs of VCVT (R171): codes 0 to 13, not equal, sc8 (13) only with fp32 (0). -/
def cvtPair (t s : BitVec 4) : Bool :=
  decide (t.toNat ≤ 13) && decide (s.toNat ≤ 13) && decide (t ≠ s) &&
  (decide (t.toNat ≠ 13) || decide (s.toNat = 0)) && (decide (s.toNat ≠ 13) || decide (t.toNat = 0))

/-- Only q8 to q15 name matrix operands (R105). -/
def matStream (q : BitVec 4) : Bool := decide (8 ≤ q.toNat)

/-- The channel field is reserved unless the transfer fills a channel (R229). -/
def chField (h : BitVec 4) (k : BitVec 1) : Bool := decide (k = 1) || decide (h = 0)

/-- Non-temporal stores are legal only to global memory (R229). -/
def ntOk (n t : BitVec 1) : Bool := decide (n = 0) || decide (t = 0)

/-- A resident handle names tile 0 to 287 (R150). -/
def handleOk (h : Rh) : Bool := decide ((h.extractLsb' 0 9).toNat < 288)

/-- A scalar program's tile exists. -/
def progOk (p : Prog) : Bool :=
  match p with
  | .task h => handleOk h
  | .sv _ => true

/-- The instruction sets whose words an instruction has; empty for the events. -/
def Instr.isas (i : Instr) : List Isa :=
  match i with
  | .nop => [.scalar, .vector, .matrix, .copy]
  | .add _ _ _ => [.scalar]
  | .sub _ _ _ => [.scalar]
  | .and _ _ _ => [.scalar]
  | .or _ _ _ => [.scalar]
  | .xor _ _ _ => [.scalar]
  | .shl _ _ _ => [.scalar]
  | .shr _ _ _ => [.scalar]
  | .sra _ _ _ => [.scalar]
  | .slt _ _ _ => [.scalar]
  | .sltu _ _ _ => [.scalar]
  | .mul _ _ _ => [.scalar]
  | .mulh _ _ _ => [.scalar]
  | .mulhu _ _ _ => [.scalar]
  | .div _ _ _ => [.scalar]
  | .divu _ _ _ => [.scalar]
  | .rem _ _ _ => [.scalar]
  | .remu _ _ _ => [.scalar]
  | .min _ _ _ => [.scalar]
  | .max _ _ _ => [.scalar]
  | .minu _ _ _ => [.scalar]
  | .maxu _ _ _ => [.scalar]
  | .clz _ _ => [.scalar]
  | .ctz _ _ => [.scalar]
  | .popc _ _ => [.scalar]
  | .addi _ _ _ => [.scalar]
  | .andi _ _ _ => [.scalar]
  | .ori _ _ _ => [.scalar]
  | .xori _ _ _ => [.scalar]
  | .slti _ _ _ => [.scalar]
  | .sltiu _ _ _ => [.scalar]
  | .shli _ _ _ => [.scalar]
  | .shri _ _ _ => [.scalar]
  | .srai _ _ _ => [.scalar]
  | .muli _ _ _ => [.scalar]
  | .lui _ _ => [.scalar]
  | .addpc _ _ => [.scalar]
  | .lds _ _ _ _ => [.scalar]
  | .sts _ _ _ _ => [.scalar]
  | .ldg _ _ _ _ => [.scalar]
  | .stg _ _ _ _ => [.scalar]
  | .ldsZ _ _ _ => [.scalar]
  | .ldgZ _ _ _ => [.scalar]
  | .ldgAcq _ _ _ _ => [.scalar]
  | .ldgAcqZ _ _ _ _ => [.scalar]
  | .stgRel _ _ _ _ => [.scalar]
  | .amo _ _ _ _ _ => [.scalar]
  | .red _ _ _ _ => [.scalar]
  | .amoq _ _ _ _ _ => [.scalar]
  | .crr _ _ => [.scalar]
  | .crw _ _ => [.scalar]
  | .time _ => [.scalar]
  | .trap _ => [.scalar]
  | .beq _ _ _ _ => [.scalar]
  | .bne _ _ _ _ => [.scalar]
  | .blt _ _ _ _ => [.scalar]
  | .bge _ _ _ _ => [.scalar]
  | .bltu _ _ _ _ => [.scalar]
  | .bgeu _ _ _ _ => [.scalar]
  | .jump _ _ => [.scalar]
  | .jal _ _ => [.scalar]
  | .jalr _ _ _ => [.scalar]
  | .fork _ _ _ => [.scalar]
  | .join => [.scalar]
  | .sEnd => [.scalar]
  | .rett => [.scalar]
  | .ccreate _ _ => [.scalar]
  | .cjoin _ _ => [.scalar]
  | .cleave _ => [.scalar]
  | .bar _ => [.scalar]
  | .glaunch _ _ _ => [.scalar]
  | .rdr _ _ _ => [.scalar]
  | .wrr _ _ _ => [.scalar]
  | .resume _ _ _ => [.scalar]
  | .preempt _ _ => [.scalar]
  | .teardown _ _ => [.scalar]
  | .tlbi _ _ _ => [.scalar]
  | .cresume _ _ => [.scalar]
  | .cabort _ _ => [.scalar]
  | .rinit _ _ => [.scalar, .vector, .matrix, .copy]
  | .rclaim _ _ _ => [.scalar, .vector, .matrix, .copy]
  | .rpub _ _ _ => [.scalar, .vector, .matrix, .copy]
  | .rwfill _ _ _ => [.scalar, .vector, .matrix, .copy]
  | .rwfree _ _ _ => [.scalar, .vector, .matrix, .copy]
  | .rcons _ _ => [.scalar, .vector, .matrix, .copy]
  | .rread _ _ _ => [.scalar, .vector, .matrix, .copy]
  | .raddr _ _ => [.scalar, .vector, .matrix, .copy]
  | .wmwait _ _ => [.scalar, .vector, .matrix, .copy]
  | .wmarm _ _ _ => [.scalar, .vector, .matrix, .copy]
  | .wmread _ _ => [.scalar, .vector, .matrix, .copy]
  | .wmidle _ => [.scalar, .vector, .matrix, .copy]
  | .evsig _ _ => [.scalar, .vector, .matrix, .copy]
  | .evsigr _ => [.scalar, .vector, .matrix, .copy]
  | .evwait _ => [.scalar, .vector, .matrix, .copy]
  | .evread _ => [.scalar, .vector, .matrix, .copy]
  | .evset _ => [.scalar, .vector, .matrix, .copy]
  | .evsetC _ => [.scalar, .vector, .matrix, .copy]
  | .fenceX _ _ _ => [.scalar, .vector, .matrix, .copy]
  | .fenceXu _ _ _ => [.scalar, .vector, .matrix, .copy]
  | .sset _ _ _ => [.scalar, .copy]
  | .sget _ _ _ => [.scalar, .copy]
  | .sbind _ _ => [.scalar, .copy]
  | .sunbind _ => [.scalar, .copy]
  | .ccomm _ => [.scalar, .copy]
  | .cstart _ => [.scalar, .copy]
  | .cfree _ => [.scalar, .copy]
  | .vadd _ _ _ _ _ => [.vector]
  | .vsub _ _ _ _ _ => [.vector]
  | .vmul _ _ _ _ _ => [.vector]
  | .vmin _ _ _ _ _ => [.vector]
  | .vmax _ _ _ _ _ => [.vector]
  | .vand _ _ _ _ _ => [.vector]
  | .vor _ _ _ _ _ => [.vector]
  | .vxor _ _ _ _ _ => [.vector]
  | .vshl _ _ _ _ _ => [.vector]
  | .vshr _ _ _ _ _ => [.vector]
  | .vsra _ _ _ _ _ => [.vector]
  | .vaddi _ _ _ _ => [.vector]
  | .vshli _ _ _ _ => [.vector]
  | .vshri _ _ _ _ => [.vector]
  | .vsrai _ _ _ _ => [.vector]
  | .vbr _ _ _ => [.vector]
  | .vectorEnd => [.vector]
  | .vfadd _ _ _ _ _ => [.vector]
  | .vfsub _ _ _ _ _ => [.vector]
  | .vfmul _ _ _ _ _ => [.vector]
  | .vfma _ _ _ _ _ => [.vector]
  | .vfmin _ _ _ _ _ => [.vector]
  | .vfmax _ _ _ _ _ => [.vector]
  | .vfcmp _ _ _ _ _ _ => [.vector]
  | .vicmp _ _ _ _ _ _ => [.vector]
  | .vdadd _ _ _ _ _ => [.vector]
  | .vdsub _ _ _ _ _ => [.vector]
  | .vdmul _ _ _ _ _ => [.vector]
  | .vdfma _ _ _ _ _ => [.vector]
  | .vdmin _ _ _ _ _ => [.vector]
  | .vdmax _ _ _ _ _ => [.vector]
  | .vdcmp _ _ _ _ _ _ => [.vector]
  | .vsel _ _ _ _ _ => [.vector]
  | .vdot _ _ _ _ _ => [.vector]
  | .vlmul _ _ _ _ _ => [.vector]
  | .vldiv _ _ _ _ _ => [.vector]
  | .vlpow _ _ _ => [.vector]
  | .vperm _ _ _ _ _ => [.vector]
  | .vcmpx _ _ _ _ _ _ => [.vector]
  | .vcmpxPayload _ _ _ _ _ _ _ => [.vector]
  | .vbcast _ _ _ => [.vector]
  | .vbcastD _ _ _ => [.vector]
  | .vextr _ _ _ _ => [.vector]
  | .vextrD _ _ _ _ => [.vector]
  | .vlds _ _ _ _ _ => [.vector]
  | .vsts _ _ _ _ _ => [.vector]
  | .vldg _ _ _ _ _ => [.vector]
  | .vstg _ _ _ _ _ => [.vector]
  | .vslr _ _ _ _ _ _ => [.vector]
  | .vslw _ _ _ _ _ _ => [.vector]
  | .vcvt _ _ _ _ _ _ => [.vector]
  | .vcvtSr _ _ _ _ _ _ => [.vector]
  | .vgaths _ _ _ _ _ _ => [.vector]
  | .vscats _ _ _ _ _ _ => [.vector]
  | .vgathg _ _ _ _ _ _ => [.vector]
  | .vscatg _ _ _ _ _ _ => [.vector]
  | .vldsr _ _ _ _ _ _ => [.vector]
  | .vstsr _ _ _ _ _ _ => [.vector]
  | .vldgr _ _ _ _ _ _ => [.vector]
  | .vstgr _ _ _ _ _ _ => [.vector]
  | .waitc _ _ _ => [.vector]
  | .vamo _ _ _ _ _ => [.vector]
  | .rep _ _ _ _ _ => [.vector]
  | .vmov _ _ _ _ => [.vector]
  | .vnot _ _ _ _ => [.vector]
  | .viabs _ _ _ _ => [.vector]
  | .vineg _ _ _ _ => [.vector]
  | .vfneg _ _ _ _ => [.vector]
  | .vfabs _ _ _ _ => [.vector]
  | .vdneg _ _ _ _ => [.vector]
  | .vdabs _ _ _ _ => [.vector]
  | .vclz _ _ _ _ => [.vector]
  | .vpopc _ _ _ _ => [.vector]
  | .vtolog _ _ _ _ => [.vector]
  | .vfromlog _ _ _ _ => [.vector]
  | .vexp2l _ _ _ _ => [.vector]
  | .vlog2f _ _ _ _ => [.vector]
  | .mand _ _ _ _ => [.vector]
  | .mor _ _ _ _ => [.vector]
  | .mxor _ _ _ _ => [.vector]
  | .mandn _ _ _ _ => [.vector]
  | .mnot _ _ _ => [.vector]
  | .mmov _ _ _ => [.vector]
  | .mpopc _ _ _ => [.vector]
  | .vrsum _ _ _ _ => [.vector]
  | .vrmin _ _ _ _ => [.vector]
  | .vrmax _ _ _ _ => [.vector]
  | .vrfsum _ _ _ _ => [.vector]
  | .vrfmin _ _ _ _ => [.vector]
  | .vrfmax _ _ _ _ => [.vector]
  | .vrdsum _ _ _ _ => [.vector]
  | .vrdmin _ _ _ _ => [.vector]
  | .vrdmax _ _ _ _ => [.vector]
  | .kmov _ _ _ => [.vector]
  | .kadd _ _ _ => [.vector]
  | .ksub _ _ _ => [.vector]
  | .vpackE3m2 _ _ _ _ => [.vector]
  | .vunpkE3m2 _ _ _ _ => [.vector]
  | .vpack _ _ _ _ _ => [.vector]
  | .vunpk _ _ _ _ _ => [.vector]
  | .mma _ _ _ _ _ _ => [.matrix]
  | .mmas _ _ _ _ _ _ _ => [.matrix]
  | .sbp _ _ _ _ _ _ => [.matrix]
  | .ephb _ _ => [.matrix]
  | .ephl _ _ => [.matrix]
  | .ephs _ _ => [.matrix]
  | .mzero _ _ => [.matrix]
  | .fft2 _ _ _ _ _ => [.matrix]
  | .fft3 _ _ _ _ _ => [.matrix]
  | .fft4 _ _ _ _ _ => [.matrix]
  | .fft5 _ _ _ _ _ => [.matrix]
  | .leg _ _ _ _ _ _ _ => [.matrix]
  | .legi _ _ _ => [.matrix]
  | .macq _ => [.matrix]
  | .mrel _ => [.matrix]
  | .nadd _ _ _ => [.matrix]
  | .nsub _ _ _ => [.matrix]
  | .nand _ _ _ => [.matrix]
  | .nor _ _ _ => [.matrix]
  | .nxor _ _ _ => [.matrix]
  | .nshl _ _ _ => [.matrix]
  | .nshr _ _ _ => [.matrix]
  | .nsra _ _ _ => [.matrix]
  | .nmul _ _ _ => [.matrix]
  | .nmin _ _ _ => [.matrix]
  | .nmax _ _ _ => [.matrix]
  | .nminu _ _ _ => [.matrix]
  | .nmaxu _ _ _ => [.matrix]
  | .naddi _ _ _ => [.matrix]
  | .nseth _ _ _ _ => [.matrix]
  | .nget _ _ => [.matrix]
  | .mbr _ _ _ => [.matrix]
  | .matrixEnd => [.matrix]
  | .mwake => [.matrix]
  | .cadd _ _ _ => [.copy]
  | .csub _ _ _ => [.copy]
  | .cand _ _ _ => [.copy]
  | .cor _ _ _ => [.copy]
  | .cxor _ _ _ => [.copy]
  | .cshl _ _ _ => [.copy]
  | .cshr _ _ _ => [.copy]
  | .csra _ _ _ => [.copy]
  | .cmul _ _ _ => [.copy]
  | .cmin _ _ _ => [.copy]
  | .cmax _ _ _ => [.copy]
  | .cminu _ _ _ => [.copy]
  | .cmaxu _ _ _ => [.copy]
  | .caddi _ _ _ => [.copy]
  | .cseth _ _ _ => [.copy]
  | .copy _ _ _ _ _ _ _ _ => [.copy]
  | .copy2d _ _ _ _ _ _ _ _ => [.copy]
  | .cgath _ _ _ _ _ _ _ _ _ => [.copy]
  | .cscat _ _ _ _ _ _ _ => [.copy]
  | .fill _ _ _ _ _ _ _ => [.copy]
  | .pref _ _ => [.copy]
  | .clds _ _ _ => [.copy]
  | .cldg _ _ _ => [.copy]
  | .cbr _ _ _ => [.copy]
  | .copyEnd => [.copy]
  | .collNop => [.collective]
  | .send _ _ _ _ _ _ _ => [.collective]
  | .recv _ _ _ _ _ _ => [.collective]
  | .rrs _ _ _ _ _ _ _ => [.collective]
  | .rrf _ _ _ _ _ _ => [.collective]
  | .collCopy _ _ _ _ _ => [.collective]
  | .bcast _ _ => [.collective]
  | .xpose _ => [.collective]
  | .wait _ _ => [.collective]
  | .signal _ _ => [.collective]
  | .loop _ _ => [.collective]
  | .endl _ => [.collective]
  | .hnop => [.handler]
  | .hld _ _ _ => [.handler]
  | .hst _ _ _ => [.handler]
  | .hli _ _ => [.handler]
  | .hlis _ _ => [.handler]
  | .hadd _ _ _ _ => [.handler]
  | .hsub _ _ _ => [.handler]
  | .hand _ _ _ => [.handler]
  | .hor _ _ _ => [.handler]
  | .hxor _ _ _ => [.handler]
  | .hshf _ _ _ _ => [.handler]
  | .hfadd _ _ _ _ => [.handler]
  | .hcmp _ _ _ _ => [.handler]
  | .hsel _ _ _ => [.handler]
  | .hbr _ _ _ => [.handler]
  | .hret _ => [.handler]
  | .hfail _ => [.handler]
  | .blockLimit _ _ => []
  | .unsettledLimit _ => []
  | .clockGate _ _ => []
  | .idleEngineWake _ _ => []
  | .subarrayGate _ _ => []
  | .datapathComplete _ => []
  | .transferComplete _ => []
  | .vectorAccessComplete _ _ _ => []
  | .loadComplete _ _ => []
  | .streamFetch _ _ => []
  | .streamStore _ _ => []
  | .timerExpiry _ => []
  | .timerInterrupt _ => []
  | .tcmpWrite _ _ => []
  | .rctlWrite _ _ => []
  | .rngWrite _ _ => []
  | .deferredFaultDelivery _ => []
  | .watchdog _ _ => []
  | .faultRecordWrite _ => []
  | .faultQueueInterrupt _ => []
  | .fqheadWrite _ _ => []
  | .faultQueueConfigWrite _ _ _ => []
  | .supervisorFaultTrap _ _ _ => []
  | .supervisorRestart _ => []
  | .placeTask => []
  | .loadingComplete _ => []
  | .resumeSavedTask => []
  | .restoreContext _ => []
  | .saveContext _ => []
  | .drain _ => []
  | .deferredSupervisorWrite _ => []
  | .orreryPreempt => []
  | .replayStart _ => []
  | .nodeReady _ _ => []
  | .nodeComplete _ _ => []
  | .taskReplay _ => []
  | .eventUpdate _ => []
  | .registerGraph => []
  | .destroyGraph => []
  | .createEvent => []
  | .destroyEvent => []
  | .launch => []
  | .bindCompletionEvent => []
  | .commandRingConfigWrite _ _ => []
  | .remoteRequest _ => []
  | .remoteResponse _ => []
  | .ownerBusyResend _ => []
  | .standaloneAck _ _ => []
  | .acknowledgement _ => []
  | .retireAll _ => []
  | .storeCommit _ => []
  | .wcBufferIssue _ => []
  | .walkComplete _ => []
  | .uncorrectableError _ => []
  | .regionRetirement _ => []
  | .flitRetry _ _ => []
  | .linkFence _ => []
  | .diectlFence _ _ => []
  | .diectlRejoin _ _ => []
  | .llcpinWrite _ _ => []
  | .chunkSend _ => []
  | .chunkArrival _ => []
  | .creditReturn _ => []
  | .flush _ => []
  | .collectiveWatchdog _ => []
  | .packetArrival _ => []
  | .transportAck _ _ _ => []
  | .retransmitTimeout _ _ => []
  | .routeLost _ _ _ => []
  | .codewordReplay _ _ => []
  | .portDown _ => []
  | .prep _ _ => []
  | .enable _ _ => []
  | .portDrained _ => []
  | .trainingComplete _ _ _ => []
  | .laneRemap _ => []
  | .telemetryLatch => []
  | .hostWrite _ _ _ _ _ => []
  | .hostRead _ _ _ _ => []
  | .hostAtomic _ _ _ _ _ => []
  | .hostCompletionTimeout _ => []
  | .boot => []
  | .loadHandlerSlot _ => []
  | .writeAsidEntry _ => []
  | .writeAccessRight _ => []
  | .fenceDieCall _ => []
  | .rejoinDieCall _ => []
  | .writeLlcpin _ => []
  | .retireHbmRegion _ => []
  | .setMasterClass _ => []
  | .dvfsWrite _ _ _ => []
  | .powerCapStep _ _ => []
  | .counterCtlWrite _ _ => []
  | .registerWrite _ _ _ => []
  | .illegalInstruction _ => []
  | .writeLands _ => []
  | .progressPointReached _ _ => []
  | .subarrayWake _ => []
  | .sendStagingReady _ => []
  | .directoryEviction _ => []
  | .patrolScrub _ _ => []
  | .dieRejoinComplete _ => []
  | .packageReset => []

/-- The operand values a word of the instruction set isa may hold. -/
def Instr.fieldsOk (isa : Isa) (i : Instr) : Bool :=
  match i with
  | .nop => true
  | .add _ _ _ => true
  | .sub _ _ _ => true
  | .and _ _ _ => true
  | .or _ _ _ => true
  | .xor _ _ _ => true
  | .shl _ _ _ => true
  | .shr _ _ _ => true
  | .sra _ _ _ => true
  | .slt _ _ _ => true
  | .sltu _ _ _ => true
  | .mul _ _ _ => true
  | .mulh _ _ _ => true
  | .mulhu _ _ _ => true
  | .div _ _ _ => true
  | .divu _ _ _ => true
  | .rem _ _ _ => true
  | .remu _ _ _ => true
  | .min _ _ _ => true
  | .max _ _ _ => true
  | .minu _ _ _ => true
  | .maxu _ _ _ => true
  | .clz _ _ => true
  | .ctz _ _ => true
  | .popc _ _ => true
  | .addi _ _ _ => true
  | .andi _ _ _ => true
  | .ori _ _ _ => true
  | .xori _ _ _ => true
  | .slti _ _ _ => true
  | .sltiu _ _ _ => true
  | .shli _ _ _ => true
  | .shri _ _ _ => true
  | .srai _ _ _ => true
  | .muli _ _ _ => true
  | .lui _ _ => true
  | .addpc _ _ => true
  | .lds _ _ _ _ => true
  | .sts _ _ _ _ => true
  | .ldg _ _ _ _ => true
  | .stg _ _ _ _ => true
  | .ldsZ _ _ z => decide (z.toNat ≤ 2)
  | .ldgZ _ _ z => decide (z.toNat ≤ 2)
  | .ldgAcq _ _ c _ => scopeOk c
  | .ldgAcqZ _ _ c z => decide (z.toNat ≤ 2) && scopeOk c
  | .stgRel _ _ c _ => scopeOk c
  | .amo _ _ _ _ c => scopeOk c
  | .red _ _ _ c => scopeOk c
  | .amoq d _ b _ c => scopeOk c && even d && even b
  | .crr _ _ => true
  | .crw _ _ => true
  | .time _ => true
  | .trap _ => true
  | .beq _ _ _ _ => true
  | .bne _ _ _ _ => true
  | .blt _ _ _ _ => true
  | .bge _ _ _ _ => true
  | .bltu _ _ _ _ => true
  | .bgeu _ _ _ _ => true
  | .jump _ _ => true
  | .jal _ _ => true
  | .jalr _ _ _ => true
  | .fork v m c => !(decide (v = 0) && decide (m = 0) && decide (c = 0))
  | .join => true
  | .sEnd => true
  | .rett => true
  | .ccreate _ _ => true
  | .cjoin _ _ => true
  | .cleave _ => true
  | .bar _ => true
  | .glaunch _ _ _ => true
  | .rdr _ _ _ => true
  | .wrr _ _ _ => true
  | .resume _ _ _ => true
  | .preempt _ _ => true
  | .teardown _ _ => true
  | .tlbi _ _ _ => true
  | .cresume _ _ => true
  | .cabort _ _ => true
  | .rinit o x => ringOk o && regOk isa x
  | .rclaim o x n => ringOk o && regOk isa x && decide (1 ≤ n.toNat)
  | .rpub o x n => ringOk o && regOk isa x && decide (1 ≤ n.toNat)
  | .rwfill o x n => ringOk o && regOk isa x && decide (1 ≤ n.toNat)
  | .rwfree o x n => ringOk o && regOk isa x && decide (1 ≤ n.toNat)
  | .rcons o n => ringOk o && decide (1 ≤ n.toNat)
  | .rread o x _ => ringOk o && regOk isa x
  | .raddr o x => ringOk o && regOk isa x
  | .wmwait o x => chanOk o && regOk isa x
  | .wmarm o x _ => chanOk o && regOk isa x && even x
  | .wmread o x => chanOk o && regOk isa x
  | .wmidle o => chanOk o
  | .evsig x n => regOk isa x && decide (1 ≤ n.toNat)
  | .evsigr x => regOk isa x && even x
  | .evwait x => regOk isa x && even x
  | .evread x => regOk isa x && even x
  | .evset x => regOk isa x && even x
  | .evsetC x => regOk isa x && even x
  | .fenceX s d c => scopeOk c && fencePaths isa s d
  | .fenceXu s d c => scopeOk c && fencePaths isa s d
  | .sset o x _ => chanOk o && regOk isa x
  | .sget o x _ => chanOk o && regOk isa x
  | .sbind o d => chanOk o && decide (1 ≤ d.toNat) && decide (d.toNat ≤ 2)
  | .sunbind o => chanOk o
  | .ccomm x => regOk isa x
  | .cstart x => regOk isa x
  | .cfree x => regOk isa x
  | .vadd _ _ _ _ _ => true
  | .vsub _ _ _ _ _ => true
  | .vmul _ _ _ _ _ => true
  | .vmin _ _ _ _ _ => true
  | .vmax _ _ _ _ _ => true
  | .vand _ _ _ _ _ => true
  | .vor _ _ _ _ _ => true
  | .vxor _ _ _ _ _ => true
  | .vshl _ _ _ _ _ => true
  | .vshr _ _ _ _ _ => true
  | .vsra _ _ _ _ _ => true
  | .vaddi _ _ _ _ => true
  | .vshli _ _ _ _ => true
  | .vshri _ _ _ _ => true
  | .vsrai _ _ _ _ => true
  | .vbr c _ _ => decide (c.toNat ≤ 5)
  | .vectorEnd => true
  | .vfadd _ _ _ _ _ => true
  | .vfsub _ _ _ _ _ => true
  | .vfmul _ _ _ _ _ => true
  | .vfma _ _ _ _ _ => true
  | .vfmin _ _ _ _ _ => true
  | .vfmax _ _ _ _ _ => true
  | .vfcmp _ c _ _ _ _ => decide (c.toNat ≤ 7)
  | .vicmp _ c _ _ _ _ => decide (c.toNat ≤ 5)
  | .vdadd _ _ _ _ _ => true
  | .vdsub _ _ _ _ _ => true
  | .vdmul _ _ _ _ _ => true
  | .vdfma _ _ _ _ _ => true
  | .vdmin _ _ _ _ _ => true
  | .vdmax _ _ _ _ _ => true
  | .vdcmp _ c _ _ _ _ => decide (c.toNat ≤ 7)
  | .vsel _ _ _ _ _ => true
  | .vdot _ _ _ _ _ => true
  | .vlmul _ _ _ _ _ => true
  | .vldiv _ _ _ _ _ => true
  | .vlpow _ _ _ => true
  | .vperm _ _ _ _ _ => true
  | .vcmpx _ _ _ _ b j => decide (j.toNat ≤ 6) && decide (b.toNat ≤ 7) && decide (j.toNat < b.toNat)
  | .vcmpxPayload _ _ _ _ _ b j => decide (j.toNat ≤ 6) && decide (b.toNat ≤ 7) && decide (j.toNat < b.toNat)
  | .vbcast _ _ _ => true
  | .vbcastD _ _ _ => true
  | .vextr _ _ _ _ => true
  | .vextrD _ _ _ l => even l
  | .vlds _ _ _ w _ => decide (w.toNat ≤ 5)
  | .vsts _ _ _ w _ => decide (w.toNat ≠ 6)
  | .vldg _ _ _ w _ => decide (w.toNat ≤ 5)
  | .vstg _ _ _ w _ => decide (w.toNat ≠ 6)
  | .vslr _ _ _ w _ _ => decide (w.toNat ≤ 5)
  | .vslw _ _ _ w _ _ => decide (w.toNat ≠ 6)
  | .vcvt _ _ _ t s _ => cvtPair t s
  | .vcvtSr _ _ _ t s r => cvtPair t s && decide (r.toNat ≤ 1)
  | .vgaths _ _ _ _ w _ => decide (w.toNat ≤ 5)
  | .vscats _ _ _ _ w _ => decide (w.toNat ≠ 6)
  | .vgathg _ _ _ _ w _ => decide (w.toNat ≤ 5)
  | .vscatg _ _ _ _ w _ => decide (w.toNat ≠ 6)
  | .vldsr _ _ _ _ w _ => decide (w.toNat ≤ 5)
  | .vstsr _ _ _ _ w _ => decide (w.toNat ≠ 6)
  | .vldgr _ _ _ _ w _ => decide (w.toNat ≤ 5)
  | .vstgr _ _ _ _ w _ => decide (w.toNat ≠ 6)
  | .waitc _ c _ => decide (c.toNat ≤ 5)
  | .vamo d _ _ _ _ => decide (d.toNat < 120)
  | .rep _ _ _ _ _ => true
  | .vmov _ _ _ _ => true
  | .vnot _ _ _ _ => true
  | .viabs _ _ _ _ => true
  | .vineg _ _ _ _ => true
  | .vfneg _ _ _ _ => true
  | .vfabs _ _ _ _ => true
  | .vdneg _ _ _ _ => true
  | .vdabs _ _ _ _ => true
  | .vclz _ _ _ _ => true
  | .vpopc _ _ _ _ => true
  | .vtolog _ _ _ _ => true
  | .vfromlog _ _ _ _ => true
  | .vexp2l _ _ _ _ => true
  | .vlog2f _ _ _ _ => true
  | .mand _ _ _ _ => true
  | .mor _ _ _ _ => true
  | .mxor _ _ _ _ => true
  | .mandn _ _ _ _ => true
  | .mnot _ _ _ => true
  | .mmov _ _ _ => true
  | .mpopc _ _ _ => true
  | .vrsum _ _ _ _ => true
  | .vrmin _ _ _ _ => true
  | .vrmax _ _ _ _ => true
  | .vrfsum _ _ _ _ => true
  | .vrfmin _ _ _ _ => true
  | .vrfmax _ _ _ _ => true
  | .vrdsum _ _ _ _ => true
  | .vrdmin _ _ _ _ => true
  | .vrdmax _ _ _ _ => true
  | .kmov _ _ _ => true
  | .kadd _ _ _ => true
  | .ksub _ _ _ => true
  | .vpackE3m2 _ s _ _ => decide (s.toNat ≤ 4)
  | .vunpkE3m2 _ s _ _ => decide (s.toNat ≤ 4)
  | .vpack _ w s _ _ => decide (s.toNat < 2 ^ (w.toNat + 1))
  | .vunpk _ w s _ _ => decide (s.toNat < 2 ^ (w.toNat + 1))
  | .mma _ a b _ _ _ => matStream a && matStream b
  | .mmas _ a b _ _ _ _ => matStream a && matStream b
  | .sbp _ a b _ _ _ => matStream a && matStream b
  | .ephb b _ => matStream b
  | .ephl b _ => matStream b
  | .ephs b _ => matStream b
  | .mzero _ _ => true
  | .fft2 a b _ s _ => matStream a && matStream b && decide (s.toNat ≠ 3)
  | .fft3 a b _ s _ => matStream a && matStream b && decide (s.toNat ≠ 3)
  | .fft4 a b _ s _ => matStream a && matStream b && decide (s.toNat ≠ 3)
  | .fft5 a b _ s _ => matStream a && matStream b && decide (s.toNat ≠ 3)
  | .leg _ a b _ _ _ _ => matStream a && matStream b
  | .legi a b _ => matStream a && matStream b
  | .macq _ => true
  | .mrel _ => true
  | .nadd _ _ _ => true
  | .nsub _ _ _ => true
  | .nand _ _ _ => true
  | .nor _ _ _ => true
  | .nxor _ _ _ => true
  | .nshl _ _ _ => true
  | .nshr _ _ _ => true
  | .nsra _ _ _ => true
  | .nmul _ _ _ => true
  | .nmin _ _ _ => true
  | .nmax _ _ _ => true
  | .nminu _ _ _ => true
  | .nmaxu _ _ _ => true
  | .naddi _ _ _ => true
  | .nseth _ _ _ _ => true
  | .nget _ s => decide (s.toNat ≤ 4)
  | .mbr c _ _ => decide (c.toNat ≤ 5)
  | .matrixEnd => true
  | .mwake => true
  | .cadd _ _ _ => true
  | .csub _ _ _ => true
  | .cand _ _ _ => true
  | .cor _ _ _ => true
  | .cxor _ _ _ => true
  | .cshl _ _ _ => true
  | .cshr _ _ _ => true
  | .csra _ _ _ => true
  | .cmul _ _ _ => true
  | .cmin _ _ _ => true
  | .cmax _ _ _ => true
  | .cminu _ _ _ => true
  | .cmaxu _ _ _ => true
  | .caddi _ _ _ => true
  | .cseth _ _ _ => true
  | .copy h _ _ _ n k t _ => chField h k && ntOk n t
  | .copy2d h _ _ b n k t _ => chField h k && ntOk n t && even b
  | .cgath h _ _ b _ n k t _ => chField h k && ntOk n t && even b
  | .cscat _ _ b _ n t _ => ntOk n t && even b
  | .fill h _ _ _ n k t => chField h k && ntOk n t
  | .pref _ _ => true
  | .clds _ _ _ => true
  | .cldg _ _ _ => true
  | .cbr c _ _ => decide (c.toNat ≤ 5)
  | .copyEnd => true
  | .collNop => true
  | .send _ _ _ _ _ _ _ => true
  | .recv _ _ _ _ _ _ => true
  | .rrs _ _ _ _ _ _ _ => true
  | .rrf _ _ _ _ _ _ => true
  | .collCopy _ _ _ _ _ => true
  | .bcast _ _ => true
  | .xpose _ => true
  | .wait _ n => decide (1 ≤ n.toNat)
  | .signal _ n => decide (1 ≤ n.toNat)
  | .loop _ _ => true
  | .endl _ => true
  | .hnop => true
  | .hld _ _ _ => true
  | .hst _ _ _ => true
  | .hli _ _ => true
  | .hlis _ _ => true
  | .hadd _ _ _ _ => true
  | .hsub _ _ _ => true
  | .hand _ _ _ => true
  | .hor _ _ _ => true
  | .hxor _ _ _ => true
  | .hshf _ _ _ _ => true
  | .hfadd _ _ _ _ => true
  | .hcmp _ _ _ c => decide (c.toNat ≤ 5)
  | .hsel _ _ _ => true
  | .hbr c _ i => decide (c.toNat ≤ 2) && decide (1 ≤ i.toNat)
  | .hret _ => true
  | .hfail _ => true
  | .blockLimit t _ => decide (t.toNat < 288)
  | .unsettledLimit p => progOk p
  | .clockGate t _ => decide (t.toNat < 288)
  | .idleEngineWake t _ => decide (t.toNat < 288)
  | .subarrayGate t _ => decide (t.toNat < 288)
  | .datapathComplete t => decide (t.toNat < 288)
  | .transferComplete t => decide (t.toNat < 288)
  | .vectorAccessComplete _ _ _ => true
  | .loadComplete _ _ => true
  | .streamFetch h _ => handleOk h
  | .streamStore h _ => handleOk h
  | .timerExpiry p => progOk p
  | .timerInterrupt p => progOk p
  | .tcmpWrite p _ => progOk p
  | .rctlWrite h _ => handleOk h
  | .rngWrite h _ => handleOk h
  | .deferredFaultDelivery h => handleOk h
  | .watchdog h _ => handleOk h
  | .faultRecordWrite _ => true
  | .faultQueueInterrupt _ => true
  | .fqheadWrite _ _ => true
  | .faultQueueConfigWrite _ _ _ => true
  | .supervisorFaultTrap _ _ _ => true
  | .supervisorRestart _ => true
  | .placeTask => true
  | .loadingComplete h => handleOk h
  | .resumeSavedTask => true
  | .restoreContext h => handleOk h
  | .saveContext h => handleOk h
  | .drain h => handleOk h
  | .deferredSupervisorWrite h => handleOk h
  | .orreryPreempt => true
  | .replayStart _ => true
  | .nodeReady _ _ => true
  | .nodeComplete _ _ => true
  | .taskReplay _ => true
  | .eventUpdate _ => true
  | .registerGraph => true
  | .destroyGraph => true
  | .createEvent => true
  | .destroyEvent => true
  | .launch => true
  | .bindCompletionEvent => true
  | .commandRingConfigWrite _ _ => true
  | .remoteRequest _ => true
  | .remoteResponse _ => true
  | .ownerBusyResend _ => true
  | .standaloneAck h _ => handleOk h
  | .acknowledgement _ => true
  | .retireAll _ => true
  | .storeCommit _ => true
  | .wcBufferIssue _ => true
  | .walkComplete _ => true
  | .uncorrectableError e => match e with | .data p _ _ _ => progOk p | _ => true
  | .regionRetirement _ => true
  | .flitRetry link _ => decide (link.toNat < 224)
  | .linkFence link => decide (link.toNat < 224)
  | .diectlFence _ _ => true
  | .diectlRejoin _ _ => true
  | .llcpinWrite _ _ => true
  | .chunkSend _ => true
  | .chunkArrival _ => true
  | .creditReturn _ => true
  | .flush _ => true
  | .collectiveWatchdog _ => true
  | .packetArrival _ => true
  | .transportAck _ _ _ => true
  | .retransmitTimeout _ _ => true
  | .routeLost _ _ _ => true
  | .codewordReplay _ _ => true
  | .portDown _ => true
  | .prep _ _ => true
  | .enable _ _ => true
  | .portDrained _ => true
  | .trainingComplete _ _ _ => true
  | .laneRemap _ => true
  | .telemetryLatch => true
  | .hostWrite _ bar0 pa bytes _ => decide (pa.toNat + bytes.length ≤ if bar0 then 2 ^ 24 else 2 ^ 40)
  | .hostRead _ bar0 pa n => decide (pa.toNat + n ≤ if bar0 then 2 ^ 24 else 2 ^ 40)
  | .hostAtomic _ _ h _ _ => [0, 1, 15, 16, 17, 18, 19].contains h.toNat
  | .hostCompletionTimeout _ => true
  | .boot => true
  | .loadHandlerSlot _ => true
  | .writeAsidEntry _ => true
  | .writeAccessRight _ => true
  | .fenceDieCall _ => true
  | .rejoinDieCall _ => true
  | .writeLlcpin _ => true
  | .retireHbmRegion _ => true
  | .setMasterClass _ => true
  | .dvfsWrite _ _ _ => true
  | .powerCapStep _ _ => true
  | .counterCtlWrite _ _ => true
  | .registerWrite _ _ _ => true
  | .illegalInstruction _ => true
  | .writeLands h => handleOk h
  | .progressPointReached t _ => decide (t.toNat < 288)
  | .subarrayWake t => decide (t.toNat < 288)
  | .sendStagingReady _ => true
  | .directoryEviction _ => true
  | .patrolScrub _ err => decide (err.toNat < 3)
  | .dieRejoinComplete _ => true
  | .packageReset => true

/-- A well-formed instruction of the instruction set isa: one of its instructions, with legal operands. -/
def Instr.wf (isa : Isa) (i : Instr) : Bool := i.isas.contains isa && i.fieldsOk isa

/-- A well-formed event: an event row of the table whose operands name things that exist. -/
def Instr.eventWf (i : Instr) : Bool := i.isas.isEmpty && i.fieldsOk .scalar

end Sys2Proof
end

