-- ==== Sys2Proof/Decode.lean ====
section
/-!
DEFINITION. Decoding of words and bytes, total and rejecting by name, and the encoder (R85 to R111, opcode maps and
function tables of the engine chapters). Each engine decodes its own words; a collective step word has 64 bits.
-/

namespace Sys2Proof

/-- Why a word is refused (R86): the four kinds of illegal word, and too few bytes. -/
inductive DecodeError where
  | unassignedOpcode | unassignedFunction | reservedField | illegalOperand | truncated
deriving DecidableEq, Repr

/-- Bits lo to lo+n-1 of a word. -/
def fld (w : BitVec 32) (lo n : Nat) : BitVec n := w.extractLsb' lo n

/-- A field placed at bit lo of a word. -/
def put {n : Nat} (x : BitVec n) (lo : Nat) : BitVec 32 := x.setWidth 32 <<< lo

/-- A reserved field must be zero (R86). -/
def reserved (w : BitVec 32) (lo n : Nat) (k : Except DecodeError Instr) : Except DecodeError Instr :=
  if fld w lo n = 0 then k else .error .reservedField

/-- Function codes of scalar opcode 0x01. -/
def decodeScalarOp01 (w : BitVec 32) : Except DecodeError Instr :=
  match (fld w 0 8).toNat with
  | 0x00 => .ok (.add (fld w 20 6) (fld w 14 6) (fld w 8 6))
  | 0x01 => .ok (.sub (fld w 20 6) (fld w 14 6) (fld w 8 6))
  | 0x02 => .ok (.and (fld w 20 6) (fld w 14 6) (fld w 8 6))
  | 0x03 => .ok (.or (fld w 20 6) (fld w 14 6) (fld w 8 6))
  | 0x04 => .ok (.xor (fld w 20 6) (fld w 14 6) (fld w 8 6))
  | 0x05 => .ok (.shl (fld w 20 6) (fld w 14 6) (fld w 8 6))
  | 0x06 => .ok (.shr (fld w 20 6) (fld w 14 6) (fld w 8 6))
  | 0x07 => .ok (.sra (fld w 20 6) (fld w 14 6) (fld w 8 6))
  | 0x08 => .ok (.slt (fld w 20 6) (fld w 14 6) (fld w 8 6))
  | 0x09 => .ok (.sltu (fld w 20 6) (fld w 14 6) (fld w 8 6))
  | 0x0A => .ok (.mul (fld w 20 6) (fld w 14 6) (fld w 8 6))
  | 0x0B => .ok (.mulh (fld w 20 6) (fld w 14 6) (fld w 8 6))
  | 0x0C => .ok (.mulhu (fld w 20 6) (fld w 14 6) (fld w 8 6))
  | 0x0D => .ok (.div (fld w 20 6) (fld w 14 6) (fld w 8 6))
  | 0x0E => .ok (.divu (fld w 20 6) (fld w 14 6) (fld w 8 6))
  | 0x0F => .ok (.rem (fld w 20 6) (fld w 14 6) (fld w 8 6))
  | 0x10 => .ok (.remu (fld w 20 6) (fld w 14 6) (fld w 8 6))
  | 0x11 => .ok (.min (fld w 20 6) (fld w 14 6) (fld w 8 6))
  | 0x12 => .ok (.max (fld w 20 6) (fld w 14 6) (fld w 8 6))
  | 0x13 => .ok (.minu (fld w 20 6) (fld w 14 6) (fld w 8 6))
  | 0x14 => .ok (.maxu (fld w 20 6) (fld w 14 6) (fld w 8 6))
  | 0x15 => reserved w 8 6 (.ok (.clz (fld w 20 6) (fld w 14 6)))
  | 0x16 => reserved w 8 6 (.ok (.ctz (fld w 20 6) (fld w 14 6)))
  | 0x17 => reserved w 8 6 (.ok (.popc (fld w 20 6) (fld w 14 6)))
  | _ => .error .unassignedFunction

/-- Function codes of scalar opcode 0x20. -/
def decodeScalarOp20 (w : BitVec 32) : Except DecodeError Instr :=
  match (fld w 2 3).toNat with
  | 0x00 => reserved w 5 9 (.ok (.ldsZ (fld w 20 6) (fld w 14 6) (fld w 0 2)))
  | 0x01 => reserved w 5 9 (.ok (.ldgZ (fld w 20 6) (fld w 14 6) (fld w 0 2)))
  | 0x02 => reserved w 8 6 (.ok (.ldgAcq (fld w 20 6) (fld w 14 6) (fld w 5 3) (fld w 0 2)))
  | 0x03 => reserved w 8 6 (.ok (.ldgAcqZ (fld w 20 6) (fld w 14 6) (fld w 5 3) (fld w 0 2)))
  | 0x04 => reserved w 8 6 (.ok (.stgRel (fld w 20 6) (fld w 14 6) (fld w 5 3) (fld w 0 2)))
  | _ => .error .unassignedFunction

/-- Function codes of scalar opcode 0x35. -/
def decodeScalarOp35 (w : BitVec 32) : Except DecodeError Instr :=
  match (fld w 0 8).toNat with
  | 0x00 => reserved w 8 6 (.ok (.ccreate (fld w 20 6) (fld w 14 6)))
  | 0x01 => reserved w 8 6 (.ok (.cjoin (fld w 20 6) (fld w 14 6)))
  | 0x02 => reserved w 8 6 (reserved w 20 6 (.ok (.cleave (fld w 14 6))))
  | 0x03 => reserved w 8 6 (reserved w 20 6 (.ok (.bar (fld w 14 6))))
  | _ => .error .unassignedFunction

/-- Function codes of scalar opcode 0x36. -/
def decodeScalarOp36 (w : BitVec 32) : Except DecodeError Instr :=
  match (fld w 0 8).toNat with
  | 0x00 => .ok (.glaunch (fld w 20 6) (fld w 14 6) (fld w 8 6))
  | _ => .error .unassignedFunction

/-- Function codes of scalar opcode 0x37. -/
def decodeScalarOp37 (w : BitVec 32) : Except DecodeError Instr :=
  match (fld w 0 8).toNat with
  | 0x00 => .ok (.rdr (fld w 20 6) (fld w 14 6) (fld w 8 6))
  | 0x01 => .ok (.wrr (fld w 20 6) (fld w 14 6) (fld w 8 6))
  | 0x02 => .ok (.resume (fld w 20 6) (fld w 14 6) (fld w 8 6))
  | 0x03 => reserved w 8 6 (.ok (.preempt (fld w 20 6) (fld w 14 6)))
  | 0x04 => reserved w 8 6 (.ok (.teardown (fld w 20 6) (fld w 14 6)))
  | 0x05 => .ok (.tlbi (fld w 20 6) (fld w 14 6) (fld w 8 6))
  | 0x06 => reserved w 8 6 (.ok (.cresume (fld w 20 6) (fld w 14 6)))
  | 0x07 => reserved w 8 6 (.ok (.cabort (fld w 20 6) (fld w 14 6)))
  | _ => .error .unassignedFunction

/-- Function codes of scalar opcode 0x38. -/
def decodeScalarOp38 (w : BitVec 32) : Except DecodeError Instr :=
  match (fld w 22 4).toNat with
  | 0x00 => reserved w 0 10 (.ok (.rinit (fld w 16 6) (fld w 10 6)))
  | 0x01 => .ok (.rclaim (fld w 16 6) (fld w 10 6) (fld w 0 10))
  | 0x02 => .ok (.rpub (fld w 16 6) (fld w 10 6) (fld w 0 10))
  | 0x03 => .ok (.rwfill (fld w 16 6) (fld w 10 6) (fld w 0 10))
  | 0x04 => .ok (.rwfree (fld w 16 6) (fld w 10 6) (fld w 0 10))
  | 0x05 => reserved w 10 6 (.ok (.rcons (fld w 16 6) (fld w 0 10)))
  | 0x06 => reserved w 2 8 (.ok (.rread (fld w 16 6) (fld w 10 6) (fld w 0 2)))
  | 0x07 => reserved w 0 10 (.ok (.raddr (fld w 16 6) (fld w 10 6)))
  | _ => .error .unassignedFunction

/-- Function codes of scalar opcode 0x39. -/
def decodeScalarOp39 (w : BitVec 32) : Except DecodeError Instr :=
  match (fld w 22 4).toNat with
  | 0x00 => reserved w 0 10 (.ok (.wmwait (fld w 16 6) (fld w 10 6)))
  | 0x01 => reserved w 1 9 (.ok (.wmarm (fld w 16 6) (fld w 10 6) (fld w 0 1)))
  | 0x02 => reserved w 0 10 (.ok (.wmread (fld w 16 6) (fld w 10 6)))
  | 0x03 => reserved w 0 16 (.ok (.wmidle (fld w 16 6)))
  | _ => .error .unassignedFunction

/-- Function codes of scalar opcode 0x3A. -/
def decodeScalarOp3A (w : BitVec 32) : Except DecodeError Instr :=
  match (fld w 22 4).toNat with
  | 0x00 => reserved w 16 6 (.ok (.evsig (fld w 10 6) (fld w 0 10)))
  | 0x01 => reserved w 0 10 (reserved w 16 6 (.ok (.evsigr (fld w 10 6))))
  | 0x02 => reserved w 0 10 (reserved w 16 6 (.ok (.evwait (fld w 10 6))))
  | 0x03 => reserved w 0 10 (reserved w 16 6 (.ok (.evread (fld w 10 6))))
  | 0x04 => if fld w 0 1 = 1#1 then reserved w 1 9 (reserved w 16 6 (.ok (.evsetC (fld w 10 6)))) else reserved w 1 9 (reserved w 16 6 (.ok (.evset (fld w 10 6))))
  | _ => .error .unassignedFunction

/-- Function codes of scalar opcode 0x3B. -/
def decodeScalarOp3B (w : BitVec 32) : Except DecodeError Instr :=
  match (fld w 22 4).toNat with
  | 0x00 => reserved w 0 1 (reserved w 10 12 (.ok (.fenceX (fld w 7 3) (fld w 4 3) (fld w 1 3))))
  | 0x01 => reserved w 0 1 (reserved w 10 12 (.ok (.fenceXu (fld w 7 3) (fld w 4 3) (fld w 1 3))))
  | _ => .error .unassignedFunction

/-- Function codes of scalar opcode 0x3C. -/
def decodeScalarOp3C (w : BitVec 32) : Except DecodeError Instr :=
  match (fld w 22 4).toNat with
  | 0x00 => reserved w 3 7 (.ok (.sset (fld w 16 6) (fld w 10 6) (fld w 0 3)))
  | 0x01 => reserved w 3 7 (.ok (.sget (fld w 16 6) (fld w 10 6) (fld w 0 3)))
  | 0x02 => reserved w 2 14 (.ok (.sbind (fld w 16 6) (fld w 0 2)))
  | 0x03 => reserved w 0 16 (.ok (.sunbind (fld w 16 6)))
  | _ => .error .unassignedFunction

/-- Function codes of scalar opcode 0x3D. -/
def decodeScalarOp3D (w : BitVec 32) : Except DecodeError Instr :=
  match (fld w 22 4).toNat with
  | 0x00 => reserved w 0 10 (reserved w 16 6 (.ok (.ccomm (fld w 10 6))))
  | 0x01 => reserved w 0 10 (reserved w 16 6 (.ok (.cstart (fld w 10 6))))
  | 0x02 => reserved w 0 10 (reserved w 16 6 (.ok (.cfree (fld w 10 6))))
  | _ => .error .unassignedFunction

/-- The scalar opcode map. -/
def decodeScalar (w : BitVec 32) : Except DecodeError Instr :=
  match (fld w 26 6).toNat with
  | 0x00 => reserved w 0 26 (.ok (.nop))
  | 0x01 => decodeScalarOp01 w
  | 0x02 => .ok (.addi (fld w 20 6) (fld w 14 6) (fld w 0 14))
  | 0x03 => .ok (.andi (fld w 20 6) (fld w 14 6) (fld w 0 14))
  | 0x04 => .ok (.ori (fld w 20 6) (fld w 14 6) (fld w 0 14))
  | 0x05 => .ok (.xori (fld w 20 6) (fld w 14 6) (fld w 0 14))
  | 0x06 => .ok (.slti (fld w 20 6) (fld w 14 6) (fld w 0 14))
  | 0x07 => .ok (.sltiu (fld w 20 6) (fld w 14 6) (fld w 0 14))
  | 0x08 => reserved w 6 8 (.ok (.shli (fld w 20 6) (fld w 14 6) (fld w 0 6)))
  | 0x09 => reserved w 6 8 (.ok (.shri (fld w 20 6) (fld w 14 6) (fld w 0 6)))
  | 0x0A => reserved w 6 8 (.ok (.srai (fld w 20 6) (fld w 14 6) (fld w 0 6)))
  | 0x0B => .ok (.muli (fld w 20 6) (fld w 14 6) (fld w 0 14))
  | 0x0C => .ok (.lui (fld w 20 6) (fld w 0 20))
  | 0x0D => .ok (.addpc (fld w 20 6) (fld w 0 20))
  | 0x10 => .ok (.lds (fld w 26 2) (fld w 20 6) (fld w 14 6) (fld w 0 14))
  | 0x11 => .ok (.lds (fld w 26 2) (fld w 20 6) (fld w 14 6) (fld w 0 14))
  | 0x12 => .ok (.lds (fld w 26 2) (fld w 20 6) (fld w 14 6) (fld w 0 14))
  | 0x13 => .ok (.lds (fld w 26 2) (fld w 20 6) (fld w 14 6) (fld w 0 14))
  | 0x14 => .ok (.sts (fld w 26 2) (fld w 20 6) (fld w 14 6) (fld w 0 14))
  | 0x15 => .ok (.sts (fld w 26 2) (fld w 20 6) (fld w 14 6) (fld w 0 14))
  | 0x16 => .ok (.sts (fld w 26 2) (fld w 20 6) (fld w 14 6) (fld w 0 14))
  | 0x17 => .ok (.sts (fld w 26 2) (fld w 20 6) (fld w 14 6) (fld w 0 14))
  | 0x18 => .ok (.ldg (fld w 26 2) (fld w 20 6) (fld w 14 6) (fld w 0 14))
  | 0x19 => .ok (.ldg (fld w 26 2) (fld w 20 6) (fld w 14 6) (fld w 0 14))
  | 0x1A => .ok (.ldg (fld w 26 2) (fld w 20 6) (fld w 14 6) (fld w 0 14))
  | 0x1B => .ok (.ldg (fld w 26 2) (fld w 20 6) (fld w 14 6) (fld w 0 14))
  | 0x1C => .ok (.stg (fld w 26 2) (fld w 20 6) (fld w 14 6) (fld w 0 14))
  | 0x1D => .ok (.stg (fld w 26 2) (fld w 20 6) (fld w 14 6) (fld w 0 14))
  | 0x1E => .ok (.stg (fld w 26 2) (fld w 20 6) (fld w 14 6) (fld w 0 14))
  | 0x1F => .ok (.stg (fld w 26 2) (fld w 20 6) (fld w 14 6) (fld w 0 14))
  | 0x20 => decodeScalarOp20 w
  | 0x21 => .ok (.amo (fld w 20 6) (fld w 14 6) (fld w 8 6) (fld w 3 5) (fld w 0 3))
  | 0x22 => reserved w 20 6 (.ok (.red (fld w 14 6) (fld w 8 6) (fld w 3 5) (fld w 0 3)))
  | 0x23 => .ok (.amoq (fld w 20 6) (fld w 14 6) (fld w 8 6) (fld w 3 5) (fld w 0 3))
  | 0x24 => reserved w 14 6 (.ok (.crr (fld w 20 6) (fld w 0 14)))
  | 0x25 => reserved w 20 6 (.ok (.crw (fld w 14 6) (fld w 0 14)))
  | 0x26 => reserved w 0 20 (.ok (.time (fld w 20 6)))
  | 0x27 => reserved w 8 18 (.ok (.trap (fld w 0 8)))
  | 0x28 => .ok (.beq (fld w 20 6) (fld w 14 6) (fld w 13 1) (fld w 0 13))
  | 0x29 => .ok (.bne (fld w 20 6) (fld w 14 6) (fld w 13 1) (fld w 0 13))
  | 0x2A => .ok (.blt (fld w 20 6) (fld w 14 6) (fld w 13 1) (fld w 0 13))
  | 0x2B => .ok (.bge (fld w 20 6) (fld w 14 6) (fld w 13 1) (fld w 0 13))
  | 0x2C => .ok (.bltu (fld w 20 6) (fld w 14 6) (fld w 13 1) (fld w 0 13))
  | 0x2D => .ok (.bgeu (fld w 20 6) (fld w 14 6) (fld w 13 1) (fld w 0 13))
  | 0x2E => .ok (.jump (fld w 25 1) (fld w 0 25))
  | 0x2F => .ok (.jal (fld w 25 1) (fld w 0 25))
  | 0x30 => .ok (.jalr (fld w 20 6) (fld w 14 6) (fld w 0 14))
  | 0x31 => reserved w 0 8 (.ok (.fork (fld w 20 6) (fld w 14 6) (fld w 8 6)))
  | 0x32 => reserved w 0 26 (.ok (.join))
  | 0x33 => reserved w 0 26 (.ok (.sEnd))
  | 0x34 => reserved w 0 26 (.ok (.rett))
  | 0x35 => decodeScalarOp35 w
  | 0x36 => decodeScalarOp36 w
  | 0x37 => decodeScalarOp37 w
  | 0x38 => decodeScalarOp38 w
  | 0x39 => decodeScalarOp39 w
  | 0x3A => decodeScalarOp3A w
  | 0x3B => decodeScalarOp3B w
  | 0x3C => decodeScalarOp3C w
  | 0x3D => decodeScalarOp3D w
  | _ => .error .unassignedOpcode

/-- Function codes of vector opcode 0x0D. -/
def decodeVectorOp0D (w : BitVec 32) : Except DecodeError Instr :=
  match (fld w 8 2).toNat with
  | 0x00 => reserved w 5 3 (.ok (.vshli (fld w 24 2) (fld w 17 7) (fld w 10 7) (fld w 0 5)))
  | 0x01 => reserved w 5 3 (.ok (.vshri (fld w 24 2) (fld w 17 7) (fld w 10 7) (fld w 0 5)))
  | 0x02 => reserved w 5 3 (.ok (.vsrai (fld w 24 2) (fld w 17 7) (fld w 10 7) (fld w 0 5)))
  | _ => .error .unassignedFunction

/-- Function codes of vector opcode 0x25. -/
def decodeVectorOp25 (w : BitVec 32) : Except DecodeError Instr :=
  match (fld w 9 1).toNat with
  | 0x00 => reserved w 10 7 (.ok (.vcmpx (fld w 24 2) (fld w 17 7) (fld w 8 1) (fld w 7 1) (fld w 3 4) (fld w 0 3)))
  | _ => .ok (.vcmpxPayload (fld w 24 2) (fld w 17 7) (fld w 10 7) (fld w 8 1) (fld w 7 1) (fld w 3 4) (fld w 0 3))

/-- Function codes of vector opcode 0x26. -/
def decodeVectorOp26 (w : BitVec 32) : Except DecodeError Instr :=
  match (fld w 9 3).toNat with
  | 0x00 => reserved w 0 9 (.ok (.vbcast (fld w 24 2) (fld w 17 7) (fld w 12 5)))
  | 0x01 => reserved w 0 9 (.ok (.vbcastD (fld w 24 2) (fld w 17 7) (fld w 12 5)))
  | _ => .error .unassignedFunction

/-- Function codes of vector opcode 0x27. -/
def decodeVectorOp27 (w : BitVec 32) : Except DecodeError Instr :=
  match (fld w 7 1).toNat with
  | 0x00 => reserved w 8 2 (reserved w 22 2 (.ok (.vextr (fld w 24 2) (fld w 17 5) (fld w 10 7) (fld w 0 7))))
  | _ => reserved w 8 2 (reserved w 22 2 (.ok (.vextrD (fld w 24 2) (fld w 17 5) (fld w 10 7) (fld w 0 7))))

/-- Function codes of vector opcode 0x38. -/
def decodeVectorOp38 (w : BitVec 32) : Except DecodeError Instr :=
  match (fld w 22 4).toNat with
  | 0x00 => reserved w 0 10 (.ok (.rinit (fld w 16 6) (fld w 10 6)))
  | 0x01 => .ok (.rclaim (fld w 16 6) (fld w 10 6) (fld w 0 10))
  | 0x02 => .ok (.rpub (fld w 16 6) (fld w 10 6) (fld w 0 10))
  | 0x03 => .ok (.rwfill (fld w 16 6) (fld w 10 6) (fld w 0 10))
  | 0x04 => .ok (.rwfree (fld w 16 6) (fld w 10 6) (fld w 0 10))
  | 0x05 => reserved w 10 6 (.ok (.rcons (fld w 16 6) (fld w 0 10)))
  | 0x06 => reserved w 2 8 (.ok (.rread (fld w 16 6) (fld w 10 6) (fld w 0 2)))
  | 0x07 => reserved w 0 10 (.ok (.raddr (fld w 16 6) (fld w 10 6)))
  | _ => .error .unassignedFunction

/-- Function codes of vector opcode 0x39. -/
def decodeVectorOp39 (w : BitVec 32) : Except DecodeError Instr :=
  match (fld w 22 4).toNat with
  | 0x00 => reserved w 0 10 (.ok (.wmwait (fld w 16 6) (fld w 10 6)))
  | 0x01 => reserved w 1 9 (.ok (.wmarm (fld w 16 6) (fld w 10 6) (fld w 0 1)))
  | 0x02 => reserved w 0 10 (.ok (.wmread (fld w 16 6) (fld w 10 6)))
  | 0x03 => reserved w 0 16 (.ok (.wmidle (fld w 16 6)))
  | _ => .error .unassignedFunction

/-- Function codes of vector opcode 0x3A. -/
def decodeVectorOp3A (w : BitVec 32) : Except DecodeError Instr :=
  match (fld w 22 4).toNat with
  | 0x00 => reserved w 16 6 (.ok (.evsig (fld w 10 6) (fld w 0 10)))
  | 0x01 => reserved w 0 10 (reserved w 16 6 (.ok (.evsigr (fld w 10 6))))
  | 0x02 => reserved w 0 10 (reserved w 16 6 (.ok (.evwait (fld w 10 6))))
  | 0x03 => reserved w 0 10 (reserved w 16 6 (.ok (.evread (fld w 10 6))))
  | 0x04 => if fld w 0 1 = 1#1 then reserved w 1 9 (reserved w 16 6 (.ok (.evsetC (fld w 10 6)))) else reserved w 1 9 (reserved w 16 6 (.ok (.evset (fld w 10 6))))
  | _ => .error .unassignedFunction

/-- Function codes of vector opcode 0x3B. -/
def decodeVectorOp3B (w : BitVec 32) : Except DecodeError Instr :=
  match (fld w 22 4).toNat with
  | 0x00 => reserved w 0 1 (reserved w 10 12 (.ok (.fenceX (fld w 7 3) (fld w 4 3) (fld w 1 3))))
  | 0x01 => reserved w 0 1 (reserved w 10 12 (.ok (.fenceXu (fld w 7 3) (fld w 4 3) (fld w 1 3))))
  | _ => .error .unassignedFunction

/-- Function codes of vector opcode 0x3F. -/
def decodeVectorOp3F (w : BitVec 32) : Except DecodeError Instr :=
  if fld w 22 2 = 2#2 then reserved w 0 2 (.ok (.vpack (fld w 24 2) (fld w 20 2) (fld w 16 4) (fld w 9 7) (fld w 2 7)))
  else if fld w 22 2 = 3#2 then reserved w 0 2 (.ok (.vunpk (fld w 24 2) (fld w 20 2) (fld w 16 4) (fld w 9 7) (fld w 2 7)))
  else if fld w 19 5 = 0x0C#5 then reserved w 0 2 (.ok (.vpackE3m2 (fld w 24 2) (fld w 16 3) (fld w 9 7) (fld w 2 7)))
  else if fld w 19 5 = 0x0D#5 then reserved w 0 2 (.ok (.vunpkE3m2 (fld w 24 2) (fld w 16 3) (fld w 9 7) (fld w 2 7)))
  else
  match (fld w 16 8).toNat with
  | 0x00 => .ok (.vmov (fld w 24 2) (fld w 9 7) (fld w 2 7) (fld w 0 2))
  | 0x01 => .ok (.vnot (fld w 24 2) (fld w 9 7) (fld w 2 7) (fld w 0 2))
  | 0x02 => .ok (.viabs (fld w 24 2) (fld w 9 7) (fld w 2 7) (fld w 0 2))
  | 0x03 => .ok (.vineg (fld w 24 2) (fld w 9 7) (fld w 2 7) (fld w 0 2))
  | 0x04 => .ok (.vfneg (fld w 24 2) (fld w 9 7) (fld w 2 7) (fld w 0 2))
  | 0x05 => .ok (.vfabs (fld w 24 2) (fld w 9 7) (fld w 2 7) (fld w 0 2))
  | 0x06 => .ok (.vdneg (fld w 24 2) (fld w 9 7) (fld w 2 7) (fld w 0 2))
  | 0x07 => .ok (.vdabs (fld w 24 2) (fld w 9 7) (fld w 2 7) (fld w 0 2))
  | 0x08 => .ok (.vclz (fld w 24 2) (fld w 9 7) (fld w 2 7) (fld w 0 2))
  | 0x09 => .ok (.vpopc (fld w 24 2) (fld w 9 7) (fld w 2 7) (fld w 0 2))
  | 0x10 => .ok (.vtolog (fld w 24 2) (fld w 9 7) (fld w 2 7) (fld w 0 2))
  | 0x11 => .ok (.vfromlog (fld w 24 2) (fld w 9 7) (fld w 2 7) (fld w 0 2))
  | 0x12 => .ok (.vexp2l (fld w 24 2) (fld w 9 7) (fld w 2 7) (fld w 0 2))
  | 0x13 => .ok (.vlog2f (fld w 24 2) (fld w 9 7) (fld w 2 7) (fld w 0 2))
  | 0x20 => reserved w 0 2 (reserved w 8 1 (reserved w 12 4 (.ok (.mand (fld w 24 2) (fld w 9 3) (fld w 5 3) (fld w 2 3)))))
  | 0x21 => reserved w 0 2 (reserved w 8 1 (reserved w 12 4 (.ok (.mor (fld w 24 2) (fld w 9 3) (fld w 5 3) (fld w 2 3)))))
  | 0x22 => reserved w 0 2 (reserved w 8 1 (reserved w 12 4 (.ok (.mxor (fld w 24 2) (fld w 9 3) (fld w 5 3) (fld w 2 3)))))
  | 0x23 => reserved w 0 2 (reserved w 8 1 (reserved w 12 4 (.ok (.mandn (fld w 24 2) (fld w 9 3) (fld w 5 3) (fld w 2 3)))))
  | 0x24 => reserved w 0 2 (reserved w 5 4 (reserved w 12 4 (.ok (.mnot (fld w 24 2) (fld w 9 3) (fld w 2 3)))))
  | 0x25 => reserved w 0 2 (reserved w 5 4 (reserved w 12 4 (.ok (.mmov (fld w 24 2) (fld w 9 3) (fld w 2 3)))))
  | 0x26 => reserved w 0 2 (reserved w 5 4 (reserved w 14 2 (.ok (.mpopc (fld w 24 2) (fld w 9 5) (fld w 2 3)))))
  | 0x30 => .ok (.vrsum (fld w 24 2) (fld w 9 7) (fld w 2 7) (fld w 0 2))
  | 0x31 => .ok (.vrmin (fld w 24 2) (fld w 9 7) (fld w 2 7) (fld w 0 2))
  | 0x32 => .ok (.vrmax (fld w 24 2) (fld w 9 7) (fld w 2 7) (fld w 0 2))
  | 0x34 => .ok (.vrfsum (fld w 24 2) (fld w 9 7) (fld w 2 7) (fld w 0 2))
  | 0x35 => .ok (.vrfmin (fld w 24 2) (fld w 9 7) (fld w 2 7) (fld w 0 2))
  | 0x36 => .ok (.vrfmax (fld w 24 2) (fld w 9 7) (fld w 2 7) (fld w 0 2))
  | 0x38 => .ok (.vrdsum (fld w 24 2) (fld w 9 7) (fld w 2 7) (fld w 0 2))
  | 0x39 => .ok (.vrdmin (fld w 24 2) (fld w 9 7) (fld w 2 7) (fld w 0 2))
  | 0x3A => .ok (.vrdmax (fld w 24 2) (fld w 9 7) (fld w 2 7) (fld w 0 2))
  | 0x40 => reserved w 0 2 (reserved w 7 2 (reserved w 14 2 (.ok (.kmov (fld w 24 2) (fld w 9 5) (fld w 2 5)))))
  | 0x41 => reserved w 0 2 (reserved w 7 2 (reserved w 14 2 (.ok (.kadd (fld w 24 2) (fld w 9 5) (fld w 2 5)))))
  | 0x42 => reserved w 0 2 (reserved w 7 2 (reserved w 14 2 (.ok (.ksub (fld w 24 2) (fld w 9 5) (fld w 2 5)))))
  | _ => .error .unassignedFunction

/-- The vector opcode map. -/
def decodeVector (w : BitVec 32) : Except DecodeError Instr :=
  match (fld w 26 6).toNat with
  | 0x00 => reserved w 0 26 (.ok (.nop))
  | 0x01 => .ok (.vadd (fld w 24 2) (fld w 17 7) (fld w 10 7) (fld w 3 7) (fld w 0 3))
  | 0x02 => .ok (.vsub (fld w 24 2) (fld w 17 7) (fld w 10 7) (fld w 3 7) (fld w 0 3))
  | 0x03 => .ok (.vmul (fld w 24 2) (fld w 17 7) (fld w 10 7) (fld w 3 7) (fld w 0 3))
  | 0x04 => .ok (.vmin (fld w 24 2) (fld w 17 7) (fld w 10 7) (fld w 3 7) (fld w 0 3))
  | 0x05 => .ok (.vmax (fld w 24 2) (fld w 17 7) (fld w 10 7) (fld w 3 7) (fld w 0 3))
  | 0x06 => .ok (.vand (fld w 24 2) (fld w 17 7) (fld w 10 7) (fld w 3 7) (fld w 0 3))
  | 0x07 => .ok (.vor (fld w 24 2) (fld w 17 7) (fld w 10 7) (fld w 3 7) (fld w 0 3))
  | 0x08 => .ok (.vxor (fld w 24 2) (fld w 17 7) (fld w 10 7) (fld w 3 7) (fld w 0 3))
  | 0x09 => .ok (.vshl (fld w 24 2) (fld w 17 7) (fld w 10 7) (fld w 3 7) (fld w 0 3))
  | 0x0A => .ok (.vshr (fld w 24 2) (fld w 17 7) (fld w 10 7) (fld w 3 7) (fld w 0 3))
  | 0x0B => .ok (.vsra (fld w 24 2) (fld w 17 7) (fld w 10 7) (fld w 3 7) (fld w 0 3))
  | 0x0C => .ok (.vaddi (fld w 24 2) (fld w 17 7) (fld w 10 7) (fld w 0 10))
  | 0x0D => decodeVectorOp0D w
  | 0x0E => .ok (.vbr (fld w 23 3) (fld w 18 5) (fld w 0 18))
  | 0x0F => reserved w 0 26 (.ok (.vectorEnd))
  | 0x10 => .ok (.vfadd (fld w 24 2) (fld w 17 7) (fld w 10 7) (fld w 3 7) (fld w 0 3))
  | 0x11 => .ok (.vfsub (fld w 24 2) (fld w 17 7) (fld w 10 7) (fld w 3 7) (fld w 0 3))
  | 0x12 => .ok (.vfmul (fld w 24 2) (fld w 17 7) (fld w 10 7) (fld w 3 7) (fld w 0 3))
  | 0x13 => .ok (.vfma (fld w 24 2) (fld w 17 7) (fld w 10 7) (fld w 3 7) (fld w 0 3))
  | 0x14 => .ok (.vfmin (fld w 24 2) (fld w 17 7) (fld w 10 7) (fld w 3 7) (fld w 0 3))
  | 0x15 => .ok (.vfmax (fld w 24 2) (fld w 17 7) (fld w 10 7) (fld w 3 7) (fld w 0 3))
  | 0x16 => .ok (.vfcmp (fld w 24 2) (fld w 20 4) (fld w 17 3) (fld w 10 7) (fld w 3 7) (fld w 0 3))
  | 0x17 => .ok (.vicmp (fld w 24 2) (fld w 20 4) (fld w 17 3) (fld w 10 7) (fld w 3 7) (fld w 0 3))
  | 0x18 => .ok (.vdadd (fld w 24 2) (fld w 17 7) (fld w 10 7) (fld w 3 7) (fld w 0 3))
  | 0x19 => .ok (.vdsub (fld w 24 2) (fld w 17 7) (fld w 10 7) (fld w 3 7) (fld w 0 3))
  | 0x1A => .ok (.vdmul (fld w 24 2) (fld w 17 7) (fld w 10 7) (fld w 3 7) (fld w 0 3))
  | 0x1B => .ok (.vdfma (fld w 24 2) (fld w 17 7) (fld w 10 7) (fld w 3 7) (fld w 0 3))
  | 0x1C => .ok (.vdmin (fld w 24 2) (fld w 17 7) (fld w 10 7) (fld w 3 7) (fld w 0 3))
  | 0x1D => .ok (.vdmax (fld w 24 2) (fld w 17 7) (fld w 10 7) (fld w 3 7) (fld w 0 3))
  | 0x1E => .ok (.vdcmp (fld w 24 2) (fld w 20 4) (fld w 17 3) (fld w 10 7) (fld w 3 7) (fld w 0 3))
  | 0x1F => .ok (.vsel (fld w 24 2) (fld w 17 7) (fld w 10 7) (fld w 3 7) (fld w 0 3))
  | 0x20 => .ok (.vdot (fld w 24 2) (fld w 17 7) (fld w 10 7) (fld w 3 7) (fld w 0 3))
  | 0x21 => .ok (.vlmul (fld w 24 2) (fld w 17 7) (fld w 10 7) (fld w 3 7) (fld w 0 3))
  | 0x22 => .ok (.vldiv (fld w 24 2) (fld w 17 7) (fld w 10 7) (fld w 3 7) (fld w 0 3))
  | 0x23 => reserved w 0 1 (.ok (.vlpow (fld w 24 2) (fld w 17 7) (fld w 1 16)))
  | 0x24 => .ok (.vperm (fld w 24 2) (fld w 17 7) (fld w 10 7) (fld w 3 7) (fld w 0 3))
  | 0x25 => decodeVectorOp25 w
  | 0x26 => decodeVectorOp26 w
  | 0x27 => decodeVectorOp27 w
  | 0x28 => .ok (.vlds (fld w 24 2) (fld w 17 7) (fld w 12 5) (fld w 9 3) (fld w 0 9))
  | 0x29 => .ok (.vsts (fld w 24 2) (fld w 17 7) (fld w 12 5) (fld w 9 3) (fld w 0 9))
  | 0x2A => .ok (.vldg (fld w 24 2) (fld w 17 7) (fld w 12 5) (fld w 9 3) (fld w 0 9))
  | 0x2B => .ok (.vstg (fld w 24 2) (fld w 17 7) (fld w 12 5) (fld w 9 3) (fld w 0 9))
  | 0x2C => reserved w 5 3 (.ok (.vslr (fld w 24 2) (fld w 17 7) (fld w 12 5) (fld w 9 3) (fld w 8 1) (fld w 0 5)))
  | 0x2D => reserved w 5 3 (.ok (.vslw (fld w 24 2) (fld w 17 7) (fld w 12 5) (fld w 9 3) (fld w 8 1) (fld w 0 5)))
  | 0x2E => .ok (.vcvt (fld w 24 2) (fld w 17 7) (fld w 10 7) (fld w 6 4) (fld w 2 4) (fld w 0 2))
  | 0x2F => .ok (.vcvtSr (fld w 24 2) (fld w 17 7) (fld w 10 7) (fld w 6 4) (fld w 2 4) (fld w 0 2))
  | 0x30 => .ok (.vgaths (fld w 24 2) (fld w 17 7) (fld w 10 7) (fld w 5 5) (fld w 2 3) (fld w 0 2))
  | 0x31 => .ok (.vscats (fld w 24 2) (fld w 17 7) (fld w 10 7) (fld w 5 5) (fld w 2 3) (fld w 0 2))
  | 0x32 => .ok (.vgathg (fld w 24 2) (fld w 17 7) (fld w 10 7) (fld w 5 5) (fld w 2 3) (fld w 0 2))
  | 0x33 => .ok (.vscatg (fld w 24 2) (fld w 17 7) (fld w 10 7) (fld w 5 5) (fld w 2 3) (fld w 0 2))
  | 0x34 => reserved w 15 2 (.ok (.vldsr (fld w 24 2) (fld w 17 7) (fld w 10 5) (fld w 5 5) (fld w 2 3) (fld w 0 2)))
  | 0x35 => reserved w 15 2 (.ok (.vstsr (fld w 24 2) (fld w 17 7) (fld w 10 5) (fld w 5 5) (fld w 2 3) (fld w 0 2)))
  | 0x36 => reserved w 15 2 (.ok (.vldgr (fld w 24 2) (fld w 17 7) (fld w 10 5) (fld w 5 5) (fld w 2 3) (fld w 0 2)))
  | 0x37 => reserved w 15 2 (.ok (.vstgr (fld w 24 2) (fld w 17 7) (fld w 10 5) (fld w 5 5) (fld w 2 3) (fld w 0 2)))
  | 0x38 => decodeVectorOp38 w
  | 0x39 => decodeVectorOp39 w
  | 0x3A => decodeVectorOp3A w
  | 0x3B => decodeVectorOp3B w
  | 0x3C => reserved w 6 11 (reserved w 20 4 (.ok (.waitc (fld w 24 2) (fld w 17 3) (fld w 0 6))))
  | 0x3D => .ok (.vamo (fld w 19 7) (fld w 12 7) (fld w 7 5) (fld w 2 5) (fld w 0 2))
  | 0x3E => reserved w 0 10 (.ok (.rep (fld w 20 6) (fld w 17 3) (fld w 14 3) (fld w 11 3) (fld w 10 1)))
  | _ => decodeVectorOp3F w

/-- Function codes of matrix opcode 0x10. -/
def decodeMatrixOp10 (w : BitVec 32) : Except DecodeError Instr :=
  match (fld w 0 8).toNat with
  | 0x00 => reserved w 8 6 (.ok (.nadd (fld w 22 4) (fld w 18 4) (fld w 14 4)))
  | 0x01 => reserved w 8 6 (.ok (.nsub (fld w 22 4) (fld w 18 4) (fld w 14 4)))
  | 0x02 => reserved w 8 6 (.ok (.nand (fld w 22 4) (fld w 18 4) (fld w 14 4)))
  | 0x03 => reserved w 8 6 (.ok (.nor (fld w 22 4) (fld w 18 4) (fld w 14 4)))
  | 0x04 => reserved w 8 6 (.ok (.nxor (fld w 22 4) (fld w 18 4) (fld w 14 4)))
  | 0x05 => reserved w 8 6 (.ok (.nshl (fld w 22 4) (fld w 18 4) (fld w 14 4)))
  | 0x06 => reserved w 8 6 (.ok (.nshr (fld w 22 4) (fld w 18 4) (fld w 14 4)))
  | 0x07 => reserved w 8 6 (.ok (.nsra (fld w 22 4) (fld w 18 4) (fld w 14 4)))
  | 0x08 => reserved w 8 6 (.ok (.nmul (fld w 22 4) (fld w 18 4) (fld w 14 4)))
  | 0x09 => reserved w 8 6 (.ok (.nmin (fld w 22 4) (fld w 18 4) (fld w 14 4)))
  | 0x0A => reserved w 8 6 (.ok (.nmax (fld w 22 4) (fld w 18 4) (fld w 14 4)))
  | 0x0B => reserved w 8 6 (.ok (.nminu (fld w 22 4) (fld w 18 4) (fld w 14 4)))
  | 0x0C => reserved w 8 6 (.ok (.nmaxu (fld w 22 4) (fld w 18 4) (fld w 14 4)))
  | _ => .error .unassignedFunction

/-- Function codes of matrix opcode 0x38. -/
def decodeMatrixOp38 (w : BitVec 32) : Except DecodeError Instr :=
  match (fld w 22 4).toNat with
  | 0x00 => reserved w 0 10 (.ok (.rinit (fld w 16 6) (fld w 10 6)))
  | 0x01 => .ok (.rclaim (fld w 16 6) (fld w 10 6) (fld w 0 10))
  | 0x02 => .ok (.rpub (fld w 16 6) (fld w 10 6) (fld w 0 10))
  | 0x03 => .ok (.rwfill (fld w 16 6) (fld w 10 6) (fld w 0 10))
  | 0x04 => .ok (.rwfree (fld w 16 6) (fld w 10 6) (fld w 0 10))
  | 0x05 => reserved w 10 6 (.ok (.rcons (fld w 16 6) (fld w 0 10)))
  | 0x06 => reserved w 2 8 (.ok (.rread (fld w 16 6) (fld w 10 6) (fld w 0 2)))
  | 0x07 => reserved w 0 10 (.ok (.raddr (fld w 16 6) (fld w 10 6)))
  | _ => .error .unassignedFunction

/-- Function codes of matrix opcode 0x39. -/
def decodeMatrixOp39 (w : BitVec 32) : Except DecodeError Instr :=
  match (fld w 22 4).toNat with
  | 0x00 => reserved w 0 10 (.ok (.wmwait (fld w 16 6) (fld w 10 6)))
  | 0x01 => reserved w 1 9 (.ok (.wmarm (fld w 16 6) (fld w 10 6) (fld w 0 1)))
  | 0x02 => reserved w 0 10 (.ok (.wmread (fld w 16 6) (fld w 10 6)))
  | 0x03 => reserved w 0 16 (.ok (.wmidle (fld w 16 6)))
  | _ => .error .unassignedFunction

/-- Function codes of matrix opcode 0x3A. -/
def decodeMatrixOp3A (w : BitVec 32) : Except DecodeError Instr :=
  match (fld w 22 4).toNat with
  | 0x00 => reserved w 16 6 (.ok (.evsig (fld w 10 6) (fld w 0 10)))
  | 0x01 => reserved w 0 10 (reserved w 16 6 (.ok (.evsigr (fld w 10 6))))
  | 0x02 => reserved w 0 10 (reserved w 16 6 (.ok (.evwait (fld w 10 6))))
  | 0x03 => reserved w 0 10 (reserved w 16 6 (.ok (.evread (fld w 10 6))))
  | 0x04 => if fld w 0 1 = 1#1 then reserved w 1 9 (reserved w 16 6 (.ok (.evsetC (fld w 10 6)))) else reserved w 1 9 (reserved w 16 6 (.ok (.evset (fld w 10 6))))
  | _ => .error .unassignedFunction

/-- Function codes of matrix opcode 0x3B. -/
def decodeMatrixOp3B (w : BitVec 32) : Except DecodeError Instr :=
  match (fld w 22 4).toNat with
  | 0x00 => reserved w 0 1 (reserved w 10 12 (.ok (.fenceX (fld w 7 3) (fld w 4 3) (fld w 1 3))))
  | 0x01 => reserved w 0 1 (reserved w 10 12 (.ok (.fenceXu (fld w 7 3) (fld w 4 3) (fld w 1 3))))
  | _ => .error .unassignedFunction

/-- The matrix opcode map. -/
def decodeMatrix (w : BitVec 32) : Except DecodeError Instr :=
  match (fld w 26 6).toNat with
  | 0x00 => reserved w 0 26 (.ok (.nop))
  | 0x01 => reserved w 2 7 (.ok (.mma (fld w 21 5) (fld w 17 4) (fld w 13 4) (fld w 9 4) (fld w 1 1) (fld w 0 1)))
  | 0x02 => reserved w 3 6 (.ok (.mmas (fld w 21 5) (fld w 17 4) (fld w 13 4) (fld w 9 4) (fld w 2 1) (fld w 1 1) (fld w 0 1)))
  | 0x03 => reserved w 2 7 (.ok (.sbp (fld w 21 5) (fld w 17 4) (fld w 13 4) (fld w 9 4) (fld w 1 1) (fld w 0 1)))
  | 0x04 => reserved w 0 9 (reserved w 17 9 (.ok (.ephb (fld w 13 4) (fld w 9 4))))
  | 0x05 => reserved w 0 9 (reserved w 17 9 (.ok (.ephl (fld w 13 4) (fld w 9 4))))
  | 0x06 => reserved w 0 9 (reserved w 17 9 (.ok (.ephs (fld w 13 4) (fld w 9 4))))
  | 0x07 => reserved w 1 20 (.ok (.mzero (fld w 21 5) (fld w 0 1)))
  | 0x08 => reserved w 3 6 (reserved w 21 5 (.ok (.fft2 (fld w 17 4) (fld w 13 4) (fld w 9 4) (fld w 1 2) (fld w 0 1))))
  | 0x09 => reserved w 3 6 (reserved w 21 5 (.ok (.fft3 (fld w 17 4) (fld w 13 4) (fld w 9 4) (fld w 1 2) (fld w 0 1))))
  | 0x0A => reserved w 3 6 (reserved w 21 5 (.ok (.fft4 (fld w 17 4) (fld w 13 4) (fld w 9 4) (fld w 1 2) (fld w 0 1))))
  | 0x0B => reserved w 3 6 (reserved w 21 5 (.ok (.fft5 (fld w 17 4) (fld w 13 4) (fld w 9 4) (fld w 1 2) (fld w 0 1))))
  | 0x0C => reserved w 3 6 (.ok (.leg (fld w 21 5) (fld w 17 4) (fld w 13 4) (fld w 9 4) (fld w 2 1) (fld w 1 1) (fld w 0 1)))
  | 0x0D => reserved w 0 9 (reserved w 21 5 (.ok (.legi (fld w 17 4) (fld w 13 4) (fld w 9 4))))
  | 0x0E => reserved w 0 21 (.ok (.macq (fld w 21 5)))
  | 0x0F => reserved w 0 21 (.ok (.mrel (fld w 21 5)))
  | 0x10 => decodeMatrixOp10 w
  | 0x11 => .ok (.naddi (fld w 22 4) (fld w 18 4) (fld w 0 18))
  | 0x12 => .ok (.nseth (fld w 22 4) (fld w 18 4) (fld w 16 2) (fld w 0 16))
  | 0x13 => reserved w 18 4 (.ok (.nget (fld w 22 4) (fld w 0 18)))
  | 0x14 => .ok (.mbr (fld w 23 3) (fld w 19 4) (fld w 0 19))
  | 0x15 => reserved w 0 26 (.ok (.matrixEnd))
  | 0x16 => reserved w 0 26 (.ok (.mwake))
  | 0x38 => decodeMatrixOp38 w
  | 0x39 => decodeMatrixOp39 w
  | 0x3A => decodeMatrixOp3A w
  | 0x3B => decodeMatrixOp3B w
  | _ => .error .unassignedOpcode

/-- Function codes of copy opcode 0x01. -/
noncomputable def decodeCopyOp01 (w : BitVec 32) : Except DecodeError Instr :=
  match (fld w 0 7).toNat with
  | 0x00 => reserved w 22 4 (.ok (.cadd (fld w 17 5) (fld w 12 5) (fld w 7 5)))
  | 0x01 => reserved w 22 4 (.ok (.csub (fld w 17 5) (fld w 12 5) (fld w 7 5)))
  | 0x02 => reserved w 22 4 (.ok (.cand (fld w 17 5) (fld w 12 5) (fld w 7 5)))
  | 0x03 => reserved w 22 4 (.ok (.cor (fld w 17 5) (fld w 12 5) (fld w 7 5)))
  | 0x04 => reserved w 22 4 (.ok (.cxor (fld w 17 5) (fld w 12 5) (fld w 7 5)))
  | 0x05 => reserved w 22 4 (.ok (.cshl (fld w 17 5) (fld w 12 5) (fld w 7 5)))
  | 0x06 => reserved w 22 4 (.ok (.cshr (fld w 17 5) (fld w 12 5) (fld w 7 5)))
  | 0x07 => reserved w 22 4 (.ok (.csra (fld w 17 5) (fld w 12 5) (fld w 7 5)))
  | 0x08 => reserved w 22 4 (.ok (.cmul (fld w 17 5) (fld w 12 5) (fld w 7 5)))
  | 0x09 => reserved w 22 4 (.ok (.cmin (fld w 17 5) (fld w 12 5) (fld w 7 5)))
  | 0x0A => reserved w 22 4 (.ok (.cmax (fld w 17 5) (fld w 12 5) (fld w 7 5)))
  | 0x0B => reserved w 22 4 (.ok (.cminu (fld w 17 5) (fld w 12 5) (fld w 7 5)))
  | 0x0C => reserved w 22 4 (.ok (.cmaxu (fld w 17 5) (fld w 12 5) (fld w 7 5)))
  | _ => .error .unassignedFunction

/-- Function codes of copy opcode 0x38. -/
noncomputable def decodeCopyOp38 (w : BitVec 32) : Except DecodeError Instr :=
  match (fld w 22 4).toNat with
  | 0x00 => reserved w 0 10 (.ok (.rinit (fld w 16 6) (fld w 10 6)))
  | 0x01 => .ok (.rclaim (fld w 16 6) (fld w 10 6) (fld w 0 10))
  | 0x02 => .ok (.rpub (fld w 16 6) (fld w 10 6) (fld w 0 10))
  | 0x03 => .ok (.rwfill (fld w 16 6) (fld w 10 6) (fld w 0 10))
  | 0x04 => .ok (.rwfree (fld w 16 6) (fld w 10 6) (fld w 0 10))
  | 0x05 => reserved w 10 6 (.ok (.rcons (fld w 16 6) (fld w 0 10)))
  | 0x06 => reserved w 2 8 (.ok (.rread (fld w 16 6) (fld w 10 6) (fld w 0 2)))
  | 0x07 => reserved w 0 10 (.ok (.raddr (fld w 16 6) (fld w 10 6)))
  | _ => .error .unassignedFunction

/-- Function codes of copy opcode 0x39. -/
noncomputable def decodeCopyOp39 (w : BitVec 32) : Except DecodeError Instr :=
  match (fld w 22 4).toNat with
  | 0x00 => reserved w 0 10 (.ok (.wmwait (fld w 16 6) (fld w 10 6)))
  | 0x01 => reserved w 1 9 (.ok (.wmarm (fld w 16 6) (fld w 10 6) (fld w 0 1)))
  | 0x02 => reserved w 0 10 (.ok (.wmread (fld w 16 6) (fld w 10 6)))
  | 0x03 => reserved w 0 16 (.ok (.wmidle (fld w 16 6)))
  | _ => .error .unassignedFunction

/-- Function codes of copy opcode 0x3A. -/
noncomputable def decodeCopyOp3A (w : BitVec 32) : Except DecodeError Instr :=
  match (fld w 22 4).toNat with
  | 0x00 => reserved w 16 6 (.ok (.evsig (fld w 10 6) (fld w 0 10)))
  | 0x01 => reserved w 0 10 (reserved w 16 6 (.ok (.evsigr (fld w 10 6))))
  | 0x02 => reserved w 0 10 (reserved w 16 6 (.ok (.evwait (fld w 10 6))))
  | 0x03 => reserved w 0 10 (reserved w 16 6 (.ok (.evread (fld w 10 6))))
  | 0x04 => if fld w 0 1 = 1#1 then reserved w 1 9 (reserved w 16 6 (.ok (.evsetC (fld w 10 6)))) else reserved w 1 9 (reserved w 16 6 (.ok (.evset (fld w 10 6))))
  | _ => .error .unassignedFunction

/-- Function codes of copy opcode 0x3B. -/
noncomputable def decodeCopyOp3B (w : BitVec 32) : Except DecodeError Instr :=
  match (fld w 22 4).toNat with
  | 0x00 => reserved w 0 1 (reserved w 10 12 (.ok (.fenceX (fld w 7 3) (fld w 4 3) (fld w 1 3))))
  | 0x01 => reserved w 0 1 (reserved w 10 12 (.ok (.fenceXu (fld w 7 3) (fld w 4 3) (fld w 1 3))))
  | _ => .error .unassignedFunction

/-- Function codes of copy opcode 0x3C. -/
noncomputable def decodeCopyOp3C (w : BitVec 32) : Except DecodeError Instr :=
  match (fld w 22 4).toNat with
  | 0x00 => reserved w 3 7 (.ok (.sset (fld w 16 6) (fld w 10 6) (fld w 0 3)))
  | 0x01 => reserved w 3 7 (.ok (.sget (fld w 16 6) (fld w 10 6) (fld w 0 3)))
  | 0x02 => reserved w 2 14 (.ok (.sbind (fld w 16 6) (fld w 0 2)))
  | 0x03 => reserved w 0 16 (.ok (.sunbind (fld w 16 6)))
  | _ => .error .unassignedFunction

/-- Function codes of copy opcode 0x3D. -/
noncomputable def decodeCopyOp3D (w : BitVec 32) : Except DecodeError Instr :=
  match (fld w 22 4).toNat with
  | 0x00 => reserved w 0 10 (reserved w 16 6 (.ok (.ccomm (fld w 10 6))))
  | 0x01 => reserved w 0 10 (reserved w 16 6 (.ok (.cstart (fld w 10 6))))
  | 0x02 => reserved w 0 10 (reserved w 16 6 (.ok (.cfree (fld w 10 6))))
  | _ => .error .unassignedFunction

/-- The copy opcode map. -/
noncomputable def decodeCopy (w : BitVec 32) : Except DecodeError Instr :=
  match (fld w 26 6).toNat with
  | 0x00 => reserved w 0 26 (.ok (.nop))
  | 0x01 => decodeCopyOp01 w
  | 0x02 => reserved w 22 4 (.ok (.caddi (fld w 17 5) (fld w 12 5) (fld w 0 12)))
  | 0x03 => reserved w 22 4 (.ok (.cseth (fld w 17 5) (fld w 12 5) (fld w 0 12)))
  | 0x04 => reserved w 4 3 (.ok (.copy (fld w 22 4) (fld w 17 5) (fld w 12 5) (fld w 7 5) (fld w 3 1) (fld w 2 1) (fld w 1 1) (fld w 0 1)))
  | 0x05 => reserved w 4 3 (.ok (.copy2d (fld w 22 4) (fld w 17 5) (fld w 12 5) (fld w 7 5) (fld w 3 1) (fld w 2 1) (fld w 1 1) (fld w 0 1)))
  | 0x06 => reserved w 6 1 (.ok (.cgath (fld w 22 4) (fld w 17 5) (fld w 12 5) (fld w 7 5) (fld w 4 2) (fld w 3 1) (fld w 2 1) (fld w 1 1) (fld w 0 1)))
  | 0x07 => reserved w 2 1 (reserved w 6 1 (reserved w 22 4 (.ok (.cscat (fld w 17 5) (fld w 12 5) (fld w 7 5) (fld w 4 2) (fld w 3 1) (fld w 1 1) (fld w 0 1)))))
  | 0x08 => reserved w 0 1 (reserved w 4 3 (.ok (.fill (fld w 22 4) (fld w 17 5) (fld w 12 5) (fld w 7 5) (fld w 3 1) (fld w 2 1) (fld w 1 1))))
  | 0x09 => reserved w 0 7 (reserved w 17 9 (.ok (.pref (fld w 12 5) (fld w 7 5))))
  | 0x0A => reserved w 22 4 (.ok (.clds (fld w 17 5) (fld w 12 5) (fld w 0 12)))
  | 0x0B => reserved w 22 4 (.ok (.cldg (fld w 17 5) (fld w 12 5) (fld w 0 12)))
  | 0x0C => .ok (.cbr (fld w 23 3) (fld w 18 5) (fld w 0 18))
  | 0x0D => reserved w 0 26 (.ok (.copyEnd))
  | 0x38 => decodeCopyOp38 w
  | 0x39 => decodeCopyOp39 w
  | 0x3A => decodeCopyOp3A w
  | 0x3B => decodeCopyOp3B w
  | 0x3C => decodeCopyOp3C w
  | 0x3D => decodeCopyOp3D w
  | _ => .error .unassignedOpcode

/-- Function codes of handler opcode 0x03. -/
noncomputable def decodeHandlerOp03 (w : BitVec 32) : Except DecodeError Instr :=
  match (fld w 20 4).toNat with
  | 0x00 => reserved w 16 4 (.ok (.hli (fld w 24 4) (fld w 0 16)))
  | 0x01 => reserved w 16 4 (.ok (.hlis (fld w 24 4) (fld w 0 16)))
  | _ => .error .unassignedFunction

/-- The handler opcode map. -/
noncomputable def decodeHandler (w : BitVec 32) : Except DecodeError Instr :=
  match (fld w 28 4).toNat with
  | 0x00 => reserved w 0 28 (.ok (.hnop))
  | 0x01 => reserved w 16 4 (.ok (.hld (fld w 24 4) (fld w 20 4) (fld w 0 16)))
  | 0x02 => reserved w 24 4 (.ok (.hst (fld w 20 4) (fld w 16 4) (fld w 0 16)))
  | 0x03 => decodeHandlerOp03 w
  | 0x04 => .ok (.hadd (fld w 24 4) (fld w 20 4) (fld w 16 4) (fld w 0 16))
  | 0x05 => reserved w 0 16 (.ok (.hsub (fld w 24 4) (fld w 20 4) (fld w 16 4)))
  | 0x06 => reserved w 0 16 (.ok (.hand (fld w 24 4) (fld w 20 4) (fld w 16 4)))
  | 0x07 => reserved w 0 16 (.ok (.hor (fld w 24 4) (fld w 20 4) (fld w 16 4)))
  | 0x08 => reserved w 0 16 (.ok (.hxor (fld w 24 4) (fld w 20 4) (fld w 16 4)))
  | 0x09 => reserved w 8 12 (.ok (.hshf (fld w 24 4) (fld w 20 4) (fld w 6 2) (fld w 0 6)))
  | 0x0A => reserved w 1 15 (.ok (.hfadd (fld w 24 4) (fld w 20 4) (fld w 16 4) (fld w 0 1)))
  | 0x0B => reserved w 3 13 (.ok (.hcmp (fld w 24 4) (fld w 20 4) (fld w 16 4) (fld w 0 3)))
  | 0x0C => reserved w 0 16 (.ok (.hsel (fld w 24 4) (fld w 20 4) (fld w 16 4)))
  | 0x0D => reserved w 16 4 (.ok (.hbr (fld w 24 4) (fld w 20 4) (fld w 0 16)))
  | 0x0E => reserved w 0 20 (reserved w 24 4 (.ok (.hret (fld w 20 4))))
  | _ => reserved w 0 20 (reserved w 24 4 (.ok (.hfail (fld w 20 4))))

/-- Bits lo to lo+n-1 of a collective step word. -/
def fld64 (w : BitVec 64) (lo n : Nat) : BitVec n := w.extractLsb' lo n

/-- A field placed at bit lo of a collective step word. -/
def put64 {n : Nat} (x : BitVec n) (lo : Nat) : BitVec 64 := x.setWidth 64 <<< lo

/-- A reserved field of a step word must be zero (R109). -/
def reserved64 (w : BitVec 64) (lo n : Nat) (k : Except DecodeError Instr) : Except DecodeError Instr :=
  if fld64 w lo n = 0 then k else .error .reservedField

/-- The collective step opcodes (R108, R120, R267): OP 63:58, LS 57:56, PA 55:48, PB 47:28, BUF 27:24, ARG 23:0. -/
noncomputable def decodeCollective (w : BitVec 64) : Except DecodeError Instr :=
  match (fld64 w 58 6).toNat with
  | 0x00 => reserved64 w 0 58 (.ok .collNop)
  | 0x01 => reserved64 w 23 1 (reserved64 w 20 2 (.ok (.send (fld64 w 56 2) (fld64 w 48 8) (fld64 w 28 20) (fld64 w 24 4) (fld64 w 22 1 == 1#1) (fld64 w 12 8) (fld64 w 0 12))))
  | 0x02 => reserved64 w 20 4 (.ok (.recv (fld64 w 56 2) (fld64 w 48 8) (fld64 w 28 20) (fld64 w 24 4) (fld64 w 12 8) (fld64 w 0 12)))
  | 0x03 => reserved64 w 20 3 (.ok (.rrs (fld64 w 56 2) (fld64 w 48 8) (fld64 w 28 20) (fld64 w 24 4) (fld64 w 23 1 == 1#1) (fld64 w 12 8) (fld64 w 0 12)))
  | 0x04 => reserved64 w 20 4 (.ok (.rrf (fld64 w 56 2) (fld64 w 48 8) (fld64 w 28 20) (fld64 w 24 4) (fld64 w 12 8) (fld64 w 0 12)))
  | 0x05 => reserved64 w 28 28 (.ok (.collCopy (fld64 w 56 2) (fld64 w 20 4) (fld64 w 24 4) (fld64 w 12 8) (fld64 w 0 12)))
  | 0x06 => reserved64 w 28 30 (reserved64 w 20 4 (.ok (.bcast (fld64 w 24 4) (fld64 w 0 20))))
  | 0x07 => reserved64 w 28 30 (reserved64 w 0 24 (.ok (.xpose (fld64 w 24 4))))
  | 0x08 => reserved64 w 28 30 (.ok (.wait (fld64 w 24 4) (fld64 w 0 24)))
  | 0x09 => reserved64 w 28 30 (.ok (.signal (fld64 w 24 4) (fld64 w 0 24)))
  | 0x0A => reserved64 w 24 32 (.ok (.loop (fld64 w 56 2) (fld64 w 0 24)))
  | 0x0B => reserved64 w 0 56 (.ok (.endl (fld64 w 56 2)))
  | _ => .error .unassignedOpcode

/-- A decoded instruction is handed on only when its operands are legal on the engine (R86). -/
def guardWf (isa : Isa) (r : Except DecodeError Instr) : Except DecodeError Instr :=
  match r with
  | .ok i => if i.wf isa then .ok i else .error .illegalOperand
  | .error e => .error e

/-- The instruction of a 32-bit word on an engine of the instruction set isa. -/
noncomputable def decode (isa : Isa) (w : BitVec 32) : Except DecodeError Instr :=
  match isa with
  | .scalar => guardWf .scalar (decodeScalar w)
  | .vector => guardWf .vector (decodeVector w)
  | .matrix => guardWf .matrix (decodeMatrix w)
  | .copy => guardWf .copy (decodeCopy w)
  | .handler => guardWf .handler (decodeHandler w)
  | .collective => .error .truncated

/-- The step of a 64-bit word on a collective engine. -/
noncomputable def decodeStep (w : BitVec 64) : Except DecodeError Instr := guardWf .collective (decodeCollective w)

/-- Four bytes as a little-endian word (R2, R85). -/
def leWord (b0 b1 b2 b3 : BitVec 8) : BitVec 32 := b3 ++ b2 ++ b1 ++ b0

/-- Decoding of a byte stream: the instruction and the bytes after it. -/
noncomputable def decodeBytes (isa : Isa) (bs : List (BitVec 8)) : Except DecodeError (Instr × List (BitVec 8)) :=
  match isa, bs with
  | .collective, b0 :: b1 :: b2 :: b3 :: b4 :: b5 :: b6 :: b7 :: rest =>
    match decodeStep (leWord b4 b5 b6 b7 ++ leWord b0 b1 b2 b3) with
    | .ok i => .ok (i, rest)
    | .error e => .error e
  | .collective, _ => .error .truncated
  | isa, b0 :: b1 :: b2 :: b3 :: rest =>
    match decode isa (leWord b0 b1 b2 b3) with
    | .ok i => .ok (i, rest)
    | .error e => .error e
  | _, _ => .error .truncated

/-- The 32-bit word of a tile-engine or handler instruction, from the same encoding tables; none for steps and events. -/
def encode (i : Instr) : Option (BitVec 32) :=
  match i with
  | .nop => some (0x00000000#32)
  | .add d a b => some (0x04000000#32 ||| put d 20 ||| put a 14 ||| put b 8)
  | .sub d a b => some (0x04000001#32 ||| put d 20 ||| put a 14 ||| put b 8)
  | .and d a b => some (0x04000002#32 ||| put d 20 ||| put a 14 ||| put b 8)
  | .or d a b => some (0x04000003#32 ||| put d 20 ||| put a 14 ||| put b 8)
  | .xor d a b => some (0x04000004#32 ||| put d 20 ||| put a 14 ||| put b 8)
  | .shl d a b => some (0x04000005#32 ||| put d 20 ||| put a 14 ||| put b 8)
  | .shr d a b => some (0x04000006#32 ||| put d 20 ||| put a 14 ||| put b 8)
  | .sra d a b => some (0x04000007#32 ||| put d 20 ||| put a 14 ||| put b 8)
  | .slt d a b => some (0x04000008#32 ||| put d 20 ||| put a 14 ||| put b 8)
  | .sltu d a b => some (0x04000009#32 ||| put d 20 ||| put a 14 ||| put b 8)
  | .mul d a b => some (0x0400000A#32 ||| put d 20 ||| put a 14 ||| put b 8)
  | .mulh d a b => some (0x0400000B#32 ||| put d 20 ||| put a 14 ||| put b 8)
  | .mulhu d a b => some (0x0400000C#32 ||| put d 20 ||| put a 14 ||| put b 8)
  | .div d a b => some (0x0400000D#32 ||| put d 20 ||| put a 14 ||| put b 8)
  | .divu d a b => some (0x0400000E#32 ||| put d 20 ||| put a 14 ||| put b 8)
  | .rem d a b => some (0x0400000F#32 ||| put d 20 ||| put a 14 ||| put b 8)
  | .remu d a b => some (0x04000010#32 ||| put d 20 ||| put a 14 ||| put b 8)
  | .min d a b => some (0x04000011#32 ||| put d 20 ||| put a 14 ||| put b 8)
  | .max d a b => some (0x04000012#32 ||| put d 20 ||| put a 14 ||| put b 8)
  | .minu d a b => some (0x04000013#32 ||| put d 20 ||| put a 14 ||| put b 8)
  | .maxu d a b => some (0x04000014#32 ||| put d 20 ||| put a 14 ||| put b 8)
  | .clz d a => some (0x04000015#32 ||| put d 20 ||| put a 14)
  | .ctz d a => some (0x04000016#32 ||| put d 20 ||| put a 14)
  | .popc d a => some (0x04000017#32 ||| put d 20 ||| put a 14)
  | .addi d a i => some (0x08000000#32 ||| put d 20 ||| put a 14 ||| put i 0)
  | .andi d a i => some (0x0C000000#32 ||| put d 20 ||| put a 14 ||| put i 0)
  | .ori d a i => some (0x10000000#32 ||| put d 20 ||| put a 14 ||| put i 0)
  | .xori d a i => some (0x14000000#32 ||| put d 20 ||| put a 14 ||| put i 0)
  | .slti d a i => some (0x18000000#32 ||| put d 20 ||| put a 14 ||| put i 0)
  | .sltiu d a i => some (0x1C000000#32 ||| put d 20 ||| put a 14 ||| put i 0)
  | .shli d a s => some (0x20000000#32 ||| put d 20 ||| put a 14 ||| put s 0)
  | .shri d a s => some (0x24000000#32 ||| put d 20 ||| put a 14 ||| put s 0)
  | .srai d a s => some (0x28000000#32 ||| put d 20 ||| put a 14 ||| put s 0)
  | .muli d a i => some (0x2C000000#32 ||| put d 20 ||| put a 14 ||| put i 0)
  | .lui d i => some (0x30000000#32 ||| put d 20 ||| put i 0)
  | .addpc d i => some (0x34000000#32 ||| put d 20 ||| put i 0)
  | .lds z d a i => some (0x40000000#32 ||| put z 26 ||| put d 20 ||| put a 14 ||| put i 0)
  | .sts z d a i => some (0x50000000#32 ||| put z 26 ||| put d 20 ||| put a 14 ||| put i 0)
  | .ldg z d a i => some (0x60000000#32 ||| put z 26 ||| put d 20 ||| put a 14 ||| put i 0)
  | .stg z d a i => some (0x70000000#32 ||| put z 26 ||| put d 20 ||| put a 14 ||| put i 0)
  | .ldsZ d a z => some (0x80000000#32 ||| put d 20 ||| put a 14 ||| put z 0)
  | .ldgZ d a z => some (0x80000004#32 ||| put d 20 ||| put a 14 ||| put z 0)
  | .ldgAcq d a c z => some (0x80000008#32 ||| put d 20 ||| put a 14 ||| put c 5 ||| put z 0)
  | .ldgAcqZ d a c z => some (0x8000000C#32 ||| put d 20 ||| put a 14 ||| put c 5 ||| put z 0)
  | .stgRel d a c z => some (0x80000010#32 ||| put d 20 ||| put a 14 ||| put c 5 ||| put z 0)
  | .amo d a b h c => some (0x84000000#32 ||| put d 20 ||| put a 14 ||| put b 8 ||| put h 3 ||| put c 0)
  | .red a b h c => some (0x88000000#32 ||| put a 14 ||| put b 8 ||| put h 3 ||| put c 0)
  | .amoq d a b h c => some (0x8C000000#32 ||| put d 20 ||| put a 14 ||| put b 8 ||| put h 3 ||| put c 0)
  | .crr d r => some (0x90000000#32 ||| put d 20 ||| put r 0)
  | .crw a r => some (0x94000000#32 ||| put a 14 ||| put r 0)
  | .time d => some (0x98000000#32 ||| put d 20)
  | .trap c => some (0x9C000000#32 ||| put c 0)
  | .beq a b n o => some (0xA0000000#32 ||| put a 20 ||| put b 14 ||| put n 13 ||| put o 0)
  | .bne a b n o => some (0xA4000000#32 ||| put a 20 ||| put b 14 ||| put n 13 ||| put o 0)
  | .blt a b n o => some (0xA8000000#32 ||| put a 20 ||| put b 14 ||| put n 13 ||| put o 0)
  | .bge a b n o => some (0xAC000000#32 ||| put a 20 ||| put b 14 ||| put n 13 ||| put o 0)
  | .bltu a b n o => some (0xB0000000#32 ||| put a 20 ||| put b 14 ||| put n 13 ||| put o 0)
  | .bgeu a b n o => some (0xB4000000#32 ||| put a 20 ||| put b 14 ||| put n 13 ||| put o 0)
  | .jump n o => some (0xB8000000#32 ||| put n 25 ||| put o 0)
  | .jal n o => some (0xBC000000#32 ||| put n 25 ||| put o 0)
  | .jalr d a i => some (0xC0000000#32 ||| put d 20 ||| put a 14 ||| put i 0)
  | .fork v m c => some (0xC4000000#32 ||| put v 20 ||| put m 14 ||| put c 8)
  | .join => some (0xC8000000#32)
  | .sEnd => some (0xCC000000#32)
  | .rett => some (0xD0000000#32)
  | .ccreate d a => some (0xD4000000#32 ||| put d 20 ||| put a 14)
  | .cjoin d a => some (0xD4000001#32 ||| put d 20 ||| put a 14)
  | .cleave a => some (0xD4000002#32 ||| put a 14)
  | .bar a => some (0xD4000003#32 ||| put a 14)
  | .glaunch d a b => some (0xD8000000#32 ||| put d 20 ||| put a 14 ||| put b 8)
  | .rdr d a b => some (0xDC000000#32 ||| put d 20 ||| put a 14 ||| put b 8)
  | .wrr d a b => some (0xDC000001#32 ||| put d 20 ||| put a 14 ||| put b 8)
  | .resume d a b => some (0xDC000002#32 ||| put d 20 ||| put a 14 ||| put b 8)
  | .preempt d a => some (0xDC000003#32 ||| put d 20 ||| put a 14)
  | .teardown d a => some (0xDC000004#32 ||| put d 20 ||| put a 14)
  | .tlbi d a b => some (0xDC000005#32 ||| put d 20 ||| put a 14 ||| put b 8)
  | .cresume d a => some (0xDC000006#32 ||| put d 20 ||| put a 14)
  | .cabort d a => some (0xDC000007#32 ||| put d 20 ||| put a 14)
  | .rinit o x => some (0xE0000000#32 ||| put o 16 ||| put x 10)
  | .rclaim o x n => some (0xE0400000#32 ||| put o 16 ||| put x 10 ||| put n 0)
  | .rpub o x n => some (0xE0800000#32 ||| put o 16 ||| put x 10 ||| put n 0)
  | .rwfill o x n => some (0xE0C00000#32 ||| put o 16 ||| put x 10 ||| put n 0)
  | .rwfree o x n => some (0xE1000000#32 ||| put o 16 ||| put x 10 ||| put n 0)
  | .rcons o n => some (0xE1400000#32 ||| put o 16 ||| put n 0)
  | .rread o x s => some (0xE1800000#32 ||| put o 16 ||| put x 10 ||| put s 0)
  | .raddr o x => some (0xE1C00000#32 ||| put o 16 ||| put x 10)
  | .wmwait o x => some (0xE4000000#32 ||| put o 16 ||| put x 10)
  | .wmarm o x p => some (0xE4400000#32 ||| put o 16 ||| put x 10 ||| put p 0)
  | .wmread o x => some (0xE4800000#32 ||| put o 16 ||| put x 10)
  | .wmidle o => some (0xE4C00000#32 ||| put o 16)
  | .evsig x n => some (0xE8000000#32 ||| put x 10 ||| put n 0)
  | .evsigr x => some (0xE8400000#32 ||| put x 10)
  | .evwait x => some (0xE8800000#32 ||| put x 10)
  | .evread x => some (0xE8C00000#32 ||| put x 10)
  | .evset x => some (0xE9000000#32 ||| put x 10)
  | .evsetC x => some (0xE9000001#32 ||| put x 10)
  | .fenceX s d c => some (0xEC000000#32 ||| put s 7 ||| put d 4 ||| put c 1)
  | .fenceXu s d c => some (0xEC400000#32 ||| put s 7 ||| put d 4 ||| put c 1)
  | .sset o x i => some (0xF0000000#32 ||| put o 16 ||| put x 10 ||| put i 0)
  | .sget o x i => some (0xF0400000#32 ||| put o 16 ||| put x 10 ||| put i 0)
  | .sbind o d => some (0xF0800000#32 ||| put o 16 ||| put d 0)
  | .sunbind o => some (0xF0C00000#32 ||| put o 16)
  | .ccomm x => some (0xF4000000#32 ||| put x 10)
  | .cstart x => some (0xF4400000#32 ||| put x 10)
  | .cfree x => some (0xF4800000#32 ||| put x 10)
  | .vadd g d a b m => some (0x04000000#32 ||| put g 24 ||| put d 17 ||| put a 10 ||| put b 3 ||| put m 0)
  | .vsub g d a b m => some (0x08000000#32 ||| put g 24 ||| put d 17 ||| put a 10 ||| put b 3 ||| put m 0)
  | .vmul g d a b m => some (0x0C000000#32 ||| put g 24 ||| put d 17 ||| put a 10 ||| put b 3 ||| put m 0)
  | .vmin g d a b m => some (0x10000000#32 ||| put g 24 ||| put d 17 ||| put a 10 ||| put b 3 ||| put m 0)
  | .vmax g d a b m => some (0x14000000#32 ||| put g 24 ||| put d 17 ||| put a 10 ||| put b 3 ||| put m 0)
  | .vand g d a b m => some (0x18000000#32 ||| put g 24 ||| put d 17 ||| put a 10 ||| put b 3 ||| put m 0)
  | .vor g d a b m => some (0x1C000000#32 ||| put g 24 ||| put d 17 ||| put a 10 ||| put b 3 ||| put m 0)
  | .vxor g d a b m => some (0x20000000#32 ||| put g 24 ||| put d 17 ||| put a 10 ||| put b 3 ||| put m 0)
  | .vshl g d a b m => some (0x24000000#32 ||| put g 24 ||| put d 17 ||| put a 10 ||| put b 3 ||| put m 0)
  | .vshr g d a b m => some (0x28000000#32 ||| put g 24 ||| put d 17 ||| put a 10 ||| put b 3 ||| put m 0)
  | .vsra g d a b m => some (0x2C000000#32 ||| put g 24 ||| put d 17 ||| put a 10 ||| put b 3 ||| put m 0)
  | .vaddi g d a i => some (0x30000000#32 ||| put g 24 ||| put d 17 ||| put a 10 ||| put i 0)
  | .vshli g d a s => some (0x34000000#32 ||| put g 24 ||| put d 17 ||| put a 10 ||| put s 0)
  | .vshri g d a s => some (0x34000100#32 ||| put g 24 ||| put d 17 ||| put a 10 ||| put s 0)
  | .vsrai g d a s => some (0x34000200#32 ||| put g 24 ||| put d 17 ||| put a 10 ||| put s 0)
  | .vbr c k o => some (0x38000000#32 ||| put c 23 ||| put k 18 ||| put o 0)
  | .vectorEnd => some (0x3C000000#32)
  | .vfadd g d a b m => some (0x40000000#32 ||| put g 24 ||| put d 17 ||| put a 10 ||| put b 3 ||| put m 0)
  | .vfsub g d a b m => some (0x44000000#32 ||| put g 24 ||| put d 17 ||| put a 10 ||| put b 3 ||| put m 0)
  | .vfmul g d a b m => some (0x48000000#32 ||| put g 24 ||| put d 17 ||| put a 10 ||| put b 3 ||| put m 0)
  | .vfma g d a b m => some (0x4C000000#32 ||| put g 24 ||| put d 17 ||| put a 10 ||| put b 3 ||| put m 0)
  | .vfmin g d a b m => some (0x50000000#32 ||| put g 24 ||| put d 17 ||| put a 10 ||| put b 3 ||| put m 0)
  | .vfmax g d a b m => some (0x54000000#32 ||| put g 24 ||| put d 17 ||| put a 10 ||| put b 3 ||| put m 0)
  | .vfcmp g c e a b m => some (0x58000000#32 ||| put g 24 ||| put c 20 ||| put e 17 ||| put a 10 ||| put b 3 ||| put m 0)
  | .vicmp g c e a b m => some (0x5C000000#32 ||| put g 24 ||| put c 20 ||| put e 17 ||| put a 10 ||| put b 3 ||| put m 0)
  | .vdadd g d a b m => some (0x60000000#32 ||| put g 24 ||| put d 17 ||| put a 10 ||| put b 3 ||| put m 0)
  | .vdsub g d a b m => some (0x64000000#32 ||| put g 24 ||| put d 17 ||| put a 10 ||| put b 3 ||| put m 0)
  | .vdmul g d a b m => some (0x68000000#32 ||| put g 24 ||| put d 17 ||| put a 10 ||| put b 3 ||| put m 0)
  | .vdfma g d a b m => some (0x6C000000#32 ||| put g 24 ||| put d 17 ||| put a 10 ||| put b 3 ||| put m 0)
  | .vdmin g d a b m => some (0x70000000#32 ||| put g 24 ||| put d 17 ||| put a 10 ||| put b 3 ||| put m 0)
  | .vdmax g d a b m => some (0x74000000#32 ||| put g 24 ||| put d 17 ||| put a 10 ||| put b 3 ||| put m 0)
  | .vdcmp g c e a b m => some (0x78000000#32 ||| put g 24 ||| put c 20 ||| put e 17 ||| put a 10 ||| put b 3 ||| put m 0)
  | .vsel g d a b m => some (0x7C000000#32 ||| put g 24 ||| put d 17 ||| put a 10 ||| put b 3 ||| put m 0)
  | .vdot g d a b m => some (0x80000000#32 ||| put g 24 ||| put d 17 ||| put a 10 ||| put b 3 ||| put m 0)
  | .vlmul g d a b m => some (0x84000000#32 ||| put g 24 ||| put d 17 ||| put a 10 ||| put b 3 ||| put m 0)
  | .vldiv g d a b m => some (0x88000000#32 ||| put g 24 ||| put d 17 ||| put a 10 ||| put b 3 ||| put m 0)
  | .vlpow g d p => some (0x8C000000#32 ||| put g 24 ||| put d 17 ||| put p 1)
  | .vperm g d a b m => some (0x90000000#32 ||| put g 24 ||| put d 17 ||| put a 10 ||| put b 3 ||| put m 0)
  | .vcmpx g d t e b j => some (0x94000000#32 ||| put g 24 ||| put d 17 ||| put t 8 ||| put e 7 ||| put b 3 ||| put j 0)
  | .vcmpxPayload g d a t e b j => some (0x94000200#32 ||| put g 24 ||| put d 17 ||| put a 10 ||| put t 8 ||| put e 7 ||| put b 3 ||| put j 0)
  | .vbcast g d k => some (0x98000000#32 ||| put g 24 ||| put d 17 ||| put k 12)
  | .vbcastD g d k => some (0x98000200#32 ||| put g 24 ||| put d 17 ||| put k 12)
  | .vextr g d a l => some (0x9C000000#32 ||| put g 24 ||| put d 17 ||| put a 10 ||| put l 0)
  | .vextrD g d a l => some (0x9C000080#32 ||| put g 24 ||| put d 17 ||| put a 10 ||| put l 0)
  | .vlds g d k w o => some (0xA0000000#32 ||| put g 24 ||| put d 17 ||| put k 12 ||| put w 9 ||| put o 0)
  | .vsts g d k w o => some (0xA4000000#32 ||| put g 24 ||| put d 17 ||| put k 12 ||| put w 9 ||| put o 0)
  | .vldg g d k w o => some (0xA8000000#32 ||| put g 24 ||| put d 17 ||| put k 12 ||| put w 9 ||| put o 0)
  | .vstg g d k w o => some (0xAC000000#32 ||| put g 24 ||| put d 17 ||| put k 12 ||| put w 9 ||| put o 0)
  | .vslr g d z w h r => some (0xB0000000#32 ||| put g 24 ||| put d 17 ||| put z 12 ||| put w 9 ||| put h 8 ||| put r 0)
  | .vslw g d z w h r => some (0xB4000000#32 ||| put g 24 ||| put d 17 ||| put z 12 ||| put w 9 ||| put h 8 ||| put r 0)
  | .vcvt g d a t s r => some (0xB8000000#32 ||| put g 24 ||| put d 17 ||| put a 10 ||| put t 6 ||| put s 2 ||| put r 0)
  | .vcvtSr g d a t s r => some (0xBC000000#32 ||| put g 24 ||| put d 17 ||| put a 10 ||| put t 6 ||| put s 2 ||| put r 0)
  | .vgaths g d x k w m => some (0xC0000000#32 ||| put g 24 ||| put d 17 ||| put x 10 ||| put k 5 ||| put w 2 ||| put m 0)
  | .vscats g d x k w m => some (0xC4000000#32 ||| put g 24 ||| put d 17 ||| put x 10 ||| put k 5 ||| put w 2 ||| put m 0)
  | .vgathg g d x k w m => some (0xC8000000#32 ||| put g 24 ||| put d 17 ||| put x 10 ||| put k 5 ||| put w 2 ||| put m 0)
  | .vscatg g d x k w m => some (0xCC000000#32 ||| put g 24 ||| put d 17 ||| put x 10 ||| put k 5 ||| put w 2 ||| put m 0)
  | .vldsr g d s k w m => some (0xD0000000#32 ||| put g 24 ||| put d 17 ||| put s 10 ||| put k 5 ||| put w 2 ||| put m 0)
  | .vstsr g d s k w m => some (0xD4000000#32 ||| put g 24 ||| put d 17 ||| put s 10 ||| put k 5 ||| put w 2 ||| put m 0)
  | .vldgr g d s k w m => some (0xD8000000#32 ||| put g 24 ||| put d 17 ||| put s 10 ||| put k 5 ||| put w 2 ||| put m 0)
  | .vstgr g d s k w m => some (0xDC000000#32 ||| put g 24 ||| put d 17 ||| put s 10 ||| put k 5 ||| put w 2 ||| put m 0)
  | .waitc g c n => some (0xF0000000#32 ||| put g 24 ||| put c 17 ||| put n 0)
  | .vamo d a k h w => some (0xF4000000#32 ||| put d 19 ||| put a 12 ||| put k 7 ||| put h 2 ||| put w 0)
  | .rep c d a b z => some (0xF8000000#32 ||| put c 20 ||| put d 17 ||| put a 14 ||| put b 11 ||| put z 10)
  | .vmov g d a m => some (0xFC000000#32 ||| put g 24 ||| put d 9 ||| put a 2 ||| put m 0)
  | .vnot g d a m => some (0xFC010000#32 ||| put g 24 ||| put d 9 ||| put a 2 ||| put m 0)
  | .viabs g d a m => some (0xFC020000#32 ||| put g 24 ||| put d 9 ||| put a 2 ||| put m 0)
  | .vineg g d a m => some (0xFC030000#32 ||| put g 24 ||| put d 9 ||| put a 2 ||| put m 0)
  | .vfneg g d a m => some (0xFC040000#32 ||| put g 24 ||| put d 9 ||| put a 2 ||| put m 0)
  | .vfabs g d a m => some (0xFC050000#32 ||| put g 24 ||| put d 9 ||| put a 2 ||| put m 0)
  | .vdneg g d a m => some (0xFC060000#32 ||| put g 24 ||| put d 9 ||| put a 2 ||| put m 0)
  | .vdabs g d a m => some (0xFC070000#32 ||| put g 24 ||| put d 9 ||| put a 2 ||| put m 0)
  | .vclz g d a m => some (0xFC080000#32 ||| put g 24 ||| put d 9 ||| put a 2 ||| put m 0)
  | .vpopc g d a m => some (0xFC090000#32 ||| put g 24 ||| put d 9 ||| put a 2 ||| put m 0)
  | .vtolog g d a m => some (0xFC100000#32 ||| put g 24 ||| put d 9 ||| put a 2 ||| put m 0)
  | .vfromlog g d a m => some (0xFC110000#32 ||| put g 24 ||| put d 9 ||| put a 2 ||| put m 0)
  | .vexp2l g d a m => some (0xFC120000#32 ||| put g 24 ||| put d 9 ||| put a 2 ||| put m 0)
  | .vlog2f g d a m => some (0xFC130000#32 ||| put g 24 ||| put d 9 ||| put a 2 ||| put m 0)
  | .mand g d b a => some (0xFC200000#32 ||| put g 24 ||| put d 9 ||| put b 5 ||| put a 2)
  | .mor g d b a => some (0xFC210000#32 ||| put g 24 ||| put d 9 ||| put b 5 ||| put a 2)
  | .mxor g d b a => some (0xFC220000#32 ||| put g 24 ||| put d 9 ||| put b 5 ||| put a 2)
  | .mandn g d b a => some (0xFC230000#32 ||| put g 24 ||| put d 9 ||| put b 5 ||| put a 2)
  | .mnot g d a => some (0xFC240000#32 ||| put g 24 ||| put d 9 ||| put a 2)
  | .mmov g d a => some (0xFC250000#32 ||| put g 24 ||| put d 9 ||| put a 2)
  | .mpopc g d a => some (0xFC260000#32 ||| put g 24 ||| put d 9 ||| put a 2)
  | .vrsum g d a m => some (0xFC300000#32 ||| put g 24 ||| put d 9 ||| put a 2 ||| put m 0)
  | .vrmin g d a m => some (0xFC310000#32 ||| put g 24 ||| put d 9 ||| put a 2 ||| put m 0)
  | .vrmax g d a m => some (0xFC320000#32 ||| put g 24 ||| put d 9 ||| put a 2 ||| put m 0)
  | .vrfsum g d a m => some (0xFC340000#32 ||| put g 24 ||| put d 9 ||| put a 2 ||| put m 0)
  | .vrfmin g d a m => some (0xFC350000#32 ||| put g 24 ||| put d 9 ||| put a 2 ||| put m 0)
  | .vrfmax g d a m => some (0xFC360000#32 ||| put g 24 ||| put d 9 ||| put a 2 ||| put m 0)
  | .vrdsum g d a m => some (0xFC380000#32 ||| put g 24 ||| put d 9 ||| put a 2 ||| put m 0)
  | .vrdmin g d a m => some (0xFC390000#32 ||| put g 24 ||| put d 9 ||| put a 2 ||| put m 0)
  | .vrdmax g d a m => some (0xFC3A0000#32 ||| put g 24 ||| put d 9 ||| put a 2 ||| put m 0)
  | .kmov g d a => some (0xFC400000#32 ||| put g 24 ||| put d 9 ||| put a 2)
  | .kadd g d a => some (0xFC410000#32 ||| put g 24 ||| put d 9 ||| put a 2)
  | .ksub g d a => some (0xFC420000#32 ||| put g 24 ||| put d 9 ||| put a 2)
  | .vpackE3m2 g s d a => some (0xFC600000#32 ||| put g 24 ||| put s 16 ||| put d 9 ||| put a 2)
  | .vunpkE3m2 g s d a => some (0xFC680000#32 ||| put g 24 ||| put s 16 ||| put d 9 ||| put a 2)
  | .vpack g w s d a => some (0xFC800000#32 ||| put g 24 ||| put w 20 ||| put s 16 ||| put d 9 ||| put a 2)
  | .vunpk g w s d a => some (0xFCC00000#32 ||| put g 24 ||| put w 20 ||| put s 16 ||| put d 9 ||| put a 2)
  | .mma z a b n i r => some (0x04000000#32 ||| put z 21 ||| put a 17 ||| put b 13 ||| put n 9 ||| put i 1 ||| put r 0)
  | .mmas z a b n s i r => some (0x08000000#32 ||| put z 21 ||| put a 17 ||| put b 13 ||| put n 9 ||| put s 2 ||| put i 1 ||| put r 0)
  | .sbp z a b n i r => some (0x0C000000#32 ||| put z 21 ||| put a 17 ||| put b 13 ||| put n 9 ||| put i 1 ||| put r 0)
  | .ephb b n => some (0x10000000#32 ||| put b 13 ||| put n 9)
  | .ephl b n => some (0x14000000#32 ||| put b 13 ||| put n 9)
  | .ephs b n => some (0x18000000#32 ||| put b 13 ||| put n 9)
  | .mzero z r => some (0x1C000000#32 ||| put z 21 ||| put r 0)
  | .fft2 a b n s i => some (0x20000000#32 ||| put a 17 ||| put b 13 ||| put n 9 ||| put s 1 ||| put i 0)
  | .fft3 a b n s i => some (0x24000000#32 ||| put a 17 ||| put b 13 ||| put n 9 ||| put s 1 ||| put i 0)
  | .fft4 a b n s i => some (0x28000000#32 ||| put a 17 ||| put b 13 ||| put n 9 ||| put s 1 ||| put i 0)
  | .fft5 a b n s i => some (0x2C000000#32 ||| put a 17 ||| put b 13 ||| put n 9 ||| put s 1 ||| put i 0)
  | .leg z a b n i y r => some (0x30000000#32 ||| put z 21 ||| put a 17 ||| put b 13 ||| put n 9 ||| put i 2 ||| put y 1 ||| put r 0)
  | .legi a b n => some (0x34000000#32 ||| put a 17 ||| put b 13 ||| put n 9)
  | .macq z => some (0x38000000#32 ||| put z 21)
  | .mrel z => some (0x3C000000#32 ||| put z 21)
  | .nadd d a b => some (0x40000000#32 ||| put d 22 ||| put a 18 ||| put b 14)
  | .nsub d a b => some (0x40000001#32 ||| put d 22 ||| put a 18 ||| put b 14)
  | .nand d a b => some (0x40000002#32 ||| put d 22 ||| put a 18 ||| put b 14)
  | .nor d a b => some (0x40000003#32 ||| put d 22 ||| put a 18 ||| put b 14)
  | .nxor d a b => some (0x40000004#32 ||| put d 22 ||| put a 18 ||| put b 14)
  | .nshl d a b => some (0x40000005#32 ||| put d 22 ||| put a 18 ||| put b 14)
  | .nshr d a b => some (0x40000006#32 ||| put d 22 ||| put a 18 ||| put b 14)
  | .nsra d a b => some (0x40000007#32 ||| put d 22 ||| put a 18 ||| put b 14)
  | .nmul d a b => some (0x40000008#32 ||| put d 22 ||| put a 18 ||| put b 14)
  | .nmin d a b => some (0x40000009#32 ||| put d 22 ||| put a 18 ||| put b 14)
  | .nmax d a b => some (0x4000000A#32 ||| put d 22 ||| put a 18 ||| put b 14)
  | .nminu d a b => some (0x4000000B#32 ||| put d 22 ||| put a 18 ||| put b 14)
  | .nmaxu d a b => some (0x4000000C#32 ||| put d 22 ||| put a 18 ||| put b 14)
  | .naddi d a i => some (0x44000000#32 ||| put d 22 ||| put a 18 ||| put i 0)
  | .nseth d a p v => some (0x48000000#32 ||| put d 22 ||| put a 18 ||| put p 16 ||| put v 0)
  | .nget d s => some (0x4C000000#32 ||| put d 22 ||| put s 0)
  | .mbr c a o => some (0x50000000#32 ||| put c 23 ||| put a 19 ||| put o 0)
  | .matrixEnd => some (0x54000000#32)
  | .mwake => some (0x58000000#32)
  | .cadd d a b => some (0x04000000#32 ||| put d 17 ||| put a 12 ||| put b 7)
  | .csub d a b => some (0x04000001#32 ||| put d 17 ||| put a 12 ||| put b 7)
  | .cand d a b => some (0x04000002#32 ||| put d 17 ||| put a 12 ||| put b 7)
  | .cor d a b => some (0x04000003#32 ||| put d 17 ||| put a 12 ||| put b 7)
  | .cxor d a b => some (0x04000004#32 ||| put d 17 ||| put a 12 ||| put b 7)
  | .cshl d a b => some (0x04000005#32 ||| put d 17 ||| put a 12 ||| put b 7)
  | .cshr d a b => some (0x04000006#32 ||| put d 17 ||| put a 12 ||| put b 7)
  | .csra d a b => some (0x04000007#32 ||| put d 17 ||| put a 12 ||| put b 7)
  | .cmul d a b => some (0x04000008#32 ||| put d 17 ||| put a 12 ||| put b 7)
  | .cmin d a b => some (0x04000009#32 ||| put d 17 ||| put a 12 ||| put b 7)
  | .cmax d a b => some (0x0400000A#32 ||| put d 17 ||| put a 12 ||| put b 7)
  | .cminu d a b => some (0x0400000B#32 ||| put d 17 ||| put a 12 ||| put b 7)
  | .cmaxu d a b => some (0x0400000C#32 ||| put d 17 ||| put a 12 ||| put b 7)
  | .caddi d a i => some (0x08000000#32 ||| put d 17 ||| put a 12 ||| put i 0)
  | .cseth d a i => some (0x0C000000#32 ||| put d 17 ||| put a 12 ||| put i 0)
  | .copy h d a b n k t s => some (0x10000000#32 ||| put h 22 ||| put d 17 ||| put a 12 ||| put b 7 ||| put n 3 ||| put k 2 ||| put t 1 ||| put s 0)
  | .copy2d h d a b n k t s => some (0x14000000#32 ||| put h 22 ||| put d 17 ||| put a 12 ||| put b 7 ||| put n 3 ||| put k 2 ||| put t 1 ||| put s 0)
  | .cgath h d a b e n k t s => some (0x18000000#32 ||| put h 22 ||| put d 17 ||| put a 12 ||| put b 7 ||| put e 4 ||| put n 3 ||| put k 2 ||| put t 1 ||| put s 0)
  | .cscat d a b e n t s => some (0x1C000000#32 ||| put d 17 ||| put a 12 ||| put b 7 ||| put e 4 ||| put n 3 ||| put t 1 ||| put s 0)
  | .fill h d a b n k t => some (0x20000000#32 ||| put h 22 ||| put d 17 ||| put a 12 ||| put b 7 ||| put n 3 ||| put k 2 ||| put t 1)
  | .pref a b => some (0x24000000#32 ||| put a 12 ||| put b 7)
  | .clds d a i => some (0x28000000#32 ||| put d 17 ||| put a 12 ||| put i 0)
  | .cldg d a i => some (0x2C000000#32 ||| put d 17 ||| put a 12 ||| put i 0)
  | .cbr c k o => some (0x30000000#32 ||| put c 23 ||| put k 18 ||| put o 0)
  | .copyEnd => some (0x34000000#32)
  | .hnop => some (0x00000000#32)
  | .hld d a i => some (0x10000000#32 ||| put d 24 ||| put a 20 ||| put i 0)
  | .hst a b i => some (0x20000000#32 ||| put a 20 ||| put b 16 ||| put i 0)
  | .hli d i => some (0x30000000#32 ||| put d 24 ||| put i 0)
  | .hlis d i => some (0x30100000#32 ||| put d 24 ||| put i 0)
  | .hadd d a b i => some (0x40000000#32 ||| put d 24 ||| put a 20 ||| put b 16 ||| put i 0)
  | .hsub d a b => some (0x50000000#32 ||| put d 24 ||| put a 20 ||| put b 16)
  | .hand d a b => some (0x60000000#32 ||| put d 24 ||| put a 20 ||| put b 16)
  | .hor d a b => some (0x70000000#32 ||| put d 24 ||| put a 20 ||| put b 16)
  | .hxor d a b => some (0x80000000#32 ||| put d 24 ||| put a 20 ||| put b 16)
  | .hshf d a k n => some (0x90000000#32 ||| put d 24 ||| put a 20 ||| put k 6 ||| put n 0)
  | .hfadd d a b f => some (0xA0000000#32 ||| put d 24 ||| put a 20 ||| put b 16 ||| put f 0)
  | .hcmp d a b c => some (0xB0000000#32 ||| put d 24 ||| put a 20 ||| put b 16 ||| put c 0)
  | .hsel d a b => some (0xC0000000#32 ||| put d 24 ||| put a 20 ||| put b 16)
  | .hbr c a i => some (0xD0000000#32 ||| put c 24 ||| put a 20 ||| put i 0)
  | .hret a => some (0xE0000000#32 ||| put a 20)
  | .hfail a => some (0xF0000000#32 ||| put a 20)
  | _ => none

/-- The 64-bit word of a collective step; none for everything else. -/
def encodeStep (i : Instr) : Option (BitVec 64) :=
  match i with
  | .collNop => some 0
  | .send ls pa pb buf wide ba bb => some (put64 0x01#6 58 ||| put64 ls 56 ||| put64 pa 48 ||| put64 pb 28 ||| put64 buf 24 ||| put64 (BitVec.ofBool wide) 22 ||| put64 ba 12 ||| put64 bb 0)
  | .recv ls pa pb buf ba bb => some (put64 0x02#6 58 ||| put64 ls 56 ||| put64 pa 48 ||| put64 pb 28 ||| put64 buf 24 ||| put64 ba 12 ||| put64 bb 0)
  | .rrs ls pa pb buf fwd ba bb => some (put64 0x03#6 58 ||| put64 ls 56 ||| put64 pa 48 ||| put64 pb 28 ||| put64 buf 24 ||| put64 (BitVec.ofBool fwd) 23 ||| put64 ba 12 ||| put64 bb 0)
  | .rrf ls pa pb buf ba bb => some (put64 0x04#6 58 ||| put64 ls 56 ||| put64 pa 48 ||| put64 pb 28 ||| put64 buf 24 ||| put64 ba 12 ||| put64 bb 0)
  | .collCopy ls dst src ba bb => some (put64 0x05#6 58 ||| put64 ls 56 ||| put64 dst 20 ||| put64 src 24 ||| put64 ba 12 ||| put64 bb 0)
  | .bcast buf root => some (put64 0x06#6 58 ||| put64 buf 24 ||| put64 root 0)
  | .xpose buf => some (put64 0x07#6 58 ||| put64 buf 24)
  | .wait buf n => some (put64 0x08#6 58 ||| put64 buf 24 ||| put64 n 0)
  | .signal buf n => some (put64 0x09#6 58 ||| put64 buf 24 ||| put64 n 0)
  | .loop ls limit => some (put64 0x0A#6 58 ||| put64 ls 56 ||| put64 limit 0)
  | .endl ls => some (put64 0x0B#6 58 ||| put64 ls 56)
  | _ => none

/-- The instruction set a bare word is read in: the word alone does not name its engine (R85), so the sets are tried in
the order copy, matrix, handler, scalar, vector (the sets with the most reserved bits first) for words, and collective for longer ones. -/
noncomputable def tableIsa (w : BitVec 32) : Option (Isa × Instr) :=
  firstOk [.copy, .matrix, .handler, .scalar, .vector]
where
  firstOk (l : List Isa) : Option (Isa × Instr) :=
    match l with
    | [] => none
    | isa :: rest =>
      match decode isa w with
      | .ok i => some (isa, i)
      | .error _ => firstOk rest

/-- The instruction this decoder reads from the bits of an opcode-table row; words longer than 32 bits are steps. -/
noncomputable def decodeTableWord (nbits w : Nat) : Option Instr :=
  if nbits ≤ 32 then (tableIsa (BitVec.ofNat 32 w)).map (·.2)
  else match decodeStep (BitVec.ofNat 64 w) with
    | .ok i => some i
    | .error _ => none

end Sys2Proof
end

