-- ==== Sys2Proof/Machine/State.lean ====
section
/-!
DEFINITION. The state of one ES480 package as plain data: everything the spec gives the machine (INVENTORY.md lists
each piece with its rule), the reasons a step can stop, and the state right after reset.
-/

namespace Sys2Proof.Machine

open Sys2Proof

/-- Memory: address and byte pairs in canonical form; an unlisted byte reads 0. -/
abbrev Memory := List Host.Cell

/-- Who issues an instruction: a tile engine (it runs the resident Tile.cur names), a supervisor core, the
collective program of a communicator, or the near-memory engine of a home slice. -/
inductive Agent where
  | eng (t : Nat) (e : Eng)
  | sv (core : Nat)
  | coll (c : Nat)
  | near (slice : Nat)
deriving DecidableEq, Repr

/-- One choice of the world: an agent's turn, an event of the opcode table, or the passing of stamp periods (R25). -/
inductive Move where
  | turn (a : Agent)
  | event (i : Instr)
  | tick (n : Nat)
deriving DecidableEq, Repr

/-- A program that executes instructions of a tile engine, or a supervisor core's (R9, R127). h is the resident
handle: tile + 512 × resident number (R150). -/
inductive Who where
  | task (h : Nat) (e : Eng)
  | sv (core : Nat)
deriving DecidableEq, Repr

/-- The condition a wait tests, and what a false wait leaves behind to be tested again (R30, R31, R238). -/
inductive Wait where
  | ringFree (b n : Nat)
  | ringFilled (b n : Nat)
  | ringTail (b : Nat) (x : BitVec 32)
  | mark (ch : Nat) (a : Word)
  | event (handle target : Word)
  | counter (w n : Nat)
  | counterRoom (w : Nat)
  | slabEmpty (z : Nat) (vec : Bool)
  | slabFull (z : Nat) (vec : Bool)
  | portIn (q : Nat)
  | portOut (q : Nat)
  | join
  | barrier (handle : Word)
  | held (global : Bool) (addr n : Nat) (except : Option Nat)
  | outcome (id : Nat)
deriving DecidableEq, Repr

/-- A fault record before its queue number is given (R304). -/
structure FaultRec where
  code : BitVec 8
  src : BitVec 8
  flags : BitVec 8
  lane : BitVec 8
  handle : BitVec 16
  asid : BitVec 14
  iaddr : Word
  vaddr : Word
  nodeInst : BitVec 24
  taskNum : BitVec 20
  detail : Word
  comm : Word
  repidx : BitVec 8
deriving DecidableEq, Repr

/-- What a resumption acts on (R307): the instruction itself, the lanes from f on, repetition j of n of a REP sequence (from lane f on, 128 for
the whole of it), a deferred remote operation, a deferred vector access, a staged output vector, a prefix with its word, a datapath instruction or transfer under way, an argument word that could not be read, or a wait. -/
inductive ParkKind where
  | instr
  | lane (f : Nat)
  | rept (j n f : Nat)
  | remote (id : Nat)
  | vector (id : Nat)
  | stream (q : Nat)
  | pair
  | work
  | args (failed : Nat)
  | waiting (x : Wait)
deriving DecidableEq, Repr

/-- Why a program stands parked (R35). -/
structure Park where
  kind : ParkKind
  fault : FaultRec
deriving DecidableEq, Repr

/-- An engine program of a resident: its program counter (the scalar one is in SCtx), the wait that begins its next
block, whether a watchdog skip has completed that wait (R308), the instructions issued in its block (R32) and since
the engine last switched to it (R47), whether a control transfer's block boundary is still to come (R30), the stamp at which its wait began (R308),
the id below which the accesses of a fence's set A lie while the fence holds the engine (R246; the scalar one's is in SCtx), its park record. -/
structure Prg where
  pc : Addr
  wait : Option Wait
  pass : Bool
  blk : Nat
  turn : Nat
  bnd : Bool
  since : Word
  fence : Option Nat
  park : Option Park
deriving DecidableEq, Repr

/-- A scalar program's registers, PC queue, annul bits and trap registers (R12, R22 to R24). -/
structure SCtx where
  sregs : FMap Word
  pc : Addr
  nx1 : Addr
  nx2 : Addr
  a0 : Bool
  a1 : Bool
  tvec : Addr
  tcause : Word
  tstat : Word
  tcmp : Word
  epc : Addr
  enx1 : Addr
  enx2 : Addr
  eann : BitVec 2
  fence : Option Nat
deriving DecidableEq, Repr

/-- The destination of a fixed-latency vector write. -/
inductive VTgt where
  | vreg (n : Nat)
  | mask (n : Nat)
deriving DecidableEq, Repr

/-- A fixed-latency write that has not landed (R97, R98): it lands at distance position at_, in the bits of en, and the sticky
flags of flg (RCTL bits 7:4) are set then, when its instruction completes (R14, R60, R159). -/
structure PendW where
  at_ : Nat
  tgt : VTgt
  val : VReg
  en : VReg
  flg : BitVec 4
deriving DecidableEq, Repr

/-- A matrix datapath instruction in execution or stopped part-way, with its snapshot (R195, R315); asleep while
a sub-array it needs wakes (R226). id orders its issue among the program's accesses (R246). -/
structure DataPath where
  id : Nat
  instr : Instr
  iaddr : Addr
  shape : Word
  qa : BitVec 512
  qb : BitVec 512
  units : Nat
  asleep : Bool
  stopped : Bool
deriving DecidableEq, Repr

/-- The transfers of R227. -/
inductive XOp where
  | copy | copy2d | cgath | cscat | fill | pref
deriving DecidableEq, Repr

/-- A granule access under way (R283): bytes lo to lo + len - 1 of a transfer's data, which go to one 64-byte destination granule, at address dst. src are its
source runs (offset in the granule, length, address), places and into where source and destination bytes stand (offset, length, place), got the bytes read so
far; ready says that its stores have their data, put counts the bytes written to the scratchpad. -/
structure Gran where
  lo : Nat
  len : Nat
  dst : Nat
  src : List (Nat × Nat × Nat)
  places : List (Nat × Nat × Nat)
  into : List (Nat × Nat × Nat)
  got : FMap Byte
  ready : Bool
  put : Nat
deriving DecidableEq, Repr

/-- A copy transfer in execution or stopped part-way: its word's fields (R229) and its operand values as read at issue
(R228, R315). id orders its issue among the program's accesses (R246). pos counts the bytes of its data that are done, next those whose granule accesses have begun, grans are the granule accesses under way, point says
that it stands at a progress point (R232). wrote lists the ranges written so far with the bytes that stood there and those written, which a
later read of the same bytes may return (indexed overlap and aliases, R230). -/
structure Xfer where
  id : Nat
  op : XOp
  ch : Option Nat
  nt : Bool
  ds : Bool
  ss : Bool
  esz : Nat
  word : BitVec 32
  iaddr : Addr
  opd : Word
  opa : Word
  opb : Word
  opb1 : Word
  pos : Nat
  next : Nat
  point : Bool
  stopped : Bool
  grans : List Gran
  wrote : List (Nat × List Byte × List Byte)
deriving DecidableEq, Repr

/-- The remote sequence state of a task toward one owner package (R315, R350, R356): finished are completed sequences above ct, seen the completed-through value that
the owner is known to have received (R357). -/
structure SeqState where
  next : BitVec 32
  ct : BitVec 32
  inc : BitVec 16
  outstanding : BitVec 32
  finished : List (BitVec 32)
  seen : BitVec 32
deriving DecidableEq, Repr

/-- The states of a resident (R43). -/
inductive Life where
  | free | loading | active | saving | restoring | draining
deriving DecidableEq, Repr

/-- Which task of which graph a resident or a waiting place holds (R337, R348); placedAt orders placements (R344); tile is where it was
placed last. -/
structure TaskRef where
  graph : Nat
  node : Nat
  index : Nat
  replay : Nat
  asid : BitVec 14
  nodeInst : BitVec 24
  level : BitVec 2
  argBase : Word
  cohort : Word
  rank : Word
  replayed : Bool
  placedAt : Nat
  tile : Nat
deriving DecidableEq, Repr

/-- A supervisor write held until the resident allows it (R27, R46). -/
structure HeldWrite where
  core : Nat
  reg : Nat
  value : Word
  cr : Nat
deriving DecidableEq, Repr

/-- A resident (R12, R43): one slot of a tile that holds one task's context. rep is the next repetition of the REP sequence
that stands at the vector pc; VCTL.REPIDX shows it only while the sequence is interrupted (R104). lanesDone is the number
of low lanes a lane-faulted instruction has performed (R183). ahead and fetch hold the vectors fetched ahead of an input
stream's staging and the bytes of those still arriving (R249). -/
structure Resident where
  life : Life
  task : Option TaskRef
  asid : BitVec 14
  nodeInst : BitVec 24
  taskNum : BitVec 20
  prio : BitVec 2
  sc : SCtx
  s : Prg
  v : Prg
  m : Prg
  c : Prg
  vregs : FMap VReg
  mregs : FMap (BitVec 128)
  kregs : FMap Word
  nregs : FMap Word
  cregs : FMap Word
  wcnt : FMap (BitVec 6)
  streams : FMap (BitVec 512)
  staged : BitVec 8
  pushed : FMap Nat
  ahead : FMap (List (BitVec 4096))
  fetch : FMap (FMap Byte)
  portFault : FMap (Option FaultRec)
  rctl : Word
  rng : Word
  taskIdx : Word
  cohort : Word
  rank : Word
  argBase : Word
  estat : BitVec 8
  vctl : Word
  slabWin : BitVec 32
  ringWin : BitVec 32
  chWin : BitVec 16
  ephWin : BitVec 24
  spWin : BitVec 64
  mprog : FMap (BitVec 32)
  cprog : FMap (BitVec 32)
  pend : List PendW
  vpos : Nat
  rep : Nat
  lanesDone : Nat
  dp : Option DataPath
  xf : Option Xfer
  deferred : List Nat
  preempt : Bool
  held : List HeldWrite
  seqs : FMap SeqState
  kept : FMap (BitVec 10 × Serial)
  ccomms : FMap Nat
  cstarts : FMap Nat
  saves : Word
deriving DecidableEq, Repr

/-- A ring register (R19). -/
structure Ring where
  base : BitVec 22
  slotsz : BitVec 17
  nslots : BitVec 13
  head : BitVec 32
  tail : BitVec 32
  claim : BitVec 32
  cfg : Bool
  hslot : BitVec 12
deriving DecidableEq, Repr

/-- A channel register (R20), the ASID that armed it (R21), and whether a transfer or collective is filling it (R243). -/
structure Chan where
  space : Bool
  base : BitVec 56
  limit : BitVec 56
  wm : BitVec 56
  asid : BitVec 14
  filling : Bool
deriving DecidableEq, Repr

/-- The states of an Ephemeris slot (R17, R213). -/
inductive EphSt where
  | invalid | valid | rejected
deriving DecidableEq, Repr

/-- An Ephemeris group slot: 72 bytes and its validity (R211). -/
structure EphSlot where
  bits : BitVec 576
  st : EphSt
deriving DecidableEq, Repr

/-- What a walk found (R295): a leaf at a level, or a fault code with its DETAIL. -/
inductive WalkResult where
  | leaf (level : Nat) (e : BitVec 64)
  | bad (code : BitVec 8) (detail : Word)
deriving DecidableEq, Repr

/-- A translation held by a tile or a quadrant (R299): the 64 KiB page number it was asked for, and what it maps. -/
structure TlbEntry where
  asid : BitVec 14
  page : Nat
  res : WalkResult
deriving DecidableEq, Repr

/-- A tile's own state (R17, R31, R34, R225, R299). gated are the clock-gated engines; waking marks an MWAKE that waits. -/
structure Tile where
  slabfe : BitVec 32
  slabs : FMap (BitVec 32)
  spad : Memory
  rings : FMap Ring
  chans : FMap Chan
  eph : FMap EphSlot
  mgate : Word
  cur : FMap (Option Nat)
  last : FMap Nat
  gated : BitVec 4
  waking : Bool
  tlb : List TlbEntry
deriving DecidableEq, Repr

/-- A supervisor core (R318, R396). -/
structure SvCore where
  sc : SCtx
  running : Bool
  stopped : Bool
  sasid : BitVec 14
  fqbase : BitVec 52
  fqsize : BitVec 17
  fqhead : BitVec 32
  fqtail : BitVec 32
  sfaddr : Word
  waiting : List FaultRec
  nextSeq : Word
  mailbox : FMap Byte
deriving DecidableEq, Repr

/-- Who made an access; orr is the Orrery, for node k % 4096 of graph k / 4096, or for its command ring. -/
inductive Owner where
  | task (h : Nat)
  | sv (core : Nat)
  | coll (c : Nat)
  | host (port : Bool)
  | orr (k : Nat)
deriving DecidableEq, Repr

/-- A physical target: the leaf's aperture, address and peer package (R294, R320). -/
structure Target where
  aper : BitVec 3
  pa : Nat
  peer : BitVec 10
  kind : BitVec 2
deriving DecidableEq, Repr

/-- Where a load's value goes; flush marks the zero-length read that flushes a host port (R289), host a piece of the host's read k (R290). -/
inductive Dest where
  | none
  | sreg (d : Nat) (signed : Bool)
  | creg (d : Nat)
  | lane (vop lane : Nat)
  | xfer (off : Nat)
  | port (q off : Nat)
  | record
  | flush
  | host (k off : Nat)
deriving DecidableEq, Repr

/-- A global access that has issued and is not yet performed (a load) or committed (a store): R124, R276 to R280.
fenced and fencedU hold the id from which later accesses of the path stand behind a fence of fn 0 or 1, or of fn 1; serial is that of a store to an SO peer page, taken
at its issue (R350); since is the stamp of its issue. -/
structure GAcc where
  id : Nat
  owner : Owner
  path : BitVec 3
  isStore : Bool
  tgt : Target
  va : Nat
  asid : BitVec 14
  n : Nat
  data : List Byte
  acq : Bool
  rel : Bool
  scope : BitVec 3
  dest : Dest
  failed : Option RStatus
  sent : Bool
  combining : Bool
  nt : Bool
  iaddr : Addr
  fenced : Option Nat
  fencedU : Option Nat
  serial : Option Serial
  since : Word
deriving DecidableEq, Repr

/-- The space of a vector access. -/
inductive VSpace where
  | scratch | global | slab (z row : Nat) (change : Bool)
deriving DecidableEq, Repr

/-- A variable-latency vector access that has not completed (R101, R181, R189, R191): lanes still to perform, their
addresses, the data read at issue or loaded so far. A finished load stays listed, with the old value of its destination
and the order in which it reported, until a WAITC covers it (R101, R190). failed are lanes whose target failed, fault the
record to deliver (R184). part marks the performed part of a lane-faulted load: its completion pushes nothing into a port (R183, R188). -/
structure VOp where
  id : Nat
  h : Nat
  iaddr : Addr
  ctr : Option Nat
  load : Bool
  remote : Bool
  vd : Nat
  space : VSpace
  todo : BitVec 128
  all : BitVec 128
  addrs : FMap Nat
  data : VReg
  failed : BitVec 128
  fault : Option FaultRec
  old : VReg
  order : Nat
  finished : Bool
  part : Bool
deriving DecidableEq, Repr

/-- A page walk in flight at a quadrant service, with the tiles (or 288 + core) that wait for it (R300). -/
structure Walk where
  quad : Nat
  asid : BitVec 14
  page : Nat
  waiters : List Nat
deriving DecidableEq, Repr

/-- Where the value of a remote operation goes (R148, R252). -/
inductive RDest where
  | none
  | sreg (d : Nat) (w : Nat) (signed : Bool)
  | pair (d : Nat)
  | lane (vop lane : Nat) (w : Nat) (write : Bool)
  | access (id : Nat)
  | barrier (handle : Word)
  | cohortInfo (handle : Word)
  | eventInfo (handle : Word)
deriving DecidableEq, Repr

/-- What a request waits for before it leaves (R245, R287): nothing, the earlier accesses of path S to SO and RC pages
performed at its scope, or every earlier access of its program performed and committed. -/
inductive Leave where
  | free | release | all
deriving DecidableEq, Repr

/-- An outstanding remote operation at its requester (R124, R251, R256); since is the stamp of its issue. -/
structure ROut where
  id : Nat
  owner : Owner
  path : BitVec 3
  peer : BitVec 10
  dest : RDest
  va : Nat
  tgt : Target
  iaddr : Addr
  req : RReq
  scope : BitVec 3
  leave : Leave
  status : Option RStatus
  inc : BitVec 16
  busy : Bool
  answer : BitVec 128
  data : List Byte
  since : Word
deriving DecidableEq, Repr

/-- An Afterglow entry that is not free (R352): pending while its operation runs, then live, then retirable. -/
structure AgEntry where
  pkg : BitVec 10
  serial : Serial
  handler : BitVec 5
  result : BitVec 128
  status : RStatus
  pending : Bool
  retirable : Bool
  chunk : Bool
deriving DecidableEq, Repr

/-- A floor record (R353). -/
structure FloorRec where
  pkg : BitVec 10
  asid : BitVec 14
  nodeInst : BitVec 24
  taskNum : BitVec 20
  floor : BitVec 32
deriving DecidableEq, Repr

/-- A completed-through value on its way to an owner (R356). -/
structure AckMsg where
  src : BitVec 10
  asid : BitVec 14
  nodeInst : BitVec 24
  taskNum : BitVec 20
  ct : BitVec 32
deriving DecidableEq, Repr

/-- A handler slot: declared width and image (R252, R259). -/
structure HSlot where
  w : Nat
  prog : List (BitVec 32)
deriving DecidableEq, Repr

/-- A handler run (R260, R261). -/
structure HRun where
  prog : List (BitVec 32)
  idx : Nat
  w : Nat
  regs : FMap Word
  buf : FMap (Option Byte)
  window : Nat
  req : RReq
  serialEntry : Bool
deriving DecidableEq, Repr

/-- A member of a cohort (R40 to R42): the task that holds the rank (key tells the nodes of a replay apart), whether it got the rank at launch, whether it has
arrived in the current generation, whether its BAR waits still (a skipped one does not, R152), whether a completed generation has let it pass, and the last
request by which a task of another package arrived. -/
structure Member where
  key : BitVec 26
  asid : BitVec 14
  nodeInst : BitVec 24
  taskNum : BitVec 20
  pkg : BitVec 10
  atLaunch : Bool
  arrived : Bool
  waits : Bool
  passed : Bool
  reply : Option Nat
deriving DecidableEq, Repr

/-- A cohort object (R40 to R42). -/
structure Cohort where
  live : Bool
  handle : Word
  asid : BitVec 14
  size : Nat
  graph : Nat
  members : FMap (Option Member)
  gen : Nat
deriving DecidableEq, Repr

/-- What an armed dependant belongs to: an in-edge of a node of the running instance of a graph (R333, R338). -/
structure Dependant where
  graph : Nat
  node : Nat
  edge : Nat
  threshold : BitVec 64
  base : BitVec 64
deriving DecidableEq, Repr

/-- An event object (R331, R333). -/
structure EventObj where
  live : Bool
  asid : BitVec 14
  gen : BitVec 16
  count : BitVec 64
  status : BitVec 64
  deps : List Dependant
deriving DecidableEq, Repr

/-- An update on its way to an event object, which it names with its generation (R331, R334); keep leaves the count as it stands when the cancel form arrives (R338). -/
structure EventUpd where
  idx : Nat
  gen : BitVec 16
  op : ROp
  keep : Bool
deriving DecidableEq, Repr

/-- The launch record of a task image (R121), as read at registration. -/
structure LaunchRec where
  entry : Word
  slabs : BitVec 32
  rings : BitVec 32
  chans : BitVec 16
  eph : Nat
  window : Nat
  args : Nat
  seed : Word
deriving DecidableEq, Repr

/-- A node of a registered graph (R337): header fields, edges, the 48 kind-specific bytes, and its image's launch record. -/
structure GNode where
  kind : Nat
  flags : BitVec 8
  nin : Nat
  done : Word
  edges : List (Word × Word)
  spec : BitVec 384
  image : Option LaunchRec
deriving DecidableEq, Repr

/-- A graph object (R331, R336). -/
structure Graph where
  live : Bool
  asid : BitVec 14
  gen : BitVec 16
  prio : BitVec 2
  rcnt : Nat
  stride : Word
  completion : Word
  nodes : List GNode
deriving DecidableEq, Repr

/-- A queued instance of a graph (R331, R336). -/
structure QInst where
  graph : Nat
  first : BitVec 24
  rebase : Word
  level : BitVec 2
deriving DecidableEq, Repr

/-- The states of a node in a replay (R338, R339). -/
inductive NState where
  | waiting | ready | running | done | failed
deriving DecidableEq, Repr

/-- A node in a running replay. -/
structure NodeRun where
  st : NState
  fired : BitVec 4
  placed : Nat
  counted : Nat
deriving DecidableEq, Repr

/-- The running instance of a graph (R339). -/
structure RunInst where
  inst : QInst
  replay : Nat
  started : Bool
  cancelled : Bool
  nodes : FMap NodeRun
  order : List Nat
  incs : FMap (BitVec 16)
deriving DecidableEq, Repr

/-- A saved task, held on the tile it left (R45, R315): its save area and windows, the resident it is being restored into, and
what the save area has no place for. Its failed operations stand under the handle 65536 + area meanwhile. -/
structure SavedTask where
  ref : TaskRef
  tile : Nat
  area : Nat
  slabWin : BitVec 32
  ringWin : BitVec 32
  chWin : BitVec 16
  ephWin : BitVec 24
  spWin : BitVec 64
  into : Option Nat
  rest : Resident
deriving DecidableEq, Repr

/-- Ephemeris slots kept for a build key (R345). -/
structure Reservation where
  graph : Nat
  key : BitVec 16
  index : Nat
  tile : Nat
  first : BitVec 12
  count : BitVec 12
deriving DecidableEq, Repr

/-- The run state of a communicator member (R250, R271, R272): stopped carries the cause code. -/
inductive CRun where
  | idle | running | stopped (cause : Nat) | completed
deriving DecidableEq, Repr

/-- Where the bytes of a sent stream come from: a range of a descriptor's buffer, raw or widened from its format; results of a
reduction, in given; the gather of a transpose block for a rank. -/
inductive SSrc where
  | range (buf lo : Nat)
  | wider (buf lo fmt : Nat)
  | made
  | block (rank : Nat)
deriving DecidableEq, Repr

/-- A stream a member sends (R266, R267): chunks staged, sent and accepted so far; k0 is the serial ordinal of its first
chunk, given the results of a reduction with their MISS, refused whether it waits for a grant (R371). -/
structure SendStream where
  dest : Nat
  kind : StreamKind
  wide : Bool
  ord : Nat
  k0 : Nat
  total : Nat
  src : SSrc
  given : List (List Byte × BitVec 64)
  staged : Nat
  sent : Nat
  accepted : Nat
  refused : Bool
deriving DecidableEq, Repr

/-- A receive window (R371): its sender, the chunks in its slots, and the credits its sender holds for it. -/
structure CWindow where
  sender : Nat
  chunks : List Chunk
  out : Nat
deriving DecidableEq, Repr

/-- What an executing step does. -/
inductive StepKind where
  | send | recv | rrs | rrf | copy | bcast | xpose | signal
deriving DecidableEq, Repr

/-- The step a member is executing, once it has begun (R267): the stream it receives (from, ord), the buffer bytes it covers, how
many bytes of them are done, the blocks of a transpose done, its parameter block, the stamp at which it
began, whether a flush ends it with what has come (R374), the serials of the chunks it has used. -/
structure StepRun where
  kind : StepKind
  peer : Nat
  ord : Nat
  buf : Nat
  lo : Nat
  len : Nat
  src : Nat
  off : Nat
  m : Nat
  par : BitVec 1024
  began : Word
  flush : Bool
  used : List (BitVec 10 × Serial)
deriving DecidableEq, Repr

/-- A communicator member (R263, R364 to R376). -/
structure Comm where
  live : Bool
  handle : Word
  asid : BitVec 14
  cohort : Word
  ordinal : Nat
  rank : Nat
  size : Nat
  cls : BitVec 2
  slots : Nat
  chunkBytes : Nat
  bounded : Bool
  timeout : BitVec 32
  pkgs : FMap (BitVec 10)
  run : CRun
  runs : Nat
  status : BitVec 4
  ident : BitVec 84
  startBy : Owner
  starts : List (BitVec 84 × Nat)
  prog : List (BitVec 64)
  progAddr : Word
  pos : Nat
  descs : List (BitVec 256)
  captured : FMap Word
  event : Word
  incr : Word
  loops : List (Nat × Nat × Nat)
  ctrs : FMap Nat
  step : Option StepRun
  sends : List SendStream
  windows : List CWindow
  refusals : List Nat
  credits : FMap Nat
  staging : List (Nat × Chunk)
  deficit : Nat
  chunkOrd : FMap Nat
  delivered : FMap (Nat × Nat)
  sendOrd : FMap Nat
  recvOrd : FMap Nat
  bcasts : Nat
  miss : BitVec 64
  stragglers : Nat
  incomplete : Bool
  moved : Word
  replays : Option (FMap (BitVec 16))
deriving DecidableEq, Repr

/-- A fabric port (R389): STATE, PEERPKG, PEERINC, the stamp of its last PREP or ENABLE, failed replays in a row by codeword count (R383), packets queued, flits that
have gone of the first packet of each channel (R384), flits sent in all, and by channel the count at which it was last served. -/
structure Port where
  state : BitVec 4
  since : Word
  peerPkg : BitVec 10
  peerInc : BitVec 16
  fails : FMap Nat
  queue : List Packet
  part : FMap Nat
  sent : Nat
  served : FMap Nat
deriving DecidableEq, Repr

/-- A packet that is not yet acknowledged, or an acknowledged request that is not answered (R388): how often it was transmitted, the
stamp of its last transmission or acknowledgement, the route entry it took, the entries it avoids (R387). -/
structure Unacked where
  pkt : Packet
  tries : Nat
  acked : Bool
  since : Word
  path : Option Nat
  avoid : List Nat
deriving DecidableEq, Repr

/-- The transport toward one package (R388): the next sequence, the unacknowledged packets, those held back behind 8,192 of them, the next sequence
expected, the packets that came early. -/
structure Transport where
  next : BitVec 32
  unacked : List Unacked
  waiting : List Payload
  expected : BitVec 32
  early : List Packet
deriving DecidableEq, Repr

/-- An event counter (R404). -/
structure Counter where
  ctl : Word
  value : Word
deriving DecidableEq, Repr

/-- A telemetry record of one lane (R391). -/
structure LaneRec where
  counters : BitVec 64
  logical : BitVec 16
  mapgen : BitVec 16
  latch : BitVec 32
deriving DecidableEq, Repr

/-- The boot image of the flash (R395): what the trusted firmware writes at boot. An input of the machine. -/
structure BootImage where
  signed : Bool
  entry : Addr
  sasid : BitVec 14
  sasidEntry : BitVec 128
  atbase : BitVec 52
  svpool : BitVec 52
  svpooln : BitVec 20
  rights : FMap (BitVec 256)
  cells : Memory
deriving DecidableEq, Repr

/-- A write posted on a host port (R288): port, bus address, bytes, Relaxed Ordering. -/
structure HostPost where
  port : Bool
  addr : Nat
  data : List Byte
  ro : Bool
deriving DecidableEq, Repr

/-- A posted write that its port has carried since the last flush (R289): port, the owner, path and id of the access it came from, the id count when it was posted. -/
structure Posted where
  port : Bool
  owner : Owner
  path : BitVec 3
  id : Nat
  at_ : Nat
deriving DecidableEq, Repr

/-- An entry of a page-walk cache (R299): the table of a level (1 to 3) for the addresses of one index path. -/
structure PwcEntry where
  asid : BitVec 14
  lvl : Nat
  page : Nat
  table : Nat
deriving DecidableEq, Repr

/-- The whole machine: one package. -/
structure State where
  -- the model's own interleaving, counters and identity
  agenda : List Move
  turn : Agent
  fresh : Nat
  nextId : Nat
  pkgId : BitVec 10
  stamp : Word
  -- tiles, residents, supervisor cores
  tiles : FMap Tile
  residents : FMap Resident
  svs : FMap SvCore
  wdog : BitVec 32
  svpool : BitVec 52
  svpooln : BitVec 20
  atbase : BitVec 52
  -- global memory
  mem : Memory
  poison : List Nat
  corrected : FMap Nat
  retired : List Nat
  pinned : List (Nat × BitVec 14 × Nat)
  directory : FMap (BitVec 4)
  gaccs : List GAcc
  vops : List VOp
  walks : List Walk
  stlbs : FMap (List TlbEntry)
  hostOut : List HostPost
  pwcs : FMap (List PwcEntry)
  unflushed : List Posted
  hostTimeout : FMap Nat
  hostReads : List (List Byte)
  -- cohorts and the Orrery
  cohorts : FMap Cohort
  events : FMap EventObj
  updates : List EventUpd
  peerCounts : List (Word × Word)
  peerStatus : List (Word × Word)
  peerDeps : List (Word × Dependant)
  graphs : FMap Graph
  queues : List QInst
  running : List RunInst
  graphTurn : FMap Nat
  waitReplay : List TaskRef
  saved : List SavedTask
  lost : List TaskRef
  reservations : List Reservation
  crbase : Word
  crsize : Word
  crhead : Word
  crtail : Word
  binds : List (Word × Nat)
  cmdFailed : Bool
  msix : Word
  aer : Nat
  i3cReport : Bool
  -- exactly-once remote operations
  inc : BitVec 16
  peerInc : FMap (BitVec 16)
  sysSeqs : FMap SeqState
  afterglow : FMap (List AgEntry)
  floors : FMap (List FloorRec)
  routs : List ROut
  requests : List RReq
  responses : List RResp
  acks : List AckMsg
  retires : List AckMsg
  hslots : FMap HSlot
  hruns : FMap (Option HRun)
  -- collective engines
  comms : FMap Comm
  ccount : List (Word × Nat × Nat)
  formed : List (BitVec 84 × Word × Nat × Word)
  collTurn : FMap Nat
  recs : FMap (FMap Byte)
  chunks : List Chunk
  chunkParts : List Chunk
  creditMsgs : List CreditMsg
  -- fabric
  ports : FMap Port
  routes : FMap (BitVec 16)
  lanes : FMap (Option Nat)
  mapgen : BitVec 16
  lremap : Word
  laneCounters : FMap (BitVec 16)
  laneSyms : FMap (BitVec 32)
  telemetry : FMap LaneRec
  latches : BitVec 32
  transports : FMap Transport
  meshRetry : FMap Nat
  meshFenced : List Nat
  meshNotes : List Nat
  -- platform
  rights : FMap (BitVec 256)
  classes : FMap (BitVec 6)
  diectl : FMap (BitVec 4)
  llcpin : FMap (BitVec 16)
  dvfs : FMap (BitVec 5)
  pcap : BitVec 12
  counters : FMap Counter
  measures : FMap Word
  flash : BootImage
  booted : Bool
deriving DecidableEq, Repr

/-- Why the machine itself stops. The part's own faults are not among these: they park a program or trap a supervisor
core and the machine goes on (R35, R310). -/
inductive Fault where
  /-- Raised by step when the agent whose turn it is does not exist in a package (a tile above 287, a supervisor core
  above 7, a slice above 63). Safe: no run of the part has such an agent. -/
  | noSuchAgent
deriving DecidableEq, Repr

/-- Why an instruction has no meaning in the model. -/
inductive Refusal where
  /-- Raised by a dispatch arm whose instruction has no meaning yet. Safe: nothing is claimed of it. -/
  | notModelled (mnemonic : String)
deriving DecidableEq, Repr

/-- A scalar context at its start values (R12). -/
def SCtx.start : SCtx :=
  { sregs := [], pc := 0, nx1 := 0, nx2 := 0, a0 := false, a1 := false, tvec := 0, tcause := 0, tstat := 0,
    tcmp := 0xFFFFFFFFFFFFFFFF#64, epc := 0, enx1 := 0, enx2 := 0, eann := 0, fence := none }

/-- An engine program that has not started. -/
def Prg.start : Prg := { pc := 0, wait := none, pass := false, blk := 0, turn := 0, bnd := false, since := 0, fence := none, park := none }

/-- A FREE resident: the start values of R12, no task, no windows. -/
def Resident.start : Resident :=
  { life := .free, task := none, asid := 0, nodeInst := 0, taskNum := 0, prio := 0, sc := SCtx.start,
    s := Prg.start, v := Prg.start, m := Prg.start, c := Prg.start, vregs := [], mregs := [], kregs := [], nregs := [],
    cregs := [], wcnt := [], streams := [], staged := 0, pushed := [], ahead := [], fetch := [], portFault := [], rctl := 0, rng := 1,
    taskIdx := 0, cohort := 0, rank := 0, argBase := 0, estat := 1, vctl := 0, slabWin := 0, ringWin := 0, chWin := 0,
    ephWin := 0, spWin := 0, mprog := [], cprog := [], pend := [], vpos := 0, rep := 0, lanesDone := 0, dp := none, xf := none,
    deferred := [], preempt := false, held := [], seqs := [], kept := [], ccomms := [], cstarts := [], saves := 0 }

/-- Sequence state toward an owner nothing has been sent to: the next sequence is 1 (R350). -/
def SeqState.start : SeqState := { next := 1, ct := 0, inc := 0, outstanding := 0, finished := [], seen := 0 }

/-- An unconfigured ring (R17). -/
def Ring.start : Ring :=
  { base := 0, slotsz := 0, nslots := 0, head := 0, tail := 0, claim := 0, cfg := false, hslot := 0 }

/-- An idle channel: BASE = LIMIT = WM = 0 (R243). -/
def Chan.start : Chan := { space := false, base := 0, limit := 0, wm := 0, asid := 0, filling := false }

/-- An invalid Ephemeris slot (R17). -/
def EphSlot.start : EphSlot := { bits := 0, st := .invalid }

/-- A tile at reset: MGATE.IDLE is 4,096 (R225). -/
def Tile.start : Tile :=
  { slabfe := 0, slabs := [], spad := [], rings := [], chans := [], eph := [], mgate := 0x100000#64,
    cur := [], last := [], gated := 0, waking := false, tlb := [] }

/-- A supervisor core before boot (R318). -/
def SvCore.start : SvCore :=
  { sc := SCtx.start, running := false, stopped := false, sasid := 0, fqbase := 0, fqsize := 0, fqhead := 0, fqtail := 0,
    sfaddr := 0, waiting := [], nextSeq := 1, mailbox := [] }

/-- An event slot that holds no event. -/
def EventObj.start : EventObj := { live := false, asid := 0, gen := 1, count := 0, status := 0, deps := [] }

/-- A graph slot that holds no graph. -/
def Graph.start : Graph :=
  { live := false, asid := 0, gen := 1, prio := 0, rcnt := 0, stride := 0, completion := 0, nodes := [] }

/-- A cohort slot that holds no cohort. -/
def Cohort.start : Cohort :=
  { live := false, handle := 0, asid := 0, size := 0, graph := 0, members := [], gen := 0 }

/-- A node of a replay before it is armed. -/
def NodeRun.start : NodeRun := { st := .waiting, fired := 0, placed := 0, counted := 0 }

/-- An empty handler slot: width 0 (R252). -/
def HSlot.start : HSlot := { w := 0, prog := [] }

/-- A communicator slot that holds none. -/
def Comm.start : Comm :=
  { live := false, handle := 0, asid := 0, cohort := 0, ordinal := 0, rank := 0, size := 0, cls := 0, slots := 0,
    chunkBytes := 0, bounded := false, timeout := 0, pkgs := [], run := .idle, runs := 0, status := 0, ident := 0,
    startBy := .host false, starts := [], prog := [], progAddr := 0, pos := 0, descs := [], captured := [], event := 0, incr := 0,
    loops := [], ctrs := [], step := none, sends := [], windows := [], refusals := [], credits := [], staging := [],
    deficit := 0, chunkOrd := [], delivered := [], sendOrd := [], recvOrd := [], bcasts := 0, miss := 0, stragglers := 0,
    incomplete := false, moved := 0, replays := none }

/-- A port that is down (R389). -/
def Port.start : Port := { state := 0, since := 0, peerPkg := 0, peerInc := 0, fails := [], queue := [], part := [], sent := 0, served := [] }

/-- A transport that has carried nothing. -/
def Transport.start : Transport := { next := 0, unacked := [], waiting := [], expected := 0, early := [] }

/-- A counter that counts nothing. -/
def Counter.start : Counter := { ctl := 0, value := 0 }

/-- A telemetry record before the first latch. -/
def LaneRec.start : LaneRec := { counters := 0, logical := 0xFFFF#16, mapgen := 0, latch := 0 }

/-- An empty flash. -/
def BootImage.empty : BootImage :=
  { signed := false, entry := 0, sasid := 0, sasidEntry := 0, atbase := 0, svpool := 0, svpooln := 0, rights := [], cells := [] }

/-- The package right after reset. -/
def State.reset : State :=
  { agenda := [], turn := .eng 0 .s, fresh := 0, nextId := 1, pkgId := 0, stamp := 0, tiles := [], residents := [],
    svs := [], wdog := 0, svpool := 0, svpooln := 0, atbase := 0, mem := [], poison := [], corrected := [], retired := [],
    pinned := [], directory := [], gaccs := [], vops := [], walks := [], stlbs := [], hostOut := [], pwcs := [], unflushed := [], hostTimeout := [],
    hostReads := [], cohorts := [], events := [], updates := [], peerCounts := [], peerStatus := [], peerDeps := [], graphs := [], queues := [],
    running := [], graphTurn := [], waitReplay := [], saved := [], lost := [], reservations := [], crbase := 0,
    crsize := 0, crhead := 0, crtail := 0, binds := [], cmdFailed := false, msix := 0, aer := 0, i3cReport := false, inc := 1, peerInc := [], sysSeqs := [], afterglow := [],
    floors := [], routs := [], requests := [], responses := [], acks := [], retires := [], hslots := [], hruns := [],
    comms := [], ccount := [], formed := [], collTurn := [], recs := [], chunks := [], chunkParts := [], creditMsgs := [], ports := [], routes := [], lanes := [], mapgen := 0,
    lremap := 0, laneCounters := [], laneSyms := [], telemetry := [], latches := 0, transports := [], meshRetry := [],
    meshFenced := [], meshNotes := [], rights := [], classes := [], diectl := [], llcpin := [], dvfs := [], pcap := 3200, counters := [],
    measures := [], flash := BootImage.empty, booted := false }

end Sys2Proof.Machine
end

