-- ==== Sys2Proof/Machine/Ops.lean ====
section
/-!
DEFINITION. The named operations over memory and registers, and the control operations every engine shares: the scalar
PC queue, program counters, ESTAT, faults (parking a program and making its record), traps and the return from one,
waits, block boundaries and switching.
-/

namespace Sys2Proof.Machine

open Sys2Proof

/-- What a step or a meaning answers. -/
abbrev Out := Host.Outcome State Fault Refusal

/-! ## Sparse maps -/

/-- The value at key k, or d when the map lists none. -/
def fget {α : Type} (d : α) : FMap α → Nat → α
  | [], _ => d
  | (j, v) :: m, k => if j = k then v else fget d m k

/-- The map with v at key k. -/
def fput {α : Type} : FMap α → Nat → α → FMap α
  | [], k, v => [(k, v)]
  | (j, w) :: m, k, v =>
    if k = j then (k, v) :: m else if k < j then (k, v) :: (j, w) :: m else (j, w) :: fput m k v

/-- The map without key k. -/
def fdel {α : Type} (m : FMap α) (k : Nat) : FMap α := m.filter (fun c => c.1 != k)

/-- The map with v at key k, listing no entry for the default d: register files and memories hold this form. -/
def fset {α : Type} [DecidableEq α] (d : α) (m : FMap α) (k : Nat) (v : α) : FMap α :=
  if v = d then fdel m k else fput m k v

/-- The keys of a map. -/
def fkeys {α : Type} (m : FMap α) : List Nat := m.map (·.1)

/-! ## Memory -/

/-- One byte of a memory; an unlisted byte reads 0 (log entries 4 and 6). -/
def memByte (m : Memory) (a : Nat) : Byte := fget (0 : Byte) m a

/-- One byte written, keeping the canonical form. -/
def memSet (m : Memory) (a : Nat) (b : Byte) : Memory := fset (0 : Byte) m a b

/-- n bytes from a. -/
def memRead (m : Memory) (a n : Nat) : List Byte := (List.range n).map (fun i => memByte m (a + i))

/-- The bytes written from a on. -/
def memWrite (m : Memory) (a : Nat) : List Byte → Memory
  | [] => m
  | b :: bs => memWrite (memSet m a b) (a + 1) bs

/-- Addresses strictly rising and no zero entry. -/
def Memory.wf (m : Memory) : Bool :=
  match m with
  | [] => true
  | [(_, b)] => b != 0
  | (a, b) :: (c, d) :: m => b != 0 && decide (a < c) && Memory.wf ((c, d) :: m)

/-- The little-endian value of bytes (R2). -/
def leNat : List Byte → Nat
  | [] => 0
  | b :: bs => b.toNat + 256 * leNat bs

/-- The low n bytes of v, little-endian (R2). -/
def leBytes : Nat → Nat → List Byte
  | 0, _ => []
  | n + 1, v => BitVec.ofNat 8 v :: leBytes n (v / 256)

/-- The little-endian word of n bytes at a. -/
def memNat (m : Memory) (a n : Nat) : Nat := leNat (memRead m a n)

/-- Sign extension of the low n bytes of v to 64 bits (R133), or zero extension. -/
def extBytes (signed : Bool) (n v : Nat) : Word :=
  let x := v % 2 ^ (8 * n)
  if signed && decide (2 ^ (8 * n - 1) ≤ x) then BitVec.ofInt 64 ((x : Int) - 2 ^ (8 * n)) else BitVec.ofNat 64 x

/-! ## The parts of the state -/

def State.res (s : State) (h : Nat) : Resident := fget Resident.start s.residents h
def State.setRes (s : State) (h : Nat) (r : Resident) : State := { s with residents := fput s.residents h r }
def State.modRes (s : State) (h : Nat) (f : Resident → Resident) : State := s.setRes h (f (s.res h))
def State.tile (s : State) (t : Nat) : Tile := fget Tile.start s.tiles t
def State.setTile (s : State) (t : Nat) (x : Tile) : State := { s with tiles := fput s.tiles t x }
def State.modTile (s : State) (t : Nat) (f : Tile → Tile) : State := s.setTile t (f (s.tile t))
def State.svc (s : State) (c : Nat) : SvCore := fget SvCore.start s.svs c
def State.setSvc (s : State) (c : Nat) (x : SvCore) : State := { s with svs := fput s.svs c x }
def State.modSvc (s : State) (c : Nat) (f : SvCore → SvCore) : State := s.setSvc c (f (s.svc c))

/-- The tile of a resident handle, and the resident number (R150). -/
def hTile (h : Nat) : Nat := h % 512
def hRes (h : Nat) : Nat := h / 512

/-- The resident handle of resident r of tile t (R150). -/
def mkHandle (t r : Nat) : Nat := t + 512 * r

/-- The code of an engine in path order S, V, M, C (R89, R239). -/
def engCode : Eng → Nat
  | .s => 0 | .v => 1 | .m => 2 | .c => 3

def engines : List Eng := [.s, .v, .m, .c]

/-- The next counter value for a free value. -/
def State.fresh1 (s : State) : State := { s with fresh := s.fresh + 1 }

/-! ## Event counters (R404) -/

/-- One counter that counts source src: EN = 1 and SRC = src. -/
def bumpCounter (src n : Nat) (c : Counter) : Counter :=
  if c.ctl.getLsbD 0 && decide ((c.ctl >>> 8).toNat % 256 = src) then { c with value := c.value + BitVec.ofNat 64 n } else c

/-- The counters at offsets base, base + 16, … count n events of source src. -/
def State.count (s : State) (base slots src n : Nat) : State :=
  { s with counters := s.counters.map (fun kc =>
      if decide (base ≤ kc.1) && decide (kc.1 < base + 16 * slots) then (kc.1, bumpCounter src n kc.2) else kc) }

/-- The counters of tile t, of quadrant q and of optical engine e (R404). -/
def State.countTile (s : State) (t src n : Nat) : State := s.count (0x100000 + 0x80 * t) 8 src n
def State.countQuad (s : State) (q src n : Nat) : State := s.count (0x120000 + 0x200 * q) 32 src n
def State.countOpt (s : State) (e src n : Nat) : State := s.count (0x121000 + 0x100 * e) 16 src n

/-! ## Engine programs -/

def Resident.prg (r : Resident) : Eng → Prg
  | .s => r.s | .v => r.v | .m => r.m | .c => r.c

def Resident.setPrg (r : Resident) (e : Eng) (p : Prg) : Resident :=
  match e with
  | .s => { r with s := p }
  | .v => { r with v := p }
  | .m => { r with m := p }
  | .c => { r with c := p }

/-- The ESTAT field of an engine (R15). -/
def Resident.est (r : Resident) (e : Eng) : Nat := (r.estat >>> (2 * engCode e)).toNat % 4

/-- ESTAT with an engine's field replaced. -/
def Resident.setEst (r : Resident) (e : Eng) (x : Nat) : Resident :=
  let sh := 2 * engCode e
  { r with estat := (r.estat &&& ~~~((3 : BitVec 8) <<< sh)) ||| (BitVec.ofNat 8 (x % 4) <<< sh) }

def State.modPrg (s : State) (h : Nat) (e : Eng) (f : Prg → Prg) : State :=
  s.modRes h (fun r => r.setPrg e (f (r.prg e)))

/-- The program whose turn it is: the resident that the engine runs, or a supervisor core (R9, R31). -/
def State.who (s : State) : Option Who :=
  match s.turn with
  | .eng t e =>
    match fget none (s.tile t).cur (engCode e) with
    | some r => some (.task (mkHandle t r) e)
    | none => none
  | .sv c => some (.sv c)
  | _ => none

/-! ## The scalar PC queue and registers -/

/-- Normal step of R22, moving a1 into a0 (R23). -/
def SCtx.normal (c : SCtx) : SCtx :=
  { c with pc := c.nx1, nx1 := c.nx2, nx2 := c.nx2 + 4, a0 := c.a1, a1 := false }

/-- Taken transfer of R22. -/
def SCtx.taken (c : SCtx) (target : Addr) : SCtx := { c.normal with nx2 := target }

/-- Both slots annulled after the step (R93, R137). -/
def SCtx.annul (c : SCtx) : SCtx := { c with a0 := true, a1 := true }

/-- R30: nx1 = pc + 4, nx2 = pc + 8, a0 = a1 = 0. -/
def SCtx.settled (c : SCtx) : Bool :=
  decide (c.nx1 = c.pc + 4) && decide (c.nx2 = c.pc + 8) && !c.a0 && !c.a1

/-- A queue at an entry address (R12). -/
def SCtx.enter (c : SCtx) (a : Addr) : SCtx := { c with pc := a, nx1 := a + 4, nx2 := a + 8, a0 := false, a1 := false }

/-- s0 reads 0 (R12). -/
def SCtx.get (c : SCtx) (n : Nat) : Word := if n = 0 then 0 else fget (0 : Word) c.sregs n

/-- A write to s0 is discarded (R13, R128). -/
def SCtx.set (c : SCtx) (n : Nat) (v : Word) : SCtx :=
  if n = 0 then c else { c with sregs := fset (0 : Word) c.sregs n v }

/-- The scalar context of a program. -/
def State.sc (s : State) : Who → SCtx
  | .task h _ => (s.res h).sc
  | .sv c => (s.svc c).sc

def State.modSc (s : State) (w : Who) (f : SCtx → SCtx) : State :=
  match w with
  | .task h _ => s.modRes h (fun r => { r with sc := f r.sc })
  | .sv c => s.modSvc c (fun x => { x with sc := f x.sc })

def State.sreg (s : State) (w : Who) (n : BitVec 6) : Word := (s.sc w).get n.toNat
def State.setSreg (s : State) (w : Who) (n : BitVec 6) (v : Word) : State := s.modSc w (fun c => c.set n.toNat v)

/-- An instruction of the program has issued: the block and turn counts (R32), the counter of instructions issued (R404). -/
def State.issued (s : State) (w : Who) : State :=
  match w with
  | .task h e => (s.countTile (hTile h) (2 + engCode e) 1).modPrg h e (fun p => { p with blk := p.blk + 1, turn := p.turn + 1, pass := false })
  | .sv _ => s

/-- The program's control moves to the next instruction: a normal step of the queue, or pc + 4; on the vector
engine the distance position moves on too (R97). -/
def State.advance (s : State) (w : Who) : State :=
  match w with
  | .task h .s => (s.modSc (.task h .s) SCtx.normal).issued w
  | .sv c => s.modSc (.sv c) SCtx.normal
  | .task h .v => (s.modRes h (fun r => { r with vpos := r.vpos + 1, v := { r.v with pc := r.v.pc + 4 } })).issued w
  | .task h e => (s.modPrg h e (fun p => { p with pc := p.pc + 4 })).issued w

/-- The address of the instruction that issues. -/
def State.pcOf (s : State) (w : Who) : Addr :=
  match w with
  | .task h .s => (s.res h).sc.pc
  | .task h e => ((s.res h).prg e).pc
  | .sv c => (s.svc c).sc.pc

/-- The ASID of a program (R11, R319). -/
def State.asidOf (s : State) (w : Who) : BitVec 14 :=
  match w with
  | .task h _ => (s.res h).asid
  | .sv c => (s.svc c).sasid

/-! ## Stream registers (R28, R247) -/

/-- Stream register q of a resident, and its fields (R247). -/
def Resident.stream (r : Resident) (q : Nat) : BitVec 512 := fget (0 : BitVec 512) r.streams q
def Resident.setStream (r : Resident) (q : Nat) (x : BitVec 512) : Resident := { r with streams := fset (0 : BitVec 512) r.streams q x }

def stPos (x : BitVec 512) : BitVec 32 := x.extractLsb' 448 32
def stCount (x : BitVec 512) : BitVec 32 := x.extractLsb' 384 32
def stBase (x : BitVec 512) : BitVec 56 := x.extractLsb' 64 56
def stRs (x : BitVec 512) : BitVec 32 := x.extractLsb' 128 32
def stSpace (x : BitVec 512) : Bool := x.getLsbD 8
def stBind (x : BitVec 512) : Nat := (x.extractLsb' 6 2).toNat
def stKind (x : BitVec 512) : Nat := (x.extractLsb' 4 2).toNat
def stFmt (x : BitVec 512) : Nat := (x.extractLsb' 0 4).toNat

/-- A bit range of a stream register replaced. -/
def stPut (x : BitVec 512) (lo n v : Nat) : BitVec 512 :=
  (x &&& ~~~(((BitVec.allOnes 512) >>> (512 - n)) <<< lo)) ||| (BitVec.ofNat 512 (v % 2 ^ n) <<< lo)

/-! ## Vector landing (R97, R98, R100) -/

/-- A vector enters the staging of an output-bound port; any other register takes no such mark (R28, R188, R249). -/
def Resident.push (r : Resident) (n : Nat) : Resident :=
  if decide (120 ≤ n) && decide (stBind (r.stream (n - 120)) = 2) then
    { r with staged := r.staged ||| ((1 : BitVec 8) <<< (n - 120)), pushed := fput r.pushed (n - 120) (fget 0 r.pushed (n - 120) + 1) }
  else r

/-- A pending write reaches its register, in its enabled bits, and the flags its instruction raised are set (R60, R98). -/
def Resident.land (r0 : Resident) (p : PendW) : Resident :=
  let r := { r0 with rctl := r0.rctl ||| ((p.flg.setWidth 64 : Word) <<< 4) }
  match p.tgt with
  | .vreg n =>
    let old := fget (0 : VReg) r.vregs n
    ({ r with vregs := fset (0 : VReg) r.vregs n ((old &&& ~~~p.en) ||| (p.val &&& p.en)) } : Resident).push n
  | .mask n =>
    let old := fget (0 : BitVec 128) r.mregs n
    let en := p.en.setWidth 128
    { r with mregs := fset (0 : BitVec 128) r.mregs n ((old &&& ~~~en) ||| (p.val.setWidth 128 &&& en)) }

/-- Insertion of a pending write by landing position, after those that land at the same one (R98). -/
def insertPend (p : PendW) : List PendW → List PendW
  | [] => [p]
  | q :: qs => if p.at_ < q.at_ then p :: q :: qs else q :: insertPend p qs

/-- The writes that have landed at distance position x take effect, in landing order. -/
def Resident.landTo (r : Resident) (x : Nat) : Resident :=
  let due := r.pend.filter (fun p => decide (p.at_ ≤ x))
  let rest := r.pend.filter (fun p => !decide (p.at_ ≤ x))
  (due.foldl Resident.land r) |> fun r' => { r' with pend := rest }

/-- Every fixed-latency instruction issued so far sets its flags: an engine path fence orders them before what follows it (R14). -/
def Resident.landFlags (r : Resident) : Resident :=
  { r with rctl := r.pend.foldl (fun (c : Word) (p : PendW) => c ||| ((p.flg.setWidth 64 : Word) <<< 4)) r.rctl, pend := r.pend.map (fun p => { p with flg := 0 }) }

/-- A block boundary settles the resident: every pending write lands (R100). -/
def Resident.settle (r : Resident) : Resident :=
  { (r.pend.foldl Resident.land r) with pend := [], vpos := 0 }

/-- VCTL.REPIDX written (R12). -/
def Resident.setRepIdx (r : Resident) (n : Nat) : Resident :=
  { r with vctl := (r.vctl &&& 0x1#64) ||| (BitVec.ofNat 64 (n % 64) <<< 8) }

/-- A REP sequence in progress stands interrupted: VCTL.REPIDX takes the index of its next repetition (R104). -/
def Resident.interrupt (r : Resident) : Resident := if r.rep = 0 then r else { r.setRepIdx r.rep with rep := 0 }

/-! ## Stopping work part-way (R32, R197, R232) -/

/-- The progress register that counts an instruction's units (R197). -/
def mprogIndex : Instr → Nat
  | .fft2 _ _ _ _ _ => 0
  | .fft3 _ _ _ _ _ => 0
  | .fft4 _ _ _ _ _ => 0
  | .fft5 _ _ _ _ _ => 0
  | .legi _ _ _ => 0
  | .leg _ _ _ _ _ _ _ => 3
  | _ => 2

/-- The datapath instruction under way stops at its progress point and MPROG records it (R197). -/
def Resident.stopDp (r : Resident) : Resident :=
  match r.dp with
  | some d => if d.stopped then r else
      { r with dp := some { d with stopped := true }, mprog := fset (0 : BitVec 32) r.mprog (mprogIndex d.instr) (BitVec.ofNat 32 d.units) }
  | none => r

/-- It goes on from the progress registers, which read 0 while it executes (R197). -/
def Resident.contDp (r : Resident) : Resident :=
  match r.dp with
  | some d => if d.stopped then
      { r with dp := some { d with stopped := false, units := (fget (0 : BitVec 32) r.mprog (mprogIndex d.instr)).toNat }, mprog := [] } else r
  | none => r

/-- Row length of COPY2D, in c(cb) (R230). -/
def Xfer.rowLen (x : Xfer) : Nat := (x.opb.extractLsb' 0 32).toNat

/-- CPROG0 and CPROG1 when p bytes are done: 4 KiB units, of the current row for COPY2D, or groups of 64 elements; and rows (R232). -/
def Xfer.unitsAt (x : Xfer) (p : Nat) : Nat × Nat :=
  match x.op with
  | .copy2d => (p % x.rowLen / 4096, p / x.rowLen)
  | .cgath | .cscat => (p / (64 * x.esz), 0)
  | _ => (p / 4096, 0)

/-- The bytes done at a progress point. -/
def Xfer.posAt (x : Xfer) (c0 c1 : Nat) : Nat :=
  match x.op with
  | .copy2d => x.rowLen * c1 + 4096 * c0
  | .cgath | .cscat => 64 * x.esz * c0
  | _ => 4096 * c0

/-- The transfer under way stops and CPROG records its last progress point (R232); the granules after it are made again. -/
def Resident.stopXf (r : Resident) : Resident :=
  match r.xf with
  | some x => if x.stopped then r else
      let u := x.unitsAt x.pos
      { r with xf := some { x with stopped := true, grans := [] },
               cprog := fset (0 : BitVec 32) (fset (0 : BitVec 32) r.cprog 0 (BitVec.ofNat 32 u.1)) 1 (BitVec.ofNat 32 u.2) }
  | none => r

/-- It goes on from CPROG (R232). -/
def Resident.contXf (r : Resident) : Resident :=
  match r.xf with
  | some x => if x.stopped then
      let p := x.posAt (fget (0 : BitVec 32) r.cprog 0).toNat (fget (0 : BitVec 32) r.cprog 1).toNat
      { r with xf := some { x with stopped := false, pos := p, next := p, point := true, grans := [] }, cprog := [] } else r
  | none => r

/-- A load of a transfer, or a store of it that has no data yet: it goes with its granule when the transfer stops. -/
def GAcc.ofGranule (g : GAcc) (h : Nat) : Bool :=
  decide (g.owner = .task h) && (match g.dest with | .xfer _ => true | _ => false) && !(g.isStore && decide (g.data.length = g.n))

/-- The number under which the serial of a store is kept for its repetition (R351): a lane of a vector access, a byte of a transfer, a byte of a stream's vector. -/
def GAcc.keepKey (g : GAcc) (xf : Nat) : Option Nat :=
  match g.dest with
  | .lane v i => some (4 * (128 * v + i))
  | .xfer p => some (4 * (p + 2 ^ 40 * xf) + 1)
  | .port q off => some (4 * (512 * q + off) + 2)
  | _ => none

/-- The transfer's number, for the serials of its stores. -/
def Resident.xfId (r : Resident) : Nat := match r.xf with | some x => x.id | none => 0

/-- The serial of a store that will be made again is kept; the operation is outstanding no more when its access is given up before it has left (R361). -/
def Resident.keepSerial (r : Resident) (g : GAcc) (dropped : Bool) : Resident :=
  match g.serial, g.keepKey r.xfId with
  | some q, some k =>
    let x := fget SeqState.start r.seqs g.tgt.peer.toNat
    { r with kept := fput r.kept k (g.tgt.peer, q),
             seqs := if dropped && !g.sent then fput r.seqs g.tgt.peer.toNat { x with outstanding := x.outstanding - 1 } else r.seqs }
  | _, _ => r

/-- The serials of a transfer's stores are kept while it stands stopped. -/
def State.keepXf (s : State) (h : Nat) : State :=
  (s.gaccs.filter (fun g => decide (g.owner = .task h) && g.isStore && (match g.dest with | .xfer _ => true | _ => false))).foldl
    (fun s g => s.modRes h (fun r => r.keepSerial g (g.ofGranule h))) s

/-- What an engine leaves of a resident at the end of its block (R32, R100, R104). -/
def Resident.leave (r : Resident) (e : Eng) : Resident :=
  match e with
  | .s => r
  | .v => r.settle.interrupt
  | .m => r.stopDp
  | .c => r.stopXf

/-! ## Waits and switching (R30 to R33) -/

def State.ring (s : State) (t b : Nat) : Ring := fget Ring.start (s.tile t).rings b
def State.setRing (s : State) (t b : Nat) (x : Ring) : State := s.modTile t (fun y => { y with rings := fput y.rings b x })
def State.chan (s : State) (t ch : Nat) : Chan := fget Chan.start (s.tile t).chans ch
def State.setChan (s : State) (t ch : Nat) (x : Chan) : State := s.modTile t (fun y => { y with chans := fput y.chans ch x })

/-- Slots filled, and slots claimed, of a ring (R19). -/
def Ring.filled (r : Ring) : Nat := (r.tail - r.head).toNat
def Ring.free (r : Ring) : Nat := r.nslots.toNat - (r.claim - r.head).toNat

/-- R20: the range is armed while BASE ≤ WM < LIMIT. -/
def Chan.armed (c : Chan) : Bool := decide (c.base.toNat ≤ c.wm.toNat) && decide (c.wm.toNat < c.limit.toNat)

/-- An armed channel of the tile holds an access to bytes [a, a + n) in the space (R21). -/
def State.heldBy (s : State) (t : Nat) (scratch : Bool) (asid : BitVec 14) (a n : Nat) (except : Option Nat) : Bool :=
  (s.tile t).chans.any (fun kc =>
    kc.2.armed && decide (kc.2.space = scratch) && decide (some kc.1 ≠ except) &&
    (scratch || decide (kc.2.asid = asid)) &&
    decide (a < kc.2.limit.toNat) && decide (kc.2.wm.toNat < a + n))

/-- The SLABFE bit of a slab. -/
def State.slabFull (s : State) (t z : Nat) : Bool := (s.tile t).slabfe.getLsbD z

/-- The slab that a datapath instruction claims (R198, R207). -/
def claimOf : Instr → Option Nat
  | .mma z _ _ _ _ _ => some z.toNat
  | .mmas z _ _ _ _ _ _ => some z.toNat
  | .sbp z _ _ _ _ _ => some z.toNat
  | .mzero z _ => some z.toNat
  | .leg z _ _ _ _ _ _ => some z.toNat
  | .macq z => some z.toNat
  | .mrel z => some z.toNat
  | _ => none

/-- A datapath instruction of some resident of the tile claims the slab (R198). -/
def State.slabClaimed (s : State) (t z : Nat) : Bool :=
  (List.range 8).any (fun r => match (s.res (mkHandle t r)).dp with
    | some d => decide (claimOf d.instr = some z)
    | none => false)

/-- Handle fields (R331). -/
def hdlAsid (x : Word) : BitVec 14 := x.extractLsb' 50 14
def hdlPkg (x : Word) : BitVec 10 := x.extractLsb' 40 10
def hdlGen (x : Word) : BitVec 16 := x.extractLsb' 24 16
def hdlType (x : Word) : Nat := (x.extractLsb' 20 4).toNat
def hdlIdx (x : Word) : Nat := (x.extractLsb' 0 20).toNat

/-- A live event handle of this package (R331). -/
def State.eventLive (s : State) (x : Word) : Bool :=
  let e := fget EventObj.start s.events (hdlIdx x)
  e.live && decide (hdlType x = 1) && decide (hdlPkg x = s.pkgId) && decide (hdlAsid x = e.asid) && decide (hdlGen x = e.gen)

/-- The count of an event as its readers see it: this package's object, or what the fabric last brought of a peer's. -/
def State.eventCount (s : State) (x : Word) : Word :=
  if hdlPkg x = s.pkgId then (fget EventObj.start s.events (hdlIdx x)).count
  else match s.peerCounts.find? (fun p => p.1 == x) with
    | some p => p.2
    | none => 0

/-- The cohort object of a handle. -/
def State.cohortOf (s : State) (x : Word) : Option Nat :=
  (s.cohorts.find? (fun kc => kc.2.live && kc.2.handle == x && x != 0)).map (·.1)

def State.cohort (s : State) (k : Nat) : Cohort := fget Cohort.start s.cohorts k

/-- Graph and node of a task. Its serials do not hold them (R350), so tasks of two nodes of a replay may share a serial's task. -/
def TaskRef.key (t : TaskRef) : BitVec 26 := BitVec.ofNat 26 (4096 * t.graph + t.node)
def Resident.key (r : Resident) : BitVec 26 := match r.task with | some t => t.key | none => 0

/-- A task's identity: its node, ASID, graph-node instance and task number. -/
def Resident.ident (r : Resident) : BitVec 84 := r.key ++ r.asid ++ r.nodeInst ++ r.taskNum

/-- The member is the task of a resident of a package. -/
def Member.isTask (m : Member) (pkg : BitVec 10) (r : Resident) : Bool :=
  decide (m.pkg = pkg) && decide (m.key = r.key) && decide (m.asid = r.asid) && decide (m.nodeInst = r.nodeInst) && decide (m.taskNum = r.taskNum)

/-- The rank a task holds in a cohort. -/
def State.rankIn (s : State) (k : Nat) (r : Resident) : Option Nat :=
  ((s.cohort k).members.find? (fun jm => match jm.2 with | some m => m.isTask s.pkgId r | none => false)).map (·.1)

/-- Whether the wait's condition holds for the resident (R30, R33). -/
def State.waitHolds (s : State) (h : Nat) (w : Wait) : Bool :=
  let t := hTile h
  let r := s.res h
  match w with
  | .ringFree b n => decide (n ≤ (s.ring t b).free)
  | .ringFilled b n => decide (n ≤ (s.ring t b).filled)
  | .ringTail b x => decide ((s.ring t b).tail = x)
  | .mark ch a => decide ((s.chan t ch).base.toNat ≤ a.toNat) && decide (a.toNat ≤ (s.chan t ch).wm.toNat)
  | .event hd target => decide ((s.eventCount hd - target).toNat < 2 ^ 63)
  | .counter k n => decide ((fget (0 : BitVec 6) r.wcnt k).toNat ≤ n)
  | .counterRoom k => decide ((fget (0 : BitVec 6) r.wcnt k).toNat < 63)
  | .slabEmpty z vec => !s.slabFull t z && !(vec && s.slabClaimed t z)
  | .slabFull z vec => s.slabFull t z && !(vec && s.slabClaimed t z)
  | .portIn q => r.staged.getLsbD q || (decide (fget none r.portFault q ≠ none) && decide (fget [] r.ahead q = []))
  | .portOut q => decide (fget none r.portFault q ≠ none) || (!r.staged.getLsbD q && !r.pend.any (fun p => p.tgt == .vreg (120 + q)) &&
      !s.vops.any (fun v => v.h == h && v.load && v.vd == 120 + q && !v.finished))
  | .join => [Eng.v, .m, .c].all (fun e => r.est e != 1 && r.est e != 2)
  | .barrier hd =>
    if hdlPkg hd = s.pkgId then
      match s.cohortOf hd with
      | some k => (match (s.cohort k).members.find? (fun jm => match jm.2 with | some m => m.isTask s.pkgId r | none => false) with
        | some (_, some m) => m.passed
        | _ => false)
      | none => true
    else s.routs.any (fun o => decide (o.owner = .task h) && decide (o.dest = .barrier hd) && decide (o.status = some .performed))
  | .held g a n x => !s.heldBy t (!g) r.asid a n x
  | .outcome id => !s.routs.any (fun o => o.id == id && decide (o.status = none)) && !s.gaccs.any (fun g => g.id == id && decide (g.failed = none))

/-- A resident is ready on an engine (R33); one with a pre-emption request starts no block (R312). -/
def State.ready (s : State) (h : Nat) (e : Eng) : Bool :=
  let r := s.res h
  decide (r.life = .active) && r.est e == 1 && decide ((r.prg e).park = none) && !r.preempt &&
  (match (r.prg e).wait with
   | none => true
   | some w => (r.prg e).pass || s.waitHolds h w)

/-- The first ready resident of the tile after r in the order 0 … 7, 0, r itself last (R33). -/
def State.pick (s : State) (t : Nat) (e : Eng) (r : Nat) : Option Nat :=
  ((List.range 8).map (fun i => (r + 1 + i) % 8)).find? (fun j => s.ready (mkHandle t j) e)

/-- Which resident an engine runs. -/
def State.cur (s : State) (t : Nat) (e : Eng) : Option Nat := fget none (s.tile t).cur (engCode e)
def State.setCur (s : State) (t : Nat) (e : Eng) (r : Option Nat) : State :=
  s.modTile t (fun x => { x with cur := fput x.cur (engCode e) r })

/-- The resident the engine ran last: the switch order starts after it (R33). -/
def State.last (s : State) (t : Nat) (e : Eng) : Nat := fget 7 (s.tile t).last (engCode e)

/-- A block of the chosen resident begins (R30 to R32). -/
def State.beginBlock (s : State) (h : Nat) (e : Eng) : State :=
  s.modPrg h e (fun p => { p with blk := 0, turn := 0, bnd := false, wait := none })

/-- The engine switches to the first ready resident, or idles (R31, R33, R34). -/
def State.switch (s : State) (t : Nat) (e : Eng) : State :=
  match s.pick t e (s.last t e) with
  | some j =>
    let s := s.modTile t (fun x => { x with cur := fput x.cur (engCode e) (some j), last := fput x.last (engCode e) j,
                                            gated := x.gated &&& ~~~((1 : BitVec 4) <<< engCode e) })
    (s.beginBlock (mkHandle t j) e).countTile t 0x06 1
  | none => s.setCur t e none

/-- A block of the program ends: the engine leaves it as R32 and R100 say, and switches (R31). -/
def State.endBlock (s : State) (h : Nat) (e : Eng) : State :=
  let s := if e = .c then s.keepXf h else s
  let s := s.modRes h (fun r => r.leave e)
  let s := if e = .c then { s with gaccs := s.gaccs.filter (fun g => !g.ofGranule h) } else s
  if s.cur (hTile h) e = some (hRes h) then s.switch (hTile h) e else s

/-- A block boundary that the same resident passes with no switch (R30, R31, R100): the block count starts again. -/
def State.boundary (s : State) (h : Nat) (e : Eng) : State :=
  s.modRes h (fun r =>
    let r := if e = .v then r.settle else r
    r.setPrg e { r.prg e with blk := 0, bnd := false })

/-! ## Faults (R35, R304, R305, R310) -/

/-- What a fault records: code, detail, virtual address, flags and lane. -/
structure FaultInfo where
  code : Nat
  detail : Word
  va : Word
  flags : BitVec 8
  lane : BitVec 8
  comm : Word
deriving DecidableEq, Repr

/-- A fault that names no address. -/
def faultInfo (code : Nat) (detail : Word) : FaultInfo :=
  { code := code, detail := detail, va := 0, flags := 0, lane := 0xFF, comm := 0 }

/-- The supervisor core whose queue takes a tile's records (R305). -/
def svOfTile (t : Nat) : Nat := t / 36

/-- The record of a fault of a resident's engine (R304). -/
def State.mkRecord (s : State) (h : Nat) (e : Eng) (f : FaultInfo) (iaddr : Addr) : FaultRec :=
  let r := s.res h
  { code := BitVec.ofNat 8 f.code, src := BitVec.ofNat 8 (engCode e), flags := f.flags, lane := f.lane,
    handle := BitVec.ofNat 16 h, asid := r.asid, iaddr := iaddr.setWidth 64, vaddr := f.va, nodeInst := r.nodeInst,
    taskNum := r.taskNum, detail := f.detail, comm := f.comm,
    repidx := ((r.vctl >>> 8).setWidth 8) &&& 0x3F }

/-- A record joins the records that wait to be written to a core's queue (R305). -/
def State.queueRecord (s : State) (core : Nat) (f : FaultRec) : State :=
  s.modSvc core (fun x => { x with waiting := x.waiting ++ [f] })

/-- R35: the program parks, its record is made, and the engine switches as if its block had ended. -/
def State.parkWith (s : State) (h : Nat) (e : Eng) (k : ParkKind) (rec : FaultRec) : State :=
  let s := s.modRes h (fun r => (r.setEst e 2).setPrg e { r.prg e with park := some { kind := k, fault := rec }, wait := none, pass := false, fence := none })
  let s := s.modRes h (fun r => if e = .s then { r with sc := { r.sc with fence := none } } else r)
  let s := (s.queueRecord (svOfTile (hTile h)) rec).countTile (hTile h) 0x08 1
  s.endBlock h e

/-- TSTAT fields (R24). -/
def tstatIE (c : SCtx) : Bool := c.tstat.getLsbD 0
def tstatPIE (c : SCtx) : Bool := c.tstat.getLsbD 1
def tstatINTRAP (c : SCtx) : Bool := c.tstat.getLsbD 2

/-- Taking a trap (R24): the queue as it stands is saved, TCAUSE written, PIE := IE, IE := 0, INTRAP := 1, control to TVEC. -/
def SCtx.takeTrap (c : SCtx) (kind code : Nat) : SCtx :=
  { c with
    epc := c.pc, enx1 := c.nx1, enx2 := c.nx2,
    eann := (if c.a1 then 2 else 0) ||| (if c.a0 then 1 else 0),
    tcause := BitVec.ofNat 64 (kind + 256 * code),
    tstat := (c.tstat &&& 0x8#64) ||| 0x4#64 ||| (if tstatIE c then 2 else 0),
    pc := c.tvec, nx1 := c.tvec + 4, nx2 := c.tvec + 8, a0 := false, a1 := false, fence := none }

/-- The return from a trap (R24, R141): the queue and annul bits from EPC, ENX1, ENX2 and EANN, IE := PIE, INTRAP := 0. -/
def SCtx.retTrap (c : SCtx) : SCtx :=
  { c with
    pc := c.epc, nx1 := c.enx1, nx2 := c.enx2, a0 := c.eann.getLsbD 0, a1 := c.eann.getLsbD 1,
    tstat := (c.tstat &&& 0xA#64) ||| (if tstatPIE c then 1 else 0) }

/-- R310: a supervisor core's own fault is a trap of KIND 4, or stops the core while INTRAP = 1. -/
def State.svFault (s : State) (c code : Nat) (va : Word) : State :=
  s.modSvc c (fun x =>
    if tstatINTRAP x.sc then
      { x with stopped := true, running := false, sfaddr := va,
               sc := { x.sc with epc := x.sc.pc, tcause := BitVec.ofNat 64 (4 + 256 * code) } }
    else { x with sc := x.sc.takeTrap 4 code, sfaddr := va })

/-- A fault of the program's instruction at its pc (R35, R125, R310). -/
def State.takeFault (s : State) (w : Who) (k : ParkKind) (f : FaultInfo) : State :=
  match w with
  | .task h e => s.parkWith h e k (s.mkRecord h e f (s.pcOf w))
  | .sv c => s.svFault c f.code f.va

/-- The faults of R302 that need no address. -/
def State.illegal (s : State) (w : Who) (word : Word) : State := s.takeFault w .instr (faultInfo 0x01 word)

/-- State-use: the cause code of DETAIL is a free value (R302 names none). -/
def State.stateUse (s : State) (w : Who) : State :=
  s.fresh1.takeFault w .instr (faultInfo 0x04 (Config.freeStateUseDetail s.fresh))

def State.alignFault (s : State) (w : Who) (size : Nat) (va : Word) : State :=
  s.takeFault w .instr { faultInfo 0x05 (BitVec.ofNat 64 size) with va := va }

/-- R30, R31: a wait. When its condition holds, or a watchdog skip completed it (R308), the program goes on with k;
otherwise the block ends, the wait begins the program's next block, and the engine switches. On the scalar engine a
wait that cannot pass while the queue is unsettled raises state-use (R126). The boundary before a wait stops a pre-empted resident
(R312). A supervisor core tests the wait again at
its next turn. -/
def waitOp (w : Who) (x : Wait) (s : State) (passes skips : State → Out) : Out :=
  match w with
  | .task h e =>
    let settled := match e with | .s => (s.res h).sc.settled | _ => true
    if ((s.res h).prg e).pass then skips (if settled then s.boundary h e else s)
    else if s.waitHolds h x && !((s.res h).preempt && settled) then passes (if settled then s.boundary h e else s)
    else if settled then
      .next ((s.modPrg h e (fun p => { p with wait := some x, since := s.stamp })).endBlock h e)
    else .next (s.stateUse w)
  | .sv c =>
    if s.waitHolds 0 x then passes s
    else if (s.svc c).sc.settled then .next s else .next (s.stateUse w)

end Sys2Proof.Machine
end

