-- ==== Sys2Proof/Machine/Translate.lean ====
section
/-!
DEFINITION. Translation (R291 to R301): the walk, the accessed and dirty bits, TLBs and quadrant services, page, key and
target rights (R296, R398, R399), page kinds (R297), and the physical target of an access (R320).
-/

namespace Sys2Proof.Machine

open Sys2Proof

/-- The kinds of access that R296 gives rights to. -/
inductive Acc where
  | load | store | atomic | red | read23 | fetch
deriving DecidableEq, Repr

/-- Index of a virtual address into the table of a level (R291). -/
def vaIndex (lvl va : Nat) : Nat :=
  match lvl with
  | 0 => va / 2 ^ 39 % 131072
  | 1 => va / 2 ^ 30 % 512
  | 2 => va / 2 ^ 21 % 512
  | _ => va / 2 ^ 16 % 32

/-- The bytes a leaf at a level maps (R291). -/
def pageSize (lvl : Nat) : Nat :=
  match lvl with
  | 0 => 2 ^ 39 | 1 => 2 ^ 30 | 2 => 2 ^ 21 | _ => 2 ^ 16

/-- Fields of a leaf entry (R294). -/
def leafPeer (e : BitVec 64) : BitVec 10 := e.extractLsb' 54 10
def leafKey (e : BitVec 64) : Nat := (e.extractLsb' 50 4).toNat
def leafFrame (e : BitVec 64) : Nat := (e.extractLsb' 14 36).toNat
def leafMH (e : BitVec 64) : Bool := e.getLsbD 13
def leafD (e : BitVec 64) : Bool := e.getLsbD 12
def leafA (e : BitVec 64) : Bool := e.getLsbD 11
def leafRAP (e : BitVec 64) : Bool := e.getLsbD 10
def leafAper (e : BitVec 64) : BitVec 3 := e.extractLsb' 7 3
def leafKind (e : BitVec 64) : BitVec 2 := e.extractLsb' 5 2
def leafX (e : BitVec 64) : Bool := e.getLsbD 4
def leafW (e : BitVec 64) : Bool := e.getLsbD 3
def leafR (e : BitVec 64) : Bool := e.getLsbD 2
def leafL (e : BitVec 64) : Bool := e.getLsbD 1
def leafV (e : BitVec 64) : Bool := e.getLsbD 0

/-- The format rules of R295 for an entry read at a level. -/
def entryOk (lvl : Nat) (e : BitVec 64) : Bool :=
  if leafL e then
    decide (lvl ≠ 0) && decide (leafFrame e % (pageSize lvl / 65536) = 0) && decide (leafKind e ≠ 3) &&
    decide (leafAper e ≤ 3) && (decide (leafPeer e = 0) || decide (leafAper e = 2))
  else
    decide (lvl ≠ 3) && decide (e.extractLsb' 52 12 = 0) && decide (e.extractLsb' 2 6 = 0)

/-- A line of local HBM that stands poisoned (R325). -/
def State.poisoned (s : State) (pa n : Nat) : Bool :=
  s.poison.any (fun l => decide (pa / 64 ≤ l) && decide (l ≤ (pa + n - 1) / 64))

/-- The ASID table entry (R292). -/
def State.asidEntry (s : State) (asid : BitVec 14) : BitVec 128 :=
  BitVec.ofNat 128 (memNat s.mem (s.atbase.toNat + 16 * asid.toNat) 16)

/-- The levels of the walk from lvl on, with the physical address of the entry it ends on (R295). -/
def State.walkFrom (s : State) (va : Nat) : Nat → Nat → Nat → WalkResult × Nat
  | 0, lvl, _ => (.bad 0x11 (BitVec.ofNat 64 lvl), 0)
  | fuel + 1, lvl, t =>
    let a := t + 8 * vaIndex lvl va
    if s.poisoned a 8 then (.bad 0x31 (BitVec.ofNat 64 a), a)
    else
      let e := BitVec.ofNat 64 (memNat s.mem a 8)
      if !leafV e then (.bad 0x10 (BitVec.ofNat 64 lvl), a)
      else if !entryOk lvl e then (.bad 0x11 (BitVec.ofNat 64 lvl), a)
      else if leafL e then (.leaf lvl e, a)
      else s.walkFrom va fuel (lvl + 1) ((e.extractLsb' 8 44).toNat * 256)

/-- The entry of a page-walk cache serves an address (R299): its table is the one of level lvl for the address. -/
def PwcEntry.covers (x : PwcEntry) (asid : BitVec 14) (va : Nat) : Bool := decide (x.asid = asid) && decide (x.page = va / pageSize (x.lvl - 1))

/-- The walk of R295. -/
def State.walk (s : State) (asid : BitVec 14) (va : Nat) : WalkResult × Nat :=
  let e := s.asidEntry asid
  if s.poisoned (s.atbase.toNat + 16 * asid.toNat) 16 then
    (.bad 0x31 (BitVec.ofNat 64 (s.atbase.toNat + 16 * asid.toNat)), 0)
  else if !e.getLsbD 0 then (.bad 0x10 4, 0)
  else s.walkFrom va 4 0 ((e.extractLsb' 20 32).toNat * 2 ^ 20)

/-- The walk of a quadrant service (R299): it begins at the deepest table that its page-walk cache holds for the address. -/
def State.walkBy (s : State) (q : Nat) (asid : BitVec 14) (va : Nat) : WalkResult × Nat :=
  let held := (fget [] s.pwcs q).filter (fun x => x.covers asid va)
  match [3, 2, 1].findSome? (fun lvl => held.find? (fun x => x.lvl == lvl)) with
  | some x => s.walkFrom va (4 - x.lvl) x.lvl x.table
  | none => s.walk asid va

/-- The tables that a walk goes through, from level lvl on (R295). -/
def State.tablesFrom (s : State) (asid : BitVec 14) (va : Nat) : Nat → Nat → Nat → List PwcEntry
  | 0, _, _ => []
  | fuel + 1, lvl, t =>
    let e := BitVec.ofNat 64 (memNat s.mem (t + 8 * vaIndex lvl va) 8)
    if !leafV e || leafL e || !entryOk lvl e then []
    else
      let n := (e.extractLsb' 8 44).toNat * 256
      { asid := asid, lvl := lvl + 1, page := va / pageSize lvl, table := n } :: s.tablesFrom asid va fuel (lvl + 1) n

/-- The page-walk cache takes the tables of a walk; it holds 4,096 entries of levels 0 to 2 (R299). -/
def State.fillPwc (s : State) (q : Nat) (asid : BitVec 14) (va : Nat) : State :=
  let new := (s.tablesFrom asid va 3 0 (((s.asidEntry asid).extractLsb' 20 32).toNat * 2 ^ 20)).filter (fun x => !(fget [] s.pwcs q).any (fun y => y.covers asid va && y.lvl == x.lvl))
  if new = [] then s else { s with pwcs := fput s.pwcs q ((new ++ fget [] s.pwcs q).take 4096) }

/-- The 64-byte lines a range touches. -/
def linesOf (pa n : Nat) : List Nat := (List.range ((pa + n - 1) / 64 - pa / 64 + 1)).map (fun i => pa / 64 + i)

/-- The home slice of a physical address, numbered 16 q + slice (R321). -/
def homeSlice (pa : Nat) : Nat := 16 * (pa / 0x3000000000) + pa / 4096 % 16

/-- INVALIDATION (R323): every die's copy of the lines goes. -/
def State.invalidate (s : State) (pa n : Nat) : State :=
  { s with directory := (linesOf pa n).foldl (fun d l => fset (0 : BitVec 4) d l 0) s.directory }

/-- The 8-byte entry at pa with bits set, an update at its home (R298): cached copies of the line are invalidated (R323). -/
def State.setEntryBits (s : State) (pa : Nat) (bits : BitVec 64) : State :=
  let e := BitVec.ofNat 64 (memNat s.mem pa 8) ||| bits
  ({ s with mem := memWrite s.mem pa (leBytes 8 e.toNat) } : State).invalidate pa 8

/-- A held translation serves an address (R299, R300). -/
def TlbEntry.covers (x : TlbEntry) (asid : BitVec 14) (va : Nat) : Bool :=
  decide (x.asid = asid) &&
  (match x.res with
   | .leaf lvl _ => decide (x.page * 65536 / pageSize lvl = va / pageSize lvl)
   | .bad _ _ => decide (x.page = va / 65536))

/-- Where an agent's translations are held: a tile, or the quadrant service itself (R299). -/
inductive Tlb where
  | tile (t : Nat)
  | quad (q : Nat)
deriving DecidableEq, Repr

/-- The quadrant service of a tile or of a supervisor core. -/
def Tlb.quadrant : Tlb → Nat
  | .tile t => t / 72
  | .quad q => q

def Who.tlb : Who → Tlb
  | .task h _ => .tile (hTile h)
  | .sv c => .quad (c / 2)

/-- Lookup in the tile's TLB, then in the quadrant's (R299). -/
def State.tlbFind (s : State) (l : Tlb) (asid : BitVec 14) (va : Nat) : Option TlbEntry :=
  let q := (fget [] s.stlbs l.quadrant).find? (fun x => x.covers asid va)
  match l with
  | .tile t =>
    match (s.tile t).tlb.find? (fun x => x.covers asid va) with
    | some x => some x
    | none => q
  | .quad _ => q

/-- A translation that failed is used once. -/
def State.tlbDrop (s : State) (l : Tlb) (x : TlbEntry) : State :=
  match l with
  | .tile t => s.modTile t (fun y => { y with tlb := y.tlb.filter (fun z => z != x) })
  | .quad q => { s with stlbs := fput s.stlbs q ((fget [] s.stlbs q).filter (fun z => z != x)) }

/-- A miss goes to the quadrant service, joining a walk of the same ASID and page (R300); a full queue holds it. -/
def State.addWalk (s : State) (l : Tlb) (asid : BitVec 14) (va : Nat) : State :=
  let q := l.quadrant
  let waiter := match l with | .tile t => t | .quad q => 288 + q
  let page := va / 65536
  if s.walks.any (fun w => decide (w.quad = q) && decide (w.asid = asid) && decide (w.page = page)) then
    { s with walks := s.walks.map (fun w =>
        if decide (w.quad = q) && decide (w.asid = asid) && decide (w.page = page) && !w.waiters.contains waiter
        then { w with waiters := w.waiters ++ [waiter] } else w) }
  else if (s.walks.filter (fun w => decide (w.quad = q))).length < 4096 then
    let s := match l with | .tile t => s.countTile t 0x07 1 | .quad _ => s
    { s with walks := s.walks ++ [{ quad := q, asid := asid, page := page, waiters := [waiter] }] }
  else s

/-- A translation joins the TLB it was fetched for. -/
def State.tlbFill (s : State) (l : Tlb) (x : TlbEntry) : State :=
  match l with
  | .tile t => s.modTile t (fun y => { y with tlb := (x :: y.tlb).take 512 })
  | .quad q => { s with stlbs := fput s.stlbs q ((x :: fget [] s.stlbs q).take 32768) }

/-- The walk has one of the 64 walkers of its quadrant: the oldest 64 have (R299). -/
def State.walking (s : State) (k : Nat) : Bool :=
  match s.walks[k]? with
  | some w => decide (((s.walks.take k).filter (fun v => decide (v.quad = w.quad))).length < 64)
  | none => false

/-- WALK_COMPLETE (R295, R298, R300): the walk is made, A is set in the leaf it loads, the service's and the waiting
tiles' TLBs take the entry; a large leaf completes every waiting miss of its page. -/
def State.walkComplete (s : State) (k : Nat) : State :=
  match s.walks[k]? with
  | none => s
  | some w =>
    let s := s.countQuad w.quad 0x23 1
    let va := w.page * 65536
    let (r, pa) := s.walkBy w.quad w.asid va
    let s := s.fillPwc w.quad w.asid va
    match r with
    | .leaf lvl e =>
      let s := s.setEntryBits pa (1#64 <<< 11)
      let e := e ||| (1#64 <<< 11)
      let s := if leafMH e then s.countQuad w.quad 0x24 1 else s
      let x : TlbEntry := { asid := w.asid, page := w.page, res := .leaf lvl e }
      let mine := fun (v : Walk) => decide (v.quad = w.quad) && x.covers v.asid (v.page * 65536)
      let ws := (s.walks.filter mine).flatMap (·.waiters)
      let s := { s with walks := s.walks.filter (fun v => !mine v) }
      let s := s.tlbFill (.quad w.quad) x
      ws.foldl (fun s t => if t < 288 then s.tlbFill (.tile t) x else s) s
    | .bad _ _ =>
      let x : TlbEntry := { asid := w.asid, page := w.page, res := r }
      let s := { s with walks := s.walks.eraseIdx k }
      w.waiters.foldl (fun s t => s.tlbFill (if t < 288 then .tile t else .quad (t - 288)) x) s

/-- Master class of an ASID (R398): 8 by default. -/
def State.classOf (s : State) (asid : BitVec 14) : Nat := (fget (8 : BitVec 6) s.classes asid.toNat).toNat

/-- Master class of a program (R398). -/
def State.classOfWho (s : State) : Who → Nat
  | .task h _ => s.classOf (s.res h).asid
  | .sv _ => 3

/-- An access table at reset: class 2 holds every right, every other class none (R398). -/
def rightsStart : BitVec 256 := 0xF00

/-- The rights nibble of a class at a target (R398): read 1, write 2, atomic 4, configure 8. -/
def State.hasRight (s : State) (target cls bit : Nat) : Bool :=
  (fget rightsStart s.rights target).getLsbD (4 * (cls % 64) + bit)

/-- The target of a configuration offset (R398). -/
def cfgTarget (off : Nat) : Nat :=
  if 0xC000 ≤ off ∧ off < 0xC020 then 86
  else if 0x121000 ≤ off ∧ off < 0x122000 then 69 + (off - 0x121000) / 0x100
  else 68

/-- The event counter pairs that exist (R404). -/
def counterExists (off : Nat) : Bool :=
  (decide (0x100000 ≤ off) && decide (off < 0x100000 + 0x80 * 288)) ||
  (decide (0x120000 ≤ off) && decide (off < 0x120000 + 0x200 * 4)) ||
  (decide (0x121000 ≤ off) && decide (off < 0x121000 + 0x100 * 16))

/-- The writers a register names beyond the access table: trusted, trusted and supervisor, or host and supervisor classes
(R324, R329, R389, R402, R404). -/
def cfgWriter (cls off : Nat) : Bool :=
  if (0x1000 ≤ off ∧ off < 0x1100) ∨ (0x2000 ≤ off ∧ off < 0x2100) then decide (cls = 2)
  else if 0x3000 ≤ off ∧ off < 0x3100 then decide (cls = 2) || decide (cls = 3)
  else if 0x8000 ≤ off ∧ off < 0x9000 then decide (cls = 2) || decide (cls = 3)
  else if counterExists off then decide (cls ≤ 3)
  else true

/-- The access-table check of a physical access of this package (R320, R398, R399). -/
def State.tableOk (s : State) (cls pa : Nat) (a : Acc) : Bool :=
  let need := fun t => match a with
    | .load | .fetch | .read23 => s.hasRight t cls 0
    | .store => s.hasRight t cls 1
    | .atomic | .red => s.hasRight t cls 2
  if pa < Config.hbmEnd then need (pa / (12 * 2 ^ 30))
  else if Config.cfgBase ≤ pa ∧ pa < Config.cfgBase + 0x1000000 then
    let off := pa - Config.cfgBase
    if 0x200000 ≤ off ∧ off < 0x200000 + 32 * 87 then decide (cls = 2)
    else s.hasRight (cfgTarget off) cls 3 && need (cfgTarget off) && (decide (a ≠ .store) || cfgWriter cls off)
  else false

/-- An access that its place takes: configuration space has no near-memory engine and no instruction words. -/
def placeTakes (pa : Nat) (a : Acc) : Bool :=
  decide (pa < Config.cfgBase) || decide (a = .load) || decide (a = .store)

/-- A physical access of this package is allowed by the table and taken by its place. -/
def State.targetOk (s : State) (cls pa : Nat) (a : Acc) : Bool := s.tableOk cls pa a && placeTakes pa a

/-- Key rights of an ASID (R292, R296): AD refuses every access, WD a write. -/
def State.keyOk (s : State) (asid : BitVec 14) (key : Nat) (write : Bool) : Bool :=
  let e := s.asidEntry asid
  !e.getLsbD (64 + 2 * key) && !(write && e.getLsbD (65 + 2 * key))

def Acc.write : Acc → Bool
  | .store | .atomic | .red => true
  | _ => false

/-- Page rights of R296. -/
def pageRight (e : BitVec 64) : Acc → Bool
  | .load | .read23 => leafR e
  | .store | .red => leafW e
  | .atomic => leafR e && leafW e
  | .fetch => leafX e

/-- The physical address a leaf gives a virtual address (R291, R294). -/
def leafPa (lvl : Nat) (e : BitVec 64) (va : Nat) : Nat := leafFrame e * 65536 + va % pageSize lvl

/-- FLAGS of a fault of an access (R304). -/
def accFlags (a : Acc) : BitVec 8 := (if a.write then 1 else 0) ||| (if a = .fetch then 2 else 0)

/-- What a translation answers: wait for a walk, a fault, or the target. -/
inductive Trans where
  | miss
  | bad (f : FaultInfo)
  | ok (t : Target) (leaf : BitVec 64)
deriving DecidableEq, Repr

/-- A fault of an access to va. -/
def accFault (code : Nat) (detail : Word) (va : Word) (a : Acc) : FaultInfo :=
  { code := code, detail := detail, va := va, flags := accFlags a, lane := 0xFF, comm := 0 }

/-- The checks of R296, R297, R320 and R399 on a leaf: acqrel marks an acquire, a release or a remote operation. -/
def State.checkLeaf (s : State) (asid : BitVec 14) (cls lvl : Nat) (e : BitVec 64) (va : Nat) (a : Acc) (acqrel : Bool) :
    Trans :=
  let v := BitVec.ofNat 64 va
  let pa := leafPa lvl e va
  let cfg := decide (leafAper e ≤ 1) && decide (Config.cfgBase ≤ pa)
  if !pageRight e a then .bad (accFault 0x12 0 v a)
  else if a ≠ .fetch && !s.keyOk asid (leafKey e) a.write then .bad (accFault 0x12 1 v a)
  else if decide (leafAper e ≤ 1) && !s.tableOk cls pa a then .bad (accFault 0x12 2 v a)
  else if (acqrel && decide (leafKind e = 2)) || (decide (a = .fetch) && decide (1 < leafAper e)) ||
      (cfg && decide (leafKind e ≠ 0)) then .bad (accFault 0x13 e v a)
  else if cfg && !placeTakes pa a then .bad (accFault 0x12 2 v a)
  else .ok { aper := leafAper e, pa := pa, peer := leafPeer e, kind := leafKind e } e

/-- The translation and checks of an access at va by an agent (R291, R295 to R298). -/
def State.translate (s : State) (l : Tlb) (asid : BitVec 14) (cls va : Nat) (a : Acc) (acqrel : Bool) : Trans :=
  if 2 ^ 56 ≤ va then .bad (accFault 0x10 5 (BitVec.ofNat 64 va) a)
  else match s.tlbFind l asid va with
    | none => .miss
    | some x =>
      match x.res with
      | .bad code d => .bad (accFault code.toNat d (BitVec.ofNat 64 va) a)
      | .leaf lvl e => s.checkLeaf asid cls lvl e va a acqrel

/-- What a translated access leaves in the translation structures: a miss starts a walk, a failed walk is used once, and
the first store through an entry whose D is 0 sets D, or walks again when the entry has changed (R298, R300). A remote
operation is no store here: it leaves D as it was. -/
def State.touchTlb (s : State) (l : Tlb) (asid : BitVec 14) (va : Nat) (a : Acc) : State :=
  if 2 ^ 56 ≤ va then s
  else match s.tlbFind l asid va with
    | none => s.addWalk l asid va
    | some x =>
      match x.res with
      | .bad _ _ => s.tlbDrop l x
      | .leaf lvl e =>
        if a = .store && !leafD e then
          let (r, pa) := s.walkBy l.quadrant asid va
          if r = .leaf lvl e then
            let s := s.setEntryBits pa (1#64 <<< 12)
            (s.tlbDrop l x).tlbFill l { x with res := .leaf lvl (e ||| (1#64 <<< 12)) }
          else (s.tlbDrop l x).tlbDrop (.quad l.quadrant) x
        else s

/-- What a faulting access leaves in the translation structures: a failed walk is used once, so that a mapping changed before the retry is seen (R307). -/
def State.touchFault (s : State) (l : Tlb) (asid : BitVec 14) (va : Nat) : State :=
  match s.tlbFind l asid va with
  | some x => (match x.res with | .bad _ _ => s.tlbDrop l x | .leaf _ _ => s)
  | none => s

/-- A store may use the entry at once: its D is set, or the entry in memory is still what the walk read (R298). -/
def State.dirtyOk (s : State) (l : Tlb) (asid : BitVec 14) (va : Nat) (a : Acc) : Bool :=
  if a ≠ .store then true
  else match s.tlbFind l asid va with
    | some x =>
      match x.res with
      | .leaf lvl e => leafD e || decide ((s.walkBy l.quadrant asid va).1 = .leaf lvl e)
      | .bad _ _ => true
    | none => true

/-- What an instruction fetch answers. -/
inductive Fetch where
  | miss
  | bad (f : FaultInfo)
  | word (w : BitVec 32)
deriving DecidableEq, Repr

/-- The instruction word at an address (R85, R296, R297): translated with the execute right, read from HBM. -/
def State.fetchWord (s : State) (w : Who) (a : Addr) : Fetch :=
  match s.translate w.tlb (s.asidOf w) (s.classOfWho w) a.toNat .fetch false with
  | .miss => .miss
  | .bad f => .bad f
  | .ok t _ =>
    if s.poisoned t.pa 4 then .bad { accFault 0x31 (BitVec.ofNat 64 t.pa) (a.setWidth 64) .fetch with flags := 2 }
    else .word (BitVec.ofNat 32 (memNat s.mem t.pa 4))

/-- The lines of an access of n bytes through a page with APER 1 are pinned in their slices, within LLCPIN; one beyond the limit is counted
(R324). A pinned line is held with every ASID and page through which it was touched. -/
def State.touchPin (s : State) (t : Target) (asid : BitVec 14) (va n : Nat) : State :=
  if t.aper ≠ 1 then s
  else (linesOf t.pa n).foldl (fun s l =>
    let sl := homeSlice (64 * l)
    let page := va / 65536 * 65536
    if s.pinned.contains (l, asid, page) then s
    else if s.pinned.any (fun p => p.1 == l) ||
        decide (((s.pinned.filter (fun p => decide (homeSlice (64 * p.1) = sl))).map (·.1)).eraseDups.length < 1024 * (fget (0 : BitVec 16) s.llcpin (sl / 16)).toNat) then
      { s with pinned := s.pinned ++ [(l, asid, page)] }
    else s.countQuad (sl / 16) 0x21 1) s

/-- What a fetch leaves in the translation structures, and in the slice of its line (R324). -/
def State.touchFetch (s : State) (w : Who) (a : Addr) : State :=
  let s1 := s.touchTlb w.tlb (s.asidOf w) a.toNat .fetch
  match s.translate w.tlb (s.asidOf w) (s.classOfWho w) a.toNat .fetch false with
  | .ok t _ => s1.touchPin t (s.asidOf w) a.toNat 4
  | _ => s1

/-- TLBI (R154): the held translations, walks and page-walk cache entries that match go. -/
def State.tlbInvalidate (s : State) (hit : TlbEntry → Bool) (stale : PwcEntry → Bool) : State :=
  { s with
    tiles := s.tiles.map (fun kt => (kt.1, { kt.2 with tlb := kt.2.tlb.filter (fun x => !hit x) })),
    stlbs := s.stlbs.map (fun kl => (kl.1, kl.2.filter (fun x => !hit x))),
    pwcs := s.pwcs.map (fun kl => (kl.1, kl.2.filter (fun x => !stale x))),
    walks := s.walks.filter (fun w => !hit { asid := w.asid, page := w.page, res := .bad 0 0 }) }

end Sys2Proof.Machine
end

