-- ==== Sys2Proof/Machine/Access.lean ====
section
/-!
DEFINITION. Scratchpad and global accesses: the window check (R16), watermark holds (R21), the accesses that have issued
and are not yet performed, the order in which they may be performed (R276 to R281, R287), forwarding and the die write
queue (R278), and performance at a scope (R284).
-/

namespace Sys2Proof.Machine

open Sys2Proof

/-! ## Scratchpad -/

/-- SPWIN fields (R16). -/
def Resident.spSize (r : Resident) : Nat := (r.spWin.extractLsb' 32 32).toNat
def Resident.spBase (r : Resident) : Nat := (r.spWin.extractLsb' 0 32).toNat

/-- n bytes from an offset, read as an unsigned 64-bit value, lie below the window's size. R16's own check of an access faults an offset at or beyond the
size: n is 1 there (R135, R183); a transfer's ranges and a stream's lie inside whole (R231, R248). -/
def Resident.inWindow (r : Resident) (off n : Nat) : Bool := decide (off + n ≤ r.spSize)

/-- Bytes of the resident's scratchpad at a window offset. -/
def State.spadRead (s : State) (h off n : Nat) : List Byte := memRead (s.tile (hTile h)).spad ((s.res h).spBase + off) n

def State.spadWrite (s : State) (h off : Nat) (bs : List Byte) : State :=
  s.modTile (hTile h) (fun x => { x with spad := memWrite x.spad ((s.res h).spBase + off) bs })

/-- An access that a watermark may hold (R21): it blocks as a wait (R30), with R126 on the scalar engine; a watchdog
skip completes the wait (R308). Supervisor cores use no tile and are not held. -/
def heldOp (w : Who) (glob : Bool) (a n : Nat) (s : State) (k : State → Out) : Out :=
  match w with
  | .task h e =>
    if s.heldBy (hTile h) (!glob) (s.res h).asid a n none && !((s.res h).prg e).pass then
      waitOp w (.held glob a n none) s k k
    else k s
  | .sv _ => k s

/-- The access would block where R126 makes it a fault. -/
def State.heldUnsettled (s : State) (w : Who) (glob : Bool) (a n : Nat) : Bool :=
  match w with
  | .task h .s => s.heldBy (hTile h) (!glob) (s.res h).asid a n none && !(s.res h).sc.settled
  | _ => false

/-! ## Global accesses in flight -/

/-- The owner of a program's accesses. -/
def Who.owner : Who → Owner
  | .task h _ => .task h
  | .sv c => .sv c

/-- Path codes of R89. -/
def Who.path : Who → BitVec 3
  | .task _ e => BitVec.ofNat 3 (engCode e)
  | .sv _ => 0

/-- The compute die an owner's accesses come from: supervisor cores and collective engines stand on the Firmament. -/
def Owner.die : Owner → Option Nat
  | .task h => some (hTile h / 72)
  | _ => none

/-- Two targets name memory of one space: this package's, one peer's, or the host's. -/
def Target.sameSpace (a b : Target) : Bool :=
  if a.aper ≤ 1 then decide (b.aper ≤ 1)
  else decide (a.aper = b.aper) && (decide (a.aper = 3) || decide (a.peer = b.peer))

/-- The accesses touch a common byte. -/
def GAcc.overlaps (a b : GAcc) : Bool :=
  a.tgt.sameSpace b.tgt && decide (a.tgt.pa < b.tgt.pa + b.n) && decide (b.tgt.pa < a.tgt.pa + a.n)

def GAcc.samePath (a b : GAcc) : Bool := decide (a.owner = b.owner) && decide (a.path = b.path)

/-- A page kind other than UO. -/
def Target.strong (t : Target) : Bool := decide (t.kind ≠ 2)

/-- The access can be performed: a store of a transfer gets its data when its granule has been read (R283). -/
def GAcc.ready (x : GAcc) : Bool := !x.isStore || decide (x.data.length = x.n)

/-- An access still in flight counts as performed at a scope (R284): a store to t or d once it stands in the write
queue, a peer store at p once the transport has accepted it. -/
def GAcc.performedAt (x : GAcc) (scope : BitVec 3) : Bool :=
  x.isStore && x.ready && (decide (scope ≤ 1) || (decide (scope = 2) && decide (x.tgt.aper = 2) && x.sent))

/-- A byte of an earlier store of the same path that has not committed: the latest one forwards (R278). -/
def forwardByte (earlier : List GAcc) (t : Target) (i : Nat) : Option Byte :=
  earlier.foldl (fun acc x =>
    if x.isStore && x.tgt.sameSpace t && decide (x.tgt.pa ≤ t.pa + i) && decide (t.pa + i < x.tgt.pa + x.n) then
      some (x.data.getD (t.pa + i - x.tgt.pa) 0) else acc) none

/-- The accesses of the same path issued before g that are still in flight. -/
def State.earlier (s : State) (g : GAcc) : List GAcc :=
  s.gaccs.filter (fun x => x.samePath g && decide (x.id < g.id) && decide (x.failed = none))

/-- The whole of a load's bytes, forwarded from stores of its own path (R278). -/
def State.forwarded (s : State) (g : GAcc) : Option (List Byte) :=
  if (s.earlier g).any (fun x => !x.ready && x.overlaps g) then none
  else ((List.range g.n).map (forwardByte (s.earlier g) g.tgt)).foldr
    (fun b acc => match b, acc with | some b, some bs => some (b :: bs) | _, _ => none) (some [])

/-- R280, R281: the earlier access x of the same path lets g be performed. -/
def orderedAfter (fw : Bool) (x g : GAcc) : Bool :=
  let strong := x.tgt.strong && g.tgt.strong
  -- the same bytes
  !(x.overlaps g && !(fw && x.isStore && !g.isStore)) &&
  -- SO after SO
  !(decide (x.tgt.kind = 0) && decide (g.tgt.kind = 0)) &&
  -- an earlier acquire, a release, a fence
  !(strong && x.acq) &&
  !(strong && g.rel && !x.performedAt g.scope) &&
  !(strong && (match x.fenced with | some n => decide (n ≤ g.id) | none => false)) &&
  !(match x.fencedU with | some n => decide (n ≤ g.id) | none => false)

/-- The W bytes of a remote operation on memory (R252); 0 for a request that touches none. -/
def ROut.bytes (r : ROut) : Nat := match r.req.op with | .handler _ w => w | _ => 0

/-- A remote operation on memory and an access of the program touch a common byte. -/
def ROut.meets (r : ROut) (g : GAcc) : Bool :=
  g.tgt.sameSpace r.tgt && decide (g.tgt.pa < r.tgt.pa + r.bytes) && decide (r.tgt.pa < g.tgt.pa + g.n)

/-- The request still stands at this package: it has not left for its owner, or is not taken there. -/
def State.waitsHere (s : State) (r : ROut) : Bool := s.requests.any (fun q => q.src == s.pkgId && q.id == r.id)

/-- The handler writes of an operation are committed or it has ended (R246): neither its request nor its run stands at
this package, and a peer's has been answered. -/
def State.handlerDone (s : State) (r : ROut) : Bool :=
  match r.req.op with
  | .handler _ _ => decide (r.status ≠ none) || (decide (r.tgt.aper ≠ 2) && decide (r.tgt.aper ≠ 3) && !s.waitsHere r &&
      !s.hruns.any (fun kr => match kr.2 with | some x => x.req.src == s.pkgId && x.req.id == r.id | none => false))
  | _ => true

/-- A remote operation still in flight counts as performed at a scope (R284): one that returns nothing as a store to its target, which the transport has
accepted once the request has left, and another once its result has come; questions about cohorts and events, and a barrier's own arrival, are no accesses. -/
def State.remotePerformed (s : State) (r : ROut) (scope : BitVec 3) : Bool :=
  let asStore := decide (scope ≤ 1) || (decide (scope = 2) && (if r.tgt.aper = 2 then !s.waitsHere r else decide (r.tgt.aper ≠ 3) && s.handlerDone r))
  decide (r.status ≠ none) ||
  (match r.dest with
   | .none | .lane _ _ _ false => asStore
   | .barrier _ | .cohortInfo _ | .eventInfo _ => true
   | _ => false)

/-- R280, R287: an earlier outstanding remote operation of the path lets g be performed: accesses to the same bytes come after it; on path S an amo or amoq is
an acquire, and a release waits for every operation. -/
def State.remoteLets (s : State) (r : ROut) (g : GAcc) : Bool :=
  match r.dest with
  | .access _ | .barrier _ | .cohortInfo _ | .eventInfo _ => true
  | d => !r.meets g && (decide (r.path ≠ 0) || decide (r.bytes = 0) || !g.tgt.strong ||
      (match d with | .none => !g.rel || s.remotePerformed r g.scope | _ => false))

/-- Whether a global access may be performed, or a store commit, now (R278, R280, R281, R287). -/
def State.mayPerform (s : State) (g : GAcc) : Bool :=
  let fw := !g.isStore && (s.forwarded g).isSome
  g.ready && (s.earlier g).all (fun x => orderedAfter fw x g) &&
  s.routs.all (fun r => !(decide (r.owner = g.owner) && decide (r.path = g.path) && decide (r.id < g.id) && decide (r.status = none)) || s.remoteLets r g) &&
  (g.isStore || fw ||
    s.gaccs.all (fun x => !(x.isStore && x.ready && decide (x.failed = none) && x.overlaps g && decide (x.owner.die = g.owner.die) && decide (x.owner.die ≠ none) &&
      !(x.samePath g && decide (g.id < x.id)))))

def State.gacc? (s : State) (id : Nat) : Option GAcc := s.gaccs.find? (fun g => g.id == id)

def State.dropGacc (s : State) (id : Nat) : State := { s with gaccs := s.gaccs.filter (fun g => g.id != id) }

/-! ## Serials (R349 to R351) -/

/-- The makers of operations other than tasks: supervisor cores, members of collective engines, the Orrery. They have sequence states of their own, and their
serials name them in TASKNUM under ASID and NODEINST 0 (DESIGN CHOICE, log entry 119). -/
def Owner.source : Owner → Nat
  | .sv c => c
  | .coll c => 8 + c
  | .orr _ => 1032
  | _ => 1033

/-- The sequence state of a maker toward an owner package. -/
def State.seqFor (s : State) (o : Owner) (pkg : BitVec 10) : SeqState :=
  match o with
  | .task h => fget SeqState.start (s.res h).seqs pkg.toNat
  | _ => fget SeqState.start s.sysSeqs (1024 * o.source + pkg.toNat)

def State.setSeqFor (s : State) (o : Owner) (pkg : BitVec 10) (x : SeqState) : State :=
  match o with
  | .task h => s.modRes h (fun r => { r with seqs := fput r.seqs pkg.toNat x })
  | _ => { s with sysSeqs := fput s.sysSeqs (1024 * o.source + pkg.toNat) x }

/-- A serial of a maker (R350). -/
def State.serialOf (s : State) (o : Owner) (seq : BitVec 32) : Serial :=
  match o with
  | .task h => let r := s.res h; { asid := r.asid, nodeInst := r.nodeInst, taskNum := r.taskNum, seq := seq }
  | _ => { asid := 0, nodeInst := 0, taskNum := BitVec.ofNat 20 o.source, seq := seq }

/-- The next sequence toward an owner package is taken (R350). -/
def State.takeSeq (s : State) (o : Owner) (pkg : BitVec 10) : State :=
  let x := s.seqFor o pkg
  s.setSeqFor o pkg { x with next := x.next + 1, outstanding := x.outstanding + 1 }

/-- A store to an SO peer page carries a serial (R276, R349). -/
def GAcc.sequenced (g : GAcc) : Bool := g.isStore && decide (g.tgt.aper = 2) && decide (g.tgt.kind = 0)

/-- The serial kept for a store that is made again. -/
def State.keptFor (s : State) (g : GAcc) : Option (Nat × Serial) :=
  match g.owner with
  | .task h => (match g.keepKey (s.res h).xfId with
      | some k => ((s.res h).kept.find? (fun e => e.1 == k && e.2.1 == g.tgt.peer)).map (fun e => (k, e.2.2))
      | none => none)
  | _ => none

/-- The kept serial is in use again. -/
def State.unkeep (s : State) (g : GAcc) (k : Nat) : State :=
  match g.owner with
  | .task h => s.modRes h (fun r =>
      let x := fget SeqState.start r.seqs g.tgt.peer.toNat
      { r with kept := fdel r.kept k, seqs := fput r.seqs g.tgt.peer.toNat { x with outstanding := x.outstanding + 1 } })
  | _ => s

/-- A global access joins those in flight; its serial is taken here, in issue order, or is the one it had (R350, R351). -/
def State.pushGacc (s : State) (g : GAcc) : State :=
  let join := fun (s : State) (q : Option Serial) =>
    ({ s with gaccs := s.gaccs ++ [{ g with id := s.nextId, serial := q, since := s.stamp }], nextId := s.nextId + 1 } : State)
  if g.sequenced then
    match s.keptFor g with
    | some (k, q) => join (s.unkeep g k) (some q)
    | none => join (s.takeSeq g.owner g.tgt.peer) (some (s.serialOf g.owner (s.seqFor g.owner g.tgt.peer).next))
  else join s none

/-- R357: the operations that no acknowledgement known to be received covers stay within 2^30 when n more join them. -/
def State.seqRoom (s : State) (o : Owner) (pkg : BitVec 10) (n : Nat) : Bool :=
  decide (((s.seqFor o pkg).next - 1 - (s.seqFor o pkg).seen).toNat + n ≤ 2 ^ 30)

/-- The stores among n pieces to these targets may take their serials. -/
def State.storeRoom (s : State) (o : Owner) (l : List Target) : Bool :=
  l.all (fun t => !(decide (t.aper = 2) && decide (t.kind = 0)) || s.seqRoom o t.peer l.length)

/-- A store to a host page of kind RC or UO on path S, V or C combines (R288). -/
def combines (path : BitVec 3) (t : Target) : Bool :=
  decide (t.aper = 3) && decide (t.kind ≠ 0) && (decide (path = 0) || decide (path = 1) || decide (path = 3))

/-- A load of n bytes (R133, R183, R236). -/
def mkLoad (w : Who) (s : State) (t : Target) (va n : Nat) (acq : Bool) (scope : BitVec 3) (dest : Dest) : GAcc :=
  { id := 0, owner := w.owner, path := w.path, isStore := false, tgt := t, va := va, asid := s.asidOf w, n := n, data := [],
    acq := acq, rel := false, scope := scope, dest := dest, failed := none, sent := false, combining := false, nt := false,
    iaddr := s.pcOf w, fenced := none, fencedU := none, serial := none, since := 0 }

/-- A store of bytes (R133). -/
def mkStore (w : Who) (s : State) (t : Target) (va : Nat) (bs : List Byte) (rel : Bool) (scope : BitVec 3) (nt : Bool) : GAcc :=
  { id := 0, owner := w.owner, path := w.path, isStore := true, tgt := t, va := va, asid := s.asidOf w, n := bs.length,
    data := bs, acq := false, rel := rel, scope := scope, dest := .none, failed := none, sent := false,
    combining := combines w.path t, nt := nt, iaddr := s.pcOf w, fenced := none, fencedU := none, serial := none, since := 0 }

/-- The translated access of a program: a fault, a stall while the walk runs or the dirty bit changes, or k (R124). -/
def withTarget (w : Who) (va : Nat) (a : Acc) (acqrel : Bool) (kind : ParkKind) (s : State)
    (k : Target → BitVec 64 → State → Out) : Out :=
  let l := w.tlb
  let asid := s.asidOf w
  match s.translate l asid (s.classOfWho w) va a acqrel with
  | .miss => .next (s.touchTlb l asid va a)
  | .bad f => .next ((s.touchFault l asid va).takeFault w kind f)
  | .ok t leaf =>
    if s.dirtyOk l asid va a then k t leaf (s.touchTlb l asid va a) else .next (s.touchTlb l asid va a)

/-! ## What is outstanding -/

/-- Outstanding operations of a path that return a value, and that return nothing (R124). -/
def State.outLoads (s : State) (o : Owner) (path : BitVec 3) : Nat :=
  (s.gaccs.filter (fun g => decide (g.owner = o) && decide (g.path = path) && !g.isStore)).length +
  (s.routs.filter (fun r => decide (r.owner = o) && decide (r.path = path) && decide (r.dest ≠ .none) &&
    (match r.dest with | .access _ => false | _ => true))).length

def State.outStores (s : State) (o : Owner) (path : BitVec 3) : Nat :=
  (s.gaccs.filter (fun g => decide (g.owner = o) && decide (g.path = path) && g.isStore)).length +
  (s.routs.filter (fun r => decide (r.owner = o) && decide (r.path = path) && decide (r.dest = .none))).length

/-- A global store of the path has not committed (R245, R250, R147). -/
def State.storesOut (s : State) (o : Owner) (path : BitVec 3) : Bool :=
  s.gaccs.any (fun g => decide (g.owner = o) && decide (g.path = path) && g.isStore && decide (g.failed = none))

/-- An access of the path is in flight: a load, a store, a remote operation, a vector access, a transfer, a datapath
instruction (R37, R245). -/
def State.pathBusy (s : State) (o : Owner) (path : BitVec 3) : Bool :=
  s.gaccs.any (fun g => decide (g.owner = o) && decide (g.path = path) && decide (g.failed = none)) ||
  s.routs.any (fun r => decide (r.owner = o) && decide (r.path = path) && decide (r.status = none)) ||
  (match o with
   | .task h =>
     (decide (path = 1) && s.vops.any (fun v => v.h == h && !v.finished)) ||
     (decide (path = 2) && (s.res h).dp.isSome) || (decide (path = 3) && (s.res h).xf.isSome)
   | _ => false)

end Sys2Proof.Machine
end

