-- ==== Sys2Proof/Machine/Remote.lean ====
section
/-!
DEFINITION. The requester side of remote operations and the sending side of the fabric transport: serials (R350),
completed-through values (R356), routes (R386), sequenced packets (R388), and what a response does (R252, R355).
-/

namespace Sys2Proof.Machine

open Sys2Proof

/-! ## Transport, sending side -/

/-- Flits of a packet: one header and its payload, 32 bytes a flit (R382, R388). -/
def payloadFlits : Payload → Nat
  | .chunk c _ _ => 1 + (c.data.length + 31) / 32
  | .request r => (match r.op with | .store bs => 1 + (bs.length + 31) / 32 | _ => 3)
  | .response r => 1 + (r.data.length + 31) / 32 + 1
  | _ => 2

def packetFlits (p : Packet) : Nat := payloadFlits p.body

/-- The virtual channel of a payload (R370, R384): chunks and credits on those of their class, responses, transport acknowledgements and notices on 1, requests on 0. -/
def payloadVc : Payload → Nat
  | .chunk c _ _ => 2 * (c.recd.extractLsb' 0 2).toNat
  | .credit _ cls => 2 * cls.toNat + 1
  | .response _ | .tack _ _ | .routeLost _ _ _ _ => 1
  | _ => 0

/-- Group and member of a package id (R381). -/
def pkgGroup (p : BitVec 10) : Nat := p.toNat / 32
def pkgMember (p : BitVec 10) : Nat := p.toNat % 32

def State.port (s : State) (p : Nat) : Port := fget Port.start s.ports p
def State.setPort (s : State) (p : Nat) (x : Port) : State := { s with ports := fput s.ports p x }

/-- Flits that stand in a port's queue. -/
def Port.flits (x : Port) : Nat := (x.queue.map packetFlits).foldl (· + ·) 0 - (x.part.map (·.2)).foldl (· + ·) 0

/-- Route entry i of the record of group g (R385). -/
def State.route (s : State) (g i : Nat) : BitVec 16 := fget (0 : BitVec 16) s.routes (9 * g + i)

def routeValid (e : BitVec 16) : Bool := e.getLsbD 15
def routePort (e : BitVec 16) : Nat := (e.extractLsb' 0 6).toNat

/-- The candidate paths toward a package: entry and exit port (R386). Entry 0 is the minimal path. -/
def State.paths (s : State) (dst : BitVec 10) : List (Nat × Nat) :=
  if pkgGroup dst = pkgGroup s.pkgId then [(0, pkgMember dst)]
  else (List.range 9).filterMap (fun i =>
    let e := s.route (pkgGroup dst) i
    if routeValid e then some (i, routePort e) else none)

/-- The intermediate group of a route entry (R385). -/
def routeVia (e : BitVec 16) : BitVec 5 := e.extractLsb' 10 5

/-- Hop count of a path at its first exit (R386): one hop to a member of the group, or over a port whose far end is the destination; otherwise the most hops that R386
gives such a path, three for the minimal one, one less without the first local hop, two more through an intermediate group: the source does not see where the path
lands (DESIGN CHOICE, log entry 98). -/
def pathHops (same direct : Bool) (entry port : Nat) : Nat :=
  if same || direct then 1 else (if port < 32 then 3 else 2) + (if entry = 0 then 0 else 2)

/-- The entry and exit port of the path with the least (q + 1) × h over the up ports and the entries not avoided; a tie goes to the lower
entry (R386, R389). -/
def State.choosePort (s : State) (dst : BitVec 10) (avoid : List Nat) : Option (Nat × Nat) :=
  let same := decide (pkgGroup dst = pkgGroup s.pkgId)
  let cost := fun (ep : Nat × Nat) => ((s.port ep.2).flits + 1) * pathHops same (decide (32 ≤ ep.2) && decide ((s.port ep.2).peerPkg = dst)) ep.1 ep.2
  let ok := (s.paths dst).filter (fun ep => decide ((s.port ep.2).state = 2) && !avoid.contains ep.1)
  match ok with
  | [] => none
  | p :: ps => some (ps.foldl (fun best q => if cost q < cost best then q else best) p)

/-- The packet stands at its exit port, when one is up. -/
def State.enqueue (s : State) (p : Packet) (avoid : List Nat) : State :=
  match s.choosePort p.dst avoid with
  | some (e, k) =>
    let via := if e = 0 then none else some (routeVia (s.route (pkgGroup p.dst) e))
    s.setPort k { s.port k with queue := (s.port k).queue ++ [{ p with via := via }] }
  | none => s

def State.transport (s : State) (peer : BitVec 10) : Transport := fget Transport.start s.transports peer.toNat
def State.setTransport (s : State) (peer : BitVec 10) (x : Transport) : State :=
  { s with transports := fput s.transports peer.toNat x }

/-- A sequenced packet toward a package (R388): it takes the pair's next sequence and is kept until acknowledged. -/
def State.sendNow (s : State) (dst : BitVec 10) (body : Payload) : State :=
  let x := s.transport dst
  let p : Packet := { src := s.pkgId, dst := dst, sequenced := true, seq := x.next, via := none, hop := 0, body := body }
  let u : Unacked := { pkt := p, tries := 1, acked := false, since := s.stamp, path := (s.choosePort dst []).map (·.1), avoid := [] }
  let s := s.setTransport dst { x with next := x.next + 1, unacked := x.unacked ++ [u] }
  s.enqueue p []

/-- Packets of a pair that are not acknowledged. -/
def Transport.open_ (x : Transport) : Nat := (x.unacked.filter (fun u => !u.acked)).length

/-- At most 8,192 unacknowledged packets of a pair are held (R388): the next one waits for room, behind those that wait. -/
def State.sendPacket (s : State) (dst : BitVec 10) (body : Payload) : State :=
  let x := s.transport dst
  if x.open_ < 8192 ∧ x.waiting = [] then s.sendNow dst body
  else s.setTransport dst { x with waiting := x.waiting ++ [body] }

/-- An unsequenced packet (R388): it is not kept. -/
def State.sendLoose (s : State) (dst : BitVec 10) (body : Payload) : State :=
  s.enqueue { src := s.pkgId, dst := dst, sequenced := false, seq := 0, via := none, hop := 0, body := body } []

/-- A response is unsequenced (R388). -/
def State.sendResponse (s : State) (dst : BitVec 10) (r : RResp) : State := s.sendLoose dst (.response r)

/-! ## Serials -/

/-- A task's sequence state toward an owner package. -/
def State.seqOf (s : State) (h : Nat) (owner : BitVec 10) : SeqState := s.seqFor (.task h) owner
def State.setSeq (s : State) (h : Nat) (owner : BitVec 10) (x : SeqState) : State := s.setSeqFor (.task h) owner x

/-- The completed-through value: the highest sequence such that every one up to it has completed (R356). ct is the value
last sent, finished the completed sequences above it. -/
def ctFrom (finished : List (BitVec 32)) : Nat → BitVec 32 → BitVec 32
  | 0, c => c
  | n + 1, c => if finished.contains (c + 1) then ctFrom finished n (c + 1) else c

def SeqState.current (x : SeqState) : BitVec 32 := ctFrom x.finished x.finished.length x.ct

/-- The current value has been sent. -/
def SeqState.acked (x : SeqState) : SeqState :=
  let c := x.current
  { x with ct := c, finished := x.finished.filter (fun q => decide ((q - c).toNat < 2 ^ 31) && q != c) }

/-- The replay number and incarnation snapshot that a replayed task's requests carry (R348, R360). -/
def State.replaySnapshot (s : State) (h : Nat) (owner : BitVec 10) : Option (BitVec 16) :=
  match (s.res h).task with
  | some t =>
    if t.replayed then
      match s.running.find? (fun r => r.inst.graph == t.graph) with
      | some r => some (fget (0 : BitVec 16) r.incs owner.toNat)
      | none => none
    else none
  | none => none

/-- The incarnation the transport holds for a package (R359). -/
def State.incOf (s : State) (pkg : BitVec 10) : BitVec 16 :=
  if pkg = s.pkgId then s.inc else fget (0 : BitVec 16) s.peerInc pkg.toNat

/-- The owner package of a target (R349). -/
def State.ownerPkg (s : State) (t : Target) : BitVec 10 := if t.aper = 2 then t.peer else s.pkgId

/-- The completed-through value of a maker toward a package, as its requests carry it (R356). -/
def State.ctOf (s : State) (o : Owner) (pkg : BitVec 10) : Option Serial :=
  let c := (s.seqFor o pkg).current
  if c = 0 then none else some (s.serialOf o c)

/-- A request toward a package (R251, R354, R356, R360): every one carries the maker's completed-through value and, for a replayed task, RP and the snapshot's
incarnation. -/
def State.reqOf (s : State) (o : Owner) (pkg : BitVec 10) (cls addr : Nat) (op : ROp) (op0 op1 : BitVec 128) (serial : Option Serial) (scope : BitVec 3) : RReq :=
  let rp := match o with | .task h => s.replaySnapshot h pkg | _ => none
  { src := s.pkgId, id := s.nextId, serial := serial, rt := false, rp := rp.isSome, inc := rp.getD (s.incOf pkg), ct := s.ctOf o pkg,
    cls := BitVec.ofNat 6 cls, addr := addr, op := op, op0 := op0, op1 := op1, scope := scope }

/-- The completed-through value that a request carries has been sent (R356), and the incarnation it was sent to is the last seen (R315). -/
def State.noteReq (s : State) (o : Owner) (pkg : BitVec 10) (q : RReq) : State :=
  let s := if q.ct.isSome then s.setSeqFor o pkg (s.seqFor o pkg).acked else s
  if q.serial.isSome then s.setSeqFor o pkg { s.seqFor o pkg with inc := q.inc } else s

/-- The outstanding operation of a request. -/
def State.routOf (s : State) (o : Owner) (path : BitVec 3) (pkg : BitVec 10) (dest : RDest) (va : Nat) (t : Target) (iaddr : Addr) (q : RReq) (leave : Leave) : ROut :=
  { id := q.id, owner := o, path := path, peer := pkg, dest := dest, va := va, tgt := t, iaddr := iaddr, req := q, scope := q.scope, leave := leave,
    status := none, inc := q.inc, busy := false, answer := 0, data := [], since := s.stamp }

/-- A request is made (R251, R350): non-idempotent ones take the next sequence toward their owner. The request stands at this package until it may leave. -/
def State.issueRemote (s : State) (w : Who) (t : Target) (va : Nat) (op : ROp) (op0 op1 : BitVec 128) (dest : RDest)
    (serial : Bool) (scope : BitVec 3) (leave : Leave) : State :=
  let pkg := s.ownerPkg t
  let o := w.owner
  let ser := serial && decide (t.aper ≠ 3)
  let q := s.reqOf o pkg (if t.aper = 2 then 7 else s.classOfWho w) t.pa op op0 op1 (if ser then some (s.serialOf o (s.seqFor o pkg).next) else none) scope
  let r := s.routOf o w.path pkg dest va t (s.pcOf w) q leave
  let s := (if ser then s.takeSeq o pkg else s).noteReq o pkg q
  { s with requests := s.requests ++ [q], routs := s.routs ++ [r], nextId := s.nextId + 1 }

/-! ## Flushes of the host ports (R289) -/

/-- The host port of a host page: bit 51 of its physical address (R393). -/
def hostPort (pa : Nat) : Bool := decide (2 ^ 51 ≤ pa)

/-- The ports, but for one left out, that have carried a posted write of a set since their last flush. -/
def State.portsToFlush (s : State) (mine : Posted → Bool) (but : Option Bool) : List Bool :=
  [false, true].filter (fun p => decide (but ≠ some p) && s.unflushed.any (fun m => m.port == p && mine m))

/-- A zero-length read of a port, unless the program has one under way there. -/
def State.flushPort (w : Who) (s : State) (p : Bool) : State :=
  if s.gaccs.any (fun g => decide (g.owner = w.owner) && decide (g.path = w.path) && decide (g.dest = .flush) && hostPort g.tgt.pa == p) then s
  else s.pushGacc (mkLoad w s { aper := 3, pa := if p then 2 ^ 51 else 0, peer := 0, kind := 2 } 0 0 false 0 .flush)

/-- The posted writes that a release of scope h covers: those of its path that precede it. -/
def coveredBy (o : Owner) (path : BitVec 3) (id : Nat) (m : Posted) : Bool := decide (m.owner = o) && decide (m.path = path) && decide (m.id < id)

/-- The program that made an operation. -/
def pathEng (p : BitVec 3) : Eng := match p.toNat with | 0 => .s | 1 => .v | 2 => .m | _ => .c
def ownerWho (o : Owner) (p : BitVec 3) : Option Who :=
  match o with
  | .task h => some (.task h (pathEng p))
  | .sv c => some (.sv c)
  | _ => none

/-- A release of scope h has ports to flush before its own effect: their reads go out (R289). -/
def State.releaseFlush (s : State) (o : Owner) (path : BitVec 3) (id : Nat) (but : Option Bool) : Option State :=
  match ownerWho o path, s.portsToFlush (coveredBy o path id) but with
  | none, _ => none
  | _, [] => none
  | some w, ps => some (ps.foldl (State.flushPort w) s)

/-- Whether a request of this package may leave now (R245, R255, R287). -/
def State.mayLeave (s : State) (o : ROut) : Bool :=
  let mine := fun (g : GAcc) => decide (g.owner = o.owner) && decide (g.path = o.path) && decide (g.id < o.id) && decide (g.failed = none)
  -- the same bytes (R280)
  s.gaccs.all (fun g => !(mine g && o.meets g)) &&
  (match o.leave with
   | .free => true
   | .release => s.gaccs.all (fun g => !(mine g && g.tgt.strong && !g.performedAt o.scope)) &&
      s.routs.all (fun r => !(decide (r.owner = o.owner) && decide (r.path = o.path) && decide (r.id < o.id) && decide (0 < r.bytes)) || s.remotePerformed r o.scope)
   | .all => s.gaccs.all (fun g => !mine g) &&
      (match o.owner with
       | .task h => !(decide (o.path = 1) && s.vops.any (fun v => v.h == h && !v.finished && decide (v.id < o.id))) 
       | _ => true)) &&
  s.routs.all (fun r => !(decide (r.owner = o.owner) && decide (r.path = o.path) && decide (r.id < o.id) &&
    decide (r.status = none) && (decide (o.leave = .all) ||
      (r.tgt.sameSpace o.tgt && decide (r.tgt.pa = o.tgt.pa) && s.requests.any (fun q => decide (q.src = s.pkgId) && q.id == r.id)))))

/-- R357, for a program. -/
def State.serialRoomN (s : State) (w : Who) (pkg : BitVec 10) (n : Nat) : Bool := s.seqRoom w.owner pkg n

def State.serialRoom (s : State) (w : Who) (pkg : BitVec 10) : Bool := s.serialRoomN w pkg 1

def State.rout? (s : State) (id : Nat) : Option ROut := s.routs.find? (fun r => r.id == id)
def State.dropRout (s : State) (id : Nat) : State := { s with routs := s.routs.filter (fun r => r.id != id) }
def State.modRout (s : State) (id : Nat) (f : ROut → ROut) : State :=
  { s with routs := s.routs.map (fun r => if r.id = id then f r else r) }

/-- A sequence has completed already. -/
def SeqState.has (x : SeqState) (q : BitVec 32) : Bool := x.finished.contains q || decide ((x.ct - q).toNat < 2 ^ 31)

/-- The serial of an operation has completed at its requester: CT may advance (R356). -/
def State.serialOver (s : State) (o : Owner) (pkg : BitVec 10) (q : Serial) : State :=
  let x := s.seqFor o pkg
  if x.has q.seq then s else s.setSeqFor o pkg { x with finished := x.finished ++ [q.seq] }

/-- One operation of a maker is outstanding no more, or again (R361). -/
def State.outstandingLess (s : State) (o : Owner) (pkg : BitVec 10) : State :=
  let x := s.seqFor o pkg
  s.setSeqFor o pkg { x with outstanding := x.outstanding - 1 }
def State.outstandingMore (s : State) (o : Owner) (pkg : BitVec 10) : State :=
  let x := s.seqFor o pkg
  s.setSeqFor o pkg { x with outstanding := x.outstanding + 1 }

/-- The owner is known to have received a completed-through value of the maker (R357). -/
def State.seenAck (s : State) (o : Owner) (pkg : BitVec 10) (c : Serial) : State :=
  let x := s.seqFor o pkg
  if s.serialOf o c.seq = c ∧ (c.seq - x.seen).toNat < 2 ^ 31 then s.setSeqFor o pkg { x with seen := c.seq } else s

/-- An acknowledgement has been received by its owner: the task it names, if a resident holds it, knows (R357). -/
def State.ackSeen (s : State) (pkg : BitVec 10) (asid : BitVec 14) (ni : BitVec 24) (tn : BitVec 20) (ct : BitVec 32) : State :=
  match s.residents.find? (fun kr => decide (kr.2.asid = asid) && decide (kr.2.nodeInst = ni) && decide (kr.2.taskNum = tn) && decide (kr.2.life ≠ .free)) with
  | some kr => s.seenAck (.task kr.1) pkg { asid := asid, nodeInst := ni, taskNum := tn, seq := ct }
  | none => s

/-- An operation ends with a fault: nothing awaits its answer any more (R361); its sequence completes only when it is skipped. -/
def State.serialStops (s : State) (o : ROut) : State :=
  if o.req.serial.isSome && decide (o.status = none) then s.outstandingLess o.owner o.peer else s

/-- An operation has completed at its requester. -/
def State.serialDone (s : State) (o : ROut) : State :=
  match o.req.serial with
  | some g => (s.serialStops o).serialOver o.owner o.peer g
  | none => s

/-- The stores whose serials are kept under some keys are given up: their sequences complete (R356). -/
def State.finishKept (s : State) (h : Nat) (mine : Nat → Bool) : State :=
  let l := (s.res h).kept.filter (fun e => mine e.1)
  (l.foldl (fun s e => s.serialOver (.task h) e.2.1 e.2.2) s).modRes h (fun r => { r with kept := r.kept.filter (fun e => !mine e.1) })

/-- Keys of the lanes of a vector access, of a transfer's stores, of a stream's. -/
def laneKeys (v k : Nat) : Bool := decide (k % 4 = 0) && decide (k / 512 = v)
def xferKeys (k : Nat) : Bool := decide (k % 4 = 1)
def portKeys (q k : Nat) : Bool := decide (k % 4 = 2) && decide (k / 4 / 512 = q)

/-- A deferred remote fault has arrived for a task's scalar program (R256). -/
def State.addDeferred (s : State) (h id : Nat) : State :=
  if (s.res h).life = .free then s else s.modRes h (fun r => { r with deferred := r.deferred ++ [id] })

/-- The fault of a failed remote operation (R302, R355). bit15 marks a retired answer to an operation with a result. -/
def remoteFault (st : RStatus) (pkg : BitVec 10) (inc : BitVec 16) (pa : Nat) (cause : Word) : FaultInfo :=
  let f := fun (code : Nat) (d : Word) => { faultInfo code d with flags := 0x8 }
  match st with
  | .indeterminate => f 0x21 (pkg.setWidth 64 ||| (inc.setWidth 64 <<< 16))
  | .retired => f 0x21 (pkg.setWidth 64 ||| (inc.setWidth 64 <<< 16) ||| 0x8000)
  | .stateUse => f 0x04 cause
  | .memError => f 0x31 (BitVec.ofNat 64 pa)
  | .protection => f 0x12 2
  | _ => f 0x20 (pkg.setWidth 64)

end Sys2Proof.Machine
end

