-- ==== Sys2Proof/Machine/Flags.lean ====
section
/-!
DEFINITION. Flags and modes: the sticky arithmetic flags and RMODE of RCTL (R14, R60), the random generator's register
(R59), the trap status registers as they read and are written (R24, R25, R142), and VCTL (R12).
-/

namespace Sys2Proof.Machine

open Sys2Proof

/-- Arithmetic conditions raised by one operation (R60). -/
structure Flg where
  inv : Bool
  ovf : Bool
  unf : Bool
  inx : Bool
deriving DecidableEq, Repr

def Flg.none : Flg := { inv := false, ovf := false, unf := false, inx := false }
def Flg.invalid : Flg := { Flg.none with inv := true }
def Flg.or (a b : Flg) : Flg := { inv := a.inv || b.inv, ovf := a.ovf || b.ovf, unf := a.unf || b.unf, inx := a.inx || b.inx }

/-- The RCTL bits a condition sets (R13's field map). -/
def Flg.bits (f : Flg) : Word :=
  (if f.inv then 0x10#64 else 0) ||| (if f.ovf then 0x20#64 else 0) ||| (if f.unf then 0x40#64 else 0) |||
  (if f.inx then 0x80#64 else 0)

/-- The four conditions as RCTL[7:4] orders them. -/
def Flg.code (f : Flg) : BitVec 4 := f.bits.extractLsb' 4 4

/-- A resident's sticky flags take the conditions raised (R14). -/
def Resident.raise (r : Resident) (f : Flg) : Resident := { r with rctl := r.rctl ||| f.bits }

/-- RMODE (R13). -/
def Resident.rmode (r : Resident) : Nat := r.rctl.toNat % 8

/-- What a write of RCTL stores: the flags and RMODE; RMODE 5 to 7 store 0; a flag written 0 is cleared, and one written 1
is set (R14: the flags are RW). -/
def rctlValue (v : Word) : Word :=
  (v &&& 0xF0#64) ||| (if 4 < v.toNat % 8 then 0 else v &&& 7#64)

/-- A write of RNG stores 1 in place of 0 (R59). -/
def rngValue (v : Word) : Word := if v = 0 then 1 else v

/-- The timer condition: the stamp is at or above TCMP (R25). -/
def timerDue (stamp : Word) (c : SCtx) : Bool := decide (c.tcmp.toNat ≤ stamp.toNat)

/-- TSTAT as it reads: TPEND is 1 when the stamp is at or above TCMP (R25). -/
def tstatRead (stamp : Word) (c : SCtx) : Word :=
  (c.tstat &&& 0x7#64) ||| (if timerDue stamp c then 0x8#64 else 0)

/-- TPEND as stored follows its condition (R25). -/
def SCtx.pendTimer (c : SCtx) (stamp : Word) : SCtx := if timerDue stamp c then { c with tstat := c.tstat ||| 0x8#64 } else c

/-- A write of TSTAT changes IE and PIE only (R142). -/
def SCtx.writeTstat (c : SCtx) (v : Word) : SCtx := { c with tstat := (c.tstat &&& 0xC#64) ||| (v &&& 0x3#64) }

/-- A write of TCMP clears TPEND, which returns only if the condition still holds (R25). -/
def SCtx.writeTcmp (c : SCtx) (stamp v : Word) : SCtx :=
  ({ c with tcmp := v, tstat := c.tstat &&& 0x7#64 } : SCtx).pendTimer stamp

/-- 56-bit address registers whose bits [1:0] read as zero (R142). -/
def addr56 (v : Word) : Addr := (v &&& 0x00FFFFFFFFFFFFFC#64).setWidth 56

/-- VCTL fields (R12): CHECK and REPIDX. -/
def Resident.check (r : Resident) : Bool := r.vctl.getLsbD 0
def Resident.repIdx (r : Resident) : Nat := (r.vctl >>> 8).toNat % 64

end Sys2Proof.Machine
end

