-- ==== Sys2Proof/Machine/Operands.lean ====
section
/-!
DEFINITION. The operand forms: scalar addresses and immediates, the local registers of format Y (R90, R149), register
pairs, windowed objects (R16), branch conditions (R89), vector lanes, elements and masks (R156, R157).
-/

namespace Sys2Proof.Machine

open Sys2Proof

/-! ## Immediates -/

/-- sext(x, n) as a 64-bit value (R5). -/
def sx {n : Nat} (x : BitVec n) : Word := x.signExtend 64

/-- sext(x, n) as a 56-bit address offset. -/
def sxa {n : Nat} (x : BitVec n) : Addr := x.signExtend 56

/-- Branch target: the instruction's own address + 4 × sext(off) (R91, R137). -/
def branchTarget {n : Nat} (pc : Addr) (off : BitVec n) : Addr := pc + 4 * sxa off

/-! ## Local registers of format Y (R90, R149) -/

/-- The local register of the issuing engine that a Y reg field names. -/
def State.lreg (s : State) (w : Who) (x : Nat) : Word :=
  match w with
  | .task h .s => (s.res h).sc.get x
  | .sv c => (s.svc c).sc.get x
  | .task h .v => fget (0 : Word) (s.res h).kregs x
  | .task h .m => fget (0 : Word) (s.res h).nregs x
  | .task h .c => fget (0 : Word) (s.res h).cregs x

def State.setLreg (s : State) (w : Who) (x : Nat) (v : Word) : State :=
  match w with
  | .task h .s => s.modRes h (fun r => { r with sc := r.sc.set x v })
  | .sv c => s.modSvc c (fun y => { y with sc := y.sc.set x v })
  | .task h .v => s.modRes h (fun r => { r with kregs := fset (0 : Word) r.kregs x v })
  | .task h .m => s.modRes h (fun r => { r with nregs := fset (0 : Word) r.nregs x v })
  | .task h .c => s.modRes h (fun r => { r with cregs := fset (0 : Word) r.cregs x v })

/-- The condition codes of R89 on a local register's value (code 5 on the decremented one). -/
def condHolds (c : BitVec 3) (x : Word) : Bool :=
  match c.toNat with
  | 0 => true
  | 1 => decide (x = 0)
  | 2 => decide (x ≠ 0)
  | 3 => x.slt 0
  | 4 => !x.slt 0
  | _ => decide (x ≠ 0)

/-! ## Windowed objects (R16) -/

def Resident.slabOk (r : Resident) (z : Nat) : Bool := r.slabWin.getLsbD z
def Resident.ringOk (r : Resident) (b : Nat) : Bool := r.ringWin.getLsbD b
def Resident.chanOk (r : Resident) (ch : Nat) : Bool := r.chWin.getLsbD ch

/-- EPHWIN: the first slot granted and the number granted. -/
def Resident.ephFirst (r : Resident) : Nat := (r.ephWin.extractLsb' 12 12).toNat
def Resident.ephCount (r : Resident) : Nat := (r.ephWin.extractLsb' 0 12).toNat

/-- A tile-absolute scratchpad address of a window offset, and back (R16, R238). -/
def Resident.absOf (r : Resident) (off : Word) : Word := off + BitVec.ofNat 64 r.spBase
def Resident.offOf (r : Resident) (a : Word) : Word := a - BitVec.ofNat 64 r.spBase

/-! ## Vector lanes and masks (R156, R157) -/

/-- Lane i of a vector value, and element e of its fp64 view. -/
def lane (v : VReg) (i : Nat) : BitVec 32 := v.extractLsb' (32 * i) 32
def elem (v : VReg) (e : Nat) : BitVec 64 := v.extractLsb' (64 * e) 64

/-- The number whose base-2^w digits are the list, lowest first. -/
def ofDigits (w : Nat) : List Nat → Nat
  | [] => 0
  | x :: xs => x % 2 ^ w + 2 ^ w * ofDigits w xs

/-- The vector whose lane i is f i. -/
def ofLanes (f : Nat → BitVec 32) : VReg := BitVec.ofNat 4096 (ofDigits 32 ((List.range 128).map (fun i => (f i).toNat)))

/-- The vector whose element e is f e. -/
def ofElems (f : Nat → BitVec 64) : VReg := BitVec.ofNat 4096 (ofDigits 64 ((List.range 64).map (fun e => (f e).toNat)))

/-- All bits of the active lanes. -/
def laneBits (m : BitVec 128) : VReg := ofLanes (fun i => if m.getLsbD i then 0xFFFFFFFF#32 else 0)

/-- Both lanes of the active elements: element e follows mask bit 2e (R157). -/
def elemMask (m : BitVec 128) : BitVec 128 :=
  BitVec.ofNat 128 (ofDigits 2 ((List.range 64).map (fun e => if m.getLsbD (2 * e) then 3 else 0)))

/-- Every bit of a vector, and every lane. -/
def allBits : VReg := BitVec.allOnes 4096
def allLanes : BitVec 128 := BitVec.allOnes 128

/-- The mask register n; m0 is all ones (R12). -/
def Resident.mask (r : Resident) (n : Nat) : BitVec 128 := if n = 0 then allLanes else fget (0 : BitVec 128) r.mregs n

/-- The bytes of a vector in memory: lane i at offset 4i (R156). -/
def vecBytes (v : VReg) : List Byte := leBytes 512 v.toNat
def bytesVec (bs : List Byte) : VReg := BitVec.ofNat 4096 (leNat bs)

end Sys2Proof.Machine
end

