-- ==== Sys2Proof/Machine/ScalarAlu.lean ====
section
/-!
DEFINITION. The scalar ALU, immediate and upper-immediate instructions (R128 to R132). None raises a fault or sets a flag.
-/

namespace Sys2Proof.Machine

open Sys2Proof

/-- The scalar program whose turn it is runs the instruction; on another engine the word is not one of its own. -/
def onScalar (s : State) (k : Who → Out) : Out :=
  match s.who with
  | some (.task h .s) => k (.task h .s)
  | some (.sv c) => k (.sv c)
  | _ => .next s

/-- A scalar result: s(d) := v, and a normal step of the queue (R22, R128). -/
def scalarResult (w : Who) (d : BitVec 6) (v : Word) (s : State) : State := (s.setSreg w d v).advance w

/-- A two-operand operation on s(a) and s(b) (R129). -/
def aluOp (d a b : BitVec 6) (f : Word → Word → Word) (s : State) : Out :=
  onScalar s (fun w => .next (scalarResult w d (f (s.sreg w a) (s.sreg w b)) s))

/-- An operation on s(a) alone (R129, R131). -/
def aluOp1 (d a : BitVec 6) (f : Word → Word) (s : State) : Out :=
  onScalar s (fun w => .next (scalarResult w d (f (s.sreg w a)) s))

/-- 1 when the condition holds, else 0. -/
def boolWord (b : Bool) : Word := if b then 1 else 0

/-- Leading zeros, trailing zeros and ones of a value (R129, R168). -/
def leadZeros {n : Nat} (x : BitVec n) : Nat := ((List.range n).find? (fun i => x.getLsbD (n - 1 - i))).getD n
def trailZeros {n : Nat} (x : BitVec n) : Nat := ((List.range n).find? (fun i => x.getLsbD i)).getD n
def popCount {n : Nat} (x : BitVec n) : Nat := (List.range n).countP (fun i => x.getLsbD i)

/-- Division and remainder with the edge values of R130. -/
def divS (a b : Word) : Word := if b = 0 then BitVec.allOnes 64 else a.sdiv b
def divU (a b : Word) : Word := if b = 0 then BitVec.allOnes 64 else a / b
def remS (a b : Word) : Word := if b = 0 then a else a.srem b
def remU (a b : Word) : Word := if b = 0 then a else a % b

/-- High halves of the 128-bit products (R129). -/
def mulHighS (a b : Word) : Word := ((a.signExtend 128 * b.signExtend 128) >>> 64).setWidth 64
def mulHighU (a b : Word) : Word := ((a.setWidth 128 * b.setWidth 128) >>> 64).setWidth 64

/-- Signed and unsigned minimum and maximum. -/
def minS {n : Nat} (a b : BitVec n) : BitVec n := if a.slt b then a else b
def maxS {n : Nat} (a b : BitVec n) : BitVec n := if b.slt a then a else b
def minU {n : Nat} (a b : BitVec n) : BitVec n := if a < b then a else b
def maxU {n : Nat} (a b : BitVec n) : BitVec n := if b < a then a else b

/-- imm20 × 2^12 as a signed 32-bit value, extended (R132). -/
def upper (i : BitVec 20) : Word := (i ++ (0 : BitVec 12)).signExtend 64

/-- ADD (R129): s(a) + s(b). -/
def execAdd (d a b : BitVec 6) (s : State) : Out := aluOp d a b (fun x y => x + y) s

/-- SUB (R129): s(a) − s(b). -/
def execSub (d a b : BitVec 6) (s : State) : Out := aluOp d a b (fun x y => x - y) s

/-- AND (R129): s(a) AND s(b). -/
def execAnd (d a b : BitVec 6) (s : State) : Out := aluOp d a b (fun x y => x &&& y) s

/-- OR (R129): s(a) OR s(b). -/
def execOr (d a b : BitVec 6) (s : State) : Out := aluOp d a b (fun x y => x ||| y) s

/-- XOR (R129): s(a) XOR s(b). -/
def execXor (d a b : BitVec 6) (s : State) : Out := aluOp d a b (fun x y => x ^^^ y) s

/-- SHL (R129): s(a) << s(b)[5:0]. -/
def execShl (d a b : BitVec 6) (s : State) : Out := aluOp d a b (fun x y => x <<< (y.toNat % 64)) s

/-- SHR (R129): s(a) >> s(b)[5:0], logical. -/
def execShr (d a b : BitVec 6) (s : State) : Out := aluOp d a b (fun x y => x >>> (y.toNat % 64)) s

/-- SRA (R129): s(a) >> s(b)[5:0], arithmetic. -/
def execSra (d a b : BitVec 6) (s : State) : Out := aluOp d a b (fun x y => x.sshiftRight (y.toNat % 64)) s

/-- SLT (R129): 1 if s(a) < s(b) signed. -/
def execSlt (d a b : BitVec 6) (s : State) : Out := aluOp d a b (fun x y => boolWord (x.slt y)) s

/-- SLTU (R129): 1 if s(a) < s(b) unsigned. -/
def execSltu (d a b : BitVec 6) (s : State) : Out := aluOp d a b (fun x y => boolWord (x.ult y)) s

/-- MUL (R129): low 64 bits of the product. -/
def execMul (d a b : BitVec 6) (s : State) : Out := aluOp d a b (fun x y => x * y) s

/-- MULH (R129): high 64 bits of the signed product. -/
def execMulh (d a b : BitVec 6) (s : State) : Out := aluOp d a b (fun x y => mulHighS x y) s

/-- MULHU (R129): high 64 bits of the unsigned product. -/
def execMulhu (d a b : BitVec 6) (s : State) : Out := aluOp d a b (fun x y => mulHighU x y) s

/-- DIV (R129): signed quotient, R130. -/
def execDiv (d a b : BitVec 6) (s : State) : Out := aluOp d a b (fun x y => divS x y) s

/-- DIVU (R129): unsigned quotient, R130. -/
def execDivu (d a b : BitVec 6) (s : State) : Out := aluOp d a b (fun x y => divU x y) s

/-- REM (R129): signed remainder, R130. -/
def execRem (d a b : BitVec 6) (s : State) : Out := aluOp d a b (fun x y => remS x y) s

/-- REMU (R129): unsigned remainder, R130. -/
def execRemu (d a b : BitVec 6) (s : State) : Out := aluOp d a b (fun x y => remU x y) s

/-- MIN (R129): the lesser, signed. -/
def execMin (d a b : BitVec 6) (s : State) : Out := aluOp d a b (fun x y => minS x y) s

/-- MAX (R129): the greater, signed. -/
def execMax (d a b : BitVec 6) (s : State) : Out := aluOp d a b (fun x y => maxS x y) s

/-- MINU (R129): the lesser, unsigned. -/
def execMinu (d a b : BitVec 6) (s : State) : Out := aluOp d a b (fun x y => minU x y) s

/-- MAXU (R129): the greater, unsigned. -/
def execMaxu (d a b : BitVec 6) (s : State) : Out := aluOp d a b (fun x y => maxU x y) s

/-- CLZ (R129): leading zero bits; 64 for 0. -/
def execClz (d a : BitVec 6) (s : State) : Out := aluOp1 d a (fun x => BitVec.ofNat 64 (leadZeros x)) s

/-- CTZ (R129): trailing zero bits; 64 for 0. -/
def execCtz (d a : BitVec 6) (s : State) : Out := aluOp1 d a (fun x => BitVec.ofNat 64 (trailZeros x)) s

/-- POPC (R129): one bits. -/
def execPopc (d a : BitVec 6) (s : State) : Out := aluOp1 d a (fun x => BitVec.ofNat 64 (popCount x)) s

/-- ADDI (R131): s(a) + imm. -/
def execAddi (d a : BitVec 6) (i : BitVec 14) (s : State) : Out := aluOp1 d a (fun x => x + sx i) s

/-- ANDI (R131): s(a) AND imm. -/
def execAndi (d a : BitVec 6) (i : BitVec 14) (s : State) : Out := aluOp1 d a (fun x => x &&& sx i) s

/-- ORI (R131): s(a) OR imm. -/
def execOri (d a : BitVec 6) (i : BitVec 14) (s : State) : Out := aluOp1 d a (fun x => x ||| sx i) s

/-- XORI (R131): s(a) XOR imm. -/
def execXori (d a : BitVec 6) (i : BitVec 14) (s : State) : Out := aluOp1 d a (fun x => x ^^^ sx i) s

/-- SLTI (R131): 1 if s(a) < imm signed. -/
def execSlti (d a : BitVec 6) (i : BitVec 14) (s : State) : Out := aluOp1 d a (fun x => boolWord (x.slt (sx i))) s

/-- SLTIU (R131): 1 if s(a) < imm unsigned, imm sign-extended. -/
def execSltiu (d a : BitVec 6) (i : BitVec 14) (s : State) : Out := aluOp1 d a (fun x => boolWord (x.ult (sx i))) s

/-- MULI (R131): low 64 bits of s(a) × imm. -/
def execMuli (d a : BitVec 6) (i : BitVec 14) (s : State) : Out := aluOp1 d a (fun x => x * sx i) s

/-- SHLI (R131): s(a) << sh. -/
def execShli (d a n : BitVec 6) (s : State) : Out := aluOp1 d a (fun x => x <<< n.toNat) s

/-- SHRI (R131): s(a) >> sh, logical. -/
def execShri (d a n : BitVec 6) (s : State) : Out := aluOp1 d a (fun x => x >>> n.toNat) s

/-- SRAI (R131): s(a) >> sh, arithmetic. -/
def execSrai (d a n : BitVec 6) (s : State) : Out := aluOp1 d a (fun x => x.sshiftRight n.toNat) s

/-- LUI (R132). -/
def execLui (d : BitVec 6) (i : BitVec 20) (s : State) : Out :=
  onScalar s (fun w => .next (scalarResult w d (upper i) s))

/-- ADDPC (R132): the instruction's own address plus the upper immediate. -/
def execAddpc (d : BitVec 6) (i : BitVec 20) (s : State) : Out :=
  onScalar s (fun w => .next (scalarResult w d ((s.pcOf w).setWidth 64 + upper i) s))

/-- NOP (R87): the program counter of the engine that issues it advances. -/
def execNop (s : State) : Out :=
  match s.who with
  | some w => .next (s.advance w)
  | none => .next s

end Sys2Proof.Machine
end

