-- ==== Sys2Proof/Machine/ScalarMem.lean ====
section
/-!
DEFINITION. Scalar loads, stores and atomics (R133 to R136, R148, R252 to R254, R281, R287).
-/

namespace Sys2Proof.Machine

open Sys2Proof

/-- The word of an instruction, as an illegal-instruction record carries it (R302). -/
def wordOf (i : Instr) : Word := ((encode i).getD 0).setWidth 64

/-- Bytes of a size code (R133, R134). -/
def sizeBytes (z : BitVec 2) : Nat := 2 ^ z.toNat

/-- A scratchpad access of n bytes at window offset a (R16, R21, R126, R135): illegal on a supervisor core (R127); state-use
outside the window; alignment; a watermark hold; else k. -/
def scratchAccess (i : Instr) (n : Nat) (a : Word) (s : State) (w : Who) (k : Nat → State → Out) : Out :=
  match w with
  | .sv _ => .next (s.illegal w (wordOf i))
  | .task h _ =>
    let r := s.res h
    let off := a.toNat
    if !r.inWindow off 1 || s.heldUnsettled w false (r.spBase + off) n then .next (s.stateUse w)
    else if off % n ≠ 0 then .next (s.alignFault w n a)
    else heldOp w false (r.spBase + off) n s (k h)

/-- A scratchpad load (R133, R134). -/
def scratchLoad (i : Instr) (z : BitVec 2) (d : BitVec 6) (a : Who → Word) (signed : Bool) (s : State) : Out :=
  onScalar s (fun w => scratchAccess i (sizeBytes z) (a w) s w (fun h s' =>
    .next (scalarResult w d (extBytes signed (sizeBytes z) (leNat (s'.spadRead h (a w).toNat (sizeBytes z)))) s')))

/-- A global access of n bytes at address a (R135, R21, R126, R124): alignment, watermark hold, translation; else k. -/
def globalAccess (n : Nat) (a : Word) (acc : Acc) (acqrel : Bool) (s : State) (w : Who) (k : Target → State → Out) : Out :=
  if s.heldUnsettled w true a.toNat n then .next (s.stateUse w)
  else if a.toNat % n ≠ 0 then .next (s.alignFault w n a)
  else heldOp w true a.toNat n s (fun s' => withTarget w a.toNat acc acqrel .instr s' (fun t _ s'' => k t s''))

/-- A global load (R133, R134, R281): it joins the accesses in flight; s(d) is written when it is performed. -/
def globalLoad (z : BitVec 2) (d : BitVec 6) (a : Who → Word) (signed acq : Bool) (scope : BitVec 3) (s : State) : Out :=
  onScalar s (fun w => globalAccess (sizeBytes z) (a w) .load acq s w (fun t s' =>
    .next ((s'.pushGacc (mkLoad w s' t (a w).toNat (sizeBytes z) acq scope (.sreg d.toNat signed))).advance w)))

/-- A global store (R133, R134, R281): it leaves the program into the write queue and commits later. -/
def globalStore (z : BitVec 2) (d : BitVec 6) (a : Who → Word) (rel : Bool) (scope : BitVec 3) (s : State) : Out :=
  onScalar s (fun w => globalAccess (sizeBytes z) (a w) .store rel s w (fun t s' =>
    if !s'.storeRoom w.owner [t] then .next s'
    else .next ((s'.pushGacc (mkStore w s' t (a w).toNat (leBytes (sizeBytes z) (s.sreg w d).toNat) rel scope false)).advance w)))

/-- LDS (R133): s(d) := sign-extended scratchpad bytes at s(a) + sext(imm). -/
def execLds (z : BitVec 2) (d a : BitVec 6) (i : BitVec 14) (s : State) : Out :=
  scratchLoad (.lds z d a i) z d (fun w => s.sreg w a + sx i) true s

/-- STS (R133): the low bytes of s(d) go to the scratchpad. -/
def execSts (z : BitVec 2) (d a : BitVec 6) (i : BitVec 14) (s : State) : Out :=
  onScalar s (fun w => scratchAccess (.sts z d a i) (sizeBytes z) (s.sreg w a + sx i) s w (fun h s' =>
    .next ((s'.spadWrite h (s.sreg w a + sx i).toNat (leBytes (sizeBytes z) (s.sreg w d).toNat)).advance w)))

/-- LDG (R133). -/
def execLdg (z : BitVec 2) (d a : BitVec 6) (i : BitVec 14) (s : State) : Out :=
  globalLoad z d (fun w => s.sreg w a + sx i) true false 0 s

/-- STG (R133). -/
def execStg (z : BitVec 2) (d a : BitVec 6) (i : BitVec 14) (s : State) : Out :=
  globalStore z d (fun w => s.sreg w a + sx i) false 0 s

/-- LDS_Z (R134): zero-extending scratchpad load at s(a). -/
def execLdsZ (d a : BitVec 6) (z : BitVec 2) (s : State) : Out :=
  scratchLoad (.ldsZ d a z) z d (fun w => s.sreg w a) false s

/-- LDG_Z (R134): zero-extending global load at s(a). -/
def execLdgZ (d a : BitVec 6) (z : BitVec 2) (s : State) : Out :=
  globalLoad z d (fun w => s.sreg w a) false false 0 s

/-- LDG_ACQ (R134, R281): acquire load, sign-extending. -/
def execLdgAcq (d a : BitVec 6) (c : BitVec 3) (z : BitVec 2) (s : State) : Out :=
  globalLoad z d (fun w => s.sreg w a) true true c s

/-- LDG_ACQ_Z (R134, R281): acquire load, zero-extending. -/
def execLdgAcqZ (d a : BitVec 6) (c : BitVec 3) (z : BitVec 2) (s : State) : Out :=
  globalLoad z d (fun w => s.sreg w a) false true c s

/-- STG_REL (R134, R281): release store. -/
def execStgRel (d a : BitVec 6) (c : BitVec 3) (z : BitVec 2) (s : State) : Out :=
  globalStore z d (fun w => s.sreg w a) true c s

/-! ## Atomics -/

/-- Operand width of a handler in bytes: the fixed handlers of R258, the slot-width table for 24 to 31 (R252). -/
def State.handlerWidth (s : State) (hd : Nat) : Nat :=
  if hd < 24 then
    (match hd with
     | 0 | 2 | 3 | 6 | 8 | 9 | 15 | 17 | 20 | 21 | 22 => 4
     | 19 => 16
     | _ => 8)
  else (fget HSlot.start s.hslots hd).w

/-- The handlers that PCIe AtomicOps carry (R254). -/
def pcieHandler (hd : Nat) : Bool := [0, 1, 15, 16, 17, 18, 19].contains hd

/-- The rights a remote operation needs (R253). -/
def remoteAcc (hd : Nat) (red : Bool) : Acc := if hd = 23 then .read23 else if red then .red else .atomic

/-- The kind-conflict, remote-atomic-permit and AtomicOp checks of R253, R254 and R297 come from the leaf. -/
def remoteLeafOk (hd : Nat) (t : Target) (leaf : BitVec 64) : Bool :=
  if t.aper = 2 then leafRAP leaf else if t.aper = 3 then pcieHandler hd else true

/-- A scalar remote operation (R148, R252 to R254): state-use for an empty slot or a width the form does not take,
alignment, translation and rights, then the request. -/
def scalarRemote (hd : BitVec 5) (c : BitVec 3) (a : BitVec 6) (red : Bool) (widthOk : Nat → Bool)
    (ops : Who → Nat → BitVec 128 × BitVec 128 × RDest) (s : State) : Out :=
  onScalar s (fun w =>
    let wd := s.handlerWidth hd.toNat
    let va := s.sreg w a
    if wd = 0 || !widthOk wd then .next (s.stateUse w)
    else if va.toNat % wd ≠ 0 then .next (s.alignFault w wd va)
    else withTarget w va.toNat (remoteAcc hd.toNat red) true .instr s (fun t leaf s' =>
      if !remoteLeafOk hd.toNat t leaf then
        .next (s'.takeFault w .instr (accFault 0x14 leaf va (remoteAcc hd.toNat red)))
      else if !s'.serialRoom w (s'.ownerPkg t) then .next s'
      else
        let (op0, op1, dest) := ops w wd
        .next ((s'.issueRemote w t va.toNat (.handler hd wd) op0 op1 dest (hd != 23) c .release).advance w)))

/-- The low W bytes of a register (R252). -/
def operandBytes (wd : Nat) (x : Word) : BitVec 128 := if wd = 4 then (x.setWidth 32).setWidth 128 else x.setWidth 128

/-- AMO (R148, R252): op0 = s(b), op1 = s(d) (0 when d = 0); s(d) := the result, sign-extended for handlers 0, 2 and 3. -/
def execAmo (d a b : BitVec 6) (h : BitVec 5) (c : BitVec 3) (s : State) : Out :=
  scalarRemote h c a false (fun wd => decide (wd ≠ 16))
    (fun w wd => (operandBytes wd (s.sreg w b), operandBytes wd (s.sreg w d),
      .sreg d.toNat wd (decide (h = 0) || decide (h = 2) || decide (h = 3)))) s

/-- RED (R148, R252): op0 = s(b), op1 = 0, no result. -/
def execRed (a b : BitVec 6) (h : BitVec 5) (c : BitVec 3) (s : State) : Out :=
  scalarRemote h c a true (fun wd => decide (wd ≠ 16)) (fun w wd => (operandBytes wd (s.sreg w b), 0, .none)) s

/-- AMOQ (R148, R252): 128-bit operands in register pairs, high word first; with d = 0 op1 is 0 and the result discarded. -/
def execAmoq (d a b : BitVec 6) (h : BitVec 5) (c : BitVec 3) (s : State) : Out :=
  scalarRemote h c a false (fun wd => decide (wd = 16))
    (fun w _ => (s.sreg w (b + 1) ++ s.sreg w b, if d = 0 then 0 else s.sreg w (d + 1) ++ s.sreg w d, .pair d.toNat)) s

end Sys2Proof.Machine
end

