-- ==== Sys2Proof/Machine/ControlRegs.lean ====
section
/-!
DEFINITION. The control registers: of a resident and its tile (R12, R13, R14, R17), and of a supervisor core (R318,
R319); CRR, CRW and TIME (R142, R143), and the register-write events.
-/

namespace Sys2Proof.Machine

open Sys2Proof

/-- RSTAT.STATE codes (R43). -/
def lifeCode : Life → Nat
  | .free => 0 | .loading => 1 | .active => 2 | .saving => 4 | .restoring => 6 | .draining => 7

/-- RSTAT as it reads (R14). -/
def Resident.rstat (r : Resident) : Word :=
  (r.asid.setWidth 64 <<< 50) ||| (r.nodeInst.setWidth 64 <<< 26) ||| (r.taskNum.setWidth 64 <<< 6) |||
  (r.prio.setWidth 64 <<< 4) ||| BitVec.ofNat 64 (lifeCode r.life)

/-- The trap registers of a scalar program, common to residents and supervisor cores (R24, R318). -/
def trapCr (stamp : Word) (c : SCtx) : Nat → Option Word
  | 0x003 => some (c.tvec.setWidth 64)
  | 0x004 => some c.tcause
  | 0x005 => some (tstatRead stamp c)
  | 0x006 => some c.tcmp
  | 0x007 => some (c.epc.setWidth 64)
  | 0x008 => some (c.enx1.setWidth 64)
  | 0x009 => some (c.enx2.setWidth 64)
  | 0x00A => some (c.eann.setWidth 64)
  | _ => none

/-- A write of a writable trap register (R25, R142). -/
def writeTrapCr (stamp : Word) (c : SCtx) (n : Nat) (v : Word) : Option SCtx :=
  match n with
  | 0x003 => some { c with tvec := addr56 v }
  | 0x005 => some (c.writeTstat v)
  | 0x006 => some (c.writeTcmp stamp v)
  | 0x007 => some { c with epc := addr56 v }
  | 0x008 => some { c with enx1 := addr56 v }
  | 0x009 => some { c with enx2 := addr56 v }
  | 0x00A => some { c with eann := v.setWidth 2 }
  | _ => none

/-- A control register of a resident or of its tile; sup marks a supervisor's access (R12, R13, R17). -/
def State.resCr (s : State) (h : Nat) (sup : Bool) (n : Nat) : Option Word :=
  let r := s.res h
  let t := s.tile (hTile h)
  match trapCr s.stamp r.sc n with
  | some v => some v
  | none =>
    match n with
    | 0x001 => some r.rctl
    | 0x002 => some r.rng
    | 0x00B => some r.taskIdx
    | 0x00C => some r.cohort
    | 0x00D => some r.rank
    | 0x00E => some r.argBase
    | 0x00F => some r.rstat
    | 0x010 => some (r.estat.setWidth 64)
    | 0x011 => some r.vctl
    | 0x020 => some (r.slabWin.setWidth 64)
    | 0x021 => some (r.ringWin.setWidth 64)
    | 0x022 => some (r.chWin.setWidth 64)
    | 0x023 => some (r.ephWin.setWidth 64)
    | 0x024 => some r.spWin
    | 0x030 | 0x031 | 0x032 | 0x033 => some ((fget (0 : BitVec 32) r.mprog (n - 0x030)).setWidth 64)
    | 0x034 | 0x035 => some ((fget (0 : BitVec 32) r.cprog (n - 0x034)).setWidth 64)
    | 0x100 => some (BitVec.ofNat 64 (hTile h))
    | 0x101 => some Config.mcap
    | 0x102 => if sup then some t.mgate else none
    | 0x103 => some (t.slabfe.setWidth 64)
    | _ => none

/-- A task's write of its own control register: none where it has no right (R13, R142). -/
def Resident.taskWrite (r : Resident) (stamp : Word) (n : Nat) (v : Word) : Option Resident :=
  match n with
  | 0x001 => some { r with rctl := rctlValue v }
  | 0x002 => some { r with rng := rngValue v }
  | 0x011 => some { r with vctl := (r.vctl &&& 0x3F00#64) ||| (v &&& 1) }
  | _ => (writeTrapCr stamp r.sc n v).map (fun c => { r with sc := c })

/-- A supervisor's write of a resident's register (R12, R46, R151): its own fields of the registers a task writes, and the
windows, RSTAT (STATE ignored) and progress registers. SPWIN takes the value as it is written, though R16 says that size and base are multiples of 64 KiB:
the spec is silent on a write of another value (DESIGN CHOICE, log entry 117). -/
def Resident.supWrite (r : Resident) (stamp : Word) (n : Nat) (v : Word) : Option Resident :=
  match n with
  | 0x00F => some { r with asid := v.extractLsb' 50 14, nodeInst := v.extractLsb' 26 24, taskNum := v.extractLsb' 6 20,
                           prio := v.extractLsb' 4 2 }
  | 0x011 => some { r with vctl := v &&& 0x3F01#64 }
  | 0x020 => some { r with slabWin := v.setWidth 32 }
  | 0x021 => some { r with ringWin := v.setWidth 32 }
  | 0x022 => some { r with chWin := v.setWidth 16 }
  | 0x023 => some { r with ephWin := v.setWidth 24 }
  | 0x024 => some { r with spWin := v }
  | 0x030 | 0x031 | 0x032 | 0x033 => some { r with mprog := fset (0 : BitVec 32) r.mprog (n - 0x030) (v.setWidth 32) }
  | 0x034 | 0x035 => some { r with cprog := fset (0 : BitVec 32) r.cprog (n - 0x034) (v.setWidth 32) }
  | _ => r.taskWrite stamp n v

/-- The registers whose supervisor writes R46 times. -/
def timedCr (n : Nat) : Bool := decide (n = 0x00F) || (decide (0x020 ≤ n) && decide (n ≤ 0x024)) || (decide (0x030 ≤ n) && decide (n ≤ 0x035))

/-- MGATE stores IDLE and KEEP; STAT is read-only (R225). -/
def mgateValue (old v : Word) : Word := (old &&& 0xF0#64) ||| (v &&& 0xFFFF0F#64)

/-! ## Supervisor core registers -/

/-- R306: a write of FQHEAD beyond FQTAIL stores FQTAIL. -/
def SvCore.writeFqhead (x : SvCore) (v : Word) : SvCore :=
  let n : BitVec 32 := v.setWidth 32
  let d := (n - x.fqtail).toNat
  { x with fqhead := if d ≠ 0 ∧ d < 2 ^ 31 then x.fqtail else n }

/-- R319: FQSIZE holds a power of two from 64 to 65,536; any other value stores 0. -/
def fqsizeValue (v : Word) : BitVec 17 :=
  if [64, 128, 256, 512, 1024, 2048, 4096, 8192, 16384, 32768, 65536].contains v.toNat then v.setWidth 17 else 0

/-- R319: a write of FQBASE ignores bits [5:0]; a write of either resets FQHEAD and FQTAIL. -/
def SvCore.writeFqbase (x : SvCore) (v : Word) : SvCore :=
  { x with fqbase := (v &&& 0xFFFFFFFFFFFC0#64).setWidth 52, fqhead := 0, fqtail := 0 }
def SvCore.writeFqsize (x : SvCore) (v : Word) : SvCore := { x with fqsize := fqsizeValue v, fqhead := 0, fqtail := 0 }

/-- A supervisor core's control register (R318). -/
def State.svCr (s : State) (c n : Nat) : Option Word :=
  let x := s.svc c
  match trapCr s.stamp x.sc n with
  | some v => some v
  | none =>
    match n with
    | 0x200 => some (BitVec.ofNat 64 c)
    | 0x201 => some (x.sasid.setWidth 64)
    | 0x202 => some (x.fqbase.setWidth 64)
    | 0x203 => some (x.fqsize.setWidth 64)
    | 0x204 => some (x.fqhead.setWidth 64)
    | 0x205 => some (x.fqtail.setWidth 64)
    | 0x206 => some x.sfaddr
    | 0x207 => some (s.wdog.setWidth 64)
    | 0x208 => some (s.svpool.setWidth 64)
    | 0x209 => some (s.svpooln.setWidth 64)
    | 0x20A => some (s.atbase.setWidth 64)
    | _ => none

/-- A supervisor core's write of its own register: none where it has no right (R318). -/
def State.svCrWrite (s : State) (c n : Nat) (v : Word) : Option State :=
  let x := s.svc c
  match n with
  | 0x202 => some (s.setSvc c (x.writeFqbase v))
  | 0x203 => some (s.setSvc c (x.writeFqsize v))
  | 0x204 => some (s.setSvc c (x.writeFqhead v))
  | 0x207 => some { s with wdog := v.setWidth 32 }
  | _ => (writeTrapCr s.stamp x.sc n v).map (fun d => s.setSvc c { x with sc := d })

/-- A program's read of control register n (R13, R142, R318). -/
def State.crRead (s : State) (w : Who) (n : Nat) : Option Word :=
  match w with
  | .task h _ => s.resCr h false n
  | .sv c => s.svCr c n

/-- A program's write of control register n (R13, R142, R318). -/
def State.crWrite (s : State) (w : Who) (n : Nat) (v : Word) : Option State :=
  match w with
  | .task h _ => ((s.res h).taskWrite s.stamp n v).map (fun r => s.setRes h r)
  | .sv c => s.svCrWrite c n v

/-- CRR (R142): s(d) := the register, zero-extended; illegal where it is unassigned or not readable (R13). -/
def execCrr (d : BitVec 6) (r : BitVec 14) (s : State) : Out :=
  onScalar s (fun w =>
    match s.crRead w r.toNat with
    | some v => .next (scalarResult w d v s)
    | none => .next (s.illegal w (wordOf (.crr d r))))

/-- CRW (R142): the register := s(a); illegal where it is unassigned or not writable (R13). -/
def execCrw (a : BitVec 6) (r : BitVec 14) (s : State) : Out :=
  onScalar s (fun w =>
    match s.crWrite w r.toNat (s.sreg w a) with
    | some s' => .next (s'.advance w)
    | none => .next (s.illegal w (wordOf (.crw a r))))

/-- TIME (R143): s(d) := the package stamp counter. -/
def execTime (d : BitVec 6) (s : State) : Out := onScalar s (fun w => .next (scalarResult w d s.stamp s))

/-- The scalar program an event operand names. -/
def progWho : Prog → Who
  | .task h => .task h.toNat .s
  | .sv c => .sv c.toNat

/-- TCMP_WRITE (R25, R142): a write of a program's TCMP. -/
def execTcmpWrite (p : Prog) (v : BitVec 64) (s : State) : Out := .next (s.modSc (progWho p) (fun c => c.writeTcmp s.stamp v))

/-- RCTL_WRITE (R14): a write of a resident's RCTL. -/
def execRctlWrite (h : Rh) (v : BitVec 64) (s : State) : Out := .next (s.modRes h.toNat (fun r => { r with rctl := rctlValue v }))

/-- RNG_WRITE (R59): a write of a resident's RNG. -/
def execRngWrite (h : Rh) (v : BitVec 64) (s : State) : Out := .next (s.modRes h.toNat (fun r => { r with rng := rngValue v }))

/-- TIMER_EXPIRY (R25): the stamp has reached TCMP and TPEND becomes 1. -/
def execTimerExpiry (p : Prog) (s : State) : Out := .next (s.modSc (progWho p) (fun c => c.pendTimer s.stamp))

/-- FQHEAD_WRITE (R306). -/
def execFqheadWrite (core : BitVec 3) (v : BitVec 64) (s : State) : Out := .next (s.modSvc core.toNat (fun x => x.writeFqhead v))

/-- FAULT_QUEUE_CONFIG_WRITE (R319): a write of FQSIZE or FQBASE. -/
def execFaultQueueConfigWrite (core : BitVec 3) (size : Bool) (v : BitVec 64) (s : State) : Out :=
  .next (s.modSvc core.toNat (fun x => if size then x.writeFqsize v else x.writeFqbase v))

end Sys2Proof.Machine
end

