-- ==== Sys2Proof/Machine/ScalarControl.lean ====
section
/-!
DEFINITION. Scalar control transfer (R137 to R139), traps and the return from them (R24, R140, R141), interrupts (R25,
R306), FORK, JOIN and END (R36 to R39, R144, R145).
-/

namespace Sys2Proof.Machine

open Sys2Proof

/-- A block boundary follows a control transfer, at the first settled point (R30). -/
def State.afterTransfer (s : State) (w : Who) : State :=
  match w with
  | .task h e => s.modPrg h e (fun p => { p with bnd := true })
  | .sv _ => s

/-- A transfer of the scalar queue to target completes (R22). -/
def State.transfer (s : State) (w : Who) (target : Addr) : State :=
  (((s.modSc w (fun c => c.taken target)).issued w).afterTransfer w)

/-- A compare and branch (R137): taken, it transfers; not taken with n = 1, it annuls both slots. -/
def branchOp (a b : BitVec 6) (n : BitVec 1) (o : BitVec 13) (cond : Word → Word → Bool) (s : State) : Out :=
  onScalar s (fun w =>
    if cond (s.sreg w a) (s.sreg w b) then .next (s.transfer w (branchTarget (s.pcOf w) o))
    else if n = 1 then .next ((s.advance w).modSc w SCtx.annul)
    else .next (s.advance w))

/-- BEQ (R137). -/
def execBeq (a b : BitVec 6) (n : BitVec 1) (o : BitVec 13) (s : State) : Out := branchOp a b n o (fun x y => decide (x = y)) s
/-- BNE (R137). -/
def execBne (a b : BitVec 6) (n : BitVec 1) (o : BitVec 13) (s : State) : Out := branchOp a b n o (fun x y => decide (x ≠ y)) s
/-- BLT (R137), signed. -/
def execBlt (a b : BitVec 6) (n : BitVec 1) (o : BitVec 13) (s : State) : Out := branchOp a b n o (fun x y => x.slt y) s
/-- BGE (R137), signed. -/
def execBge (a b : BitVec 6) (n : BitVec 1) (o : BitVec 13) (s : State) : Out := branchOp a b n o (fun x y => !x.slt y) s
/-- BLTU (R137). -/
def execBltu (a b : BitVec 6) (n : BitVec 1) (o : BitVec 13) (s : State) : Out := branchOp a b n o (fun x y => x.ult y) s
/-- BGEU (R137). -/
def execBgeu (a b : BitVec 6) (n : BitVec 1) (o : BitVec 13) (s : State) : Out := branchOp a b n o (fun x y => !x.ult y) s

/-- The link of a jump: its own address + 12 (R138). -/
def linkOf (pc : Addr) : Word := (pc + 12).setWidth 64

/-- A jump that always transfers, annulling both slots when n = 1 (R93, R138). -/
def jumpTo (w : Who) (n : BitVec 1) (target : Addr) (s : State) : State :=
  let s := s.transfer w target
  if n = 1 then s.modSc w SCtx.annul else s

/-- J (R138). -/
def execJump (n : BitVec 1) (o : BitVec 25) (s : State) : Out :=
  onScalar s (fun w => .next (jumpTo w n (branchTarget (s.pcOf w) o) s))

/-- JAL (R138): links in s63. -/
def execJal (n : BitVec 1) (o : BitVec 25) (s : State) : Out :=
  onScalar s (fun w => .next (jumpTo w n (branchTarget (s.pcOf w) o) (s.setSreg w 63 (linkOf (s.pcOf w)))))

/-- JALR (R138): to s(a) + sext(imm), the old value of s(a); a target with bits [1:0] ≠ 0 is an alignment fault. -/
def execJalr (d a : BitVec 6) (i : BitVec 14) (s : State) : Out :=
  onScalar s (fun w =>
    let x := s.sreg w a + sx i
    if x.toNat % 4 ≠ 0 then .next (s.alignFault w 4 x)
    else .next ((s.setSreg w d (linkOf (s.pcOf w))).transfer w (x.setWidth 56)))

/-- TRAP (R140): a normal step, then the trap of R24 with the stepped queue saved; illegal while INTRAP = 1 (R25). -/
def execTrap (c : BitVec 8) (s : State) : Out :=
  onScalar s (fun w =>
    if tstatINTRAP (s.sc w) then .next (s.illegal w (wordOf (.trap c)))
    else .next ((s.advance w).modSc w (fun q => q.takeTrap 2 c.toNat)))

/-- RETT (R24, R141): state-use while INTRAP = 0. -/
def execRett (s : State) : Out :=
  onScalar s (fun w =>
    if tstatINTRAP (s.sc w) then .next ((s.modSc w SCtx.retTrap).issued w)
    else .next (s.stateUse w))

/-- A timer interrupt is due: TPEND, IE, not in a trap (R24, R25). -/
def timerReady (stamp : Word) (c : SCtx) : Bool := timerDue stamp c && tstatIE c && !tstatINTRAP c

/-- A fault-queue interrupt is due (R306). -/
def fqReady (x : SvCore) : Bool := decide (x.fqhead ≠ x.fqtail) && tstatIE x.sc && !tstatINTRAP x.sc

/-- A program that may take an interrupt: a scalar program running on its engine, or a running supervisor core (R25). -/
def State.scalarRuns (s : State) (w : Who) : Bool :=
  match w with
  | .task h _ => decide ((s.res h).life = .active) && (s.res h).est .s == 1 && decide (s.cur (hTile h) .s = some (hRes h))
  | .sv c => (s.svc c).running && !(s.svc c).stopped

/-- Another delivery comes before a timer interrupt: a deferred fault of a task, the oldest first (R256), or a core's fault-queue interrupt (R306). -/
def State.beforeTimer (s : State) (w : Who) : Bool :=
  match w with
  | .task h _ => decide ((s.res h).deferred ≠ [])
  | .sv c => fqReady (s.svc c)

/-- TIMER_INTERRUPT (R24, R25): a pending timer interrupt is taken, KIND 1, before the next instruction issues, unless another delivery comes first. -/
def execTimerInterrupt (p : Prog) (s : State) : Out :=
  let w := progWho p
  if s.scalarRuns w && timerReady s.stamp (s.sc w) && !s.beforeTimer w then
    .next (s.modSc w (fun c => (c.pendTimer s.stamp).takeTrap 1 0))
  else .next s

/-- FAULT_QUEUE_INTERRUPT (R306): KIND 3. -/
def execFaultQueueInterrupt (core : BitVec 3) (s : State) : Out :=
  if s.scalarRuns (.sv core.toNat) && fqReady (s.svc core.toNat) then
    .next (s.modSc (.sv core.toNat) (fun c => c.takeTrap 3 0))
  else .next s

/-- SUPERVISOR_FAULT_TRAP (R310): a fault on a supervisor core's own access. -/
def execSupervisorFaultTrap (core : BitVec 3) (code : BitVec 8) (addr : BitVec 64) (s : State) : Out :=
  .next (s.svFault core.toNat code.toNat addr)

/-- The entries FORK names: engine and register field, a field of 0 leaving the engine unstarted (R144). -/
def forkList (v m c : BitVec 6) : List (Eng × BitVec 6) :=
  [(Eng.v, v), (Eng.m, m), (Eng.c, c)].filter (fun x => x.2 != 0)

/-- An entry address FORK takes: bits [1:0] and [63:56] zero (R144). -/
def entryOkAddr (x : Word) : Bool := decide (x.toNat % 4 = 0) && decide (x.toNat < 2 ^ 56)

/-- An engine program starts at an entry: locals 0 to 7 from s1 to s8, ESTAT running (R36). -/
def Resident.start1 (r : Resident) (e : Eng) (entry : Word) : Resident :=
  let loc := fun (m : FMap Word) => (List.range 8).foldl (fun m i => fset (0 : Word) m i (r.sc.get (i + 1))) m
  let r := match e with
    | .v => { r with kregs := loc r.kregs, vpos := 0 }
    | .m => { r with nregs := loc r.nregs }
    | .c => { r with cregs := loc r.cregs }
    | .s => r
  (r.setPrg e { Prg.start with pc := entry.setWidth 56 }).setEst e 1

/-- FORK (R36, R144): state-use when a named engine is not idle or an entry is malformed; then all start together. -/
def execFork (v m c : BitVec 6) (s : State) : Out :=
  onScalar s (fun w =>
    match w with
    | .sv _ => .next (s.illegal w (wordOf (.fork v m c)))
    | .task h _ =>
      let r := s.res h
      let es := forkList v m c
      if es.any (fun x => r.est x.1 != 0 || !entryOkAddr (r.sc.get x.2.toNat)) then .next (s.stateUse w)
      else .next ((s.setRes h (es.foldl (fun q x => q.start1 x.1 (r.sc.get x.2.toNat)) r)).advance w))

/-- JOIN passes: every ended program becomes idle (R38). -/
def Resident.joined (r : Resident) : Resident :=
  [Eng.v, .m, .c].foldl (fun q e => if q.est e = 3 then q.setEst e 0 else q) r

/-- JOIN (R38, R145): a wait until no V, M or C program runs or stands parked. -/
def execJoin (s : State) : Out :=
  onScalar s (fun w =>
    match w with
    | .sv _ => .next (s.illegal w (wordOf .join))
    | .task h _ => waitOp w .join s (fun s' => .next ((s'.modRes h Resident.joined).advance w))
      (fun s' => .next ((s'.modRes h Resident.joined).advance w)))

/-- END of the scalar program (R39, R145): the task retires when every other ESTAT field is 0, else state-use. -/
def execSEnd (s : State) : Out :=
  onScalar s (fun w =>
    match w with
    | .sv _ => .next (s.illegal w (wordOf .sEnd))
    | .task h _ =>
      let r := s.res h
      if [Eng.v, .m, .c].any (fun e => r.est e != 0) then .next (s.stateUse w)
      else .next ((s.setRes h { r.setEst .s 0 with life := .draining }).endBlock h .s))

/-- A failed remote operation parks the scalar program with the instruction at pc; the
record names the remote instruction, FLAGS bit 3 set. -/
def State.deliverDeferred (s : State) (h : Nat) : State :=
  let r := s.res h
  match r.deferred with
  | [] => s
  | id :: rest =>
    let s := s.modRes h (fun q => { q with deferred := rest })
    match s.rout? id with
    | some o =>
      let f := remoteFault (o.status.getD .indeterminate) o.peer o.inc o.tgt.pa (Config.freeStateUseDetail s.fresh)
      let f := { f with va := BitVec.ofNat 64 o.va }
      s.fresh1.parkWith h .s (.remote id) (s.mkRecord h .s f o.iaddr)
    | none =>
      match s.gacc? id with
      | some g =>
        let f := remoteFault (g.failed.getD .indeterminate) g.tgt.peer (s.incOf g.tgt.peer) g.tgt.pa (Config.freeStateUseDetail s.fresh)
        let f := { f with va := BitVec.ofNat 64 g.va, flags := f.flags ||| (if g.isStore then 1 else 0) }
        s.fresh1.parkWith h .s (.remote id) (s.mkRecord h .s f g.iaddr)
      | none => s

/-- The scalar program stands at the stop point of a pre-emption and its resident drains: a fault that arrives parks it as usual (R313). -/
def State.drains (s : State) (h : Nat) : Bool :=
  let r := s.res h
  decide (r.life = .active) && r.preempt && r.est .s == 1 && engines.all (fun e => s.cur (hTile h) e != some (hRes h))

/-- DEFERRED_FAULT_DELIVERY (R256, R313): the oldest deferred fault of a scalar program that runs, or whose resident drains, is delivered. -/
def execDeferredFaultDelivery (h : Rh) (s : State) : Out :=
  if s.scalarRuns (.task h.toNat .s) || s.drains h.toNat then .next (s.deliverDeferred h.toNat) else .next s

end Sys2Proof.Machine
end

