-- ==== Sys2Proof/Machine/Cohort.lean ====
section
/-!
DEFINITION. Cohorts (R40 to R42, R146): objects, ranks and barriers, on this package and through requests on another,
and GLAUNCH (R147).
-/

namespace Sys2Proof.Machine

open Sys2Proof

/-- A fresh handle of this package: its package bits are those of R331, the rest a free value; never 0, never in use. -/
def State.newHandle (s : State) (used : List Word) : Word :=
  let x := Config.freeHandle s.fresh
  let cand := fun (i : Nat) => (x.extractLsb' 50 14) ++ s.pkgId ++ (x.extractLsb' 0 40 + BitVec.ofNat 40 i)
  (((List.range (used.length + 2)).map cand).find? (fun y => y != 0 && !used.contains y)).getD 1

/-- The number of cohort objects of a package (R146). -/
def cohortMax : Nat := 65536

/-- The lowest free index of an object table, when one is below the limit. -/
def freeSlot (live : Nat → Bool) (n limit : Nat) : Option Nat :=
  match (List.range (n + 1)).find? (fun k => !live k) with
  | some k => if k < limit then some k else none
  | none => none

/-- CCREATE's effect (R40, R146): the handle, 0 when every object is in use. -/
def State.ccreate (s : State) (w : Who) (n : Nat) : State × Word :=
  match freeSlot (fun k => (s.cohort k).live) s.cohorts.length cohortMax with
  | none => (s, 0)
  | some k =>
    let hd := s.newHandle ((s.cohorts.filter (fun kc => kc.2.live)).map (fun kc => kc.2.handle))
    let g := match w with
      | .task h _ => (match (s.res h).task with | some t => t.graph | none => 2 ^ 20)
      | .sv _ => 2 ^ 20
    let c : Cohort := { Cohort.start with live := true, handle := hd, asid := s.asidOf w, size := n, graph := g }
    ({ s.fresh1 with cohorts := fput s.cohorts k c }, hd)

def State.setCohort (s : State) (k : Nat) (c : Cohort) : State := { s with cohorts := fput s.cohorts k c }

/-- The member at a rank. -/
def Cohort.at (c : Cohort) (r : Nat) : Option Member := fget none c.members r

/-- The lowest vacant rank (R40). -/
def Cohort.vacant (c : Cohort) : Option Nat :=
  (List.range (min c.size (c.members.length + 1))).find? (fun r => decide (c.at r = none))

/-- Two members are one task. -/
def Member.same (a b : Member) : Bool :=
  decide (a.pkg = b.pkg) && decide (a.key = b.key) && decide (a.asid = b.asid) && decide (a.nodeInst = b.nodeInst) && decide (a.taskNum = b.taskNum)

def Cohort.rankOf (c : Cohort) (m : Member) : Option Nat :=
  (c.members.find? (fun jm => match jm.2 with | some x => x.same m | none => false)).map (·.1)

/-- A resident's task as a member. -/
def State.memberOf (s : State) (h : Nat) (atLaunch : Bool) : Member :=
  let r := s.res h
  { key := r.key, asid := r.asid, nodeInst := r.nodeInst, taskNum := r.taskNum, pkg := s.pkgId, atLaunch := atLaunch, arrived := false, waits := false,
    passed := false, reply := none }

/-- CJOIN's effect (R40): the rank held, or the lowest vacant one, or all ones. -/
def Cohort.join (c : Cohort) (m : Member) : Cohort × Word :=
  match c.rankOf m with
  | some r => (c, BitVec.ofNat 64 r)
  | none =>
    match c.vacant with
    | some r => ({ c with members := fput c.members r (some m) }, BitVec.ofNat 64 r)
    | none => (c, BitVec.allOnes 64)

/-- Every rank is occupied and its holder has arrived (R42). -/
def Cohort.complete (c : Cohort) : Bool :=
  decide ((c.members.filter (fun jm => match jm.2 with | some m => m.arrived | none => false)).length = c.size)

/-- BARRIER_GENERATION (R42): the generation completes and every waiting BAR of it passes, one that was skipped meanwhile not; members of other packages are
told by a packet. -/
def State.barrierCheck (s : State) (k : Nat) : State :=
  let c := s.cohort k
  if c.complete then
    let replies := c.members.filterMap (fun jm => match jm.2 with
      | some m => (match m.reply with | some id => if m.waits then some (m.pkg, id) else none | none => none)
      | none => none)
    let ms := c.members.map (fun jm => (jm.1, jm.2.map (fun m => { m with arrived := false, waits := false, passed := m.waits && decide (m.reply = none) })))
    let s := s.setCohort k { c with gen := c.gen + 1, members := ms }
    replies.foldl (fun s p => s.sendPacket p.1 (.barrierPassed p.2)) s
  else s

/-- A member leaves: its rank is vacant and its arrival withdrawn (R40, R42). -/
def Cohort.leave (c : Cohort) (m : Member) : Cohort :=
  match c.rankOf m with
  | some r => { c with members := fput c.members r none }
  | none => c

/-- A member arrives at the barrier, unless it has (R42). A task of another package arrives by a request: one that comes again changes nothing, a new one takes the
place of the one before. -/
def Cohort.arrive (c : Cohort) (m : Member) (reply : Option Nat) : Cohort :=
  match c.rankOf m with
  | some r =>
    match c.at r with
    | some x =>
      if reply.isSome && decide (x.reply = reply) then c
      else if x.arrived || x.passed then
        (match reply with
         | some _ => { c with members := fput c.members r (some { x with reply := reply, waits := true }) }
         | none => { c with members := fput c.members r (some { x with waits := true }) })
      else { c with members := fput c.members r (some { x with arrived := true, waits := true, reply := reply }) }
    | none => c
  | none => c

/-- The member's passed generation is taken. -/
def Cohort.takePass (c : Cohort) (m : Member) : Cohort :=
  match c.rankOf m with
  | some r => { c with members := fput c.members r ((c.at r).map (fun x => { x with passed := false })) }
  | none => c

/-- The member's BAR no longer waits (R152): its arrival in the current generation stands, and the next BAR joins the generation that is current then. -/
def Cohort.stopWait (c : Cohort) (m : Member) : Cohort :=
  match c.rankOf m with
  | some r => { c with members := fput c.members r ((c.at r).map (fun x => { x with waits := false, passed := false })) }
  | none => c

/-- A task that waits at a cohort's barrier waits no more: at this package's object, or by its request to another's. -/
def State.stopBar (s : State) (h : Nat) (hd : Word) : State :=
  if hdlPkg hd = s.pkgId then
    match s.cohortOf hd with
    | some k => s.setCohort k ((s.cohort k).stopWait (s.memberOf h false))
    | none => s
  else { s with routs := s.routs.filter (fun o => !(decide (o.owner = .task h) && decide (o.dest = .barrier hd))) }

/-- The target that stands for a cohort object of another package. -/
def cohortTarget (hd : Word) : Target := { aper := 2, pa := 0, peer := hdlPkg hd, kind := 1 }

/-- A task's identity as a request carries it. -/
def Resident.identity (r : Resident) : BitVec 128 := r.ident.setWidth 128

/-- A cohort function on another package's object goes there as a request; it carries no serial (R349). op1 is 0: the request is a task's own, not a launch's (R41). -/
def State.remoteCohort (s : State) (w : Who) (fn : BitVec 2) (hd : Word) (dest : RDest) : State :=
  let me := match w with | .task h _ => (s.res h).identity | .sv _ => 0
  s.issueRemote w (cohortTarget hd) 0 (.cohort fn hd) me 0 dest false 3 (if fn = 3 then .release else .free)

/-- CCREATE (R40, R146): state-use for N = 0 or above 2^20. -/
def execCcreate (d a : BitVec 6) (s : State) : Out :=
  onScalar s (fun w =>
    let n := (s.sreg w a).toNat
    if n = 0 ∨ 2 ^ 20 < n then .next (s.stateUse w)
    else
      let r := s.ccreate w n
      .next (scalarResult w d r.2 r.1))

/-- CJOIN (R40, R146). -/
def execCjoin (d a : BitVec 6) (s : State) : Out :=
  onScalar s (fun w =>
    let hd := s.sreg w a
    match w with
    | .sv _ => .next (s.stateUse w)
    | .task h _ =>
      if hdlPkg hd ≠ s.pkgId then .next ((s.remoteCohort w 1 hd (.sreg d.toNat 8 false)).advance w)
      else match s.cohortOf hd with
        | none => .next (s.stateUse w)
        | some k =>
          let r := (s.cohort k).join (s.memberOf h false)
          .next (scalarResult w d r.2 (s.setCohort k r.1)))

/-- CLEAVE (R40, R42, R146). -/
def execCleave (a : BitVec 6) (s : State) : Out :=
  onScalar s (fun w =>
    let hd := s.sreg w a
    match w with
    | .sv _ => if (s.cohortOf hd).isSome then .next (s.advance w) else .next (s.stateUse w)
    | .task h _ =>
      if hdlPkg hd ≠ s.pkgId then .next ((s.remoteCohort w 2 hd .none).advance w)
      else match s.cohortOf hd with
        | none => .next (s.stateUse w)
        | some k => .next ((s.setCohort k ((s.cohort k).leave (s.memberOf h false))).advance w))

/-- Every access of path S is performed at a scope (R284, R286). -/
def State.pathPerformed (s : State) (o : Owner) (path scope : BitVec 3) : Bool :=
  s.gaccs.all (fun g => !(decide (g.owner = o) && decide (g.path = path)) || g.performedAt scope) &&
  s.routs.all (fun r => !(decide (r.owner = o) && decide (r.path = path)) || decide (r.status ≠ none) ||
    (match r.dest with | .barrier _ => true | _ => false))

/-- BAR (R42, R286): the member arrives once its path S accesses are performed, and waits for its generation; state-use
for a task that holds no rank. A BAR that finds its generation incomplete while the queue is unsettled raises state-use (R126); its arrival, or its request to another
package, stands all the same: the spec does not say whether it does (DESIGN CHOICE, log entry 117). -/
def execBar (a : BitVec 6) (s : State) : Out :=
  onScalar s (fun w =>
    let hd := s.sreg w a
    match w with
    | .sv _ => .next (s.stateUse w)
    | .task h _ =>
      if hdlPkg hd ≠ s.pkgId then
        if s.routs.any (fun o => decide (o.owner = .task h) && decide (o.dest = .barrier hd)) then
          waitOp w (.barrier hd) s
            (fun s' => .next (({ s' with routs := s'.routs.filter (fun o => !(decide (o.owner = .task h) && decide (o.dest = .barrier hd))) } : State).advance w))
            (fun s' => .next (s'.advance w))
        else if s.pathPerformed (.task h) 0 3 then .next (s.remoteCohort w 3 hd (.barrier hd)) else .next s
      else match s.cohortOf hd with
        | none => .next (s.stateUse w)
        | some k =>
          let m := s.memberOf h false
          match (s.cohort k).rankOf m with
          | none => .next (s.stateUse w)
          | some _ =>
            let scope : BitVec 3 := if (s.cohort k).members.all (fun jm => match jm.2 with | some x => decide (x.pkg = s.pkgId) | none => true) then 2 else 3
            if !s.pathPerformed (.task h) 0 scope then .next s
            else
              let s1 := (s.setCohort k ((s.cohort k).arrive m none)).barrierCheck k
              waitOp w (.barrier hd) s1
                (fun s' => .next ((s'.setCohort k ((s'.cohort k).takePass m)).advance w))
                (fun s' => .next ((s'.setCohort k ((s'.cohort k).takePass m)).advance w)))

/-! ## Graph launch -/

def State.graph (s : State) (g : Nat) : Graph := fget Graph.start s.graphs g

/-- A live graph handle of this package (R331). -/
def State.graphLive (s : State) (x : Word) : Bool :=
  let g := s.graph (hdlIdx x)
  g.live && decide (hdlType x = 2) && decide (hdlPkg x = s.pkgId) && decide (hdlAsid x = g.asid) && decide (hdlGen x = g.gen)

/-- The instance numbers in use: those of queued and running instances, and those of tasks that have not drained (R340). -/
def State.instUsed (s : State) (n len : Nat) : Bool :=
  let meets := fun (f l : Nat) => decide ((n + 2 ^ 24 - f) % 2 ^ 24 < l + 1) || decide ((f + 2 ^ 24 - n) % 2 ^ 24 < len + 1)
  s.queues.any (fun q => meets q.first.toNat (s.graph q.graph).rcnt) ||
  s.running.any (fun r => meets r.inst.first.toNat (s.graph r.inst.graph).rcnt) ||
  s.residents.any (fun kr => decide (kr.2.life ≠ .free) && meets kr.2.nodeInst.toNat 1) ||
  s.saved.any (fun t => meets t.ref.nodeInst.toNat 1)

/-- A graph-node instance number (R147, R340): not in use; the choice is a free value. 0, which names none, when every number is in use. -/
def State.newInst (s : State) (len : Nat) : BitVec 24 :=
  let x := (Config.freeIndex s.fresh).toNat
  let ends := (s.queues.map (fun q => q.first.toNat + (s.graph q.graph).rcnt + 1)) ++
    (s.running.map (fun r => r.inst.first.toNat + (s.graph r.inst.graph).rcnt + 1)) ++
    (s.residents.map (fun kr => kr.2.nodeInst.toNat + 2)) ++ (s.saved.map (fun t => t.ref.nodeInst.toNat + 2))
  let cand := (x :: ends).flatMap (fun y => [y % 2 ^ 24, (y + 1) % 2 ^ 24])
  let free := fun (y : Nat) => y != 0 && !s.instUsed y len
  match cand.find? free with
  | some y => BitVec.ofNat 24 y
  | none => BitVec.ofNat 24 (((List.range (2 ^ 24)).find? free).getD 0)

/-- An instance joins the queue of a level (R331, R336); none when the queue is full, or no number is free for it (R340). -/
def State.queueInst (s : State) (g : Nat) (rebase : Word) (level : BitVec 2) : Option (State × BitVec 24) :=
  if 4096 ≤ (s.queues.filter (fun q => decide (q.level = level))).length then none
  else
    let n := s.newInst (s.graph g).rcnt
    if n = 0 then none
    else some ({ s.fresh1 with queues := s.queues ++ [{ graph := g, first := n, rebase := rebase, level := level }] }, n)

/-- GLAUNCH (R147): performed after every earlier store of path S has committed (R286); 0 when the queue is full or the
handle is no live graph of the task's ASID; protection without the write right on the Orrery queues. -/
def execGlaunch (d a b : BitVec 6) (s : State) : Out :=
  onScalar s (fun w =>
    let hd := s.sreg w a
    let level : BitVec 2 := match w with | .task h _ => (s.res h).prio | .sv _ => 0
    if !s.hasRight 86 (s.classOfWho w) 1 then .next (s.takeFault w .instr (faultInfo 0x12 2))
    else if s.storesOut w.owner 0 then .next s
    else if !s.graphLive hd || hdlAsid hd ≠ s.asidOf w then .next (scalarResult w d 0 s)
    else match s.queueInst (hdlIdx hd) (s.sreg w b) level with
      | none => .next (scalarResult w d 0 s)
      | some (s', n) => .next (scalarResult w d (n.setWidth 64) s'))

end Sys2Proof.Machine
end

