-- ==== Sys2Proof/Machine/Sync.lean ====
section
/-!
DEFINITION. The format Y groups of every tile engine: rings (R240 to R242), watermarks (R243), events (R244, R245),
fences (R246), and the stream registers (R247, R248).
-/

namespace Sys2Proof.Machine

open Sys2Proof

/-- The program whose turn it is, on any tile engine or supervisor core (R90, R149). -/
def onAny (s : State) (k : Who → Out) : Out :=
  match s.who with
  | some w => k w
  | none => .next s

/-- A tile engine's program: the group is illegal on a supervisor core (R127). -/
def onTile (i : Instr) (s : State) (k : Who → Nat → Out) : Out :=
  onAny s (fun w =>
    match w with
    | .task h _ => k w h
    | .sv _ => .next (s.illegal w (wordOf i)))

/-- A local register result, and the next instruction. -/
def localResult (w : Who) (x : Nat) (v : Word) (s : State) : State := (s.setLreg w x v).advance w

/-! ## Rings -/

/-- The slot that a counter value names (R19). -/
def Ring.slotOf (r : Ring) (x : BitVec 32) : Nat :=
  if r.nslots = 0 then 0 else (r.hslot.toNat + (x - r.head).toNat) % r.nslots.toNat

/-- The configuration word's fields (R240). -/
def cfgOff (v : Word) : Nat := (v.extractLsb' 0 22).toNat
def cfgSlot (v : Word) : Nat := (v.extractLsb' 22 17).toNat
def cfgSlots (v : Word) : Nat := (v.extractLsb' 39 13).toNat

/-- R240, R241: a configuration word that rinit takes, for a window size. -/
def ringWordOk (v : Word) (size : Nat) : Bool :=
  decide (v.extractLsb' 52 12 = 0) && decide (1 ≤ cfgSlots v) && decide (cfgSlots v ≤ 4096) &&
  decide (cfgSlot v ≤ 65536) && decide (cfgSlot v % 64 = 0) && decide (cfgOff v % 64 = 0) &&
  decide (cfgOff v + cfgSlots v * cfgSlot v ≤ size)

/-- A ring after rinit (R240). -/
def ringInit (v : Word) (spBase : Nat) : Ring :=
  { base := BitVec.ofNat 22 (spBase + cfgOff v), slotsz := v.extractLsb' 22 17, nslots := v.extractLsb' 39 13, head := 0,
    tail := 0, claim := 0, cfg := true, hslot := 0 }

/-- The configuration word as rread returns it (R240). -/
def Ring.word (r : Ring) (spBase : Nat) : Word :=
  (r.nslots.setWidth 64 <<< 39) ||| (r.slotsz.setWidth 64 <<< 22) |||
  ((r.base.setWidth 64 - BitVec.ofNat 64 spBase) &&& 0x3FFFFF#64)

/-- A ring function on a granted ring (R16); cfg marks those that need it configured (R241). -/
def ringOp (i : Instr) (b : BitVec 6) (cfg : Bool) (s : State) (k : Who → Nat → Ring → Out) : Out :=
  onTile i s (fun w h =>
    let g := s.ring (hTile h) b.toNat
    if !(s.res h).ringOk b.toNat || (cfg && !g.cfg) then .next (s.stateUse w) else k w h g)

/-- Scratchpad or slab accesses of a program that are not performed: stores (wr) or loads of a vector program, those of an executing datapath instruction or
transfer (R242). -/
def State.scratchBusy (s : State) (w : Who) (wr : Bool) : Bool :=
  match w with
  | .task h .v => s.vops.any (fun v => v.h == h && !v.finished && decide (v.space ≠ .global) && (v.load != wr))
  | .task h .m => (s.res h).dp.isSome
  | .task h .c => (s.res h).xf.isSome
  | _ => false

/-- RINIT (R240, R241). -/
def execRinit (o x : BitVec 6) (s : State) : Out :=
  ringOp (.rinit o x) o false s (fun w h g =>
    let v := s.lreg w x.toNat
    if !ringWordOk v (s.res h).spSize || (g.cfg && decide (g.claim ≠ g.head)) then .next (s.stateUse w)
    else .next ((s.setRing (hTile h) o.toNat (ringInit v (s.res h).spBase)).advance w))

/-- RCLAIM (R240): a wait for n free slots; x := CLAIM, CLAIM := CLAIM + n. -/
def execRclaim (o x : BitVec 6) (n : BitVec 10) (s : State) : Out :=
  ringOp (.rclaim o x n) o true s (fun w h g =>
    if g.nslots.toNat < n.toNat then .next (s.stateUse w)
    else waitOp w (.ringFree o.toNat n.toNat) s
      (fun s' => .next (localResult w x.toNat (g.claim.setWidth 64)
        (s'.setRing (hTile h) o.toNat { g with claim := g.claim + n.setWidth 32 })))
      (fun s' => .next (localResult w x.toNat (g.claim.setWidth 64) s')))

/-- RPUB (R240 to R242): a wait for TAIL = x; TAIL := x + n, after every earlier scratchpad and slab write. -/
def execRpub (o x : BitVec 6) (n : BitVec 10) (s : State) : Out :=
  ringOp (.rpub o x n) o true s (fun w h g =>
    let v : BitVec 32 := (s.lreg w x.toNat).setWidth 32
    if 2 ^ 31 ≤ (v - g.tail).toNat ∨ (g.claim - g.tail).toNat < (v - g.tail).toNat + n.toNat then .next (s.stateUse w)
    else if s.scratchBusy w true then .next s
    else waitOp w (.ringTail o.toNat v) s
      (fun s' => .next ((s'.setRing (hTile h) o.toNat { g with tail := v + n.setWidth 32 }).advance w))
      (fun s' => .next (s'.advance w)))

/-- RWFILL (R240): a wait for n filled slots; x := HEAD. -/
def execRwfill (o x : BitVec 6) (n : BitVec 10) (s : State) : Out :=
  ringOp (.rwfill o x n) o true s (fun w _ g =>
    waitOp w (.ringFilled o.toNat n.toNat) s
      (fun s' => .next (localResult w x.toNat (g.head.setWidth 64) s'))
      (fun s' => .next (localResult w x.toNat (g.head.setWidth 64) s')))

/-- RWFREE (R240): a wait for n free slots; x := CLAIM. -/
def execRwfree (o x : BitVec 6) (n : BitVec 10) (s : State) : Out :=
  ringOp (.rwfree o x n) o true s (fun w _ g =>
    if g.nslots.toNat < n.toNat then .next (s.stateUse w)
    else waitOp w (.ringFree o.toNat n.toNat) s
      (fun s' => .next (localResult w x.toNat (g.claim.setWidth 64) s'))
      (fun s' => .next (localResult w x.toNat (g.claim.setWidth 64) s')))

/-- RCONS (R240 to R242): HEAD := HEAD + n, HSLOT moves on; held until every earlier scratchpad read is performed. -/
def execRcons (o : BitVec 6) (n : BitVec 10) (s : State) : Out :=
  ringOp (.rcons o n) o true s (fun w h g =>
    if g.filled < n.toNat then .next (s.stateUse w)
    else if s.scratchBusy w false then .next s
    else .next ((s.setRing (hTile h) o.toNat
      { g with head := g.head + n.setWidth 32, hslot := BitVec.ofNat 12 ((g.hslot.toNat + n.toNat) % g.nslots.toNat) }).advance w))

/-- RREAD (R240, R241): HEAD, TAIL, CLAIM or the configuration word; 0 for an unconfigured ring. -/
def execRread (o x : BitVec 6) (sel : BitVec 2) (s : State) : Out :=
  ringOp (.rread o x sel) o false s (fun w h g =>
    let v : Word := match sel.toNat with
      | 0 => g.head.setWidth 64
      | 1 => g.tail.setWidth 64
      | 2 => g.claim.setWidth 64
      | _ => g.word (s.res h).spBase
    .next (localResult w x.toNat (if g.cfg then v else 0) s))

/-- RADDR (R240): the window offset of the slot that x[31:0] names. -/
def execRaddr (o x : BitVec 6) (s : State) : Out :=
  ringOp (.raddr o x) o true s (fun w h g =>
    let a := g.base.toNat + g.slotOf ((s.lreg w x.toNat).setWidth 32) * g.slotsz.toNat
    .next (localResult w x.toNat ((s.res h).offOf (BitVec.ofNat 64 a)) s))

/-! ## Watermarks -/

/-- A channel function on a granted channel (R16). -/
def chanOp (i : Instr) (c : BitVec 6) (s : State) (k : Who → Nat → Chan → Out) : Out :=
  onTile i s (fun w h =>
    if !(s.res h).chanOk c.toNat then .next (s.stateUse w) else k w h (s.chan (hTile h) c.toNat))

/-- WMWAIT (R243): a wait for BASE ≤ A ≤ WM, A tile-absolute for a scratchpad channel. -/
def execWmwait (o x : BitVec 6) (s : State) : Out :=
  chanOp (.wmwait o x) o s (fun w h c =>
    let v := s.lreg w x.toNat
    let a := if c.space then (s.res h).absOf v else v
    waitOp w (.mark o.toNat a) s (fun s' => .next (s'.advance w)) (fun s' => .next (s'.advance w)))

/-- WMARM (R243): SPACE, BASE, LIMIT; WM := BASE. State-use on an armed channel or a range out of its rule. -/
def execWmarm (o x : BitVec 6) (p : BitVec 1) (s : State) : Out :=
  chanOp (.wmarm o x p) o s (fun w h c =>
    let r := s.res h
    let b := (s.lreg w x.toNat).toNat
    let l := (s.lreg w (x.toNat + 1)).toNat
    if c.armed || decide (l < b) || decide (2 ^ 32 < l - b) || (decide (p = 1) && decide (r.spSize < l)) ||
        (decide (p = 0) && (decide (2 ^ 56 ≤ b) || decide (2 ^ 56 ≤ l))) then .next (s.stateUse w)
    else
      let off := if p = 1 then r.spBase else 0
      .next ((s.setChan (hTile h) o.toNat
        { space := decide (p = 1), base := BitVec.ofNat 56 (b + off), limit := BitVec.ofNat 56 (l + off),
          wm := BitVec.ofNat 56 (b + off), asid := r.asid, filling := false }).advance w))

/-- WMREAD (R243): x := WM, a window offset for a scratchpad channel. -/
def execWmread (o x : BitVec 6) (s : State) : Out :=
  chanOp (.wmread o x) o s (fun w h c =>
    let v : Word := c.wm.setWidth 64
    .next (localResult w x.toNat (if c.space then (s.res h).offOf v else v) s))

/-- WMIDLE (R243): BASE := WM, LIMIT := WM; state-use while a transfer or collective fills the channel. -/
def execWmidle (o : BitVec 6) (s : State) : Out :=
  chanOp (.wmidle o) o s (fun w h c =>
    if c.filling then .next (s.stateUse w)
    else .next ((s.setChan (hTile h) o.toNat { c with base := c.wm, limit := c.wm }).advance w))

/-! ## Events -/

/-- The target that stands for an event object: on this package, or a peer's. -/
def State.eventTarget (s : State) (hd : Word) : Target :=
  { aper := if hdlPkg hd = s.pkgId then 0 else 2, pa := 2 ^ 60 + hdlIdx hd, peer := hdlPkg hd, kind := 1 }

/-- R244: the handle names a live event of the program's ASID; a peer's liveness is tested there. -/
def State.eventNamed (s : State) (w : Who) (hd : Word) : Bool :=
  decide (hdlAsid hd = s.asidOf w) && decide (hdlType hd = 1) && (if hdlPkg hd = s.pkgId then s.eventLive hd else true)

/-- An event function on a named event; wr marks those that need the write right on the Orrery queues (R244). -/
def eventOp (x : BitVec 6) (wr : Bool) (s : State) (k : Who → Word → Out) : Out :=
  onAny s (fun w =>
    let hd := s.lreg w x.toNat
    if !s.eventNamed w hd then .next (s.stateUse w)
    else if wr && !s.hasRight 86 (s.classOfWho w) 1 then .next (s.takeFault w .instr { faultInfo 0x12 2 with flags := 1 })
    else k w hd)

/-- The question about an event of another package that is out, or answered. -/
def State.eventRout (s : State) (o : Owner) (path : BitVec 3) (hd : Word) : Option ROut :=
  s.routs.find? (fun r => decide (r.owner = o) && decide (r.path = path) && decide (r.dest = .eventInfo hd))

/-- Another package is asked for the count of its event (R244, R333); no serial, no right is needed. -/
def State.askEvent (s : State) (o : Owner) (path : BitVec 3) (iaddr : Addr) (hd : Word) : State :=
  let q := s.reqOf o (hdlPkg hd) 7 (2 ^ 60 + hdlIdx hd) (.evRead hd) (hd.setWidth 128) 0 none 3
  let r := s.routOf o path (hdlPkg hd) (.eventInfo hd) 0 (s.eventTarget hd) iaddr q .free
  let s := s.noteReq o (hdlPkg hd) q
  { s with requests := s.requests ++ [q], routs := s.routs ++ [r], nextId := s.nextId + 1 }

/-- The count and status of another package's event, as an answer gives them, are what this package sees of it. -/
def State.seePeer (s : State) (hd count status : Word) : State :=
  { s with peerStatus := (hd, status) :: s.peerStatus.filter (fun p => p.1 != hd), peerCounts := (hd, count) :: s.peerCounts.filter (fun p => p.1 != hd) }

/-- A function that reads an event's count: another package's event is asked for, and the engine holds until the answer comes, as an interlock; a handle that
is not live there raises state-use (R244). -/
def withCount (w : Who) (hd : Word) (s : State) (k : State → Out) : Out :=
  if hdlPkg hd = s.pkgId then k s
  else match s.eventRout w.owner w.path hd with
    | none => .next (s.askEvent w.owner w.path (s.pcOf w) hd)
    | some o =>
      let s1 := s.dropRout o.id
      match o.status with
      | none => .next s
      | some .performed => k (s1.seePeer hd (o.answer.setWidth 64) ((o.answer >>> 64).setWidth 64))
      | some st => .next (s1.fresh1.takeFault w .instr (remoteFault st o.peer o.inc 0 (Config.freeStateUseDetail s.fresh)))

/-- Other packages are asked for the counts of their events among a list, all at once (R244, R263, R333): the answers are awaited, or all are there, or one is a failure. -/
def State.countsOf (s : State) (o : Owner) (path : BitVec 3) (iaddr : Addr) (hds : List Word) : State × Option (Option ROut) :=
  let far := (hds.filter (fun hd => decide (hdlPkg hd ≠ s.pkgId))).eraseDups
  let os := far.filterMap (s.eventRout o path)
  match far.filter (fun hd => (s.eventRout o path hd).isNone) with
  | hd :: l => ((hd :: l).foldl (fun s hd => s.askEvent o path iaddr hd) s, none)
  | [] =>
    if os.any (fun r => decide (r.status = none)) then (s, none)
    else
      let s1 := os.foldl (fun s r => s.dropRout r.id) s
      match os.find? (fun r => decide (r.status ≠ some .performed)) with
      | some r => (s1, some (some r))
      | none => (os.foldl (fun s r => match r.dest with
          | .eventInfo hd => s.seePeer hd (r.answer.setWidth 64) ((r.answer >>> 64).setWidth 64)
          | _ => s) s1, some none)

/-- A function that needs counts of other packages' events goes on when they are there; a handle that is not live there raises state-use. -/
def withCounts (w : Who) (hds : List Word) (s : State) (k : State → Out) : Out :=
  match s.countsOf w.owner w.path (s.pcOf w) hds with
  | (s, none) => .next s
  | (s, some none) => k s
  | (s, some (some o)) => .next (s.fresh1.takeFault w .instr (remoteFault (o.status.getD .unreachable) o.peer o.inc 0 (Config.freeStateUseDetail s.fresh)))

/-- A signal or set goes to the event's package as a request (R245, R335); it leaves when every earlier access of the
program is performed and committed. -/
def State.signalEvent (s : State) (w : Who) (hd : Word) (op : ROp) : State :=
  s.issueRemote w (s.eventTarget hd) 0 op (hd.setWidth 128) 0 .none true 3 .all

/-- A signalling function issues when its serial has room (R357). -/
def signalOp (w : Who) (hd : Word) (op : ROp) (s : State) : Out :=
  if s.serialRoom w (hdlPkg hd) then .next ((s.signalEvent w hd op).advance w) else .next s

/-- EVSIG (R244): count := count + n. -/
def execEvsig (x : BitVec 6) (n : BitVec 10) (s : State) : Out :=
  eventOp x true s (fun w hd => signalOp w hd (.evSignal (n.setWidth 64) 0 0) s)

/-- EVSIGR (R244): count := count + c(x + 1). -/
def execEvsigr (x : BitVec 6) (s : State) : Out :=
  eventOp x true s (fun w hd => signalOp w hd (.evSignal (s.lreg w (x.toNat + 1)) 0 0) s)

/-- EVWAIT (R244): a wait for (count − c(x + 1)) mod 2^64 < 2^63. -/
def execEvwait (x : BitVec 6) (s : State) : Out :=
  eventOp x false s (fun w hd => withCount w hd s (fun s =>
    waitOp w (.event hd (s.lreg w (x.toNat + 1))) s (fun s' => .next (s'.advance w)) (fun s' => .next (s'.advance w))))

/-- EVREAD (R244): x + 1 := count. -/
def execEvread (x : BitVec 6) (s : State) : Out :=
  eventOp x false s (fun w hd => withCount w hd s (fun s => .next (localResult w (x.toNat + 1) (s.eventCount hd) s)))

/-- EVSET (R244): count := c(x + 1). -/
def execEvset (x : BitVec 6) (s : State) : Out :=
  eventOp x true s (fun w hd => signalOp w hd (.evSet (s.lreg w (x.toNat + 1)) false) s)

/-- EVSET_C (R244): the cancel form. -/
def execEvsetC (x : BitVec 6) (s : State) : Out :=
  eventOp x true s (fun w hd => signalOp w hd (.evSet (s.lreg w (x.toNat + 1)) true) s)

/-! ## Fences -/

/-- The id below which set A of a fence that holds the program lies (R246). -/
def State.fenceOf (s : State) (w : Who) : Option Nat :=
  match w with
  | .task h .s => (s.res h).sc.fence
  | .task h e => ((s.res h).prg e).fence
  | .sv c => (s.svc c).sc.fence

def State.setFence (s : State) (w : Who) (x : Option Nat) : State :=
  match w with
  | .task h .s => s.modRes h (fun r => { r with sc := { r.sc with fence := x } })
  | .task h e => s.modPrg h e (fun p => { p with fence := x })
  | .sv c => s.modSvc c (fun y => { y with sc := { y.sc with fence := x } })

/-- A fence path code names a path: its own code, or all (R89). -/
def pathNamed (code p : BitVec 3) : Bool := decide (code = 7) || decide (code = p)

/-- A member's program was started by the task of a resident. -/
def State.startedBy (s : State) (o : Owner) (c : Nat) : Bool :=
  match o with
  | .task h => let r := s.res h; decide ((fget Comm.start s.comms c).ident = r.ident)
  | _ => false

/-- Every access of set A is performed at the scope (R246): those of path src with an id below n, the datapath instruction and the transfer that were executing,
the accesses made so far for collective programs, the handler runs of the operations issued; u: accesses to UO pages too. -/
def State.fenceDone (s : State) (w : Who) (src scope : BitVec 3) (u : Bool) (n : Nat) : Bool :=
  let o := w.owner
  s.gaccs.all (fun g => !(decide (g.owner = o) && pathNamed src g.path && decide (g.id < n) && (u || g.tgt.strong) && decide (g.failed = none)) || g.performedAt scope) &&
  s.routs.all (fun r => !(decide (r.owner = o) && pathNamed src r.path && decide (r.id < n)) || s.remotePerformed r scope) &&
  s.vops.all (fun v => !(decide (o = .task v.h) && pathNamed src 1 && decide (v.id < n) && decide (v.space ≠ .global)) || v.finished) &&
  (match w with
   | .task h _ =>
     (!pathNamed src 2 || (match (s.res h).dp with | some d => decide (n ≤ d.id) | none => true)) &&
     (!pathNamed src 3 || (match (s.res h).xf with | some x => decide (n ≤ x.id) | none => true))
   | .sv _ => true) &&
  (!pathNamed src 4 || s.gaccs.all (fun g => match g.owner with
    | .coll c => !(s.startedBy o c && decide (g.id < n) && (u || g.tgt.strong)) || g.performedAt scope
    | _ => true)) &&
  -- every host write that the part has accepted (R290)
  (!pathNamed src 6 || s.gaccs.all (fun g => match g.owner with | .host _ => !(g.isStore && decide (g.id < n)) | _ => true)) &&
  (!pathNamed src 5 || s.routs.all (fun r => !(decide (r.owner = o) && decide (r.id < n)) || s.handlerDone r))

/-- A completed fence stands between the accesses of set A and of the paths it names and the later ones (R280). -/
def State.markFence (s : State) (w : Who) (src dst : BitVec 3) (u : Bool) (below : Nat) : State :=
  let n := s.nextId
  { s with gaccs := s.gaccs.map (fun g =>
      if decide (g.owner = w.owner) && decide (g.id < below) && (pathNamed src g.path || pathNamed dst g.path) then
        let g := if g.fenced = none then { g with fenced := some n } else g
        if u && decide (g.fencedU = none) then { g with fencedU := some n } else g
      else g) }

/-- The flags of a vector program's fixed-latency instructions are set before what follows a fence (R14). -/
def State.fenceFlags (s : State) (w : Who) : State :=
  match w with
  | .task h .v => s.modRes h Resident.landFlags
  | _ => s

/-- A posted write of set A (R246, R289). -/
def State.fenceCovers (s : State) (w : Who) (src : BitVec 3) (n : Nat) (m : Posted) : Bool :=
  decide (m.id < n) && ((decide (m.owner = w.owner) && pathNamed src m.path) ||
    (pathNamed src 4 && (match m.owner with | .coll c => s.startedBy w.owner c | _ => false)))

/-- A fence holds its engine until set A, fixed when it issues, is performed (R246); at scope h each host port that has carried a write of the set is flushed, and the
reads are waited for (R289). -/
def fenceOp (src dst scope : BitVec 3) (u : Bool) (s : State) : Out :=
  onAny s (fun w =>
    let n := (s.fenceOf w).getD s.nextId
    let ports := if scope = 4 then s.portsToFlush (s.fenceCovers w src n) none else []
    if s.fenceDone w src scope u n then
      (if ports = [] then .next ((((s.markFence w src dst u n).setFence w none).fenceFlags w).advance w)
       else .next ((ports.foldl (State.flushPort w) s).setFence w (some n)))
    else .next (s.setFence w (some n)))

/-- FENCE_X (R246). -/
def execFenceX (src d c : BitVec 3) (s : State) : Out := fenceOp src d c false s
/-- FENCE_XU (R246): covers UO pages too. -/
def execFenceXu (src d c : BitVec 3) (s : State) : Out := fenceOp src d c true s

/-! ## Streams -/

/-- The bits of word i that sset writes (R247, R248). -/
def ssetMask : Nat → Word
  | 0 => 0x1F3F#64
  | 1 => 0x00FFFFFFFFFFFFFF#64
  | 2 => 0xFFFFFFFFFFFFFFFF#64
  | 3 => 0x003FFFFF003FFFFF#64
  | 4 => 0x003FFFFF003FFFFF#64
  | 5 => 0x003FFFFF00000FFF#64
  | 6 => 0x00000000FFFFFFFF#64
  | _ => 0

/-- A stream function of the scalar or copy program. -/
def streamOp (i : Instr) (o : BitVec 6) (s : State) (k : Who → Nat → BitVec 512 → Out) : Out :=
  onTile i s (fun w h => k w h ((s.res h).stream o.toNat))

/-- SSET (R248): word i := c(x), RO bits unchanged; state-use while bound. -/
def execSset (o x : BitVec 6) (i : BitVec 3) (s : State) : Out :=
  streamOp (.sset o x i) o s (fun w h q =>
    if stBind q ≠ 0 then .next (s.stateUse w)
    else
      let old : Word := q.extractLsb' (64 * i.toNat) 64
      let m := ssetMask i.toNat
      let v := (old &&& ~~~m) ||| (s.lreg w x.toNat &&& m)
      .next ((s.modRes h (fun r => r.setStream o.toNat (stPut q (64 * i.toNat) 64 v.toNat))).advance w))

/-- SGET (R248): x := word i. -/
def execSget (o x : BitVec 6) (i : BitVec 3) (s : State) : Out :=
  streamOp (.sget o x i) o s (fun w _ q => .next (localResult w x.toNat (q.extractLsb' (64 * i.toNat) 64) s))

/-- Byte address of vector i of a stream: BASE + i × RS, RS signed (R249). -/
def stAddr (x : BitVec 512) (i : Nat) : Int := (stBase x).toNat + i * (stRs x).toInt

/-- R248: the checks of sbind. -/
def sbindOk (r : Resident) (q : Nat) (x : BitVec 512) : Bool :=
  let n := (stCount x).toNat
  let lo := min (stAddr x 0) (stAddr x (n - 1))
  let hi := max (stAddr x 0) (stAddr x (n - 1)) + 512
  decide (q < 8) && decide (stKind x = 2) && decide (stBind x = 0) && decide (n ≠ 0) &&
  decide ((stBase x).toNat % 64 = 0) && decide ((stRs x).toNat % 64 = 0) &&
  (!stSpace x || (decide (0 ≤ lo) && decide (hi ≤ r.spSize)))

/-- SBIND (R248): BIND := dir, POS := 0, the staging empty. -/
def execSbind (o : BitVec 6) (d : BitVec 2) (s : State) : Out :=
  streamOp (.sbind o d) o s (fun w h x =>
    if !sbindOk (s.res h) o.toNat x then .next (s.stateUse w)
    else .next ((s.modRes h (fun r =>
      { (r.setStream o.toNat (stPut (stPut x 6 2 d.toNat) 448 32 0)) with
        staged := r.staged &&& ~~~((1 : BitVec 8) <<< o.toNat), pushed := fput r.pushed o.toNat 0, fetch := fput r.fetch o.toNat [],
        ahead := fput r.ahead o.toNat [], portFault := fput r.portFault o.toNat none })).advance w))

/-- The pieces of a stream that are in flight are given up: what they bring is not kept (R248). -/
def State.dropPort (s : State) (h q : Nat) : State :=
  { s with gaccs := s.gaccs.filter (fun (g : GAcc) => !(decide (g.owner = .task h) && (match g.dest with | .port p _ => p == q | _ => false))) }

/-- SUNBIND (R248): an output stream's holds until its staging is empty and every push has been stored; an input stream
drops the staged and fetched vectors. -/
def execSunbind (o : BitVec 6) (s : State) : Out :=
  streamOp (.sunbind o) o s (fun w h x =>
    let r := s.res h
    if stBind x = 2 && (decide (fget none r.portFault o.toNat ≠ none) || !s.waitHolds h (.portOut o.toNat)) then .next s
    else .next ((((s.dropPort h o.toNat).finishKept h (portKeys o.toNat)).modRes h (fun r =>
      { (r.setStream o.toNat (stPut x 6 2 0)) with
        staged := if o.toNat < 8 then r.staged &&& ~~~((1 : BitVec 8) <<< o.toNat) else r.staged,
        ahead := fput r.ahead o.toNat [], fetch := fput r.fetch o.toNat [], portFault := fput r.portFault o.toNat none })).advance w))

end Sys2Proof.Machine
end

