-- ==== Sys2Proof/Machine/Formats.lean ====
section
/-!
DEFINITION. The number formats (R49 to R52), exact values, the one rounding of an exact result (R54 to R58, R61, R62),
IEEE arithmetic over any floating format (R53, R55, R164, R165), and the stochastic generator (R59).
-/

namespace Sys2Proof.Machine

open Sys2Proof

/-- The formats of R49 but lg32, which has its own operations (R61). -/
inductive NFmt where
  | fp32 | fp64 | bf16 | fp16 | e4m3 | e5m2 | e3m2 | e2m1 | int32 | int8 | int4 | int2 | nat8 | sc8
deriving DecidableEq, Repr

/-- The format codes of R171. -/
def NFmt.ofCode : Nat → Option NFmt
  | 0 => some .fp32 | 1 => some .fp64 | 2 => some .bf16 | 3 => some .fp16 | 4 => some .e4m3 | 5 => some .e5m2
  | 6 => some .e3m2 | 7 => some .e2m1 | 8 => some .int32 | 9 => some .int8 | 10 => some .int4 | 11 => some .int2
  | 12 => some .nat8 | 13 => some .sc8 | _ => none

/-- Width in bits (R49). -/
def NFmt.width : NFmt → Nat
  | .fp64 => 64 | .fp32 | .int32 => 32 | .bf16 | .fp16 => 16 | .e4m3 | .e5m2 | .int8 | .nat8 | .sc8 => 8
  | .e3m2 => 6 | .e2m1 | .int4 => 4 | .int2 => 2

/-- Two's-complement or unsigned integer formats. -/
def NFmt.isInt : NFmt → Bool
  | .int32 | .int8 | .int4 | .int2 | .nat8 => true
  | _ => false

/-- Exponent bits, fraction bits and bias of a floating format (R49). -/
def NFmt.ebits : NFmt → Nat
  | .fp64 => 11 | .fp32 | .bf16 => 8 | .fp16 | .e5m2 | .sc8 => 5 | .e4m3 => 4 | .e3m2 => 3 | .e2m1 => 2 | _ => 0
def NFmt.mbits : NFmt → Nat
  | .fp64 => 52 | .fp32 => 23 | .bf16 => 7 | .fp16 => 10 | .e4m3 | .sc8 => 3 | .e5m2 | .e3m2 => 2 | .e2m1 => 1 | _ => 0
def NFmt.bias : NFmt → Int
  | .fp64 => 1023 | .fp32 | .bf16 => 127 | .fp16 | .e5m2 | .sc8 => 15 | .e4m3 => 7 | .e3m2 => 3 | .e2m1 => 1 | _ => 0

/-- Formats with IEEE infinities and NaNs (R50). -/
def NFmt.ieee : NFmt → Bool
  | .fp64 | .fp32 | .bf16 | .fp16 | .e5m2 => true
  | _ => false

/-- Formats with a negative zero (R51). -/
def NFmt.hasNegZero : NFmt → Bool
  | .fp64 | .fp32 | .bf16 | .fp16 | .e5m2 | .e3m2 | .e2m1 => true
  | _ => false

/-- The code of the largest finite magnitude (R51). -/
def NFmt.maxCode (f : NFmt) : Nat :=
  if f.ieee then (2 ^ f.ebits - 1) * 2 ^ f.mbits - 1
  else if f = .sc8 then 0xFE else 2 ^ (f.ebits + f.mbits) - 1

/-- The bit of the sign. -/
def NFmt.signBit (f : NFmt) : Nat := if f = .sc8 then 0 else 2 ^ (f.width - 1)

/-- The code of infinity without its sign, and the canonical NaN (R51). -/
def NFmt.infCode (f : NFmt) : Nat := (2 ^ f.ebits - 1) * 2 ^ f.mbits
def NFmt.nanCode (f : NFmt) : Nat :=
  if f.ieee then f.infCode + 2 ^ (f.mbits - 1)
  else match f with | .e4m3 => 0x80 | .sc8 => 0xFF | _ => 0

/-- An exact value: NaN, an infinity, or ±m × 2^e with a signed zero. -/
inductive FVal where
  | nan
  | inf (neg : Bool)
  | fin (neg : Bool) (m : Nat) (e : Int)
deriving DecidableEq, Repr

/-- Decoding a code to its exact value (R50). -/
def decodeNum (f : NFmt) (x : Nat) : FVal :=
  if f.isInt then
    let v := x % 2 ^ f.width
    if f ≠ .nat8 ∧ 2 ^ (f.width - 1) ≤ v then .fin true (2 ^ f.width - v) 0 else .fin false v 0
  else
    let v := x % 2 ^ f.width
    let neg := f ≠ .sc8 && decide (2 ^ (f.width - 1) ≤ v)
    let mag := if neg then v - 2 ^ (f.width - 1) else v
    let e := mag / 2 ^ f.mbits
    let fr := mag % 2 ^ f.mbits
    if f.ieee && decide (e = 2 ^ f.ebits - 1) then (if fr = 0 then .inf neg else .nan)
    else if (f = .e4m3 && decide (v = 0x80)) || (f = .sc8 && decide (v = 0xFF)) then .nan
    else if e = 0 then .fin neg fr (1 - f.bias - f.mbits)
    else .fin neg (2 ^ f.mbits + fr) ((e : Int) - f.bias - f.mbits)

/-! ## Rounding -/

/-- The rounding modes of R56; sr carries ρ (R58). -/
inductive Round where
  | ne | tz | up | down
  | sr (rho : Nat)
deriving DecidableEq, Repr

/-- The resident mode of vector arithmetic: RMODE 4 rounds nearest-even (R57). -/
def roundOf : Nat → Round
  | 1 => .tz | 2 => .up | 3 => .down | _ => .ne

/-- Length in bits. -/
def bitLen (m : Nat) : Nat := if m = 0 then 0 else m.log2 + 1

/-- Whether a magnitude n0 + rem / 2^d, 0 < rem < 2^d, rounds away from zero (R56, R58). -/
def roundsAway (r : Round) (neg : Bool) (n0 rem d : Nat) : Bool :=
  match r with
  | .ne => decide (2 ^ d < 2 * rem) || (decide (2 * rem = 2 ^ d) && decide (n0 % 2 = 1))
  | .tz => false
  | .up => !neg
  | .down => neg
  | .sr rho =>
    if neg then !decide (rho < (2 ^ d - rem) * 2 ^ 32 / 2 ^ d) else decide (rho < rem * 2 ^ 32 / 2 ^ d)

/-- m × 2^e rounded to a multiple of 2^q: the multiple, and whether it is inexact. -/
def roundAt (r : Round) (neg : Bool) (m : Nat) (e q : Int) : Nat × Bool :=
  if q ≤ e then (m * 2 ^ (e - q).toNat, false)
  else
    let d := (q - e).toNat
    let n0 := m / 2 ^ d
    let rem := m % 2 ^ d
    if rem = 0 then (n0, false) else (if roundsAway r neg n0 rem d then n0 + 1 else n0, true)

/-- Whether a rounding mode takes a value of the sign toward zero. -/
def towardZero (r : Round) (neg : Bool) : Bool :=
  match r with
  | .tz => true
  | .up => neg
  | .down => !neg
  | _ => false

/-- A zero of a sign in a format (R55). -/
def zeroCode (f : NFmt) (neg : Bool) : Nat := if neg && f.hasNegZero then f.signBit else 0

/-- The infinity, or the largest value of a format without infinities (R61). -/
def overCode (f : NFmt) (neg : Bool) (toInf : Bool) : Nat :=
  (if neg then f.signBit else 0) + (if f.ieee && toInf then f.infCode else f.maxCode)

/-- A finite nonzero value in a floating format (R54, R55, R61, R62). -/
def encodeFloat (f : NFmt) (r : Round) (neg : Bool) (m : Nat) (e : Int) : Nat × Flg :=
  let top := e + bitLen m - 1
  let emin := 1 - f.bias
  let qu := top - f.mbits
  let q := max qu (emin - f.mbits)
  let (n, inx) := roundAt r neg m e q
  let code := (q + f.mbits + f.bias - 1).toNat * 2 ^ f.mbits + n
  if f.maxCode < code || (inx && decide (code = f.maxCode) && towardZero r neg) then
    (overCode f neg (!towardZero r neg), { Flg.none with ovf := true, inx := true })
  else
    let nu := (roundAt r neg m e qu).1
    let tiny := decide (qu + bitLen nu - 1 < emin)
    (if n = 0 then zeroCode f neg else (if neg then f.signBit else 0) + code,
     { Flg.none with unf := tiny && inx, inx := inx })

/-- A finite nonzero value in an integer format (R55, R61). -/
def encodeInt (f : NFmt) (r : Round) (neg : Bool) (m : Nat) (e : Int) : Nat × Flg :=
  let (n, inx) := roundAt r neg m e 0
  let lo := if f = .nat8 then 0 else 2 ^ (f.width - 1)
  let hi := if f = .nat8 then 255 else 2 ^ (f.width - 1) - 1
  if n = 0 then (0, { Flg.none with unf := inx, inx := inx })
  else if neg then
    (if lo < n then ((if f = .nat8 then 0 else lo), Flg.invalid) else (2 ^ f.width - n, { Flg.none with inx := inx }))
  else if hi < n then (hi, Flg.invalid) else (n, { Flg.none with inx := inx })

/-- An exact value in a format, with one rounding (R61, R62). -/
def encodeNum (f : NFmt) (r : Round) (v : FVal) : Nat × Flg :=
  match v with
  | .nan => (f.nanCode, if f.ieee || f = .e4m3 || f = .sc8 then Flg.none else Flg.invalid)
  | .inf neg =>
    if f.ieee then (overCode f neg true, Flg.none)
    else if f.isInt then
      (if neg then (if f = .nat8 then 0 else 2 ^ (f.width - 1)) else (if f = .nat8 then 255 else 2 ^ (f.width - 1) - 1),
        Flg.invalid)
    else if f = .sc8 then (if neg then 0xFF else 0xFE, Flg.invalid)
    else (overCode f neg false, Flg.invalid)
  | .fin neg m e =>
    if m = 0 then (zeroCode f neg, Flg.none)
    else if f = .sc8 && neg then (0xFF, Flg.invalid)
    else if f.isInt then encodeInt f r neg m e
    else encodeFloat f r neg m e

/-! ## Exact arithmetic -/

/-- The exact value as a multiple of 2^e. -/
def FVal.scaled (neg : Bool) (m : Nat) (e q : Int) : Int :=
  let k : Int := (m : Int) * 2 ^ (e - q).toNat
  if neg then -k else k

/-- A signed multiple of 2^q, with the sign given to an exact zero. -/
def ofScaled (k q : Int) (zeroNeg : Bool) : FVal := if k = 0 then .fin zeroNeg 0 q else .fin (decide (k < 0)) k.natAbs q

/-- The exact sum (R53, R55); an exact zero sum of opposite signs is −0 under rounding down. -/
def FVal.add (down : Bool) (a b : FVal) : FVal × Flg :=
  match a, b with
  | .nan, _ => (.nan, Flg.none)
  | _, .nan => (.nan, Flg.none)
  | .inf s, .inf t => if s = t then (.inf s, Flg.none) else (.nan, Flg.invalid)
  | .inf s, .fin _ _ _ => (.inf s, Flg.none)
  | .fin _ _ _, .inf t => (.inf t, Flg.none)
  | .fin s m e, .fin t n g =>
    let q := min e g
    let k := FVal.scaled s m e q + FVal.scaled t n g q
    (ofScaled k q (if m = 0 ∧ n = 0 then (if s = t then s else down) else down), Flg.none)

def FVal.neg : FVal → FVal
  | .nan => .nan
  | .inf s => .inf (!s)
  | .fin s m e => .fin (!s) m e

/-- The exact product (R53). -/
def FVal.mul (a b : FVal) : FVal × Flg :=
  match a, b with
  | .nan, _ => (.nan, Flg.none)
  | _, .nan => (.nan, Flg.none)
  | .inf s, .inf t => (.inf (s != t), Flg.none)
  | .inf s, .fin t n _ => if n = 0 then (.nan, Flg.invalid) else (.inf (s != t), Flg.none)
  | .fin s m _, .inf t => if m = 0 then (.nan, Flg.invalid) else (.inf (s != t), Flg.none)
  | .fin s m e, .fin t n g => (.fin (s != t) (m * n) (e + g), Flg.none)

def FVal.isNan : FVal → Bool
  | .nan => true
  | _ => false

/-- Round one exact result to a code. -/
def roundNum (f : NFmt) (r : Round) (x : FVal × Flg) : Nat × Flg :=
  let (c, g) := encodeNum f r x.1
  (c, g.or x.2)

def Round.isDown : Round → Bool
  | .down => true
  | _ => false

/-- round(a + b) (R164). -/
def fAdd (f : NFmt) (r : Round) (a b : Nat) : Nat × Flg :=
  roundNum f r ((decodeNum f a).add r.isDown (decodeNum f b))

/-- round(a − b). -/
def fSub (f : NFmt) (r : Round) (a b : Nat) : Nat × Flg :=
  roundNum f r ((decodeNum f a).add r.isDown (decodeNum f b).neg)

/-- round(a × b). -/
def fMul (f : NFmt) (r : Round) (a b : Nat) : Nat × Flg :=
  roundNum f r ((decodeNum f a).mul (decodeNum f b))

/-- round(a × b + c), one rounding; 0 × ∞ raises invalid whatever the addend (R164). -/
def fFma (f : NFmt) (r : Round) (a b c : Nat) : Nat × Flg :=
  let (p, g) := (decodeNum f a).mul (decodeNum f b)
  let (x, h) := p.add r.isDown (decodeNum f c)
  roundNum f r (x, g.or h)

/-- Order of two values that are not NaN: a < b. -/
def FVal.lt (a b : FVal) : Bool :=
  match a, b with
  | .nan, _ => false
  | _, .nan => false
  | .inf s, .inf t => s && !t
  | .inf s, .fin _ _ _ => s
  | .fin _ _ _, .inf t => !t
  | .fin s m e, .fin t n g => decide (FVal.scaled s m e (min e g) < FVal.scaled t n g (min e g))

def FVal.eq (a b : FVal) : Bool := !a.isNan && !b.isNan && !a.lt b && !b.lt a

/-- A value's sign. -/
def FVal.sign : FVal → Bool
  | .nan => false
  | .inf s => s
  | .fin s _ _ => s

/-- R165: minimum and maximum, −0 below +0, the canonical NaN for a NaN operand. -/
def fMin (f : NFmt) (a b : Nat) : Nat :=
  let x := decodeNum f a
  let y := decodeNum f b
  if x.isNan || y.isNan then f.nanCode
  else if x.lt y then a else if y.lt x then b else if x.sign then a else b

def fMax (f : NFmt) (a b : Nat) : Nat :=
  let x := decodeNum f a
  let y := decodeNum f b
  if x.isNan || y.isNan then f.nanCode
  else if x.lt y then b else if y.lt x then a else if x.sign then b else a

/-- The floating compare conditions of R166. -/
def fCmp (f : NFmt) (cond a b : Nat) : Bool :=
  let x := decodeNum f a
  let y := decodeNum f b
  let un := x.isNan || y.isNan
  match cond with
  | 0 => x.eq y
  | 1 => !x.eq y
  | 2 => !un && x.lt y
  | 3 => !un && !x.lt y
  | 4 => !un && !y.lt x
  | 5 => !un && y.lt x
  | 6 => un
  | _ => !un

/-- One step of the generator (R59). -/
def rngStep (x : Word) : Word :=
  let x := x ^^^ (x <<< 13)
  let x := x ^^^ (x >>> 7)
  x ^^^ (x <<< 17)

/-- ρ: bits [63:32] of the new state (R58). -/
def rhoOf (x : Word) : Nat := (x >>> 32).toNat

/-- A conversion of one code (R61). -/
def convert (dst src : NFmt) (r : Round) (x : Nat) : Nat × Flg := encodeNum dst r (decodeNum src x)

/-! ## Exact sums of products (R64, R65, R69) -/

/-- A running exact sum of finite terms with the specials met. -/
structure ESum where
  k : Int
  q : Int
  nan : Bool
  pos : Bool
  neg : Bool
  inv : Bool
deriving DecidableEq, Repr

def ESum.zero : ESum := { k := 0, q := 0, nan := false, pos := false, neg := false, inv := false }

/-- One exact term joins the sum. -/
def ESum.push (s : ESum) (x : FVal × Flg) : ESum :=
  match x.1 with
  | .nan => { s with nan := true, inv := s.inv || x.2.inv }
  | .inf false => { s with pos := true }
  | .inf true => { s with neg := true }
  | .fin neg m e =>
    if m = 0 then s
    else
      let q := min s.q e
      { s with k := s.k * 2 ^ (s.q - q).toNat + FVal.scaled neg m e q, q := q }

/-- An exact sum's value; the flag says that infinities of both signs met. -/
def ESum.value (s : ESum) : FVal :=
  if s.nan || (s.pos && s.neg) then .nan
  else if s.pos then .inf false else if s.neg then .inf true
  else ofScaled s.k s.q false

/-- sat_s32 of an exact sum (R5, R66), and whether it saturated. -/
def satS32 (x : Int) : Int × Bool :=
  if x < -(2 ^ 31) then (-(2 ^ 31), true) else if 2 ^ 31 - 1 < x then (2 ^ 31 - 1, true) else (x, false)

/-- The signed value of an integer code. -/
def intOf (f : NFmt) (x : Nat) : Int :=
  match decodeNum f x with
  | .fin neg m _ => if neg then -(m : Int) else m
  | _ => 0

end Sys2Proof.Machine
end

