-- ==== Sys2Proof/Machine/LogPath.lean ====
section
/-!
DEFINITION. The lg32 format and the log path (R77 to R82): correctly rounded conversions, products, quotients and powers.
The transcendental values are formed in fixed point to more bits than any rounding of them needs.
-/

namespace Sys2Proof.Machine

open Sys2Proof

/-- An lg32 value (R77). -/
inductive LVal where
  | nan
  | zero (neg : Bool)
  | inf (neg : Bool)
  | fin (neg : Bool) (l : Int)
deriving DecidableEq, Repr

/-- R77: a special code is read by L[1:0] alone. -/
def decodeLg (x : Nat) : LVal :=
  let neg := decide (2 ^ 31 ≤ x % 2 ^ 32)
  let l : Nat := x % 2 ^ 30
  if x / 2 ^ 30 % 2 = 1 then
    match l % 4 with
    | 0 => .zero neg
    | 1 => .inf neg
    | _ => .nan
  else .fin neg (if 2 ^ 29 ≤ l then Int.ofNat l - 2 ^ 30 else Int.ofNat l)

/-- The codes the part writes (R77). -/
def lgNan : Nat := 0x40000002
def lgZero (neg : Bool) : Nat := 0x40000000 + (if neg then 2 ^ 31 else 0)
def lgInf (neg : Bool) : Nat := 0x40000001 + (if neg then 2 ^ 31 else 0)
def lgOvf : Flg := { Flg.none with ovf := true, inx := true }
def lgUnf : Flg := { Flg.none with unf := true, inx := true }

/-- A finite log field, with the range rule of R81 and R82. -/
def encodeLg (neg : Bool) (l : Int) (inx : Bool) : Nat × Flg :=
  if 2 ^ 29 - 1 < l then (lgInf neg, lgOvf)
  else if l < -(2 ^ 29) then (lgZero neg, lgUnf)
  else ((l % 2 ^ 30).toNat + (if neg then 2 ^ 31 else 0), { Flg.none with inx := inx })

/-- k / 2^d rounded to nearest, ties to even. -/
def roundShift (k : Int) (d : Nat) : Int × Bool :=
  let (n, inx) := roundAt .ne (decide (k < 0)) k.natAbs 0 d
  (if k < 0 then -(n : Int) else n, inx)

/-- Working precision of the fixed-point values. -/
def logPrec : Nat := 128

/-- The leading n fractional bits of log2 of y / 2^logPrec, 1 ≤ y / 2^logPrec < 2, by repeated squaring. -/
def log2Bits : Nat → Nat → Nat → Nat
  | 0, _, acc => acc
  | n + 1, y, acc =>
    let z := y * y / 2 ^ logPrec
    if 2 ^ (logPrec + 1) ≤ z then log2Bits n (z / 2) (2 * acc + 1) else log2Bits n z (2 * acc)

/-- VTOLOG of one lane (R79). -/
def toLog (x : Nat) : Nat × Flg :=
  match decodeNum .fp32 x with
  | .nan => (lgNan, Flg.none)
  | .inf neg => (lgInf neg, Flg.none)
  | .fin neg m e =>
    if m = 0 then (lgZero neg, Flg.none)
    else
      let b := m.log2
      let k : Int := e + b
      if m = 2 ^ b then encodeLg neg (k * 2 ^ 21) false
      else encodeLg neg (k * 2 ^ 21 + (log2Bits 22 (m * 2 ^ (logPrec - b)) 0 + 1) / 2) true

/-- Square root by binary search over n bits: the greatest r with r * r ≤ x among r0 + [0, 2^n). -/
def isqrtFrom (x : Nat) : Nat → Nat → Nat
  | 0, r => r
  | n + 1, r => isqrtFrom x n (if (r + 2 ^ n) * (r + 2 ^ n) ≤ x then r + 2 ^ n else r)

/-- The integer square root. -/
def isqrt (x : Nat) : Nat := isqrtFrom x (bitLen x / 2 + 1) 0

/-- 2^(f / 2^n) in fixed point, f read from its high bit on, root the current 2^(1/2^i). -/
def exp2Bits (f : Nat) : Nat → Nat → Nat → Nat
  | 0, _, acc => acc
  | n + 1, root, acc =>
    let root' := isqrt (root * 2 ^ logPrec)
    exp2Bits f n root' (if f.testBit n then acc * root' / 2 ^ logPrec else acc)

/-- VFROMLOG of one lane (R80). -/
def fromLog (x : Nat) : Nat × Flg :=
  match decodeLg x with
  | .nan => (NFmt.nanCode .fp32, Flg.none)
  | .inf neg => (overCode .fp32 neg true, Flg.none)
  | .zero neg => (zeroCode .fp32 neg, Flg.none)
  | .fin neg l =>
    let f := (l % 2 ^ 21).toNat
    let k : Int := l / 2 ^ 21
    if f = 0 then encodeNum .fp32 .ne (.fin neg 1 k)
    else encodeNum .fp32 .ne (.fin neg (2 * exp2Bits f 21 (2 * 2 ^ logPrec) (2 ^ logPrec) + 1) (k - logPrec - 1))

/-- VEXP2L of one lane (R82). -/
def exp2L (y : Nat) : Nat × Flg :=
  match decodeNum .fp32 y with
  | .nan => (lgNan, Flg.none)
  | .inf neg => (if neg then lgZero false else lgInf false, Flg.none)
  | .fin neg m e =>
    let (n, inx) := roundAt .ne neg m (e + 21) 0
    encodeLg false (if neg then -(n : Int) else n) inx

/-- VLOG2F of one lane (R82). -/
def log2F (x : Nat) : Nat × Flg :=
  match decodeLg x with
  | .nan => (NFmt.nanCode .fp32, Flg.none)
  | .zero _ => (overCode .fp32 true true, Flg.none)
  | .inf neg => if neg then (NFmt.nanCode .fp32, Flg.invalid) else (overCode .fp32 false true, Flg.none)
  | .fin neg l =>
    if neg then (NFmt.nanCode .fp32, Flg.invalid)
    else encodeNum .fp32 .ne (.fin (decide (l < 0)) l.natAbs (-21))

/-- VLMUL of one lane (R81). -/
def lgMul (a b : Nat) : Nat × Flg :=
  match decodeLg a, decodeLg b with
  | .nan, _ => (lgNan, Flg.none)
  | _, .nan => (lgNan, Flg.none)
  | .zero _, .inf _ => (lgNan, Flg.invalid)
  | .inf _, .zero _ => (lgNan, Flg.invalid)
  | .zero s, .zero t => (lgZero (s != t), Flg.none)
  | .zero s, .fin t _ => (lgZero (s != t), Flg.none)
  | .fin s _, .zero t => (lgZero (s != t), Flg.none)
  | .inf s, .inf t => (lgInf (s != t), Flg.none)
  | .inf s, .fin t _ => (lgInf (s != t), Flg.none)
  | .fin s _, .inf t => (lgInf (s != t), Flg.none)
  | .fin s l, .fin t k => encodeLg (s != t) (l + k) false

/-- VLDIV of one lane (R81). -/
def lgDiv (a b : Nat) : Nat × Flg :=
  match decodeLg a, decodeLg b with
  | .nan, _ => (lgNan, Flg.none)
  | _, .nan => (lgNan, Flg.none)
  | .zero _, .zero _ => (lgNan, Flg.invalid)
  | .inf _, .inf _ => (lgNan, Flg.invalid)
  | .fin s _, .zero t => (lgInf (s != t), { Flg.none with ovf := true })
  | .inf s, .zero t => (lgInf (s != t), Flg.none)
  | .inf s, .fin t _ => (lgInf (s != t), Flg.none)
  | .fin s _, .inf t => (lgZero (s != t), Flg.none)
  | .zero s, .inf t => (lgZero (s != t), Flg.none)
  | .zero s, .fin t _ => (lgZero (s != t), Flg.none)
  | .fin s l, .fin t k => encodeLg (s != t) (l - k) false

/-- VLPOW of one lane, p signed with 8 fractional bits (R81). -/
def lgPow (a : Nat) (p : Int) : Nat × Flg :=
  let whole := decide (p % 256 = 0)
  let odd := whole && decide (p / 256 % 2 = 1)
  match decodeLg a with
  | .nan => (lgNan, Flg.none)
  | .zero s => if p = 0 then (lgNan, Flg.invalid) else if 0 < p then (lgZero (s && odd), Flg.none) else (lgInf (s && odd), Flg.none)
  | .inf s => if p = 0 then (lgNan, Flg.invalid) else if 0 < p then (lgInf (s && odd), Flg.none) else (lgZero (s && odd), Flg.none)
  | .fin s l =>
    if s && !whole then (lgNan, Flg.invalid)
    else
      let (n, inx) := roundShift (l * p) 8
      encodeLg (s && odd) n inx

end Sys2Proof.Machine
end

