-- ==== Sys2Proof/Machine/MatrixCore.lean ====
section
/-!
DEFINITION. The arithmetic and data of the matrix array: operand streams (R201, R202), dense and scaled products (R64 to
R70, R208 to R210), Ephemeris tables and summation by parts (R71 to R76, R211 to R216). Each function does the work
between two progress points (R197).
-/

namespace Sys2Proof.Machine

open Sys2Proof

/-! ## Streams and operands -/

/-- Fields of a matrix stream (R201, R247). -/
def mqFmt (x : BitVec 512) : Nat := (x.extractLsb' 0 4).toNat
def mqKind (x : BitVec 512) : Nat := (x.extractLsb' 4 2).toNat
def mqSblk (x : BitVec 512) : Nat := (x.extractLsb' 9 2).toNat
def mqRecov (x : BitVec 512) : Nat := (x.extractLsb' 11 2).toNat
def mqBase (x : BitVec 512) : Nat := (x.extractLsb' 64 56).toNat
def mqRs (x : BitVec 512) : Nat := (x.extractLsb' 128 32).toNat
def mqEs (x : BitVec 512) : Nat := (x.extractLsb' 160 32).toNat
def mqSbase (x : BitVec 512) : Nat := (x.extractLsb' 192 22).toNat
def mqSstride (x : BitVec 512) : Nat := (x.extractLsb' 224 22).toNat
def mqTbase (x : BitVec 512) : Nat := (x.extractLsb' 256 22).toNat
def mqTstride (x : BitVec 512) : Nat := (x.extractLsb' 288 22).toNat
def mqEphbase (x : BitVec 512) : Nat := (x.extractLsb' 320 12).toNat
def mqImgbase (x : BitVec 512) : Nat := (x.extractLsb' 352 22).toNat

/-- The format of a stream. -/
def mqFormat (x : BitVec 512) : NFmt := (NFmt.ofCode (mqFmt x)).getD .fp32

/-- The shape M, N, K (R105). -/
def shM (v : Word) : Nat := (v.extractLsb' 0 16).toNat
def shN (v : Word) : Nat := (v.extractLsb' 16 16).toNat
def shK (v : Word) : Nat := (v.extractLsb' 32 16).toNat

/-- The little-endian number of n bytes at a window offset. -/
def State.spadNat (s : State) (h off n : Nat) : Nat := leNat (s.spadRead h off n)

/-- Element k of width w of the packed row that starts at an offset (R52, R202). -/
def State.packedAt (s : State) (h row w k : Nat) : Nat :=
  s.spadNat h (row + w * k / 8) ((w * k % 8 + w + 7) / 8) / 2 ^ (w * k % 8) % 2 ^ w

/-- Element (x, k) of an operand: its code and its value. -/
def State.elemAt (s : State) (h : Nat) (q : BitVec 512) (x k : Nat) : Nat :=
  s.packedAt h (mqBase q + x * mqRs q) (mqFormat q).width k

def State.valAt (s : State) (h : Nat) (q : BitVec 512) (x k : Nat) : FVal := decodeNum (mqFormat q) (s.elemAt h q x k)

/-- Word i of slab z of a tile (R202). -/
def State.slabWord (s : State) (t z i : Nat) : BitVec 32 := fget (0 : BitVec 32) (s.tile t).slabs (4096 * z + i)
def State.setSlabWord (s : State) (t z i : Nat) (v : BitVec 32) : State :=
  s.modTile t (fun x => { x with slabs := fset (0 : BitVec 32) x.slabs (4096 * z + i) v })

/-- A slab's full or empty bit (R26). -/
def State.setSlabFull (s : State) (t z : Nat) (full : Bool) : State :=
  s.modTile t (fun x => { x with slabfe := if full then x.slabfe ||| ((1 : BitVec 32) <<< z) else x.slabfe &&& ~~~((1 : BitVec 32) <<< z) })

/-- The flags that the matrix array and the transform unit set (R60). -/
def Flg.matrix (f : Flg) : Flg := { f with unf := false, inx := false }

/-- f on every element (i, j) of the slab's first M rows and N columns. -/
def State.slabMap (s : State) (h z m n : Nat) (f : Nat → Nat → BitVec 32 → BitVec 32 × Flg) : State :=
  let t := hTile h
  (List.range m).foldl (fun s i => (List.range n).foldl (fun s j =>
    let (v, g) := f i j (s.slabWord t z (64 * i + j))
    (s.setSlabWord t z (64 * i + j) v).modRes h (fun r => r.raise g.matrix)) s) s

/-- ZI: the named elements become +0 (R208). -/
def State.slabZero (s : State) (h z m n : Nat) : State := s.slabMap h z m n (fun _ _ _ => (0, Flg.none))

/-! ## Dense products -/

/-- Chunk length for the wider operand (R64). -/
def chunkLen (a b : NFmt) : Nat :=
  let w := max a.width b.width
  if w = 32 then 4 else if w = 16 then 16 else if w = 8 then 32 else 64

/-- The exact sum of products of pairs; whether an operand is a NaN. -/
def dotSum (l : List (FVal × FVal)) : ESum × Bool :=
  l.foldl (fun (acc : ESum × Bool) (p : FVal × FVal) =>
    (acc.1.push (p.1.mul p.2), acc.2 || p.1.isNan || p.2.isNan)) (ESum.zero, false)

/-- z + x in fp32, rounded to nearest once (R65, R69). -/
def accAdd (z : BitVec 32) (x : FVal) : BitVec 32 × Flg :=
  let (c, g) := roundNum .fp32 .ne ((decodeNum .fp32 z.toNat).add false x)
  (BitVec.ofNat 32 c, g)

def nan32 : BitVec 32 := BitVec.ofNat 32 (NFmt.nanCode .fp32)

/-- One chunk in fp32 (R65). -/
def chunkUpdate (l : List (FVal × FVal)) (z : BitVec 32) : BitVec 32 × Flg :=
  let (s, opNan) := dotSum l
  match s.value with
  | .nan => (nan32, if opNan then Flg.none else Flg.invalid)
  | .fin _ 0 _ => (z, Flg.none)
  | v => accAdd z v

/-- One chunk in int32 (R66). -/
def chunkUpdateInt (l : List (Int × Int)) (z : BitVec 32) : BitVec 32 × Flg :=
  let (t, sat) := satS32 (z.toInt + l.foldl (fun a p => a + p.1 * p.2) 0)
  (BitVec.ofInt 32 t, { Flg.none with ovf := sat })

/-- The k values of unit c of length C. -/
def unitRange (c len k : Nat) : List Nat := (List.range (min len (k - c * len))).map (fun i => c * len + i)

/-- Chunk c of MMA (R209). -/
def mmaUnit (s : State) (h z : Nat) (qa qb : BitVec 512) (shape : Word) (zi : Bool) (c : Nat) : State :=
  let fa := mqFormat qa
  let fb := mqFormat qb
  let s := if zi && decide (c = 0) then s.slabZero h z (shM shape) (shN shape) else s
  let ks := unitRange c (chunkLen fa fb) (shK shape)
  let s0 := s
  if fa.isInt && fb.isInt then
    s.slabMap h z (shM shape) (shN shape) (fun i j w =>
      chunkUpdateInt (ks.map (fun k => (intOf fa (s0.elemAt h qa i k), intOf fb (s0.elemAt h qb j k)))) w)
  else
    s.slabMap h z (shM shape) (shN shape) (fun i j w =>
      chunkUpdate (ks.map (fun k => (s0.valAt h qa i k, s0.valAt h qb j k))) w)

/-! ## Scaled products -/

/-- sc8 scale as mantissa and exponent (R68). -/
def sc8Parts (b : Nat) : Nat × Int := if b / 8 = 0 then (b % 8, -17) else (8 + b % 8, (b / 8 : Int) - 18)

/-- The scaled update of R69 in the order of R210: S the block sum, b the sc8 code, t the fp32 tensor scale. -/
def scaledUpdate (sum : FVal) (opNan : Bool) (b t : Nat) (z : BitVec 32) : BitVec 32 × Flg :=
  let tv := decodeNum .fp32 t
  let (mb, eb) := sc8Parts b
  if sum.isNan || decide (b = 0xFF) || tv.isNan then
    (nan32, if opNan || decide (b = 0xFF) || tv.isNan then Flg.none else Flg.invalid)
  else
    match sum, tv with
    | .fin sn sm se, .fin tn tm te =>
      if sm = 0 ∨ tm = 0 ∨ mb = 0 then (z, Flg.none)
      else accAdd z (.fin (sn != tn) (sm * tm * mb) (se + te + eb))
    | _, _ =>
      let zero := decide (mb = 0) || (match sum with | .fin _ 0 _ => true | _ => false) || (match tv with | .fin _ 0 _ => true | _ => false)
      if zero then (nan32, Flg.invalid) else accAdd z (.inf (sum.sign != tv.sign))

/-- Scale block length (R201). -/
def sblkLen (code : Nat) : Nat := if code = 0 then 16 else if code = 1 then 32 else 64

/-- The block scale and the tensor scale of row or column x, block β (R210). -/
def State.scaleAt (s : State) (h : Nat) (q : BitVec 512) (x b : Nat) : Nat := s.spadNat h (mqSbase q + x * mqSstride q + b) 1
def State.tensorAt (s : State) (h : Nat) (q : BitVec 512) (x : Nat) : Nat := s.spadNat h (mqTbase q + x * mqTstride q) 4

/-- Block c of MMAS (R210). -/
def mmasUnit (s : State) (h z : Nat) (qa qb : BitVec 512) (shape : Word) (sa zi : Bool) (c : Nat) : State :=
  let q := if sa then qa else qb
  let s := if zi && decide (c = 0) then s.slabZero h z (shM shape) (shN shape) else s
  let ks := unitRange c (sblkLen (mqSblk q)) (shK shape)
  let s0 := s
  s.slabMap h z (shM shape) (shN shape) (fun i j w =>
    let x := if sa then i else j
    let (sum, opNan) := dotSum (ks.map (fun k => (s0.valAt h qa i k, s0.valAt h qb j k)))
    scaledUpdate sum.value opNan (s0.scaleAt h q x c) (s0.tensorAt h q x) w)

/-! ## Ephemeris tables -/

/-- The weight-format code of a table (R211), its exponent ew (R71), its slots per group. -/
def wfCode : NFmt → Nat
  | .int8 => 0 | .int4 => 1 | .int2 => 2 | _ => 3
def wExp : NFmt → Int
  | .e2m1 => -1 | _ => 0
def wSlots : NFmt → Nat
  | .int8 => 2 | _ => 1

/-- The level of a weight code (R71). -/
def levelOf (f : NFmt) (x : Nat) : Int :=
  match f with
  | .e2m1 =>
    (match decodeNum .e2m1 x with
     | .fin neg m e => (if neg then -1 else 1) * ((m : Int) * 2 ^ (e + 1).toNat)
     | _ => 0)
  | f => intOf f x

/-- The level set of a weight format (R71). -/
def levelOk (f : NFmt) (q : Int) : Bool :=
  match f with
  | .int8 => decide (-128 ≤ q) && decide (q ≤ 127)
  | .int4 => decide (-8 ≤ q) && decide (q ≤ 7)
  | .int2 => decide (-2 ≤ q) && decide (q ≤ 1)
  | _ => [0, 1, 2, 3, 4, 6, 8, 12].contains q.natAbs

/-- The sorted position of weight i in the stable ascending sort (R212). -/
def rankOfWeight (l : List Int) (i : Nat) : Nat :=
  let x := l.getD i 0
  ((List.range 64).filter (fun j => decide (l.getD j 0 < x) || (decide (l.getD j 0 = x) && decide (j < i)))).length

/-- The table image of a group's levels (R211, R212). -/
def tableOf (f : NFmt) (l : List Int) : Nat :=
  let ranks := (List.range 64).map (rankOfWeight l)
  let sorted := (List.range 64).map (fun p => l.getD ((List.range 64).find? (fun i => decide (ranks.getD i 0 = p)) |>.getD 0) 0)
  let changes := (List.range 64).filter (fun p => decide (p ≠ 0) && decide (sorted.getD p 0 ≠ sorted.getD (p - 1) 0))
  let steps := changes.map (fun p => (sorted.getD p 0 - sorted.getD (p - 1) 0).toNat - 1)
  let sw := max 1 (steps.foldl (fun m x => max m (bitLen x)) 0)
  ofDigits 6 ranks + changes.foldl (fun a p => a + 2 ^ (384 + p)) 0 + (sorted.getD 0 0 % 256).toNat * 2 ^ 448 +
    (sw - 1) * 2 ^ 456 + wfCode f * 2 ^ 459 + ofDigits sw steps * 2 ^ (if wSlots f = 2 then 576 else 464)

/-- What a table says: the rank of each weight, the positions that begin a level, BASE, the steps. -/
structure EphTable where
  rank : List Nat
  chg : List Nat
  base : Int
  steps : List Int
deriving DecidableEq, Repr

/-- A table image read (R211). -/
def readTable (w img : Nat) : EphTable :=
  let chg := (List.range 64).filter (fun p => decide (p ≠ 0) && img.testBit (384 + p))
  let sw := img / 2 ^ 456 % 8 + 1
  let b : Nat := img / 2 ^ 448 % 256
  { rank := (List.range 64).map (fun i => img / 2 ^ (6 * i) % 64), chg := chg,
    base := if 128 ≤ b then Int.ofNat b - 256 else Int.ofNat b,
    steps := (List.range chg.length).map (fun i => ((img / 2 ^ ((if w = 2 then 576 else 464) + sw * i) % 2 ^ sw + 1 : Nat) : Int)) }

/-- The check of an image (R213). -/
def imageOk (f : NFmt) (img : Nat) : Bool :=
  let w := wSlots f
  let t := readTable w img
  let sw := img / 2 ^ 456 % 8 + 1
  let n := t.chg.length
  (List.range 64).all (fun p => t.rank.contains p) && !img.testBit 384 && decide (img / 2 ^ 461 % 8 = 0) &&
  decide (img / 2 ^ 459 % 4 = wfCode f) && decide (n * sw ≤ (if w = 2 then 576 else 112)) &&
  decide (img / 2 ^ ((if w = 2 then 576 else 464) + n * sw) = 0) && (decide (w = 1) || decide (img / 2 ^ 464 % 2 ^ 112 = 0)) &&
  (List.range (n + 1)).all (fun i => levelOk f (t.base + (t.steps.take i).foldl (· + ·) 0))

/-- Ephemeris slots, numbered from the first slot of EPHWIN (R16, R201). -/
def State.ephSlot (s : State) (h k : Nat) : EphSlot := fget EphSlot.start (s.tile (hTile h)).eph ((s.res h).ephFirst + k)
def State.setEph (s : State) (h k : Nat) (x : EphSlot) : State :=
  s.modTile (hTile h) (fun y => { y with eph := fput y.eph ((s.res h).ephFirst + k) x })

/-- The image a group's slots hold, and its validity: every slot of it valid. -/
def State.ephImage (s : State) (h w k : Nat) : Nat :=
  (s.ephSlot h k).bits.toNat + (if w = 2 then (s.ephSlot h (k + 1)).bits.toNat * 2 ^ 576 else 0)
def State.ephValid (s : State) (h w k : Nat) : Bool :=
  decide ((s.ephSlot h k).st = .valid) && (decide (w ≠ 2) || decide ((s.ephSlot h (k + 1)).st = .valid))
def State.ephRejected (s : State) (h w k : Nat) : Bool :=
  decide ((s.ephSlot h k).st = .rejected) || (decide (w = 2) && decide ((s.ephSlot h (k + 1)).st = .rejected))

/-- A table image enters its slots, valid or rejected (R212, R213). -/
def State.putTable (s : State) (h w k img : Nat) (ok : Bool) : State :=
  let st := if ok then EphSt.valid else .rejected
  let bits := fun (i : Nat) => if ok then BitVec.ofNat 576 (img / 2 ^ (576 * i)) else (s.ephSlot h (k + i)).bits
  let s1 := s.setEph h k { bits := bits 0, st := st }
  if w = 2 then s1.setEph h (k + 1) { bits := bits 1, st := st } else s1

/-- The slot of group g, column j (R212). -/
def ephIndex (q : BitVec 512) (n g j : Nat) : Nat := mqEphbase q + wSlots (mqFormat q) * (g * n + j)

/-- The levels of a group of column j (R71, R212). -/
def State.levelsAt (s : State) (h : Nat) (q : BitVec 512) (g j : Nat) : List Int :=
  (List.range 64).map (fun i => levelOf (mqFormat q) (s.elemAt h q j (64 * g + i)))

/-- Group g of EPHB (R212). -/
def ephbUnit (s : State) (h : Nat) (q : BitVec 512) (n g : Nat) : State :=
  (List.range n).foldl (fun s j =>
    s.putTable h (wSlots (mqFormat q)) (ephIndex q n g j) (tableOf (mqFormat q) (s.levelsAt h q g j)) true) s

/-- The bytes of an image in the scratchpad: 72 for each slot. -/
def imgOff (q : BitVec 512) (base n g j : Nat) : Nat := base + 72 * wSlots (mqFormat q) * (g * n + j)

/-- Group g of EPHL (R213). -/
def ephlUnit (s : State) (h : Nat) (q : BitVec 512) (n g : Nat) : State :=
  (List.range n).foldl (fun s j =>
    let w := wSlots (mqFormat q)
    let img := s.spadNat h (imgOff q (mqBase q) n g j) (72 * w)
    s.putTable h w (ephIndex q n g j) img (imageOk (mqFormat q) img)) s

/-- Group g of EPHS (R214). A group of two slots of which one is invalid has no image: zeros are stored for both (DESIGN CHOICE, log entry 121). -/
def ephsUnit (s : State) (h : Nat) (q : BitVec 512) (n g : Nat) : State :=
  (List.range n).foldl (fun s j =>
    let w := wSlots (mqFormat q)
    let k := ephIndex q n g j
    s.spadWrite h (imgOff q (mqBase q) n g j) (leBytes (72 * w) (if s.ephValid h w k then s.ephImage h w k else 0))) s

/-! ## Summation by parts -/

/-- Recovery of an invalid slot (R216): the state with the slot made valid, or the cause of table-invalid; an image that fails leaves the slot's status as it was, since R213's
mark of a rejected image is EPHL's (DESIGN CHOICE, log entry 121). -/
def State.recover (s : State) (h : Nat) (q : BitVec 512) (n g j : Nat) : Except Nat State :=
  let f := mqFormat q
  let w := wSlots f
  let k := ephIndex q n g j
  match mqRecov q with
  | 1 =>
    let img := s.spadNat h (imgOff q (mqImgbase q) n g j) (72 * w)
    if imageOk f img then .ok (s.putTable h w k img true) else .error 2
  | 2 => .ok (s.putTable h w k (tableOf f (s.levelsAt h q g j)) true)
  | _ => .error (if s.ephRejected h w k then 1 else 0)

/-- The slots of group g before any of its results (R215): recovered, or the slot and cause of table-invalid. A valid slot of another format is never recovered, whatever the
second slot of its group holds (R216). -/
def State.sbpSlots (s : State) (h : Nat) (q : BitVec 512) (n g : Nat) : List Nat → Except (Nat × Nat) State
  | [] => .ok s
  | j :: js =>
    let w := wSlots (mqFormat q)
    let k := ephIndex q n g j
    if (s.ephSlot h k).st = .valid ∧ (s.ephSlot h k).bits.toNat / 2 ^ 459 % 4 ≠ wfCode (mqFormat q) then .error (k, 3)
    else if !s.ephValid h w k then
      match s.recover h q n g j with
      | .ok s' => s'.sbpSlots h q n g js
      | .error c => .error (k, c)
    else s.sbpSlots h q n g js

/-- An activation segment as integers and an exponent (R72, R73); none for a NaN or an infinity in it (R74). -/
def segmentOf (f : NFmt) (blockExp : Int) (l : List FVal) : Option (List Int × Int) :=
  if l.any (fun x => match x with | .fin _ _ _ => false | _ => true) then none
  else
    let sgn := fun (neg : Bool) (x : Nat) => if neg then -(x : Int) else x
    match f with
    | .bf16 =>
      let exps := l.filterMap (fun x => match x with
        | .fin _ m e => if m = 0 then none else some (max (e + bitLen m - 1) (-126))
        | _ => none)
      let emax := exps.foldl max (-126)
      some (l.map (fun x => match x with
        | .fin neg m e => sgn neg (roundAt .ne neg m (e + 23 - emax) 0).1
        | _ => 0), emax - 23)
    | _ =>
      let k : Int := match f with | .e4m3 => 9 | .e5m2 => 16 | _ => 0
      some (l.map (fun x => match x with
        | .fin neg m e => sgn neg (m * 2 ^ (e + k).toNat)
        | _ => 0), blockExp - k)

/-- The group sum of R75 from the table: BASE × T_0 + Σ step × T_p. -/
def groupSum (t : EphTable) (x : List Int) : Int :=
  let tail := fun (p : Nat) => ((List.range 64).filter (fun i => decide (p ≤ t.rank.getD i 0))).foldl (fun a i => a + x.getD i 0) 0
  t.base * tail 0 + ((t.chg.zip t.steps).foldl (fun a ps => a + ps.2 * tail ps.1) 0)

/-- Group g of SBP once its slots stand (R215, R76). -/
def sbpUnit (s : State) (h z : Nat) (qa qb : BitVec 512) (shape : Word) (g : Nat) : State :=
  let n := shN shape
  let fb := mqFormat qb
  let w := wSlots fb
  let s0 := s
  s.slabMap h z (shM shape) n (fun i j v =>
    let be := intOf .int8 (s0.scaleAt h qa i g)
    let seg := (List.range 64).map (fun k => s0.valAt h qa i (64 * g + k))
    let b := s0.scaleAt h qb j g
    let t := s0.tensorAt h qb j
    match segmentOf (mqFormat qa) be seg with
    | none => scaledUpdate .nan (seg.any FVal.isNan) b t v
    | some (x, ea) =>
      let gs := groupSum (readTable w (s0.ephImage h w (ephIndex qb n g j))) x
      scaledUpdate (ofScaled gs (ea + wExp fb) false) false b t v)

end Sys2Proof.Machine
end

