-- ==== Sys2Proof/Machine/Transform.lean ====
section
/-!
DEFINITION. The transform unit: correctly rounded twiddles and constants, Fourier stages (R218 to R221), and the Legendre
stages (R222, R223). Each function does the work between two progress points (R197).
-/

namespace Sys2Proof.Machine

open Sys2Proof

/-! ## Constants to 256 fractional bits -/

/-- π × 2^256, truncated. -/
def piFix : Nat := 0x3243f6a8885a308d313198a2e03707344a4093822299f31d0082efa98ec4e6c89

/-- Taylor terms of cosine and sine at x / 2^256: term k is x^k / k!. -/
def taylor (x : Nat) : Nat → Nat → Nat → Int → Int → Int × Int
  | 0, _, _, c, s => (c, s)
  | n + 1, k, term, c, s =>
    let c' := if k % 4 = 0 then c + term else if k % 4 = 2 then c - term else c
    let s' := if k % 4 = 1 then s + term else if k % 4 = 3 then s - term else s
    taylor x n (k + 1) (term * x / 2 ^ 256 / (k + 1)) c' s'

/-- Cosine and sine of 2π u / D in units of 2^-256, by reduction to the first octant. -/
def trigFix (u d : Nat) : Int × Int :=
  let o := 8 * u / d % 8
  let u := u % d
  let rn := if o % 2 = 0 then 8 * u - o * d else (o + 1) * d - 8 * u
  let (c, s) := taylor (piFix * rn / (4 * d)) 80 0 (2 ^ 256) 0 0
  match o with
  | 0 => (c, s) | 1 => (s, c) | 2 => (-s, c) | 3 => (-c, s) | 4 => (-c, -s) | 5 => (-s, -c) | 6 => (s, -c) | _ => (c, -s)

/-- A fixed-point value rounded to a format. -/
def fixCode (f : NFmt) (k : Int) : Nat := (encodeNum f .ne (ofScaled k (-256) false)).1

/-- cos and sin of 2π u / D, correctly rounded (R219, R220). -/
def cosCode (f : NFmt) (u d : Nat) : Nat := fixCode f (trigFix u d).1
def sinCode (f : NFmt) (u d : Nat) : Nat := fixCode f (trigFix u d).2

/-- √(a / b) correctly rounded (R221, R223). -/
def sqrtCode (f : NFmt) (a b : Nat) : Nat := (encodeNum f .ne (.fin false (isqrt (a * 2 ^ 512 / b)) (-256))).1

/-! ## Complex arithmetic with flags -/

/-- A complex value of a working format, as two codes. -/
structure Cx where
  re : Nat
  im : Nat
deriving DecidableEq, Repr

/-- A computation that raises flags. -/
abbrev FlgM := StateM Flg

/-- A rounded result and its flags. -/
def flagged (x : Nat × Flg) : FlgM Nat := fun g => (x.1, g.or x.2)

/-- The sign bit inverted: an exact negation. -/
def negCode (f : NFmt) (x : Nat) : Nat := if f.signBit ≤ x then x - f.signBit else x + f.signBit

def cAdd (f : NFmt) (a b : Cx) : FlgM Cx := do
  let r ← flagged (fAdd f .ne a.re b.re)
  let i ← flagged (fAdd f .ne a.im b.im)
  return { re := r, im := i }

def cSub (f : NFmt) (a b : Cx) : FlgM Cx := do
  let r ← flagged (fSub f .ne a.re b.re)
  let i ← flagged (fSub f .ne a.im b.im)
  return { re := r, im := i }

/-- k·x for a real constant, each component rounded once (R220). -/
def cScale (f : NFmt) (k : Nat) (x : Cx) : FlgM Cx := do
  let r ← flagged (fMul f .ne k x.re)
  let i ← flagged (fMul f .ne k x.im)
  return { re := r, im := i }

/-- a × b + c × d of codes, exact, rounded once. -/
def dot2 (f : NFmt) (a b c d : Nat) : Nat × Flg :=
  let (p, g) := (decodeNum f a).mul (decodeNum f b)
  let (q, h) := (decodeNum f c).mul (decodeNum f d)
  let (x, k) := p.add false q
  roundNum f .ne (x, (g.or h).or k)

/-- a·x + b·y per component (R220). -/
def cLin (f : NFmt) (a : Nat) (x : Cx) (b : Nat) (y : Cx) : FlgM Cx := do
  let r ← flagged (dot2 f a x.re b y.re)
  let i ← flagged (dot2 f a x.im b y.im)
  return { re := r, im := i }

/-- J (R220): exact. -/
def cJ (f : NFmt) (inv : Bool) (x : Cx) : Cx :=
  if inv then { re := negCode f x.im, im := x.re } else { re := x.im, im := negCode f x.re }

/-- The multiplication by the twiddle factor exp(∓2πi u / D) (R219). -/
def twiddle (f : NFmt) (inv : Bool) (u d : Nat) (v : Cx) : FlgM Cx :=
  if 4 * u % d = 0 then
    match 4 * u / d % 4 with
    | 0 => pure v
    | 1 => pure (cJ f inv v)
    | 2 => pure { re := negCode f v.re, im := negCode f v.im }
    | _ => pure (cJ f (!inv) v)
  else do
    let wr := cosCode f u d
    let wi := if inv then sinCode f u d else negCode f (sinCode f u d)
    let r ← flagged (dot2 f v.re wr (negCode f v.im) wi)
    let i ← flagged (dot2 f v.re wi v.im wr)
    return { re := r, im := i }

/-- The butterflies (R220). -/
def butterfly (f : NFmt) (inv : Bool) (v : List Cx) : FlgM (List Cx) :=
  match v with
  | [v0, v1] => do
    let y0 ← cAdd f v0 v1
    let y1 ← cSub f v0 v1
    return [y0, y1]
  | [v0, v1, v2] => do
    let t1 ← cAdd f v1 v2
    let t2 ← cSub f v1 v2
    let y0 ← cAdd f v0 t1
    let m ← cScale f (encodeNum f .ne (.fin true 1 (-1))).1 t1
    let h ← cAdd f v0 m
    let g ← cScale f (sinCode f 1 3) t2
    let y1 ← cAdd f h (cJ f inv g)
    let y2 ← cSub f h (cJ f inv g)
    return [y0, y1, y2]
  | [v0, v1, v2, v3] => do
    let t0 ← cAdd f v0 v2
    let t1 ← cSub f v0 v2
    let t2 ← cAdd f v1 v3
    let t3 ← cSub f v1 v3
    let y0 ← cAdd f t0 t2
    let y2 ← cSub f t0 t2
    let y1 ← cAdd f t1 (cJ f inv t3)
    let y3 ← cSub f t1 (cJ f inv t3)
    return [y0, y1, y2, y3]
  | [v0, v1, v2, v3, v4] => do
    let c1 := cosCode f 1 5
    let c2 := cosCode f 2 5
    let s1 := sinCode f 1 5
    let s2 := sinCode f 2 5
    let a1 ← cAdd f v1 v4
    let b1 ← cSub f v1 v4
    let a2 ← cAdd f v2 v3
    let b2 ← cSub f v2 v3
    let p ← cAdd f v0 a1
    let y0 ← cAdd f p a2
    let i1 ← cLin f c1 a1 c2 a2
    let h1 ← cAdd f v0 i1
    let i2 ← cLin f c2 a1 c1 a2
    let h2 ← cAdd f v0 i2
    let g1 ← cLin f s1 b1 s2 b2
    let g2 ← cLin f s2 b1 (negCode f s1) b2
    let y1 ← cAdd f h1 (cJ f inv g1)
    let y4 ← cSub f h1 (cJ f inv g1)
    let y2 ← cAdd f h2 (cJ f inv g2)
    let y3 ← cSub f h2 (cJ f inv g2)
    return [y0, y1, y2, y3, y4]
  | v => pure v

/-- x / n rounded once. -/
def divCode (f : NFmt) (x n : Nat) : Nat × Flg :=
  match decodeNum f x with
  | .fin neg m e =>
    if m = 0 then (x, Flg.none)
    else
      let q := m * 2 ^ 128 / n
      encodeNum f .ne (.fin neg (2 * q + (if m * 2 ^ 128 % n = 0 then 0 else 1)) (e - 129))
  | v => encodeNum f .ne v

/-- The scale step (R221). -/
def scaleStage (f : NFmt) (mode n : Nat) (x : Cx) : FlgM Cx :=
  match mode with
  | 1 => do
    let r ← flagged (divCode f x.re n)
    let i ← flagged (divCode f x.im n)
    return { re := r, im := i }
  | 2 => cScale f (sqrtCode f 1 n) x
  | _ => pure x

/-! ## Stages -/

/-- Bytes of one real element. -/
def realSize (f : NFmt) : Nat := f.width / 8

def State.cxAt (s : State) (h : Nat) (f : NFmt) (off : Nat) : Cx :=
  { re := s.spadNat h off (realSize f), im := s.spadNat h (off + realSize f) (realSize f) }
def State.putCx (s : State) (h : Nat) (f : NFmt) (off : Nat) (x : Cx) : State :=
  s.spadWrite h off (leBytes (realSize f) x.re ++ leBytes (realSize f) x.im)

/-- Offset of complex element p of transform b (R218). -/
def fftOff (q : BitVec 512) (b p : Nat) : Nat := mqBase q + b * mqRs q + p * mqEs q

/-- One butterfly of a stage: its rad twiddled, combined and scaled results. -/
def fftPoint (f : NFmt) (rad : Nat) (inv : Bool) (mode nt ns e : Nat) (v : List Cx) : FlgM (List Cx) := do
  let t ← ((List.range rad).zip v).mapM (fun qv => twiddle f inv (qv.1 * e) (ns * rad) qv.2)
  let y ← butterfly f inv t
  y.mapM (scaleStage f mode nt)

/-- Transform b of an FFT stage (R218). -/
def fftUnit (s : State) (h rad : Nat) (qa qb : BitVec 512) (shape : Word) (inv : Bool) (mode b : Nat) : State :=
  let f := mqFormat qa
  let nt := shN shape
  let ns := shK shape
  let s0 := s
  (List.range (nt / rad)).foldl (fun s jj =>
    let e := jj % ns
    let v := (List.range rad).map (fun q => s0.cxAt h f (fftOff qa b (jj + q * (nt / rad))))
    let (y, g) := fftPoint f rad inv mode nt ns e v Flg.none
    let o := jj / ns * ns * rad + e
    let s := ((List.range rad).zip y).foldl (fun s qy => s.putCx h f (fftOff qb b (o + qy.1 * ns)) qy.2) s
    s.modRes h (fun r => r.raise g.matrix)) s

/-- Latitude l of LEGI (R222); the header goes with the first. -/
def legiUnit (s : State) (h : Nat) (qa qb : BitVec 512) (shape : Word) (l : Nat) : State :=
  let e := realSize (mqFormat qa)
  let m := shK shape
  let s := if l = 0 then s.spadWrite h (mqBase qb) (leBytes 4 m ++ leBytes 4 m ++ List.replicate 56 0) else s
  let x := s.spadRead h (mqBase qa + l * mqRs qa) e
  let seed := s.spadRead h (mqBase qa + l * mqRs qa + e) e
  s.spadWrite h (mqBase qb + 64 + l * mqRs qb) (x ++ List.replicate e 0 ++ seed)

/-- A complex coefficient of a slab: 2E bytes at byte 2E·d (R223). -/
def State.coefAt (s : State) (t z : Nat) (f : NFmt) (d : Nat) : Cx :=
  if f = .fp64 then
    { re := (s.slabWord t z (4 * d)).toNat + 2 ^ 32 * (s.slabWord t z (4 * d + 1)).toNat,
      im := (s.slabWord t z (4 * d + 2)).toNat + 2 ^ 32 * (s.slabWord t z (4 * d + 3)).toNat }
  else { re := (s.slabWord t z (2 * d)).toNat, im := (s.slabWord t z (2 * d + 1)).toNat }
def State.putCoef (s : State) (t z : Nat) (f : NFmt) (d : Nat) (x : Cx) : State :=
  let w := fun (s : State) (i v : Nat) => s.setSlabWord t z i (BitVec.ofNat 32 v)
  if f = .fp64 then
    w (w (w (w s (4 * d) x.re) (4 * d + 1) (x.re / 2 ^ 32)) (4 * d + 2) x.im) (4 * d + 3) (x.im / 2 ^ 32)
  else w (w s (2 * d) x.re) (2 * d + 1) x.im

/-- fma of a complex value with a real one (R223). -/
def cFma (f : NFmt) (a : Cx) (p : Nat) (c : Cx) : FlgM Cx := do
  let r ← flagged (fFma f .ne a.re p c.re)
  let i ← flagged (fFma f .ne a.im p c.im)
  return { re := r, im := i }

/-- Offset of latitude l's state in a Legendre stream. -/
def legOff (q : BitVec 512) (l : Nat) : Nat := mqBase q + 64 + l * mqRs q

/-- Degree d of LEG (R223): accumulate over the latitudes in increasing order, then advance the recurrence. -/
def legUnit (s : State) (h z : Nat) (qa qb : BitVec 512) (shape : Word) (syn zi : Bool) (d : Nat) : State :=
  let f := mqFormat qa
  let e := realSize f
  let t := hTile h
  let ls := List.range (shM shape)
  let s := if zi && decide (d = 0) then
      (if syn then ls.foldl (fun s l => s.putCx h f (mqBase qb + l * mqRs qb) { re := 0, im := 0 }) s
       else (List.range (shN shape)).foldl (fun s i => s.putCoef t z f i { re := 0, im := 0 }) s)
    else s
  let m := s.spadNat h (mqBase qa) 4
  let nn := s.spadNat h (mqBase qa + 4) 4
  let s := ls.foldl (fun s l =>
    let p1 := s.spadNat h (legOff qa l + 2 * e) e
    let g := s.cxAt h f (mqBase qb + l * mqRs qb)
    let c := s.coefAt t z f d
    let (v, fl) := (if syn then cFma f c p1 g else cFma f g p1 c) Flg.none
    (if syn then s.putCx h f (mqBase qb + l * mqRs qb) v else s.putCoef t z f d v).modRes h (fun r => r.raise fl.matrix)) s
  let a := sqrtCode f (4 * (nn + 1) * (nn + 1) - 1) ((nn + 1) * (nn + 1) - m * m)
  let bb := if nn = m then 0 else sqrtCode f (nn * nn - m * m) (4 * nn * nn - 1)
  let s := ls.foldl (fun s l =>
    let x := s.spadNat h (legOff qa l) e
    let p0 := s.spadNat h (legOff qa l + e) e
    let p1 := s.spadNat h (legOff qa l + 2 * e) e
    let (v, fl) := (do
      let t1 ← flagged (fMul f .ne x p1)
      let t2 ← flagged (fMul f .ne bb p0)
      let t3 ← flagged (fSub f .ne t1 t2)
      flagged (fMul f .ne a t3) : FlgM Nat) Flg.none
    (s.spadWrite h (legOff qa l + e) (leBytes e p1 ++ leBytes e v)).modRes h (fun r => r.raise fl.matrix)) s
  s.spadWrite h (mqBase qa + 4) (leBytes 4 (nn + 1))

end Sys2Proof.Machine
end

