-- ==== Sys2Proof/Machine/Matrix.lean ====
section
/-!
DEFINITION. The matrix engine's instructions: issue checks and snapshots (R194 to R199, R201, R202), the datapath's progress
and completion (R197, R200), local instructions (R203 to R206), and sub-array gating (R225, R226).
-/

namespace Sys2Proof.Machine

open Sys2Proof

/-- The matrix program whose turn it is. -/
def onMat (s : State) (k : Nat → Out) : Out :=
  match s.who with
  | some (.task h .m) => k h
  | _ => .next s

/-! ## Footprints (R199, R200) -/

/-- A set of scratchpad bytes: ranges of window offset and length. -/
abbrev Foot := List (Nat × Nat)

/-- Bytes of the elements ks of rows below n of an operand (R202). -/
def rowFoot (q : BitVec 512) (n : Nat) (k0 cnt : Nat) : Foot :=
  let w := (mqFormat q).width
  (List.range n).map (fun x => (mqBase q + x * mqRs q + w * k0 / 8, (w * (k0 + cnt) + 7) / 8 - w * k0 / 8))

/-- Bytes of the scales of unit c of rows or columns below n. -/
def scaleFoot (q : BitVec 512) (n c : Nat) : Foot := (List.range n).map (fun x => (mqSbase q + x * mqSstride q + c, 1))
def tensorFoot (q : BitVec 512) (n : Nat) : Foot := (List.range n).map (fun x => (mqTbase q + x * mqTstride q, 4))
def imageFoot (q : BitVec 512) (base n g : Nat) : Foot :=
  (List.range n).map (fun j => (imgOff q base n g j, 72 * wSlots (mqFormat q)))

/-- Bytes of the elements of transform b of one side (R218). -/
def fftFoot (q : BitVec 512) (nt b : Nat) : Foot := (List.range nt).map (fun p => (fftOff q b p, 2 * realSize (mqFormat q)))

/-- The bytes unit c of a datapath instruction reads or writes; those of its qa side first for a transform. -/
def unitFoot (d : DataPath) (c : Nat) : Foot × Foot :=
  let m := shM d.shape
  let n := shN d.shape
  let k := shK d.shape
  let dense := fun (len : Nat) => (rowFoot d.qa m (c * len) (min len (k - c * len)), rowFoot d.qb n (c * len) (min len (k - c * len)))
  let fft := (fftFoot d.qa n c, fftFoot d.qb n c)
  let e := realSize (mqFormat d.qa)
  match d.instr with
  | .mma _ _ _ _ _ _ => dense (chunkLen (mqFormat d.qa) (mqFormat d.qb))
  | .mmas _ _ _ _ sa _ _ =>
    let q := if sa = 1 then d.qa else d.qb
    let x := if sa = 1 then m else n
    let (a, b) := dense (sblkLen (mqSblk q))
    (a ++ scaleFoot q x c ++ tensorFoot q x, b)
  | .sbp _ _ _ _ _ _ =>
    (rowFoot d.qa m (64 * c) 64 ++ (if mqFormat d.qa = .bf16 then [] else scaleFoot d.qa m c),
     scaleFoot d.qb n c ++ tensorFoot d.qb n ++
       (if mqRecov d.qb = 1 then imageFoot d.qb (mqImgbase d.qb) n c else if mqRecov d.qb = 2 then rowFoot d.qb n (64 * c) 64 else []))
  | .ephb _ _ => ([], rowFoot d.qb n (64 * c) 64)
  | .ephl _ _ => ([], imageFoot d.qb (mqBase d.qb) n c)
  | .ephs _ _ => ([], imageFoot d.qb (mqBase d.qb) n c)
  | .fft2 _ _ _ _ _ => fft
  | .fft3 _ _ _ _ _ => fft
  | .fft4 _ _ _ _ _ => fft
  | .fft5 _ _ _ _ _ => fft
  | .legi _ _ _ => ([(mqBase d.qa + c * mqRs d.qa, 2 * e)], (mqBase d.qb, 64) :: [(mqBase d.qb + 64 + c * mqRs d.qb, 3 * e)])
  | .leg _ _ _ _ _ _ _ =>
    ((mqBase d.qa, 64) :: (List.range m).map (fun l => (legOff d.qa l, 3 * e)),
     (List.range m).map (fun l => (mqBase d.qb + l * mqRs d.qb, 2 * e)))
  | _ => ([], [])

/-- Units of a datapath instruction (R197). -/
def dpTotal (d : DataPath) : Nat :=
  let up := fun (x y : Nat) => (x + y - 1) / y
  match d.instr with
  | .mma _ _ _ _ _ _ => up (shK d.shape) (chunkLen (mqFormat d.qa) (mqFormat d.qb))
  | .mmas _ _ _ _ sa _ _ => up (shK d.shape) (sblkLen (mqSblk (if sa = 1 then d.qa else d.qb)))
  | .sbp _ _ _ _ _ _ => shK d.shape / 64
  | .ephb _ _ => shK d.shape / 64
  | .ephl _ _ => shK d.shape / 64
  | .ephs _ _ => shK d.shape / 64
  | .fft2 _ _ _ _ _ => shM d.shape
  | .fft3 _ _ _ _ _ => shM d.shape
  | .fft4 _ _ _ _ _ => shM d.shape
  | .fft5 _ _ _ _ _ => shM d.shape
  | .legi _ _ _ => shM d.shape
  | .leg _ _ _ _ _ _ _ => shN d.shape
  | _ => 0

/-- Every byte of the footprint lies in the window (R199). -/
def footOk (r : Resident) (d : DataPath) : Bool :=
  (List.range (dpTotal d)).all (fun c =>
    let (a, b) := unitFoot d c
    (a ++ b).all (fun x => r.inWindow x.1 x.2))

/-- Two byte sets share no byte. -/
def footApart (a b : Foot) : Bool := a.all (fun x => b.all (fun y => decide (x.1 + x.2 ≤ y.1) || decide (y.1 + y.2 ≤ x.1)))

/-- The two sides of a transform share no byte (R199). -/
def transformApart (d : DataPath) : Bool :=
  footApart ((List.range (dpTotal d)).flatMap (fun c => (unitFoot d c).1)) ((List.range (dpTotal d)).flatMap (fun c => (unitFoot d c).2))

/-! ## Issue checks (R199, R201, R202) -/

def tenFormats : List Nat := [0, 2, 3, 4, 5, 6, 7, 9, 10, 11]
def weightFormats : List Nat := [9, 10, 11, 7]
def actFormats : List Nat := [9, 4, 5, 2]

/-- A matrix stream of an allowed format with BASE and RS multiples of a unit. -/
def streamOk (q : BitVec 512) (fmts : List Nat) (al : Nat) (rs : Bool) : Bool :=
  decide (mqKind q = 1) && fmts.contains (mqFmt q) && decide (mqBase q % al = 0) && (!rs || decide (mqRs q % al = 0))

def within (x lo hi : Nat) : Bool := decide (lo ≤ x) && decide (x ≤ hi)

def tensorOk (q : BitVec 512) : Bool := decide (mqTbase q % 4 = 0) && decide (mqTstride q % 4 = 0)

/-- The Ephemeris slots of an instruction lie in EPHWIN (R199). -/
def ephOk (r : Resident) (q : BitVec 512) (shape : Word) : Bool :=
  decide (mqEphbase q + wSlots (mqFormat q) * (shN shape * (shK shape / 64)) ≤ r.ephCount)

def sbpShape (v : Word) : Bool := within (shN v) 1 64 && within (shK v) 64 16384 && decide (shK v % 64 = 0)

/-- Transform streams: fp32 or fp64, of one format, fields multiples of E (R201). -/
def transOk (qa qb : BitVec 512) : Bool :=
  let e := realSize (mqFormat qa)
  streamOk qa [0, 1] e true && streamOk qb [0, 1] e true && decide (mqFmt qa = mqFmt qb)

/-- The checks of an instruction's row (R199). -/
def dpOk (s : State) (h : Nat) (d : DataPath) : Bool :=
  let r := s.res h
  let v := d.shape
  let slab := match claimOf d.instr with | some z => r.slabOk z | none => true
  let fft := fun (rad : Nat) =>
    transOk d.qa d.qb && [d.qa, d.qb].all (fun q => decide (mqEs q % realSize (mqFormat q) = 0) && decide (2 * realSize (mqFormat q) ≤ mqEs q)) &&
    within (shM v) 1 65535 && within (shN v) 2 16384 && decide (1 ≤ shK v) && decide (shN v % (shK v * rad) = 0) &&
    footOk r d && transformApart d
  slab &&
  (match d.instr with
   | .mma _ _ _ _ _ _ =>
     streamOk d.qa tenFormats 64 true && streamOk d.qb tenFormats 64 true && within (shM v) 1 64 && within (shN v) 1 64 &&
     within (shK v) 1 16384 && footOk r d
   | .mmas _ _ _ _ sa _ _ =>
     let q := if sa = 1 then d.qa else d.qb
     streamOk d.qa tenFormats 64 true && streamOk d.qb tenFormats 64 true && within (shM v) 1 64 && within (shN v) 1 64 &&
     within (shK v) 1 16384 && decide (mqSblk q ≠ 3) && tensorOk q && footOk r d
   | .sbp _ _ _ _ _ _ =>
     streamOk d.qa actFormats 64 true && streamOk d.qb weightFormats 64 true && within (shM v) 1 64 && sbpShape v && tensorOk d.qb &&
     decide (mqRecov d.qb ≠ 3) && (decide (mqRecov d.qb ≠ 1) || decide (mqImgbase d.qb % 8 = 0)) && ephOk r d.qb v && footOk r d
   | .ephb _ _ => streamOk d.qb weightFormats 64 true && sbpShape v && ephOk r d.qb v && footOk r d
   | .ephl _ _ => streamOk d.qb weightFormats 64 false && sbpShape v && ephOk r d.qb v && footOk r d
   | .ephs _ _ => streamOk d.qb weightFormats 64 false && sbpShape v && ephOk r d.qb v && footOk r d
   | .fft2 _ _ _ _ _ => fft 2
   | .fft3 _ _ _ _ _ => fft 3
   | .fft4 _ _ _ _ _ => fft 4
   | .fft5 _ _ _ _ _ => fft 5
   | .legi _ _ _ =>
     transOk d.qa d.qb && within (shM v) 1 16384 && decide (3 * realSize (mqFormat d.qa) ≤ mqRs d.qb) && footOk r d && transformApart d
   | .leg _ _ _ _ _ _ _ =>
     let b := mqBase d.qa
     let m := s.spadNat h b 4
     let n := s.spadNat h (b + 4) 4
     transOk d.qa d.qb && within (shM v) 1 16384 && within (shN v) 1 (if mqFmt d.qa = 1 then 1024 else 2048) && footOk r d &&
     transformApart d && decide (s.spadNat h (b + 8) 56 = 0) && decide (m ≤ n) && decide (n + shN v ≤ 65535)
   | _ => true)

/-- Sub-arrays an instruction needs (R225). -/
def subArrays (d : DataPath) : BitVec 4 :=
  let rows := BitVec.ofNat 4 (2 ^ ((shM d.shape + 15) / 16) - 1)
  match d.instr with
  | .mma _ _ _ _ _ _ => rows
  | .mmas _ _ _ _ _ _ _ => rows
  | .mzero _ _ => 15
  | .sbp _ _ _ _ _ _ => 15
  | _ => 1

/-- MGATE fields (R225). -/
def mgStat (v : Word) : BitVec 4 := v.extractLsb' 4 4
def mgKeep (v : Word) : BitVec 4 := v.extractLsb' 0 4
def mgIdle (v : Word) : Nat := (v.extractLsb' 8 16).toNat
def setMgStat (v : Word) (x : BitVec 4) : Word := (v &&& ~~~0xF0#64) ||| (x.setWidth 64 <<< 4)

/-- The instruction begins: it holds its snapshot, claims its slab, and sleeps while a sub-array wakes (R195, R198, R226). -/
def State.startDp (s : State) (h : Nat) (d : DataPath) : State :=
  let a := decide (mgStat (s.tile (hTile h)).mgate &&& subArrays d ≠ 0)
  (({ s with nextId := s.nextId + 1 } : State).modRes h (fun r => { r with dp := some { d with asleep := a } })).advance (.task h .m)

/-- A stopped instruction goes on; it sleeps while a gated sub-array that it needs wakes (R225, R226). -/
def State.contDp (s : State) (h : Nat) : State :=
  let gated := mgStat (s.tile (hTile h)).mgate
  s.modRes h (fun r => { r.contDp with dp := r.contDp.dp.map (fun d => { d with asleep := d.asleep || decide (gated &&& subArrays d ≠ 0) }) })

/-- An armed watermark holds the bytes of LEG's header, which its issue reads (R200). -/
def State.headerHeld (s : State) (h : Nat) (d : DataPath) : Bool :=
  match d.instr with
  | .leg _ _ _ _ _ _ _ => s.heldBy (hTile h) true (s.res h).asid ((s.res h).spBase + mqBase d.qa) 64 none
  | _ => false

/-- The issue of a datapath instruction (R194, R199): an interlock while one executes or its header is held, the checks, then the slab's state,
tested once (R198). cons: a consumer access. -/
def dpIssue (i : Instr) (qa qb ns : BitVec 4) (slab : Option (Nat × Bool)) (s : State) : Out :=
  onMat s (fun h =>
    let r := s.res h
    if r.dp.isSome then .next s
    else
      let d : DataPath := { id := s.nextId, instr := i, iaddr := r.m.pc, shape := fget (0 : Word) r.nregs ns.toNat, qa := r.stream qa.toNat,
                            qb := r.stream qb.toNat, units := 0, asleep := false, stopped := false }
      if s.headerHeld h d then .next s
      else if !dpOk s h d then .next (s.stateUse (.task h .m))
      else match slab with
        | none => .next (s.startDp h d)
        | some (z, cons) =>
          waitOp (.task h .m) (if cons then .slabFull z false else .slabEmpty z false) s
            (fun s' => .next (s'.startDp h d)) (fun s' => .next (s'.startDp h d)))

/-- MMA (R208, R209). -/
def execMma (z : BitVec 5) (a b n : BitVec 4) (i r : BitVec 1) (s : State) : Out :=
  dpIssue (.mma z a b n i r) a b n (some (z.toNat, false)) s
/-- MMAS (R208, R210). -/
def execMmas (z : BitVec 5) (a b n : BitVec 4) (sa i r : BitVec 1) (s : State) : Out :=
  dpIssue (.mmas z a b n sa i r) a b n (some (z.toNat, false)) s
/-- SBP (R215). -/
def execSbp (z : BitVec 5) (a b n : BitVec 4) (i r : BitVec 1) (s : State) : Out :=
  dpIssue (.sbp z a b n i r) a b n (some (z.toNat, false)) s
/-- EPHB (R212). -/
def execEphb (b n : BitVec 4) (s : State) : Out := dpIssue (.ephb b n) b b n none s
/-- EPHL (R213). -/
def execEphl (b n : BitVec 4) (s : State) : Out := dpIssue (.ephl b n) b b n none s
/-- EPHS (R214). -/
def execEphs (b n : BitVec 4) (s : State) : Out := dpIssue (.ephs b n) b b n none s
/-- MZERO (R207). -/
def execMzero (z : BitVec 5) (r : BitVec 1) (s : State) : Out := dpIssue (.mzero z r) 0 0 0 (some (z.toNat, false)) s
/-- FFT2 (R218). -/
def execFft2 (a b n : BitVec 4) (m : BitVec 2) (i : BitVec 1) (s : State) : Out := dpIssue (.fft2 a b n m i) a b n none s
/-- FFT3 (R218). -/
def execFft3 (a b n : BitVec 4) (m : BitVec 2) (i : BitVec 1) (s : State) : Out := dpIssue (.fft3 a b n m i) a b n none s
/-- FFT4 (R218). -/
def execFft4 (a b n : BitVec 4) (m : BitVec 2) (i : BitVec 1) (s : State) : Out := dpIssue (.fft4 a b n m i) a b n none s
/-- FFT5 (R218). -/
def execFft5 (a b n : BitVec 4) (m : BitVec 2) (i : BitVec 1) (s : State) : Out := dpIssue (.fft5 a b n m i) a b n none s
/-- LEG (R223): analysis is a producer access, synthesis a consumer access. -/
def execLeg (z : BitVec 5) (a b n : BitVec 4) (i y r : BitVec 1) (s : State) : Out :=
  dpIssue (.leg z a b n i y r) a b n (some (z.toNat, decide (y = 1))) s
/-- LEGI (R222). -/
def execLegi (a b n : BitVec 4) (s : State) : Out := dpIssue (.legi a b n) a b n none s
/-- MACQ (R207). -/
def execMacq (z : BitVec 5) (s : State) : Out := dpIssue (.macq z) 0 0 0 (some (z.toNat, true)) s
/-- MREL (R207). -/
def execMrel (z : BitVec 5) (s : State) : Out := dpIssue (.mrel z) 0 0 0 (some (z.toNat, false)) s

/-! ## Progress and completion -/

/-- A watermark holds a byte of the unit (R21, R200). -/
def State.unitHeld (s : State) (h : Nat) (d : DataPath) : Bool :=
  let r := s.res h
  let (a, b) := unitFoot d d.units
  (a ++ b).any (fun x => s.heldBy (hTile h) true r.asid (r.spBase + x.1) x.2 none)

/-- The work of one unit (R197), or table-invalid (R215, R216): the slot and the cause. -/
def State.dpUnit (s : State) (h : Nat) (d : DataPath) : Except (Nat × Nat) State :=
  let g := d.units
  let fft := fun (rad : Nat) (i : BitVec 1) (m : BitVec 2) => fftUnit s h rad d.qa d.qb d.shape (decide (i = 1)) m.toNat g
  match d.instr with
  | .mma z _ _ _ i _ => .ok (mmaUnit s h z.toNat d.qa d.qb d.shape (decide (i = 1)) g)
  | .mmas z _ _ _ sa i _ => .ok (mmasUnit s h z.toNat d.qa d.qb d.shape (decide (sa = 1)) (decide (i = 1)) g)
  | .sbp z _ _ _ i _ =>
    let s := if i = 1 ∧ g = 0 then s.slabZero h z.toNat (shM d.shape) (shN d.shape) else s
    match s.sbpSlots h d.qb (shN d.shape) g (List.range (shN d.shape)) with
    | .ok s' => .ok (sbpUnit s' h z.toNat d.qa d.qb d.shape g)
    | .error e => .error e
  | .ephb _ _ => .ok (ephbUnit s h d.qb (shN d.shape) g)
  | .ephl _ _ => .ok (ephlUnit s h d.qb (shN d.shape) g)
  | .ephs _ _ => .ok (ephsUnit s h d.qb (shN d.shape) g)
  | .fft2 _ _ _ m i => .ok (fft 2 i m)
  | .fft3 _ _ _ m i => .ok (fft 3 i m)
  | .fft4 _ _ _ m i => .ok (fft 4 i m)
  | .fft5 _ _ _ m i => .ok (fft 5 i m)
  | .leg z _ _ _ i y _ => .ok (legUnit s h z.toNat d.qa d.qb d.shape (decide (y = 1)) (decide (i = 1)) g)
  | .legi _ _ _ => .ok (legiUnit s h d.qa d.qb d.shape g)
  | _ => .ok s

/-- The datapath of a tile: the resident whose instruction is in execution. -/
def State.dpOf (s : State) (t : Nat) : Option (Nat × DataPath) :=
  match s.cur t .m with
  | some r =>
    let h := mkHandle t r
    (match (s.res h).dp with
     | some d => if d.stopped || d.asleep then none else some (h, d)
     | none => none)
  | none => none

/-- A progress point of the matrix engine: one unit is done; table-invalid parks the program (R197, R200, R215). -/
def State.matProgress (s : State) (t : Nat) : State :=
  match s.dpOf t with
  | none => s
  | some (h, d) =>
    if dpTotal d ≤ d.units || s.unitHeld h d then s
    else match s.dpUnit h d with
      | .ok s' => s'.modRes h (fun r => { r with dp := some { d with units := d.units + 1 } })
      | .error (k, c) =>
        let f := faultInfo 0x30 (BitVec.ofNat 64 (k % 4096 + 4096 * c))
        s.parkWith h .m .work (s.mkRecord h .m f d.iaddr)

/-- What completion does to the slab (R207, R208, R223). -/
def State.dpFinish (s : State) (h : Nat) (i : Instr) : State :=
  let t := hTile h
  let rel := fun (r : BitVec 1) (z : BitVec 5) => if r = 1 then s.setSlabFull t z.toNat true else s
  match i with
  | .mma z _ _ _ _ r => rel r z
  | .mmas z _ _ _ _ _ r => rel r z
  | .sbp z _ _ _ _ r => rel r z
  | .mzero z r =>
    let s := s.modTile t (fun x => { x with slabs := x.slabs.filter (fun kv => decide (kv.1 / 4096 ≠ z.toNat)) })
    if r = 1 then s.setSlabFull t z.toNat true else s
  | .leg z _ _ _ _ y r => if y = 1 then (if r = 1 then s.setSlabFull t z.toNat false else s) else rel r z
  | .macq z => s.setSlabFull t z.toNat false
  | .mrel z => s.setSlabFull t z.toNat true
  | _ => s

/-- DATAPATH_COMPLETE (R197, R198, R200): every unit done, the slab's state changes, the claim ends, MPROG reads 0. -/
def execDatapathComplete (t : Tid) (s : State) : Out :=
  match s.dpOf t.toNat with
  | none => .next s
  | some (h, d) =>
    if d.units < dpTotal d then .next s
    else .next ((s.dpFinish h d.instr).modRes h (fun r => { r with dp := none, mprog := [] }))

/-- SUBARRAY_GATE (R225): a sub-array that nothing uses is gated when IDLE is nonzero and its KEEP bit is 0. -/
def execSubarrayGate (t : Tid) (i : BitVec 2) (s : State) : Out :=
  let v := (s.tile t.toNat).mgate
  let bit : BitVec 4 := 1 <<< i.toNat
  let used := (List.range 8).any (fun r => match (s.res (mkHandle t.toNat r)).dp with
    | some d => !d.stopped && decide (subArrays d &&& bit ≠ 0)
    | none => false)
  if mgIdle v = 0 || decide (mgKeep v &&& bit ≠ 0) || used then .next s
  else .next (s.modTile t.toNat (fun x => { x with mgate := setMgStat v (mgStat v ||| bit) }))

/-- SUBARRAY_WAKE (R226): the sub-arrays that a sleeping instruction or an MWAKE asks for are awake. -/
def execSubarrayWake (t : Tid) (s : State) : Out :=
  let x := s.tile t.toNat
  let hs := (List.range 8).map (fun r => mkHandle t.toNat r)
  let asks := hs.foldl (fun b h => match (s.res h).dp with
    | some d => if d.asleep then b ||| subArrays d else b
    | none => b) (if x.waking then (15 : BitVec 4) else 0)
  let s := s.modTile t.toNat (fun y => { y with mgate := setMgStat y.mgate (mgStat y.mgate &&& ~~~asks), waking := false })
  .next (hs.foldl (fun s h => s.modRes h (fun r => { r with dp := r.dp.map (fun d => { d with asleep := false }) })) s)

/-! ## Local instructions -/

def State.nreg (s : State) (h : Nat) (n : BitVec 4) : Word := fget (0 : Word) (s.res h).nregs n.toNat

/-- An n-register result (R203). -/
def nalu (d a b : BitVec 4) (f : Word → Word → Word) (s : State) : Out :=
  onMat s (fun h => .next (localResult (.task h .m) d.toNat (f (s.nreg h a) (s.nreg h b)) s))

/-- NADD (R203). -/
def execNadd (d a b : BitVec 4) (s : State) : Out := nalu d a b (fun x y => x + y) s
/-- NSUB (R203). -/
def execNsub (d a b : BitVec 4) (s : State) : Out := nalu d a b (fun x y => x - y) s
/-- NAND (R203): AND. -/
def execNand (d a b : BitVec 4) (s : State) : Out := nalu d a b (fun x y => x &&& y) s
/-- NOR (R203): OR. -/
def execNor (d a b : BitVec 4) (s : State) : Out := nalu d a b (fun x y => x ||| y) s
/-- NXOR (R203). -/
def execNxor (d a b : BitVec 4) (s : State) : Out := nalu d a b (fun x y => x ^^^ y) s
/-- NSHL (R203): the count is bits [5:0]. -/
def execNshl (d a b : BitVec 4) (s : State) : Out := nalu d a b (fun x y => x <<< (y.toNat % 64)) s
/-- NSHR (R203). -/
def execNshr (d a b : BitVec 4) (s : State) : Out := nalu d a b (fun x y => x >>> (y.toNat % 64)) s
/-- NSRA (R203). -/
def execNsra (d a b : BitVec 4) (s : State) : Out := nalu d a b (fun x y => x.sshiftRight (y.toNat % 64)) s
/-- NMUL (R203). -/
def execNmul (d a b : BitVec 4) (s : State) : Out := nalu d a b (fun x y => x * y) s
/-- NMIN (R203), signed. -/
def execNmin (d a b : BitVec 4) (s : State) : Out := nalu d a b (fun x y => if x.slt y then x else y) s
/-- NMAX (R203), signed. -/
def execNmax (d a b : BitVec 4) (s : State) : Out := nalu d a b (fun x y => if x.slt y then y else x) s
/-- NMINU (R203). -/
def execNminu (d a b : BitVec 4) (s : State) : Out := nalu d a b (fun x y => if x.ult y then x else y) s
/-- NMAXU (R203). -/
def execNmaxu (d a b : BitVec 4) (s : State) : Out := nalu d a b (fun x y => if x.ult y then y else x) s

/-- NADDI (R204). -/
def execNaddi (d a : BitVec 4) (i : BitVec 18) (s : State) : Out :=
  onMat s (fun h => .next (localResult (.task h .m) d.toNat (s.nreg h a + sx i) s))

/-- NSETH (R204): bits [16p + 15:16p] replaced. -/
def execNseth (d a : BitVec 4) (p : BitVec 2) (v : BitVec 16) (s : State) : Out :=
  onMat s (fun h =>
    let sh := 16 * p.toNat
    .next (localResult (.task h .m) d.toNat ((s.nreg h a &&& ~~~(0xFFFF#64 <<< sh)) ||| (v.setWidth 64 <<< sh)) s))

/-- NGET (R204): MPROG0 to MPROG3, or MCAP. -/
def execNget (d : BitVec 4) (x : BitVec 18) (s : State) : Out :=
  onMat s (fun h =>
    let v : Word := if x.toNat < 4 then (fget (0 : BitVec 32) (s.res h).mprog x.toNat).setWidth 64 else Config.mcap
    .next (localResult (.task h .m) d.toNat v s))

/-- MBR (R205, R89). -/
def execMbr (c : BitVec 3) (a : BitVec 4) (o : BitVec 19) (s : State) : Out :=
  onMat s (fun h =>
    let w := Who.task h .m
    let x := if c = 5 then s.nreg h a - 1 else s.nreg h a
    let pc := (s.res h).m.pc
    let t := if condHolds c x then branchTarget pc o else pc + 4
    let s := if c = 5 then s.setLreg w a.toNat x else s
    .next (((s.advance w).modPrg h .m (fun p => { p with pc := t })).afterTransfer w))

/-- MATRIX_END (R37, R196, R206): it holds until the datapath instruction has completed and every operation is done. -/
def execMatrixEnd (s : State) : Out :=
  onMat s (fun h =>
    if s.pathBusy (.task h) 2 then .next s
    else .next ((s.modRes h (fun r => r.setEst .m 3)).endBlock h .m))

/-- MWAKE (R196, R226): it completes when all four sub-arrays are awake. -/
def execMwake (s : State) : Out :=
  onMat s (fun h =>
    if (s.res h).dp.isSome then .next s
    else if mgStat (s.tile (hTile h)).mgate ≠ 0 then .next (s.modTile (hTile h) (fun x => { x with waking := true }))
    else .next (s.advance (.task h .m)))

end Sys2Proof.Machine
end

