-- ==== Sys2Proof/Machine/Copy.lean ====
section
/-!
DEFINITION. The copy engine: transfers (R227 to R234), their progress points and completion (R232), local instructions
(R235 to R237).
-/

namespace Sys2Proof.Machine

open Sys2Proof

/-- The copy program whose turn it is. -/
def onCopy (s : State) (k : Nat → Out) : Out :=
  match s.who with
  | some (.task h .c) => k h
  | _ => .next s

def State.creg (s : State) (h : Nat) (n : BitVec 5) : Word := fget (0 : Word) (s.res h).cregs n.toNat

/-! ## Shape of a transfer (R230) -/

/-- A signed 32-bit half of a register. -/
def lowInt (v : Word) : Int := (v.extractLsb' 0 32).toInt
def highInt (v : Word) : Int := (v.extractLsb' 32 32).toInt

/-- Rows of COPY2D, in c(cb). -/
def Xfer.rowCount (x : Xfer) : Nat := (x.opb.extractLsb' 32 32).toNat
/-- Element count of CGATH and CSCAT, in c(cb + 1). -/
def Xfer.count (x : Xfer) : Nat := x.opb1.toNat
/-- Bytes that a transfer moves. -/
def Xfer.total (x : Xfer) : Nat :=
  match x.op with
  | .copy | .fill | .pref => x.opb.toNat
  | .copy2d => x.rowLen * x.rowCount
  | .cgath | .cscat => x.count * x.esz

/-- A 64-bit address moved by an exact offset, modulo 2^64. -/
def moved (a : Word) (d : Int) : Nat := (((a.toNat : Int) + d) % 2 ^ 64).toNat

/-- The contiguous or strided rows of a side: start and length. -/
def Xfer.rowsOf (x : Xfer) (dst : Bool) : List (Nat × Nat) :=
  let a := if dst then x.opd else x.opa
  match x.op with
  | .copy2d =>
    (List.range x.rowCount).map (fun r =>
      (moved a (Int.ofNat r * (if dst then highInt x.opb1 else lowInt x.opb1)), x.rowLen))
  | .copy | .fill => [(a.toNat, x.opb.toNat)]
  | .pref => [(x.opa.toNat, x.opb.toNat)]
  | .cgath | .cscat => [(a.toNat, x.total)]

/-- The side has fixed addresses: all but the indexed side of a gather or scatter, and the absent source of a fill. -/
def Xfer.fixedSide (x : Xfer) (dst : Bool) : Bool :=
  match x.op with
  | .cgath => dst
  | .cscat => !dst
  | .fill => dst
  | .pref => !dst
  | _ => true

/-- Limits of R230. -/
def Xfer.sizeOk (x : Xfer) : Bool :=
  match x.op with
  | .copy | .fill | .pref => within x.opb.toNat 1 (2 ^ 32)
  | .copy2d => within x.rowLen 1 (2 ^ 24) && within x.rowCount 1 (2 ^ 20) && decide (x.rowLen * x.rowCount ≤ 2 ^ 32)
  | .cgath | .cscat => within x.count 1 (2 ^ 24)

/-- One side's rows lie in the window, or have start and end below 2^56 (R228). -/
def Xfer.sideOk (x : Xfer) (r : Resident) (dst : Bool) : Bool :=
  if !x.fixedSide dst then true
  else (x.rowsOf dst).all (fun al => if (if dst then x.ds else x.ss) then r.inWindow al.1 al.2 else decide (al.1 + al.2 < 2 ^ 56))

/-- COPY and COPY2D: the footprints share no byte in one space (R228). -/
def Xfer.apart (x : Xfer) : Bool :=
  match x.op with
  | .copy | .copy2d => decide (x.ds ≠ x.ss) || footApart (x.rowsOf true) (x.rowsOf false)
  | _ => true

/-- The index array of a gather or scatter (R228, R230). -/
def Xfer.indexOk (x : Xfer) (r : Resident) : Bool :=
  match x.op with
  | .cgath | .cscat => decide (x.opb.toNat % 4 = 0) && r.inWindow x.opb.toNat (4 * x.count)
  | _ => true

/-- The destination extent (R231), tile-absolute in the scratchpad. -/
def Xfer.extent (x : Xfer) (r : Resident) : Nat × Nat :=
  let a := x.opd.toNat + (if x.ds then r.spBase else 0)
  (a, a + x.total)

/-- The bytes of a side that are still to be read or written; none says that they are known element by element (R228). -/
def Xfer.restOf (x : Xfer) (dst : Bool) : Option (List (Nat × Nat)) :=
  if !x.fixedSide dst then none
  else match x.op with
    | .copy2d => some ((x.rowsOf dst).drop (x.pos / x.rowLen))
    | _ => some ((x.rowsOf dst).map (fun al => (al.1 + x.pos, al.2 - x.pos)))

/-- The transfer has yet to read or write a byte of [a, a + n) in a space; an indexed side may be anywhere (R233). -/
def Xfer.touches (x : Xfer) (spad : Bool) (a n : Nat) : Bool :=
  let side := fun (space dst : Bool) => decide (space = spad) &&
    (match x.restOf dst with | some l => l.any (fun al => decide (a < al.1 + al.2) && decide (al.1 < a + n)) | none => true)
  decide (x.op ≠ .pref) &&
  (side x.ds true || (decide (x.op ≠ .fill) && side x.ss false) ||
   ((decide (x.op = .cgath) || decide (x.op = .cscat)) && spad && decide (x.opb.toNat < a + n) && decide (a < x.opb.toNat + 4 * x.count)))

/-- The channel conditions (R16, R231). -/
def Xfer.chanOk (x : Xfer) (s : State) (h : Nat) : Bool :=
  match x.ch with
  | none => true
  | some k =>
    let r := s.res h
    let c := s.chan (hTile h) k
    let (b, l) := x.extent r
    r.chanOk k && (decide (x.op ≠ .copy2d) || decide (highInt x.opb1 = x.rowLen)) &&
    (!c.armed || (decide (c.space = x.ds) && decide (b = c.wm.toNat) && decide (l ≤ c.limit.toNat)))

/-- The checks when a transfer begins (R228, R231). -/
def Xfer.ok (x : Xfer) (s : State) (h : Nat) : Bool :=
  let r := s.res h
  x.sizeOk && x.sideOk r true && x.sideOk r false && x.indexOk r && x.apart && x.chanOk s h

/-- An idle channel is armed for the extent; an armed one is taken over at its WM (R231). -/
def Xfer.arm (x : Xfer) (s : State) (h : Nat) : State :=
  match x.ch with
  | none => s
  | some k =>
    let r := s.res h
    let c := s.chan (hTile h) k
    let (b, l) := x.extent r
    if c.armed then s.setChan (hTile h) k { c with filling := true }
    else s.setChan (hTile h) k { space := x.ds, base := BitVec.ofNat 56 b, limit := BitVec.ofNat 56 l, wm := BitVec.ofNat 56 b,
                                 asid := r.asid, filling := true }

/-- The issue of a transfer (R227, R228): an interlock while one executes, the checks, then it begins. -/
def xfIssue (mk : Nat → Xfer) (s : State) : Out :=
  onCopy s (fun h =>
    if (s.res h).xf.isSome then .next s
    else
      let x := mk h
      if !x.ok s h then .next (s.stateUse (.task h .c))
      else .next ((({ x.arm s h with nextId := s.nextId + 1 } : State).modRes h (fun r => { r with xf := some x })).advance (.task h .c)))

/-- A transfer's word from its fields (R107, R229). -/
def xfWord (op : Nat) (ch : BitVec 4) (d a b : BitVec 5) (fn : Nat) : BitVec 32 :=
  BitVec.ofNat 32 (op * 2 ^ 26 + ch.toNat * 2 ^ 22 + d.toNat * 2 ^ 17 + a.toNat * 2 ^ 12 + b.toNat * 2 ^ 7 + fn)

/-- A new transfer with its operands read (R228). -/
def newXfer (s : State) (h : Nat) (op : XOp) (opc : Nat) (ch : BitVec 4) (d a b : BitVec 5) (e : Nat) (n k t q : BitVec 1) : Xfer :=
  { id := s.nextId, op := op, ch := if k = 1 then some ch.toNat else none, nt := decide (n = 1), ds := decide (t = 1), ss := decide (q = 1),
    esz := match e with | 0 => 4 | 1 => 8 | 2 => 64 | _ => 512,
    word := xfWord opc ch d a b (16 * e + 8 * n.toNat + 4 * k.toNat + 2 * t.toNat + q.toNat), iaddr := (s.res h).c.pc,
    opd := s.creg h d, opa := s.creg h a, opb := s.creg h b, opb1 := s.creg h (b + 1), pos := 0, next := 0, point := true,
    stopped := false, grans := [], wrote := [] }

/-- COPY (R230). -/
def execCopy (h : BitVec 4) (d a b : BitVec 5) (n k t q : BitVec 1) (s : State) : Out :=
  xfIssue (fun r => newXfer s r .copy 4 h d a b 0 n k t q) s
/-- COPY2D (R230). -/
def execCopy2d (h : BitVec 4) (d a b : BitVec 5) (n k t q : BitVec 1) (s : State) : Out :=
  xfIssue (fun r => newXfer s r .copy2d 5 h d a b 0 n k t q) s
/-- CGATH (R230). -/
def execCgath (h : BitVec 4) (d a b : BitVec 5) (e : BitVec 2) (n k t q : BitVec 1) (s : State) : Out :=
  xfIssue (fun r => newXfer s r .cgath 6 h d a b e.toNat n k t q) s
/-- CSCAT (R230). -/
def execCscat (d a b : BitVec 5) (e : BitVec 2) (n t q : BitVec 1) (s : State) : Out :=
  xfIssue (fun r => newXfer s r .cscat 7 0 d a b e.toNat n 0 t q) s
/-- FILL (R230). -/
def execFill (h : BitVec 4) (d a b : BitVec 5) (n k t : BitVec 1) (s : State) : Out :=
  xfIssue (fun r => newXfer s r .fill 8 h d a b 0 n k t 0) s
/-- PREF (R230): it changes no program-visible state. -/
def execPref (a b : BitVec 5) (s : State) : Out :=
  xfIssue (fun r => newXfer s r .pref 9 0 0 a b 0 0 0 0 0) s

/-! ## Granule accesses (R232, R275, R283) -/

/-- Every byte is done. -/
def Xfer.done (x : Xfer) : Bool := decide (x.op = .pref) || decide (x.total ≤ x.pos)

/-- A gather or a scatter. -/
def Xfer.indexed (x : Xfer) : Bool := decide (x.op = .cgath) || decide (x.op = .cscat)

/-- It stands at a progress point with nothing under way (R232). -/
def Xfer.atPoint (x : Xfer) : Bool := decide (x.grans = []) && (x.point || x.done)

/-- A transfer of the resident is between progress points. -/
def State.xfUnderWay (s : State) (h : Nat) (e : Eng) : Bool :=
  match e, (s.res h).xf with
  | .c, some x => !x.stopped && !x.atPoint
  | _, _ => false

/-- The transfer may read a byte that it also writes: an index or an element of a gather or scatter, or the same physical byte under two global
addresses (R230: indexed overlap, aliases). -/
def Xfer.mayMeet (x : Xfer) : Bool := (decide (x.ds = x.ss) && (x.indexed || !x.ds)) || (x.indexed && x.ds)

/-- What a byte at a place may read as besides what stands there: what stood there before a write of this transfer, and what it wrote. -/
def Xfer.others (x : Xfer) (place : Nat) : List Byte :=
  x.wrote.flatMap (fun e => if e.1 ≤ place && decide (place < e.1 + e.2.2.length) then [e.2.1.getD (place - e.1) 0, e.2.2.getD (place - e.1) 0] else [])

/-- One of the allowed values; b when nothing was written there. -/
def pickByte (k : Nat) (b : Byte) (l : List Byte) : Byte := if l = [] then b else (b :: l).getD (Config.freePick k % (l.length + 1)) b

/-- Index i of a gather or scatter (R230). -/
def State.xfIndex (s : State) (h : Nat) (x : Xfer) (i : Nat) : Int :=
  let a := x.opb.toNat + 4 * i
  let at_ := (s.res h).spBase + a
  let other := fun (b : Nat) => if x.ds then x.others (at_ + b) else []
  (BitVec.ofNat 32 (leNat ((List.range 4).map (fun b => pickByte (s.fresh + 4 * (i % 64) + b) (memByte (s.tile (hTile h)).spad (at_ + b)) (other b))))).toInt

/-- The address of byte p of the transfer's data on a side (R230); ix gives the index of an element. -/
def Xfer.addrOf (x : Xfer) (ix : Nat → Int) (dst : Bool) (p : Nat) : Nat :=
  let a := if dst then x.opd else x.opa
  match x.op with
  | .copy2d => moved a (Int.ofNat (p / x.rowLen) * (if dst then highInt x.opb1 else lowInt x.opb1) + Int.ofNat (p % x.rowLen))
  | .cgath => moved a (if dst then Int.ofNat p else ix (p / x.esz) * x.esz + Int.ofNat (p % x.esz))
  | .cscat => moved a (if dst then ix (p / x.esz) * x.esz + Int.ofNat (p % x.esz) else Int.ofNat p)
  | .fill => if dst then moved a (Int.ofNat p) else p
  | _ => moved a (Int.ofNat p)

/-- The bytes after which a run of consecutive addresses may end on a side: rows, elements. -/
def Xfer.period (x : Xfer) (dst : Bool) : Nat :=
  match x.op with
  | .copy2d => if dst && decide (highInt x.opb1 = x.rowLen) then x.total else x.rowLen
  | .cgath => if dst then x.total else x.esz
  | .cscat => if dst then x.esz else x.total
  | _ => x.total

/-- Bytes p to p + n - 1 cut where runs end: position and length. -/
def cutEvery (d : Nat) : Nat → Nat → Nat → List (Nat × Nat)
  | 0, _, _ => []
  | fuel + 1, p, n => if n = 0 then [] else let k := min n (d - p % d); (p, k) :: cutEvery d fuel (p + k) (n - k)

/-- The length of the granule access that begins at byte p: the rest of the 64-byte destination granule, of the run and of the transfer. -/
def Xfer.granLen (x : Xfer) (a p : Nat) : Nat := min (min (64 - a % 64) (x.period true - p % x.period true)) (x.total - p)

/-- The granule access that begins at byte p (R283). -/
def Xfer.gran (x : Xfer) (ix : Nat → Int) (p : Nat) : Gran :=
  let d := x.addrOf ix true p
  let n := x.granLen d p
  { lo := p, len := n, dst := d, src := (cutEvery (x.period false) (n + 1) p n).map (fun q => (q.1 - p, q.2, x.addrOf ix false q.1)),
    places := [], into := [], got := [], ready := false, put := 0 }

/-- The length of the next unit of a range (R275): 8 bytes where source and destination are both naturally aligned, else up to the next multiple of w
on the side that is accessed: single bytes of global memory, 4-byte words of a scratchpad (R48). -/
def nextUnit (w key left : Nat) (both : Bool) : Nat := if both && decide (8 ≤ left) then 8 else min left (w - key % w)

/-- The units of a source run: address, length, offset in the granule. -/
def srcUnits (w dst : Nat) : Nat → Nat → Nat → Nat → List (Nat × Nat × Nat)
  | 0, _, _, _ => []
  | fuel + 1, off, n, a =>
    if n = 0 then []
    else
      let k := nextUnit w a n (decide (a % 8 = 0) && decide ((dst + off) % 8 = 0))
      (a, k, off) :: srcUnits w dst fuel (off + k) (n - k) (a + k)

/-- The 8 source bytes of the destination bytes at an offset are naturally aligned. -/
def Gran.srcAligned (g : Gran) (o : Nat) : Bool :=
  g.src.any (fun r => decide (r.1 ≤ o) && decide (o + 8 ≤ r.1 + r.2.1) && decide ((r.2.2 + (o - r.1)) % 8 = 0))

/-- The length of the destination unit at an offset. -/
def Gran.dstUnit (g : Gran) (w o : Nat) : Nat := nextUnit w (g.dst + o) (g.len - o) (decide ((g.dst + o) % 8 = 0) && g.srcAligned o)

/-- The units of the destination from an offset on: address, length, offset. -/
def Gran.dstUnits (g : Gran) (w : Nat) : Nat → Nat → List (Nat × Nat × Nat)
  | 0, _ => []
  | fuel + 1, o => if g.len ≤ o then [] else let k := g.dstUnit w o; (g.dst + o, k, o) :: g.dstUnits w fuel (o + k)

/-- The fault of an element: alignment, then the window (R230, R232). The alignment rule is applied to the contiguous side too, which R230's words 'a gather or
scatter element address' leave open (DESIGN CHOICE, log entry 118). -/
def Xfer.elemFault (x : Xfer) (r : Resident) (fresh : Nat) (g : Gran) : Option FaultInfo :=
  let al := if x.esz = 512 then 64 else x.esz
  let bad := fun (a : Nat) (spad wr : Bool) =>
    let fl : BitVec 8 := if wr then 1 else 0
    if spad && !r.inWindow a 1 then some { faultInfo 0x04 (Config.freeStateUseDetail fresh) with va := BitVec.ofNat 64 a, flags := fl }
    else if a % al ≠ 0 then some { faultInfo 0x05 (BitVec.ofNat 64 x.esz) with va := BitVec.ofNat 64 a, flags := fl }
    else none
  if !x.indexed then none
  else (g.src.filter (fun q => (g.lo + q.1) % x.esz = 0)).findSome? (fun q =>
    match bad q.2.2 x.ss false with | some f => some f | none => bad (g.dst + q.1) x.ds true)

/-- Targets of units, or the fault or miss of the first that has none. -/
def State.targetsOf (s : State) (h : Nat) (a : Acc) : List (Nat × Nat × Nat) → Except (Nat × Trans) (List (Nat × Nat × Nat × Target))
  | [] => .ok []
  | p :: ps =>
    let w := Who.task h .c
    match s.translate w.tlb (s.asidOf w) (s.classOfWho w) p.1 a false with
    | .ok t _ =>
      if s.dirtyOk w.tlb (s.asidOf w) p.1 a then
        (match s.targetsOf h a ps with
         | .ok l => .ok ((p.1, p.2.1, p.2.2, t) :: l)
         | .error e => .error e)
      else .error (p.1, .miss)
    | e => .error (p.1, e)

/-- One access of a granule that spans pages of different kinds: both parts take the weaker kind (R283). -/
def weaker (l : List (Nat × Nat × Nat × Target)) : List (Nat × Nat × Nat × Target) :=
  let k := l.foldl (fun (k : BitVec 2) p => if k < p.2.2.2.kind then p.2.2.2.kind else k) 0
  l.map (fun p => (p.1, p.2.1, p.2.2.1, { p.2.2.2 with kind := k }))

/-- The accesses of the source runs of a granule. -/
def State.srcTargets (s : State) (h : Nat) (g : Gran) : List (Nat × Nat × Nat) → Except (Nat × Trans) (List (Nat × Nat × Nat × Target))
  | [] => .ok []
  | r :: rs =>
    match s.targetsOf h .load (srcUnits 1 g.dst (r.2.1 + 1) r.1 r.2.1 r.2.2), s.srcTargets h g rs with
    | .error e, _ => .error e
    | _, .error e => .error e
    | .ok l, .ok m => .ok (weaker l ++ m)

/-- The first range of a granule access that a watermark other than the transfer's own holds (R21, R231): global or not, address, length. -/
def State.xfHeld (s : State) (h : Nat) (x : Xfer) (g : Gran) : Option (Bool × Nat × Nat) :=
  let r := s.res h
  let at_ := fun (spad : Bool) (a n : Nat) => (!spad, a + (if spad then r.spBase else 0), n)
  let idx := if x.indexed then [at_ true (x.opb.toNat + 4 * (g.lo / x.esz)) (4 * ((g.lo + g.len - 1) / x.esz + 1 - g.lo / x.esz))] else []
  let src := if x.op = .fill then [] else g.src.map (fun q => at_ x.ss q.2.2 q.2.1)
  (idx ++ src ++ [at_ x.ds g.dst g.len]).find? (fun q => s.heldBy (hTile h) (!q.1) r.asid q.2.1 q.2.2 x.ch)

/-- A miss or a fault of a granule access: the walk starts, or the program parks (R232). -/
def State.xfStop (s : State) (h : Nat) (x : Xfer) (va : Nat) (a : Acc) : Trans → State
  | .bad f =>
    let w := Who.task h .c
    let s := s.touchFault w.tlb (s.asidOf w) va
    s.parkWith h .c .work (s.mkRecord h .c f x.iaddr)
  | _ => s.touchTlb (Who.task h .c).tlb (s.asidOf (.task h .c)) va a

/-- The units of a granule join the accesses in flight as loads, or as stores that wait for their data. -/
def State.pushUnits (s : State) (h : Nat) (x : Xfer) (g : Gran) (load : Bool) (l : List (Nat × Nat × Nat × Target)) : State :=
  let w := Who.task h .c
  l.foldl (fun s p =>
    let (va, n, off, t) := p
    let s := s.touchTlb w.tlb (s.asidOf w) va (if load then .load else .store)
    let a := if load then mkLoad w s t va n false 0 (.xfer (g.lo + off)) else { mkStore w s t va [] false 0 x.nt with n := n, dest := .xfer (g.lo + off) }
    s.pushGacc { a with iaddr := x.iaddr }) s

/-- Where a global byte stands: its address in this package, or beyond every such address. -/
def Target.place (t : Target) : Nat := if t.aper ≤ 1 then t.pa else (1024 * t.aper.toNat + t.peer.toNat) * 2 ^ 56 + t.pa

/-- The place of a byte of a granule. -/
def placeOf (l : List (Nat × Nat × Nat)) (off : Nat) : Nat :=
  match l.find? (fun r => r.1 ≤ off && decide (off < r.1 + r.2.1)) with
  | some r => r.2.2 + (off - r.1)
  | none => 0

/-- A byte as it stands before the transfer's writes; of another package or the host it is not known, and b stands for it. -/
def State.standing (s : State) (h : Nat) (spad : Bool) (place : Nat) (b : Byte) : Byte :=
  if spad then memByte (s.tile (hTile h)).spad place else if place < Config.hbmEnd then memByte s.mem place else b

/-- The elements of a granule in order, each read before it is written: a byte that an earlier element wrote reads as what stands
there, what stood there before, or what was written (R230). -/
def State.mixGo (s : State) (h : Nat) : List (Nat × Nat) → Xfer × Gran → Xfer × Gran
  | [], xg => xg
  | (off, n) :: es, (x, g) =>
    let bs := (List.range n).map (fun i =>
      let b := fget 0 g.got (off + i)
      if x.ss = x.ds then pickByte (s.fresh + off + i) b (x.others (placeOf g.places (off + i))) else b)
    let put := (List.range n).zip bs
    s.mixGo h es
      ({ x with wrote := x.wrote ++ put.map (fun ib => let p := placeOf g.into (off + ib.1); (p, [s.standing h x.ds p ib.2], [ib.2])) },
       { g with got := put.foldl (fun m ib => fput m (off + ib.1) ib.2) g.got })

/-- The granule's data as it may be when the transfer reads what it writes, and the record of what it writes (R230). -/
def State.mix (s : State) (h : Nat) (x : Xfer) (g : Gran) : State × Xfer × Gran :=
  if !x.mayMeet then (s, x, g) else ({ s with fresh := s.fresh + 64 }, s.mixGo h (g.src.map (fun r => (r.1, r.2.1))) (x, g))

/-- A granule of the transfer replaced. -/
def Xfer.putGran (x : Xfer) (g : Gran) : Xfer := { x with grans := x.grans.map (fun y => if y.lo = g.lo then g else y) }

def State.setXf (s : State) (h : Nat) (x : Xfer) : State := s.modRes h (fun r => { r with xf := some x })

/-- Bytes that a load of a granule brought. -/
def Xfer.arrive (x : Xfer) (p : Nat) (bs : List Byte) : Xfer :=
  { x with grans := x.grans.map (fun g =>
      if g.lo ≤ p ∧ p < g.lo + g.len then { g with got := ((List.range bs.length).zip bs).foldl (fun m ib => fput m (p - g.lo + ib.1) ib.2) g.got } else g) }

/-- The next unit of a granule read from the scratchpad or made from the fill pattern (R230, R275). -/
def State.granRead (s : State) (h : Nat) (x : Xfer) (g : Gran) : Option State :=
  if x.op = .fill then
    (if g.got = [] then some (s.setXf h (x.arrive g.lo ((List.range g.len).map (fun i => BitVec.ofNat 8 (x.opa >>> (8 * ((g.lo + i) % 8))).toNat)))) else none)
  else if !x.ss then none
  else match (g.src.flatMap (fun r => srcUnits 4 g.dst (r.2.1 + 1) r.1 r.2.1 r.2.2)).find? (fun u => !(fkeys g.got).contains u.2.2) with
    | some u => some (s.setXf h (x.arrive (g.lo + u.2.2) (s.spadRead h u.1 u.2.1)))
    | none => none

/-- The granule's data is whole: its stores get it. -/
def State.granReady (s : State) (h : Nat) (x : Xfer) (g : Gran) : State :=
  let (s, x, g) := s.mix h x g
  let g := { g with ready := true }
  let fill := fun (a : GAcc) => match a.dest with
    | .xfer p => if a.owner = .task h ∧ a.isStore = true ∧ a.data = [] ∧ g.lo ≤ p ∧ p < g.lo + g.len
        then { a with data := (List.range a.n).map (fun i => fget 0 g.got (p - g.lo + i)) } else a
    | _ => a
  { s.setXf h (x.putGran g) with gaccs := s.gaccs.map fill }

/-- A store of the granule has not committed. -/
def State.granStoring (s : State) (h : Nat) (g : Gran) : Bool :=
  s.gaccs.any (fun a => decide (a.owner = .task h) && a.isStore && (match a.dest with | .xfer p => decide (g.lo ≤ p) && decide (p < g.lo + g.len) | _ => false))

/-- The oldest granule is done: the bytes done, the progress point and the channel's WM move (R231, R232). WM does not move back where a part is repeated. -/
def State.granDone (s : State) (h : Nat) (x : Xfer) (g : Gran) : State :=
  let p := g.lo + g.len
  let s := s.setXf h { x with grans := x.grans.tail, pos := p, point := decide (x.unitsAt p ≠ x.unitsAt x.pos) }
  match x.ch with
  | some k =>
    let c := s.chan (hTile h) k
    s.setChan (hTile h) k { c with wm := BitVec.ofNat 56 (max c.wm.toNat ((x.extent (s.res h)).1 + p)) }
  | none => s

/-- What a granule under way does next, if it can do anything: read, get its data together, write its next scratchpad unit, end. Only the oldest writes
the scratchpad or ends: a transfer writes in increasing order (R231). -/
def State.granStep (s : State) (h : Nat) (x : Xfer) (g : Gran) (oldest : Bool) : Option State :=
  if g.ready then
    if !oldest then none
    else if x.ds then
      if g.len ≤ g.put then some (s.granDone h x g)
      else
        let k := g.dstUnit 4 g.put
        some ((s.spadWrite h (g.dst + g.put) ((List.range k).map (fun i => fget 0 g.got (g.put + i)))).setXf h (x.putGran { g with put := g.put + k }))
    else if s.granStoring h g then none else some (s.granDone h x g)
  else if g.got.length = g.len then some (s.granReady h x g)
  else s.granRead h x g

/-- The transfer must stop at its next progress point: a pre-emption, or the end of its block (R32, R47, R312). -/
def Resident.xfStops (r : Resident) : Bool := r.preempt || r.c.bnd || decide (256 ≤ r.c.blk)

/-- The next granule access begins. A held one blocks as a wait, once the granules before it are done (R21); so does a fault wait for them. -/
def State.granStart (s : State) (h : Nat) (x : Xfer) : State :=
  let r := s.res h
  if x.total ≤ x.next ∨ (r.xfStops = true ∧ x.unitsAt x.next ≠ x.unitsAt x.pos) then s
  else
    let g := x.gran (s.xfIndex h x) x.next
    let first := decide (x.grans = [])
    match s.xfHeld h x g with
    | some (glob, a, n) =>
      if first then (s.modPrg h .c (fun p => { p with wait := some (.held glob a n x.ch), since := s.stamp })).endBlock h .c else s
    | none =>
      match x.elemFault r s.fresh g with
      | some f => if first then (s.fresh1).parkWith h .c .work (s.mkRecord h .c f x.iaddr) else s
      | none =>
        let stop := fun (va : Nat) (a : Acc) (e : Trans) => match e with
          | .bad _ => if first then s.xfStop h x va a e else s
          | _ => s.xfStop h x va a e
        let src := if x.ss || decide (x.op = .fill) then .ok [] else s.srcTargets h g g.src
        let dst := if x.ds then .ok [] else s.targetsOf h .store (g.dstUnits 1 (g.len + 1) 0)
        match src, dst with
        | .error (va, e), _ => stop va .load e
        | _, .error (va, e) => stop va .store e
        | .ok l, .ok m =>
          if !s.storeRoom (.task h) (m.map (·.2.2.2)) then s
          else
          let at_ := fun (p : Nat × Nat × Nat × Target) => (p.2.2.1, p.2.1, p.2.2.2.place)
          let g := { g with places := if x.ss then g.src.map (fun q => (q.1, q.2.1, r.spBase + q.2.2)) else l.map at_,
                            into := if x.ds then [(0, g.len, r.spBase + g.dst)] else m.map at_ }
          let s := if x.indexed then { s with fresh := s.fresh + 256 } else s
          ((s.pushUnits h x g true l).pushUnits h x g false m).setXf h { x with grans := x.grans ++ [g], next := x.next + g.len }

/-- The copy transfer in execution on a tile. -/
def State.xfOf (s : State) (t : Nat) : Option (Nat × Xfer) :=
  match s.cur t .c with
  | some r =>
    let h := mkHandle t r
    (match (s.res h).xf with
     | some x => if x.stopped then none else some (h, x)
     | none => none)
  | none => none

/-- The first step that a granule under way can take. -/
def State.granAny (s : State) (h : Nat) (x : Xfer) : Bool → List Gran → Option State
  | _, [] => none
  | oldest, g :: gs => match s.granStep h x g oldest with | some s' => some s' | none => s.granAny h x false gs

/-- The work of a transfer between progress points, one action at a time: the oldest granule access that can go on does; else the next one begins
(R232, R233, R283). -/
def State.copyProgress (s : State) (t : Nat) : State :=
  match s.xfOf t with
  | none => s
  | some (h, x) => if x.done then s else (s.granAny h x true x.grans).getD (s.granStart h x)

/-- A pre-empted resident stops at a progress point (R312). -/
def State.preemptStop (s : State) (t : Nat) (e : Eng) : State :=
  match s.cur t e with
  | some r =>
    let x := s.res (mkHandle t r)
    let mid := match e, x.xf with | .c, some y => !y.atPoint | _, _ => false
    if x.preempt && !mid then s.endBlock (mkHandle t r) e else s
  | none => s

/-- PROGRESS_POINT_REACHED (R197, R232). -/
def execProgressPointReached (t : Tid) (e : Eng) (s : State) : Out :=
  match e with
  | .m => .next ((s.matProgress t.toNat).preemptStop t.toNat .m)
  | .c => .next (((s.preemptStop t.toNat .c).copyProgress t.toNat).preemptStop t.toNat .c)
  | _ => .next s

/-- TRANSFER_COMPLETE (R232): every unit done, CPROG reads 0 and the channel is no longer being filled. -/
def execTransferComplete (t : Tid) (s : State) : Out :=
  match s.xfOf t.toNat with
  | none => .next s
  | some (h, x) =>
    if !x.done then .next s
    else
      let s := s.modRes h (fun r => { r with xf := none, cprog := [] })
      .next (match x.ch with
        | some k => s.setChan t.toNat k { s.chan t.toNat k with filling := false }
        | none => s)

/-! ## Local instructions -/

/-- A c-register result (R235). -/
def calu (d a b : BitVec 5) (f : Word → Word → Word) (s : State) : Out :=
  onCopy s (fun h => .next (localResult (.task h .c) d.toNat (f (s.creg h a) (s.creg h b)) s))

/-- CADD (R235). -/
def execCadd (d a b : BitVec 5) (s : State) : Out := calu d a b (fun x y => x + y) s
/-- CSUB (R235). -/
def execCsub (d a b : BitVec 5) (s : State) : Out := calu d a b (fun x y => x - y) s
/-- CAND (R235). -/
def execCand (d a b : BitVec 5) (s : State) : Out := calu d a b (fun x y => x &&& y) s
/-- COR (R235). -/
def execCor (d a b : BitVec 5) (s : State) : Out := calu d a b (fun x y => x ||| y) s
/-- CXOR (R235). -/
def execCxor (d a b : BitVec 5) (s : State) : Out := calu d a b (fun x y => x ^^^ y) s
/-- CSHL (R235). -/
def execCshl (d a b : BitVec 5) (s : State) : Out := calu d a b (fun x y => x <<< (y.toNat % 64)) s
/-- CSHR (R235). -/
def execCshr (d a b : BitVec 5) (s : State) : Out := calu d a b (fun x y => x >>> (y.toNat % 64)) s
/-- CSRA (R235). -/
def execCsra (d a b : BitVec 5) (s : State) : Out := calu d a b (fun x y => x.sshiftRight (y.toNat % 64)) s
/-- CMUL (R235). -/
def execCmul (d a b : BitVec 5) (s : State) : Out := calu d a b (fun x y => x * y) s
/-- CMIN (R235), signed. -/
def execCmin (d a b : BitVec 5) (s : State) : Out := calu d a b (fun x y => if x.slt y then x else y) s
/-- CMAX (R235), signed. -/
def execCmax (d a b : BitVec 5) (s : State) : Out := calu d a b (fun x y => if x.slt y then y else x) s
/-- CMINU (R235). -/
def execCminu (d a b : BitVec 5) (s : State) : Out := calu d a b (fun x y => if x.ult y then x else y) s
/-- CMAXU (R235). -/
def execCmaxu (d a b : BitVec 5) (s : State) : Out := calu d a b (fun x y => if x.ult y then y else x) s

/-- CADDI (R236). -/
def execCaddi (d a : BitVec 5) (i : BitVec 12) (s : State) : Out :=
  onCopy s (fun h => .next (localResult (.task h .c) d.toNat (s.creg h a + sx i) s))

/-- CSETH (R236). -/
def execCseth (d a : BitVec 5) (i : BitVec 12) (s : State) : Out :=
  onCopy s (fun h => .next (localResult (.task h .c) d.toNat ((s.creg h a <<< 12) ||| i.setWidth 64) s))

/-- CLDS (R236): 8 scratchpad bytes. -/
def execClds (d a : BitVec 5) (i : BitVec 12) (s : State) : Out :=
  onCopy s (fun h =>
    let w := Who.task h .c
    let r := s.res h
    let x := s.creg h a + 8 * sx i
    if !r.inWindow x.toNat 1 then .next (s.stateUse w)
    else if x.toNat % 8 ≠ 0 then .next (s.alignFault w 8 x)
    else heldOp w false (r.spBase + x.toNat) 8 s (fun s' =>
      .next (localResult w d.toNat (BitVec.ofNat 64 (s'.spadNat h x.toNat 8)) s')))

/-- CLDG (R236): 8 global bytes, when the load completes. -/
def execCldg (d a : BitVec 5) (i : BitVec 12) (s : State) : Out :=
  onCopy s (fun h =>
    let w := Who.task h .c
    let x := s.creg h a + 8 * sx i
    if x.toNat % 8 ≠ 0 then .next (s.alignFault w 8 x)
    else heldOp w true x.toNat 8 s (fun s' => withTarget w x.toNat .load false .instr s' (fun t _ s'' =>
      .next ((s''.pushGacc (mkLoad w s'' t x.toNat 8 false 0 (.creg d.toNat))).advance w))))

/-- CBR (R237, R89). -/
def execCbr (c : BitVec 3) (k : BitVec 5) (o : BitVec 18) (s : State) : Out :=
  onCopy s (fun h =>
    let w := Who.task h .c
    let x := if c = 5 then s.creg h k - 1 else s.creg h k
    let pc := (s.res h).c.pc
    let t := if condHolds c x then branchTarget pc o else pc + 4
    let s := if c = 5 then s.setLreg w k.toNat x else s
    .next (((s.advance w).modPrg h .c (fun p => { p with pc := t })).afterTransfer w))

/-- COPY_END (R37, R227, R237): it holds until the transfer has completed and its stores have committed. -/
def execCopyEnd (s : State) : Out :=
  onCopy s (fun h =>
    if s.pathBusy (.task h) 3 then .next s
    else .next ((s.modRes h (fun r => r.setEst .c 3)).endBlock h .c))

end Sys2Proof.Machine
end

