-- ==== Sys2Proof/Machine/Registers.lean ====
section
/-!
DEFINITION. Firmament configuration space (R3, R320): what its registers read as, and what a write does to each (R324, R329,
R385, R389 to R391, R396, R398, R400, R402, R404). A register write acts on 64-bit words, by the bytes that are written.
-/

namespace Sys2Proof.Machine

open Sys2Proof

/-! ## Reads -/

/-- PORTCTL of a port (R389): the spare port, this package's member number, always reads STATE 0. -/
def State.portctl (s : State) (p : Nat) : Word :=
  if p = pkgMember s.pkgId then 0
  else
    let x := s.port p
    (x.peerPkg.setWidth 64 <<< 32) ||| (x.peerInc.setWidth 64 <<< 16) ||| (x.state.setWidth 64 <<< 8)

/-- The logical lane that a physical lane carries: each lane of the spare port is unused at reset, every other carries the
logical lane of its own number (R380, R381, R390). -/
def State.laneOf (s : State) (p : Nat) : Option Nat :=
  fget (if p / 64 = pkgMember s.pkgId then none else some p) s.lanes p

/-- Byte b of a telemetry record (R391). -/
def LaneRec.byte (r : LaneRec) (b : Nat) : Byte :=
  (((r.latch ++ r.mapgen ++ r.logical ++ r.counters : BitVec 128) >>> (8 * b)).setWidth 8)

/-- A register of the offset table that holds one 64-bit word. -/
def State.cfgWord (s : State) (off : Nat) : Word :=
  let idx := fun (base stride n : Nat) =>
    if base ≤ off && decide (off < base + stride * n) && decide ((off - base) % stride = 0) then some ((off - base) / stride) else none
  match idx 0x1000 0x40 4 with
  | some d => (fget (0 : BitVec 4) s.diectl d).setWidth 64 <<< 4
  | none =>
  match idx 0x2000 0x40 4 with
  | some q => (fget (0 : BitVec 16) s.llcpin q).setWidth 64
  | none =>
  match idx 0x3000 0x40 4 with
  | some d => (fget (20 : BitVec 5) s.dvfs d).setWidth 64
  | none =>
  match idx 0x8000 0x40 64 with
  | some p => s.portctl p
  | none =>
    match off with
    | 0x3100 => s.pcap.setWidth 64
    | 0x3200 => s.stamp
    | 0x9000 => (s.lremap &&& 0xFFF0FFF0000#64) ||| s.mapgen.setWidth 64
    | 0xC000 => s.crbase
    | 0xC008 => s.crsize
    | 0xC010 => s.crhead
    | 0xC018 => s.crtail
    | _ =>
      if 0x100000 ≤ off && decide (off < 0x122000) then
        let c := fget Counter.start s.counters (off / 16 * 16)
        if off % 16 = 0 then c.ctl else c.value
      else 0

/-- One byte of configuration space. -/
def State.cfgByte (s : State) (off : Nat) : Byte :=
  if 0x4000 ≤ off && decide (off < 0x4200) then fget (0 : Byte) (s.svc ((off - 0x4000) / 64)).mailbox (off % 64)
  else if 0xA000 ≤ off && decide (off < 0xA400) then
    let e := (off - 0xA000) % 32 / 2
    if e < 9 then ((s.route ((off - 0xA000) / 32) e) >>> (8 * (off % 2))).setWidth 8 else 0
  else if 0x10000 ≤ off && decide (off < 0x20000) then
    (fget LaneRec.start s.telemetry ((off - 0x10000) / 16)).byte (off % 16)
  else if 0x200000 ≤ off && decide (off < 0x200000 + 32 * 87) then
    ((fget rightsStart s.rights ((off - 0x200000) / 32)) >>> (8 * ((off - 0x200000) % 32))).setWidth 8
  else (s.cfgWord (off / 8 * 8) >>> (8 * (off % 8))).setWidth 8

/-- n bytes of configuration space. -/
def State.cfgRead (s : State) (off n : Nat) : List Byte := (List.range n).map (fun i => s.cfgByte (off + i))

/-! ## Writes of one register -/

/-- LLCPIN (R324): values above 512 store 512. -/
def llcpinValue (v : Word) : BitVec 16 := if 512 < (v &&& 0xFFFF#64).toNat then 512 else v.setWidth 16
def State.writeLlcpin (s : State) (q : Nat) (v : Word) : State := { s with llcpin := fput s.llcpin q (llcpinValue v) }

/-- DVFS (R402): a write is clamped to 12 to 22. -/
def dvfsValue (v : Word) : BitVec 5 :=
  let x := (v &&& 0x1F#64).toNat
  if x < 12 then 12 else if 22 < x then 22 else BitVec.ofNat 5 x
def State.writeDvfs (s : State) (d : Nat) (v : Word) : State := { s with dvfs := fput s.dvfs d (dvfsValue v) }

/-- PCAP (R402): 1,000 to 3,200 W; what a write of another number stores is not stated and is a free value in that range. -/
def State.writePcap (s : State) (v : Word) : State :=
  let x := (v &&& 0xFFF#64).toNat
  if within x 1000 3200 then { s with pcap := BitVec.ofNat 12 x }
  else { s.fresh1 with pcap := BitVec.ofNat 12 (1000 + (Config.freeWord s.fresh).toNat % 2201) }

/-- PORTCTL (R389): PREP drains an up port; ENABLE trains a down or drained one; both bits set, any other state and the
spare port ignore the write. -/
def State.writePortctl (s : State) (p : Nat) (v : Word) : State :=
  let x := s.port p
  if p = pkgMember s.pkgId ∨ (v.getLsbD 0 ∧ v.getLsbD 1) then s
  else if v.getLsbD 0 ∧ x.state = 2 then s.setPort p { x with state := 3, since := s.stamp }
  else if v.getLsbD 1 ∧ (x.state = 0 ∨ x.state = 4) then s.setPort p { x with state := 1, since := s.stamp }
  else s

/-- LREMAP (R390): logical lane LOG moves to the unused spare lane PHYS; the lane that carried it is unused; MAPGEN rises. -/
def State.writeLremap (s : State) (v : Word) : State :=
  let phys := (v.extractLsb' 32 12).toNat
  let lg := (v.extractLsb' 16 12).toNat
  if phys / 64 ≠ pkgMember s.pkgId ∨ s.laneOf phys ≠ none then s
  else
    let ls := match (List.range 4096).find? (fun p => decide (s.laneOf p = some lg)) with
      | some p => fput s.lanes p none
      | none => s.lanes
    { s with lanes := fput ls phys (some lg), lremap := v &&& 0xFFF0FFF0000#64, mapgen := s.mapgen + 1 }

/-- The corrected symbols that a lane has counted at the next latch: how many it corrects between two latches is the optics' own, a free value. -/
def State.laneSymsNow (s : State) (i : Nat) : BitVec 32 := fget (0 : BitVec 32) s.laneSyms i + (Config.freeLane (s.fresh + i)).setWidth 32

/-- The counters of a lane as a latch takes them (R391): corrected symbols, uncorrectable codewords, and the received power, which is the optics' own and a free
value. -/
def State.laneRecord (s : State) (i : Nat) : BitVec 64 :=
  (Config.freeLane (s.fresh + i)).extractLsb' 48 16 ++ fget (0 : BitVec 16) s.laneCounters i ++ s.laneSymsNow i

/-- TLATCH (R391): every lane's counters at one instant, with one MAPGEN and the latch count. -/
def State.writeTlatch (s : State) : State :=
  let n := s.latches + 1
  { s with latches := n, fresh := s.fresh + 4096, laneSyms := (List.range 4096).map (fun i => (i, s.laneSymsNow i)), telemetry := (List.range 4096).map (fun i =>
      (i, { counters := s.laneRecord i,
            logical := match s.laneOf i with | some l => BitVec.ofNat 16 l | none => 0xFFFF#16,
            mapgen := s.mapgen, latch := n })) }

/-- One 16-bit route entry (R385): reserved bits are ignored; IG is reserved in entry 0. -/
def routeValue (e : Nat) (v : BitVec 16) : BitVec 16 := v &&& (if e = 0 then 0x803F#16 else 0xFC3F#16)

/-- CRSIZE (R400): a power of two from 64 to 4,096; what another value stores is not stated and is a free value among them. -/
def State.writeCr (s : State) (size : Bool) (v : Word) : State :=
  let s := { s with crhead := 0, crtail := 0 }
  if size then
    if [64, 128, 256, 512, 1024, 2048, 4096].contains v.toNat then { s with crsize := v }
    else { s.fresh1 with crsize := (64 : Word) <<< ((Config.freeWord s.fresh).toNat % 7) }
  else { s with crbase := v &&& 0xFFFFFFFFFF000#64 }

/-- The source codes of a counter's group (R404). -/
def counterSrcOk (off src : Nat) : Bool :=
  if off < 0x120000 then within src 1 8
  else if off < 0x121000 then within src 0x20 0x25
  else within src 0x40 0x43

/-- A write of CTL or VALUE of an event counter (R404). -/
def State.writeCounter (s : State) (off : Nat) (v : Word) : State :=
  let k := off / 16 * 16
  let c := fget Counter.start s.counters k
  let c := if off % 16 = 0 then
      let src := (v >>> 8).toNat % 256
      { c with ctl := (v &&& 1) ||| (if counterSrcOk k src then v &&& 0xFF00#64 else 0) }
    else { c with value := v }
  { s with counters := fput s.counters k c }

/-- Bytes written into a call mailbox (R396): the status and the reserved bytes take no write; 1 in byte 48 starts the
call unless one is under way; a code that names no call is a bad argument. -/
def SvCore.writeMailbox (x : SvCore) (b : Nat) (v : Byte) : SvCore :=
  if b < 40 then { x with mailbox := fset (0 : Byte) x.mailbox b v }
  else if b = 48 ∧ v = 1 ∧ fget (0 : Byte) x.mailbox 40 ≠ 0xFF then
    let code := (fget (0 : Byte) x.mailbox 0).toNat
    { x with mailbox := fset (0 : Byte) x.mailbox 40 (if within code 1 8 then 0xFF else 2) }
  else x

/-! ## Writes of bytes -/

/-- A write of a byte outside the 64-bit registers: mailboxes, route records, access tables. -/
def State.cfgSetByte (s : State) (off : Nat) (b : Byte) : State :=
  if 0x4000 ≤ off ∧ off < 0x4200 then s.modSvc ((off - 0x4000) / 64) (fun x => x.writeMailbox (off % 64) b)
  else if 0xA000 ≤ off ∧ off < 0xA400 then
    let e := (off - 0xA000) % 32 / 2
    if 9 ≤ e then s
    else
      let g := (off - 0xA000) / 32
      let sh := 8 * (off % 2)
      let v := ((s.route g e) &&& ~~~((0xFF : BitVec 16) <<< sh)) ||| (b.setWidth 16 <<< sh)
      { s with routes := fput s.routes (9 * g + e) (routeValue e v) }
  else if 0x200000 ≤ off ∧ off < 0x200000 + 32 * 87 then
    let t := (off - 0x200000) / 32
    let sh := 8 * ((off - 0x200000) % 32)
    let v := (fget rightsStart s.rights t &&& ~~~((0xFF : BitVec 256) <<< sh)) ||| (b.setWidth 256 <<< sh)
    { s with rights := fput s.rights t v }
  else s

/-- A write of a 64-bit register: new is the written bytes over the old value, v the written bytes alone. -/
def State.cfgSetWord (s : State) (off : Nat) (new v : Word) : State :=
  if 0x2000 ≤ off ∧ off < 0x2100 ∧ off % 0x40 = 0 then s.writeLlcpin ((off - 0x2000) / 0x40) new
  else if 0x3000 ≤ off ∧ off < 0x3100 ∧ off % 0x40 = 0 then s.writeDvfs ((off - 0x3000) / 0x40) new
  else if 0x8000 ≤ off ∧ off < 0x9000 ∧ off % 0x40 = 0 then s.writePortctl ((off - 0x8000) / 0x40) v
  else if counterExists off then s.writeCounter off new
  else match off with
    | 0x3100 => s.writePcap new
    | 0x9000 => s.writeLremap new
    | 0x9008 => s.writeTlatch
    | 0xC000 => s.writeCr false new
    | 0xC008 => s.writeCr true new
    | 0xC018 => { s with crtail := new }
    | _ => s

/-- The regions whose bytes stand by themselves. -/
def byteRegion (off : Nat) : Bool :=
  (decide (0x4000 ≤ off) && decide (off < 0x4200)) || (decide (0xA000 ≤ off) && decide (off < 0xA400)) ||
  (decide (0x200000 ≤ off) && decide (off < 0x200000 + 32 * 87))

/-- The bytes of a write that fall into the word at off: mask and value. -/
def wordPart (a : Nat) (bs : List Byte) (off : Nat) : Word × Word :=
  (List.range 8).foldl (fun (acc : Word × Word) i =>
    if a ≤ off + i ∧ off + i < a + bs.length then
      (acc.1 ||| ((0xFF : Word) <<< (8 * i)), acc.2 ||| ((bs.getD (off + i - a) 0).setWidth 64 <<< (8 * i)))
    else acc) (0, 0)

/-- A write of bytes to configuration space by a master class that passed the access table (R3, R398). -/
def State.cfgWrite (s : State) (cls off : Nat) (bs : List Byte) : State :=
  if !cfgWriter cls off then s
  else if byteRegion off then
    ((List.range bs.length).zip bs).foldl (fun s ib => s.cfgSetByte (off + ib.1) ib.2) s
  else
    ((List.range (bs.length / 8 + 2)).map (fun k => off / 8 * 8 + 8 * k)).foldl (fun s a =>
      let (m, v) := wordPart off bs a
      if m = 0 then s else s.cfgSetWord a ((s.cfgWord a &&& ~~~m) ||| v) v) s

end Sys2Proof.Machine
end

