-- ==== Sys2Proof/Machine/Events.lean ====
section
/-!
DEFINITION. Event objects (R331, R333, R334): updates, armed dependants that fire or fail, and what a failing dependant
does to its node (R338); updates on their way to an event of this or another package (R335); EVENT_UPDATE.
-/

namespace Sys2Proof.Machine

open Sys2Proof

def State.eventObj (s : State) (k : Nat) : EventObj := fget EventObj.start s.events k
def State.setEvent (s : State) (k : Nat) (e : EventObj) : State := { s with events := fput s.events k e }

/-- An update of the event a handle names is sent: to this package's object, or to its package (R335). Signals of the
Orrery, of supervisor cores and of the host carry no serial. -/
def State.postEvent (s : State) (hd : Word) (op : ROp) (keep : Bool) : State :=
  if hd = 0 then s
  else if hdlPkg hd = s.pkgId then
    if s.eventLive hd then { s with updates := s.updates ++ [{ idx := hdlIdx hd, gen := hdlGen hd, op := op, keep := keep }] } else s
  else s.sendPacket (hdlPkg hd) (.request
    { s.reqOf (.orr 0) (hdlPkg hd) 4 (2 ^ 60 + hdlIdx hd) op (hd.setWidth 128) (if keep then 1 else 0) none 0 with id := 0, ct := none })

/-- The status word after a signal (R334): STATE rises to the signal's state, and CAUSE is written when it rises. -/
def raiseStatus (old : Word) (st : BitVec 2) (cause : BitVec 56) : Word :=
  if (old.extractLsb' 0 2).toNat < st.toNat then cause ++ (0 : BitVec 6) ++ st else old

/-! ## Nodes of a running instance -/

/-- The running instance of a graph (R339: at most one). -/
def State.runOf (s : State) (g : Nat) : Option RunInst := s.running.find? (fun r => r.inst.graph == g)
def State.modRun (s : State) (g : Nat) (f : RunInst → RunInst) : State :=
  { s with running := s.running.map (fun r => if r.inst.graph = g then f r else r) }
def RunInst.node (r : RunInst) (n : Nat) : NodeRun := fget NodeRun.start r.nodes n
def State.modNode (s : State) (g n : Nat) (f : NodeRun → NodeRun) : State :=
  s.modRun g (fun r => { r with nodes := fput r.nodes n (f (r.node n)) })

/-- A node of a registered graph. -/
def State.gnode (s : State) (g n : Nat) : Option GNode := (s.graph g).nodes[n]?

/-- The remaining dependants of a node are disarmed, and those still to be armed on events of other packages given up. -/
def State.disarm (s : State) (g n : Nat) : State :=
  let keep := fun (d : Dependant) => !(decide (d.graph = g) && decide (d.node = n))
  { s with events := s.events.map (fun ke => (ke.1, { ke.2 with deps := ke.2.deps.filter keep })),
           peerDeps := s.peerDeps.filter (fun p => keep p.2),
           routs := s.routs.filter (fun o => !(decide (o.owner = .orr (4096 * g + n)) && (match o.dest with | .eventInfo _ => true | _ => false))) }

/-- A node fails (R338): it does not run, its DONE event takes the cancel form with its count unchanged, the instance is
marked cancelled. -/
def State.failNode (s : State) (g n : Nat) : State :=
  match s.runOf g with
  | none => s
  | some r =>
    let st := (r.node n).st
    if st = .failed ∨ st = .done then s
    else
      let s := (s.disarm g n).modRun g (fun r => { r with cancelled := true, nodes := fput r.nodes n { r.node n with st := .failed } })
      match s.gnode g n with
      | some x => s.postEvent x.done (.evSet 0 true) true
      | none => s

/-- DEPENDANT_FIRE (R333): the in-edge has fired. -/
def State.fireDep (s : State) (d : Dependant) : State :=
  s.modNode d.graph d.node (fun x => { x with fired := x.fired ||| ((1 : BitVec 4) <<< d.edge) })

/-- Every armed dependant is evaluated against a count (R333): those that reach their threshold fire and are disarmed. -/
def evalDeps (count : Word) (ds : List Dependant) : List Dependant × List Dependant :=
  (ds.filter (fun d => decide ((count - d.base).toNat < d.threshold.toNat)),
   ds.filter (fun d => !decide ((count - d.base).toNat < d.threshold.toNat)))

/-- R334: an update is applied to an event object, and its dependants evaluated. -/
def State.applyUpdate (s : State) (k : Nat) (op : ROp) (keep : Bool) : State :=
  let e := s.eventObj k
  if !e.live then s
  else match op with
    | .evSignal n st cause =>
      let c := e.count + n
      let (left, fired) := evalDeps c e.deps
      fired.foldl State.fireDep (s.setEvent k { e with count := c, status := raiseStatus e.status st cause, deps := left })
    | .evSet v false =>
      let (left, fired) := evalDeps v (e.deps.map (fun d => { d with base := 0 }))
      fired.foldl State.fireDep (s.setEvent k { e with count := v, status := 0, deps := left })
    | .evSet v true =>
      let c := if keep then e.count else v
      e.deps.foldl (fun s d => s.failNode d.graph d.node) (s.setEvent k { e with count := c, status := 3, deps := [] })
    | _ => s

/-- EVENT_UPDATE (R334): the k-th update on its way reaches its event object; one for an event destroyed meanwhile finds none (R331). -/
def execEventUpdate (k : Nat) (s : State) : Out :=
  match s.updates[k]? with
  | none => .next s
  | some u =>
    let s := { s with updates := s.updates.eraseIdx k }
    if (s.eventObj u.idx).gen = u.gen then .next (s.applyUpdate u.idx u.op u.keep) else .next s

/-- Dependants on another package's event are evaluated against a count that it sent. A count older than the arming, which lies below base, fires none (DEDUCED,
log entry 54: fewer than 2^63 signals fall between arming and firing, R333). -/
def evalPeer (count : Word) (ds : List Dependant) : List Dependant × List Dependant :=
  let fires := fun (d : Dependant) => decide (d.threshold.toNat ≤ (count - d.base).toNat) && decide ((count - d.base).toNat < 2 ^ 63)
  (ds.filter (fun d => !fires d), ds.filter fires)

/-- A new count of another package's event has come over the fabric, its reset, or its cancel: what this package sees of it, and its
dependants here (R333, R334). -/
def State.peerCount (s : State) (hd count status : Word) (set cancel : Bool) : State :=
  let mine := (s.peerDeps.filter (fun p => p.1 == hd)).map (·.2)
  let (left, fired) := if cancel then ([], [])
    else if set then evalDeps count (mine.map (fun d => { d with base := 0 })) else evalPeer count mine
  let s := { s.seePeer hd count status with
    peerDeps := s.peerDeps.filter (fun p => p.1 != hd) ++ left.map (fun d => (hd, d)) }
  if cancel then mine.foldl (fun s d => s.failNode d.graph d.node) s else fired.foldl State.fireDep s

/-- The answer of another package to the arming of a node's in-edges on its event (R333, R338): they arm with base the count there, or the node fails. -/
def State.armPeer (s : State) (k : Nat) (hd : Word) (answer : Option (BitVec 128)) : State :=
  let g := k / 4096
  let n := k % 4096
  match answer, s.gnode g n with
  | some a, some x =>
    let c : Word := a.setWidth 64
    let es := (List.range x.nin).filter (fun e => (x.edges.getD e (0, 0)).1 == hd)
    { s.seePeer hd c ((a >>> 64).setWidth 64) with
      peerDeps := s.peerDeps ++ es.map (fun e => (hd, { graph := g, node := n, edge := e, threshold := (x.edges.getD e (0, 0)).2, base := c })) }
  | _, _ => s.failNode g n

end Sys2Proof.Machine
end

