-- ==== Sys2Proof/Machine/Owner.lean ====
section
/-!
DEFINITION. The owner side of remote operations: home slices (R321, R352), commits at a home (R276, R323, R325), the fixed
handlers (R258), the Afterglow cache and floor records (R352 to R358), REMOTE_REQUEST (R354), ACKNOWLEDGEMENT and RETIRE_ALL, and
the handler words of the near-memory engines (R259 to R262).
-/

namespace Sys2Proof.Machine

open Sys2Proof

/-! ## Homes -/

/-- The slice that holds an event object (R352). -/
def eventSlice (k : Nat) : Nat := 16 * (k / 16 % 4) + k % 16
/-- The slice that holds a task's floor record (R353). -/
def floorSlice (asid : BitVec 14) (tn : BitVec 20) : Nat := 16 * (tn.toNat % 4) + (asid.toNat + tn.toNat) % 16

/-- Bytes at a physical address of this package: memory or configuration space (R320). -/
def State.physRead (s : State) (pa n : Nat) : List Byte :=
  if Config.cfgBase ≤ pa then s.cfgRead (pa - Config.cfgBase) n else memRead s.mem pa n

/-- Poison goes from the lines that a store wrote whole (R325). -/
def State.unpoison (s : State) (pa n : Nat) : State :=
  { s with poison := s.poison.filter (fun l => !(decide (pa ≤ 64 * l) && decide (64 * l + 64 ≤ pa + n))) }

/-- Bytes commit at their home (R276, R277, R323): memory takes them, cached copies are invalidated, a line wholly written is
no longer poisoned; a register of configuration space is written. -/
def State.commit (s : State) (cls pa : Nat) (bs : List Byte) : State :=
  if Config.cfgBase ≤ pa then s.cfgWrite cls (pa - Config.cfgBase) bs
  else if bs = [] then s
  else ({ s with mem := memWrite s.mem pa bs } : State).invalidate pa bs.length |>.unpoison pa bs.length

/-- A fill sets the die's presence bit (R323). -/
def State.filled (s : State) (die : Option Nat) (pa : Nat) : State :=
  match die with
  | some d =>
    let bits := fget (0 : BitVec 4) s.directory (pa / 64) ||| ((1 : BitVec 4) <<< d)
    if pa < Config.hbmEnd then { s with directory := fset (0 : BitVec 4) s.directory (pa / 64) bits } else s
  | none => s

/-- A handler run whose window touches the bytes is under way: accesses wait for it (R255, R260). -/
def State.windowBusy (s : State) (pa n : Nat) : Bool :=
  s.hruns.any (fun kr => match kr.2 with
    | some r => decide (4096 * r.window < pa + n) && decide (pa < 4096 * r.window + 4096)
    | none => false)

/-! ## Fixed handlers (R257, R258) -/

def sInt (w x : Nat) : Int := (BitVec.ofNat (8 * w) x).toInt

/-- New value and returned value of handlers 0 to 23 for an old value m (R258). -/
def fixedHandler (h w m op0 op1 : Nat) : Nat × Nat :=
  let fit := fun (x : Nat) => x % 2 ^ (8 * w)
  let a := fit op0
  let b := fit op1
  let smin := if sInt w a < sInt w m then a else m
  let smax := if sInt w m < sInt w a then a else m
  match h with
  | 0 | 1 => (fit (m + a), m)
  | 2 | 4 => (smin, m)
  | 3 | 5 => (smax, m)
  | 6 => ((fAdd .fp32 (roundOf 0) m a).1, m)
  | 7 => ((fAdd .fp64 (roundOf 0) m a).1, m)
  | 8 => (fMin .fp32 m a, m)
  | 9 => (fMax .fp32 m a, m)
  | 10 => (fMin .fp64 m a, m)
  | 11 => (fMax .fp64 m a, m)
  | 12 => (Nat.land m a, m)
  | 13 => (Nat.lor m a, m)
  | 14 => (Nat.xor m a, m)
  | 15 | 16 => (a, m)
  | 17 | 18 | 19 => (if m = b then a else m, m)
  | 20 => ((fAdd .fp32 (roundOf 0) m a).1, 0)
  | 21 => (if m < a then fit (m + 1) else m, m)
  | 22 => (if m ≠ 0 then m - 1 else m, m)
  | _ => (m, m)

/-! ## The Afterglow cache and floors (R352 to R358) -/

def State.agEntries (s : State) (sl : Nat) : List AgEntry := fget [] s.afterglow sl
def State.setAg (s : State) (sl : Nat) (l : List AgEntry) : State := { s with afterglow := fput s.afterglow sl l }

def AgEntry.matches (e : AgEntry) (pkg : BitVec 10) (g : Serial) : Bool := decide (e.pkg = pkg) && decide (e.serial = g)

/-- The entry of a request at a slice. -/
def State.agFind (s : State) (sl : Nat) (pkg : BitVec 10) (g : Serial) : Option AgEntry :=
  (s.agEntries sl).find? (fun e => e.matches pkg g)

/-- Room for an entry: a free one of the slice's 4,096, or the retirable one that was retired longest ago (R354). -/
def agRoom (l : List AgEntry) : Option (List AgEntry) :=
  if l.length < 4096 then some l
  else match l.findIdx? (·.retirable) with
    | some i => some (l.eraseIdx i)
    | none => none

/-- A task named at an owner. -/
def serialIsTask (g : Serial) (asid : BitVec 14) (ni : BitVec 24) (tn : BitVec 20) : Bool :=
  decide (g.asid = asid) && decide (g.nodeInst = ni) && decide (g.taskNum = tn)

def FloorRec.isTask (f : FloorRec) (pkg : BitVec 10) (asid : BitVec 14) (ni : BitVec 24) (tn : BitVec 20) : Bool :=
  decide (f.pkg = pkg) && decide (f.asid = asid) && decide (f.nodeInst = ni) && decide (f.taskNum = tn)

def State.floorOf (s : State) (pkg : BitVec 10) (g : Serial) : Option FloorRec :=
  (fget [] s.floors (floorSlice g.asid g.taskNum)).find? (fun f => f.isTask pkg g.asid g.nodeInst g.taskNum)

/-- (a − b) mod 2^32 < 2^31 (R354, R357). -/
def notAbove (a b : BitVec 32) : Bool := decide ((b - a).toNat < 2 ^ 31)

/-- Entries of a task up to CT become retirable, in the order they retire (R356). -/
def retireUpTo (pkg : BitVec 10) (asid : BitVec 14) (ni : BitVec 24) (tn : BitVec 20) (ct : BitVec 32) (l : List AgEntry) : List AgEntry :=
  let hit := fun (e : AgEntry) => !e.chunk && decide (e.pkg = pkg) && serialIsTask e.serial asid ni tn && !e.retirable && !e.pending && notAbove e.serial.seq ct
  l.filter (fun e => !hit e) ++ (l.filter hit).map (fun e => { e with retirable := true })

/-- R356: a completed-through value is received. A full floor table drops it; a value that lies not above FLOOR moves nothing. -/
def State.ackTo (s : State) (pkg : BitVec 10) (asid : BitVec 14) (ni : BitVec 24) (tn : BitVec 20) (ct : BitVec 32) : State :=
  let sl := floorSlice asid tn
  let fs := fget [] s.floors sl
  let retire := fun (s : State) => { s with afterglow := s.afterglow.map (fun kl => (kl.1, retireUpTo pkg asid ni tn ct kl.2)) }
  match fs.find? (fun f => f.isTask pkg asid ni tn) with
  | some f =>
    if notAbove ct f.floor then s
    else retire { s with floors := fput s.floors sl (fs.map (fun x => if x.isTask pkg asid ni tn then { x with floor := ct } else x)) }
  | none =>
    if ct = 0 ∨ 1024 ≤ fs.length then s
    else retire { s with floors := fput s.floors sl (fs ++ [{ pkg := pkg, asid := asid, nodeInst := ni, taskNum := tn, floor := ct }]) }

/-- R358: retire-all frees every entry of the task and its floor record. -/
def State.retireAllOf (s : State) (pkg : BitVec 10) (asid : BitVec 14) (ni : BitVec 24) (tn : BitVec 20) : State :=
  { s with
    afterglow := s.afterglow.map (fun kl => (kl.1, kl.2.filter (fun e => !(decide (e.pkg = pkg) && serialIsTask e.serial asid ni tn)))),
    floors := s.floors.map (fun kl => (kl.1, kl.2.filter (fun f => !f.isTask pkg asid ni tn))) }

/-- ACKNOWLEDGEMENT (R356): the k-th completed-through value on its way reaches this owner. -/
def execAcknowledgement (k : Nat) (s : State) : Out :=
  match s.acks[k]? with
  | none => .next s
  | some a =>
    let s := ({ s with acks := s.acks.eraseIdx k } : State).ackTo a.src a.asid a.nodeInst a.taskNum a.ct
    .next (if a.src = s.pkgId then s.ackSeen s.pkgId a.asid a.nodeInst a.taskNum a.ct else s)

/-- A request or a response of the task toward this owner is still on its way (R358). -/
def State.taskInFlight (s : State) (pkg : BitVec 10) (asid : BitVec 14) (ni : BitVec 24) (tn : BitVec 20) : Bool :=
  s.requests.any (fun q => decide (q.src = pkg) && (match q.serial with | some g => serialIsTask g asid ni tn | none => false))

/-- RETIRE_ALL (R358): it passes no request of the task. -/
def execRetireAll (k : Nat) (s : State) : Out :=
  match s.retires[k]? with
  | none => .next s
  | some a =>
    if s.taskInFlight a.src a.asid a.nodeInst a.taskNum then .next s
    else .next (({ s with retires := s.retires.eraseIdx k } : State).retireAllOf a.src a.asid a.nodeInst a.taskNum)

/-! ## Requests at their owner -/

/-- The answer to a request goes back to its requester (R354). -/
def State.respond (s : State) (q : RReq) (st : RStatus) (result : BitVec 128) (data : List Byte) : State :=
  let r : RResp := { src := s.pkgId, dst := q.src, id := q.id, status := st, result := result, data := data, inc := s.inc }
  if q.src = s.pkgId then { s with responses := s.responses ++ [r] } else s.sendResponse q.src r

/-- The slice at which a request is performed. -/
def rqSlice (q : RReq) : Nat :=
  match q.op with
  | .evSignal _ _ _ | .evSet _ _ | .evRead _ => eventSlice (q.addr - 2 ^ 60)
  | .cohort _ _ => 0
  | _ => homeSlice q.addr

/-- Bytes a request touches. -/
def rqBytes (q : RReq) : Nat :=
  match q.op with
  | .handler _ w => w
  | .store bs => bs.length
  | .load n => n
  | _ => 0

/-- The target access table's answer to a peer's request (R399); this package's were checked at issue. -/
def State.peerAllowed (s : State) (q : RReq) : Bool :=
  if q.src = s.pkgId then true
  else match q.op with
    | .handler h _ => s.targetOk 7 q.addr (if h = 23 then .load else .atomic)
    | .store _ => s.targetOk 7 q.addr .store
    | .load _ => s.targetOk 7 q.addr .load
    | .evSignal _ _ _ | .evSet _ _ => s.hasRight 86 7 1
    | .cohort _ _ | .evRead _ => true

/-- The entry of a performed operation takes its outcome and is live (R354). -/
def State.agDone (s : State) (sl : Nat) (q : RReq) (st : RStatus) (result : BitVec 128) : State :=
  match q.serial with
  | none => s
  | some g => s.setAg sl ((s.agEntries sl).map (fun e => if e.matches q.src g then { e with pending := false, status := st, result := result } else e))

/-- An operation has its outcome: the entry, then the answer. -/
def State.finish (s : State) (sl : Nat) (q : RReq) (st : RStatus) (result : BitVec 128) (data : List Byte) : State :=
  (s.agDone sl q st result).respond q st result data

/-- A member named by a request of another package. -/
def rqMember (q : RReq) : Member :=
  { key := q.op0.extractLsb' 58 26, asid := q.op0.extractLsb' 44 14, nodeInst := q.op0.extractLsb' 20 24, taskNum := q.op0.extractLsb' 0 20, pkg := q.src,
    atLaunch := false, arrived := false, waits := false, passed := false, reply := none }

/-- A cohort function at the object's package (R40, R42). -/
def State.performCohort (s : State) (sl : Nat) (q : RReq) (fn : BitVec 2) (hd : Word) : State :=
  match s.cohortOf hd with
  | none => s.finish sl q .stateUse 0 []
  | some k =>
    match fn.toNat with
    | 0 =>
      let c := s.cohort k
      (match c.rankOf (rqMember q) with
       | none => s.finish sl q .stateUse 0 []
       | some r => s.finish sl q .performed (BitVec.ofNat 128 (r + c.size * 2 ^ 64))
          ((List.range c.size).flatMap (fun j => leBytes 2 (match c.at j with | some m => m.pkg | none => s.pkgId).toNat)))
    | 1 =>
      if q.op1 = 0 then
        let r := (s.cohort k).join (rqMember q)
        (s.setCohort k r.1).finish sl q .performed (r.2.setWidth 128) []
      else
        -- a launch: the tasks of its grid join as one action, in increasing task index (R41)
        let r := (List.range q.op1.toNat).foldl (fun (acc : Cohort × List Byte) i =>
          let m : Member := { rqMember q with taskNum := BitVec.ofNat 20 i, atLaunch := true }
          let b := acc.1.join m
          (b.1, acc.2 ++ leBytes 8 b.2.toNat)) (s.cohort k, [])
        (s.setCohort k r.1).finish sl q .performed 0 r.2
    | 2 =>
      -- a retiring task vacates a rank obtained at launch alone (R41)
      let c := s.cohort k
      let held := match c.rankOf (rqMember q) with
        | some r => (match c.at r with | some m => m.atLaunch | none => false)
        | none => false
      (if q.op1 = 0 || held then s.setCohort k (c.leave (rqMember q)) else s).finish sl q .performed 0 []
    | _ =>
      match (s.cohort k).rankOf (rqMember q) with
      | none => s.finish sl q .stateUse 0 []
      | some _ => ((s.setCohort k ((s.cohort k).arrive (rqMember q) (some q.id))).finish sl q .performed 0 []).barrierCheck k

/-- A handler run begins with the registers of R260. -/
def startRun (sl : HSlot) (q : RReq) : HRun :=
  let put := fun (m : FMap Word) (i : Nat) (v : Word) => fset (0 : Word) m i v
  let lo := fun (x : BitVec 128) => x.setWidth 64
  let hi := fun (x : BitVec 128) => (x >>> 64).setWidth 64
  let fit := fun (x : BitVec 128) => if sl.w = 4 then x &&& 0xFFFFFFFF#128 else if sl.w = 8 then x &&& 0xFFFFFFFFFFFFFFFF#128 else x
  let op0 := fit q.op0
  let op1 := fit q.op1
  { prog := sl.prog, idx := 0, w := sl.w,
    regs := put (put (put (put (put [] 1 (lo op0)) 2 (hi op0)) 3 (lo op1)) 4 (hi op1)) 5 (BitVec.ofNat 64 (q.addr % 4096)),
    buf := [], window := q.addr / 4096, req := q, serialEntry := q.serial.isSome }

/-- The operation of a request is performed at its slice (R255, R258, R259). -/
def State.perform (s : State) (sl : Nat) (q : RReq) : State :=
  match q.op with
  | .handler h w =>
    if h.toNat < 24 then
      if s.poisoned q.addr w then s.finish sl q .memError 0 []
      else
        let m := memNat s.mem q.addr w
        let r := fixedHandler h.toNat w m q.op0.toNat q.op1.toNat
        let s := if h = 23 ∨ r.1 = m then s else s.commit 6 q.addr (leBytes w r.1)
        s.finish sl q .performed (BitVec.ofNat 128 r.2) []
    else
      let slot := fget HSlot.start s.hslots h.toNat
      if slot.w = 0 ∨ slot.w ≠ w then s.finish sl q .stateUse 0 []
      else { s with hruns := fput s.hruns sl (some (startRun slot q)) }
  | .evSignal _ _ _ | .evSet _ _ =>
    let hd : Word := q.op0.setWidth 64
    if s.eventLive hd then (s.applyUpdate (hdlIdx hd) q.op (decide (q.op1 = 1))).finish sl q .performed 0 []
    else s.finish sl q .stateUse 0 []
  | .store bs => (s.commit q.cls.toNat q.addr bs).finish sl q .performed 0 []
  | .load n => if s.poisoned q.addr n then s.finish sl q .memError 0 [] else s.finish sl q .performed 0 (s.physRead q.addr n)
  | .cohort fn hd => s.performCohort sl q fn hd
  | .evRead hd =>
    if s.eventLive hd then
      let e := s.eventObj (hdlIdx hd)
      s.finish sl q .performed (e.status ++ e.count) []
    else s.finish sl q .stateUse 0 []

/-- The Afterglow HANDLER field of a request (R352). -/
def rqHandler (q : RReq) : BitVec 5 := match q.op with | .handler h _ => h | _ => 0

/-- R354, R356: a request at its owner, whose completed-through value it brings. A replayed task's request without a serial is not performed either by an owner that has
restarted (R360). While the entry of its serial is pending, or its slice's engine is running a handler, it
waits. -/
def State.ownerTakes (s : State) (k : Nat) (q : RReq) : State :=
  let sl := rqSlice q
  let done := fun (s : State) => { s with requests := s.requests.eraseIdx k }
  if (match q.op with | .cohort _ _ => false | _ => decide (fget none s.hruns sl ≠ none)) || s.windowBusy q.addr (rqBytes q) then s
  else if !s.peerAllowed q then (done s).respond q .protection 0 []
  else
    let s := match q.ct with | some c => s.ackTo q.src c.asid c.nodeInst c.taskNum c.seq | none => s
    match q.serial with
    | none => if q.inc ≠ s.inc ∧ q.rp then (done s).respond q .indeterminate 0 [] else (done s).perform sl q
    | some g =>
      if q.inc ≠ s.inc ∧ (q.rt ∨ q.rp) then (done s).respond q .indeterminate 0 []
      else match s.agFind sl q.src g with
        | some e => if e.pending then s else (done s).respond q e.status e.result []
        | none =>
          if (match s.floorOf q.src g with | some f => notAbove g.seq f.floor | none => false) then (done s).respond q .retired 0 []
          else match agRoom (s.agEntries sl) with
            | none => ((done s).countQuad (sl / 16) 0x22 1).respond q .ownerBusy 0 []
            | some l =>
              ((done s).setAg sl (l ++ [{ pkg := q.src, serial := g, handler := rqHandler q, result := 0, status := .performed,
                                          pending := true, retirable := false, chunk := false }])).perform sl q

/-- An own request leaves for another package, or over the host link (R251, R254, R388). -/
def State.leaves (s : State) (k : Nat) (q : RReq) (o : ROut) : State :=
  -- a first transmission carries the transport's incarnation (R359)
  let q := if q.rp || q.rt then q else { q with inc := s.incOf o.peer }
  let s := ({ s with requests := s.requests.eraseIdx k } : State).modRout o.id (fun r => { r with req := q, inc := q.inc })
  if o.tgt.aper = 2 then s.sendPacket o.peer (.request q) else s

/-- The ASID of a maker's accesses. -/
def ownerAsid (s : State) (o : ROut) : BitVec 14 := match ownerWho o.owner o.path with | some w => s.asidOf w | none => 0

/-- REMOTE_REQUEST (R354): the k-th request leaves its requester when it may (R245, R255, R287), a release of scope h once the host ports are flushed (R289), or is taken by its owner: a peer's in the order of delivery among
its requests for one address (R255). -/
def execRemoteRequest (k : Nat) (s : State) : Out :=
  match s.requests[k]? with
  | none => .next s
  | some q =>
    if q.src ≠ s.pkgId then
      (if (s.requests.take k).any (fun p => p.src == q.src && p.addr == q.addr) then .next s else .next (s.ownerTakes k q))
    else match s.rout? q.id with
      | some o =>
        if !s.mayLeave o then .next s
        else match (if decide (o.scope = 4) && decide (o.leave = .release) then s.releaseFlush o.owner o.path o.id none else none) with
        | some s' => .next s'
        | none => if o.tgt.aper = 2 ∨ o.tgt.aper = 3 then .next (s.leaves k q o)
        else .next ((s.touchPin o.tgt (ownerAsid s o) o.va (rqBytes q)).ownerTakes k q)
      | none => .next (s.ownerTakes k q)

/-! ## Handler words (R262) -/

/-- The handler run whose turn it is. -/
def onNear (s : State) (k : Nat → HRun → Out) : Out :=
  match s.turn with
  | .near sl =>
    match fget none s.hruns sl with
    | some r => k sl r
    | none => .next s
  | _ => .next s

def HRun.get (r : HRun) (n : BitVec 4) : Word := fget (0 : Word) r.regs n.toNat

/-- A register result, and the next word. -/
def hres (s : State) (sl : Nat) (r : HRun) (d : BitVec 4) (v : Word) : State :=
  { s with hruns := fput s.hruns sl (some { r with regs := fset (0 : Word) r.regs d.toNat v, idx := r.idx + 1 }) }

def hop (s : State) (d : BitVec 4) (f : HRun → Word) : Out := onNear s (fun sl r => .next (hres s sl r d (f r)))

/-- The window offset of an access (R262). -/
def hoff (r : HRun) (a : BitVec 4) (i : BitVec 16) : Nat := (r.get a + sx i).toNat % 4096 / 8 * 8

/-- A byte of the window as the run sees it (R261). -/
def State.hbyte (s : State) (r : HRun) (off : Nat) : Byte :=
  match fget none r.buf off with
  | some b => b
  | none => memByte s.mem (4096 * r.window + off)

/-- Contiguous runs of sorted bytes. -/
def byteRuns : List (Nat × Byte) → List (Nat × List Byte)
  | [] => []
  | (a, b) :: m =>
    match byteRuns m with
    | (c, bs) :: rest => if a + 1 = c then (a, b :: bs) :: rest else (a, [b]) :: (c, bs) :: rest
    | [] => [(a, [b])]

/-- A run ends: the buffer commits or is discarded, and the operation has its outcome (R261, R354). -/
def State.endRun (s : State) (sl : Nat) (r : HRun) (commit : Bool) (st : RStatus) (result : BitVec 128) : State :=
  let s := if commit then
      (byteRuns (r.buf.filterMap (fun kb => kb.2.map (fun b => (4096 * r.window + kb.1, b))))).foldl (fun s p => s.commit 6 p.1 p.2) s
    else s
  ({ s with hruns := fput s.hruns sl none } : State).finish sl r.req st result []

/-- HNOP. -/
def execHnop (s : State) : Out :=
  onNear s (fun sl r => .next { s with hruns := fput s.hruns sl (some { r with idx := r.idx + 1 }) })

/-- HLD (R261, R262): a poisoned line ends the run with memory-error (R325), unless all 8 bytes are in the buffer. -/
def execHld (d a : BitVec 4) (i : BitVec 16) (s : State) : Out :=
  onNear s (fun sl r =>
    let o := hoff r a i
    if s.poisoned (4096 * r.window + o) 8 && !(List.range 8).all (fun j => decide (fget none r.buf (o + j) ≠ none)) then .next (s.endRun sl r false .memError 0)
    else .next (hres s sl r d (BitVec.ofNat 64 (leNat ((List.range 8).map (fun j => s.hbyte r (o + j)))))))

/-- HST (R261): buffered until the run ends. -/
def execHst (a b : BitVec 4) (i : BitVec 16) (s : State) : Out :=
  onNear s (fun sl r =>
    let o := hoff r a i
    let buf := (List.range 8).foldl (fun m j => fput m (o + j) (some ((r.get b >>> (8 * j)).setWidth 8))) r.buf
    .next { s with hruns := fput s.hruns sl (some { r with buf := buf, idx := r.idx + 1 }) })

/-- HLI. -/
def execHli (d : BitVec 4) (i : BitVec 16) (s : State) : Out := hop s d (fun _ => sx i)
/-- HLIS. -/
def execHlis (d : BitVec 4) (i : BitVec 16) (s : State) : Out := hop s d (fun r => (r.get d <<< 16) ||| i.setWidth 64)
/-- HADD. -/
def execHadd (d a b : BitVec 4) (i : BitVec 16) (s : State) : Out := hop s d (fun r => r.get a + r.get b + sx i)
/-- HSUB. -/
def execHsub (d a b : BitVec 4) (s : State) : Out := hop s d (fun r => r.get a - r.get b)
/-- HAND. -/
def execHand (d a b : BitVec 4) (s : State) : Out := hop s d (fun r => r.get a &&& r.get b)
/-- HOR. -/
def execHor (d a b : BitVec 4) (s : State) : Out := hop s d (fun r => r.get a ||| r.get b)
/-- HXOR. -/
def execHxor (d a b : BitVec 4) (s : State) : Out := hop s d (fun r => r.get a ^^^ r.get b)

/-- HSHF: shl, shr, sra, ror. -/
def execHshf (d a : BitVec 4) (k : BitVec 2) (n : BitVec 6) (s : State) : Out :=
  hop s d (fun r =>
    let x := r.get a
    match k.toNat with
    | 0 => x <<< n.toNat
    | 1 => x >>> n.toNat
    | 2 => x.sshiftRight n.toNat
    | _ => x.rotateRight n.toNat)

/-- HFADD (R257): fp32 on the low halves, or fp64; nearest-even. -/
def execHfadd (d a b : BitVec 4) (f : BitVec 1) (s : State) : Out :=
  hop s d (fun r =>
    if f = 0 then BitVec.ofNat 64 (fAdd .fp32 (roundOf 0) ((r.get a).toNat % 2 ^ 32) ((r.get b).toNat % 2 ^ 32)).1
    else BitVec.ofNat 64 (fAdd .fp64 (roundOf 0) (r.get a).toNat (r.get b).toNat).1)

/-- HCMP. -/
def execHcmp (d a b : BitVec 4) (c : BitVec 3) (s : State) : Out :=
  hop s d (fun r =>
    let x := r.get a
    let y := r.get b
    let t := match c.toNat with
      | 0 => decide (x = y)
      | 1 => decide (x ≠ y)
      | 2 => x.slt y
      | 3 => x.ult y
      | 4 => fCmp .fp32 2 (x.toNat % 2 ^ 32) (y.toNat % 2 ^ 32)
      | _ => fCmp .fp64 2 x.toNat y.toNat
    if t then 1 else 0)

/-- HSEL. -/
def execHsel (d a b : BitVec 4) (s : State) : Out := hop s d (fun r => if r.get d ≠ 0 then r.get a else r.get b)

/-- HBR: forward by imm words when the condition holds. -/
def execHbr (c a : BitVec 4) (i : BitVec 16) (s : State) : Out :=
  onNear s (fun sl r =>
    let t := match c.toNat with
      | 0 => true
      | 1 => decide (r.get a = 0)
      | _ => decide (r.get a ≠ 0)
    .next { s with hruns := fput s.hruns sl (some { r with idx := if t then r.idx + i.toNat else r.idx + 1 }) })

/-- What HRET and HFAIL return: the low W bytes of h(ha), or a pair for W = 16. -/
def HRun.returns (r : HRun) (a : BitVec 4) : BitVec 128 :=
  if r.w = 16 then r.get (a + 1) ++ r.get a
  else if r.w = 4 then ((r.get a).setWidth 32).setWidth 128 else (r.get a).setWidth 128

/-- HRET (R261): the buffer commits as one update. -/
def execHret (a : BitVec 4) (s : State) : Out := onNear s (fun sl r => .next (s.endRun sl r true .performed (r.returns a)))
/-- HFAIL (R261): the buffer is discarded. -/
def execHfail (a : BitVec 4) (s : State) : Out := onNear s (fun sl r => .next (s.endRun sl r false .byHfail (r.returns a)))

end Sys2Proof.Machine
end

