-- ==== Sys2Proof/Machine/CollCore.lean ====
section
/-!
DEFINITION. Communicator members of the collective engines (R364, R365): their records, how a program stops (R271, R272), and
the accesses of path K (R263, R283, R286), made under the ASID of the task that started the program.
-/

namespace Sys2Proof.Machine

open Sys2Proof

/-- A member is kept under 256 × engine + number (R364). -/
def State.comm (s : State) (c : Nat) : Comm := fget Comm.start s.comms c
def State.setComm (s : State) (c : Nat) (x : Comm) : State := { s with comms := fput s.comms c x }
def State.modComm (s : State) (c : Nat) (f : Comm → Comm) : State := s.setComm c (f (s.comm c))

/-- The live member a handle names. -/
def State.commOf (s : State) (x : Word) : Option Nat :=
  (s.comms.find? (fun kc => kc.2.live && kc.2.handle == x && x != 0)).map (·.1)

/-- What names a member to the others of its communicator (R365): cohort, ordinal, rank. -/
def commKey (cohort : Word) (ordinal rank : Nat) : Nat := (cohort.toNat * 2 ^ 32 + ordinal) * 2 ^ 20 + rank
def Comm.key (x : Comm) (rank : Nat) : Nat := commKey x.cohort x.ordinal rank
def keyRank (k : Nat) : Nat := k % 2 ^ 20
def keyOrdinal (k : Nat) : Nat := k / 2 ^ 20 % 2 ^ 32
def keyCohort (k : Nat) : Word := BitVec.ofNat 64 (k / 2 ^ 52)

/-- The member a key names, when it lives on this package. -/
def State.commByKey (s : State) (k : Nat) : Option Nat :=
  (s.comms.find? (fun kc => kc.2.live && decide (kc.2.key kc.2.rank = k))).map (·.1)

/-- The fields of the communicator record that all members agree in (R365). -/
def Comm.recd (x : Comm) : BitVec 64 :=
  BitVec.ofNat 64 (x.cls.toNat + 8 * x.slots + 256 * (x.chunkBytes / 4096) + (if x.bounded then 65536 else 0)) ||| (x.timeout.setWidth 64 <<< 32)

/-! ## Stopping (R109, R271, R272, R373) -/

/-- The record of a member's program: SRC 4, the communicator's handle, the address of its step (R272, R304). -/
def State.collRecord (s : State) (c code : Nat) (detail va : Word) (wr : Bool) : FaultRec :=
  let x := s.comm c
  { code := BitVec.ofNat 8 code, src := 4, flags := if wr then 1 else 0, lane := 0xFF,
    handle := match x.startBy with | .task h => BitVec.ofNat 16 h | _ => 0, asid := x.asid,
    iaddr := x.progAddr + 8 * BitVec.ofNat 64 x.pos, vaddr := va, nodeInst := x.ident.extractLsb' 20 24,
    taskNum := x.ident.extractLsb' 0 20, detail := detail, comm := x.handle, repidx := 0 }

/-- The supervisor core that takes an engine's records: the first of its quadrant. -/
def svOfColl (c : Nat) : Nat := 2 * (c / 256)

/-- COLLECTIVE_FAULT: the member is stopped with a cause, and a record goes to the supervisor (R271, R272). -/
def State.collStop (s : State) (c cause : Nat) (va : Word) (wr : Bool) : State :=
  let d := BitVec.ofNat 64 (cause + 256 * (s.comm c).rank)
  (s.modComm c (fun x => { x with run := .stopped cause })).queueRecord (svOfColl c) (s.collRecord c 0x34 d va wr)

/-- An illegal step stops the program with the illegal-instruction code and the word (R109, R302). -/
def State.collIllegal (s : State) (c : Nat) (word : Word) : State :=
  (s.modComm c (fun x => { x with run := .stopped 0 })).queueRecord (svOfColl c) (s.collRecord c 0x01 word 0 false)

/-- An uncorrectable error on data a step reads (R302, R325). -/
def State.collMemError (s : State) (c pa : Nat) (va : Word) : State :=
  (s.modComm c (fun x => { x with run := .stopped 7 })).queueRecord (svOfColl c) (s.collRecord c 0x31 (BitVec.ofNat 64 pa) va false)

/-! ## Path K -/

/-- What an access made by physical walks answers: the bytes, a wait, or a fault. -/
inductive PRes where
  | ok (bytes : List Byte) (s : State)
  | wait (s : State)
  | bad (f : FaultInfo) (s : State)

/-- The target of an access by a physical walk of its own, as the walk finds it now (R295, R296, R398). -/
def State.kTarget (s : State) (asid : BitVec 14) (cls va : Nat) (a : Acc) : Except FaultInfo Target :=
  if 2 ^ 56 ≤ va then .error (accFault 0x10 5 (BitVec.ofNat 64 va) a)
  else
    match (s.walk asid va).1 with
    | .bad code d => .error (accFault code.toNat d (BitVec.ofNat 64 va) a)
    | .leaf lvl e =>
      match s.checkLeaf asid cls lvl e va a false with
      | .ok t _ => .ok t
      | .bad f => .error f
      | .miss => .error (accFault 0x10 0 (BitVec.ofNat 64 va) a)

/-- A or D is set in the leaf that a walk of its own finds (R298). -/
def State.markLeaf (s : State) (asid : BitVec 14) (va : Nat) (store : Bool) : State :=
  match s.walk asid va with
  | (.leaf _ _, pa) => s.setEntryBits pa (if store then 0x1800#64 else 0x800#64)
  | _ => s

/-- The translation of an access: by the service of the collective engine's quadrant (R299), or by a walk of the Orrery's own. -/
def State.kTrans (s : State) (l : Option Tlb) (asid : BitVec 14) (cls va : Nat) (a : Acc) : Trans :=
  match l with
  | some l => (match s.translate l asid cls va a false with
      | .ok t e => if s.dirtyOk l asid va a then .ok t e else .miss
      | r => r)
  | none => (match s.kTarget asid cls va a with | .ok t => .ok t 0 | .error f => .bad f)

/-- What it leaves in the translation structures. -/
def State.kTouch (s : State) (l : Option Tlb) (asid : BitVec 14) (va : Nat) (a : Acc) : State :=
  match l with
  | some l => s.touchTlb l asid va a
  | none => s.markLeaf asid va a.write

def State.kFault (s : State) (l : Option Tlb) (asid : BitVec 14) (va : Nat) : State :=
  match l with
  | some l => s.touchFault l asid va
  | none => s

/-- Where the bytes that loads have brought stand until their reader takes them: by owner and path. -/
def recKey (o : Owner) (path : BitVec 3) : Nat :=
  match o with
  | .task h => 8 * h + path.toNat
  | .sv c => 40000 + c
  | .coll c => 50000 + c
  | .host _ => 60000
  | .orr k => 100000 + k

def State.recBytes (s : State) (o : Owner) (path : BitVec 3) : FMap Byte := fget [] s.recs (recKey o path)
def State.setRec (s : State) (o : Owner) (path : BitVec 3) (m : FMap Byte) : State :=
  { s with recs := if m = [] then fdel s.recs (recKey o path) else fput s.recs (recKey o path) m }

/-- n bytes of a map from a on, when it lists them all. -/
def allBytes (m : FMap Byte) (a n : Nat) : Option (List Byte) :=
  ((List.range n).map (fun i => (m.find? (fun kb => kb.1 == a + i)).map (·.2))).foldr
    (fun b acc => match b, acc with | some b, some bs => some (b :: bs) | _, _ => none) (some [])

/-- Bytes join those that an owner has read. -/
def State.addRec (s : State) (o : Owner) (path : BitVec 3) (a : Nat) (bs : List Byte) : State :=
  s.setRec o path (((List.range bs.length).zip bs).foldl (fun m ib => fput m (a + ib.1) ib.2) (s.recBytes o path))

/-- The bytes of ranges that the reader has taken go. -/
def State.dropRec (s : State) (o : Owner) (path : BitVec 3) (l : List (Nat × Nat)) : State :=
  s.setRec o path ((s.recBytes o path).filter (fun kb => !l.any (fun al => decide (al.1 ≤ kb.1) && decide (kb.1 < al.1 + al.2))))

/-- An access of path K joins those in flight. -/
def State.pushK (s : State) (o : Owner) (asid : BitVec 14) (store : Bool) (t : Target) (va n : Nat) (bs : List Byte) (nt : Bool) : State :=
  s.pushGacc { id := 0, owner := o, path := 4, isStore := store, tgt := t, va := va, asid := asid, n := n, data := bs,
               acq := false, rel := false, scope := 0, dest := if store then .none else .record, failed := none, sent := false,
               combining := false, nt := nt, iaddr := 0, fenced := none, fencedU := none, serial := none, since := 0 }

/-- Ranges in order, those that continue each other joined. -/
def joinRuns : List (Nat × Nat) → List (Nat × Nat)
  | [] => []
  | (a, n) :: l =>
    match joinRuns l with
    | (b, m) :: r => if a + n = b then (a, n + m) :: r else (a, n) :: (b, m) :: r
    | [] => [(a, n)]

/-- The units of a run that is read: naturally aligned 8 bytes, else up to the next multiple of w (R48, R275). -/
def runUnits (w : Nat) : Nat → Nat → Nat → List (Nat × Nat)
  | 0, _, _ => []
  | fuel + 1, a, n =>
    if n = 0 then [] else let k := nextUnit w a n (decide (a % 8 = 0)); (a, k) :: runUnits w fuel (a + k) (n - k)

def readUnits (w : Nat) (l : List (Nat × Nat)) : List (Nat × Nat) := (joinRuns l).flatMap (fun al => runUnits w (al.2 + 1) al.1 al.2)

/-- The offsets, in the bytes that ranges give, at which 8 naturally aligned bytes of the source stand together. -/
def eightsOf (l : List (Nat × Nat)) : List Nat :=
  ((readUnits 1 l).foldl (fun (acc : Nat × List Nat) u => (acc.1 + u.2, if u.2 = 8 then acc.2 ++ [acc.1] else acc.2)) (0, [])).2

/-- The units of a run that is written: naturally aligned 8 bytes whose source is so too (R275), else as for a read. -/
def putUnits (w : Nat) (eights : List Nat) : Nat → Nat → Nat → Nat → List (Nat × Nat × Nat)
  | 0, _, _, _ => []
  | fuel + 1, a, n, off =>
    if n = 0 then []
    else let k := nextUnit w a n (decide (a % 8 = 0) && eights.contains off); (a, k, off) :: putUnits w eights fuel (a + k) (n - k) (off + k)

/-- Units of ranges that bytes are written to: address, length, offset in the bytes. -/
def writeUnits (w : Nat) (eights : List Nat) (l : List (Nat × Nat)) : List (Nat × Nat × Nat) :=
  ((joinRuns l).foldl (fun (acc : Nat × List (Nat × Nat × Nat)) al => (acc.1 + al.2, acc.2 ++ putUnits w eights (al.2 + 1) al.1 al.2 acc.1)) (0, [])).2

/-- The units of a read, in order: each is a load of its own, and the bytes stand with the owner when it has returned (R277, R278). -/
def State.accReadGo (o : Owner) (l : Option Tlb) (asid : BitVec 14) (cls : Nat) : List (Nat × Nat) → State → PRes
  | [], s => .ok [] s
  | (va, n) :: ps, s =>
    match allBytes (s.recBytes o 4) va n with
    | some b =>
      (match s.accReadGo o l asid cls ps with
       | .ok bs s' => .ok (b ++ bs) s'
       | r => r)
    | none =>
      if s.gaccs.any (fun g => decide (g.owner = o) && !g.isStore && decide (g.va = va)) then
        (match s.accReadGo o l asid cls ps with
         | .ok _ s' => .wait s'
         | r => r)
      else match s.kTrans l asid cls va .load with
        | .miss => .wait (s.kTouch l asid va .load)
        | .bad f => .bad f (s.kFault l asid va)
        | .ok t _ =>
          (match ((s.kTouch l asid va .load).pushK o asid false t va n [] false).accReadGo o l asid cls ps with
           | .ok _ s' => .wait s'
           | r => r)

/-- A read over address ranges, in order. -/
def State.accRead (s : State) (o : Owner) (l : Option Tlb) (asid : BitVec 14) (cls : Nat) (r : List (Nat × Nat)) : PRes :=
  match s.accReadGo o l asid cls (readUnits 1 r) with
  | .ok bs s' => .ok bs (s'.dropRec o 4 r)
  | x => x

/-- A read whose bytes stay with the owner until it is done with them: what it reads next may hang on them. -/
def State.accKeep (s : State) (o : Owner) (l : Option Tlb) (asid : BitVec 14) (cls : Nat) (r : List (Nat × Nat)) : PRes :=
  s.accReadGo o l asid cls (readUnits 1 r)

/-- The targets of the units of a write. -/
def State.kTargets (s : State) (l : Option Tlb) (asid : BitVec 14) (cls : Nat) : List (Nat × List Byte) → Except (Nat × Trans) (List (Nat × List Byte × Target))
  | [] => .ok []
  | (va, bs) :: ps =>
    match s.kTrans l asid cls va .store with
    | .ok t _ =>
      (match s.kTargets l asid cls ps with
       | .error e => .error e
       | .ok r => .ok ((va, bs, t) :: r))
    | e => .error (va, e)

/-- A write: each unit goes out as a store of its own, once every one has its target and room for its serial (R357). -/
def State.accWrite (s : State) (o : Owner) (l : Option Tlb) (asid : BitVec 14) (cls : Nat) (nt : Bool) (units : List (Nat × List Byte)) : PRes :=
  match s.kTargets l asid cls units with
  | .error (va, .bad f) => .bad f (s.kFault l asid va)
  | .error (va, _) => .wait (s.kTouch l asid va .store)
  | .ok ts =>
    if !s.storeRoom o (ts.map (fun p => p.2.2)) then .wait s
    else .ok [] (ts.foldl (fun s p => (s.kTouch l asid p.1 .store).pushK o asid true p.2.2 p.1 p.2.1.length p.2.1 nt) s)

/-- The stores of the owner's writes that have not committed. -/
def State.accOut (s : State) (o : Owner) : Bool := s.gaccs.any (fun g => decide (g.owner = o) && g.isStore)

/-- What an access of path K answers. -/
inductive KRes where
  | ok (bytes : List Byte) (s : State)
  | wait (s : State)
  | stop (s : State)

/-- A fault of path K stops the program: a memory error by its own code, any other as a translation fault (cause 5). -/
def State.kEnd (c : Nat) : PRes → KRes
  | .ok bs s => .ok bs s
  | .wait s => .wait s
  | .bad f s => .stop (if f.code = 0x31 then s.collMemError c f.detail.toNat f.va else s.collStop c 5 f.va (f.flags.getLsbD 0))

/-- A read of path K over address ranges, in order. -/
def State.kRead (s : State) (c : Nat) (r : List (Nat × Nat)) : KRes :=
  State.kEnd c (s.accRead (.coll c) (some (.quad (c / 256))) (s.comm c).asid 5 r)

/-- Where the bytes read from a tile's scratchpad stand among those of the engine. -/
def spadKey (tile : Nat) : Nat := 2 ^ 64 * (1 + tile)

/-- A read of a scratchpad, one unit a turn (R275). -/
def State.spadFetch (s : State) (c tile : Nat) (r : List (Nat × Nat)) : KRes :=
  let m := s.recBytes (.coll c) 4
  let at_ := fun (u : Nat × Nat) => allBytes m (spadKey tile + u.1) u.2
  let us := readUnits 4 r
  match us.find? (fun u => (at_ u).isNone) with
  | some u => .wait (s.addRec (.coll c) 4 (spadKey tile + u.1) (memRead (s.tile tile).spad u.1 u.2))
  | none => .ok (us.flatMap (fun u => (at_ u).getD [])) (s.dropRec (.coll c) 4 (r.map (fun al => (spadKey tile + al.1, al.2))))

/-- Bytes of a tile's scratchpad or of global memory. -/
def State.bufRead (s : State) (c : Nat) (scratch : Bool) (tile : Nat) (r : List (Nat × Nat)) : KRes :=
  if scratch then s.spadFetch c tile r else s.kRead c r

/-- Bytes written to ranges, in units (R275). -/
def State.bufWrite (s : State) (c : Nat) (scratch : Bool) (tile : Nat) (eights : List Nat) (r : List (Nat × Nat)) (bs : List Byte) : KRes :=
  let parts := (writeUnits (if scratch then 4 else 1) eights r).map (fun u => (u.1, (bs.drop u.2.2).take u.2.1))
  if scratch then .ok [] (parts.foldl (fun s ab => s.modTile tile (fun x => { x with spad := memWrite x.spad ab.1 ab.2 })) s)
  else State.kEnd c (s.accWrite (.coll c) (some (.quad (c / 256))) (s.comm c).asid 5 false parts)

/-- Every write of the program is performed or committed (R267). -/
def State.kSettled (s : State) (c : Nat) : Bool := !s.accOut (.coll c)

end Sys2Proof.Machine
end

