-- ==== Sys2Proof/Machine/VectorCore.lean ====
section
/-!
DEFINITION. What every vector instruction shares: the repetition it stands in (R102, R104), register reads with their races
(R98, R101), the checking scoreboard (R99), stream ports (R28, R187, R188), and the fixed-latency issue (R97, R159).
-/

namespace Sys2Proof.Machine

open Sys2Proof

/-- The REP sequence an instruction issues in: repetition j of n, and Z (R102). -/
structure Rp where
  on : Bool
  j : Nat
  n : Nat
  z : Bool
deriving DecidableEq, Repr

/-- An instruction without a prefix. -/
def Rp.none : Rp := { on := false, j := 0, n := 1, z := false }

/-- The vector program whose turn it is; another engine's turn changes nothing. -/
def onVec (s : State) (k : Nat → Out) : Out :=
  match s.who with
  | some (.task h .v) => k h
  | _ => .next s

/-- Control after a repetition or an instruction has issued: the distance position moves 1 + g (R97), and the program counter
goes past the instruction, or past prefix and word after the last repetition (R104). -/
def vNext (rp : Rp) (h g : Nat) (s : State) : State :=
  (s.modRes h (fun r =>
    let last := decide (rp.n ≤ rp.j + 1)
    { r.setRepIdx 0 with
      vpos := r.vpos + 1 + g, lanesDone := 0, rep := if rp.on && !last then rp.j + 1 else 0,
      v := { r.v with pc := if !rp.on then r.v.pc + 4 else if last then r.v.pc + 8 else r.v.pc } })).issued (.task h .v)

/-- A fault of a vector instruction; in a REP sequence REPIDX stays at the faulting repetition (R104). -/
def vFault (rp : Rp) (h : Nat) (k : ParkKind) (f : FaultInfo) (s : State) : State :=
  if rp.on then
    let f0 := match k with | .lane i => i | _ => 128
    (s.modRes h (fun r => { r.setRepIdx rp.j with rep := 0 })).takeFault (.task h .v) (.rept rp.j rp.n f0) f
  else s.takeFault (.task h .v) k f

/-- State-use on a vector instruction (R28, R249). -/
def vStateUse (rp : Rp) (h : Nat) (s : State) : State :=
  vFault rp h .instr (faultInfo 0x04 (Config.freeStateUseDetail s.fresh)) s.fresh1

/-! ## Registers -/

/-- Lanes a load has brought but no WAITC covers read old or new, each its own way (R101). -/
def VOp.race (o : VOp) (f : BitVec 128) (v : VReg) : VReg :=
  let m := laneBits (o.all &&& ~~~o.todo &&& ~~~f)
  (v &&& ~~~m) ||| (o.old &&& m)

/-- The value an instruction reads in a vector register (R98, R101). -/
def State.vread (s : State) (h n : Nat) : VReg :=
  s.vops.foldl (fun v o => if o.h == h && o.load && o.vd == n then o.race (Config.freeLanes (128 * s.fresh + n)) v else v)
    (fget (0 : VReg) (s.res h).vregs n)

/-- A mask register (R12). -/
def State.mread (s : State) (h n : Nat) : BitVec 128 := (s.res h).mask n

/-- A k register. -/
def State.kread (s : State) (h n : Nat) : Word := fget (0 : Word) (s.res h).kregs n

/-- The port a vector register names, with its binding: 0 for an ordinary register (R28). -/
def Resident.portBind (r : Resident) (n : Nat) : Nat := if 120 ≤ n then stBind (r.stream (n - 120)) else 0

/-- A load that no WAITC has covered names the register (R101). -/
def State.uncovered (s : State) (h : Nat) : VTgt → Bool
  | .vreg n => s.vops.any (fun o => o.h == h && o.load && o.vd == n)
  | .mask _ => false

/-- The register number that a gap fault reports. -/
def VTgt.num : VTgt → Nat
  | .vreg n => n
  | .mask n => n

/-- m0 is constant: neither its reads nor its discarded writes meet the scoreboard. -/
def VTgt.real : VTgt → Bool
  | .mask 0 => false
  | _ => true

/-- R99, R101: the register whose gap rule an instruction breaks. wr pairs each destination with its latency. -/
def State.gapReg (s : State) (h : Nat) (rd : List VTgt) (wr : List (VTgt × Option Nat)) : Option Nat :=
  let r := s.res h
  if !r.check then none
  else
    match rd.find? (fun t => r.pend.any (fun p => p.tgt == t) || s.uncovered h t) with
    | some t => some t.num
    | none =>
      (wr.find? (fun tl => s.uncovered h tl.1 ||
        (match tl.2 with
         | some l => r.pend.any (fun p => p.tgt == tl.1 && decide (r.vpos + l ≤ p.at_))
         | none => false))).map (fun tl => tl.1.num)

/-- Port numbers among registers that have a binding. -/
def portsBound (r : Resident) (b : Nat) (l : List VTgt) : List Nat :=
  (l.filterMap (fun t => match t with
    | .vreg n => if r.portBind n = b then some (n - 120) else none
    | .mask _ => none)).eraseDups

/-- The waits of an instruction's ports (R187, R188): each begins a block (R30). -/
def vPorts (h : Nat) : List Wait → State → (State → Out) → Out
  | [], s, k => k s
  | w :: ws, s, k => waitOp (.task h .v) w s (fun s' => vPorts h ws s' k) (fun s' => vPorts h ws s' k)

/-- A read takes the staged vector and moves POS (R187, R249); a wait completed by a watchdog skip moves nothing and its
value is free (R308). -/
def popPort (fresh : Nat) (r : Resident) (q : Nat) : Resident :=
  if r.staged.getLsbD q then
    let x := r.stream q
    { (r.setStream q (stPut x 448 32 ((stPos x).toNat + 1))) with staged := r.staged &&& ~~~((1 : BitVec 8) <<< q) }
  else { r with vregs := fset (0 : VReg) r.vregs (120 + q) (Config.freeVec (8 * fresh + q)) }

/-- A stored fault of a port is reported on the instruction that reads or writes it (R249), under the resident's handle of that time (R304). -/
def vPortFault (rp : Rp) (h q : Nat) (f : FaultRec) (s : State) : State :=
  let s := s.modRes h (fun r => if rp.on then { r.setRepIdx rp.j with rep := 0 } else r)
  s.parkWith h .v (.stream q) { f with handle := BitVec.ofNat 16 h, iaddr := (s.pcOf (.task h .v)).setWidth 64, repidx := ((s.res h).vctl >>> 8).setWidth 8 &&& 0x3F }

/-- The issue of a vector instruction up to its operand reads: writes due have landed (R97), gap faults (R99),
state-use of the instruction (su) or of a port (R28, R249), the waits of the access itself, port waits and faults (R187, R188, R249); then k.
A fetch fault is met only by the read that would pop the vector it stopped, after the vectors fetched before it (R249). An instruction that issues again after a lane
fault pops its input ports again: the spec does not say whether it does (DESIGN CHOICE, log entry 116). -/
def vReady (rp : Rp) (h : Nat) (su : Bool) (extra : List Wait) (rd0 : List VTgt) (wr0 : List (VTgt × Option Nat)) (s : State) (k : State → Out) : Out :=
  let r := s.res h
  let rd := rd0.filter VTgt.real
  let wr := wr0.filter (fun t => t.1.real)
  let ins := portsBound r 1 rd
  let outs := portsBound r 2 (wr.map (·.1))
  let wrong := decide (portsBound r 2 rd ≠ []) || decide (portsBound r 1 (wr.map (·.1)) ≠ [])
  let drained := ins.any (fun q => decide (stPos (r.stream q) = stCount (r.stream q)))
  let s := s.modRes h (fun r => if extra = [] ∧ ins = [] ∧ outs = [] then r.landTo r.vpos else r.settle)
  match s.gapReg h (rd.filter (fun t => match t with | .vreg n => decide (r.portBind n ≠ 1) | .mask _ => true))
      (wr.filter (fun t => match t.1 with | .vreg n => decide (r.portBind n ≠ 2) | .mask _ => true)) with
  | some n => .next (vFault rp h .instr (faultInfo 0x03 (BitVec.ofNat 64 n)) s)
  | none =>
    if su || wrong || drained then .next (vStateUse rp h s)
    else match outs.filterMap (fun q => (fget none r.portFault q).map (fun f => (q, f))) with
      | (q, f) :: _ => .next (vPortFault rp h q f s)
      | [] =>
        vPorts h (extra ++ ins.map Wait.portIn ++ outs.map Wait.portOut) s (fun s =>
          let r := s.res h
          match (ins.filter (fun q => !r.staged.getLsbD q && decide (fget [] r.ahead q = [])) ++ outs).filterMap (fun q => (fget none r.portFault q).map (fun f => (q, f))) with
          | (q, f) :: _ => .next (vPortFault rp h q f s)
          | [] =>
            if outs.any (fun q => decide (fget 0 r.pushed q = (stCount (r.stream q)).toNat)) then .next (vStateUse rp h s)
            else k (s.modRes h (fun r => ins.foldl (popPort s.fresh) r)))

/-! ## Fixed-latency instructions -/

/-- One register write of an instruction. -/
structure VW where
  tgt : VTgt
  val : VReg
  en : VReg
deriving DecidableEq, Repr

/-- What a fixed-latency instruction does: its writes, flags, a new generator state, a k-register write. -/
structure VRes where
  ws : List VW
  flg : Flg
  rng : Option Word
  kw : Option (Nat × Word)
deriving DecidableEq, Repr

/-- Only register writes. -/
def VRes.of (ws : List VW) : VRes := { ws := ws, flg := Flg.none, rng := none, kw := none }

/-- The write of a vector register in some bits: masked-off lanes are zeroed under Z and in a pushed vector (R102, R188). The bits that VPACK, or a VCVT
from fp64, does not write are pushed as zero too: R188 speaks of masked-off lanes alone (DESIGN CHOICE, log entry 116). -/
def vwReg (r : Resident) (rp : Rp) (d : Nat) (val en : VReg) : VW :=
  if rp.z || decide (r.portBind d = 2) then { tgt := .vreg d, val := val &&& en, en := allBits } else { tgt := .vreg d, val := val, en := en }

/-- The write of a mask register in some bits, cleared elsewhere under Z (R166); one to m0 is discarded (R160). -/
def vwMask (rp : Rp) (d : Nat) (val en : BitVec 128) : List VW :=
  if d = 0 then []
  else [{ tgt := .mask d, val := (if rp.z then val &&& en else val).setWidth 4096, en := (if rp.z then allLanes else en).setWidth 4096 }]

/-- One write of an instruction joins those that have not landed. -/
def Resident.pendOf (r : Resident) (l : Nat) (flg : BitVec 4) (w : VW) : PendW := { at_ := r.vpos + l, tgt := w.tgt, val := w.val, en := w.en, flg := flg }

/-- The writes join those that have not landed, at distance L (R97, R98), the first with the flags, which are set when the instruction completes (R60, R159,
R176); an instruction without a write raises none. Generator and k register change (R59). -/
def Resident.apply (r : Resident) (l : Nat) (x : VRes) : Resident :=
  { r with
    pend := match x.ws with
      | [] => r.pend
      | w :: ws => ws.foldl (fun ps u => insertPend (r.pendOf l 0 u) ps) (insertPend (r.pendOf l x.flg.code w) r.pend),
    rng := x.rng.getD r.rng,
    kregs := match x.kw with | some (k, v) => fset (0 : Word) r.kregs k v | none => r.kregs }

/-- A fixed-latency instruction of latency l and gap g. -/
def vFixed (rp : Rp) (h : Nat) (g : BitVec 2) (l : Nat) (rd wr : List VTgt) (val : State → VRes) (s : State) : Out :=
  vReady rp h false [] rd (wr.map (fun t => (t, some l))) s (fun s =>
    .next (vNext rp h g.toNat ((s.modRes h (fun r => r.apply l (val s))).fresh1)))

/-! ## Lane-wise forms -/

/-- Bits of a vector for a mask, in the 32-bit or the fp64 view (R157). -/
def maskBits (f64 : Bool) (m : BitVec 128) : VReg := laneBits (if f64 then elemMask m else m)

/-- Element i of a vector in the 32-bit or the fp64 view. -/
def viewAt (f64 : Bool) (v : VReg) (i : Nat) : Nat := if f64 then (elem v i).toNat else (lane v i).toNat

/-- Whether element i is active (R157). -/
def activeAt (f64 : Bool) (m : BitVec 128) (i : Nat) : Bool := m.getLsbD (if f64 then 2 * i else i)

def viewCount (f64 : Bool) : Nat := if f64 then 64 else 128
def viewWidth (f64 : Bool) : Nat := if f64 then 64 else 32

/-- f on each active element of three source vectors, with the flags it raises. -/
def mapLanes (f64 : Bool) (m : BitVec 128) (a b c : VReg) (f : Nat → Nat → Nat → Nat × Flg) : VReg × Flg :=
  let rs := (List.range (viewCount f64)).map (fun i =>
    if activeAt f64 m i then f (viewAt f64 a i) (viewAt f64 b i) (viewAt f64 c i) else (0, Flg.none))
  (BitVec.ofNat 4096 (ofDigits (viewWidth f64) (rs.map (·.1))), rs.foldl (fun g x => g.or x.2) Flg.none)

/-- A lane-wise instruction: sources a and b when named, vd itself when dRead, mask m. -/
def vMap (f64 : Bool) (l : Nat) (rp : Rp) (h : Nat) (g : BitVec 2) (d : BitVec 7) (a b : Option (BitVec 7)) (dRead : Bool) (m : Nat)
    (f : Round → Nat → Nat → Nat → Nat × Flg) (s : State) : Out :=
  let src := (a.toList ++ b.toList ++ (if dRead then [d] else [])).map (fun x => VTgt.vreg x.toNat)
  vFixed rp h g l (src ++ [.mask m]) [.vreg d.toNat] (fun s =>
    let rdo := fun (x : Option (BitVec 7)) => match x with | some n => s.vread h n.toNat | none => 0
    let mk := s.mread h m
    let (v, fl) := mapLanes f64 mk (rdo a) (rdo b) (if dRead then s.vread h d.toNat else 0) (f (roundOf (s.res h).rmode))
    { VRes.of [vwReg (s.res h) rp d.toNat v (maskBits f64 mk)] with flg := fl }) s

/-- Integer lane operations (R161): two sources, wrapping, no flag. -/
def vInt (rp : Rp) (h : Nat) (g : BitVec 2) (d a b : BitVec 7) (m : Nat) (f : BitVec 32 → BitVec 32 → BitVec 32) (s : State) : Out :=
  vMap false 2 rp h g d (some a) (some b) false m
    (fun _ x y _ => ((f (BitVec.ofNat 32 x) (BitVec.ofNat 32 y)).toNat, Flg.none)) s

/-- Integer immediate operations (R162): one source, every lane. -/
def vImm (rp : Rp) (h : Nat) (g : BitVec 2) (d a : BitVec 7) (f : BitVec 32 → BitVec 32) (s : State) : Out :=
  vMap false 2 rp h g d (some a) none false 0 (fun _ x _ _ => ((f (BitVec.ofNat 32 x)).toNat, Flg.none)) s

/-- Floating operations of two sources (R164): fp32 or, in the fp64 view, fp64. -/
def vFloat (f64 : Bool) (rp : Rp) (h : Nat) (g : BitVec 2) (d a b : BitVec 7) (m : Nat)
    (f : NFmt → Round → Nat → Nat → Nat × Flg) (s : State) : Out :=
  vMap f64 (if f64 then 6 else 4) rp h g d (some a) (some b) false m (fun r x y _ => f (if f64 then .fp64 else .fp32) r x y) s

/-- A compare (R166): bits of the destination mask, an element's two together. -/
def vCompare (f64 : Bool) (l : Nat) (rp : Rp) (h : Nat) (g : BitVec 2) (e : BitVec 3) (a b : BitVec 7) (m : Nat)
    (f : Nat → Nat → Bool) (s : State) : Out :=
  vFixed rp h g l [.vreg a.toNat, .vreg b.toNat, .mask m] [.mask e.toNat] (fun s =>
    let va := s.vread h a.toNat
    let vb := s.vread h b.toNat
    let bits := BitVec.ofNat 128 (ofDigits (if f64 then 2 else 1) ((List.range (viewCount f64)).map (fun i =>
      if f (viewAt f64 va i) (viewAt f64 vb i) then (if f64 then 3 else 1) else 0)))
    let mk := s.mread h m
    VRes.of (vwMask rp e.toNat bits (if f64 then elemMask mk else mk))) s

/-- A unary operation of format VX (R168, R170). -/
def vUnary (f64 : Bool) (l : Nat) (rp : Rp) (h : Nat) (g : BitVec 2) (d a : BitVec 7) (m : Nat)
    (f : Nat → Nat × Flg) (s : State) : Out :=
  vMap f64 l rp h g d (some a) none false m (fun _ x _ _ => f x) s

/-- A mask operation (R167): every bit is written. -/
def vMaskOp (rp : Rp) (h : Nat) (g : BitVec 2) (d : BitVec 3) (src : List (BitVec 3)) (f : (BitVec 3 → BitVec 128) → BitVec 128)
    (s : State) : Out :=
  vFixed rp h g 2 (src.map (fun x => VTgt.mask x.toNat)) [.mask d.toNat] (fun s =>
    VRes.of (vwMask Rp.none d.toNat (f (fun x => s.mread h x.toNat)) allLanes)) s

/-- One level of the reduction tree (R176). -/
def reduceLevel (f : Nat → Nat → Nat × Flg) : List (Option Nat) → List (Option Nat) × Flg
  | x :: y :: rest =>
    let (zs, g) := reduceLevel f rest
    match x, y with
    | some x, some y => let (v, fl) := f x y; (some v :: zs, fl.or g)
    | some x, none => (some x :: zs, g)
    | none, y => (y :: zs, g)
  | l => (l, Flg.none)

/-- The fixed-order tree over n levels. -/
def reduceTree (f : Nat → Nat → Nat × Flg) : Nat → List (Option Nat) → Option Nat × Flg
  | 0, l => ((l.headD none), Flg.none)
  | n + 1, l =>
    let (l', g) := reduceLevel f l
    let (v, fl) := reduceTree f n l'
    (v, g.or fl)

/-- A lane reduction (R176): the mask selects who takes part; vd is written in full. -/
def vReduce (f64 : Bool) (rp : Rp) (h : Nat) (g : BitVec 2) (d a : BitVec 7) (m : Nat) (f : Round → Nat → Nat → Nat × Flg)
    (empty : Nat) (s : State) : Out :=
  vFixed rp h g 6 [.vreg a.toNat, .mask m] [.vreg d.toNat] (fun s =>
    let va := s.vread h a.toNat
    let mk := s.mread h m
    let (v, fl) := reduceTree (f (roundOf (s.res h).rmode)) (if f64 then 6 else 7)
      ((List.range (viewCount f64)).map (fun i => if activeAt f64 mk i then some (viewAt f64 va i) else none))
    let x := v.getD empty
    { VRes.of [vwReg (s.res h) Rp.none d.toNat (if f64 then ofElems (fun _ => BitVec.ofNat 64 x) else ofLanes (fun _ => BitVec.ofNat 32 x)) allBits]
      with flg := fl }) s

end Sys2Proof.Machine
end

