-- ==== Sys2Proof/Machine/VectorAlu.lean ====
section
/-!
DEFINITION. The fixed-latency vector instructions (R161 to R180): each has a core, which a repetition of REP issues too
(R102), and its meaning, which is the core without a prefix.
-/

namespace Sys2Proof.Machine

open Sys2Proof

/-- Signed and unsigned comparison of lane values. -/
def sltN (a b : Nat) : Bool := (BitVec.ofNat 32 a).slt (BitVec.ofNat 32 b)

/-- Integer compare conditions (R166). -/
def iCmp (c a b : Nat) : Bool :=
  match c with
  | 0 => decide (a = b) | 1 => decide (a ≠ b) | 2 => sltN a b | 3 => !sltN a b | 4 => decide (a < b) | _ => decide (b ≤ a)

/-- The int8 products and saturating sum of VDOT (R63). -/
def dot8 (a b d : Nat) : Nat × Flg :=
  let byte := fun (x j : Nat) => intOf .int8 (x / 2 ^ (8 * j))
  let p := (List.range 4).foldl (fun acc j => acc + byte a j * byte b j) (0 : Int)
  let (t, sat) := satS32 (intOf .int32 d + p)
  ((BitVec.ofInt 32 t).toNat, { Flg.none with ovf := sat })

/-- Leading zeros of a lane. -/
def clz32 (x : Nat) : Nat := 32 - bitLen x

/-- One bits of n low bits. -/
def popN (n x : Nat) : Nat := ((List.range n).filter (fun i => x.testBit i)).length

/-- Sort key of VCMPX (R175). -/
def cmpxKey (t : BitVec 1) (x : BitVec 32) : Int :=
  if t = 1 && x.getLsbD 31 then (x ^^^ 0x7FFFFFFF#32).toInt else x.toInt

/-- Whether lane i and its partner exchange in a stage, decided at the lower lane of the pair (R175). -/
def cmpxSwap (t e : BitVec 1) (b : BitVec 4) (j : BitVec 3) (v : VReg) (i : Nat) : Bool :=
  let lo := if i.testBit j.toNat then i - 2 ^ j.toNat else i
  let hi := lo + 2 ^ j.toNat
  let up := (!lo.testBit b.toNat) != decide (e = 1)
  let ki := cmpxKey t (lane v lo)
  let kp := cmpxKey t (lane v hi)
  (up && decide (kp < ki)) || (!up && decide (ki < kp))

/-- The lanes of x with every exchange made that the keys ask for. -/
def cmpxMove (t e : BitVec 1) (b : BitVec 4) (j : BitVec 3) (keys x : VReg) : VReg :=
  ofLanes (fun i => if cmpxSwap t e b j keys i then lane x (if i.testBit j.toNat then i - 2 ^ j.toNat else i + 2 ^ j.toNat) else lane x i)

/-- The rounding of a conversion: codes 0 to 3, then stochastic and resident (R57, R96); sr takes ρ of the stepped generator. -/
def cvtRound (code : Nat) (rmode : Nat) (rng : Word) : Round × Word :=
  let sr := decide (code = 4) || (decide (code = 5) && decide (rmode = 4))
  if sr then (.sr (rhoOf (rngStep rng)), rngStep rng)
  else (match code with | 0 => .ne | 1 => .tz | 2 => .up | 3 => .down | _ => roundOf rmode, rng)

/-- Fill of a narrow destination: sign extension for int8, int4 and int2 (R172). -/
def cvtFill (f : NFmt) (x : Nat) : Nat :=
  match f with
  | .int8 | .int4 | .int2 => (BitVec.ofInt 32 (intOf f x)).toNat
  | _ => x

/-- The conversions of a vector's elements in increasing order, stepping the generator once for each (R59, R172). -/
def cvtAll (dst src : NFmt) (code rmode : Nat) : List Nat → Word → List Nat × Flg × Word
  | [], rng => ([], Flg.none, rng)
  | x :: xs, rng =>
    let (r, rng) := cvtRound code rmode rng
    let (v, fl) := convert dst src r x
    let (vs, g, rng) := cvtAll dst src code rmode xs rng
    (cvtFill dst v :: vs, fl.or g, rng)

/-- VCVT (R171, R172). -/
def vConvert (code : Nat) (rp : Rp) (h : Nat) (g : BitVec 2) (d a : BitVec 7) (t c : BitVec 4) (s : State) : Out :=
  match NFmt.ofCode t.toNat, NFmt.ofCode c.toNat with
  | some dst, some src =>
    let wide := decide (dst = .fp64) || decide (src = .fp64)
    vFixed rp h g 4 [.vreg a.toNat] [.vreg d.toNat] (fun s =>
      let va := s.vread h a.toNat
      let xs := (List.range (if wide then 64 else 128)).map (fun i => if src = .fp64 then (elem va i).toNat else (lane va i).toNat)
      let (vs, fl, rng) := cvtAll dst src code (s.res h).rmode xs (s.res h).rng
      let en := if src = .fp64 then laneBits (BitVec.allOnes 64 |>.setWidth 128) else allBits
      { VRes.of [vwReg (s.res h) rp d.toNat (BitVec.ofNat 4096 (ofDigits (if dst = .fp64 then 64 else 32) vs)) en] with
        flg := fl, rng := some rng }) s
  | _, _ => .next s

/-- Pack of width w, segment k (R173). -/
def vPackW (w k : Nat) (rp : Rp) (h : Nat) (g : BitVec 2) (d a : BitVec 7) (s : State) : Out :=
  vFixed rp h g 2 [.vreg a.toNat] [.vreg d.toNat] (fun s =>
    let va := s.vread h a.toNat
    let x := ofDigits w ((List.range 128).map (fun i => (lane va i).toNat))
    VRes.of [vwReg (s.res h) rp d.toNat (BitVec.ofNat 4096 (x * 2 ^ (128 * w * k))) (BitVec.ofNat 4096 ((2 ^ (128 * w) - 1) * 2 ^ (128 * w * k)))]) s

/-- Unpack of width w, segment k (R173). -/
def vUnpackW (w k : Nat) (rp : Rp) (h : Nat) (g : BitVec 2) (d a : BitVec 7) (s : State) : Out :=
  vFixed rp h g 2 [.vreg a.toNat] [.vreg d.toNat] (fun s =>
    let x := (s.vread h a.toNat).toNat / 2 ^ (128 * w * k)
    VRes.of [vwReg (s.res h) rp d.toNat (ofLanes (fun i => BitVec.ofNat 32 (x / 2 ^ (w * i) % 2 ^ w))) allBits]) s

/-- A k-register result (R160, R179). -/
def vKop (rp : Rp) (h : Nat) (g : BitVec 2) (d : BitVec 5) (f : State → Word) (s : State) : Out :=
  vFixed rp h g 1 [] [] (fun s => { VRes.of [] with kw := some (d.toNat, f s) }) s

/-- Each active lane takes a + b (R161). -/
def vaddCore (rp : Rp) (h : Nat) (g : BitVec 2) (d : BitVec 7) (a : BitVec 7) (b : BitVec 7) (m : BitVec 3) (s : State) : Out :=
  vInt rp h g d a b m.toNat (fun x y => x + y) s

/-- VADD: each active lane takes a + b (R161). -/
def execVadd (g : BitVec 2) (d : BitVec 7) (a : BitVec 7) (b : BitVec 7) (m : BitVec 3) (s : State) : Out := onVec s (fun h => vaddCore Rp.none h g d a b m s)

/-- Each active lane takes a − b (R161). -/
def vsubCore (rp : Rp) (h : Nat) (g : BitVec 2) (d : BitVec 7) (a : BitVec 7) (b : BitVec 7) (m : BitVec 3) (s : State) : Out :=
  vInt rp h g d a b m.toNat (fun x y => x - y) s

/-- VSUB: each active lane takes a − b (R161). -/
def execVsub (g : BitVec 2) (d : BitVec 7) (a : BitVec 7) (b : BitVec 7) (m : BitVec 3) (s : State) : Out := onVec s (fun h => vsubCore Rp.none h g d a b m s)

/-- Each active lane takes low 32 bits of a × b (R161). -/
def vmulCore (rp : Rp) (h : Nat) (g : BitVec 2) (d : BitVec 7) (a : BitVec 7) (b : BitVec 7) (m : BitVec 3) (s : State) : Out :=
  vInt rp h g d a b m.toNat (fun x y => x * y) s

/-- VMUL: each active lane takes low 32 bits of a × b (R161). -/
def execVmul (g : BitVec 2) (d : BitVec 7) (a : BitVec 7) (b : BitVec 7) (m : BitVec 3) (s : State) : Out := onVec s (fun h => vmulCore Rp.none h g d a b m s)

/-- Each active lane takes the lesser, signed (R161). -/
def vminCore (rp : Rp) (h : Nat) (g : BitVec 2) (d : BitVec 7) (a : BitVec 7) (b : BitVec 7) (m : BitVec 3) (s : State) : Out :=
  vInt rp h g d a b m.toNat (fun x y => if x.slt y then x else y) s

/-- VMIN: each active lane takes the lesser, signed (R161). -/
def execVmin (g : BitVec 2) (d : BitVec 7) (a : BitVec 7) (b : BitVec 7) (m : BitVec 3) (s : State) : Out := onVec s (fun h => vminCore Rp.none h g d a b m s)

/-- Each active lane takes the greater, signed (R161). -/
def vmaxCore (rp : Rp) (h : Nat) (g : BitVec 2) (d : BitVec 7) (a : BitVec 7) (b : BitVec 7) (m : BitVec 3) (s : State) : Out :=
  vInt rp h g d a b m.toNat (fun x y => if x.slt y then y else x) s

/-- VMAX: each active lane takes the greater, signed (R161). -/
def execVmax (g : BitVec 2) (d : BitVec 7) (a : BitVec 7) (b : BitVec 7) (m : BitVec 3) (s : State) : Out := onVec s (fun h => vmaxCore Rp.none h g d a b m s)

/-- Each active lane takes a AND b (R161). -/
def vandCore (rp : Rp) (h : Nat) (g : BitVec 2) (d : BitVec 7) (a : BitVec 7) (b : BitVec 7) (m : BitVec 3) (s : State) : Out :=
  vInt rp h g d a b m.toNat (fun x y => x &&& y) s

/-- VAND: each active lane takes a AND b (R161). -/
def execVand (g : BitVec 2) (d : BitVec 7) (a : BitVec 7) (b : BitVec 7) (m : BitVec 3) (s : State) : Out := onVec s (fun h => vandCore Rp.none h g d a b m s)

/-- Each active lane takes a OR b (R161). -/
def vorCore (rp : Rp) (h : Nat) (g : BitVec 2) (d : BitVec 7) (a : BitVec 7) (b : BitVec 7) (m : BitVec 3) (s : State) : Out :=
  vInt rp h g d a b m.toNat (fun x y => x ||| y) s

/-- VOR: each active lane takes a OR b (R161). -/
def execVor (g : BitVec 2) (d : BitVec 7) (a : BitVec 7) (b : BitVec 7) (m : BitVec 3) (s : State) : Out := onVec s (fun h => vorCore Rp.none h g d a b m s)

/-- Each active lane takes a XOR b (R161). -/
def vxorCore (rp : Rp) (h : Nat) (g : BitVec 2) (d : BitVec 7) (a : BitVec 7) (b : BitVec 7) (m : BitVec 3) (s : State) : Out :=
  vInt rp h g d a b m.toNat (fun x y => x ^^^ y) s

/-- VXOR: each active lane takes a XOR b (R161). -/
def execVxor (g : BitVec 2) (d : BitVec 7) (a : BitVec 7) (b : BitVec 7) (m : BitVec 3) (s : State) : Out := onVec s (fun h => vxorCore Rp.none h g d a b m s)

/-- Each active lane takes a shifted left by b[4:0] (R161). -/
def vshlCore (rp : Rp) (h : Nat) (g : BitVec 2) (d : BitVec 7) (a : BitVec 7) (b : BitVec 7) (m : BitVec 3) (s : State) : Out :=
  vInt rp h g d a b m.toNat (fun x y => x <<< (y.toNat % 32)) s

/-- VSHL: each active lane takes a shifted left by b[4:0] (R161). -/
def execVshl (g : BitVec 2) (d : BitVec 7) (a : BitVec 7) (b : BitVec 7) (m : BitVec 3) (s : State) : Out := onVec s (fun h => vshlCore Rp.none h g d a b m s)

/-- Each active lane takes a shifted right by b[4:0] (R161). -/
def vshrCore (rp : Rp) (h : Nat) (g : BitVec 2) (d : BitVec 7) (a : BitVec 7) (b : BitVec 7) (m : BitVec 3) (s : State) : Out :=
  vInt rp h g d a b m.toNat (fun x y => x >>> (y.toNat % 32)) s

/-- VSHR: each active lane takes a shifted right by b[4:0] (R161). -/
def execVshr (g : BitVec 2) (d : BitVec 7) (a : BitVec 7) (b : BitVec 7) (m : BitVec 3) (s : State) : Out := onVec s (fun h => vshrCore Rp.none h g d a b m s)

/-- Each active lane takes a shifted right arithmetically by b[4:0] (R161). -/
def vsraCore (rp : Rp) (h : Nat) (g : BitVec 2) (d : BitVec 7) (a : BitVec 7) (b : BitVec 7) (m : BitVec 3) (s : State) : Out :=
  vInt rp h g d a b m.toNat (fun x y => x.sshiftRight (y.toNat % 32)) s

/-- VSRA: each active lane takes a shifted right arithmetically by b[4:0] (R161). -/
def execVsra (g : BitVec 2) (d : BitVec 7) (a : BitVec 7) (b : BitVec 7) (m : BitVec 3) (s : State) : Out := onVec s (fun h => vsraCore Rp.none h g d a b m s)

/-- Each lane takes a + sext(imm) (R162). -/
def vaddiCore (rp : Rp) (h : Nat) (g : BitVec 2) (d : BitVec 7) (a : BitVec 7) (i : BitVec 10) (s : State) : Out :=
  vImm rp h g d a (fun x => x + i.signExtend 32) s

/-- VADDI: each lane takes a + sext(imm) (R162). -/
def execVaddi (g : BitVec 2) (d : BitVec 7) (a : BitVec 7) (i : BitVec 10) (s : State) : Out := onVec s (fun h => vaddiCore Rp.none h g d a i s)

/-- Each lane shifted left by the immediate (R162). -/
def vshliCore (rp : Rp) (h : Nat) (g : BitVec 2) (d : BitVec 7) (a : BitVec 7) (i : BitVec 5) (s : State) : Out :=
  vImm rp h g d a (fun x => x <<< i.toNat) s

/-- VSHLI: each lane shifted left by the immediate (R162). -/
def execVshli (g : BitVec 2) (d : BitVec 7) (a : BitVec 7) (i : BitVec 5) (s : State) : Out := onVec s (fun h => vshliCore Rp.none h g d a i s)

/-- Each lane shifted right by the immediate (R162). -/
def vshriCore (rp : Rp) (h : Nat) (g : BitVec 2) (d : BitVec 7) (a : BitVec 7) (i : BitVec 5) (s : State) : Out :=
  vImm rp h g d a (fun x => x >>> i.toNat) s

/-- VSHRI: each lane shifted right by the immediate (R162). -/
def execVshri (g : BitVec 2) (d : BitVec 7) (a : BitVec 7) (i : BitVec 5) (s : State) : Out := onVec s (fun h => vshriCore Rp.none h g d a i s)

/-- Each lane shifted right arithmetically by the immediate (R162). -/
def vsraiCore (rp : Rp) (h : Nat) (g : BitVec 2) (d : BitVec 7) (a : BitVec 7) (i : BitVec 5) (s : State) : Out :=
  vImm rp h g d a (fun x => x.sshiftRight i.toNat) s

/-- VSRAI: each lane shifted right arithmetically by the immediate (R162). -/
def execVsrai (g : BitVec 2) (d : BitVec 7) (a : BitVec 7) (i : BitVec 5) (s : State) : Out := onVec s (fun h => vsraiCore Rp.none h g d a i s)

/-- round(a + b) in fp32 (R164). -/
def vfaddCore (rp : Rp) (h : Nat) (g : BitVec 2) (d : BitVec 7) (a : BitVec 7) (b : BitVec 7) (m : BitVec 3) (s : State) : Out :=
  vFloat false rp h g d a b m.toNat fAdd s

/-- VFADD: round(a + b) in fp32 (R164). -/
def execVfadd (g : BitVec 2) (d : BitVec 7) (a : BitVec 7) (b : BitVec 7) (m : BitVec 3) (s : State) : Out := onVec s (fun h => vfaddCore Rp.none h g d a b m s)

/-- round(a − b) in fp32 (R164). -/
def vfsubCore (rp : Rp) (h : Nat) (g : BitVec 2) (d : BitVec 7) (a : BitVec 7) (b : BitVec 7) (m : BitVec 3) (s : State) : Out :=
  vFloat false rp h g d a b m.toNat fSub s

/-- VFSUB: round(a − b) in fp32 (R164). -/
def execVfsub (g : BitVec 2) (d : BitVec 7) (a : BitVec 7) (b : BitVec 7) (m : BitVec 3) (s : State) : Out := onVec s (fun h => vfsubCore Rp.none h g d a b m s)

/-- round(a × b) in fp32 (R164). -/
def vfmulCore (rp : Rp) (h : Nat) (g : BitVec 2) (d : BitVec 7) (a : BitVec 7) (b : BitVec 7) (m : BitVec 3) (s : State) : Out :=
  vFloat false rp h g d a b m.toNat fMul s

/-- VFMUL: round(a × b) in fp32 (R164). -/
def execVfmul (g : BitVec 2) (d : BitVec 7) (a : BitVec 7) (b : BitVec 7) (m : BitVec 3) (s : State) : Out := onVec s (fun h => vfmulCore Rp.none h g d a b m s)

/-- round(a × b + d) in fp32, one rounding (R164). -/
def vfmaCore (rp : Rp) (h : Nat) (g : BitVec 2) (d : BitVec 7) (a : BitVec 7) (b : BitVec 7) (m : BitVec 3) (s : State) : Out :=
  vMap false 4 rp h g d (some a) (some b) true m.toNat (fun r x y z => fFma .fp32 r x y z) s

/-- VFMA: round(a × b + d) in fp32, one rounding (R164). -/
def execVfma (g : BitVec 2) (d : BitVec 7) (a : BitVec 7) (b : BitVec 7) (m : BitVec 3) (s : State) : Out := onVec s (fun h => vfmaCore Rp.none h g d a b m s)

/-- Minimum in fp32 (R165). -/
def vfminCore (rp : Rp) (h : Nat) (g : BitVec 2) (d : BitVec 7) (a : BitVec 7) (b : BitVec 7) (m : BitVec 3) (s : State) : Out :=
  vFloat false rp h g d a b m.toNat (fun f _ x y => (fMin f x y, Flg.none)) s

/-- VFMIN: minimum in fp32 (R165). -/
def execVfmin (g : BitVec 2) (d : BitVec 7) (a : BitVec 7) (b : BitVec 7) (m : BitVec 3) (s : State) : Out := onVec s (fun h => vfminCore Rp.none h g d a b m s)

/-- Maximum in fp32 (R165). -/
def vfmaxCore (rp : Rp) (h : Nat) (g : BitVec 2) (d : BitVec 7) (a : BitVec 7) (b : BitVec 7) (m : BitVec 3) (s : State) : Out :=
  vFloat false rp h g d a b m.toNat (fun f _ x y => (fMax f x y, Flg.none)) s

/-- VFMAX: maximum in fp32 (R165). -/
def execVfmax (g : BitVec 2) (d : BitVec 7) (a : BitVec 7) (b : BitVec 7) (m : BitVec 3) (s : State) : Out := onVec s (fun h => vfmaxCore Rp.none h g d a b m s)

/-- round(a + b) in fp64 (R164). -/
def vdaddCore (rp : Rp) (h : Nat) (g : BitVec 2) (d : BitVec 7) (a : BitVec 7) (b : BitVec 7) (m : BitVec 3) (s : State) : Out :=
  vFloat true rp h g d a b m.toNat fAdd s

/-- VDADD: round(a + b) in fp64 (R164). -/
def execVdadd (g : BitVec 2) (d : BitVec 7) (a : BitVec 7) (b : BitVec 7) (m : BitVec 3) (s : State) : Out := onVec s (fun h => vdaddCore Rp.none h g d a b m s)

/-- round(a − b) in fp64 (R164). -/
def vdsubCore (rp : Rp) (h : Nat) (g : BitVec 2) (d : BitVec 7) (a : BitVec 7) (b : BitVec 7) (m : BitVec 3) (s : State) : Out :=
  vFloat true rp h g d a b m.toNat fSub s

/-- VDSUB: round(a − b) in fp64 (R164). -/
def execVdsub (g : BitVec 2) (d : BitVec 7) (a : BitVec 7) (b : BitVec 7) (m : BitVec 3) (s : State) : Out := onVec s (fun h => vdsubCore Rp.none h g d a b m s)

/-- round(a × b) in fp64 (R164). -/
def vdmulCore (rp : Rp) (h : Nat) (g : BitVec 2) (d : BitVec 7) (a : BitVec 7) (b : BitVec 7) (m : BitVec 3) (s : State) : Out :=
  vFloat true rp h g d a b m.toNat fMul s

/-- VDMUL: round(a × b) in fp64 (R164). -/
def execVdmul (g : BitVec 2) (d : BitVec 7) (a : BitVec 7) (b : BitVec 7) (m : BitVec 3) (s : State) : Out := onVec s (fun h => vdmulCore Rp.none h g d a b m s)

/-- round(a × b + d) in fp64, one rounding (R164). -/
def vdfmaCore (rp : Rp) (h : Nat) (g : BitVec 2) (d : BitVec 7) (a : BitVec 7) (b : BitVec 7) (m : BitVec 3) (s : State) : Out :=
  vMap true 6 rp h g d (some a) (some b) true m.toNat (fun r x y z => fFma .fp64 r x y z) s

/-- VDFMA: round(a × b + d) in fp64, one rounding (R164). -/
def execVdfma (g : BitVec 2) (d : BitVec 7) (a : BitVec 7) (b : BitVec 7) (m : BitVec 3) (s : State) : Out := onVec s (fun h => vdfmaCore Rp.none h g d a b m s)

/-- Minimum in fp64 (R165). -/
def vdminCore (rp : Rp) (h : Nat) (g : BitVec 2) (d : BitVec 7) (a : BitVec 7) (b : BitVec 7) (m : BitVec 3) (s : State) : Out :=
  vFloat true rp h g d a b m.toNat (fun f _ x y => (fMin f x y, Flg.none)) s

/-- VDMIN: minimum in fp64 (R165). -/
def execVdmin (g : BitVec 2) (d : BitVec 7) (a : BitVec 7) (b : BitVec 7) (m : BitVec 3) (s : State) : Out := onVec s (fun h => vdminCore Rp.none h g d a b m s)

/-- Maximum in fp64 (R165). -/
def vdmaxCore (rp : Rp) (h : Nat) (g : BitVec 2) (d : BitVec 7) (a : BitVec 7) (b : BitVec 7) (m : BitVec 3) (s : State) : Out :=
  vFloat true rp h g d a b m.toNat (fun f _ x y => (fMax f x y, Flg.none)) s

/-- VDMAX: maximum in fp64 (R165). -/
def execVdmax (g : BitVec 2) (d : BitVec 7) (a : BitVec 7) (b : BitVec 7) (m : BitVec 3) (s : State) : Out := onVec s (fun h => vdmaxCore Rp.none h g d a b m s)

/-- Compare of fp32 lanes into a mask (R166). -/
def vfcmpCore (rp : Rp) (h : Nat) (g : BitVec 2) (c : BitVec 4) (e : BitVec 3) (a : BitVec 7) (b : BitVec 7) (m : BitVec 3) (s : State) : Out :=
  vCompare false 4 rp h g e a b m.toNat (fCmp .fp32 c.toNat) s

/-- VFCMP: compare of fp32 lanes into a mask (R166). -/
def execVfcmp (g : BitVec 2) (c : BitVec 4) (e : BitVec 3) (a : BitVec 7) (b : BitVec 7) (m : BitVec 3) (s : State) : Out := onVec s (fun h => vfcmpCore Rp.none h g c e a b m s)

/-- Compare of int32 lanes into a mask (R166). -/
def vicmpCore (rp : Rp) (h : Nat) (g : BitVec 2) (c : BitVec 4) (e : BitVec 3) (a : BitVec 7) (b : BitVec 7) (m : BitVec 3) (s : State) : Out :=
  vCompare false 2 rp h g e a b m.toNat (iCmp c.toNat) s

/-- VICMP: compare of int32 lanes into a mask (R166). -/
def execVicmp (g : BitVec 2) (c : BitVec 4) (e : BitVec 3) (a : BitVec 7) (b : BitVec 7) (m : BitVec 3) (s : State) : Out := onVec s (fun h => vicmpCore Rp.none h g c e a b m s)

/-- Compare of fp64 elements into a mask (R166). -/
def vdcmpCore (rp : Rp) (h : Nat) (g : BitVec 2) (c : BitVec 4) (e : BitVec 3) (a : BitVec 7) (b : BitVec 7) (m : BitVec 3) (s : State) : Out :=
  vCompare true 6 rp h g e a b m.toNat (fCmp .fp64 c.toNat) s

/-- VDCMP: compare of fp64 elements into a mask (R166). -/
def execVdcmp (g : BitVec 2) (c : BitVec 4) (e : BitVec 3) (a : BitVec 7) (b : BitVec 7) (m : BitVec 3) (s : State) : Out := onVec s (fun h => vdcmpCore Rp.none h g c e a b m s)

/-- Lanes of a where the mask is 1, else of b (R163). -/
def vselCore (rp : Rp) (h : Nat) (g : BitVec 2) (d : BitVec 7) (a : BitVec 7) (b : BitVec 7) (m : BitVec 3) (s : State) : Out :=
  vFixed rp h g 2 [.vreg a.toNat, .vreg b.toNat, .mask m.toNat] [.vreg d.toNat] (fun s =>
    let mk := laneBits (s.mread h m.toNat)
    VRes.of [vwReg (s.res h) Rp.none d.toNat ((s.vread h a.toNat &&& mk) ||| (s.vread h b.toNat &&& ~~~mk)) allBits]) s

/-- VSEL: lanes of a where the mask is 1, else of b (R163). -/
def execVsel (g : BitVec 2) (d : BitVec 7) (a : BitVec 7) (b : BitVec 7) (m : BitVec 3) (s : State) : Out := onVec s (fun h => vselCore Rp.none h g d a b m s)

/-- Four int8 products added into an int32 lane, saturating (R63, R169). -/
def vdotCore (rp : Rp) (h : Nat) (g : BitVec 2) (d : BitVec 7) (a : BitVec 7) (b : BitVec 7) (m : BitVec 3) (s : State) : Out :=
  vMap false 4 rp h g d (some a) (some b) true m.toNat (fun _ x y z => dot8 x y z) s

/-- VDOT: four int8 products added into an int32 lane, saturating (R63, R169). -/
def execVdot (g : BitVec 2) (d : BitVec 7) (a : BitVec 7) (b : BitVec 7) (m : BitVec 3) (s : State) : Out := onVec s (fun h => vdotCore Rp.none h g d a b m s)

/-- Log-domain product (R81, R170). -/
def vlmulCore (rp : Rp) (h : Nat) (g : BitVec 2) (d : BitVec 7) (a : BitVec 7) (b : BitVec 7) (m : BitVec 3) (s : State) : Out :=
  vMap false 8 rp h g d (some a) (some b) false m.toNat (fun _ x y _ => lgMul x y) s

/-- VLMUL: log-domain product (R81, R170). -/
def execVlmul (g : BitVec 2) (d : BitVec 7) (a : BitVec 7) (b : BitVec 7) (m : BitVec 3) (s : State) : Out := onVec s (fun h => vlmulCore Rp.none h g d a b m s)

/-- Log-domain quotient (R81, R170). -/
def vldivCore (rp : Rp) (h : Nat) (g : BitVec 2) (d : BitVec 7) (a : BitVec 7) (b : BitVec 7) (m : BitVec 3) (s : State) : Out :=
  vMap false 8 rp h g d (some a) (some b) false m.toNat (fun _ x y _ => lgDiv x y) s

/-- VLDIV: log-domain quotient (R81, R170). -/
def execVldiv (g : BitVec 2) (d : BitVec 7) (a : BitVec 7) (b : BitVec 7) (m : BitVec 3) (s : State) : Out := onVec s (fun h => vldivCore Rp.none h g d a b m s)

/-- Log-domain power of vd (R81, R170). -/
def vlpowCore (rp : Rp) (h : Nat) (g : BitVec 2) (d : BitVec 7) (p : BitVec 16) (s : State) : Out :=
  vMap false 8 rp h g d none none true 0 (fun _ _ _ x => lgPow x p.toInt) s

/-- VLPOW: log-domain power of vd (R81, R170). -/
def execVlpow (g : BitVec 2) (d : BitVec 7) (p : BitVec 16) (s : State) : Out := onVec s (fun h => vlpowCore Rp.none h g d p s)

/-- Lane i takes lane b[i] mod 128 of a (R174). -/
def vpermCore (rp : Rp) (h : Nat) (g : BitVec 2) (d : BitVec 7) (a : BitVec 7) (b : BitVec 7) (m : BitVec 3) (s : State) : Out :=
  vFixed rp h g 3 [.vreg a.toNat, .vreg b.toNat, .mask m.toNat] [.vreg d.toNat] (fun s =>
    let va := s.vread h a.toNat
    let vb := s.vread h b.toNat
    VRes.of [vwReg (s.res h) rp d.toNat (ofLanes (fun i => lane va ((lane vb i).toNat % 128))) (laneBits (s.mread h m.toNat))]) s

/-- VPERM: lane i takes lane b[i] mod 128 of a (R174). -/
def execVperm (g : BitVec 2) (d : BitVec 7) (a : BitVec 7) (b : BitVec 7) (m : BitVec 3) (s : State) : Out := onVec s (fun h => vpermCore Rp.none h g d a b m s)

/-- One compare-exchange stage of the keys in vd (R175). -/
def vcmpxCore (rp : Rp) (h : Nat) (g : BitVec 2) (d : BitVec 7) (t : BitVec 1) (e : BitVec 1) (b : BitVec 4) (j : BitVec 3) (s : State) : Out :=
  vFixed rp h g 3 [.vreg d.toNat] [.vreg d.toNat] (fun s =>
    let vd := s.vread h d.toNat
    VRes.of [vwReg (s.res h) rp d.toNat (cmpxMove t e b j vd vd) allBits]) s

/-- VCMPX: one compare-exchange stage of the keys in vd (R175). -/
def execVcmpx (g : BitVec 2) (d : BitVec 7) (t : BitVec 1) (e : BitVec 1) (b : BitVec 4) (j : BitVec 3) (s : State) : Out := onVec s (fun h => vcmpxCore Rp.none h g d t e b j s)

/-- A compare-exchange stage that moves the payload in va (R175). -/
def vcmpxPayloadCore (rp : Rp) (h : Nat) (g : BitVec 2) (d : BitVec 7) (a : BitVec 7) (t : BitVec 1) (e : BitVec 1) (b : BitVec 4) (j : BitVec 3) (s : State) : Out :=
  vFixed rp h g 3 [.vreg d.toNat, .vreg a.toNat] [.vreg d.toNat, .vreg a.toNat] (fun s =>
    let vd := s.vread h d.toNat
    VRes.of [vwReg (s.res h) rp d.toNat (cmpxMove t e b j vd vd) allBits,
      vwReg (s.res h) rp a.toNat (cmpxMove t e b j vd (s.vread h a.toNat)) allBits]) s

/-- VCMPXPAYLOAD: a compare-exchange stage that moves the payload in va (R175). -/
def execVcmpxPayload (g : BitVec 2) (d : BitVec 7) (a : BitVec 7) (t : BitVec 1) (e : BitVec 1) (b : BitVec 4) (j : BitVec 3) (s : State) : Out := onVec s (fun h => vcmpxPayloadCore Rp.none h g d a t e b j s)

/-- k[31:0] to every lane (R177). -/
def vbcastCore (rp : Rp) (h : Nat) (g : BitVec 2) (d : BitVec 7) (k : BitVec 5) (s : State) : Out :=
  vFixed rp h g 2 [] [.vreg d.toNat] (fun s => VRes.of [vwReg (s.res h) rp d.toNat (ofLanes (fun _ => (s.kread h k.toNat).setWidth 32)) allBits]) s

/-- VBCAST: k[31:0] to every lane (R177). -/
def execVbcast (g : BitVec 2) (d : BitVec 7) (k : BitVec 5) (s : State) : Out := onVec s (fun h => vbcastCore Rp.none h g d k s)

/-- k to every fp64 element (R177). -/
def vbcastDCore (rp : Rp) (h : Nat) (g : BitVec 2) (d : BitVec 7) (k : BitVec 5) (s : State) : Out :=
  vFixed rp h g 2 [] [.vreg d.toNat] (fun s => VRes.of [vwReg (s.res h) rp d.toNat (ofElems (fun _ => s.kread h k.toNat)) allBits]) s

/-- VBCASTD: k to every fp64 element (R177). -/
def execVbcastD (g : BitVec 2) (d : BitVec 7) (k : BitVec 5) (s : State) : Out := onVec s (fun h => vbcastDCore Rp.none h g d k s)

/-- k(d) takes a lane, sign-extended (R178). -/
def vextrCore (rp : Rp) (h : Nat) (g : BitVec 2) (d : BitVec 5) (a : BitVec 7) (l : BitVec 7) (s : State) : Out :=
  vFixed rp h g 2 [.vreg a.toNat] [] (fun s => { VRes.of [] with kw := some (d.toNat, (lane (s.vread h a.toNat) l.toNat).signExtend 64) }) s

/-- VEXTR: k(d) takes a lane, sign-extended (R178). -/
def execVextr (g : BitVec 2) (d : BitVec 5) (a : BitVec 7) (l : BitVec 7) (s : State) : Out := onVec s (fun h => vextrCore Rp.none h g d a l s)

/-- k(d) takes two lanes (R178). -/
def vextrDCore (rp : Rp) (h : Nat) (g : BitVec 2) (d : BitVec 5) (a : BitVec 7) (l : BitVec 7) (s : State) : Out :=
  vFixed rp h g 2 [.vreg a.toNat] [] (fun s => { VRes.of [] with kw := some (d.toNat, elem (s.vread h a.toNat) (l.toNat / 2)) }) s

/-- VEXTRD: k(d) takes two lanes (R178). -/
def execVextrD (g : BitVec 2) (d : BitVec 5) (a : BitVec 7) (l : BitVec 7) (s : State) : Out := onVec s (fun h => vextrDCore Rp.none h g d a l s)

/-- Conversion with a named mode (R171, R172). -/
def vcvtCore (rp : Rp) (h : Nat) (g : BitVec 2) (d : BitVec 7) (a : BitVec 7) (t : BitVec 4) (c : BitVec 4) (r : BitVec 2) (s : State) : Out :=
  vConvert r.toNat rp h g d a t c s

/-- VCVT: conversion with a named mode (R171, R172). -/
def execVcvt (g : BitVec 2) (d : BitVec 7) (a : BitVec 7) (t : BitVec 4) (c : BitVec 4) (r : BitVec 2) (s : State) : Out := onVec s (fun h => vcvtCore Rp.none h g d a t c r s)

/-- Conversion in the stochastic or the resident mode (R171, R172). -/
def vcvtSrCore (rp : Rp) (h : Nat) (g : BitVec 2) (d : BitVec 7) (a : BitVec 7) (t : BitVec 4) (c : BitVec 4) (r : BitVec 2) (s : State) : Out :=
  vConvert (4 + r.toNat) rp h g d a t c s

/-- VCVTSR: conversion in the stochastic or the resident mode (R171, R172). -/
def execVcvtSr (g : BitVec 2) (d : BitVec 7) (a : BitVec 7) (t : BitVec 4) (c : BitVec 4) (r : BitVec 2) (s : State) : Out := onVec s (fun h => vcvtSrCore Rp.none h g d a t c r s)

/-- vd := va (R168). -/
def vmovCore (rp : Rp) (h : Nat) (g : BitVec 2) (d : BitVec 7) (a : BitVec 7) (m : BitVec 2) (s : State) : Out :=
  vUnary false 2 rp h g d a m.toNat (fun x => (x, Flg.none)) s

/-- VMOV: vd := va (R168). -/
def execVmov (g : BitVec 2) (d : BitVec 7) (a : BitVec 7) (m : BitVec 2) (s : State) : Out := onVec s (fun h => vmovCore Rp.none h g d a m s)

/-- Bitwise NOT (R168). -/
def vnotCore (rp : Rp) (h : Nat) (g : BitVec 2) (d : BitVec 7) (a : BitVec 7) (m : BitVec 2) (s : State) : Out :=
  vUnary false 2 rp h g d a m.toNat (fun x => ((~~~(BitVec.ofNat 32 x)).toNat, Flg.none)) s

/-- VNOT: bitwise NOT (R168). -/
def execVnot (g : BitVec 2) (d : BitVec 7) (a : BitVec 7) (m : BitVec 2) (s : State) : Out := onVec s (fun h => vnotCore Rp.none h g d a m s)

/-- Absolute value mod 2^32 (R168). -/
def viabsCore (rp : Rp) (h : Nat) (g : BitVec 2) (d : BitVec 7) (a : BitVec 7) (m : BitVec 2) (s : State) : Out :=
  vUnary false 2 rp h g d a m.toNat (fun x => ((let v := BitVec.ofNat 32 x; if v.slt 0 then 0 - v else v).toNat, Flg.none)) s

/-- VIABS: absolute value mod 2^32 (R168). -/
def execViabs (g : BitVec 2) (d : BitVec 7) (a : BitVec 7) (m : BitVec 2) (s : State) : Out := onVec s (fun h => viabsCore Rp.none h g d a m s)

/-- 0 − va mod 2^32 (R168). -/
def vinegCore (rp : Rp) (h : Nat) (g : BitVec 2) (d : BitVec 7) (a : BitVec 7) (m : BitVec 2) (s : State) : Out :=
  vUnary false 2 rp h g d a m.toNat (fun x => ((0 - BitVec.ofNat 32 x).toNat, Flg.none)) s

/-- VINEG: 0 − va mod 2^32 (R168). -/
def execVineg (g : BitVec 2) (d : BitVec 7) (a : BitVec 7) (m : BitVec 2) (s : State) : Out := onVec s (fun h => vinegCore Rp.none h g d a m s)

/-- Bit 31 inverted (R168). -/
def vfnegCore (rp : Rp) (h : Nat) (g : BitVec 2) (d : BitVec 7) (a : BitVec 7) (m : BitVec 2) (s : State) : Out :=
  vUnary false 4 rp h g d a m.toNat (fun x => ((BitVec.ofNat 32 x ^^^ 0x80000000#32).toNat, Flg.none)) s

/-- VFNEG: bit 31 inverted (R168). -/
def execVfneg (g : BitVec 2) (d : BitVec 7) (a : BitVec 7) (m : BitVec 2) (s : State) : Out := onVec s (fun h => vfnegCore Rp.none h g d a m s)

/-- Bit 31 cleared (R168). -/
def vfabsCore (rp : Rp) (h : Nat) (g : BitVec 2) (d : BitVec 7) (a : BitVec 7) (m : BitVec 2) (s : State) : Out :=
  vUnary false 4 rp h g d a m.toNat (fun x => (x % 2 ^ 31, Flg.none)) s

/-- VFABS: bit 31 cleared (R168). -/
def execVfabs (g : BitVec 2) (d : BitVec 7) (a : BitVec 7) (m : BitVec 2) (s : State) : Out := onVec s (fun h => vfabsCore Rp.none h g d a m s)

/-- Bit 63 of each element inverted (R168). -/
def vdnegCore (rp : Rp) (h : Nat) (g : BitVec 2) (d : BitVec 7) (a : BitVec 7) (m : BitVec 2) (s : State) : Out :=
  vUnary true 4 rp h g d a m.toNat (fun x => ((BitVec.ofNat 64 x ^^^ 0x8000000000000000#64).toNat, Flg.none)) s

/-- VDNEG: bit 63 of each element inverted (R168). -/
def execVdneg (g : BitVec 2) (d : BitVec 7) (a : BitVec 7) (m : BitVec 2) (s : State) : Out := onVec s (fun h => vdnegCore Rp.none h g d a m s)

/-- Bit 63 of each element cleared (R168). -/
def vdabsCore (rp : Rp) (h : Nat) (g : BitVec 2) (d : BitVec 7) (a : BitVec 7) (m : BitVec 2) (s : State) : Out :=
  vUnary true 4 rp h g d a m.toNat (fun x => (x % 2 ^ 63, Flg.none)) s

/-- VDABS: bit 63 of each element cleared (R168). -/
def execVdabs (g : BitVec 2) (d : BitVec 7) (a : BitVec 7) (m : BitVec 2) (s : State) : Out := onVec s (fun h => vdabsCore Rp.none h g d a m s)

/-- Leading zeros (R168). -/
def vclzCore (rp : Rp) (h : Nat) (g : BitVec 2) (d : BitVec 7) (a : BitVec 7) (m : BitVec 2) (s : State) : Out :=
  vUnary false 2 rp h g d a m.toNat (fun x => (clz32 x, Flg.none)) s

/-- VCLZ: leading zeros (R168). -/
def execVclz (g : BitVec 2) (d : BitVec 7) (a : BitVec 7) (m : BitVec 2) (s : State) : Out := onVec s (fun h => vclzCore Rp.none h g d a m s)

/-- One bits (R168). -/
def vpopcCore (rp : Rp) (h : Nat) (g : BitVec 2) (d : BitVec 7) (a : BitVec 7) (m : BitVec 2) (s : State) : Out :=
  vUnary false 2 rp h g d a m.toNat (fun x => (popN 32 x, Flg.none)) s

/-- VPOPC: one bits (R168). -/
def execVpopc (g : BitVec 2) (d : BitVec 7) (a : BitVec 7) (m : BitVec 2) (s : State) : Out := onVec s (fun h => vpopcCore Rp.none h g d a m s)

/-- fp32 to lg32 (R79, R170). -/
def vtologCore (rp : Rp) (h : Nat) (g : BitVec 2) (d : BitVec 7) (a : BitVec 7) (m : BitVec 2) (s : State) : Out :=
  vUnary false 8 rp h g d a m.toNat toLog s

/-- VTOLOG: fp32 to lg32 (R79, R170). -/
def execVtolog (g : BitVec 2) (d : BitVec 7) (a : BitVec 7) (m : BitVec 2) (s : State) : Out := onVec s (fun h => vtologCore Rp.none h g d a m s)

/-- lg32 to fp32 (R80, R170). -/
def vfromlogCore (rp : Rp) (h : Nat) (g : BitVec 2) (d : BitVec 7) (a : BitVec 7) (m : BitVec 2) (s : State) : Out :=
  vUnary false 8 rp h g d a m.toNat fromLog s

/-- VFROMLOG: lg32 to fp32 (R80, R170). -/
def execVfromlog (g : BitVec 2) (d : BitVec 7) (a : BitVec 7) (m : BitVec 2) (s : State) : Out := onVec s (fun h => vfromlogCore Rp.none h g d a m s)

/-- fp32 exponent to lg32 (R82, R170). -/
def vexp2lCore (rp : Rp) (h : Nat) (g : BitVec 2) (d : BitVec 7) (a : BitVec 7) (m : BitVec 2) (s : State) : Out :=
  vUnary false 8 rp h g d a m.toNat exp2L s

/-- VEXP2L: fp32 exponent to lg32 (R82, R170). -/
def execVexp2l (g : BitVec 2) (d : BitVec 7) (a : BitVec 7) (m : BitVec 2) (s : State) : Out := onVec s (fun h => vexp2lCore Rp.none h g d a m s)

/-- lg32 log field to fp32 (R82, R170). -/
def vlog2fCore (rp : Rp) (h : Nat) (g : BitVec 2) (d : BitVec 7) (a : BitVec 7) (m : BitVec 2) (s : State) : Out :=
  vUnary false 8 rp h g d a m.toNat log2F s

/-- VLOG2F: lg32 log field to fp32 (R82, R170). -/
def execVlog2f (g : BitVec 2) (d : BitVec 7) (a : BitVec 7) (m : BitVec 2) (s : State) : Out := onVec s (fun h => vlog2fCore Rp.none h g d a m s)

/-- Mask a AND b (R167). -/
def mandCore (rp : Rp) (h : Nat) (g : BitVec 2) (d : BitVec 3) (b : BitVec 3) (a : BitVec 3) (s : State) : Out :=
  vMaskOp rp h g d [a, b] (fun v => v a &&& v b) s

/-- MAND: mask a AND b (R167). -/
def execMand (g : BitVec 2) (d : BitVec 3) (b : BitVec 3) (a : BitVec 3) (s : State) : Out := onVec s (fun h => mandCore Rp.none h g d b a s)

/-- Mask a OR b (R167). -/
def morCore (rp : Rp) (h : Nat) (g : BitVec 2) (d : BitVec 3) (b : BitVec 3) (a : BitVec 3) (s : State) : Out :=
  vMaskOp rp h g d [a, b] (fun v => v a ||| v b) s

/-- MOR: mask a OR b (R167). -/
def execMor (g : BitVec 2) (d : BitVec 3) (b : BitVec 3) (a : BitVec 3) (s : State) : Out := onVec s (fun h => morCore Rp.none h g d b a s)

/-- Mask a XOR b (R167). -/
def mxorCore (rp : Rp) (h : Nat) (g : BitVec 2) (d : BitVec 3) (b : BitVec 3) (a : BitVec 3) (s : State) : Out :=
  vMaskOp rp h g d [a, b] (fun v => v a ^^^ v b) s

/-- MXOR: mask a XOR b (R167). -/
def execMxor (g : BitVec 2) (d : BitVec 3) (b : BitVec 3) (a : BitVec 3) (s : State) : Out := onVec s (fun h => mxorCore Rp.none h g d b a s)

/-- Mask a AND NOT b (R167). -/
def mandnCore (rp : Rp) (h : Nat) (g : BitVec 2) (d : BitVec 3) (b : BitVec 3) (a : BitVec 3) (s : State) : Out :=
  vMaskOp rp h g d [a, b] (fun v => v a &&& ~~~(v b)) s

/-- MANDN: mask a AND NOT b (R167). -/
def execMandn (g : BitVec 2) (d : BitVec 3) (b : BitVec 3) (a : BitVec 3) (s : State) : Out := onVec s (fun h => mandnCore Rp.none h g d b a s)

/-- Mask NOT a (R167). -/
def mnotCore (rp : Rp) (h : Nat) (g : BitVec 2) (d : BitVec 3) (a : BitVec 3) (s : State) : Out :=
  vMaskOp rp h g d [a] (fun v => ~~~(v a)) s

/-- MNOT: mask NOT a (R167). -/
def execMnot (g : BitVec 2) (d : BitVec 3) (a : BitVec 3) (s : State) : Out := onVec s (fun h => mnotCore Rp.none h g d a s)

/-- Mask a (R167). -/
def mmovCore (rp : Rp) (h : Nat) (g : BitVec 2) (d : BitVec 3) (a : BitVec 3) (s : State) : Out :=
  vMaskOp rp h g d [a] (fun v => v a) s

/-- MMOV: mask a (R167). -/
def execMmov (g : BitVec 2) (d : BitVec 3) (a : BitVec 3) (s : State) : Out := onVec s (fun h => mmovCore Rp.none h g d a s)

/-- k(d) takes the number of one bits of a mask (R167). -/
def mpopcCore (rp : Rp) (h : Nat) (g : BitVec 2) (d : BitVec 5) (a : BitVec 3) (s : State) : Out :=
  vFixed rp h g 2 [.mask a.toNat] [] (fun s => { VRes.of [] with kw := some (d.toNat, BitVec.ofNat 64 (popN 128 (s.mread h a.toNat).toNat)) }) s

/-- MPOPC: k(d) takes the number of one bits of a mask (R167). -/
def execMpopc (g : BitVec 2) (d : BitVec 5) (a : BitVec 3) (s : State) : Out := onVec s (fun h => mpopcCore Rp.none h g d a s)

/-- Sum mod 2^32 in the fixed-order tree (R176). -/
def vrsumCore (rp : Rp) (h : Nat) (g : BitVec 2) (d : BitVec 7) (a : BitVec 7) (m : BitVec 2) (s : State) : Out :=
  vReduce false rp h g d a m.toNat (fun _ x y => ((x + y) % 2 ^ 32, Flg.none)) 0 s

/-- VRSUM: sum mod 2^32 in the fixed-order tree (R176). -/
def execVrsum (g : BitVec 2) (d : BitVec 7) (a : BitVec 7) (m : BitVec 2) (s : State) : Out := onVec s (fun h => vrsumCore Rp.none h g d a m s)

/-- Signed minimum in the fixed-order tree (R176). -/
def vrminCore (rp : Rp) (h : Nat) (g : BitVec 2) (d : BitVec 7) (a : BitVec 7) (m : BitVec 2) (s : State) : Out :=
  vReduce false rp h g d a m.toNat (fun _ x y => (if sltN x y then x else y, Flg.none)) 0x7FFFFFFF s

/-- VRMIN: signed minimum in the fixed-order tree (R176). -/
def execVrmin (g : BitVec 2) (d : BitVec 7) (a : BitVec 7) (m : BitVec 2) (s : State) : Out := onVec s (fun h => vrminCore Rp.none h g d a m s)

/-- Signed maximum in the fixed-order tree (R176). -/
def vrmaxCore (rp : Rp) (h : Nat) (g : BitVec 2) (d : BitVec 7) (a : BitVec 7) (m : BitVec 2) (s : State) : Out :=
  vReduce false rp h g d a m.toNat (fun _ x y => (if sltN x y then y else x, Flg.none)) 0x80000000 s

/-- VRMAX: signed maximum in the fixed-order tree (R176). -/
def execVrmax (g : BitVec 2) (d : BitVec 7) (a : BitVec 7) (m : BitVec 2) (s : State) : Out := onVec s (fun h => vrmaxCore Rp.none h g d a m s)

/-- fp32 sum in the fixed-order tree (R176). -/
def vrfsumCore (rp : Rp) (h : Nat) (g : BitVec 2) (d : BitVec 7) (a : BitVec 7) (m : BitVec 2) (s : State) : Out :=
  vReduce false rp h g d a m.toNat (fAdd .fp32) 0 s

/-- VRFSUM: fp32 sum in the fixed-order tree (R176). -/
def execVrfsum (g : BitVec 2) (d : BitVec 7) (a : BitVec 7) (m : BitVec 2) (s : State) : Out := onVec s (fun h => vrfsumCore Rp.none h g d a m s)

/-- fp32 minimum in the fixed-order tree (R176). -/
def vrfminCore (rp : Rp) (h : Nat) (g : BitVec 2) (d : BitVec 7) (a : BitVec 7) (m : BitVec 2) (s : State) : Out :=
  vReduce false rp h g d a m.toNat (fun _ x y => (fMin .fp32 x y, Flg.none)) 0x7F800000 s

/-- VRFMIN: fp32 minimum in the fixed-order tree (R176). -/
def execVrfmin (g : BitVec 2) (d : BitVec 7) (a : BitVec 7) (m : BitVec 2) (s : State) : Out := onVec s (fun h => vrfminCore Rp.none h g d a m s)

/-- fp32 maximum in the fixed-order tree (R176). -/
def vrfmaxCore (rp : Rp) (h : Nat) (g : BitVec 2) (d : BitVec 7) (a : BitVec 7) (m : BitVec 2) (s : State) : Out :=
  vReduce false rp h g d a m.toNat (fun _ x y => (fMax .fp32 x y, Flg.none)) 0xFF800000 s

/-- VRFMAX: fp32 maximum in the fixed-order tree (R176). -/
def execVrfmax (g : BitVec 2) (d : BitVec 7) (a : BitVec 7) (m : BitVec 2) (s : State) : Out := onVec s (fun h => vrfmaxCore Rp.none h g d a m s)

/-- fp64 sum in the fixed-order tree (R176). -/
def vrdsumCore (rp : Rp) (h : Nat) (g : BitVec 2) (d : BitVec 7) (a : BitVec 7) (m : BitVec 2) (s : State) : Out :=
  vReduce true rp h g d a m.toNat (fAdd .fp64) 0 s

/-- VRDSUM: fp64 sum in the fixed-order tree (R176). -/
def execVrdsum (g : BitVec 2) (d : BitVec 7) (a : BitVec 7) (m : BitVec 2) (s : State) : Out := onVec s (fun h => vrdsumCore Rp.none h g d a m s)

/-- fp64 minimum in the fixed-order tree (R176). -/
def vrdminCore (rp : Rp) (h : Nat) (g : BitVec 2) (d : BitVec 7) (a : BitVec 7) (m : BitVec 2) (s : State) : Out :=
  vReduce true rp h g d a m.toNat (fun _ x y => (fMin .fp64 x y, Flg.none)) 0x7FF0000000000000 s

/-- VRDMIN: fp64 minimum in the fixed-order tree (R176). -/
def execVrdmin (g : BitVec 2) (d : BitVec 7) (a : BitVec 7) (m : BitVec 2) (s : State) : Out := onVec s (fun h => vrdminCore Rp.none h g d a m s)

/-- fp64 maximum in the fixed-order tree (R176). -/
def vrdmaxCore (rp : Rp) (h : Nat) (g : BitVec 2) (d : BitVec 7) (a : BitVec 7) (m : BitVec 2) (s : State) : Out :=
  vReduce true rp h g d a m.toNat (fun _ x y => (fMax .fp64 x y, Flg.none)) 0xFFF0000000000000 s

/-- VRDMAX: fp64 maximum in the fixed-order tree (R176). -/
def execVrdmax (g : BitVec 2) (d : BitVec 7) (a : BitVec 7) (m : BitVec 2) (s : State) : Out := onVec s (fun h => vrdmaxCore Rp.none h g d a m s)

/-- k(d) := k(a) (R179). -/
def kmovCore (rp : Rp) (h : Nat) (g : BitVec 2) (d : BitVec 5) (a : BitVec 5) (s : State) : Out :=
  vKop rp h g d (fun s => s.kread h a.toNat) s

/-- KMOV: k(d) := k(a) (R179). -/
def execKmov (g : BitVec 2) (d : BitVec 5) (a : BitVec 5) (s : State) : Out := onVec s (fun h => kmovCore Rp.none h g d a s)

/-- k(d) := k(d) + k(a) (R179). -/
def kaddCore (rp : Rp) (h : Nat) (g : BitVec 2) (d : BitVec 5) (a : BitVec 5) (s : State) : Out :=
  vKop rp h g d (fun s => s.kread h d.toNat + s.kread h a.toNat) s

/-- KADD: k(d) := k(d) + k(a) (R179). -/
def execKadd (g : BitVec 2) (d : BitVec 5) (a : BitVec 5) (s : State) : Out := onVec s (fun h => kaddCore Rp.none h g d a s)

/-- k(d) := k(d) − k(a) (R179). -/
def ksubCore (rp : Rp) (h : Nat) (g : BitVec 2) (d : BitVec 5) (a : BitVec 5) (s : State) : Out :=
  vKop rp h g d (fun s => s.kread h d.toNat - s.kread h a.toNat) s

/-- KSUB: k(d) := k(d) − k(a) (R179). -/
def execKsub (g : BitVec 2) (d : BitVec 5) (a : BitVec 5) (s : State) : Out := onVec s (fun h => ksubCore Rp.none h g d a s)

/-- Pack of 6-bit elements (R173). -/
def vpackE3m2Core (rp : Rp) (h : Nat) (g : BitVec 2) (k : BitVec 3) (d : BitVec 7) (a : BitVec 7) (s : State) : Out :=
  vPackW 6 k.toNat rp h g d a s

/-- VPACKE3M2: pack of 6-bit elements (R173). -/
def execVpackE3m2 (g : BitVec 2) (k : BitVec 3) (d : BitVec 7) (a : BitVec 7) (s : State) : Out := onVec s (fun h => vpackE3m2Core Rp.none h g k d a s)

/-- Unpack of 6-bit elements (R173). -/
def vunpkE3m2Core (rp : Rp) (h : Nat) (g : BitVec 2) (k : BitVec 3) (d : BitVec 7) (a : BitVec 7) (s : State) : Out :=
  vUnpackW 6 k.toNat rp h g d a s

/-- VUNPKE3M2: unpack of 6-bit elements (R173). -/
def execVunpkE3m2 (g : BitVec 2) (k : BitVec 3) (d : BitVec 7) (a : BitVec 7) (s : State) : Out := onVec s (fun h => vunpkE3m2Core Rp.none h g k d a s)

/-- Pack of 16, 8, 4 or 2-bit elements (R173). -/
def vpackCore (rp : Rp) (h : Nat) (g : BitVec 2) (w : BitVec 2) (k : BitVec 4) (d : BitVec 7) (a : BitVec 7) (s : State) : Out :=
  vPackW (16 / 2 ^ w.toNat) k.toNat rp h g d a s

/-- VPACK: pack of 16, 8, 4 or 2-bit elements (R173). -/
def execVpack (g : BitVec 2) (w : BitVec 2) (k : BitVec 4) (d : BitVec 7) (a : BitVec 7) (s : State) : Out := onVec s (fun h => vpackCore Rp.none h g w k d a s)

/-- Unpack of 16, 8, 4 or 2-bit elements (R173). -/
def vunpkCore (rp : Rp) (h : Nat) (g : BitVec 2) (w : BitVec 2) (k : BitVec 4) (d : BitVec 7) (a : BitVec 7) (s : State) : Out :=
  vUnpackW (16 / 2 ^ w.toNat) k.toNat rp h g d a s

/-- VUNPK: unpack of 16, 8, 4 or 2-bit elements (R173). -/
def execVunpk (g : BitVec 2) (w : BitVec 2) (k : BitVec 4) (d : BitVec 7) (a : BitVec 7) (s : State) : Out := onVec s (fun h => vunpkCore Rp.none h g w k d a s)

end Sys2Proof.Machine
end

