-- ==== Sys2Proof/Machine/VectorMem.lean ====
section
/-!
DEFINITION. Vector memory, slab and atomic instructions (R181 to R191), WAITC (R190), the repeat prefix (R102, R103), VBR and
the vector END (R192, R193).
-/

namespace Sys2Proof.Machine

open Sys2Proof

/-! ## Lane checks at issue (R183) -/

/-- What the check of one lane says: its target, a walk to wait for, or a fault. -/
inductive LaneChk where
  | ok (t : Target)
  | miss
  | bad (f : FaultInfo)
deriving DecidableEq, Repr

/-- A scratchpad lane (R16, R182): the window before the alignment (R302). -/
def State.laneSpad (s : State) (h : Nat) (write aligned : Bool) (a : Word) : LaneChk :=
  let r := s.res h
  let fl : BitVec 8 := if write then 1 else 0
  if !r.inWindow a.toNat 1 then .bad { faultInfo 0x04 (Config.freeStateUseDetail s.fresh) with va := a, flags := fl }
  else if !aligned then .bad { faultInfo 0x05 4 with va := a, flags := fl }
  else .ok { aper := 0, pa := r.spBase + a.toNat, peer := 0, kind := 0 }

/-- A global lane (R183). -/
def State.laneGlobal (s : State) (h : Nat) (acc : Acc) (n : Nat) (aligned : Bool) (a : Word) : LaneChk :=
  let w := Who.task h .v
  if !aligned then .bad { faultInfo 0x05 (BitVec.ofNat 64 n) with va := a, flags := accFlags acc }
  else match s.translate w.tlb (s.asidOf w) (s.classOfWho w) a.toNat acc (acc.write && decide (acc ≠ .store)) with
    | .miss => .miss
    | .bad f => .bad f
    | .ok t _ => if s.dirtyOk w.tlb (s.asidOf w) a.toNat acc then .ok t else .miss

/-- The active lanes checked in increasing order: those below the first that fails, and that one (R183). -/
def checkLanes (chk : Nat → LaneChk) : List Nat → List (Nat × Target) × Option (Nat × LaneChk)
  | [] => ([], none)
  | i :: is =>
    match chk i with
    | .ok t => let (oks, f) := checkLanes chk is; ((i, t) :: oks, f)
    | c => ([], some (i, c))

/-- The wait counter that a W field names (R96). -/
def ctrOf (c : BitVec 3) : Option Nat := if c.toNat ≤ 5 then some c.toNat else none

/-- A counter that stands at 63 makes the issue a wait (R29). -/
def State.counterWait (s : State) (h : Nat) (c : Option Nat) : List Wait :=
  match c with
  | some k => if fget (0 : BitVec 6) (s.res h).wcnt k = 63 then [.counterRoom k] else []
  | none => []

/-- The counter counts an issued access; an issue that a watchdog skip let pass moves no counter (R29, R308). -/
def Resident.countUp (r : Resident) (c : Option Nat) : Resident :=
  match c with
  | some k => { r with wcnt := fput r.wcnt k (fget (0 : BitVec 6) r.wcnt k + 1) }
  | none => r

/-- A set of lanes. -/
def laneSet (l : List Nat) : BitVec 128 := l.foldl (fun m i => m ||| ((1 : BitVec 128) <<< i)) 0

/-- A vector access begins: it is listed, its counter counts it. -/
def State.beginVOp (s : State) (v : VOp) : State :=
  let skip := match v.ctr with | some k => decide (fget (0 : BitVec 6) (s.res v.h).wcnt k = 63) | none => false
  let v := { v with id := s.nextId, ctr := if skip then none else v.ctr }
  { (s.modRes v.h (fun r => r.countUp v.ctr)) with vops := s.vops ++ [v], nextId := s.nextId + 1 }

/-- A new vector access of a program. The old value of its destination (R101) is the one that stands in the register at its issue, whatever fixed-latency
write lands there later: R101 does not say which (DESIGN CHOICE, log entry 116). -/
def State.newVOp (s : State) (h : Nat) (c : Option Nat) (load remote : Bool) (d : Nat) (space : VSpace) : VOp :=
  { id := 0, h := h, iaddr := s.pcOf (.task h .v), ctr := c, load := load, remote := remote, vd := d, space := space, todo := 0,
    all := 0, addrs := [], data := s.vread h d, failed := 0, fault := none, old := fget (0 : VReg) (s.res h).vregs d, order := 0,
    finished := false, part := false }

/-- The lanes of a global access join the accesses in flight (R183, R185). -/
def State.pushLanes (s : State) (h vop : Nat) (load : Bool) (data : VReg) (addr : Nat → Word) (lanes : List (Nat × Target)) : State :=
  let w := Who.task h .v
  lanes.foldl (fun s it =>
    let va := (addr it.1).toNat
    let s := s.touchTlb w.tlb (s.asidOf w) va (if load then .load else .store)
    let g := if load then mkLoad w s it.2 va 4 false 0 (.lane vop it.1)
      else { mkStore w s it.2 va (leBytes 4 (lane data it.1).toNat) false 0 false with dest := .lane vop it.1 }
    s.pushGacc g) s

/-- Masked-off lanes of a load into an output port or under Z read zero (R158, R188). -/
def Resident.zeroLanes (r : Resident) (d : Nat) (m : BitVec 128) : Resident :=
  { r with vregs := fset (0 : VReg) r.vregs d (fget (0 : VReg) r.vregs d &&& ~~~laneBits m) }

/-- What the fault of a lane leaves in the TLB: a failed walk is used once (R307). -/
def State.laneFault (s : State) (h va : Nat) : State := s.touchFault (Who.task h .v).tlb (s.asidOf (.task h .v)) va

/-- A vector load or store (R181 to R185): its lanes are checked; those below a failing one are performed, no other lane is touched (R311). Masked-off lanes that
read zero (R102, R188) are the lanes this issue covers: one that follows a lane fault leaves the lanes below f as they were loaded, though R183 treats them as masked
off (DESIGN CHOICE, log entry 116). -/
def vAccess (rp : Rp) (h : Nat) (g : BitVec 2) (load glob : Bool) (d : BitVec 7) (rd : List VTgt) (c : BitVec 3) (contig : Bool)
    (m : Nat) (addr : State → Nat → Word) (s : State) : Out :=
  let d' := d.toNat
  vReady rp h false (s.counterWait h (ctrOf c)) (rd ++ (if load then [] else [.vreg d']) ++ [.mask m])
      (if load then [(.vreg d', none)] else []) s (fun s1 =>
    let r := s1.res h
    let mk := s1.mread h m
    let base := addr s1 0
    let chk := fun i =>
      let a := addr s1 i
      let al := if contig then decide (base.toNat % 64 = 0) else decide (a.toNat % 4 = 0)
      if glob then s1.laneGlobal h (if load then .load else .store) 4 al a else s1.laneSpad h (!load) al a
    let lanes := (List.range 128).filter (fun i => mk.getLsbD i && decide (r.lanesDone ≤ i))
    let (oks, stop) := checkLanes chk lanes
    let start := fun (s : State) =>
      let reach := match stop with | none => 128 | some (f, _) => f
      let zero := if load && (rp.z || decide (r.portBind d' = 2)) then
        ~~~mk &&& laneSet ((List.range 128).filter (fun i => decide (r.lanesDone ≤ i) && decide (i < reach))) else 0
      let set := laneSet (oks.map (·.1))
      let v : VOp := { s.newVOp h (ctrOf c) load false d' (if glob then .global else .scratch) with
        todo := set, all := set ||| zero, addrs := oks.map (fun it => (it.1, if glob then (addr s1 it.1).toNat else it.2.pa)),
        part := load && stop.isSome }
      let s2 := (s.modRes h (fun r => if zero = 0 then r else r.zeroLanes d' zero)).beginVOp v
      if glob then s2.pushLanes h s.nextId load v.data (addr s1) oks else s2
    if !load && glob && !s1.storeRoom (.task h) (oks.map (·.2)) then .next s
    else match stop with
    | none => .next (vNext rp h g.toNat (start s1).fresh1)
    | some (f, .bad x) =>
      let u := (start s1).fresh1
      .next (vFault rp h (.lane f) { x with lane := BitVec.ofNat 8 f } (if glob then u.laneFault h (addr s1 f).toNat else u))
    | some (f, _) => .next (s.touchTlb (Who.task h .v).tlb (s.asidOf (.task h .v)) (addr s1 f).toNat (if load then .load else .store)))

/-- Contiguous addressing (R182): A = k + 64 × sext(off), 512 bytes on for each repetition (R102). -/
def contigAddr (rp : Rp) (h : Nat) (k : BitVec 5) (o : BitVec 9) (s : State) (i : Nat) : Word :=
  s.kread h k.toNat + 64 * sx o + BitVec.ofNat 64 (512 * rp.j) + BitVec.ofNat 64 (4 * i)

/-- Gather and scatter addressing (R182). -/
def indexAddr (h : Nat) (k : BitVec 5) (x : BitVec 7) (s : State) (i : Nat) : Word :=
  s.kread h k.toNat + (lane (s.vread h x.toNat) i).signExtend 64

/-- Strided addressing (R182), 128 strides on for each repetition (R102). -/
def strideAddr (rp : Rp) (h : Nat) (k q : BitVec 5) (s : State) (i : Nat) : Word :=
  s.kread h k.toNat + BitVec.ofNat 64 (i + 128 * rp.j) * s.kread h q.toNat

/-- VLDS with its repetition (R181). -/
def vldsCore (rp : Rp) (h : Nat) (g : BitVec 2) (d : BitVec 7) (k : BitVec 5) (w : BitVec 3) (o : BitVec 9) (s : State) : Out :=
  vAccess rp h g true false d [] w true 0 (contigAddr rp h k o) s
/-- VSTS with its repetition (R181). -/
def vstsCore (rp : Rp) (h : Nat) (g : BitVec 2) (d : BitVec 7) (k : BitVec 5) (w : BitVec 3) (o : BitVec 9) (s : State) : Out :=
  vAccess rp h g false false d [] w true 0 (contigAddr rp h k o) s
/-- VLDG with its repetition (R181). -/
def vldgCore (rp : Rp) (h : Nat) (g : BitVec 2) (d : BitVec 7) (k : BitVec 5) (w : BitVec 3) (o : BitVec 9) (s : State) : Out :=
  vAccess rp h g true true d [] w true 0 (contigAddr rp h k o) s
/-- VSTG with its repetition (R181). -/
def vstgCore (rp : Rp) (h : Nat) (g : BitVec 2) (d : BitVec 7) (k : BitVec 5) (w : BitVec 3) (o : BitVec 9) (s : State) : Out :=
  vAccess rp h g false true d [] w true 0 (contigAddr rp h k o) s
/-- VGATHS with its repetition (R181). -/
def vgathsCore (rp : Rp) (h : Nat) (g : BitVec 2) (d x : BitVec 7) (k : BitVec 5) (w : BitVec 3) (m : BitVec 2) (s : State) : Out :=
  vAccess rp h g true false d [.vreg x.toNat] w false m.toNat (indexAddr h k x) s
/-- VSCATS with its repetition (R181). -/
def vscatsCore (rp : Rp) (h : Nat) (g : BitVec 2) (d x : BitVec 7) (k : BitVec 5) (w : BitVec 3) (m : BitVec 2) (s : State) : Out :=
  vAccess rp h g false false d [.vreg x.toNat] w false m.toNat (indexAddr h k x) s
/-- VGATHG with its repetition (R181). -/
def vgathgCore (rp : Rp) (h : Nat) (g : BitVec 2) (d x : BitVec 7) (k : BitVec 5) (w : BitVec 3) (m : BitVec 2) (s : State) : Out :=
  vAccess rp h g true true d [.vreg x.toNat] w false m.toNat (indexAddr h k x) s
/-- VSCATG with its repetition (R181). -/
def vscatgCore (rp : Rp) (h : Nat) (g : BitVec 2) (d x : BitVec 7) (k : BitVec 5) (w : BitVec 3) (m : BitVec 2) (s : State) : Out :=
  vAccess rp h g false true d [.vreg x.toNat] w false m.toNat (indexAddr h k x) s
/-- VLDSR with its repetition (R181). -/
def vldsrCore (rp : Rp) (h : Nat) (g : BitVec 2) (d : BitVec 7) (q k : BitVec 5) (w : BitVec 3) (m : BitVec 2) (s : State) : Out :=
  vAccess rp h g true false d [] w false m.toNat (strideAddr rp h k q) s
/-- VSTSR with its repetition (R181). -/
def vstsrCore (rp : Rp) (h : Nat) (g : BitVec 2) (d : BitVec 7) (q k : BitVec 5) (w : BitVec 3) (m : BitVec 2) (s : State) : Out :=
  vAccess rp h g false false d [] w false m.toNat (strideAddr rp h k q) s
/-- VLDGR with its repetition (R181). -/
def vldgrCore (rp : Rp) (h : Nat) (g : BitVec 2) (d : BitVec 7) (q k : BitVec 5) (w : BitVec 3) (m : BitVec 2) (s : State) : Out :=
  vAccess rp h g true true d [] w false m.toNat (strideAddr rp h k q) s
/-- VSTGR with its repetition (R181). -/
def vstgrCore (rp : Rp) (h : Nat) (g : BitVec 2) (d : BitVec 7) (q k : BitVec 5) (w : BitVec 3) (m : BitVec 2) (s : State) : Out :=
  vAccess rp h g false true d [] w false m.toNat (strideAddr rp h k q) s

/-- VLDS (R181): contiguous scratchpad load. -/
def execVlds (g : BitVec 2) (d : BitVec 7) (k : BitVec 5) (w : BitVec 3) (o : BitVec 9) (s : State) : Out :=
  onVec s (fun h => vldsCore Rp.none h g d k w o s)
/-- VSTS (R181): contiguous scratchpad store. -/
def execVsts (g : BitVec 2) (d : BitVec 7) (k : BitVec 5) (w : BitVec 3) (o : BitVec 9) (s : State) : Out :=
  onVec s (fun h => vstsCore Rp.none h g d k w o s)
/-- VLDG (R181): contiguous global load. -/
def execVldg (g : BitVec 2) (d : BitVec 7) (k : BitVec 5) (w : BitVec 3) (o : BitVec 9) (s : State) : Out :=
  onVec s (fun h => vldgCore Rp.none h g d k w o s)
/-- VSTG (R181): contiguous global store. -/
def execVstg (g : BitVec 2) (d : BitVec 7) (k : BitVec 5) (w : BitVec 3) (o : BitVec 9) (s : State) : Out :=
  onVec s (fun h => vstgCore Rp.none h g d k w o s)
/-- VGATHS (R181): scratchpad gather. -/
def execVgaths (g : BitVec 2) (d x : BitVec 7) (k : BitVec 5) (w : BitVec 3) (m : BitVec 2) (s : State) : Out :=
  onVec s (fun h => vgathsCore Rp.none h g d x k w m s)
/-- VSCATS (R181): scratchpad scatter. -/
def execVscats (g : BitVec 2) (d x : BitVec 7) (k : BitVec 5) (w : BitVec 3) (m : BitVec 2) (s : State) : Out :=
  onVec s (fun h => vscatsCore Rp.none h g d x k w m s)
/-- VGATHG (R181): global gather. -/
def execVgathg (g : BitVec 2) (d x : BitVec 7) (k : BitVec 5) (w : BitVec 3) (m : BitVec 2) (s : State) : Out :=
  onVec s (fun h => vgathgCore Rp.none h g d x k w m s)
/-- VSCATG (R181): global scatter. -/
def execVscatg (g : BitVec 2) (d x : BitVec 7) (k : BitVec 5) (w : BitVec 3) (m : BitVec 2) (s : State) : Out :=
  onVec s (fun h => vscatgCore Rp.none h g d x k w m s)
/-- VLDSR (R181): strided scratchpad load. -/
def execVldsr (g : BitVec 2) (d : BitVec 7) (q k : BitVec 5) (w : BitVec 3) (m : BitVec 2) (s : State) : Out :=
  onVec s (fun h => vldsrCore Rp.none h g d q k w m s)
/-- VSTSR (R181): strided scratchpad store. -/
def execVstsr (g : BitVec 2) (d : BitVec 7) (q k : BitVec 5) (w : BitVec 3) (m : BitVec 2) (s : State) : Out :=
  onVec s (fun h => vstsrCore Rp.none h g d q k w m s)
/-- VLDGR (R181): strided global load. -/
def execVldgr (g : BitVec 2) (d : BitVec 7) (q k : BitVec 5) (w : BitVec 3) (m : BitVec 2) (s : State) : Out :=
  onVec s (fun h => vldgrCore Rp.none h g d q k w m s)
/-- VSTGR (R181): strided global store. -/
def execVstgr (g : BitVec 2) (d : BitVec 7) (q k : BitVec 5) (w : BitVec 3) (m : BitVec 2) (s : State) : Out :=
  onVec s (fun h => vstgrCore Rp.none h g d q k w m s)

/-! ## Slab rows -/

/-- A slab access (R189): state-use outside SLABWIN (R16), then a wait for the slab's state and for no claim (R198). Lane i is
word 128 r + i of the slab (R189, R202). -/
def vSlab (load : Bool) (g : BitVec 2) (d : BitVec 7) (z : BitVec 5) (c : BitVec 3) (change : Bool) (row : BitVec 5) (s : State) : Out :=
  onVec s (fun h =>
    let wait := if load then Wait.slabFull z.toNat true else .slabEmpty z.toNat true
    vReady Rp.none h (!(s.res h).slabOk z.toNat) (s.counterWait h (ctrOf c) ++ [wait]) (if load then [] else [.vreg d.toNat])
      (if load then [(.vreg d.toNat, none)] else []) s (fun s =>
        let v : VOp := { s.newVOp h (ctrOf c) load false d.toNat (.slab z.toNat row.toNat change) with
          todo := allLanes, all := allLanes, addrs := (List.range 128).map (fun i => (i, 128 * row.toNat + i)) }
        .next (vNext Rp.none h g.toNat (s.beginVOp v).fresh1)))

/-- VSLR (R189): rows 2r and 2r + 1 of slab z; h = 1 is the consume form. -/
def execVslr (g : BitVec 2) (d : BitVec 7) (z : BitVec 5) (w : BitVec 3) (h : BitVec 1) (r : BitVec 5) (s : State) : Out :=
  vSlab true g d z w (decide (h = 1)) r s
/-- VSLW (R189): h = 1 is the release form. -/
def execVslw (g : BitVec 2) (d : BitVec 7) (z : BitVec 5) (w : BitVec 3) (h : BitVec 1) (r : BitVec 5) (s : State) : Out :=
  vSlab false g d z w (decide (h = 1)) r s

/-! ## Wait counters -/

/-- The finished accesses on a counter that a WAITC with bound n covers: all but the latest n to report (R190). -/
def State.covered (s : State) (h k n : Nat) : List VOp :=
  let mine := s.vops.filter (fun v => v.h == h && decide (v.ctr = some k))
  let out := (mine.filter (fun v => !v.finished)).length
  let fin := mine.filter (·.finished)
  let late := n - out
  fin.filter (fun v => decide (late ≤ (fin.filter (fun u => decide (v.order < u.order))).length))

/-- The deferred fault of an access parks the instruction that meets it (R184, R190). -/
def State.deliverVop (s : State) (v : VOp) : State :=
  match v.fault with
  | some f => s.parkWith v.h .v (.vector v.id) f
  | none => s

/-- WAITC (R190): a wait for count ≤ n; a deferred fault of an access it covers parks it (R184). -/
def execWaitc (g : BitVec 2) (c : BitVec 3) (n : BitVec 6) (s : State) : Out :=
  onVec s (fun h =>
    vReady Rp.none h false [.counter c.toNat n.toNat] [] [] s (fun s =>
      let cov := s.covered h c.toNat n.toNat
      match cov.find? (fun v => decide (v.fault ≠ none)) with
      | some v => .next (s.deliverVop v)
      | none =>
        .next (vNext Rp.none h g.toNat { s with vops := s.vops.filter (fun v => !cov.any (fun u => u.id == v.id)) })))

/-! ## Per-lane atomics -/

/-- The counters VAMO names: w0, w1, w4, w5 (R191). -/
def vamoCtr (w : BitVec 2) : Nat := match w.toNat with | 0 => 0 | 1 => 1 | 2 => 4 | _ => 5

/-- The check of one lane or element of VAMO: alignment, translation and rights, remote-atomic-permit (R191, R253, R254). -/
def State.laneRemote (s : State) (h hd wd : Nat) (a : Word) : LaneChk :=
  match s.laneGlobal h (remoteAcc hd false) wd (decide (a.toNat % wd = 0)) a with
  | .ok t =>
    let w := Who.task h .v
    match s.translate w.tlb (s.asidOf w) (s.classOfWho w) a.toNat (remoteAcc hd false) true with
    | .ok _ leaf => if remoteLeafOk hd t leaf then .ok t else .bad (accFault 0x14 leaf a (remoteAcc hd false))
    | .bad f => .bad f
    | .miss => .miss
  | c => c

/-- VAMO (R191): one remote operation a lane, serials in increasing lane order. -/
def execVamo (d a : BitVec 7) (k hd : BitVec 5) (w : BitVec 2) (s : State) : Out :=
  onVec s (fun h =>
    let wd := s.handlerWidth hd.toNat
    let who := Who.task h .v
    vReady Rp.none h (decide (wd = 0) || decide (wd = 16)) (s.counterWait h (some (vamoCtr w))) [.vreg d.toNat, .vreg a.toNat]
        [(.vreg d.toNat, none)] s (fun s1 =>
      let va := s1.vread h a.toNat
      let vd := s1.vread h d.toNat
      let step := wd / 4
      let addr := fun i => s1.kread h k.toNat + (lane va (step * i)).signExtend 64
      let r := s1.res h
      let (oks, stop) := checkLanes (fun i => s1.laneRemote h hd.toNat wd (addr i))
        ((List.range (128 / step)).filter (fun i => decide (r.lanesDone ≤ i)))
      let start := fun (s0 : State) =>
        let set := laneSet (oks.flatMap (fun it => (List.range step).map (fun j => step * it.1 + j)))
        let v : VOp := { s0.newVOp h (some (vamoCtr w)) true true d.toNat .global with
          todo := set, all := set,
          addrs := oks.flatMap (fun it => (List.range step).map (fun j => (step * it.1 + j, (addr it.1).toNat))) }
        let s2 := s0.beginVOp v
        oks.foldl (fun s it =>
          let s := s.touchTlb who.tlb (s.asidOf who) (addr it.1).toNat (remoteAcc hd.toNat false)
          let op0 : BitVec 128 := if wd = 8 then (elem vd it.1).setWidth 128 else (lane vd it.1).setWidth 128
          s.issueRemote who it.2 (addr it.1).toNat (.handler hd wd) op0 0
            (.lane s0.nextId (step * it.1) wd (decide (hd ≠ 20))) (hd != 23) 0 .free) s2
      if !(oks.all (fun it => s1.serialRoomN who (s1.ownerPkg it.2) oks.length)) then .next s
      else match stop with
        | none => .next (vNext Rp.none h 0 (start s1).fresh1)
        | some (f, .bad x) => .next (vFault Rp.none h (.lane f) { x with lane := BitVec.ofNat 8 (step * f) } ((start s1).fresh1.laneFault h (addr f).toNat))
        | some (f, _) => .next (s.touchTlb who.tlb (s.asidOf who) (addr f).toNat (remoteAcc hd.toNat false))))

end Sys2Proof.Machine
end

