-- ==== Sys2Proof/Machine/VectorControl.lean ====
section
/-!
DEFINITION. The repeat prefix (R102 to R104), VBR (R192) and END of a vector program (R37, R193).
-/

namespace Sys2Proof.Machine

open Sys2Proof

/-- An increment after j repetitions, modulo 128 (R102). -/
def repStep (j : Nat) (inc : BitVec 3) : BitVec 7 := BitVec.ofNat 7 (j * inc.toNat)

/-- The instruction that repetition j issues (R102). -/
def repShift (rj : Nat) (dd da db : BitVec 3) : Instr → Instr
  | .vadd g d a b m => .vadd g (d + repStep rj dd) (a + repStep rj da) (b + repStep rj db) m
  | .vsub g d a b m => .vsub g (d + repStep rj dd) (a + repStep rj da) (b + repStep rj db) m
  | .vmul g d a b m => .vmul g (d + repStep rj dd) (a + repStep rj da) (b + repStep rj db) m
  | .vmin g d a b m => .vmin g (d + repStep rj dd) (a + repStep rj da) (b + repStep rj db) m
  | .vmax g d a b m => .vmax g (d + repStep rj dd) (a + repStep rj da) (b + repStep rj db) m
  | .vand g d a b m => .vand g (d + repStep rj dd) (a + repStep rj da) (b + repStep rj db) m
  | .vor g d a b m => .vor g (d + repStep rj dd) (a + repStep rj da) (b + repStep rj db) m
  | .vxor g d a b m => .vxor g (d + repStep rj dd) (a + repStep rj da) (b + repStep rj db) m
  | .vshl g d a b m => .vshl g (d + repStep rj dd) (a + repStep rj da) (b + repStep rj db) m
  | .vshr g d a b m => .vshr g (d + repStep rj dd) (a + repStep rj da) (b + repStep rj db) m
  | .vsra g d a b m => .vsra g (d + repStep rj dd) (a + repStep rj da) (b + repStep rj db) m
  | .vaddi g d a i => .vaddi g (d + repStep rj dd) (a + repStep rj da) i
  | .vshli g d a i => .vshli g (d + repStep rj dd) (a + repStep rj da) i
  | .vshri g d a i => .vshri g (d + repStep rj dd) (a + repStep rj da) i
  | .vsrai g d a i => .vsrai g (d + repStep rj dd) (a + repStep rj da) i
  | .vfadd g d a b m => .vfadd g (d + repStep rj dd) (a + repStep rj da) (b + repStep rj db) m
  | .vfsub g d a b m => .vfsub g (d + repStep rj dd) (a + repStep rj da) (b + repStep rj db) m
  | .vfmul g d a b m => .vfmul g (d + repStep rj dd) (a + repStep rj da) (b + repStep rj db) m
  | .vfma g d a b m => .vfma g (d + repStep rj dd) (a + repStep rj da) (b + repStep rj db) m
  | .vfmin g d a b m => .vfmin g (d + repStep rj dd) (a + repStep rj da) (b + repStep rj db) m
  | .vfmax g d a b m => .vfmax g (d + repStep rj dd) (a + repStep rj da) (b + repStep rj db) m
  | .vdadd g d a b m => .vdadd g (d + repStep rj dd) (a + repStep rj da) (b + repStep rj db) m
  | .vdsub g d a b m => .vdsub g (d + repStep rj dd) (a + repStep rj da) (b + repStep rj db) m
  | .vdmul g d a b m => .vdmul g (d + repStep rj dd) (a + repStep rj da) (b + repStep rj db) m
  | .vdfma g d a b m => .vdfma g (d + repStep rj dd) (a + repStep rj da) (b + repStep rj db) m
  | .vdmin g d a b m => .vdmin g (d + repStep rj dd) (a + repStep rj da) (b + repStep rj db) m
  | .vdmax g d a b m => .vdmax g (d + repStep rj dd) (a + repStep rj da) (b + repStep rj db) m
  | .vfcmp g c e a b m => .vfcmp g c e (a + repStep rj da) (b + repStep rj db) m
  | .vicmp g c e a b m => .vicmp g c e (a + repStep rj da) (b + repStep rj db) m
  | .vdcmp g c e a b m => .vdcmp g c e (a + repStep rj da) (b + repStep rj db) m
  | .vsel g d a b m => .vsel g (d + repStep rj dd) (a + repStep rj da) (b + repStep rj db) m
  | .vdot g d a b m => .vdot g (d + repStep rj dd) (a + repStep rj da) (b + repStep rj db) m
  | .vlmul g d a b m => .vlmul g (d + repStep rj dd) (a + repStep rj da) (b + repStep rj db) m
  | .vldiv g d a b m => .vldiv g (d + repStep rj dd) (a + repStep rj da) (b + repStep rj db) m
  | .vlpow g d p => .vlpow g (d + repStep rj dd) p
  | .vperm g d a b m => .vperm g (d + repStep rj dd) (a + repStep rj da) (b + repStep rj db) m
  | .vcmpx g d t e b j => .vcmpx g (d + repStep rj dd) t e b j
  | .vcmpxPayload g d a t e b j => .vcmpxPayload g (d + repStep rj dd) (a + repStep rj da) t e b j
  | .vcvt g d a t c r => .vcvt g (d + repStep rj dd) (a + repStep rj da) t c r
  | .vcvtSr g d a t c r => .vcvtSr g (d + repStep rj dd) (a + repStep rj da) t c r
  | .vmov g d a m => .vmov g (d + repStep rj dd) (a + repStep rj da) m
  | .vnot g d a m => .vnot g (d + repStep rj dd) (a + repStep rj da) m
  | .viabs g d a m => .viabs g (d + repStep rj dd) (a + repStep rj da) m
  | .vineg g d a m => .vineg g (d + repStep rj dd) (a + repStep rj da) m
  | .vfneg g d a m => .vfneg g (d + repStep rj dd) (a + repStep rj da) m
  | .vfabs g d a m => .vfabs g (d + repStep rj dd) (a + repStep rj da) m
  | .vdneg g d a m => .vdneg g (d + repStep rj dd) (a + repStep rj da) m
  | .vdabs g d a m => .vdabs g (d + repStep rj dd) (a + repStep rj da) m
  | .vclz g d a m => .vclz g (d + repStep rj dd) (a + repStep rj da) m
  | .vpopc g d a m => .vpopc g (d + repStep rj dd) (a + repStep rj da) m
  | .vtolog g d a m => .vtolog g (d + repStep rj dd) (a + repStep rj da) m
  | .vfromlog g d a m => .vfromlog g (d + repStep rj dd) (a + repStep rj da) m
  | .vexp2l g d a m => .vexp2l g (d + repStep rj dd) (a + repStep rj da) m
  | .vlog2f g d a m => .vlog2f g (d + repStep rj dd) (a + repStep rj da) m
  | .vrsum g d a m => .vrsum g (d + repStep rj dd) (a + repStep rj da) m
  | .vrmin g d a m => .vrmin g (d + repStep rj dd) (a + repStep rj da) m
  | .vrmax g d a m => .vrmax g (d + repStep rj dd) (a + repStep rj da) m
  | .vrfsum g d a m => .vrfsum g (d + repStep rj dd) (a + repStep rj da) m
  | .vrfmin g d a m => .vrfmin g (d + repStep rj dd) (a + repStep rj da) m
  | .vrfmax g d a m => .vrfmax g (d + repStep rj dd) (a + repStep rj da) m
  | .vrdsum g d a m => .vrdsum g (d + repStep rj dd) (a + repStep rj da) m
  | .vrdmin g d a m => .vrdmin g (d + repStep rj dd) (a + repStep rj da) m
  | .vrdmax g d a m => .vrdmax g (d + repStep rj dd) (a + repStep rj da) m
  | .vpackE3m2 g k d a => .vpackE3m2 g k (d + repStep rj dd) (a + repStep rj da)
  | .vunpkE3m2 g k d a => .vunpkE3m2 g k (d + repStep rj dd) (a + repStep rj da)
  | .vpack g w k d a => .vpack g w k (d + repStep rj dd) (a + repStep rj da)
  | .vunpk g w k d a => .vunpk g w k (d + repStep rj dd) (a + repStep rj da)
  | .vlds g d k w o => .vlds g (d + repStep rj dd) k w o
  | .vsts g d k w o => .vsts g (d + repStep rj dd) k w o
  | .vldg g d k w o => .vldg g (d + repStep rj dd) k w o
  | .vstg g d k w o => .vstg g (d + repStep rj dd) k w o
  | .vgaths g d x k w m => .vgaths g (d + repStep rj dd) (x + repStep rj da) k w m
  | .vscats g d x k w m => .vscats g (d + repStep rj dd) (x + repStep rj da) k w m
  | .vgathg g d x k w m => .vgathg g (d + repStep rj dd) (x + repStep rj da) k w m
  | .vscatg g d x k w m => .vscatg g (d + repStep rj dd) (x + repStep rj da) k w m
  | .vldsr g d q k w m => .vldsr g (d + repStep rj dd) q k w m
  | .vstsr g d q k w m => .vstsr g (d + repStep rj dd) q k w m
  | .vldgr g d q k w m => .vldgr g (d + repStep rj dd) q k w m
  | .vstgr g d q k w m => .vstgr g (d + repStep rj dd) q k w m
  | i => i

/-- What R103 asks of a prefixable instruction: the fields that name vector registers, a mask field, the destination and
the payload register. -/
structure RepInfo where
  incD : Bool
  incA : Bool
  incB : Bool
  mask : Bool
  dst : Option (BitVec 7)
  payload : Option (BitVec 7)
deriving DecidableEq, Repr

/-- The prefixable instructions (R103, R180). -/
def repInfo : Instr → Option RepInfo
  | .vadd _ d _ _ _ => some { incD := true, incA := true, incB := true, mask := true, dst := some d, payload := none }
  | .vsub _ d _ _ _ => some { incD := true, incA := true, incB := true, mask := true, dst := some d, payload := none }
  | .vmul _ d _ _ _ => some { incD := true, incA := true, incB := true, mask := true, dst := some d, payload := none }
  | .vmin _ d _ _ _ => some { incD := true, incA := true, incB := true, mask := true, dst := some d, payload := none }
  | .vmax _ d _ _ _ => some { incD := true, incA := true, incB := true, mask := true, dst := some d, payload := none }
  | .vand _ d _ _ _ => some { incD := true, incA := true, incB := true, mask := true, dst := some d, payload := none }
  | .vor _ d _ _ _ => some { incD := true, incA := true, incB := true, mask := true, dst := some d, payload := none }
  | .vxor _ d _ _ _ => some { incD := true, incA := true, incB := true, mask := true, dst := some d, payload := none }
  | .vshl _ d _ _ _ => some { incD := true, incA := true, incB := true, mask := true, dst := some d, payload := none }
  | .vshr _ d _ _ _ => some { incD := true, incA := true, incB := true, mask := true, dst := some d, payload := none }
  | .vsra _ d _ _ _ => some { incD := true, incA := true, incB := true, mask := true, dst := some d, payload := none }
  | .vaddi _ d _ _ => some { incD := true, incA := true, incB := false, mask := false, dst := some d, payload := none }
  | .vshli _ d _ _ => some { incD := true, incA := true, incB := false, mask := false, dst := some d, payload := none }
  | .vshri _ d _ _ => some { incD := true, incA := true, incB := false, mask := false, dst := some d, payload := none }
  | .vsrai _ d _ _ => some { incD := true, incA := true, incB := false, mask := false, dst := some d, payload := none }
  | .vfadd _ d _ _ _ => some { incD := true, incA := true, incB := true, mask := true, dst := some d, payload := none }
  | .vfsub _ d _ _ _ => some { incD := true, incA := true, incB := true, mask := true, dst := some d, payload := none }
  | .vfmul _ d _ _ _ => some { incD := true, incA := true, incB := true, mask := true, dst := some d, payload := none }
  | .vfma _ d _ _ _ => some { incD := true, incA := true, incB := true, mask := true, dst := some d, payload := none }
  | .vfmin _ d _ _ _ => some { incD := true, incA := true, incB := true, mask := true, dst := some d, payload := none }
  | .vfmax _ d _ _ _ => some { incD := true, incA := true, incB := true, mask := true, dst := some d, payload := none }
  | .vdadd _ d _ _ _ => some { incD := true, incA := true, incB := true, mask := true, dst := some d, payload := none }
  | .vdsub _ d _ _ _ => some { incD := true, incA := true, incB := true, mask := true, dst := some d, payload := none }
  | .vdmul _ d _ _ _ => some { incD := true, incA := true, incB := true, mask := true, dst := some d, payload := none }
  | .vdfma _ d _ _ _ => some { incD := true, incA := true, incB := true, mask := true, dst := some d, payload := none }
  | .vdmin _ d _ _ _ => some { incD := true, incA := true, incB := true, mask := true, dst := some d, payload := none }
  | .vdmax _ d _ _ _ => some { incD := true, incA := true, incB := true, mask := true, dst := some d, payload := none }
  | .vfcmp _ _ _ _ _ _ => some { incD := false, incA := true, incB := true, mask := true, dst := none, payload := none }
  | .vicmp _ _ _ _ _ _ => some { incD := false, incA := true, incB := true, mask := true, dst := none, payload := none }
  | .vdcmp _ _ _ _ _ _ => some { incD := false, incA := true, incB := true, mask := true, dst := none, payload := none }
  | .vsel _ d _ _ _ => some { incD := true, incA := true, incB := true, mask := true, dst := some d, payload := none }
  | .vdot _ d _ _ _ => some { incD := true, incA := true, incB := true, mask := true, dst := some d, payload := none }
  | .vlmul _ d _ _ _ => some { incD := true, incA := true, incB := true, mask := true, dst := some d, payload := none }
  | .vldiv _ d _ _ _ => some { incD := true, incA := true, incB := true, mask := true, dst := some d, payload := none }
  | .vlpow _ d _ => some { incD := true, incA := false, incB := false, mask := false, dst := some d, payload := none }
  | .vperm _ d _ _ _ => some { incD := true, incA := true, incB := true, mask := true, dst := some d, payload := none }
  | .vcmpx _ d _ _ _ _ => some { incD := true, incA := false, incB := false, mask := false, dst := some d, payload := none }
  | .vcmpxPayload _ d a _ _ _ _ => some { incD := true, incA := true, incB := false, mask := false, dst := some d, payload := some a }
  | .vcvt _ d _ _ _ _ => some { incD := true, incA := true, incB := false, mask := false, dst := some d, payload := none }
  | .vcvtSr _ d _ _ _ _ => some { incD := true, incA := true, incB := false, mask := false, dst := some d, payload := none }
  | .vmov _ d _ _ => some { incD := true, incA := true, incB := false, mask := true, dst := some d, payload := none }
  | .vnot _ d _ _ => some { incD := true, incA := true, incB := false, mask := true, dst := some d, payload := none }
  | .viabs _ d _ _ => some { incD := true, incA := true, incB := false, mask := true, dst := some d, payload := none }
  | .vineg _ d _ _ => some { incD := true, incA := true, incB := false, mask := true, dst := some d, payload := none }
  | .vfneg _ d _ _ => some { incD := true, incA := true, incB := false, mask := true, dst := some d, payload := none }
  | .vfabs _ d _ _ => some { incD := true, incA := true, incB := false, mask := true, dst := some d, payload := none }
  | .vdneg _ d _ _ => some { incD := true, incA := true, incB := false, mask := true, dst := some d, payload := none }
  | .vdabs _ d _ _ => some { incD := true, incA := true, incB := false, mask := true, dst := some d, payload := none }
  | .vclz _ d _ _ => some { incD := true, incA := true, incB := false, mask := true, dst := some d, payload := none }
  | .vpopc _ d _ _ => some { incD := true, incA := true, incB := false, mask := true, dst := some d, payload := none }
  | .vtolog _ d _ _ => some { incD := true, incA := true, incB := false, mask := true, dst := some d, payload := none }
  | .vfromlog _ d _ _ => some { incD := true, incA := true, incB := false, mask := true, dst := some d, payload := none }
  | .vexp2l _ d _ _ => some { incD := true, incA := true, incB := false, mask := true, dst := some d, payload := none }
  | .vlog2f _ d _ _ => some { incD := true, incA := true, incB := false, mask := true, dst := some d, payload := none }
  | .vrsum _ d _ _ => some { incD := true, incA := true, incB := false, mask := true, dst := some d, payload := none }
  | .vrmin _ d _ _ => some { incD := true, incA := true, incB := false, mask := true, dst := some d, payload := none }
  | .vrmax _ d _ _ => some { incD := true, incA := true, incB := false, mask := true, dst := some d, payload := none }
  | .vrfsum _ d _ _ => some { incD := true, incA := true, incB := false, mask := true, dst := some d, payload := none }
  | .vrfmin _ d _ _ => some { incD := true, incA := true, incB := false, mask := true, dst := some d, payload := none }
  | .vrfmax _ d _ _ => some { incD := true, incA := true, incB := false, mask := true, dst := some d, payload := none }
  | .vrdsum _ d _ _ => some { incD := true, incA := true, incB := false, mask := true, dst := some d, payload := none }
  | .vrdmin _ d _ _ => some { incD := true, incA := true, incB := false, mask := true, dst := some d, payload := none }
  | .vrdmax _ d _ _ => some { incD := true, incA := true, incB := false, mask := true, dst := some d, payload := none }
  | .vpackE3m2 _ _ d _ => some { incD := true, incA := true, incB := false, mask := false, dst := some d, payload := none }
  | .vunpkE3m2 _ _ d _ => some { incD := true, incA := true, incB := false, mask := false, dst := some d, payload := none }
  | .vpack _ _ _ d _ => some { incD := true, incA := true, incB := false, mask := false, dst := some d, payload := none }
  | .vunpk _ _ _ d _ => some { incD := true, incA := true, incB := false, mask := false, dst := some d, payload := none }
  | .vlds _ d _ _ _ => some { incD := true, incA := false, incB := false, mask := false, dst := some d, payload := none }
  | .vsts _ _ _ _ _ => some { incD := true, incA := false, incB := false, mask := false, dst := none, payload := none }
  | .vldg _ d _ _ _ => some { incD := true, incA := false, incB := false, mask := false, dst := some d, payload := none }
  | .vstg _ _ _ _ _ => some { incD := true, incA := false, incB := false, mask := false, dst := none, payload := none }
  | .vgaths _ d _ _ _ _ => some { incD := true, incA := true, incB := false, mask := true, dst := some d, payload := none }
  | .vscats _ _ _ _ _ _ => some { incD := true, incA := true, incB := false, mask := true, dst := none, payload := none }
  | .vgathg _ d _ _ _ _ => some { incD := true, incA := true, incB := false, mask := true, dst := some d, payload := none }
  | .vscatg _ _ _ _ _ _ => some { incD := true, incA := true, incB := false, mask := true, dst := none, payload := none }
  | .vldsr _ d _ _ _ _ => some { incD := true, incA := false, incB := false, mask := true, dst := some d, payload := none }
  | .vstsr _ _ _ _ _ _ => some { incD := true, incA := false, incB := false, mask := true, dst := none, payload := none }
  | .vldgr _ d _ _ _ _ => some { incD := true, incA := false, incB := false, mask := true, dst := some d, payload := none }
  | .vstgr _ _ _ _ _ _ => some { incD := true, incA := false, incB := false, mask := true, dst := none, payload := none }
  | _ => none

/-- A repetition of the instruction issues. -/
def repCore (rp : Rp) (h : Nat) (i : Instr) (s : State) : Out :=
  match i with
  | .vadd g d a b m => vaddCore rp h g d a b m s
  | .vsub g d a b m => vsubCore rp h g d a b m s
  | .vmul g d a b m => vmulCore rp h g d a b m s
  | .vmin g d a b m => vminCore rp h g d a b m s
  | .vmax g d a b m => vmaxCore rp h g d a b m s
  | .vand g d a b m => vandCore rp h g d a b m s
  | .vor g d a b m => vorCore rp h g d a b m s
  | .vxor g d a b m => vxorCore rp h g d a b m s
  | .vshl g d a b m => vshlCore rp h g d a b m s
  | .vshr g d a b m => vshrCore rp h g d a b m s
  | .vsra g d a b m => vsraCore rp h g d a b m s
  | .vaddi g d a i => vaddiCore rp h g d a i s
  | .vshli g d a i => vshliCore rp h g d a i s
  | .vshri g d a i => vshriCore rp h g d a i s
  | .vsrai g d a i => vsraiCore rp h g d a i s
  | .vfadd g d a b m => vfaddCore rp h g d a b m s
  | .vfsub g d a b m => vfsubCore rp h g d a b m s
  | .vfmul g d a b m => vfmulCore rp h g d a b m s
  | .vfma g d a b m => vfmaCore rp h g d a b m s
  | .vfmin g d a b m => vfminCore rp h g d a b m s
  | .vfmax g d a b m => vfmaxCore rp h g d a b m s
  | .vdadd g d a b m => vdaddCore rp h g d a b m s
  | .vdsub g d a b m => vdsubCore rp h g d a b m s
  | .vdmul g d a b m => vdmulCore rp h g d a b m s
  | .vdfma g d a b m => vdfmaCore rp h g d a b m s
  | .vdmin g d a b m => vdminCore rp h g d a b m s
  | .vdmax g d a b m => vdmaxCore rp h g d a b m s
  | .vfcmp g c e a b m => vfcmpCore rp h g c e a b m s
  | .vicmp g c e a b m => vicmpCore rp h g c e a b m s
  | .vdcmp g c e a b m => vdcmpCore rp h g c e a b m s
  | .vsel g d a b m => vselCore rp h g d a b m s
  | .vdot g d a b m => vdotCore rp h g d a b m s
  | .vlmul g d a b m => vlmulCore rp h g d a b m s
  | .vldiv g d a b m => vldivCore rp h g d a b m s
  | .vlpow g d p => vlpowCore rp h g d p s
  | .vperm g d a b m => vpermCore rp h g d a b m s
  | .vcmpx g d t e b j => vcmpxCore rp h g d t e b j s
  | .vcmpxPayload g d a t e b j => vcmpxPayloadCore rp h g d a t e b j s
  | .vcvt g d a t c r => vcvtCore rp h g d a t c r s
  | .vcvtSr g d a t c r => vcvtSrCore rp h g d a t c r s
  | .vmov g d a m => vmovCore rp h g d a m s
  | .vnot g d a m => vnotCore rp h g d a m s
  | .viabs g d a m => viabsCore rp h g d a m s
  | .vineg g d a m => vinegCore rp h g d a m s
  | .vfneg g d a m => vfnegCore rp h g d a m s
  | .vfabs g d a m => vfabsCore rp h g d a m s
  | .vdneg g d a m => vdnegCore rp h g d a m s
  | .vdabs g d a m => vdabsCore rp h g d a m s
  | .vclz g d a m => vclzCore rp h g d a m s
  | .vpopc g d a m => vpopcCore rp h g d a m s
  | .vtolog g d a m => vtologCore rp h g d a m s
  | .vfromlog g d a m => vfromlogCore rp h g d a m s
  | .vexp2l g d a m => vexp2lCore rp h g d a m s
  | .vlog2f g d a m => vlog2fCore rp h g d a m s
  | .vrsum g d a m => vrsumCore rp h g d a m s
  | .vrmin g d a m => vrminCore rp h g d a m s
  | .vrmax g d a m => vrmaxCore rp h g d a m s
  | .vrfsum g d a m => vrfsumCore rp h g d a m s
  | .vrfmin g d a m => vrfminCore rp h g d a m s
  | .vrfmax g d a m => vrfmaxCore rp h g d a m s
  | .vrdsum g d a m => vrdsumCore rp h g d a m s
  | .vrdmin g d a m => vrdminCore rp h g d a m s
  | .vrdmax g d a m => vrdmaxCore rp h g d a m s
  | .vpackE3m2 g k d a => vpackE3m2Core rp h g k d a s
  | .vunpkE3m2 g k d a => vunpkE3m2Core rp h g k d a s
  | .vpack g w k d a => vpackCore rp h g w k d a s
  | .vunpk g w k d a => vunpkCore rp h g w k d a s
  | .vlds g d k w o => vldsCore rp h g d k w o s
  | .vsts g d k w o => vstsCore rp h g d k w o s
  | .vldg g d k w o => vldgCore rp h g d k w o s
  | .vstg g d k w o => vstgCore rp h g d k w o s
  | .vgaths g d x k w m => vgathsCore rp h g d x k w m s
  | .vscats g d x k w m => vscatsCore rp h g d x k w m s
  | .vgathg g d x k w m => vgathgCore rp h g d x k w m s
  | .vscatg g d x k w m => vscatgCore rp h g d x k w m s
  | .vldsr g d q k w m => vldsrCore rp h g d q k w m s
  | .vstsr g d q k w m => vstsrCore rp h g d q k w m s
  | .vldgr g d q k w m => vldgrCore rp h g d q k w m s
  | .vstgr g d q k w m => vstgrCore rp h g d q k w m s
  | _ => .next s

/-- No repetition's destination falls in v120 to v127 (R103). -/
def repDstOk (n : Nat) (inc : BitVec 3) (d : Option (BitVec 7)) : Bool :=
  match d with
  | some d => (List.range n).all (fun j => decide ((d + repStep j inc).toNat < 120))
  | none => true

/-- The rules of R103 on the word that follows. -/
def repOk (n : Nat) (dd da db : BitVec 3) (z : BitVec 1) (x : RepInfo) : Bool :=
  (x.incD || decide (dd = 0)) && (x.incA || decide (da = 0)) && (x.incB || decide (db = 0)) && (x.mask || decide (z = 0)) &&
  repDstOk n dd x.dst && repDstOk n da x.payload

/-- Major opcodes whose words no prefix takes: N, VB, VBCAST, VEXTR, VSLR, VSLW, Y, WAITC, VA, REP (R103). -/
def unprefixable (op : Nat) : Bool := [0x00, 0x0E, 0x0F, 0x26, 0x27, 0x2C, 0x2D, 0x38, 0x39, 0x3A, 0x3B, 0x3C, 0x3D, 0x3E].contains op

/-- REP (R102 to R104): the prefix is checked against the word that follows, then one repetition issues: the one VCTL.REPIDX
names after an interruption, else the next of the sequence in progress. A following word of a prefixable format that is no legal instruction raises illegal instruction
at the prefix, with that word in DETAIL; the spec names neither the fault nor the address (DESIGN CHOICE, log entry 122). -/
def execRep (c : BitVec 6) (d a b : BitVec 3) (z : BitVec 1) (s : State) : Out :=
  onVec s (fun h =>
    let w := Who.task h .v
    let r := s.res h
    let n := c.toNat + 1
    let bad : Out := .next (s.takeFault w .pair (faultInfo 0x02 (wordOf (.rep c d a b z))))
    match s.fetchWord w (r.v.pc + 4) with
    | .miss => .next (s.touchFetch w (r.v.pc + 4))
    | .bad f => .next ((s.touchFetch w (r.v.pc + 4)).takeFault w .pair f)
    | .word x =>
      if unprefixable (fld x 26 6).toNat then bad
      else match guardWf .vector (decodeVector x) with
        | .error _ => .next (s.takeFault w .pair (faultInfo 0x01 (x.setWidth 64)))
        | .ok i =>
          match repInfo i with
          | none => bad
          | some p =>
            if !repOk n d a b z p then bad
            else
              let j := if r.rep = 0 then r.repIdx else r.rep
              let rp : Rp := { on := true, j := j, n := n, z := decide (z = 1) }
              if n ≤ j then .next (vNext rp h 0 s) else repCore rp h (repShift j d a b i) s)

/-- VBR (R192, R89): the branch and a block boundary after it; code 5 first decrements the k register. -/
def execVbr (c : BitVec 3) (k : BitVec 5) (o : BitVec 18) (s : State) : Out :=
  onVec s (fun h =>
    let w := Who.task h .v
    let x := if c = 5 then s.kread h k.toNat - 1 else s.kread h k.toNat
    let pc := (s.res h).v.pc
    let t := if condHolds c x then branchTarget pc o else pc + 4
    let s := if c = 5 then s.setLreg w k.toNat x else s
    .next (((vNext Rp.none h 0 s).modPrg h .v (fun p => { p with pc := t })).afterTransfer w))

/-- An output-bound port still holds a pushed vector (R193). -/
def Resident.portsHeld (r : Resident) : Bool :=
  (List.range 8).any (fun q => decide (stBind (r.stream q) = 2) && r.staged.getLsbD q)

/-- VECTOR_END (R37, R193): deferred faults first (R184, R249); then it holds until every access is performed or committed
and every push is taken; the program has ended. -/
def execVectorEnd (s : State) : Out :=
  onVec s (fun h =>
    let s := s.modRes h Resident.settle
    let r := s.res h
    let outs := (List.range 8).filter (fun q => decide (stBind (r.stream q) = 2))
    match s.vops.find? (fun v => v.h == h && v.finished && decide (v.fault ≠ none)) with
    | some v => .next (s.deliverVop v)
    | none =>
      match outs.filterMap (fun q => (fget none r.portFault q).map (fun f => (q, f))) with
      | (q, f) :: _ => .next (vPortFault Rp.none h q f s)
      | [] =>
        if s.pathBusy (.task h) 1 || r.portsHeld then .next s
        else
          let s := { s with vops := s.vops.filter (fun v => v.h != h) }
          .next ((s.modRes h (fun r => r.setEst .v 3)).endBlock h .v))

end Sys2Proof.Machine
end

