-- ==== Sys2Proof/Machine/MemEvents.lean ====
section
/-!
DEFINITION. What happens to accesses after they issue: loads return (LOAD_COMPLETE), stores commit (STORE_COMMIT,
WC_BUFFER_ISSUE), vector accesses complete (VECTOR_ACCESS_COMPLETE, WRITE_LANDS), stream service (STREAM_FETCH, STREAM_STORE),
responses of remote operations (REMOTE_RESPONSE, OWNER_BUSY_RESEND, STANDALONE_ACK, HOST_COMPLETION_TIMEOUT), page walks and
the directory.
-/

namespace Sys2Proof.Machine

open Sys2Proof

/-! ## Vector accesses: lanes -/

def State.vop? (s : State) (id : Nat) : Option VOp := s.vops.find? (fun v => v.id == id)
def State.modVop (s : State) (id : Nat) (f : VOp → VOp) : State :=
  { s with vops := s.vops.map (fun v => if v.id = id then f v else v) }

/-- n bytes of a vector register replaced at byte off. -/
def putBytes (v : VReg) (off : Nat) (bs : List Byte) : VReg :=
  let m : VReg := BitVec.ofNat 4096 ((2 ^ (8 * bs.length) - 1) * 2 ^ (8 * off))
  (v &&& ~~~m) ||| (BitVec.ofNat 4096 (leNat bs) <<< (8 * off))

/-- Lanes of an access are performed: a load's bytes reach the destination register (R183). -/
def State.laneDone (s : State) (id i n : Nat) (bs : List Byte) : State :=
  let clear : BitVec 128 := laneSet ((List.range n).map (fun j => i + j))
  match s.vop? id with
  | none => s
  | some v =>
    let s := s.modVop id (fun v => { v with todo := v.todo &&& ~~~clear })
    if v.load ∧ bs ≠ [] then
      s.modRes v.h (fun r => { r with vregs := fset (0 : VReg) r.vregs v.vd (putBytes (fget (0 : VReg) r.vregs v.vd) (4 * i) bs) })
    else s

/-- Lanes whose target failed: they write nothing, and the access carries the fault to deliver (R184). -/
def State.laneFail (s : State) (id i n : Nat) (f : FaultInfo) : State :=
  let set : BitVec 128 := laneSet ((List.range n).map (fun j => i + j))
  match s.vop? id with
  | none => s
  | some v =>
    let rec0 := s.mkRecord v.h .v { f with flags := f.flags ||| 0x8, lane := BitVec.ofNat 8 i } v.iaddr
    s.modVop id (fun v => { v with todo := v.todo &&& ~~~set, failed := v.failed ||| set, fault := if v.fault = none then some rec0 else v.fault })

/-! ## Global loads -/

/-- Every piece of the unit or the stream vector that the access belongs to goes with it. -/
def GAcc.sibling (g x : GAcc) : Bool :=
  g.samePath x &&
  (match g.dest, x.dest with
   | .xfer _, .xfer _ => true
   | .port q _, .port p _ => q == p
   | _, _ => false)

/-- The pieces of a unit or vector of which one has failed are given up; the serials of the stores that will be made again are kept (R351). -/
def State.giveUp (s : State) (h : Nat) (g : GAcc) : State :=
  let s := (s.gaccs.filter (fun x => g.sibling x)).foldl (fun s x => s.modRes h (fun r => r.keepSerial x (x.id != g.id))) s
  { s with gaccs := s.gaccs.filter (fun x => !g.sibling x) }

/-- A failed access's record. -/
def State.accRecord (s : State) (h : Nat) (g : GAcc) (st : RStatus) : FaultRec :=
  let f := remoteFault st g.tgt.peer (s.incOf g.tgt.peer) g.tgt.pa (Config.freeStateUseDetail s.fresh)
  s.mkRecord h (pathEng g.path) { f with va := BitVec.ofNat 64 g.va, flags := f.flags ||| (if g.isStore then 1 else 0) } g.iaddr

/-- A load or store has failed: a scalar access is delivered like a deferred remote fault (R256); a vector lane as R184 says;
a copy load, a transfer or a stream parks or marks what it belongs to (R232, R249); a supervisor core traps (R310). -/
def State.failAcc (s : State) (g : GAcc) (st : RStatus) : State :=
  match g.owner with
  | .sv c => (s.dropGacc g.id).svFault c (remoteFault st g.tgt.peer 0 g.tgt.pa 0).code (BitVec.ofNat 64 g.va)
  | .task h =>
    let r := s.accRecord h g st
    let mark := fun (s : State) => { s with gaccs := s.gaccs.map (fun (x : GAcc) => if x.id = g.id then { x with failed := some st, sent := false } else x) }
    match g.dest with
    | .lane vop i => ((s.dropGacc g.id).modRes h (fun y => y.keepSerial g false)).fresh1.laneFail vop i 1
        { remoteFault st g.tgt.peer (s.incOf g.tgt.peer) g.tgt.pa (Config.freeStateUseDetail s.fresh) with
          va := BitVec.ofNat 64 g.va, flags := if g.isStore then 1 else 0 }
    | .xfer _ => (s.giveUp h g).fresh1.parkWith h .c .work r
    | .port q _ =>
      (s.giveUp h g).fresh1.modRes h
        (fun y => { y with portFault := fput y.portFault q (some r), fetch := fput y.fetch q [] })
    | .creg _ => (mark s).fresh1.parkWith h .c (.remote g.id) r
    | .record => if g.path = 3 then (mark s).fresh1.parkWith h .c (.remote g.id) r else (mark s).addDeferred h g.id
    | _ => (mark s).addDeferred h g.id
  | .coll c =>
    let s := { s with gaccs := s.gaccs.filter (fun (x : GAcc) => !decide (x.owner = Owner.coll c)) }
    if st = .memError then s.collMemError c g.tgt.pa (BitVec.ofNat 64 g.va) else s.collStop c 6 (BitVec.ofNat 64 g.va) g.isStore
  | .host _ => (match g.dest with
      -- the host's read gets no bytes (R394)
      | .host k _ => { s with gaccs := s.gaccs.filter (fun (x : GAcc) => match x.dest with | .host j _ => j != k | _ => true), hostReads := s.hostReads.set k [] }
      | _ => s.dropGacc g.id)
  | .orr k =>
    let s := ({ s with gaccs := s.gaccs.filter (fun (x : GAcc) => !decide (x.owner = Owner.orr k)) } : State).setRec (.orr k) 4 []
    if k < 2 ^ 26 then s.failNode (k / 4096) (k % 4096) else { s with cmdFailed := true }

/-- A load's bytes reach their destination (R123, R133, R236). -/
def State.loadDone (s : State) (g : GAcc) (bs : List Byte) : State :=
  let s := s.dropGacc g.id
  let v := leNat bs
  match g.dest with
  | .sreg d sgn => (match ownerWho g.owner g.path with
      | some w => s.modSc w (fun c => c.set d (extBytes sgn g.n v))
      | none => s)
  | .creg d => (match g.owner with | .task h => s.modRes h (fun r => { r with cregs := fset (0 : Word) r.cregs d (BitVec.ofNat 64 v) }) | _ => s)
  | .lane vop i => s.laneDone vop i 1 bs
  | .xfer off => (match g.owner with
      | .task h => s.modRes h (fun r => { r with xf := r.xf.map (fun x => x.arrive off bs) })
      | _ => s)
  | .port q off => (match g.owner with
      | .task h => s.modRes h (fun r => { r with fetch := fput r.fetch q (((List.range bs.length).zip bs).foldl (fun m ib => fput m (off + ib.1) ib.2) (fget [] r.fetch q)) })
      | _ => s)
  | .record => s.addRec g.owner g.path g.va bs
  | .flush => { s with unflushed := s.unflushed.filter (fun m => !(m.port == hostPort g.tgt.pa && decide (m.at_ ≤ g.id))) }
  | .host k off => { s with hostReads := s.hostReads.set k (((List.range bs.length).zip bs).foldl (fun l ib => l.set (off + ib.1) ib.2) (s.hostReads.getD k [])) }
  | .none => s

/-- An access to a peer page leaves for its owner (R251, R276, R349): a store to an SO page with the serial it took at its issue. -/
def State.sendAccess (s : State) (g : GAcc) : State :=
  let q := s.reqOf g.owner g.tgt.peer 7 g.tgt.pa (if g.isStore then .store g.data else .load g.n) 0 0 g.serial g.scope
  let o := s.routOf g.owner g.path g.tgt.peer (.access g.id) g.va g.tgt g.iaddr q .free
  let s := s.noteReq g.owner g.tgt.peer q
  ({ s with gaccs := s.gaccs.map (fun (x : GAcc) => if x.id = g.id then { x with sent := true } else x),
            routs := s.routs ++ [o], nextId := s.nextId + 1 } : State).sendPacket g.tgt.peer (.request q)

/-- The lines of an access are pinned (R324). -/
def State.pinOf (s : State) (g : GAcc) : State := s.touchPin g.tgt g.asid g.va g.n

/-- A load that may be performed now is performed (R277, R278): forwarded, from memory, or sent to its peer; the host's
answer is given. -/
def State.performLoad (s : State) (g : GAcc) (host : List Byte) : State :=
  match s.forwarded g with
  | some bs => s.loadDone g bs
  | none =>
    if g.tgt.aper = 2 then (if g.sent then s else s.sendAccess g)
    else if g.tgt.aper = 3 then s.loadDone g host
    else if s.poisoned g.tgt.pa g.n then s.failAcc g .memError
    else ((s.pinOf g).filled g.owner.die g.tgt.pa).loadDone g (s.physRead g.tgt.pa g.n)

/-- LOAD_COMPLETE (R123): an outstanding global load returns. data is what the host answered for a host page. -/
def execLoadComplete (id : Nat) (data : BitVec 64) (s : State) : Out :=
  match s.gacc? id with
  | none => .next s
  | some g =>
    -- a host read comes after every earlier write of its port (R290)
    let late := match g.dest with | .host _ _ => (s.earlier g).any (·.isStore) | _ => false
    if g.isStore || decide (g.failed ≠ none) || late || !s.mayPerform g || (match g.dest with | .lane _ _ => true | _ => false) then .next s
    else .next (s.performLoad g (leBytes g.n data.toNat))

/-! ## Global stores -/

/-- A posted write of an access is issued (R276, R288), and stands unflushed on its port (R289). -/
def State.post (s : State) (g : GAcc) (pa : Nat) (bs : List Byte) (ro : Bool) : State :=
  { s with hostOut := s.hostOut ++ [{ port := hostPort pa, addr := pa % 2 ^ 51, data := bs, ro := ro }],
           unflushed := s.unflushed ++ [{ port := hostPort pa, owner := g.owner, path := g.path, id := g.id, at_ := s.nextId }] }

/-- A store is committed: it leaves the write queue; a vector lane is done (R185). -/
def State.storeDone (s : State) (g : GAcc) : State :=
  let s := s.dropGacc g.id
  match g.dest with
  | .lane vop i => s.laneDone vop i 1 []
  | _ => s

/-- Stores of one execution that write memory in several units: the lanes of a vector store, the units of a transfer, of a stream vector, of one write of path K, the
Orrery or the host (R325). -/
def GAcc.sameStore (g x : GAcc) : Bool :=
  g.samePath x &&
  (match g.dest, x.dest with
   | .lane v _, .lane u _ => v == u
   | .xfer _, .xfer _ => true
   | .port q _, .port p _ => q == p
   | .none, .none => (match g.owner with | .task _ | .sv _ => false | _ => decide (x.since = g.since) && decide (x.iaddr = g.iaddr))
   | _, _ => false)

/-- The stores of one execution to the same line, that may all commit now. -/
def State.lineGroup (s : State) (g : GAcc) : List GAcc :=
  s.gaccs.filter (fun x => x.isStore && g.sameStore x && decide (x.failed = none) &&
    decide (x.tgt.aper = g.tgt.aper) && decide (x.tgt.pa / 64 = g.tgt.pa / 64) && s.mayPerform x)

def coversLine (l : List GAcc) (line : Nat) : Bool :=
  (List.range 64).all (fun b => l.any (fun x => decide (x.tgt.pa ≤ 64 * line + b) && decide (64 * line + b < x.tgt.pa + x.n)))

/-- The class of an access's maker (R398). -/
def State.classOfOwner (s : State) : Owner → Nat
  | .task h => s.classOf (s.res h).asid
  | .sv _ => 3
  | .coll _ => 5
  | .orr _ => 4
  | .host p => if p then 1 else 0

/-- A store to this package's memory commits; the stores that write the whole of a poisoned line do so together (R325). -/
def State.commitStore (s : State) (g : GAcc) : State :=
  let grp := s.lineGroup g
  let line := g.tgt.pa / 64
  let cls := s.classOfOwner g.owner
  if s.poison.contains line && coversLine grp line then
    let s := grp.foldl (fun s x => (s.commit cls x.tgt.pa x.data).storeDone x) s
    { s with poison := s.poison.filter (fun l => l != line) }
  else (s.commit cls g.tgt.pa g.data).storeDone g

/-- The store stands in a write-combining buffer or the NT queue (R288): a release does not. -/
def GAcc.buffered (g : GAcc) : Bool := g.isStore && decide (g.tgt.aper = 3) && !g.rel && (g.combining || (g.nt && decide (g.tgt.kind ≠ 0)))

/-- A store that may commit now goes to its home, its peer, or the host (R276). A release of scope h first flushes the host ports, other than its own, that carried a
covered write (R289). -/
def State.performStore (s : State) (g : GAcc) : State :=
  match (if g.rel && decide (g.scope = 4) then s.releaseFlush g.owner g.path g.id (if g.tgt.aper = 3 then some (hostPort g.tgt.pa) else none) else none) with
  | some s' => s'
  | none =>
    if g.tgt.aper = 2 then (if g.sent then s else s.sendAccess g)
    else if g.tgt.aper = 3 then (s.post g g.tgt.pa g.data false).storeDone g
    else (s.pinOf g).commitStore g

/-- STORE_COMMIT (R276): a global store reaches its home and commits, in the order of R280. -/
def execStoreCommit (id : Nat) (s : State) : Out :=
  match s.gacc? id with
  | none => .next s
  | some g =>
    if !g.isStore || decide (g.failed ≠ none) || g.buffered || !s.mayPerform g || s.windowBusy g.tgt.pa g.n ||
        (match g.dest with | .lane _ _ => true | _ => false) then .next s
    else .next (s.performStore g)

/-- A store enters the write-combining buffers of its path (R288): those full or displaced so far, and the two that are held. -/
def wcTake (st : List (List GAcc) × List (List GAcc)) (g : GAcc) : List (List GAcc) × List (List GAcc) :=
  let line := g.tgt.pa / 64
  match st.2.find? (fun b => b.any (fun x => decide (x.tgt.pa / 64 = line))) with
  | some b =>
    if coversLine (b ++ [g]) line then (st.1 ++ [b ++ [g]], st.2.filter (fun c => c != b))
    else (st.1, st.2.map (fun c => if c = b then b ++ [g] else c))
  | none =>
    match st.2 with
    | a :: b :: _ => (st.1 ++ [a], [b, [g]])
    | l => (st.1, l ++ [[g]])

/-- The stores that are issued with one: of the NT queue those of its granule; of the write-combining buffers those of its buffer, unless a full or displaced one stands before it (R288). -/
def State.wcGroup (s : State) (g : GAcc) : List GAcc :=
  let mine := s.gaccs.filter (fun x => x.buffered && x.samePath g && decide (x.failed = none) && decide (x.nt = g.nt))
  let has := fun (b : List GAcc) => b.any (fun x => x.id == g.id)
  if g.nt then mine.filter (fun x => decide (x.tgt.pa / 64 = g.tgt.pa / 64))
  else match mine.foldl wcTake ([], []) with
    | (b :: _, _) => if has b then b else []
    | ([], held) => (held.find? has).getD []

/-- WC_BUFFER_ISSUE (R288): the buffer that holds store k is issued: its stores to the line, merged in program order, as
posted writes with Relaxed Ordering. -/
def execWcBufferIssue (k : Nat) (s : State) : Out :=
  match s.gacc? k with
  | none => .next s
  | some g =>
    let grp := s.wcGroup g
    -- stores of the buffer to the same bytes merge in order; every other order rule holds for each
    let may := grp.all (fun x => ({ s with gaccs := s.gaccs.filter (fun y => !grp.any (fun z => z.id == y.id) || y.id == x.id) } : State).mayPerform x)
    if !g.buffered || decide (g.failed ≠ none) || decide (grp = []) || !may then .next s
    else
      let bytes := grp.foldl (fun (m : FMap Byte) x => ((List.range x.n).zip x.data).foldl (fun m ib => fput m (x.tgt.pa + ib.1) ib.2) m) []
      let s := (byteRuns bytes).foldl (fun s r => s.post g r.1 r.2 true) s
      .next (grp.foldl State.storeDone s)

/-! ## Vector accesses -/

/-- Two lanes of one space touch a common byte. -/
def lanesMeet (a b : Nat) : Bool := decide (a < b + 4) && decide (b < a + 4)

/-- R185, R189: an earlier access of the resident, or a lower lane of this one, to the same bytes is not yet performed. -/
def State.laneBlocked (s : State) (v : VOp) (i a : Nat) : Bool :=
  let busy := fun (u : VOp) (hi : Nat) => u.addrs.any (fun ja => decide (ja.1 < hi) && u.todo.getLsbD ja.1 && lanesMeet ja.2 a)
  busy v i ||
  s.vops.any (fun u => decide (u.h = v.h) && decide (u.id < v.id) && !u.finished &&
    (match u.space, v.space with
     | .scratch, .scratch => busy u 128
     | .slab z r _, .slab y q _ => decide (z = y) && decide (r = q) && decide (u.todo ≠ 0)
     | _, _ => false))

/-- A lane that failed is made again (R184): with the translation that holds now, and the serial it had. -/
def State.laneAgain (s : State) (v : VOp) (i a : Nat) : State :=
  let w := Who.task v.h .v
  let k : Acc := if v.load then .load else .store
  match s.translate w.tlb (s.asidOf w) (s.classOfWho w) a k false with
  | .bad f => (s.touchFault w.tlb (s.asidOf w) a).laneFail v.id i 1 f
  | .miss => s.touchTlb w.tlb (s.asidOf w) a k
  | .ok t _ =>
    let s1 := s.touchTlb w.tlb (s.asidOf w) a k
    if !s.dirtyOk w.tlb (s.asidOf w) a k then s1
    else
      let g := if v.load then mkLoad w s1 t a 4 false 0 (.lane v.id i)
        else { mkStore w s1 t a (leBytes 4 (lane v.data i).toNat) false 0 false with dest := .lane v.id i }
      s1.pushGacc { g with iaddr := v.iaddr }

/-- One lane is performed, when it may be (R21, R183, R185). -/
def State.performLane (s : State) (id i : Nat) (host : BitVec 32) : State :=
  match s.vop? id with
  | none => s
  | some v =>
    if !v.todo.getLsbD i then s
    else
      let t := hTile v.h
      let a := fget 0 v.addrs i
      match v.space with
      | .scratch =>
        if s.heldBy t true 0 a 4 none || s.laneBlocked v i a then s
        else if v.load then s.laneDone id i 1 (memRead (s.tile t).spad a 4)
        else (s.modTile t (fun x => { x with spad := memWrite x.spad a (leBytes 4 (lane v.data i).toNat) })).laneDone id i 1 []
      | .slab z _ _ =>
        if s.laneBlocked v i a then s
        else if v.load then s.laneDone id i 1 (leBytes 4 (s.slabWord t z a).toNat)
        else (s.setSlabWord t z a (lane v.data i)).laneDone id i 1 []
      | .global =>
        match s.gaccs.find? (fun g => match g.dest with | .lane w j => w == id && j == i | _ => false) with
        | none => s.laneAgain v i a
        | some g =>
          if s.heldBy t false (s.res v.h).asid a 4 none || !s.mayPerform g then s
          else if g.isStore then (if g.buffered || s.windowBusy g.tgt.pa g.n then s else s.performStore g)
          else s.performLoad g (leBytes 4 host.toNat)

/-- R29, R189: a completed access may report now: on w0 to w3 every earlier access of the counter has reported; a consume or
release form has no earlier access to its slab outstanding. -/
def State.mayReport (s : State) (v : VOp) : Bool :=
  let earlier := s.vops.filter (fun u => decide (u.h = v.h) && decide (u.id < v.id) && !u.finished)
  (match v.ctr with | some k => decide (4 ≤ k) || !earlier.any (fun u => decide (u.ctr = some k)) | none => true) &&
  (match v.space with
   | .slab z _ true => !earlier.any (fun u => match u.space with | .slab y _ _ => decide (y = z) | _ => false)
   | _ => true)

/-- A completed access reports: its counter falls, a slab form changes SLABFE (R26, R189), a load into an output port pushes
(R188) unless lanes of it are still to come, by a retry of a lane fault or of a failed target; a store that names no counter and has no fault to deliver leaves nothing behind. -/
def State.report (s : State) (v : VOp) : State :=
  let s := match v.space with
    | .slab z _ true => s.modTile (hTile v.h) (fun x => { x with slabfe :=
        if v.load then x.slabfe &&& ~~~((1 : BitVec 32) <<< z) else x.slabfe ||| ((1 : BitVec 32) <<< z) })
    | _ => s
  let s := match v.ctr with
    | some k => s.modRes v.h (fun r => { r with wcnt := fset (0 : BitVec 6) r.wcnt k (fget (0 : BitVec 6) r.wcnt k - 1) })
    | none => s
  let s := if v.load ∧ v.part = false ∧ v.failed = 0 then s.modRes v.h (fun r => r.push v.vd) else s
  if v.ctr = none ∧ v.fault = none ∧ v.part = false then { s with vops := s.vops.filter (fun u => u.id != v.id) }
  else ({ s with nextId := s.nextId + 1 } : State).modVop v.id (fun u => { u with finished := true, order := s.nextId })

/-- VECTOR_ACCESS_COMPLETE (R29, R183): lanes of an access are performed, in increasing order; when none is left, the access
completes and reports. data is what the host answered for lanes on host pages. -/
def execVectorAccessComplete (id : Nat) (lanes : BitVec 128) (data : BitVec 4096) (s : State) : Out :=
  match s.vop? id with
  | none => .next s
  | some v =>
    if v.finished then .next s
    else
      let s := if v.remote then s
        else (List.range 128).foldl (fun s i => if lanes.getLsbD i then s.performLane id i (lane data i) else s) s
      match s.vop? id with
      | none => .next s
      | some v => if v.todo = 0 && s.mayReport v then .next (s.report v) else .next s

/-- WRITE_LANDS (R97): the fixed-latency writes due at the block's distance position land. -/
def execWriteLands (h : Rh) (s : State) : Out := .next (s.modRes h.toNat (fun r => r.landTo r.vpos))

/-! ## Stream service (R249) -/

/-- The address of a vector of a stream: window offset or virtual address. -/
def stVec (x : BitVec 512) (i : Nat) : Nat := (stAddr x i % 2 ^ 64).toNat

/-- The 4-byte pieces of a stream vector with their targets, or the miss or fault of the first that has none. -/
def State.streamTargets (s : State) (h : Nat) (a : Acc) : List (Nat × Nat) → Except (Nat × Trans) (List (Nat × Nat × Target))
  | [] => .ok []
  | (va, off) :: ps =>
    let w := Who.task h .v
    match s.translate w.tlb (s.asidOf w) (s.classOfWho w) va a false with
    | .ok t _ =>
      if s.dirtyOk w.tlb (s.asidOf w) va a then
        (match s.streamTargets h a ps with
         | .ok l => .ok ((va, off, t) :: l)
         | .error e => .error e)
      else .error (va, .miss)
    | e => .error (va, e)

/-- The pieces of a vector at an address (R275). -/
def vecPieces (a : Nat) : List (Nat × Nat) := (List.range 128).map (fun i => (a + 4 * i, 4 * i))

/-- A piece of a stream is in flight. -/
def State.streamBusy (s : State) (h q : Nat) : Bool :=
  s.gaccs.any (fun g => decide (g.owner = .task h) && (match g.dest with | .port p _ => p == q | _ => false))

/-- A miss starts a walk; a fault waits at the port for the instruction that reports it. -/
def State.streamStop (s : State) (h q va : Nat) (a : Acc) : Trans → State
  | .bad f =>
    let w := Who.task h .v
    let r := s.mkRecord h .v f 0
    (s.touchFault w.tlb (s.asidOf w) va).modRes h (fun y => { y with portFault := fput y.portFault q (some r) })
  | _ => s.touchTlb (Who.task h .v).tlb (s.asidOf (.task h .v)) va a

/-- The pieces join the accesses of path V. -/
def State.pushStream (s : State) (h q : Nat) (load : Bool) (data : VReg) (l : List (Nat × Nat × Target)) : State :=
  let w := Who.task h .v
  l.foldl (fun s p =>
    let (va, off, t) := p
    let s := s.touchTlb w.tlb (s.asidOf w) va (if load then .load else .store)
    s.pushGacc (if load then mkLoad w s t va 4 false 0 (.port q off)
      else { mkStore w s t va (leBytes 4 (data >>> (8 * off)).toNat) false 0 false with dest := .port q off })) s

/-- A fetched vector enters the empty staging, or waits behind it. -/
def Resident.arrive (r : Resident) (q : Nat) (v : VReg) : Resident :=
  if r.staged.getLsbD q || decide (fget [] r.ahead q ≠ []) then { r with ahead := fput r.ahead q (fget [] r.ahead q ++ [v]) }
  else { r with vregs := fset (0 : VReg) r.vregs (120 + q) v, staged := r.staged ||| ((1 : BitVec 8) <<< q) }

/-- The oldest vector fetched ahead enters the empty staging. -/
def Resident.stage (r : Resident) (q : Nat) : Resident :=
  match fget [] r.ahead q with
  | v :: vs => { r with ahead := fput r.ahead q vs, vregs := fset (0 : VReg) r.vregs (120 + q) v, staged := r.staged ||| ((1 : BitVec 8) <<< q) }
  | [] => r

/-- A vector access of the resident's scratchpad that is not performed and touches the vector at an offset (R185). -/
def State.spadVecBusy (s : State) (h a : Nat) : Bool :=
  s.vops.any (fun v => v.h == h && decide (v.space = .scratch) && !v.finished &&
    v.addrs.any (fun ja => v.todo.getLsbD ja.1 && decide (a < ja.2 + 4) && decide (ja.2 < a + 512)))

/-- STREAM_FETCH (R249): the next vector of an input stream, at most 4 ahead of the staging, in increasing order; from the scratchpad one unit a turn (R275). -/
def execStreamFetch (h : Rh) (q : BitVec 3) (s : State) : Out :=
  let k := h.toNat
  let n := q.toNat
  let r := s.res k
  let x := r.stream n
  let ah := fget [] r.ahead n
  let next := (stPos x).toNat + (if r.staged.getLsbD n then 1 else 0) + ah.length
  if stBind x ≠ 1 ∨ r.life ≠ .active then .next s
  else if !r.staged.getLsbD n && decide (ah ≠ []) then .next (s.modRes k (fun r => r.stage n))
  else if fget none r.portFault n ≠ none ∨ s.streamBusy k n then .next s
  else
    let got := fget [] r.fetch n
    if got.length = 512 then
      .next (s.modRes k (fun r => ({ r with fetch := fput r.fetch n [] } : Resident).arrive n (bytesVec (got.map (·.2)))))
    else if (stCount x).toNat ≤ next ∨ 4 ≤ ah.length then .next s
    else if stSpace x then
      let a := stVec x next
      let o := got.length
      if s.heldBy (hTile k) true 0 (r.spBase + a) 512 none || s.spadVecBusy k (r.spBase + a) then .next s
      else .next (s.modRes k (fun r => { r with fetch := fput r.fetch n (got ++ ((List.range 4).map (o + ·)).zip (s.spadRead k (a + o) 4)) }))
    else
      let a := stVec x next
      if s.heldBy (hTile k) false r.asid a 512 none then .next s
      else match s.streamTargets k .load (vecPieces a) with
        | .error (va, e) => .next (s.streamStop k n va .load e)
        | .ok l => .next (s.pushStream k n true 0 l)

/-- The staged vector of an output stream is stored: the staging is empty and POS moves on. -/
def Resident.stored (r : Resident) (q : Nat) : Resident :=
  let x := r.stream q
  { (r.setStream q (stPut x 448 32 ((stPos x).toNat + 1))) with
    staged := r.staged &&& ~~~((1 : BitVec 8) <<< q), fetch := fput r.fetch q [] }

/-- STREAM_STORE (R249): the staged vector of an output stream is stored at vector POS; to the scratchpad one unit a turn (R275), which fetch counts. -/
def execStreamStore (h : Rh) (q : BitVec 3) (s : State) : Out :=
  let k := h.toNat
  let n := q.toNat
  let r := s.res k
  let x := r.stream n
  if stBind x ≠ 2 ∨ (r.life ≠ .active ∧ r.life ≠ .draining) ∨ !r.staged.getLsbD n ∨ fget none r.portFault n ≠ none ∨ s.streamBusy k n then .next s
  else
    let a := stVec x (stPos x).toNat
    let v := fget (0 : VReg) r.vregs (120 + n)
    let done := (fget [] r.fetch n).length
    if stSpace x then
      if done = 128 then .next (s.modRes k (fun r => r.stored n))
      else if s.heldBy (hTile k) true 0 (r.spBase + a) 512 none || s.spadVecBusy k (r.spBase + a) then .next s
      else .next ((s.spadWrite k (a + 4 * done) (leBytes 4 (lane v done).toNat)).modRes k (fun r => { r with fetch := fput r.fetch n (fput (fget [] r.fetch n) done 0) }))
    else if done ≠ 0 then .next (s.modRes k (fun r => r.stored n))
    else if s.heldBy (hTile k) false r.asid a 512 none then .next s
    else match s.streamTargets k .store (vecPieces a) with
      | .error (va, e) => .next (s.streamStop k n va .store e)
      | .ok l => if !s.storeRoom (.task k) (l.map (·.2.2)) then .next s else .next ((s.pushStream k n false v l).modRes k (fun r => { r with fetch := fput r.fetch n [(0, 0)] }))

/-! ## Responses (R252, R355) -/

/-- The result of a remote operation is written (R252). -/
def State.remoteResult (s : State) (o : ROut) (x : RResp) : State :=
  match o.dest with
  | .sreg d w sgn => (match ownerWho o.owner o.path with
      | some p => s.modSc p (fun c => c.set d (extBytes sgn w x.result.toNat))
      | none => s)
  | .pair d => (match ownerWho o.owner o.path with
      | some p => s.modSc p (fun c => if d = 0 then c else (c.set d (x.result.setWidth 64)).set (d + 1) ((x.result >>> 64).setWidth 64))
      | none => s)
  | .lane vop i w write => s.laneDone vop i (w / 4) (if write then leBytes w x.result.toNat else [])
  | .access id => (match s.gacc? id with
      | some g => if g.isStore then s.storeDone g else s.loadDone g x.data
      | none => s)
  | .none | .barrier _ | .cohortInfo _ | .eventInfo _ => s

/-- An operation completes with a remote, state-use, memory-error or protection fault (R184, R256, R310, R355). -/
def State.remoteFails (s : State) (o : ROut) (st : RStatus) : State :=
  match o.dest with
  | .access id => (match s.gacc? id with
      | some g =>
        -- a scalar access or a copy load keeps its request, which a retry sends again
        (match g.owner, g.dest with
         | .task _, .sreg _ _ | .task _, .creg _ | .task _, .none | .task _, .record =>
           ((s.serialStops o).modRout o.id (fun r => { r with status := some st, inc := o.inc })).failAcc g st
         -- the stores of a vector access, a transfer or a stream are made again with the serial they had
         | .task _, _ => ((s.serialStops o).dropRout o.id).failAcc g st
         | _, _ => ((s.serialDone o).dropRout o.id).failAcc g st)
      | none => (s.serialDone o).dropRout o.id)
  | .cohortInfo _ => s.modRout o.id (fun r => { r with status := some st, inc := o.inc })
  | .eventInfo hd => (match o.owner with
      | .orr k => if k < 2 ^ 26 then (s.dropRout o.id).armPeer k hd none else s.modRout o.id (fun r => { r with status := some st, inc := o.inc })
      | _ => s.modRout o.id (fun r => { r with status := some st, inc := o.inc }))
  | _ =>
    let f := remoteFault st o.peer o.inc o.tgt.pa (Config.freeStateUseDetail s.fresh)
    let f := { f with va := BitVec.ofNat 64 o.va }
    let s := s.fresh1
    match o.owner with
    | .sv c => ((s.serialDone o).dropRout o.id).svFault c f.code f.va
    | .task h =>
      let s := (s.serialStops o).modRout o.id (fun r => { r with status := some st, inc := o.inc })
      (match o.dest with
       | .lane vop i w _ => s.laneFail vop i (w / 4) f
       | _ =>
         let e := pathEng o.path
         if e ≠ .s ∧ (s.res h).est e = 1 then s.parkWith h e (.remote o.id) (s.mkRecord h e f o.iaddr)
         else s.addDeferred h o.id)
    | .coll c => ((s.serialDone o).dropRout o.id).collStop c 6 0 true
    | .host _ => s.dropRout o.id
    | .orr _ => (s.serialDone o).modRout o.id (fun r => { r with status := some st, inc := o.inc })

/-- An operation that returns a value to its requester (R355). -/
def ROut.returns (o : ROut) : Bool :=
  match o.dest with
  | .sreg _ _ _ | .pair _ => true
  | .lane _ _ _ write => write
  | _ => false

/-- R355: what an answer does at the requester. -/
def State.answered (s : State) (o : ROut) (x : RResp) : State :=
  let ok := fun (s : State) => match o.dest with
    | .barrier _ => s.modRout o.id (fun r => { r with answer := 1 })
    | .cohortInfo _ => s.modRout o.id (fun r => { r with status := some .performed, answer := x.result, data := x.data })
    | .eventInfo hd => (match o.owner with
        | .orr k => if k < 2 ^ 26 then (s.dropRout o.id).armPeer k hd (some x.result) else s.modRout o.id (fun r => { r with status := some .performed, answer := x.result })
        | _ => s.modRout o.id (fun r => { r with status := some .performed, answer := x.result }))
    | _ => ((s.remoteResult o x).serialDone o).dropRout o.id
  match x.status with
  | .performed | .byHfail => ok s
  | .retired => if o.returns then s.remoteFails { o with inc := x.inc } .retired else ok s
  | .ownerBusy => s.modRout o.id (fun r => { r with busy := true })
  | st => s.remoteFails { o with inc := x.inc } st

/-- REMOTE_RESPONSE (R355): the k-th response reaches its requester, which learns the owner's incarnation (R359) and that the owner has received the completed-through
value of the request (R357). -/
def execRemoteResponse (k : Nat) (s : State) : Out :=
  match s.responses[k]? with
  | none => .next s
  | some x =>
    let s := { s with responses := s.responses.eraseIdx k }
    let s := if x.src ≠ s.pkgId then { s with peerInc := fput s.peerInc x.src.toNat x.inc } else s
    match s.rout? x.id with
    | none => .next s
    | some o =>
      let s := match o.req.ct with | some c => (if x.status ≠ .protection then s.seenAck o.owner o.peer c else s) | none => s
      if o.status ≠ none then .next s else .next (s.answered o x)

/-- A request goes out again: to this package's slices or over the fabric. -/
def State.resend (s : State) (o : ROut) (q : RReq) : State :=
  let s := if q.serial.isSome && decide (o.status ≠ none) then s.outstandingMore o.owner o.peer else s
  let s := s.modRout o.id (fun r => { r with busy := false, status := none, req := q, since := s.stamp })
  if o.tgt.aper = 2 then s.sendPacket o.peer (.request q) else { s with requests := s.requests ++ [q] }

/-- OWNER_BUSY_RESEND (R355): sent again as a first transmission. -/
def execOwnerBusyResend (id : Nat) (s : State) : Out :=
  match s.rout? id with
  | none => .next s
  | some o =>
    if !o.busy then .next s
    else .next (s.resend o { o.req with rt := false, inc := if o.req.rp then o.req.inc else s.incOf o.peer })

/-- STANDALONE_ACK (R356): the completed-through value goes to the owner. -/
def execStandaloneAck (h : Rh) (owner : BitVec 10) (s : State) : Out :=
  let r := s.res h.toNat
  let x := s.seqOf h.toNat owner
  if x.current = x.ct then .next s
  else
    let s := s.setSeq h.toNat owner x.acked
    if owner = s.pkgId then
      .next { s with acks := s.acks ++ [{ src := s.pkgId, asid := r.asid, nodeInst := r.nodeInst, taskNum := r.taskNum, ct := x.current }] }
    else .next (s.sendPacket owner (.ack s.pkgId r.asid r.nodeInst r.taskNum x.current))

/-- The Completion Timeout of a port's Device Control 2, in stamps: 50 ms by default (R393). -/
def State.hostLimit (s : State) (pa : Nat) : Nat := fget 100000000 s.hostTimeout (if hostPort pa then 1 else 0)

/-- HOST_COMPLETION_TIMEOUT (R393): after the timeout a host load completes with remote-unreachable, an atomic with remote-indeterminate. -/
def execHostCompletionTimeout (id : Nat) (s : State) : Out :=
  match s.gacc? id with
  | some g => if g.tgt.aper = 3 && !g.isStore && decide (g.failed = none) && s.mayPerform g && decide (s.hostLimit g.tgt.pa ≤ (s.stamp - g.since).toNat) then .next (s.failAcc g .unreachable) else .next s
  | none =>
    match s.rout? id with
    | some o =>
      if o.tgt.aper = 3 && decide (o.status = none) && decide (s.hostLimit o.tgt.pa ≤ (s.stamp - o.since).toNat) && !s.requests.any (fun q => q.src == s.pkgId && q.id == id) then .next (s.remoteFails o .indeterminate)
      else .next s
    | none => .next s

/-! ## Walks and the directory -/

/-- WALK_COMPLETE (R295, R298, R300), of a walk that has a walker (R299). -/
def execWalkComplete (k : Nat) (s : State) : Out := .next (if s.walking k then s.walkComplete k else s)

/-- DIRECTORY_EVICTION (R323): every copy the entry records is invalidated. -/
def execDirectoryEviction (line : Nat) (s : State) : Out := .next (s.invalidate (64 * line) 64)

end Sys2Proof.Machine
end

