-- ==== Sys2Proof/Machine/Collective.lean ====
section
/-!
DEFINITION. The collective engines: the COLL group (R250, R263 to R266, R365), the steps (R265 to R271), chunks, staging and
arbitration (R366 to R369), windows and credits (R371, R377), flushes, stragglers and watchdogs (R373 to R376).
-/

namespace Sys2Proof.Machine

open Sys2Proof

/-! ## Records (R250) -/

/-- Bytes that a COLL function reads: loads of the issuing path, a unit each (R250, R275); the function goes on when they have returned. -/
def recLoad (w : Who) (h va n : Nat) (s : State) (k : List Byte → State → Out) : Out :=
  heldOp w true va n s (fun s =>
    let us := readUnits 1 [(va, n)]
    let m := s.recBytes w.owner w.path
    match us.filter (fun u => (allBytes m u.1 u.2).isNone) with
    | [] => k (us.flatMap (fun u => (allBytes m u.1 u.2).getD [])) s
    | l =>
      let out := fun (a : Nat) => s.gaccs.any (fun g => decide (g.owner = w.owner) && decide (g.path = w.path) && decide (g.dest = .record) && decide (g.va = a))
      match s.targetsOf h .load ((l.filter (fun u => !out u.1)).map (fun u => (u.1, u.2, 0))) with
      | .error (a, .bad f) => .next ((s.touchFault w.tlb (s.asidOf w) a).takeFault w .instr f)
      | .error (a, _) => .next (s.touchTlb w.tlb (s.asidOf w) a .load)
      | .ok ts => .next (ts.foldl (fun s p => (s.touchTlb w.tlb (s.asidOf w) p.1 .load).pushGacc (mkLoad w s p.2.2.2 p.1 p.2.1 false 0 .record)) s))

/-- A COLL function (R127, R250): performed after every earlier store of the issuing path has committed. -/
def collOp (i : Instr) (s : State) (k : Who → Nat → Out) : Out :=
  onTile i s (fun w h => if s.storesOut w.owner w.path then .next s else k w h)

/-- The record a COLL function reads: state-use for an address that is no multiple of 64. -/
def collRec (i : Instr) (x : BitVec 6) (s : State) (k : Who → Nat → List Byte → State → Out) : Out :=
  collOp i s (fun w h =>
    let a := s.lreg w x.toNat
    if a.toNat % 64 ≠ 0 then .next (s.stateUse w) else recLoad w h a.toNat 64 s (k w h))

/-- The result of a COLL function; what it read elsewhere is dropped. -/
def collResult (w : Who) (x : BitVec 6) (v : Word) (s : State) : State := localResult w x.toNat v (s.setRec w.owner w.path [])

/-- n bytes of a record at an offset, little-endian. -/
def recNat (bs : List Byte) (off n : Nat) : Nat := leNat ((bs.drop off).take n)

/-! ## CCOMM (R250, R365, R366) -/

/-- The rules of a communicator record's fields. -/
def ccommOk (bs : List Byte) : Bool :=
  decide (recNat bs 8 1 ≤ 3) && within (recNat bs 9 1) 1 16 && decide (recNat bs 10 1 ≤ 4) && decide (recNat bs 11 1 ≤ 1) &&
  decide (recNat bs 12 4 ≠ 0) && decide (recNat bs 16 48 = 0)

/-- The members of an engine. -/
def State.commsOf (s : State) (q : Nat) : List Comm := (s.comms.filter (fun kc => kc.2.live && decide (kc.1 / 256 = q))).map (·.2)

/-- A member is formed, or 0 when the engine's resources are exhausted (R364, R366). -/
def State.ccommForm (s : State) (h : Nat) (bs : List Byte) (rank size : Nat) (pkgs : FMap (BitVec 10)) : State × Word :=
  let q := hTile h / 72
  let hd : Word := BitVec.ofNat 64 (recNat bs 0 8)
  let slots := recNat bs 9 1
  let cb := 4096 * 2 ^ recNat bs 10 1
  let used := ((s.commsOf q).map (fun c => 8 * c.slots * c.chunkBytes)).foldl (· + ·) 0
  match (List.range 256).find? (fun i => !(s.comm (256 * q + i)).live) with
  | none => (s, 0)
  | some i =>
    if 64 * 2 ^ 20 < used + 8 * slots * cb then (s, 0)
    else
      let r := s.res h
      let ident := r.ident
      let ord := match s.ccount.find? (fun p => decide (p.1 = hd) && decide (p.2.1 = rank)) with | some p => p.2.2 | none => 0
      let handle := s.newHandle ((s.comms.filter (fun kc => kc.2.live)).map (fun kc => kc.2.handle))
      let n := fget 0 r.ccomms hd.toNat
      let x : Comm := { Comm.start with
        live := true, handle := handle, asid := r.asid, cohort := hd, ordinal := ord, rank := rank, size := size,
        cls := BitVec.ofNat 2 (recNat bs 8 1), slots := slots, chunkBytes := cb, bounded := decide (recNat bs 11 1 = 1),
        timeout := BitVec.ofNat 32 (recNat bs 12 4), pkgs := pkgs, ident := ident, startBy := .task h }
      let s := (s.fresh1.setComm (256 * q + i) x).modRes h (fun r => { r with ccomms := fput r.ccomms hd.toNat (n + 1) })
      ({ s with ccount := (hd, rank, ord + 1) :: s.ccount.filter (fun p => !(decide (p.1 = hd) && decide (p.2.1 = rank))),
                formed := (ident, hd, n, handle) :: s.formed }, handle)

/-- The packages of a cohort's ranks as another package answered them. -/
def pkgList (bs : List Byte) : FMap (BitVec 10) := (List.range (bs.length / 2)).map (fun r => (r, BitVec.ofNat 10 (recNat bs (2 * r) 2)))

/-- The question to another package's cohort object, as the engine of the caller sees it. -/
def State.cohortAsk (s : State) (w : Who) (hd : Word) : Option ROut :=
  s.routs.find? (fun o => decide (o.owner = w.owner) && decide (o.path = w.path) && decide (o.dest = .cohortInfo hd))

/-- CCOMM (R250): a replayed task's ccomm for an ordinal its first run formed returns the existing handle (R365). -/
def execCcomm (x : BitVec 6) (s : State) : Out :=
  collRec (.ccomm x) x s (fun w h bs s =>
    let r := s.res h
    let hd : Word := BitVec.ofNat 64 (recNat bs 0 8)
    let n := fget 0 r.ccomms hd.toNat
    let ident := r.ident
    let replayed := match r.task with | some t => t.replayed | none => false
    if !ccommOk bs then .next (s.stateUse w)
    else match (if replayed then s.formed.find? (fun f => decide (f.1 = ident) && decide (f.2.1 = hd) && decide (f.2.2.1 = n)) else none) with
      | some f => .next (collResult w x f.2.2.2 (s.modRes h (fun r => { r with ccomms := fput r.ccomms hd.toNat (n + 1) })))
      | none =>
        if hdlPkg hd = s.pkgId then
          match s.cohortOf hd with
          | none => .next (s.stateUse w)
          | some k =>
            match (s.cohort k).rankOf (s.memberOf h false) with
            | none => .next (s.stateUse w)
            | some rank =>
              let r := s.ccommForm h bs rank (s.cohort k).size []
              .next (collResult w x r.2 r.1)
        else match s.cohortAsk w hd with
          | none => .next (s.remoteCohort w 0 hd (.cohortInfo hd))
          | some o =>
            match o.status with
            | none => .next s
            | some .performed =>
              let r := (s.dropRout o.id).ccommForm h bs (o.answer.toNat % 2 ^ 64) (o.answer.toNat / 2 ^ 64) (pkgList o.data)
              .next (collResult w x r.2 r.1)
            | some .stateUse => .next ((s.dropRout o.id).stateUse w)
            | some st => .next (((s.dropRout o.id).fresh1).takeFault w .instr (remoteFault st o.peer o.inc 0 (Config.freeStateUseDetail s.fresh))))

/-! ## Step words and descriptors (R108, R263, R264) -/

def swOp (w : BitVec 64) : Nat := (w.extractLsb' 58 6).toNat
def swLs (w : BitVec 64) : Nat := (w.extractLsb' 56 2).toNat
def swBuf (w : BitVec 64) : Nat := (w.extractLsb' 24 4).toNat

/-- R263: each ENDL closes the innermost open LOOP and names its counter; no counter is open twice; none is left open. -/
def loopsOk : List (BitVec 64) → List Nat → Bool
  | [], st => st.isEmpty
  | w :: ws, st =>
    if swOp w = 0x0A then !st.contains (swLs w) && loopsOk ws (swLs w :: st)
    else if swOp w = 0x0B then
      (match st with
       | t :: st' => decide (t = swLs w) && loopsOk ws st'
       | [] => false)
    else loopsOk ws st

/-- The descriptors a step word names. -/
def swBufs (w : BitVec 64) : List Nat :=
  if swOp w = 5 then [swBuf w, (w.extractLsb' 20 4).toNat]
  else if within (swOp w) 1 9 then [swBuf w] else []

/-- The fields of a buffer descriptor (R264). -/
def dBase (d : BitVec 256) : Word := d.extractLsb' 0 64
def dLen (d : BitVec 256) : Nat := (d.extractLsb' 64 32).toNat
def dNblk (d : BitVec 256) : Nat := (d.extractLsb' 96 32).toNat
def dTile (d : BitVec 256) : Nat := (d.extractLsb' 128 16).toNat
def dSpace (d : BitVec 256) : Nat := (d.extractLsb' 144 8).toNat
def dFmt (d : BitVec 256) : Nat := (d.extractLsb' 152 8).toNat
def dCh (d : BitVec 256) : Nat := (d.extractLsb' 160 8).toNat
def dRop (d : BitVec 256) : Nat := (d.extractLsb' 168 8).toNat
def dKind (d : BitVec 256) : Nat := (d.extractLsb' 176 8).toNat

/-- Bits of an element of a format code. -/
def fmtBits (f : Nat) : Nat := match NFmt.ofCode f with | some x => x.width | none => 8

/-- The rules of a descriptor's fields (R264). -/
def State.descOk (s : State) (d : BitVec 256) : Bool :=
  let tileUsed := decide (dSpace d = 1) || decide (dCh d ≠ 0xFF)
  decide (d.extractLsb' 184 72 = 0) && decide (dKind d ≤ 3) &&
  (decide (dKind d = 3) ||
    (decide (dSpace d ≤ 1) && (if tileUsed then decide (dTile d < 288) else decide (dTile d = 0)) &&
     (decide (dCh d < 16) || decide (dCh d = 0xFF)) && decide (dRop d ≤ 2) && decide (dFmt d < 14) &&
     (match dKind d with
      | 0 => decide (1 ≤ dLen d) && within (dNblk d) 1 (2 ^ 20) && decide (dLen d % dNblk d = 0) &&
          decide (8 * (dLen d / dNblk d) % fmtBits (dFmt d) = 0)
      | 1 => decide (dLen d = 0) && (decide (hdlPkg (dBase d) ≠ s.pkgId) || s.eventLive (dBase d))
      | _ => decide (dLen d = 0) && decide ((dBase d).toNat % 64 = 0))))

/-- The formats of reductions and wide sends (R264). -/
def wideFmt (f : Nat) : Bool := [0, 2, 3, 4, 5].contains f

/-- R264: a descriptor named by RRS, RRF or a wide SEND has a format that fp32 holds. -/
def wideOk (ds : List (BitVec 256)) (w : BitVec 64) : Bool :=
  if swOp w = 3 || swOp w = 4 || (swOp w = 1 && w.getLsbD 22) then wideFmt (dFmt (ds.getD (swBuf w) 0)) else true

/-- Words of n bytes of a byte list. -/
def cutWords (n : Nat) (bs : List Byte) : List Nat := (List.range (bs.length / n)).map (fun i => recNat bs (n * i) n)

/-! ## Messages between members -/

/-- The package of a rank (R365): the cohort object's holder, or what its package and the chunks of that rank have told. -/
def State.pkgOf (s : State) (x : Comm) (rank : Nat) : BitVec 10 :=
  if hdlPkg x.cohort = s.pkgId then
    match s.cohortOf x.cohort with
    | some k => (match (s.cohort k).at rank with | some m => m.pkg | none => fget s.pkgId x.pkgs rank)
    | none => fget s.pkgId x.pkgs rank
  else fget (hdlPkg x.cohort) x.pkgs rank

/-- The packets a chunk goes in: of 64 payload flits at most (R388). -/
def packetsOf (ch : Chunk) : List Payload :=
  let n := max 1 ((ch.data.length + 2047) / 2048)
  (List.range n).map (fun i => .chunk { ch with data := (ch.data.drop (2048 * i)).take 2048 } i n)

/-- A chunk goes to a package: over the fabric, or to this package's engines (R367, R370). -/
def State.sendChunk (s : State) (pkg : BitVec 10) (ch : Chunk) : State :=
  if pkg = s.pkgId then { s with chunks := s.chunks ++ [ch] } else (packetsOf ch).foldl (fun s p => s.sendPacket pkg p) s

/-- A message about credits goes to a package, on the channel of its class. -/
def State.sendCredit (s : State) (pkg : BitVec 10) (m : CreditMsg) (cls : BitVec 2) : State :=
  if pkg = s.pkgId then { s with creditMsgs := s.creditMsgs ++ [m] } else s.sendPacket pkg (.credit m cls)

/-- A message of member x to a rank. -/
def State.tell (s : State) (x : Comm) (rank : Nat) (m : Nat → Nat → CreditMsg) : State :=
  s.sendCredit (s.pkgOf x rank) (m (x.key rank) x.rank) x.cls

/-! ## Windows (R371, R377) -/

def Comm.window? (x : Comm) (sender : Nat) : Option CWindow := x.windows.find? (fun w => w.sender == sender)
def Comm.modWindow (x : Comm) (sender : Nat) (f : CWindow → CWindow) : Comm :=
  { x with windows := x.windows.map (fun w => if w.sender = sender then f w else w) }

/-- Bytes of one block of a transpose (R270). -/
def xpNat (p : BitVec 1024) (off n : Nat) : Nat := (p.extractLsb' (8 * off) (8 * n)).toNat
def xpInt (p : BitVec 1024) (off : Nat) : Int := (p.extractLsb' (8 * off) 64).toInt
def xpE (p : BitVec 1024) : Nat := 4 * 2 ^ xpNat p 19 1
def xpR (p : BitVec 1024) : Nat := xpNat p 24 4
def xpCB (p : BitVec 1024) : Nat := xpNat p 28 4
def xpBlock (p : BitVec 1024) : Nat := xpR p * xpCB p * xpE p

/-- The executing transpose, and the first block of its write order that is not written. -/
def Comm.xposing (x : Comm) : Option Nat :=
  match x.step with
  | some p => if p.kind = .xpose then some (if xpBlock p.par ≤ p.off then p.m + 1 else p.m) else none
  | none => none

/-- The senders an executing transpose lets bind: the next 8 of its write order whose blocks are not written (R377). -/
def Comm.mayBind (x : Comm) (sender : Nat) : Bool :=
  match x.xposing with
  | some m => (List.range 8).any (fun i => decide (m + i < x.size) && decide ((x.rank + m + i) % x.size = sender))
  | none => true

/-- Free windows are bound to the waiting senders that may have them, in the order of their refusals (R371). -/
def State.bindWaiting (c : Nat) : Nat → State → State
  | 0, s => s
  | n + 1, s =>
    let x := s.comm c
    if 8 ≤ x.windows.length then s
    else match x.refusals.find? (fun r => x.mayBind r && (x.window? r).isNone) with
      | none => s
      | some r =>
        let x' := { x with windows := x.windows ++ [{ sender := r, chunks := [], out := x.slots }], refusals := x.refusals.erase r }
        State.bindWaiting c n ((s.setComm c x').tell x' r (fun k me => .grant k me x.slots))

/-- A window is released, and given to a waiting sender (R371). -/
def State.release (s : State) (c sender : Nat) : State :=
  let x := s.comm c
  State.bindWaiting c 8 ((s.setComm c { x with windows := x.windows.filter (fun w => w.sender != sender) }).tell x sender (fun k me => .release k me))

/-! ## CSTART, CFREE (R250, R263, R271) -/

/-- The rules of a start record's fields. -/
def cstartOk (bs : List Byte) : Bool :=
  decide (recNat bs 8 8 % 8 = 0) && within (recNat bs 16 4) 1 65536 && decide (recNat bs 20 4 = 0) && decide (recNat bs 48 16 = 0)

/-- Chunks of an earlier run that were stored and never used go. -/
def Comm.purge (x : Comm) (run : Nat) : Comm :=
  { x with windows := x.windows.map (fun w => { w with chunks := w.chunks.filter (fun ch => decide (run ≤ ch.run)) }) }

/-- Stored chunks of runs below one. -/
def Comm.stale (x : Comm) (run : Nat) : List Chunk := x.windows.flatMap (fun w => w.chunks.filter (fun ch => decide (ch.run < run)))

/-- Chunks' entries beside the slices are free (R363). -/
def State.freeChunkEntries (s : State) (c : Nat) (l : List (BitVec 10 × Serial)) : State :=
  let sl := 16 * (c / 256)
  l.foldl (fun s p => s.setAg sl ((s.agEntries sl).eraseP (fun e => e.matches p.1 p.2))) s

/-- The program begins (R263, R363), for a task's identity and ASID: ordinals and chunk serials count from 0. -/
def Comm.begin (x : Comm) (ident : BitVec 84) (by_ : Owner) (bs : List Byte) (prog : List (BitVec 64)) (ds : List (BitVec 256))
    (captured : FMap Word) (stamp : Word) (replays : Option (FMap (BitVec 16))) : Comm :=
  let n := match x.starts.find? (fun p => p.1 == ident) with | some p => p.2 | none => 0
  { x.purge (x.runs + 1) with
    run := .running, runs := x.runs + 1, asid := ident.extractLsb' 44 14, ident := ident, startBy := by_,
    starts := (ident, n + 1) :: x.starts.filter (fun p => p.1 != ident), prog := prog, progAddr := BitVec.ofNat 64 (recNat bs 8 8),
    pos := 0, descs := ds, captured := captured, event := BitVec.ofNat 64 (recNat bs 32 8), incr := BitVec.ofNat 64 (recNat bs 40 8),
    loops := [], ctrs := [], step := none, sends := [], staging := [], deficit := 0, chunkOrd := [], sendOrd := [], recvOrd := [],
    bcasts := 0, miss := 0, stragglers := 0, incomplete := false, moved := stamp, replays := replays }

/-- The number of descriptors a program names. -/
def descCount (prog : List (BitVec 64)) : Nat := ((prog.flatMap swBufs).map (· + 1)).foldl max 0

/-- The checks of a program and its table (R263, R264). -/
def State.programOk (s : State) (prog : List (BitVec 64)) (ds : List (BitVec 256)) : Bool :=
  loopsOk prog [] && ds.all s.descOk && prog.all (wideOk ds)

/-- The events that descriptors name. -/
def descEvents (ds : List (BitVec 256)) : List Word := ds.filterMap (fun d => if dKind d = 1 then some (dBase d) else none)

/-- The incarnations that a replayed task's requests carry (R360). -/
def State.replayIncs (s : State) (by_ : Owner) : Option (FMap (BitVec 16)) :=
  match by_ with
  | .task h => (match (s.res h).task with
      | some t => if t.replayed then (s.running.find? (fun r => r.inst.graph == t.graph)).map (·.incs) else none
      | none => none)
  | _ => none

/-- A member's program is started (R263): the counts of the named events are captured; windows of an earlier run that hold nothing
more are released. -/
def State.startComm (s : State) (c : Nat) (ident : BitVec 84) (by_ : Owner) (bs : List Byte) (prog : List (BitVec 64))
    (ds : List (BitVec 256)) : State :=
  let captured := (List.range ds.length).filterMap (fun i =>
    if dKind (ds.getD i 0) = 1 then some (i, s.eventCount (dBase (ds.getD i 0))) else none)
  let s := s.freeChunkEntries c (((s.comm c).stale ((s.comm c).runs + 1)).map (fun ch => (ch.src, ch.serial)))
  let s := s.setComm c ((s.comm c).begin ident by_ bs prog ds captured s.stamp (s.replayIncs by_))
  let idle := ((s.comm c).windows.filter (fun w => w.chunks.isEmpty)).map (·.sender)
  idle.foldl (fun s r => s.release c r) s

/-- A cstart of a replayed task that its first run already made (R365). -/
def Comm.restarted (x : Comm) (r : Resident) : Bool :=
  let ident := r.ident
  let n := match x.starts.find? (fun p => p.1 == ident) with | some p => p.2 | none => 0
  (match r.task with | some t => t.replayed | none => false) && decide (fget 0 r.cstarts x.handle.toNat < n)

/-- The member's program stands running or stopped (R271). -/
def Comm.busy (x : Comm) : Bool := match x.run with | .running | .stopped _ => true | _ => false

/-- CSTART (R250, R263, R271). -/
def execCstart (x : BitVec 6) (s : State) : Out :=
  collRec (.cstart x) x s (fun w h bs s =>
    if !cstartOk bs then .next (s.stateUse w)
    else match s.commOf (BitVec.ofNat 64 (recNat bs 0 8)) with
      | none => .next (collResult w x 2 s)
      | some c =>
        let m := s.comm c
        let r := s.res h
        let count := fun (s : State) => s.modRes h (fun r => { r with cstarts := fput r.cstarts m.handle.toNat (fget 0 r.cstarts m.handle.toNat + 1) })
        if m.restarted r && decide (m.run = .running ∨ m.run = .completed) then .next (collResult w x 0 (count s))
        else if m.busy then .next (collResult w x 1 s)
        else recLoad w h (recNat bs 8 8) (8 * recNat bs 16 4) s (fun pb s =>
          let prog := (cutWords 8 pb).map (BitVec.ofNat 64)
          recLoad w h (recNat bs 24 8) (32 * descCount prog) s (fun db s =>
            let ds := (cutWords 32 db).map (BitVec.ofNat 256)
            if !s.programOk prog ds then .next (s.stateUse w)
            else withCounts w (descEvents ds) s (fun s => .next (collResult w x 0 (count (s.startComm c (r.ident) (.task h) bs prog ds)))))))

/-- CFREE (R250, R271). -/
def execCfree (x : BitVec 6) (s : State) : Out :=
  collOp (.cfree x) s (fun w _ =>
    match s.commOf (s.lreg w x.toNat) with
    | none => .next (collResult w x 2 s)
    | some c => if (s.comm c).busy then .next (collResult w x 1 s) else
      let held := (s.comm c).windows.flatMap (fun y => y.chunks.map (fun ch => (ch.src, ch.serial)))
      .next (collResult w x 0 ((s.freeChunkEntries c held).setComm c Comm.start)))

/-! ## Streams a member sends (R266, R267, R367) -/

/-- Chunks of a stream. -/
def chunksOf (x : Comm) (total : Nat) : Nat := (total + x.chunkBytes - 1) / x.chunkBytes

def isBcast (k : StreamKind) : Bool := match k with | .bcast => true | _ => false

/-- The member begins to send a stream: its ordinal in the pair, or among the broadcasts, and its chunks' serial ordinals. -/
def Comm.addSend (x : Comm) (dest : Nat) (kind : StreamKind) (wide : Bool) (total : Nat) (src : SSrc) : Comm :=
  let ord := if isBcast kind then x.bcasts else fget 0 x.sendOrd dest
  let k0 := fget 0 x.chunkOrd dest
  let st : SendStream := { dest := dest, kind := kind, wide := wide, ord := ord, k0 := k0, total := total, src := src, given := [],
                           staged := 0, sent := 0, accepted := 0, refused := false }
  { x with sends := x.sends ++ [st], sendOrd := if isBcast kind then x.sendOrd else fput x.sendOrd dest (ord + 1),
           chunkOrd := fput x.chunkOrd dest (k0 + chunksOf x total) }

/-- The stream that a chunk or a message belongs to. -/
def SendStream.is (st : SendStream) (dest : Nat) (b : Bool) (ord : Nat) : Bool :=
  decide (st.dest = dest) && (isBcast st.kind == b) && decide (st.ord = ord)

def Comm.modSend (x : Comm) (dest : Nat) (b : Bool) (ord : Nat) (f : SendStream → SendStream) : Comm :=
  { x with sends := x.sends.map (fun st => if st.is dest b ord then f st else st) }

/-- The stream stands without a credit for its next chunk, with every chunk it has sent accepted (R371). -/
def SendStream.blocked (x : Comm) (st : SendStream) : Bool :=
  decide (st.accepted = st.sent) && decide (fget 0 x.credits st.dest = 0) && (st.refused || decide (0 < st.sent))

/-- Every stream under way is so blocked, in unbounded mode: later receiving steps may begin (R267, R371, R421). -/
def Comm.sendsBlocked (x : Comm) : Bool := !x.bounded && x.sends.all (fun st => st.blocked x || x.sends.any (fun u => u.blocked x && decide (u.dest = st.dest)))

/-! ## Data of a stream's chunk -/

/-- An address moved by an exact offset, modulo 2^64. -/
def offsetBy (a : Nat) (d : Int) : Nat := (((a : Int) + d) % 2 ^ 64).toNat

/-- Address of element e of the block for rank d in the source. -/
def xpSrc (p : BitVec 1024) (d e : Nat) : Nat :=
  offsetBy (xpNat p 8 8) ((e / xpCB p : Nat) * xpInt p 32 + (d * xpCB p + e % xpCB p : Nat) * xpInt p 40)
/-- Address of element e of a block in row `row` of the destination. -/
def xpDst (p : BitVec 1024) (row e : Nat) : Nat :=
  offsetBy (xpNat p 48 8) ((row * xpR p + e / xpCB p : Nat) * xpInt p 64 + (e % xpCB p : Nat) * xpInt p 72)

/-- n bytes from byte o of a block, by the addresses of its elements. -/
def xpRanges (p : BitVec 1024) (addr : Nat → Nat) (o n : Nat) : List (Nat × Nat) :=
  let e := xpE p
  (List.range ((o + n + e - 1) / e - o / e)).map (fun i =>
    let k := o / e + i
    let lo := max o (k * e)
    (addr k + (lo - k * e), min (o + n) (k * e + e) - lo))

/-- The descriptor of a buffer number. -/
def Comm.desc (x : Comm) (b : Nat) : BitVec 256 := x.descs.getD b 0

/-- Bytes [lo, lo + n) of a descriptor's buffer. -/
def descRange (d : BitVec 256) (lo n : Nat) : List (Nat × Nat) := [((dBase d).toNat + lo, n)]

def State.descRead (s : State) (c b lo n : Nat) : KRes :=
  let d := (s.comm c).desc b
  s.bufRead c (decide (dSpace d = 1)) (dTile d) (descRange d lo n)

/-- Elements as wide fp32 values, widened exactly (R268). -/
def widen (f : Nat) (bs : List Byte) : List Nat :=
  (cutWords (fmtBits f / 8) bs).map (fun v => (convert .fp32 ((NFmt.ofCode f).getD .fp32) (roundOf 0) v).1)

def wideBytes (l : List Nat) : List Byte := l.flatMap (leBytes 4)

/-- Bytes of a descriptor's buffer that n bytes of a wide stream take. -/
def narrowLen (f n : Nat) : Nat := n / 4 * (fmtBits f / 8)

/-- The bytes of the next chunk of a stream, their MISS, and the offsets at which 8 of them stand naturally aligned at their source (R275). -/
def State.chunkData (s : State) (c : Nat) (st : SendStream) : KRes × BitVec 64 × List Nat :=
  let x := s.comm c
  let o := st.staged * x.chunkBytes
  let n := min x.chunkBytes (st.total - o)
  match st.src with
  | .range b lo => (s.descRead c b (lo + o) n, 0, eightsOf (descRange (x.desc b) (lo + o) n))
  | .wider b lo f =>
    (match s.descRead c b (lo + narrowLen f o) (narrowLen f n) with
     | .ok bs s' => (.ok (wideBytes (widen f bs)) s', 0, if fmtBits f = 32 then eightsOf (descRange (x.desc b) (lo + o) n) else [])
     | r => (r, 0, []))
  | .made => (match st.given[st.staged]? with | some p => (.ok p.1 s, p.2, (List.range (p.1.length / 8)).map (8 * ·)) | none => (.wait s, 0, []))
  | .block r =>
    (match x.step with
     | some p =>
       let l := xpRanges p.par (xpSrc p.par r) o n
       (s.bufRead c (decide (xpNat p.par 18 1 = 1)) (xpNat p.par 16 2) l, 0, eightsOf l)
     | none => (.wait s, 0, []))

/-- The next chunk of the stream has its data: a broadcast is forwarded as it arrives (R269), a reduction as it is formed. -/
def Comm.hasData (x : Comm) (st : SendStream) : Bool :=
  match st.src with
  | .made => decide (st.staged < st.given.length)
  | .range _ _ =>
    if isBcast st.kind then
      (match x.step with
       | some p => decide (p.peer = x.rank) || decide (min st.total ((st.staged + 1) * x.chunkBytes) ≤ p.off)
       | none => true)
    else true
  | _ => true

/-- The first stream of the list that may stage its next chunk: those to one rank in order. -/
def Comm.nextStage (x : Comm) : Option SendStream :=
  (x.sends.zip (List.range x.sends.length)).findSome? (fun si =>
    let (st, i) := si
    let before := (x.sends.take i).any (fun u => decide (u.dest = st.dest) && (u.refused || decide (u.staged < chunksOf x u.total)))
    if !before && !st.refused && decide (st.staged < chunksOf x st.total) && x.hasData st then some st else none)

/-- SEND_STAGING_READY (R366, R368): the read of the next chunk's source data into one of two staging buffers completes. -/
def execSendStagingReady (c : Nat) (s : State) : Out :=
  let x := s.comm c
  if !x.live || decide (x.run ≠ .running) || decide (2 ≤ x.staging.length) then .next s
  else match x.nextStage with
    | none => .next s
    | some st =>
      let (r, miss, eights) := s.chunkData c st
      match r with
      | .wait s' => .next s'
      | .stop s' => .next s'
      | .ok bs s' =>
        let ch : Chunk :=
          { comm := x.key st.dest, src := s.pkgId, sender := x.rank, run := x.runs, kind := st.kind, wide := st.wide, ord := st.ord,
            serial := { asid := x.ident.extractLsb' 44 14, nodeInst := x.ident.extractLsb' 20 24, taskNum := x.ident.extractLsb' 0 20,
                        seq := BitVec.ofNat 32 (2 ^ 31 + st.k0 + st.staged) },
            offset := st.staged * x.chunkBytes, total := st.total, data := bs, eights := eights, miss := miss, paid := false, recd := x.recd,
            inc := 0, rt := false, rp := x.replays.isSome }
        .next (s'.modComm c (fun x => { x.modSend st.dest (isBcast st.kind) st.ord (fun u => { u with staged := u.staged + 1 }) with
          staging := x.staging ++ [(st.dest, ch)] }))

/-! ## Arbitration (R368) -/

/-- A chunk to a rank is sent and not yet accepted. -/
def Comm.unaccepted (x : Comm) (d : Nat) : Bool := x.sends.any (fun u => decide (u.dest = d) && decide (u.accepted < u.sent))

/-- The staged chunk that a member may send now: one against a credit, or a stream's first chunk, without a credit once every chunk before it is accepted; those to one rank in order. -/
def Comm.sendable (x : Comm) : Option (Nat × Nat × Chunk) :=
  (x.staging.zip (List.range x.staging.length)).findSome? (fun si =>
    let ((d, ch), i) := si
    if !(x.staging.take i).any (fun p => decide (p.1 = d)) && (decide (0 < fget 0 x.credits d) || (decide (ch.offset = 0) && !x.unaccepted d)) then some (i, d, ch) else none)

/-- A member of an engine that may send. -/
def Comm.eligible (x : Comm) : Bool := x.live && decide (x.run = .running) && x.sendable.isSome

/-- The members of engine q of a class that are eligible, by number. -/
def State.eligibles (s : State) (q cls : Nat) : List Nat :=
  (List.range 256).filter (fun i => (s.comm (256 * q + i)).eligible && decide ((s.comm (256 * q + i)).cls.toNat = cls))

/-- The highest class with an eligible member. -/
def State.topClass (s : State) (q : Nat) : Option Nat := [3, 2, 1, 0].find? (fun k => decide (s.eligibles q k ≠ []))

/-- Deficit round-robin: the member served now keeps its turn while its deficit covers its chunk; otherwise the next eligible one
in number order adds 64 KiB and is served (R368). -/
def State.drr (s : State) (q cls : Nat) (el : List Nat) : Nat × Nat :=
  let cur := fget 256 s.collTurn (4 * q + cls)
  let len := fun (i : Nat) => match (s.comm (256 * q + i)).sendable with | some (_, _, ch) => ch.data.length | none => 0
  if el.contains cur && decide (len cur ≤ (s.comm (256 * q + cur)).deficit) then (cur, (s.comm (256 * q + cur)).deficit)
  else
    let nx := match el.find? (fun i => decide (cur < i)) with | some i => i | none => el.headD 0
    (nx, (s.comm (256 * q + nx)).deficit + 65536)

/-- The members of an engine that are not eligible have their deficit set to 0 (R368). -/
def State.clearDeficits (s : State) (q : Nat) : State :=
  { s with comms := s.comms.map (fun (kc : Nat × Comm) => if decide (kc.1 / 256 = q) && !kc.2.eligible then (kc.1, { kc.2 with deficit := 0 }) else kc) }

/-- The incarnation that a member's chunks to a package carry (R359, R360). -/
def State.chunkInc (s : State) (x : Comm) (pkg : BitVec 10) : BitVec 16 :=
  match x.replays with
  | some m => fget 0 m pkg.toNat
  | none => s.incOf pkg

/-- CHUNK_SEND (R368, R371): the port chooses a chunk and sends it, against a credit when one is held. -/
def execChunkSend (q : BitVec 2) (s : State) : Out :=
  let n := q.toNat
  let s := s.clearDeficits n
  match s.topClass n with
  | none => .next s
  | some cls =>
    let (i, d) := s.drr n cls (s.eligibles n cls)
    let c := 256 * n + i
    let x := s.comm c
    match x.sendable with
    | none => .next s
    | some (j, dest, ch) =>
      let cr := fget 0 x.credits dest
      let paid := decide (0 < cr)
      let x' := { x.modSend dest (isBcast ch.kind) ch.ord (fun u => { u with sent := u.sent + 1 }) with
        staging := x.staging.eraseIdx j, credits := if paid then fput x.credits dest (cr - 1) else x.credits,
        deficit := d - ch.data.length }
      let pkg := s.pkgOf x dest
      let s := (s.setComm c x').sendChunk pkg { ch with paid := paid, inc := s.chunkInc x pkg }
      .next { s with collTurn := fput s.collTurn (4 * n + cls) i }

/-! ## The end of a program (R267, R271, R376) -/

/-- STATE and CAUSE of a member's signals (R376). -/
def Comm.signalState (x : Comm) : BitVec 2 × BitVec 56 :=
  if x.incomplete then
    let lo : BitVec 32 := x.miss.setWidth 32
    let hi : BitVec 32 := (x.miss >>> 32).setWidth 32
    (2, (lo ||| hi) ++ BitVec.ofNat 24 (min x.stragglers (2 ^ 24 - 1)))
  else (1, 0)

def Comm.signalOp (x : Comm) (n : Word) : ROp := .evSignal n x.signalState.1 x.signalState.2

/-- After the last step, with every stream accepted and every write committed, the completion signal is given and the member is
idle (R271). -/
def State.collEnd (s : State) (c : Nat) : State :=
  let x := s.comm c
  if x.live && decide (x.run = .running) && decide (x.prog.length ≤ x.pos) && decide (x.step = none) && x.sends.isEmpty && s.kSettled c then
    (s.setComm c { x with run := .completed }).postEvent x.event (x.signalOp x.incr) false
  else s

/-- A step has completed: the next begins (R267). -/
def State.stepDone (s : State) (c : Nat) : State :=
  let used := match (s.comm c).step with | some p => p.used | none => []
  let s := s.freeChunkEntries c used
  let s := s.modComm c (fun x => { x with pos := x.pos + 1, step := none })
  State.bindWaiting c 8 s |>.collEnd c

/-! ## Steps: common parts (R264 to R267) -/

/-- The member whose program's turn it is. -/
def onColl (s : State) (k : Nat → Comm → Out) : Out :=
  match s.turn with
  | .coll c => if (s.comm c).live && decide ((s.comm c).run = .running) then k c (s.comm c) else .next s
  | _ => .next s

/-- The counter a step names: 0 outside an open loop (R265). -/
def Comm.counter (x : Comm) (ls : BitVec 2) : Nat := if x.loops.any (fun l => l.1 == ls.toNat) then fget 0 x.ctrs ls.toNat else 0

/-- peer of R265. -/
def Comm.peerOf (x : Comm) (ls : BitVec 2) (pa : BitVec 8) (pb : BitVec 20) : Nat :=
  (((x.rank : Int) + pa.toInt * x.counter ls + pb.toInt) % x.size).toNat

/-- blk of R265. -/
def Comm.blkOf (x : Comm) (ls : BitVec 2) (ba : BitVec 8) (bb : BitVec 12) (d : BitVec 256) : Nat :=
  (((x.rank : Int) + ba.toInt * x.counter ls + bb.toInt) % (dNblk d : Int)).toNat

/-- Bytes of a block. -/
def blkLen (d : BitVec 256) : Nat := dLen d / dNblk d

/-- A scratchpad range lies in the window of a resident of the tile whose task has the communicator's ASID (R264). -/
def State.collWindow (s : State) (x : Comm) (tile a n : Nat) : Bool :=
  (List.range 8).any (fun r =>
    let y := s.res (mkHandle tile r)
    decide (y.life ≠ .free) && decide (y.asid = x.asid) && decide (y.spBase ≤ a) && decide (a + n ≤ y.spBase + y.spSize))

/-- The range of a descriptor's buffer that a step uses may be used. -/
def State.descWindow (s : State) (x : Comm) (d : BitVec 256) (lo n : Nat) : Bool :=
  decide (dSpace d ≠ 1) || s.collWindow x (dTile d) ((dBase d).toNat + lo) n

/-- A writing step fills a channel (R231, R264): armed for the extent, or taken over at its WM. -/
def State.collArm (s : State) (x : Comm) (tile ch : Nat) (scratch : Bool) (a n : Nat) : Option State :=
  if ch = 0xFF then some s
  else
    let c := s.chan tile ch
    if c.armed then
      if c.space = scratch ∧ a = c.wm.toNat ∧ a + n ≤ c.limit.toNat then some (s.setChan tile ch { c with filling := true }) else none
    else some (s.setChan tile ch { space := scratch, base := BitVec.ofNat 56 a, limit := BitVec.ofNat 56 (a + n), wm := BitVec.ofNat 56 a,
                                   asid := x.asid, filling := true })

/-- The channel's WM follows the bytes written below an address (R231, R286): it passes a 64-byte granule when every store to it has committed, reaches LIMIT with the last byte, and never moves
back. fill marks whether the step still fills the channel. -/
def State.collMark (s : State) (c tile ch a : Nat) (fill : Bool) : State :=
  if ch = 0xFF then s
  else
    let x := s.chan tile ch
    let low := s.gaccs.foldl (fun m g => if g.owner = .coll c ∧ g.isStore = true ∧ x.base.toNat ≤ g.va ∧ g.va < m then g.va else m) a
    let w := if low = x.limit.toNat then low else low / 64 * 64
    s.setChan tile ch { x with wm := BitVec.ofNat 56 (max x.wm.toNat w), filling := fill }

/-- A step begins. -/
def StepRun.new (kind : StepKind) (stamp : Word) : StepRun :=
  { kind := kind, peer := 0, ord := 0, buf := 0, lo := 0, len := 0, src := 0, off := 0, m := 1, par := 0, began := stamp, flush := false, used := [] }

def State.beginStep (s : State) (c : Nat) (p : StepRun) : State := s.modComm c (fun x => { x with step := some p, moved := s.stamp })

/-- The next incoming stream of a pair (R266). -/
def Comm.takeOrd (x : Comm) (peer : Nat) : Comm × Nat :=
  let o := fget 0 x.recvOrd peer
  ({ x with recvOrd := fput x.recvOrd peer (o + 1) }, o)

/-- A step whose operands are wrong for the running communicator stops it (R267, R272). -/
def State.collBad (s : State) (c cause : Nat) : State := s.collStop c cause 0 false

/-- A step with a peer and a block of a KIND 0 descriptor: the checks of R267 and R264, then k with peer, descriptor, first byte
and length of the block. -/
def blockStep (c : Nat) (x : Comm) (ls : BitVec 2) (pa : BitVec 8) (pb : BitVec 20) (buf : BitVec 4) (ba : BitVec 8) (bb : BitVec 12)
    (s : State) (k : Nat → BitVec 256 → Nat → Nat → Out) : Out :=
  let d := x.desc buf.toNat
  let peer := x.peerOf ls pa pb
  if dKind d ≠ 0 then .next (s.collBad c 1)
  else if peer = x.rank then .next (s.collBad c 3)
  else
    let n := blkLen d
    let lo := x.blkOf ls ba bb d * n
    if !s.descWindow x d lo n then .next (s.collBad c 4) else k peer d lo n

/-! ## Receiving (R266, R268, R371) -/

/-- Bytes a local byte count takes on the wire. -/
def wireLen (wide : Bool) (f n : Nat) : Nat := if wide then n * 8 / fmtBits f * 4 else n

/-- A reduction's operation in fp32 (R268). -/
def reduceOp (rop a b : Nat) : Nat × Flg :=
  match rop with
  | 0 => fAdd .fp32 (roundOf 0) a b
  | 1 => (fMin .fp32 a b, Flg.none)
  | _ => (fMax .fp32 a b, Flg.none)

/-- The collective status after flags (R268): invalid, overflow, underflow, inexact. -/
def statusOr (st : BitVec 4) (f : Flg) : BitVec 4 :=
  st ||| (if f.inv then 1 else 0) ||| (if f.ovf then 2 else 0) ||| (if f.unf then 4 else 0) ||| (if f.inx then 8 else 0)

/-- Incoming wide values combined with local elements. -/
def combine (rop : Nat) (xs ys : List Nat) : List Nat × Flg :=
  (xs.zip ys).foldl (fun (acc : List Nat × Flg) p => let r := reduceOp rop p.1 p.2; (acc.1 ++ [r.1], acc.2.or r.2)) ([], Flg.none)

/-- Values narrowed once to a format (R61, R268). -/
def narrow (f : Nat) (l : List Nat) : List Byte × Flg :=
  l.foldl (fun (acc : List Byte × Flg) v =>
    let r := convert ((NFmt.ofCode f).getD .fp32) .fp32 (roundOf 0) v
    (acc.1 ++ leBytes (fmtBits f / 8) r.1, acc.2.or r.2)) ([], Flg.none)

/-- The form, kind and length the executing step expects: wide, broadcast, total bytes on the wire. -/
def Comm.expects (x : Comm) (p : StepRun) : Bool × Bool × Nat :=
  match p.kind with
  | .rrs | .rrf => (true, false, wireLen true (dFmt (x.desc p.buf)) p.len)
  | .bcast => (false, true, p.len)
  | .xpose => (false, false, xpBlock p.par)
  | _ => (false, false, p.len)

/-- The step receives a stream (R266). -/
def StepRun.receives (p : StepRun) : Bool := match p.kind with | .recv | .rrs | .rrf | .bcast | .xpose => true | _ => false

/-- The rank a step receives from now. -/
def Comm.source (x : Comm) (p : StepRun) : Nat := match p.kind with | .xpose => (x.rank + p.m) % x.size | _ => p.peer

/-- Bytes of the stream on the wire that the step has taken. -/
def Comm.wireOff (x : Comm) (p : StepRun) : Nat := wireLen (x.expects p).1 (dFmt (x.desc p.buf)) p.off

/-- The stored chunk the step takes from next: its stream's, that covers the offset reached. -/
def Comm.nextChunk (x : Comm) (p : StepRun) : Option Chunk :=
  match x.window? (x.source p) with
  | none => none
  | some w =>
    let (_, b, _) := x.expects p
    w.chunks.find? (fun ch => decide (ch.run = x.runs) && (isBcast ch.kind == b) && decide (ch.ord = p.ord) &&
      decide (ch.offset ≤ x.wireOff p) && decide (x.wireOff p < ch.offset + ch.data.length))

/-- The chunk is used: its slot is free, its credit returns, or its window is released (R371); its serial is delivered. -/
def State.useChunk (s : State) (c : Nat) (ch : Chunk) : State :=
  let x := s.comm c
  let sender := ch.sender
  let x := x.modWindow sender (fun w => { w with chunks := w.chunks.filter (fun y => !decide (y.serial = ch.serial)), out := w.out + 1 })
  let x := { x with
    miss := x.miss ||| ch.miss, incomplete := x.incomplete || decide (ch.miss ≠ 0), moved := s.stamp,
    delivered := fput x.delivered sender (ch.run, ch.serial.seq.toNat - 2 ^ 31 + 1),
    step := x.step.map (fun p => { p with used := p.used ++ [(ch.src, ch.serial)] }) }
  let s := s.setComm c x
  let last := decide (ch.total ≤ ch.offset + ch.data.length)
  match x.window? sender with
  | some w => if last && w.chunks.isEmpty then s.release c sender else s.tell x sender (fun k me => .back k me 1)
  | none => s

/-- What the step writes for n local bytes at its offset: the bytes, the onward values, the flags. -/
def stepResult (x : Comm) (p : StepRun) (data loc : List Byte) : List Byte × List Byte × Flg :=
  let d := x.desc p.buf
  match p.kind with
  | .rrs => let r := combine (dRop d) (cutWords 4 data) (widen (dFmt d) loc); ([], wideBytes r.1, r.2)
  | .rrf =>
    let r := combine (dRop d) (cutWords 4 data) (widen (dFmt d) loc)
    let n := narrow (dFmt d) r.1
    (n.1, [], r.2.or n.2)
  | _ => (data, [], Flg.none)

/-- Where n bytes of the step's destination from its offset on stand: scratchpad or not, the tile, ranges. -/
def Comm.place (x : Comm) (p : StepRun) (n : Nat) : Bool × Nat × List (Nat × Nat) :=
  match p.kind with
  | .xpose =>
    let row := if xpNat p.par 60 1 = 0 then (x.rank + p.m) % x.size else p.m - 1
    (decide (xpNat p.par 58 1 = 1), xpNat p.par 56 2, xpRanges p.par (xpDst p.par row) p.off n)
  | _ => let d := x.desc p.buf; (decide (dSpace d = 1), dTile d, descRange d (p.lo + p.off) n)

/-- The bytes of its destination, of n that are there, that a step takes at once: a scratchpad's next unit (R275), in whole elements for a reduction; all of them elsewhere, where each unit is
a store of its own, and for RRS, which writes none. -/
def Comm.stepBy (x : Comm) (p : StepRun) (eights : List Nat) (n : Nat) : Nat :=
  let (sc, _, r) := x.place p n
  if p.kind = .rrs || !sc then n
  else
    let k := match writeUnits 4 eights r with | u :: _ => u.2.1 | [] => n
    if p.kind = .rrf then let eb := fmtBits (dFmt (x.desc p.buf)) / 8; min n ((k + eb - 1) / eb * eb) else k

/-- Bytes at the step's offset are formed: written, or made the onward chunk; the offset and the flags move (R268, R374). -/
def State.formPos (s : State) (c : Nat) (p : StepRun) (n : Nat) (out onward : List Byte) (eights : List Nat) (fl : Flg) (miss : BitVec 64) : KRes :=
  let x := s.comm c
  let (sc, tile, r) := x.place p n
  let w : KRes := if p.kind = .rrs then .ok [] s else s.bufWrite c sc tile eights r out
  match w with
  | .ok _ s =>
    .ok [] (s.modComm c (fun x =>
      let x := { x with status := statusOr x.status fl, step := some { p with off := p.off + n } }
      if p.kind = .rrs then
        { x with sends := x.sends.map (fun st => match st.src with | .made => if st.ord = p.m ∧ st.dest = p.src then { st with given := st.given ++ [(onward, miss)] } else st | _ => st) }
      else x))
  | r => r

/-- The local bytes that wire bytes of a stream cover. -/
def localLen (x : Comm) (p : StepRun) (wire : Nat) : Nat :=
  match p.kind with
  | .rrs | .rrf => narrowLen (dFmt (x.desc p.buf)) wire
  | _ => wire

/-- The step takes bytes of a stored chunk, after the checks of R266 and R365. -/
def State.takeChunk (s : State) (c : Nat) (p : StepRun) (ch : Chunk) : KRes :=
  let x := s.comm c
  let (wide, _, total) := x.expects p
  if ch.recd ≠ x.recd ∨ ch.wide ≠ wide ∨ ch.total ≠ total then .stop (s.collStop c 2 0 false)
  else
    let done := x.wireOff p - ch.offset
    let rest := fun (n : Nat) => ch.eights.filterMap (fun e => if done ≤ e ∧ e + 8 ≤ done + n then some (e - done) else none)
    let plain := decide (p.kind ≠ .rrf) || decide (fmtBits (dFmt (x.desc p.buf)) = 32)
    let left := ch.data.length - done
    let n := x.stepBy p (if plain then rest left else []) (localLen x p left)
    let wn := wireLen wide (dFmt (x.desc p.buf)) n
    let loc : KRes := match p.kind with
      | .rrs | .rrf => s.descRead c p.buf (p.lo + p.off) n
      | _ => .ok [] s
    match loc with
    | .ok bs s' =>
      let (out, onward, fl) := stepResult x p ((ch.data.drop done).take wn) bs
      (match s'.formPos c p n out onward (if plain then rest wn else []) fl ch.miss with
       | .ok _ s2 => .ok [] (if left ≤ wn then s2.useChunk c ch else s2)
       | r => r)
    | r => r

/-- The next part of a local copy to the step's destination (R267, R270). -/
def State.copyPart (s : State) (c : Nat) (p : StepRun) (scratch : Bool) (tile : Nat) (src : Nat → List (Nat × Nat)) (left : Nat) : KRes :=
  let x := s.comm c
  let k := min x.chunkBytes left
  let n := x.stepBy p (eightsOf (src k)) k
  match s.bufRead c scratch tile (src n) with
  | .ok bs s' => s'.formPos c p n bs [] (eightsOf (src n)) Flg.none 0
  | r => r

/-- Bytes of a descriptor's buffer that a stream has still to stage: scratchpad or not, tile, address, length. -/
def Comm.toStage (x : Comm) (st : SendStream) : Option (Bool × Nat × Nat × Nat) :=
  let at_ := fun (b lo done total : Nat) =>
    let d := x.desc b
    some (decide (dSpace d = 1), if dSpace d = 1 then dTile d else 0, (dBase d).toNat + lo + done, total - done)
  match st.src with
  | .range b lo => at_ b lo (st.staged * x.chunkBytes) st.total
  | .wider b lo f => at_ b lo (narrowLen f (st.staged * x.chunkBytes)) (narrowLen f st.total)
  | _ => none

/-- The step would write bytes that an earlier step has still to send (R267). -/
def Comm.sourceWaits (x : Comm) (p : StepRun) (n : Nat) : Bool :=
  let (sc, tile, r) := x.place p n
  (decide (p.kind = .recv) || decide (p.kind = .rrf)) &&
  x.sends.any (fun st => match x.toStage st with
    | some (b, t, a, len) => (b == sc) && (!sc || t == tile) && r.any (fun al => decide (al.1 < a + len) && decide (a < al.1 + al.2))
    | none => false)

/-- The state an access of path K leaves. -/
def KRes.state : KRes → State
  | .ok _ s => s
  | .wait s => s
  | .stop s => s

/-- The channel of a receiving or copying step follows what it has written (R231). -/
def State.stepMark (s : State) (c : Nat) (fill : Bool) : State :=
  let x := s.comm c
  match x.step with
  | some p => if p.kind = .rrs then s else let d := x.desc p.buf; s.collMark c (dTile d) (dCh d) ((dBase d).toNat + p.lo + p.off) fill
  | none => s

/-- Bytes at the offset are flushed: the local elements alone, with the peer's MISS bit (R374). -/
def State.flushPos (s : State) (c : Nat) (p : StepRun) : KRes :=
  let x := s.comm c
  let f := dFmt (x.desc p.buf)
  let pos := narrowLen f x.chunkBytes
  let n := x.stepBy p [] (min (pos - p.off % pos) (p.len - p.off))
  let bit : BitVec 64 := 1#64 <<< (p.peer % 64)
  match s.descRead c p.buf (p.lo + p.off) n with
  | .ok bs s =>
    let ys := widen f bs
    let nr := narrow f ys
    let r : KRes := if p.kind = .rrs then s.formPos c p n [] (wideBytes ys) [] Flg.none bit else s.formPos c p n nr.1 [] [] nr.2 bit
    (match r with
     | .ok _ s => .ok [] (s.modComm c (fun x => { x with miss := x.miss ||| bit, incomplete := true }))
     | r => r)
  | r => r

/-- A receiving step goes on: by bytes of a stored chunk, or, once its timeout has expired, by bytes that no chunk has brought; with every byte written it is done (R267, R374). -/
def State.recvProgress (s : State) (c : Nat) (p : StepRun) : State :=
  let x := s.comm c
  if p.len ≤ p.off then
    match p.kind with
    | .rrs => if x.sends.isEmpty || x.sendsBlocked then s.stepDone c else s
    | .bcast =>
      if x.sends.isEmpty && s.kSettled c then (if p.peer = x.rank then s else s.stepMark c false).stepDone c
      else if p.peer = x.rank then s else s.stepMark c true
    | _ => if s.kSettled c then (s.stepMark c false).stepDone c else s.stepMark c true
  else if x.sourceWaits p (p.len - p.off) then s
  else match x.nextChunk p with
    | some ch => (s.takeChunk c p ch).state.stepMark c true
    | none => if p.flush then (s.flushPos c p).state.stepMark c true else s.stepMark c true

/-- A receiving step: it begins, or goes on. -/
def recvStep (kind : StepKind) (ls : BitVec 2) (pa : BitVec 8) (pb : BitVec 20) (buf : BitVec 4) (ba : BitVec 8) (bb : BitVec 12)
    (send : Comm → Nat → Nat → BitVec 256 → Comm × Nat × Nat) (s : State) : Out :=
  onColl s (fun c x =>
    match x.step with
    | some p => .next (s.recvProgress c p)
    | none =>
      if !(x.sends.isEmpty || x.sendsBlocked) then .next s
      else blockStep c x ls pa pb buf ba bb s (fun peer d lo n =>
        let armed := if kind = .rrs then some s else s.collArm x (dTile d) (dCh d) (decide (dSpace d = 1)) ((dBase d).toNat + lo) n
        match armed with
        | none => .next (s.collBad c 1)
        | some s =>
          let (x, o) := x.takeOrd peer
          let (x, dest, m) := send x peer n d
          .next ((s.setComm c x).beginStep c { StepRun.new kind s.stamp with peer := peer, ord := o, buf := buf.toNat, lo := lo, len := n, src := dest, m := m })))

/-- RECV (R267). -/
def execRecv (ls : BitVec 2) (pa : BitVec 8) (pb : BitVec 20) (buf : BitVec 4) (ba : BitVec 8) (bb : BitVec 12) (s : State) : Out :=
  recvStep .recv ls pa pb buf ba bb (fun x _ _ _ => (x, 0, 0)) s

/-- RRF (R267, R268). -/
def execRrf (ls : BitVec 2) (pa : BitVec 8) (pb : BitVec 20) (buf : BitVec 4) (ba : BitVec 8) (bb : BitVec 12) (s : State) : Out :=
  recvStep .rrf ls pa pb buf ba bb (fun x _ _ _ => (x, 0, 0)) s

/-- RRS (R267, R268): the result goes wide to (2 × rank − peer) mod size, or back to peer. -/
def execRrs (ls : BitVec 2) (pa : BitVec 8) (pb : BitVec 20) (buf : BitVec 4) (fwd : Bool) (ba : BitVec 8) (bb : BitVec 12) (s : State) : Out :=
  recvStep .rrs ls pa pb buf ba bb (fun x peer n d =>
    let dest := if fwd then peer else ((2 * (x.rank : Int) - peer) % x.size).toNat
    (x.addSend dest .pair true (wireLen true (dFmt d) n) .made, dest, fget 0 x.sendOrd dest)) s

/-! ## SEND, COPY, BCAST, XPOSE -/

/-- SEND (R267): raw, or wide with ARG[22] = 1. -/
def execSend (ls : BitVec 2) (pa : BitVec 8) (pb : BitVec 20) (buf : BitVec 4) (wide : Bool) (ba : BitVec 8) (bb : BitVec 12) (s : State) : Out :=
  onColl s (fun c x =>
    match x.step with
    | some _ => if x.sends.isEmpty || x.sendsBlocked then .next (s.stepDone c) else .next s
    | none =>
      if !x.sends.isEmpty then .next s
      else blockStep c x ls pa pb buf ba bb s (fun peer d lo n =>
        let x := x.addSend peer .pair wide (wireLen wide (dFmt d) n) (if wide then .wider buf.toNat lo (dFmt d) else .range buf.toNat lo)
        .next ((s.setComm c x).beginStep c { StepRun.new .send s.stamp with peer := peer })))

/-- COPY (R267): block blk of descriptor dst := block blk of src, blk being that of R265, modulo the blocks of src; a destination that has no such block is an operand that is wrong (cause 1 of R272). -/
def execCollCopy (ls : BitVec 2) (dst src : BitVec 4) (ba : BitVec 8) (bb : BitVec 12) (s : State) : Out :=
  onColl s (fun c x =>
    let d := x.desc dst.toNat
    let e := x.desc src.toNat
    match x.step with
    | some p =>
      if p.len ≤ p.off then
        .next (if s.kSettled c then (s.stepMark c false).stepDone c else s.stepMark c true)
      else .next ((s.copyPart c p (decide (dSpace e = 1)) (dTile e) (descRange e (p.src + p.off)) (p.len - p.off)).state.stepMark c true)
    | none =>
      if !x.sends.isEmpty then .next s
      else if dKind d ≠ 0 ∨ dKind e ≠ 0 then .next (s.collBad c 1)
      else if blkLen d ≠ blkLen e then .next (s.collBad c 1)
      else
        let n := blkLen d
        let blk := x.blkOf ls ba bb e
        let lo := blk * n
        let from_ := blk * n
        if dNblk d ≤ blk then .next (s.collBad c 1)
        else if !s.descWindow x d lo n || !s.descWindow x e from_ n then .next (s.collBad c 4)
        else match s.collArm x (dTile d) (dCh d) (decide (dSpace d = 1)) ((dBase d).toNat + lo) n with
          | none => .next (s.collBad c 1)
          | some s => .next (s.beginStep c { StepRun.new .copy s.stamp with buf := dst.toNat, lo := lo, len := n, src := from_ }))

/-- The children of v in the binomial tree of size n: v + 2^j for each j above ⌊log2 v⌋ (R269). -/
def bcastChildren (v n : Nat) : List Nat :=
  let j0 := if v = 0 then 0 else v.log2 + 1
  ((List.range 21).filter (fun j => decide (j0 ≤ j) && decide (v + 2 ^ j < n))).map (fun j => v + 2 ^ j)

/-- BCAST (R269). -/
def execBcast (buf : BitVec 4) (root : BitVec 20) (s : State) : Out :=
  onColl s (fun c x =>
    match x.step with
    | some p => .next (s.recvProgress c p)
    | none =>
      let d := x.desc buf.toNat
      if !x.sends.isEmpty then .next s
      else if dKind d ≠ 0 ∨ x.size ≤ root.toNat then .next (s.collBad c 1)
      else if !s.descWindow x d 0 (dLen d) then .next (s.collBad c 4)
      else
        let v := (x.rank + x.size - root.toNat) % x.size
        let armed := if v = 0 then some s else s.collArm x (dTile d) (dCh d) (decide (dSpace d = 1)) (dBase d).toNat (dLen d)
        match armed with
        | none => .next (s.collBad c 1)
        | some s =>
          let x' := (bcastChildren v x.size).foldl (fun x w => x.addSend ((w + root.toNat) % x.size) .bcast false (dLen d) (.range buf.toNat 0)) x
          let peer := if v = 0 then x.rank else (v - 2 ^ v.log2 + root.toNat) % x.size
          .next ((s.setComm c { x' with bcasts := x.bcasts + 1 }).beginStep c { StepRun.new .bcast s.stamp with
            peer := peer, ord := x.bcasts, buf := buf.toNat, len := dLen d, off := if v = 0 then dLen d else 0 }))

/-- The rules of a transpose parameter block (R270). -/
def xposeOk (x : Comm) (p : BitVec 1024) : Bool :=
  decide (p.extractLsb' 0 64 = x.handle) && decide (xpNat p 18 1 ≤ 1) && (decide (xpNat p 18 1 = 0) || decide (xpNat p 16 2 < 288)) &&
  decide (xpNat p 19 1 ≤ 2) && decide (xpNat p 20 4 = 0) && within (xpR p) 1 65535 && within (xpCB p) 1 65535 &&
  decide (xpNat p 58 1 ≤ 1) && (decide (xpNat p 58 1 = 0 ∧ xpNat p 59 1 = 0xFF) || decide (xpNat p 56 2 < 288)) &&
  (decide (xpNat p 59 1 < 16) || decide (xpNat p 59 1 = 0xFF)) && decide (xpNat p 60 1 ≤ 1) && decide (xpNat p 61 3 = 0) &&
  (decide (xpNat p 80 8 = 0) || within (xpNat p 88 8) 1 (2 ^ 32 - 1)) && decide (xpNat p 96 32 = 0) &&
  (decide (xpNat p 59 1 = 0xFF) || (decide (xpInt p 72 = xpE p) && decide (xpInt p 64 = xpCB p * xpE p)))

/-- The corners of a strided range: two-dimensional extents in exact arithmetic. -/
def boxIn (base : Nat) (rows cols : Nat) (rs cs : Int) (e : Nat) (ok : Nat → Nat → Bool) : Bool :=
  let a := min 0 ((rows - 1 : Nat) * rs) + min 0 ((cols - 1 : Nat) * cs)
  let b := max 0 ((rows - 1 : Nat) * rs) + max 0 ((cols - 1 : Nat) * cs)
  decide (0 ≤ (base : Int) + a) && ok ((base : Int) + a).toNat ((b - a).toNat + e)

/-- Source and destination lie in windows (R264, R270). -/
def State.xposeWindow (s : State) (x : Comm) (p : BitVec 1024) : Bool :=
  (decide (xpNat p 18 1 = 0) ||
    boxIn (xpNat p 8 8) (xpR p) (x.size * xpCB p) (xpInt p 32) (xpInt p 40) (xpE p) (s.collWindow x (xpNat p 16 2))) &&
  (decide (xpNat p 58 1 = 0) ||
    boxIn (xpNat p 48 8) (x.size * xpR p) (xpCB p) (xpInt p 64) (xpInt p 72) (xpE p) (s.collWindow x (xpNat p 56 2)))

/-- Rows 0, 1, … of the destination that blocks 1 to m − 1 have filled, as a prefix, and bytes of the next one (R378). -/
def xposePrefix (x : Comm) (p : StepRun) : Nat :=
  let row := fun (m : Nat) => if xpNat p.par 60 1 = 0 then (x.rank + m) % x.size else m - 1
  let full := (List.range (p.m - 1)).map (fun i => row (i + 1))
  let k := ((List.range x.size).find? (fun r => !full.contains r)).getD x.size
  k * xpBlock p.par + (if p.m ≤ x.size ∧ k < x.size ∧ row p.m = k then p.off else 0)

/-- WM follows the written prefix, a granule once its writes have committed (R231, R378). -/
def State.xposeMark (s : State) (c : Nat) (fill : Bool) : State :=
  let x := s.comm c
  match x.step with
  | some p => s.collMark c (xpNat p.par 56 2) (xpNat p.par 59 1) (xpNat p.par 48 8 + xposePrefix x p) fill
  | none => s

/-- The next block of a transpose: the ordinal of the stream that brings it. -/
def State.xposeNext (s : State) (c : Nat) (p : StepRun) : State :=
  let x := s.comm c
  let m := p.m + 1
  if m < x.size then
    let (x, o) := x.takeOrd ((x.rank + m) % x.size)
    State.bindWaiting c 8 (s.setComm c { x with step := some { p with m := m, off := 0, ord := o } })
  else s.modComm c (fun x => { x with step := some { p with m := m, off := 0 } })

/-- XPOSE goes on: blocks in write order, the own block copied last, then the event (R270, R377, R378). -/
def State.xposeProgress (s : State) (c : Nat) (p : StepRun) : State :=
  let x := s.comm c
  if x.size < p.m then
    if x.sends.isEmpty && s.kSettled c then
      let s := s.xposeMark c false
      (s.postEvent (p.par.extractLsb' 640 64) (x.signalOp (p.par.extractLsb' 704 64)) false).stepDone c
    else s.xposeMark c true
  else if xpBlock p.par ≤ p.off then (s.xposeNext c p).xposeMark c true
  else if p.m = x.size then
    (s.copyPart c p (decide (xpNat p.par 18 1 = 1)) (xpNat p.par 16 2) (xpRanges p.par (xpSrc p.par x.rank) p.off) (xpBlock p.par - p.off)).state.xposeMark c true
  else match x.nextChunk p with
    | none => s.xposeMark c true
    | some ch => (s.takeChunk c p ch).state.xposeMark c true

/-- XPOSE (R270). -/
def execXpose (buf : BitVec 4) (s : State) : Out :=
  onColl s (fun c x =>
    match x.step with
    | some p => .next (s.xposeProgress c p)
    | none =>
      let d := x.desc buf.toNat
      if !x.sends.isEmpty then .next s
      else if dKind d ≠ 2 then .next (s.collBad c 1)
      else if dSpace d = 1 && !s.collWindow x (dTile d) (dBase d).toNat 128 then .next (s.collBad c 4)
      else match s.bufRead c (decide (dSpace d = 1)) (dTile d) [((dBase d).toNat, 128)] with
        | .ok bs s =>
          let p : BitVec 1024 := BitVec.ofNat 1024 (leNat bs)
          if !xposeOk x p then .next (s.collBad c 1)
          else if !s.xposeWindow x p then .next (s.collBad c 4)
          else match s.collArm x (xpNat p 56 2) (xpNat p 59 1) (decide (xpNat p 58 1 = 1)) (xpNat p 48 8) (x.size * xpBlock p) with
            | none => .next (s.collBad c 1)
            | some s =>
              let x := (List.range (x.size - 1)).foldl (fun x i =>
                let r := (x.rank + x.size - (i + 1)) % x.size
                x.addSend r .xpose false (xpBlock p) (.block r)) x
              let (x, o) := if 1 < x.size then x.takeOrd ((x.rank + 1) % x.size) else (x, 0)
              .next (State.bindWaiting c 8 ((s.setComm c x).beginStep c { StepRun.new .xpose s.stamp with par := p, ord := o }))
        | r => .next r.state)

/-! ## NOP, WAIT, SIGNAL, LOOP, ENDL -/

/-- NOP. -/
def execCollNop (s : State) : Out := onColl s (fun c _ => .next (s.stepDone c))

/-- WAIT (R267): (count − captured) mod 2^64 ≥ n; another package is asked for the count of its event. -/
def execWait (buf : BitVec 4) (n : BitVec 24) (s : State) : Out :=
  onColl s (fun c x =>
    let d := x.desc buf.toNat
    if !x.sends.isEmpty then .next s
    else if dKind d ≠ 1 then .next (s.collBad c 1)
    else
      let hd := dBase d
      let go := fun (s : State) => if n.toNat ≤ (s.eventCount hd - fget 0 x.captured buf.toNat).toNat then s.stepDone c else s
      if hdlPkg hd = s.pkgId then .next (go s)
      else match s.eventRout (.coll c) 4 hd with
        | none => .next (s.askEvent (.coll c) 4 0 hd)
        | some o =>
          match o.status with
          | none => .next s
          | some .performed => .next (go ((s.dropRout o.id).seePeer hd (o.answer.setWidth 64) ((o.answer >>> 64).setWidth 64)))
          | some st => .next ((s.dropRout o.id).collBad c (if st = .stateUse then 1 else 6)))

/-- SIGNAL (R267): after every write of the earlier steps; done when the event has counted it. -/
def execSignal (buf : BitVec 4) (n : BitVec 24) (s : State) : Out :=
  onColl s (fun c x =>
    let d := x.desc buf.toNat
    let hd := dBase d
    match x.step with
    | some _ => if s.routs.any (fun o => decide (o.owner = Owner.coll c)) then .next s else .next (s.stepDone c)
    | none =>
      if dKind d ≠ 1 then .next (s.collBad c 1)
      else if !x.sends.isEmpty || !s.kSettled c then .next s
      else if hdlPkg hd = s.pkgId then
        if s.eventLive hd then .next ((s.applyUpdate (hdlIdx hd) (x.signalOp (n.setWidth 64)) false).stepDone c)
        else .next (s.collBad c 1)
      else
        let pkg := hdlPkg hd
        let tgt : Target := { aper := 2, pa := 2 ^ 60 + hdlIdx hd, peer := pkg, kind := 0 }
        let who := Owner.coll c
        if !s.seqRoom who pkg 1 then .next s
        else
          let q := s.reqOf who pkg 7 (2 ^ 60 + hdlIdx hd) (x.signalOp (n.setWidth 64)) (hd.setWidth 128) 0 (some (s.serialOf who (s.seqFor who pkg).next)) 3
          let o := s.routOf who 4 pkg .none 0 tgt 0 q .free
          let s := (s.takeSeq who pkg).noteReq who pkg q
          .next ((({ s with routs := s.routs ++ [o], nextId := s.nextId + 1 } : State).sendPacket pkg (.request q)).beginStep c (StepRun.new .signal s.stamp)))

/-- The position after the ENDL that closes the LOOP at a position. -/
def loopExit (prog : List (BitVec 64)) (pos : Nat) : Nat :=
  let rec go : List (BitVec 64) → Nat → Nat → Nat
    | [], i, _ => i
    | w :: ws, i, depth =>
      if swOp w = 0x0A then go ws (i + 1) (depth + 1)
      else if swOp w = 0x0B then (if depth = 0 then i + 1 else go ws (i + 1) (depth - 1))
      else go ws (i + 1) depth
  go (prog.drop (pos + 1)) (pos + 1) 0

/-- LOOP (R267): l := 0; with limit 0 execution goes on after the matching ENDL. -/
def execLoop (ls : BitVec 2) (limit : BitVec 24) (s : State) : Out :=
  onColl s (fun c x =>
    if limit = 0 then .next ((s.setComm c { x with pos := loopExit x.prog x.pos - 1 }).stepDone c)
    else .next ((s.setComm c { x with loops := (ls.toNat, x.pos, limit.toNat) :: x.loops, ctrs := fput x.ctrs ls.toNat 0 }).stepDone c))

/-- ENDL (R267): l := l + 1; below the limit, back to the step after the LOOP. -/
def execEndl (ls : BitVec 2) (s : State) : Out :=
  onColl s (fun c x =>
    match x.loops with
    | (l, p, lim) :: rest =>
      let n := fget 0 x.ctrs ls.toNat + 1
      if n < lim then .next ((s.setComm c { x with ctrs := fput x.ctrs l n, pos := p }).stepDone c)
      else .next ((s.setComm c { x with ctrs := fput x.ctrs l n, loops := rest }).stepDone c)
    | [] => .next (s.stepDone c))

/-! ## Chunks at their receiver (R363, R371, R375) -/

/-- A chunk is refused and discarded: the receiver notes its sender (R371). held says that the sender keeps the credits of its window. -/
def State.refuse (s : State) (c : Nat) (ch : Chunk) (held : Bool) : State :=
  let x := s.comm c
  let x' := { x with refusals := if held || x.refusals.contains ch.sender then x.refusals else x.refusals ++ [ch.sender] }
  (s.setComm c x').tell x' ch.sender (fun k me => .refuse k me ch.run ch.kind ch.ord held ch.paid false)

/-- A chunk finds no free entry beside its slice (R354): it is sent again as a first transmission. -/
def State.refuseBusy (s : State) (c : Nat) (ch : Chunk) : State :=
  let x := s.comm c
  (s.countQuad (c / 256) 0x22 1).tell x ch.sender (fun k me => .refuse k me ch.run ch.kind ch.ord (x.window? ch.sender).isSome ch.paid true)

/-- A chunk counts as accepted (R267, R363, R375). -/
def State.accept (s : State) (c : Nat) (ch : Chunk) : State :=
  s.tell (s.comm c) ch.sender (fun k me => .accepted k me ch.run ch.kind ch.ord 1)

/-- What a discarded chunk of a passed stream leaves its sender: its credit, or, after the stream's last chunk, its window released. -/
def State.passBack (s : State) (c : Nat) (ch : Chunk) : State :=
  let x := s.comm c
  let last := decide (ch.total ≤ ch.offset + ch.data.length)
  match x.window? ch.sender with
  | some w =>
    if last && w.chunks.isEmpty then s.release c ch.sender
    else if ch.paid then s.tell x ch.sender (fun k me => .back k me 1) else s
  | none => if last then s.tell x ch.sender (fun k me => .release k me) else s.tell x ch.sender (fun k me => .back k me 1)

/-- The chunk is a later copy of one delivered or stored (R363). Its entry beside the slice does not name the receiving rank, whose ordinals
the serial counts, so the member's own chunks and mark tell. -/
def State.chunkDup (s : State) (c : Nat) (ch : Chunk) : Bool :=
  let x := s.comm c
  let d := fget (0, 0) x.delivered ch.sender
  (match x.window? ch.sender with
   | some w => w.chunks.any (fun y => decide (y.run = ch.run) && decide (y.serial = ch.serial))
   | none => false) ||
  decide (ch.run < d.1) || (decide (ch.run = d.1) && decide (ch.serial.seq.toNat - 2 ^ 31 < d.2))

/-- The stream's receiving step has flushed or is past (R375). -/
def Comm.passed (x : Comm) (ch : Chunk) : Bool :=
  decide (ch.run < x.runs) ||
  (decide (ch.run = x.runs) &&
    (match x.step with
     | some p => if p.receives && decide (x.source p = ch.sender) && decide (p.ord = ch.ord) && (decide (p.kind = .bcast) == isBcast ch.kind) then decide (p.len ≤ p.off) && decide (p.kind ≠ .xpose)
                 || (p.flush && decide (ch.offset < x.wireOff p))
                 else (if isBcast ch.kind then decide (ch.ord < x.bcasts) && decide (p.kind ≠ .bcast ∨ ch.ord ≠ p.ord)
                       else decide (ch.ord < fget 0 x.recvOrd ch.sender))
     | none => if isBcast ch.kind then decide (ch.ord < x.bcasts) else decide (ch.ord < fget 0 x.recvOrd ch.sender)))

/-- The chunk continues what is stored or taken of its stream, or comes after a gap to a step that flushes (R374). -/
def Comm.follows (x : Comm) (w : CWindow) (ch : Chunk) : Bool :=
  decide (ch.offset = 0) ||
  (match x.step with
   | some p => p.flush && decide (ch.run = x.runs) && decide (p.peer = ch.sender) && decide (p.ord = ch.ord) && !isBcast ch.kind
   | none => false) ||
  (match w.chunks.getLast? with
   | some l => decide (l.run = ch.run) && (isBcast l.kind == isBcast ch.kind) && decide (l.ord = ch.ord) && decide (l.offset + l.data.length = ch.offset)
   | none =>
     match x.step with
     | some p => p.receives && decide (ch.run = x.runs) && decide (x.source p = ch.sender) && decide (p.ord = ch.ord) && (decide (p.kind = .bcast) == isBcast ch.kind) &&
         decide (ch.offset = wireLen (x.expects p).1 (dFmt (x.desc p.buf)) p.off)
     | none => false)

/-- The chunk is stored in a slot, with its entry beside the slices (R352, R363, R371). -/
def State.storeChunk (s : State) (c : Nat) (ch : Chunk) (f : Comm → Comm) : State :=
  let sl := 16 * (c / 256)
  match agRoom (s.agEntries sl) with
  | none => s.refuseBusy c ch
  | some l =>
    let s := s.setAg sl (l ++ [{ pkg := ch.src, serial := ch.serial, handler := 0, result := 0, status := .performed, pending := false, retirable := false, chunk := true }])
    (s.modComm c (fun x => let y := f x; { y with refusals := y.refusals.erase ch.sender })).accept c ch

/-- While a transpose executes, a first chunk is refused unless it begins a transpose stream of a sender that may bind (R377). -/
def Comm.barred (x : Comm) (ch : Chunk) : Bool :=
  decide (ch.offset = 0) && x.xposing.isSome && !(decide (ch.kind = .xpose) && x.mayBind ch.sender && (x.window? ch.sender).isNone)

/-- A chunk that is no copy and whose step is not past, in a bound window or one that it binds, or refused (R371, R377). -/
def State.placeChunk (s : State) (c : Nat) (ch : Chunk) : State :=
  let x := s.comm c
  if x.barred ch then s.refuse c ch false
  else match x.window? ch.sender with
    | some w =>
      let put := fun (n : Nat) => s.storeChunk c ch (fun x => x.modWindow ch.sender (fun w => { w with chunks := w.chunks ++ [ch], out := w.out - n }))
      -- what follows a refused chunk of its stream is discarded with it
      if !x.follows w ch then s
      else if ch.paid && decide (0 < w.out) then put 1
      else if w.chunks.length + w.out < x.slots then put 0
      else s.refuse c ch true
    | none =>
      if ch.offset ≠ 0 then s
      else if x.windows.length < 8 && x.mayBind ch.sender then
        let s' := s.storeChunk c ch (fun x => { x with windows := x.windows ++ [{ sender := ch.sender, chunks := [ch], out := x.slots - 1 }] })
        if ((s'.comm c).window? ch.sender).isSome then s'.tell x ch.sender (fun k me => .bound k me ch.run ch.kind ch.ord (x.slots - 1)) else s'
      else s.refuse c ch false

/-- A chunk reaches its member (R354, R363, R371, R375): one of an earlier incarnation is answered so; a copy or a straggler is discarded and counts as accepted; another is placed. A chunk of a
flushing step that has no window is a straggler too. -/
def State.chunkArrives (s : State) (c : Nat) (ch : Chunk) : State :=
  let s := s.modComm c (fun x => { x with pkgs := fput x.pkgs ch.sender ch.src })
  let x := s.comm c
  let late := match x.step with
    | some p => p.flush && decide (ch.run = x.runs) && decide (p.peer = ch.sender) && decide (p.ord = ch.ord) && !isBcast ch.kind && decide (ch.offset ≠ 0) && (x.window? ch.sender).isNone
    | none => false
  if ch.inc ≠ s.inc ∧ (ch.rt ∨ ch.rp) then s.tell x ch.sender (fun k me => .indeterminate k me ch.run s.inc)
  else if s.chunkDup c ch then (s.accept c ch).passBack c ch
  else if x.passed ch || late then
    let s := s.modComm c (fun x => { x with stragglers := x.stragglers + 1, incomplete := true })
    (s.accept c ch).passBack c ch
  else s.placeChunk c ch

/-- CHUNK_ARRIVAL (R371): the k-th chunk on this package, in order for its sender and addressee. A chunk for a rank of another
package is passed on by the cohort object's package; one for a member not yet formed waits; one for a member torn down is
refused. -/
def execChunkArrival (k : Nat) (s : State) : Out :=
  match s.chunks[k]? with
  | none => .next s
  | some ch =>
    if (s.chunks.take k).any (fun y => decide (y.comm = ch.comm) && decide (y.sender = ch.sender)) then .next s
    else
      let s' := { s with chunks := s.chunks.eraseIdx k }
      match s.commByKey ch.comm with
      | some c => .next (s'.chunkArrives c ch)
      | none =>
        let hd := keyCohort ch.comm
        let rank := keyRank ch.comm
        let away := match s.cohortOf hd with
          | some j => (match (s.cohort j).at rank with | some m => if m.pkg = s.pkgId then none else some m.pkg | none => none)
          | none => none
        match away with
        | some pkg => .next (s'.sendChunk pkg ch)
        | none =>
          if s.ccount.any (fun p => decide (p.1 = hd) && decide (p.2.1 = rank) && decide (keyOrdinal ch.comm < p.2.2)) then
            .next (s'.sendCredit ch.src (.refuse (commKey hd (keyOrdinal ch.comm) ch.sender) rank ch.run ch.kind ch.ord false ch.paid false) (ch.recd.extractLsb' 0 2))
          else .next s

/-! ## Credits at the sender (R371) -/

/-- A stream is refused: it is sent again from its first chunk that is not accepted, at once when an entry was wanting, else once the sender holds a credit (R354, R371). A sender that keeps
its window has the credits back that its discarded chunks took. -/
def Comm.refusedBy (x : Comm) (dest : Nat) (b : Bool) (ord : Nat) (held paid busy : Bool) : Comm :=
  match x.sends.find? (fun st => st.is dest b ord) with
  | none => x
  | some st =>
    let cr := if held then fget 0 x.credits dest + (st.sent - st.accepted) - (if paid then 0 else 1) else 0
    { x.modSend dest b ord (fun u => { u with staged := u.accepted, sent := u.accepted, refused := !busy && decide (cr = 0) }) with
      credits := fput x.credits dest cr,
      staging := x.staging.filter (fun p => !(decide (p.1 = dest) && (isBcast p.2.kind == b) && decide (p.2.ord = ord))) }

/-- A window is bound by a stream's first chunk: n credits, of which the chunks sent to the rank after that one have taken theirs (R371). -/
def Comm.boundBy (x : Comm) (dest : Nat) (b : Bool) (ord n : Nat) : Comm :=
  let after := (x.sends.filter (fun u => decide (u.dest = dest))).foldl (fun k u => k + (if u.is dest b ord then u.sent - 1 else u.sent)) 0
  { x with credits := fput x.credits dest (n - after), sends := x.sends.map (fun u => if u.dest = dest then { u with refused := false } else u) }

def Comm.credit (x : Comm) (dest n : Nat) : Comm :=
  { x with credits := fput x.credits dest (fget 0 x.credits dest + n),
           sends := x.sends.map (fun u => if u.dest = dest then { u with refused := false } else u) }

/-- A chunk's acceptance: the stream whose every chunk is accepted is done (R267). -/
def Comm.acceptedBy (x : Comm) (dest : Nat) (b : Bool) (ord n : Nat) (stamp : Word) : Comm :=
  let x := x.modSend dest b ord (fun u => { u with accepted := u.accepted + n })
  { x with sends := x.sends.filter (fun u => !decide (chunksOf x u.total ≤ u.accepted)), moved := stamp }

def creditKey : CreditMsg → Nat × Nat
  | .grant c p _ => (c, p)
  | .back c p _ => (c, p)
  | .bound c p _ _ _ _ => (c, p)
  | .refuse c p _ _ _ _ _ _ => (c, p)
  | .indeterminate c p _ _ => (c, p)
  | .accepted c p _ _ _ _ => (c, p)
  | .release c p => (c, p)

/-- CREDIT_RETURN (R371): the k-th message of a receiver reaches the sender, in order for the pair. -/
def execCreditReturn (k : Nat) (s : State) : Out :=
  match s.creditMsgs[k]? with
  | none => .next s
  | some m =>
    if (s.creditMsgs.take k).any (fun y => creditKey y == creditKey m) then .next s
    else
      let s := { s with creditMsgs := s.creditMsgs.eraseIdx k }
      match s.commByKey (creditKey m).1 with
      | none => .next s
      | some c =>
        let x := s.comm c
        let x' := match m with
          | .grant _ p n => x.credit p n
          | .back _ p n => x.credit p n
          | .bound _ p run kind ord n => if run = x.runs then x.boundBy p (isBcast kind) ord n else x
          | .refuse _ p run kind ord held paid busy => if run = x.runs then x.refusedBy p (isBcast kind) ord held paid busy else x
          | .indeterminate _ _ _ _ => x
          | .accepted _ p run kind ord n => if run = x.runs then x.acceptedBy p (isBcast kind) ord n s.stamp else x
          | .release _ p => { x with credits := fput x.credits p 0 }
        match m with
        | .indeterminate _ _ run inc =>
          -- the owner has restarted: the delivery ends with a remote fault (R354, R355, R272)
          let s := { s with peerInc := fput s.peerInc (s.pkgOf x (creditKey m).2).toNat inc }
          .next (if run = x.runs ∧ x.run = .running then s.collStop c 6 0 true else s)
        | _ => .next ((s.setComm c x').collEnd c)

/-! ## Timeouts (R373, R374) -/

/-- The stamp periods of a member's timeout: 2,000 a microsecond (R25). -/
def Comm.bound (x : Comm) : Nat := 2000 * x.timeout.toNat

/-- FLUSH (R374): in bounded mode the timeout of an RRS or RRF, counted from its begin, expires: the step flushes the positions not yet formed, in offset order. -/
def execFlush (c : Nat) (s : State) : Out :=
  let x := s.comm c
  match x.step with
  | none => .next s
  | some p =>
    if x.live && decide (x.run = .running) && x.bounded && decide (p.kind = .rrs ∨ p.kind = .rrf) && decide (p.off < p.len) && !p.flush &&
        decide (x.bound ≤ (s.stamp - p.began).toNat) then
      .next (s.modComm c (fun x => { x with step := some { p with flush := true } }))
    else .next s

/-- A step of the member moves chunks that the watchdog bounds: a receive, or streams that are not yet accepted; a bounded reduction's incoming stream has its own timeout (R373, R374). -/
def Comm.moves (x : Comm) : Bool :=
  !x.sends.isEmpty ||
  (match x.step with
   | some p => (match p.kind with | .recv | .bcast | .xpose => true | .rrs | .rrf => !x.bounded | _ => false)
   | none => false)

/-- COLLECTIVE_WATCHDOG (R373): a step that has accepted and delivered no chunk for longer than the timeout sends a record of code
0x32, kind 8; the bound starts again. -/
def execCollectiveWatchdog (c : Nat) (s : State) : Out :=
  let x := s.comm c
  if x.live && decide (x.run = .running) && x.moves && decide (x.bound < (s.stamp - x.moved).toNat) then
    let s := s.queueRecord (svOfColl c) (s.collRecord c 0x32 (BitVec.ofNat 64 (8 + 256 * x.rank)) 0 false)
    .next (s.modComm c (fun x => { x with moved := s.stamp }))
  else .next s

/-! ## Supervisor functions on members (R155) -/

/-- CRESUME's effect: a program stopped at a translation fault runs on from its step and chunk. -/
def State.collResume (s : State) (c : Nat) : State × Word :=
  if (s.comm c).run = .stopped 5 then (s.modComm c (fun x => { x with run := .running, moved := s.stamp }), 0) else (s, 1)

/-- The channel that the member's step fills, as tile and number. -/
def Comm.fills (x : Comm) : Option (Nat × Nat) :=
  match x.step with
  | some p =>
    let tc := if p.kind = .xpose then (xpNat p.par 56 2, xpNat p.par 59 1) else let d := x.desc p.buf; (dTile d, dCh d)
    if tc.2 = 0xFF || decide (p.kind = .send) || decide (p.kind = .rrs) || decide (p.kind = .signal) || (decide (p.kind = .bcast) && decide (p.peer = x.rank)) then none else some tc
  | none => none

/-- CABORT's effect: the member is torn down: its accesses, its stored chunks and their entries go, the channel that its step filled is filled no more; its start event takes the cancel form
when its program was running or stopped. -/
def State.collAbort (s : State) (c : Nat) : State :=
  let x := s.comm c
  let s := s.freeChunkEntries c ((x.windows.flatMap (fun w => w.chunks.map (fun ch => (ch.src, ch.serial)))) ++ (match x.step with | some p => p.used | none => []))
  let s := match x.fills with
    | some (t, ch) => s.setChan t ch { s.chan t ch with filling := false }
    | none => s
  let s := (s.routs.filter (fun o => decide (o.owner = Owner.coll c))).foldl (fun s o => (s.serialDone o).dropRout o.id) s
  let s := { (s.setComm c Comm.start) with gaccs := s.gaccs.filter (fun g => !decide ((g : GAcc).owner = Owner.coll c)) }
  let s := s.setRec (.coll c) 4 []
  if x.busy then s.postEvent x.event (.evSet 0 true) true else s

end Sys2Proof.Machine
end

