-- ==== Sys2Proof/Machine/Orrery.lean ====
section
/-!
DEFINITION. The Orrery's objects (R331 to R341, R400): the command ring, registration of graphs, events created and destroyed,
instances and their replays, ready nodes and completed nodes.
-/

namespace Sys2Proof.Machine

open Sys2Proof

/-! ## The command ring (R400) -/

/-- The owner of what the command ring reads, and of what a node reads. -/
def ringOwner : Owner := .orr (2 ^ 26)
def nodeOwner (g n : Nat) : Owner := .orr (4096 * g + n)

/-- Address of the entry at CRHEAD. -/
def State.cmdAddr (s : State) : Nat := s.crbase.toNat + 64 * (s.crhead.toNat % s.crsize.toNat)

/-- The entry that is next in ring order. -/
def State.cmdEntry (s : State) : Option (List Byte) :=
  if s.crsize = 0 ∨ s.crhead = s.crtail then none else some (memRead s.mem s.cmdAddr 64)

/-- A command is done: its status, the handle it gives, and CRHEAD. -/
def State.cmdDone (s : State) (status : Nat) (hd : Option Word) : State :=
  let a := s.cmdAddr
  let s := match hd with | some x => s.commit 4 (a + 32) (leBytes 8 x.toNat) | none => s
  let s := (s.commit 4 (a + 40) [BitVec.ofNat 8 status]).setRec ringOwner 4 []
  { s with crhead := s.crhead + 1, cmdFailed := false, routs := s.routs.filter (fun (o : ROut) => !decide (o.owner = ringOwner)), gaccs := s.gaccs.filter (fun (g : GAcc) => !decide (g.owner = ringOwner)) }

/-- The next command, when it is the one named; codes that name none are completed as bad by the first command's event. -/
def onCommand (code : Nat) (s : State) (k : List Byte → BitVec 14 → State) : Out :=
  match s.cmdEntry with
  | none => .next s
  | some e =>
    let c := recNat e 0 1
    if c = code then .next (k e (BitVec.ofNat 14 (recNat e 48 2)))
    else if code = 1 && !within c 1 6 then .next (s.cmdDone 3 none)
    else .next s

/-- A handle (R331). -/
def mkHdl (asid : BitVec 14) (pkg : BitVec 10) (gen : BitVec 16) (type idx : Nat) : Word :=
  asid ++ pkg ++ gen ++ BitVec.ofNat 4 type ++ BitVec.ofNat 20 idx

/-- The next generation of a slot: 65,535 wraps to 1. -/
def nextGen (g : BitVec 16) : BitVec 16 := if g = 0xFFFF#16 then 1 else g + 1

def State.setGraph (s : State) (g : Nat) (x : Graph) : State := { s with graphs := fput s.graphs g x }

/-- CREATE_EVENT: a new event of the entry's ASID, count 0, state open. -/
def execCreateEvent (s : State) : Out :=
  onCommand 3 s (fun _ asid =>
    match freeSlot (fun k => (s.eventObj k).live) s.events.length 1048576 with
    | none => s.cmdDone 2 none
    | some k =>
      let e := s.eventObj k
      (s.setEvent k { EventObj.start with live := true, asid := asid, gen := e.gen }).cmdDone 0 (some (mkHdl asid s.pkgId e.gen 1 k)))

/-- DESTROY_EVENT (R332): armed dependants fail as the cancel form does. -/
def execDestroyEvent (s : State) : Out :=
  onCommand 4 s (fun e asid =>
    let hd : Word := BitVec.ofNat 64 (recNat e 8 8)
    if !s.eventLive hd || hdlAsid hd ≠ asid then s.cmdDone 3 none
    else
      let k := hdlIdx hd
      let s := s.applyUpdate k (.evSet 0 true) true
      (s.setEvent k { EventObj.start with gen := nextGen (s.eventObj k).gen }).cmdDone 0 none)

/-- A graph has an instance queued or running (R332). -/
def State.graphBusy (s : State) (g : Nat) : Bool :=
  s.queues.any (fun q => q.graph == g) || s.running.any (fun r => r.inst.graph == g)

/-- DESTROY_GRAPH (R332, R345): busy while an instance is queued or running; its reservations are released, the cohorts its tasks
created end (R41). -/
def execDestroyGraph (s : State) : Out :=
  onCommand 2 s (fun e asid =>
    let hd : Word := BitVec.ofNat 64 (recNat e 8 8)
    let g := hdlIdx hd
    if !s.graphLive hd || hdlAsid hd ≠ asid then s.cmdDone 3 none
    else if s.graphBusy g then s.cmdDone 1 none
    else
      let s := { s with reservations := s.reservations.filter (fun r => r.graph != g),
                        cohorts := s.cohorts.filter (fun kc => !(kc.2.live && kc.2.graph == g)) }
      (s.setGraph g { Graph.start with gen := nextGen (s.graph g).gen }).cmdDone 0 none)

/-- LAUNCH (R332, R336): an instance at the descriptor's PRIO; busy while an instance is queued or running. -/
def execLaunch (s : State) : Out :=
  onCommand 5 s (fun e asid =>
    let hd : Word := BitVec.ofNat 64 (recNat e 8 8)
    if !s.graphLive hd || hdlAsid hd ≠ asid then s.cmdDone 3 none
    else if s.graphBusy (hdlIdx hd) then s.cmdDone 1 none
    else match s.queueInst (hdlIdx hd) (BitVec.ofNat 64 (recNat e 16 8)) (s.graph (hdlIdx hd)).prio with
      | some (s', _) => s'.cmdDone 0 none
      | none => s.cmdDone 2 none)

/-- BIND_COMPLETION_EVENT (R394, R400): vectors 0 to 7 are refused, above 63 bad. -/
def execBindCompletionEvent (s : State) : Out :=
  onCommand 6 s (fun e _ =>
    let hd : Word := BitVec.ofNat 64 (recNat e 8 8)
    let v := recNat e 16 8
    if v < 8 then s.cmdDone 2 none
    else if 63 < v ∨ !s.eventLive hd then s.cmdDone 3 none
    else ({ s with binds := (hd, v) :: s.binds.filter (fun b => b.1 != hd) } : State).cmdDone 0 none)

/-- COMMAND_RING_CONFIG_WRITE (R400): CRBASE or CRSIZE, with both pointers reset. -/
def execCommandRingConfigWrite (size : Bool) (v : BitVec 64) (s : State) : Out := .next (s.writeCr size v)

/-! ## Registration (R121, R336, R337) -/

/-- A little-endian field of a node's kind-specific bytes. -/
def GNode.field (x : GNode) (off n : Nat) : Nat := (x.spec.extractLsb' (8 * off) (8 * n)).toNat

def GNode.isLaunch (x : GNode) : Bool := decide (x.kind = 0) || decide (x.kind = 4)
def GNode.image_ (x : GNode) : Nat := x.field 0 8
def GNode.argBase (x : GNode) : Word := x.spec.extractLsb' 64 64
def GNode.grid (x : GNode) : Nat := x.field 16 4
def GNode.hint (x : GNode) : Nat := x.field 20 2
def GNode.stidx (x : GNode) : Nat := x.field 22 1
def GNode.cohort (x : GNode) : Word := x.spec.extractLsb' 192 64
def GNode.ephKey (x : GNode) : BitVec 16 := x.spec.extractLsb' 256 16
def GNode.once (x : GNode) : Bool := x.flags.getLsbD 0
def GNode.nr (x : GNode) : Bool := x.flags.getLsbD 1
def GNode.reb (x : GNode) : Bool := x.flags.getLsbD 2
def GNode.hard (x : GNode) : Bool := x.flags.getLsbD 3

/-- A node record. -/
def parseNode (bs : List Byte) : GNode :=
  { kind := recNat bs 0 1, flags := BitVec.ofNat 8 (recNat bs 1 1), nin := recNat bs 2 1, done := BitVec.ofNat 64 (recNat bs 8 8),
    edges := (List.range 4).map (fun e => (BitVec.ofNat 64 (recNat bs (16 + 16 * e) 8), BitVec.ofNat 64 (recNat bs (24 + 16 * e) 8))),
    spec := BitVec.ofNat 384 (recNat bs 80 48), image := none }

/-- The rules of a node record, for a graph of an ASID (R333, R336, R337, R341). -/
def State.nodeOk (s : State) (asid : BitVec 14) (bs : List Byte) : Bool :=
  let x := parseNode bs
  decide (x.kind ≤ 5) && decide (x.flags.toNat < 16) && decide (x.nin ≤ 4) && decide (recNat bs 3 5 = 0) &&
  (x.edges.take x.nin).all (fun e =>
    decide (hdlType e.1 = 1) && decide (hdlAsid e.1 = asid) && (decide (hdlPkg e.1 ≠ s.pkgId) || s.eventLive e.1) &&
    within e.2.toNat 1 (2 ^ 63 - 1)) &&
  (match x.kind with
   | 0 | 4 => within x.grid 1 (2 ^ 20) && (decide (x.hint < 288) || decide (x.hint = 0xFFFF)) && decide (x.stidx ≤ 63) &&
      decide (x.field 23 1 = 0) && decide (x.field 34 14 = 0) && (decide (x.stidx = 0) || decide (x.nin ≠ 0))
   | 1 => decide (x.field 20 28 = 0)
   | 2 => within (x.field 16 8) 1 (2 ^ 32) && decide (x.field 24 1 ≤ 1) && decide (x.field 25 23 = 0)
   | 3 => decide (x.field 16 32 = 0)
   | _ => decide (x.field 8 1 ≤ 2) && decide (x.field 9 7 = 0) && decide (x.field 24 24 = 0))

/-- The rules of a graph descriptor. -/
def graphDescOk (bs : List Byte) : Bool :=
  decide (recNat bs 0 8 % 128 = 0) && within (recNat bs 8 2) 1 4096 && decide (recNat bs 10 1 ≤ 3) && decide (recNat bs 11 1 = 0) &&
  within (recNat bs 12 4) 1 65536 && decide (recNat bs 32 32 = 0)

/-- The offset of an image's sections from the image's first byte, its header: log entry 40. -/
def imageSkip : Nat := 65536

/-- A header that a launch may name (R121). -/
def imageHeadOk (bs : List Byte) : Bool :=
  decide (recNat bs 0 4 = 0x5A535449) && decide (recNat bs 4 2 = 1) && decide (recNat bs 24 40 = 0)

/-- A launch record (R121). -/
def parseLaunch (bs : List Byte) : LaunchRec :=
  { entry := BitVec.ofNat 64 (recNat bs 0 8), slabs := BitVec.ofNat 32 (recNat bs 32 4), rings := BitVec.ofNat 32 (recNat bs 36 4),
    chans := BitVec.ofNat 16 (recNat bs 40 2), eph := recNat bs 42 2, window := recNat bs 44 4, args := recNat bs 48 4,
    seed := BitVec.ofNat 64 (recNat bs 56 8) }

/-- The rules of a launch record; an image without a scalar entry cannot be launched (R122). -/
def launchOk (bs : List Byte) : Bool :=
  let l := parseLaunch bs
  decide (l.entry ≠ BitVec.allOnes 64) && decide (l.eph ≤ 3640) && decide (l.window % 65536 = 0) && decide (l.window ≤ 4194304) &&
  decide (l.args % 8 = 0) && decide (64 ≤ l.args) && decide (recNat bs 52 4 = 0) && decide (recNat bs 64 64 = 0)

/-- A read of the command ring's own (class 4), under the graph's ASID; a fault refuses the registration. -/
def State.ringRead (s : State) (asid : BitVec 14) (va n : Nat) (k : List Byte → State → State) : State :=
  match s.accKeep ringOwner none asid 4 [(va, n)] with
  | .ok bs s => k bs s
  | .wait s => s
  | .bad _ s => s.cmdDone 2 none

/-- The images of the launch nodes are read. A header or launch record that breaks a rule of R121 refuses the registration: R122 says only that an image without a scalar entry cannot be
launched, not when that is found (DESIGN CHOICE, log entry 120). -/
def State.readImages (asid : BitVec 14) : List GNode → List GNode → State → (List GNode → State → State) → State
  | [], acc, s, k => k acc.reverse s
  | x :: xs, acc, s, k =>
    if x.isLaunch then
      s.ringRead asid x.image_ 64 (fun hb s =>
        if !imageHeadOk hb then s.cmdDone 2 none
        else s.ringRead asid (x.image_ + recNat hb 20 4) 128 (fun lb s =>
          if !launchOk lb then s.cmdDone 2 none else State.readImages asid xs ({ x with image := some (parseLaunch lb) } :: acc) s k))
    else State.readImages asid xs (x :: acc) s k

/-- Slots that a node's image requests. -/
def GNode.slots (x : GNode) : Nat := match x.image with | some l => l.eph | none => 0

/-- R345: no launch that names a build key requests more slots than its build. -/
def keysOk (ns : List GNode) : Bool :=
  ns.all (fun x => !(decide (x.kind = 0) && decide (x.ephKey ≠ 0)) ||
    ns.all (fun b => !(decide (b.kind = 4) && decide (b.ephKey = x.ephKey)) || decide (x.slots ≤ b.slots)))

/-- The in-edge handles of other packages are tested there (R336): each is asked for, and the registration goes on when every answer has come and every handle
is live. -/
def State.askEdges (s : State) (hds : List Word) (k : State → State) : State :=
  match s.countsOf ringOwner 5 0 hds with
  | (s, none) => s
  | (s, some none) => k s
  | (s, some (some _)) => s.cmdDone 2 none

/-- REGISTER_GRAPH (R336): descriptor, nodes and launch records are read and checked; the handle, or refused. -/
def execRegisterGraph (s : State) : Out :=
  onCommand 1 s (fun e asid =>
    if s.cmdFailed then s.cmdDone 2 none
    else s.ringRead asid (recNat e 8 8) 64 (fun db s =>
      if !graphDescOk db then s.cmdDone 2 none
      else s.ringRead asid (recNat db 0 8) (128 * recNat db 8 2) (fun nb s =>
        let raw := (List.range (recNat db 8 2)).map (fun i => (nb.drop (128 * i)).take 128)
        if !raw.all (s.nodeOk asid) then s.cmdDone 2 none
        else s.askEdges ((raw.map parseNode).flatMap (fun x => (x.edges.take x.nin).map (·.1))) (fun s => State.readImages asid (raw.map parseNode) [] s (fun ns s =>
          if !keysOk ns then s.cmdDone 2 none
          else match freeSlot (fun k => (s.graph k).live) s.graphs.length 16384 with
            | none => s.cmdDone 2 none
            | some g =>
              let gen := (s.graph g).gen
              let x : Graph := { live := true, asid := asid, gen := gen, prio := BitVec.ofNat 2 (recNat db 10 1), rcnt := recNat db 12 4,
                                 stride := BitVec.ofNat 64 (recNat db 16 8), completion := BitVec.ofNat 64 (recNat db 24 8), nodes := ns }
              (s.setGraph g x).cmdDone 0 (some (mkHdl asid s.pkgId gen 2 g)))))))

/-! ## Replays (R338 to R341) -/

/-- The graph-node instance of replay r: i0 + r mod 2^24, skipping 0 (R340). -/
def instNum (i0 : BitVec 24) (r : Nat) : BitVec 24 :=
  let x := i0.toNat + r
  if x < 2 ^ 24 then BitVec.ofNat 24 x else BitVec.ofNat 24 (x + 1)

/-- rebase + r × STRIDE (R340). -/
def State.rebase (s : State) (r : RunInst) : Word := r.inst.rebase + BitVec.ofNat 64 r.replay * (s.graph r.inst.graph).stride

/-- The transport's incarnation table at a replay's start (R360). -/
def State.incSnapshot (s : State) : FMap (BitVec 16) := fput s.peerInc s.pkgId.toNat s.inc

/-- One in-edge is armed (R333, R338): base := count; a handle that is not live fails it. Another package's event is asked for its count; the edge arms with the
answer. -/
def State.armEdge (s : State) (g n e : Nat) (edge : Word × Word) : State × Bool :=
  let hd := edge.1
  let d : Dependant := { graph := g, node := n, edge := e, threshold := edge.2, base := s.eventCount hd }
  if hdlPkg hd = s.pkgId then
    if s.eventLive hd then
      let k := hdlIdx hd
      (s.setEvent k { s.eventObj k with deps := (s.eventObj k).deps ++ [d] }, true)
    else (s, false)
  else if (s.eventRout (nodeOwner g n) 5 hd).isSome then (s, true)
  else (s.askEvent (nodeOwner g n) 5 0 hd, true)

/-- Every in-edge of every node is armed; nodes with a dead in-edge fail. -/
def State.armAll (s : State) (g : Nat) : State :=
  let nodes := (s.graph g).nodes
  let r := ((List.range nodes.length).zip nodes).foldl (fun (acc : State × List Nat) nx =>
    let es := (nx.2.edges.take nx.2.nin)
    let r := ((List.range es.length).zip es).foldl (fun (a : State × Bool) ie =>
      let b := a.1.armEdge g nx.1 ie.1 ie.2
      (b.1, a.2 && b.2)) (acc.1, true)
    (r.1, if r.2 then acc.2 else acc.2 ++ [nx.1])) (s, [])
  r.2.foldl (fun s n => s.failNode g n) r.1

/-- REPLAY_START (R339): the next instance of the graph in queue order begins, or its next replay. -/
def execReplayStart (g : Nat) (s : State) : Out :=
  match s.runOf g with
  | some r =>
    if r.started then .next s
    else .next ((s.modRun g (fun r => { r with started := true, nodes := [], order := [], incs := s.incSnapshot })).armAll g)
  | none =>
    match s.queues.find? (fun q => q.graph == g) with
    | none => .next s
    | some q =>
      let r : RunInst := { inst := q, replay := 0, started := true, cancelled := false, nodes := [], order := [], incs := s.incSnapshot }
      .next (({ s with queues := s.queues.erase q, running := s.running ++ [r] } : State).armAll g)

/-- An Orrery record of a node: SRC 5, no resident. -/
def State.nodeRecord (s : State) (g : Nat) (f : FaultInfo) : State :=
  let ni := match s.runOf g with | some r => instNum r.inst.first r.replay | none => 0
  s.queueRecord 0
    { code := BitVec.ofNat 8 f.code, src := 5, flags := f.flags, lane := 0xFF, handle := 0, asid := (s.graph g).asid, iaddr := 0, vaddr := f.va,
      nodeInst := ni, taskNum := 0, detail := f.detail, comm := f.comm, repidx := 0 }

/-- A node's own action has faulted: a record, and the node fails; loads of its own that are still out bring it nothing. -/
def State.nodeFaults (s : State) (g n : Nat) (f : FaultInfo) : State :=
  let s := (s.nodeRecord g f).setRec (nodeOwner g n) 4 []
  ({ s with gaccs := s.gaccs.filter (fun (a : GAcc) => !(decide (a.owner = nodeOwner g n) && !a.isStore)) } : State).failNode g n

/-- The member that a task of a node is. -/
def launchMember (pkg : BitVec 10) (key : Nat) (asid : BitVec 14) (ni : BitVec 24) (i : Nat) : Member :=
  { key := BitVec.ofNat 26 key, asid := asid, nodeInst := ni, taskNum := BitVec.ofNat 20 i, pkg := pkg, atLaunch := true, arrived := false, waits := false, passed := false, reply := none }

/-- A task's identity in a request. -/
def identBits (key : Nat) (asid : BitVec 14) (ni : BitVec 24) (i : Nat) : BitVec 128 :=
  (BitVec.ofNat 26 key ++ asid ++ ni ++ BitVec.ofNat 20 i : BitVec 84).setWidth 128

/-- A cohort function of the Orrery on another package's object: n marks a launch's action, on the n tasks of its grid for a join (R41). -/
def State.orrCohort (s : State) (k : Nat) (fn : BitVec 2) (hd : Word) (id : BitVec 128) (n : Nat) (wait : Bool) : State :=
  let pkg := hdlPkg hd
  let q := s.reqOf (.orr k) pkg 7 0 (.cohort fn hd) id (BitVec.ofNat 128 n) none 3
  let o := s.routOf (.orr k) 5 pkg (.cohortInfo hd) 0 (cohortTarget hd) 0 q .free
  let s := s.noteReq (.orr k) pkg q
  ({ s with routs := if wait then s.routs ++ [o] else s.routs, nextId := s.nextId + 1 } : State).sendPacket pkg (.request q)

/-- R41: every task of the grid joins the cohort as one action, in increasing task index. -/
def State.joinGrid (s : State) (g n : Nat) (ni : BitVec 24) (x : GNode) : State :=
  let hd := x.cohort
  let asid := (s.graph g).asid
  if hd = 0 then s
  else if hdlPkg hd = s.pkgId then
    match s.cohortOf hd with
    | some k => s.setCohort k ((List.range x.grid).foldl (fun c i => (c.join (launchMember s.pkgId (4096 * g + n) asid ni i)).1) (s.cohort k))
    | none => s
  else s.orrCohort (4096 * g + n) 1 hd (identBits (4096 * g + n) asid ni 0) x.grid true

/-- The status word of an event as this package sees it. -/
def State.eventStatus (s : State) (hd : Word) : Word :=
  if hdlPkg hd = s.pkgId then (s.eventObj (hdlIdx hd)).status
  else match s.peerStatus.find? (fun p => p.1 == hd) with | some p => p.2 | none => 0

/-- A node's DONE event is signalled (R334: a completion carries state 1). -/
def State.signalDone (s : State) (x : GNode) (n : Nat) : State := s.postEvent x.done (.evSignal (BitVec.ofNat 64 n) 1 0) false

/-- NODE_READY (R338, R339, R341): its in-edges have fired. A ONCE node of a later replay only signals. A launch node writes its
argument word STIDX, and once the store has committed joins its cohort; then its tasks wait to be placed. placed marks the word as written meanwhile. -/
def execNodeReady (g n : Nat) (s : State) : Out :=
  match s.runOf g, s.gnode g n with
  | some r, some x =>
    let nr := r.node n
    let ready := r.started && decide (nr.st = .waiting) && (List.range x.nin).all (fun e => nr.fired.getLsbD e)
    let ni := instNum r.inst.first r.replay
    if !ready then .next s
    else if decide (0 < r.replay) && x.once then
      .next ((s.signalDone x (if x.isLaunch then x.grid else 1)).modNode g n (fun y => { y with st := .done }))
    else
      let go := fun (s : State) =>
        let s := if x.isLaunch then s.joinGrid g n ni x else s
        (s.modNode g n (fun y => { y with st := .ready, placed := 0 })).modRun g (fun r => { r with order := r.order ++ [n] })
      if x.isLaunch && decide (x.stidx ≠ 0) && decide (0 < nr.placed) then
        .next (if s.accOut (nodeOwner g n) then s else go s)
      else if x.isLaunch && decide (x.stidx ≠ 0) then
        let a := (x.argBase + s.rebase r).toNat + 8 * x.stidx
        let st := s.eventStatus ((x.edges.headD (0, 0)).1)
        match s.accWrite (nodeOwner g n) none (s.graph g).asid 4 false ((writeUnits 1 [0] [(a, 8)]).map (fun u => (u.1, ((leBytes 8 st.toNat).drop u.2.2).take u.2.1))) with
        | .ok _ s => .next (s.modNode g n (fun y => { y with placed := 1 }))
        | .wait s => .next s
        | .bad f s => .next (s.nodeFaults g n f)
      else .next (go s)
  | _, _ => .next s

/-! ## Completion of nodes, replays, instances -/

/-- An MSI-X vector is raised (R394). -/
def State.raiseMsix (s : State) (v : Nat) : State := { s with msix := s.msix ||| (1#64 <<< v) }

/-- The instance ends: its completion event is signalled with its state, and the vector bound to that event is raised (R339, R394). -/
def State.endInstance (s : State) (g : Nat) (cancelled : Bool) : State :=
  let hd := (s.graph g).completion
  let s := { s with running := s.running.filter (fun r => r.inst.graph != g) }
  let s := s.postEvent hd (.evSignal 1 (if cancelled then 3 else 1) 0) false
  if hd = 0 then s
  else match s.binds.find? (fun b => b.1 == hd) with
    | some b => s.raiseMsix b.2
    | none => s

/-- When every node has completed or failed, the replay ends; the next one may start, or the instance ends (R338, R339). -/
def State.endReplay (s : State) (g : Nat) : State :=
  match s.runOf g with
  | none => s
  | some r =>
    let all := (List.range (s.graph g).nodes.length).all (fun n => decide ((r.node n).st = .done) || decide ((r.node n).st = .failed))
    if !r.started || !all then s
    else if r.cancelled || decide ((s.graph g).rcnt ≤ r.replay + 1) then s.endInstance g r.cancelled
    else s.modRun g (fun r => { r with replay := r.replay + 1, started := false, nodes := [], order := [] })

/-- A node other than a launch completes: 1 on DONE, with state 2 for a collective of which a rank's run ended incomplete (R341, R376). -/
def State.nodeDone (s : State) (g n : Nat) (x : GNode) (state : BitVec 2) : State :=
  (((s.setRec (nodeOwner g n) 4 []).modNode g n (fun y => { y with st := .done })).postEvent x.done (.evSignal 1 state 0) false).endReplay g

/-- A read of a node's own, under the graph's ASID; a fault fails the node. -/
def State.nodeRead (s : State) (g n : Nat) (l : Option Tlb) (cls va len : Nat) (k : List Byte → State → State) : State :=
  match s.accKeep (nodeOwner g n) l (s.graph g).asid cls [(va, len)] with
  | .ok bs s => k bs s
  | .wait s => s
  | .bad f s => s.nodeFaults g n f

/-- A collective node starts the next rank's member (R337): cstart under the node's identity and the rank's number, with cstart's checks (R250, R263, R264). -/
def State.collNode (s : State) (g n : Nat) (x : GNode) (ni : BitVec 24) (i : Nat) : State :=
  let bad := fun (s : State) => s.fresh1.nodeFaults g n (faultInfo 0x04 (Config.freeStateUseDetail s.fresh))
  let asid := (s.graph g).asid
  let a := (BitVec.ofNat 64 (x.field 0 8 + i * x.field 8 8)).toNat
  if a % 64 ≠ 0 then bad s
  else s.nodeRead g n none 4 a 64 (fun bs s =>
    if !cstartOk bs then bad s
    else match s.commOf (BitVec.ofNat 64 (recNat bs 0 8)) with
      | none => bad s
      | some c =>
        if (s.comm c).busy then s
        else s.nodeRead g n none 4 (recNat bs 8 8) (8 * recNat bs 16 4) (fun pb s =>
          let prog := (cutWords 8 pb).map (BitVec.ofNat 64)
          s.nodeRead g n none 4 (recNat bs 24 8) (32 * descCount prog) (fun db s =>
            let ds := (cutWords 32 db).map (BitVec.ofNat 256)
            if !s.programOk prog ds then bad s
            else match s.countsOf (.coll c) 4 0 (descEvents ds) with
              | (s, none) => s
              | (s, some (some _)) => bad s
              | (s, some none) =>
                let s := (s.startComm c (BitVec.ofNat 26 (4096 * g + n) ++ asid ++ ni ++ BitVec.ofNat 20 i) (nodeOwner g n) bs prog ds).setRec (nodeOwner g n) 4 []
                s.modNode g n (fun y => { y with placed := i + 1 }))))

/-- The members that a collective node has started in a replay. -/
def State.startedMembers (s : State) (g n : Nat) (ni : BitVec 24) : List Comm :=
  (s.comms.filter (fun kc => kc.2.live && decide (kc.2.startBy = nodeOwner g n) && decide (kc.2.ident.extractLsb' 20 24 = ni))).map (·.2)

/-- The collective engine that performs a copy or prefetch node: that of the home quadrant of its source (R337); 0 for a source that is not in this package's memory. -/
def State.copyQuad (s : State) (asid : BitVec 14) (va : Nat) : Nat :=
  match s.kTarget asid 5 va .load with
  | .ok t => if t.aper ≤ 1 then t.pa / 0x3000000000 % 4 else 0
  | .error _ => 0

/-- The engine's port serves a communicator of a higher class than the graph's (R364, R368). -/
def State.copyWaits (s : State) (g q : Nat) : Bool :=
  match s.topClass q with
  | some k => decide ((s.graph g).prio.toNat < k)
  | none => false

/-- The rebased address of a copy or prefetch node (R337, R340). -/
def State.nodeAddr (s : State) (x : GNode) (r : RunInst) (off : Nat) : Nat := (BitVec.ofNat 64 (x.field off 8) + (if x.reb then s.rebase r else 0)).toNat

/-- A prefetch node completes; its operands are checked as PREF's are, and nothing else faults (R228, R230, R337). -/
def State.prefNode (s : State) (g n : Nat) (x : GNode) (r : RunInst) : State :=
  let a := s.nodeAddr x r 0
  let len := x.field 8 8
  if !within len 1 (2 ^ 32) || decide (2 ^ 56 < a + len) then s.fresh1.nodeFaults g n (faultInfo 0x04 (Config.freeStateUseDetail s.fresh))
  else if s.copyWaits g (s.copyQuad (s.graph g).asid a) then s else s.nodeDone g n x 1

/-- A copy node moves its next 4 KiB (R230, R275, R337), with the limits of COPY, through its engine and in the priority class of the graph (R364). -/
def State.copyNode (s : State) (g n : Nat) (x : GNode) (r : RunInst) (k : Nat) : State :=
  let src := s.nodeAddr x r 0
  let dst := s.nodeAddr x r 8
  let len := x.field 16 8
  let q := s.copyQuad (s.graph g).asid src
  if 2 ^ 56 < src + len ∨ 2 ^ 56 < dst + len ∨ !footApart [(src, len)] [(dst, len)] then
    s.fresh1.nodeFaults g n (faultInfo 0x04 (Config.freeStateUseDetail s.fresh))
  else if s.copyWaits g q then s
  else
    let o := 4096 * k
    let m := min 4096 (len - o)
    s.nodeRead g n (some (.quad q)) 5 (src + o) m (fun bs s =>
      let units := (writeUnits 1 (eightsOf [(src + o, m)]) [(dst + o, m)]).map (fun u => (u.1, (bs.drop u.2.2).take u.2.1))
      match s.accWrite (nodeOwner g n) (some (.quad q)) (s.graph g).asid 5 (decide (x.field 24 1 = 1)) units with
      | .ok _ s => (s.setRec (nodeOwner g n) 4 []).modNode g n (fun y => { y with placed := k + 1 })
      | .wait s => s
      | .bad f s => s.nodeFaults g n f)

/-- An event node's operation (R334, R337). -/
def eventNodeOp (x : GNode) : ROp :=
  let v : Word := x.spec.extractLsb' 128 64
  match x.field 8 1 with
  | 0 => .evSignal v 0 0
  | 1 => .evSet v false
  | _ => .evSet v true

/-- NODE_COMPLETE (R337 to R339): a ready node of another kind does its next piece of work, or completes; a launch node whose
every task has counted is done; with the last node the replay or the instance ends. -/
def execNodeComplete (g n : Nat) (s : State) : Out :=
  match s.runOf g, s.gnode g n with
  | some r, some x =>
    let nr := r.node n
    let busy := s.gaccs.any (fun a => decide (a.owner = nodeOwner g n))
    if nr.st = .done ∨ nr.st = .failed then .next (s.endReplay g)
    else if nr.st ≠ .ready then .next s
    else match x.kind with
      | 0 | 4 => if x.grid ≤ nr.counted then .next ((s.modNode g n (fun y => { y with st := .done })).endReplay g) else .next s
      | 1 =>
        if x.field 16 4 ≤ nr.placed then
          let l := s.startedMembers g n (instNum r.inst.first r.replay)
          .next (if l.any (·.busy) then s else s.nodeDone g n x (if l.any (·.incomplete) then 2 else 1))
        else .next (s.collNode g n x (instNum r.inst.first r.replay) nr.placed)
      | 2 =>
        if x.field 16 8 ≤ 4096 * nr.placed then (if busy then .next s else .next (s.nodeDone g n x 1))
        else .next (s.copyNode g n x r nr.placed)
      | 3 => .next (s.prefNode g n x r)
      | _ => .next ((s.postEvent (BitVec.ofNat 64 (x.field 0 8)) (eventNodeOp x) false).nodeDone g n x 1)
  | _, _ => .next s

end Sys2Proof.Machine
end

