-- ==== Sys2Proof/Machine/Context.lean ====
section
/-!
DEFINITION. Fault records in memory (R304, R305) and the save area of a task (R315): its layout, its CRC, writing it
(R313, R314, R316), reading it back and posting its records again (R317); what a task leaves when its context is lost (R45, R348).
-/

namespace Sys2Proof.Machine

open Sys2Proof

/-! ## Records and areas -/

/-- A fault record with its number (R304). -/
def recordBytes (f : FaultRec) (seq : Word) : List Byte :=
  [f.code, f.src, f.flags, f.lane] ++ leBytes 2 (f.handle.toNat % 4096) ++ leBytes 2 f.asid.toNat ++ leBytes 8 f.iaddr.toNat ++
  leBytes 8 f.vaddr.toNat ++ leBytes 4 f.nodeInst.toNat ++ leBytes 4 f.taskNum.toNat ++ leBytes 8 f.detail.toNat ++
  leBytes 8 f.comm.toNat ++ [f.repidx] ++ leBytes 7 0 ++ leBytes 8 seq.toNat

/-- Bytes filled up with zeros to a block of n. -/
def block (n : Nat) (bs : List Byte) : List Byte := (bs ++ List.replicate (n - bs.length) 0).take n

/-- n words of w bytes from a function. -/
def wordsFrom (n w : Nat) (f : Nat → Nat) : List Byte := (List.range n).flatMap (fun i => leBytes w (f i))

/-- One step of the CRC: the next bit of the register. -/
def crcBit (c : BitVec 64) : BitVec 64 := if c.getLsbD 63 then (c <<< 1) ^^^ 0x42F0E1EBA9EA3693#64 else c <<< 1

/-- CRC-64 with the ECMA-182 polynomial, most significant bit first, from 0 (R315; log entry 41). -/
def crc64 (bs : List Byte) : BitVec 64 :=
  bs.foldl (fun (c : BitVec 64) (b : Byte) => crcBit (crcBit (crcBit (crcBit (crcBit (crcBit (crcBit (crcBit (c ^^^ ((b.setWidth 64 : BitVec 64) <<< 56)))))))))) 0

/-- The instruction word of a datapath instruction. -/
def dpWord (d : DataPath) : BitVec 32 := (wordOf d.instr).setWidth 32

/-- The scalar block (R315). -/
def scalarBlock (stamp : Word) (r : Resident) : List Byte :=
  let c := r.sc
  wordsFrom 63 8 (fun i => (c.get (i + 1)).toNat) ++
  [c.pc.toNat, c.nx1.toNat, c.nx2.toNat, r.rctl.toNat, r.rng.toNat, c.tvec.toNat, c.tcause.toNat, (tstatRead stamp c).toNat, c.tcmp.toNat,
   c.epc.toNat, c.enx1.toNat, c.enx2.toNat, c.eann.toNat].flatMap (leBytes 8)

/-- The vector block. -/
def vectorBlock (r : Resident) : List Byte :=
  block 0x80 (wordsFrom 7 16 (fun i => (fget (0 : BitVec 128) r.mregs (i + 1)).toNat)) ++
  wordsFrom 32 8 (fun i => (fget (0 : Word) r.kregs i).toNat) ++ leBytes 8 r.vctl.toNat ++ [r.staged]

/-- The matrix block, with the snapshot of an instruction that stands part-way (R195). -/
def matrixBlock (r : Resident) : List Byte :=
  let snap := match r.dp with
    | some d => block 8 (leBytes 4 (dpWord d).toNat) ++ leBytes 8 d.iaddr.toNat ++ block 48 (leBytes 8 d.shape.toNat) ++
        leBytes 64 d.qa.toNat ++ leBytes 64 d.qb.toNat
    | none => []
  block 0x100 (wordsFrom 16 8 (fun i => (fget (0 : Word) r.nregs i).toNat) ++ wordsFrom 4 4 (fun i => (fget (0 : BitVec 32) r.mprog i).toNat)) ++ snap

/-- The copy block, with the operand values of a transfer that stands part-way (R228). -/
def copyBlock (r : Resident) : List Byte :=
  let snap := match r.xf with
    | some x => block 8 (leBytes 4 x.word.toNat) ++ [x.iaddr.toNat, x.opd.toNat, x.opa.toNat, x.opb.toNat, x.opb1.toNat].flatMap (leBytes 8)
    | none => []
  block 0x110 (wordsFrom 32 8 (fun i => (fget (0 : Word) r.cregs i).toNat) ++ wordsFrom 2 4 (fun i => (fget (0 : BitVec 32) r.cprog i).toNat)) ++ snap

/-- A remote sequence entry. -/
def seqBytes (m : FMap SeqState) (p : Nat) : List Byte :=
  if (fkeys m).contains p then
    let x := fget SeqState.start m p
    leBytes 4 x.next.toNat ++ leBytes 4 x.ct.toNat ++ leBytes 2 x.inc.toNat ++ leBytes 2 1 ++ leBytes 4 x.outstanding.toNat
  else List.replicate 16 0

/-- The records of a saved task: those of its parked programs, then those of its failed vector accesses (R314, R317). -/
def State.pendingRecords (s : State) (h : Nat) : List FaultRec :=
  (engines.filterMap (fun e => ((s.res h).prg e).park.map (·.fault))) ++
  s.vops.filterMap (fun v => if v.h == h && !engines.any (fun e => match ((s.res h).prg e).park with | some p => p.kind == .vector v.id | none => false)
    then v.fault else none)

/-- Bytes 0x100 to 0x1_7FFF of a save area (R315). -/
def State.areaBody (s : State) (h : Nat) : List Byte :=
  let r := s.res h
  block 0x300 (scalarBlock s.stamp r) ++ block 0x400 (vectorBlock r) ++ block 0x400 (matrixBlock r) ++ block 0x400 (copyBlock r) ++
  wordsFrom 16 64 (fun q => (r.stream q).toNat) ++ block 0x400 ((s.pendingRecords h).flatMap (fun f => recordBytes f 0)) ++
  List.replicate 0x2800 0 ++ wordsFrom 128 512 (fun i => (fget (0 : VReg) r.vregs i).toNat) ++
  (List.range 1024).flatMap (seqBytes r.seqs)

/-- The header (R315). -/
def areaHeader (r : Resident) (crc : BitVec 64) : List Byte :=
  block 256 (leBytes 4 0x53564131 ++ leBytes 4 1 ++ leBytes 8 r.rstat.toNat ++ [r.estat, BitVec.ofNat 8 ((if r.sc.a1 then 2 else 0) + (if r.sc.a0 then 1 else 0))] ++
    List.replicate 6 0 ++ [r.v.pc.toNat, r.m.pc.toNat, r.c.pc.toNat].flatMap (leBytes 8) ++ leBytes 4 r.slabWin.toNat ++
    leBytes 4 r.ringWin.toNat ++ leBytes 2 r.chWin.toNat ++ leBytes 3 r.ephWin.toNat ++ leBytes 3 0 ++ leBytes 8 r.spWin.toNat ++
    leBytes 8 r.saves.toNat ++ leBytes 8 crc.toNat)

/-- The bytes of an area. -/
def areaSize : Nat := 98304

/-- The physical address of area k (R315, R319). -/
def State.areaAddr (s : State) (k : Nat) : Nat := s.svpool.toNat + areaSize * k

/-- An area lies in a retired region (R316). -/
def State.areaRetired (s : State) (k : Nat) : Bool :=
  s.retired.any (fun g => decide (65536 * g < s.areaAddr k + areaSize) && decide (s.areaAddr k < 65536 * g + 65536))

/-- The lowest area that no saved task holds and no retired region touches (R316; log entry 42). -/
def State.freeArea (s : State) : Option Nat :=
  (List.range (min s.svpooln.toNat (s.saved.length + s.retired.length * 2 + 1))).find? (fun k =>
    !s.saved.any (fun t => t.area == k) && !s.areaRetired k)

/-! ## Reading an area back -/

/-- A little-endian field of an area. -/
def areaNat (bs : List Byte) (off n : Nat) : Nat := leNat ((bs.drop off).take n)

/-- A register file read from consecutive words of w bytes. -/
def mapFrom (w n bits off first : Nat) (bs : List Byte) : FMap (BitVec bits) :=
  (List.range n).foldl (fun m i => fset (0 : BitVec bits) m (first + i) (BitVec.ofNat bits (areaNat bs (off + w * i) w))) []

/-- The scalar context of an area (offsets 0x100 on). -/
def areaScalar (bs : List Byte) : SCtx :=
  let w := fun (o : Nat) => areaNat bs (0x100 + o) 8
  { sregs := mapFrom 8 63 64 0x100 1 bs, pc := BitVec.ofNat 56 (w 0x1F8), nx1 := BitVec.ofNat 56 (w 0x200), nx2 := BitVec.ofNat 56 (w 0x208),
    a0 := (areaNat bs 17 1).testBit 0, a1 := (areaNat bs 17 1).testBit 1, tvec := BitVec.ofNat 56 (w 0x220), tcause := BitVec.ofNat 64 (w 0x228),
    tstat := BitVec.ofNat 64 (w 0x230), tcmp := BitVec.ofNat 64 (w 0x238), epc := BitVec.ofNat 56 (w 0x240), enx1 := BitVec.ofNat 56 (w 0x248),
    enx2 := BitVec.ofNat 56 (w 0x250), eann := BitVec.ofNat 2 (w 0x258), fence := none }

/-- The remote sequence state of an area; which completed sequences lie above the acknowledged one, and which one the owner has received, comes from the task. -/
def areaSeqs (old : FMap SeqState) (bs : List Byte) : FMap SeqState :=
  (List.range 1024).foldl (fun m p =>
    let o := 0x14000 + 16 * p
    if areaNat bs (o + 10) 2 % 2 = 1 then
      fput m p { next := BitVec.ofNat 32 (areaNat bs o 4), ct := BitVec.ofNat 32 (areaNat bs (o + 4) 4), inc := BitVec.ofNat 16 (areaNat bs (o + 8) 2),
                 outstanding := BitVec.ofNat 32 (areaNat bs (o + 12) 4), finished := (fget SeqState.start old p).finished,
                 seen := (fget SeqState.start old p).seen }
    else m) []

/-- A resident with the context of an area; its windows and what the area does not hold stay. -/
def Resident.fromArea (r : Resident) (bs : List Byte) : Resident :=
  let rstat : Word := BitVec.ofNat 64 (areaNat bs 8 8)
  let pcAt := fun (o : Nat) (p : Prg) => { p with pc := BitVec.ofNat 56 (areaNat bs o 8) }
  { r with
    asid := rstat.extractLsb' 50 14, nodeInst := rstat.extractLsb' 26 24, taskNum := rstat.extractLsb' 6 20, prio := rstat.extractLsb' 4 2,
    estat := BitVec.ofNat 8 (areaNat bs 16 1), sc := areaScalar bs, v := pcAt 24 r.v, m := pcAt 32 r.m, c := pcAt 40 r.c,
    rctl := BitVec.ofNat 64 (areaNat bs 0x310 8), rng := BitVec.ofNat 64 (areaNat bs 0x318 8),
    mregs := mapFrom 16 7 128 0x400 1 bs, kregs := mapFrom 8 32 64 0x480 0 bs, vctl := BitVec.ofNat 64 (areaNat bs 0x580 8),
    staged := BitVec.ofNat 8 (areaNat bs 0x588 1), nregs := mapFrom 8 16 64 0x800 0 bs, mprog := mapFrom 4 4 32 0x880 0 bs,
    cregs := mapFrom 8 32 64 0xC00 0 bs, cprog := mapFrom 4 2 32 0xD00 0 bs, streams := mapFrom 64 16 512 0x1000 0 bs,
    vregs := mapFrom 512 128 4096 0x4000 0 bs, seqs := areaSeqs r.seqs bs, saves := BitVec.ofNat 64 (areaNat bs 72 8) }

/-- The area is what a save wrote (R315, R316). -/
def areaOk (bs : List Byte) : Bool :=
  decide (areaNat bs 0 4 = 0x53564131) && decide (areaNat bs 4 4 = 1) && decide (areaNat bs 80 8 = (crc64 (bs.drop 256)).toNat)

/-! ## What belongs to a task beside its resident -/

/-- The handle under which the failed operations of a saved task stand. -/
def parkedHandle (area : Nat) : Nat := 65536 + area

/-- The operations of a handle go to another handle. -/
def State.rehandle (s : State) (a b : Nat) : State :=
  let o := fun (x : Owner) => if x = .task a then Owner.task b else x
  let s := { s with gaccs := s.gaccs.map (fun (g : GAcc) => { g with owner := o g.owner }),
                    routs := s.routs.map (fun (r : ROut) => { r with owner := o r.owner }),
                    vops := s.vops.map (fun v => if v.h = a then { v with h := b } else v) }
  [0, 3].foldl (fun s p => ((s.setRec (.task b) p (s.recBytes (.task a) p)).setRec (.task a) p [])) s

/-- Every operation of a handle is dropped: its accesses, its remote operations, its requests that have not left. -/
def State.dropOps (s : State) (h : Nat) : State :=
  let mine := fun (o : Owner) => decide (o = .task h)
  let ids := (s.routs.filter (fun r => mine r.owner)).map (·.id)
  let s := { s with gaccs := s.gaccs.filter (fun g => !mine g.owner), routs := s.routs.filter (fun r => !mine r.owner),
                    vops := s.vops.filter (fun v => v.h != h),
                    requests := s.requests.filter (fun q => !(decide (q.src = s.pkgId) && ids.contains q.id)) }
  (s.setRec (.task h) 0 []).setRec (.task h) 3 []

/-- A resident becomes FREE: no task, no windows; its engines run it no more, and writes held for it end with status 2 (R151). -/
def State.freeRes (s : State) (h : Nat) : State :=
  let held := (s.res h).held
  let t := hTile h
  let s := s.setRes h Resident.start
  let s := engines.foldl (fun s e => if s.cur t e = some (hRes h) then s.switch t e else s) s
  held.foldl (fun s w => s.modSvc w.core (fun x => { x with sc := x.sc.set w.reg 2 })) s

/-- The Ephemeris slots of a window are invalid (R43, R345). -/
def State.invalidateEph (s : State) (t : Nat) (win : BitVec 24) : State :=
  let first := (win.extractLsb' 12 12).toNat
  s.modTile t (fun x => { x with eph := x.eph.map (fun ke =>
    if first ≤ ke.1 ∧ ke.1 < first + (win.extractLsb' 0 12).toNat then (ke.1, { ke.2 with st := .invalid }) else ke) })

/-- A member's arrival in a barrier of this package is withdrawn: the Orrery holds the rank vacant (R42, R348). -/
def State.withdraw (s : State) (t : TaskRef) : State :=
  let is := fun (m : Member) => decide (m.pkg = s.pkgId) && decide (m.key = t.key) && decide (m.asid = t.asid) && decide (m.nodeInst = t.nodeInst) &&
    decide (m.taskNum = BitVec.ofNat 20 t.index)
  { s with cohorts := s.cohorts.map (fun kc => (kc.1, { kc.2 with members := kc.2.members.map (fun jm =>
      (jm.1, jm.2.map (fun m => if is m then { m with arrived := false, waits := false, passed := false } else m))) })) }

/-- A context-lost record (R305, R316): SRC 5, to the queue that the task's tile uses. -/
def State.lostRecord (s : State) (t : TaskRef) (tile h detail : Nat) : State :=
  s.queueRecord (svOfTile tile)
    { code := 0x33, src := 5, flags := 0, lane := 0xFF, handle := BitVec.ofNat 16 h, asid := t.asid, iaddr := 0, vaddr := 0,
      nodeInst := t.nodeInst, taskNum := BitVec.ofNat 20 t.index, detail := BitVec.ofNat 64 detail, comm := 0, repidx := 0 }

/-- A task whose completion has not been counted waits to be replayed (R348). -/
def State.loseTask (s : State) (t : TaskRef) : State :=
  let s := s.withdraw t
  { s with lost := s.lost ++ [t] }

/-- The resident's task is context-lost while it is saved or restored (R43, R316). -/
def State.contextLost (s : State) (h detail : Nat) : State :=
  match (s.res h).task with
  | none => (s.dropOps h).freeRes h
  | some t => (((s.lostRecord t (hTile h) h detail).dropOps h).freeRes h).loseTask t

/-! ## Saving (R312 to R316) -/

/-- No access, operation or vector access of the resident is still to complete, and no deferred fault of its scalar program to be delivered (R313); a barrier of
another package that the task waits at is none, and a program that stands parked already meets its deferred faults when it runs again. -/
def State.drained (s : State) (h : Nat) : Bool :=
  (decide ((s.res h).deferred = []) || (s.res h).est .s != 1) &&
  !s.gaccs.any (fun g => decide (g.owner = .task h) && decide (g.failed = none)) &&
  !s.routs.any (fun r => decide (r.owner = .task h) && decide (r.status = none) && (match r.dest with | .barrier _ => false | _ => true)) &&
  !s.vops.any (fun v => v.h == h && !v.finished)

/-- No engine runs the resident: each of its programs stands at a stop point (R312). -/
def State.stoppedAll (s : State) (h : Nat) : Bool := engines.all (fun e => s.cur (hTile h) e != some (hRes h))

/-- The held writes that may take effect, and those that stay: one to a register never passes an older one to the same register. -/
def heldSplit (ok : HeldWrite → Bool) (l : List HeldWrite) : List HeldWrite × List HeldWrite :=
  l.foldl (fun acc w => if ok w && !acc.2.any (fun u => u.cr == w.cr) then (acc.1 ++ [w], acc.2) else (acc.1, acc.2 ++ [w])) ([], [])

/-- Held supervisor writes take effect, in the order in which they were made, with status 0 (R46, R151). -/
def State.applyHeld (s : State) (h : Nat) (ok : HeldWrite → Bool) : State :=
  let r := s.res h
  let (go, stay) := heldSplit ok r.held
  let s := s.modRes h (fun r => go.foldl (fun r w => (r.supWrite s.stamp w.cr w.value).getD r) { r with held := stay })
  go.foldl (fun s w => s.modSvc w.core (fun x => { x with sc := x.sc.set w.reg 0 })) s

/-- The fetched-ahead vectors and the pieces still arriving go, and with them a fetch fault that stopped a later one: all of them are fetched again after the
restore (R249, R314). -/
def Resident.dropAhead (r : Resident) : Resident :=
  { r with ahead := [], fetch := [], portFault := r.portFault.filter (fun qf => decide (stBind (r.stream qf.1) = 2)) }

/-- The context is written to its area; the resident becomes FREE and the task is saved (R43, R314, R315). -/
def State.writeContext (s : State) (h : Nat) (t : TaskRef) (k : Nat) : State :=
  let s := s.modRes h (fun r => { r.dropAhead with saves := r.saves + 1, preempt := false })
  let r := s.res h
  let body := s.areaBody h
  let s := s.commit 4 (s.areaAddr k) (areaHeader r (crc64 body) ++ body)
  let s := s.invalidateEph (hTile h) r.ephWin
  let s := s.rehandle h (parkedHandle k)
  let x : SavedTask := { ref := t, tile := hTile h, area := k, slabWin := r.slabWin, ringWin := r.ringWin, chWin := r.chWin,
                         ephWin := r.ephWin, spWin := r.spWin, into := none, rest := r }
  ({ s with saved := s.saved ++ [x] } : State).freeRes h

/-- SAVE_CONTEXT (R312 to R316): every program of a pre-empted resident stands stopped and its accesses are complete, so it is
SAVING; then its context is written, or lost. A stream piece that would be fetched again is no access to wait for. -/
def execSaveContext (h : Rh) (s : State) : Out :=
  let k := h.toNat
  let r := s.res k
  match r.life with
  | .active =>
    if !r.preempt || !s.stoppedAll k || !s.drained k then .next s
    else .next ((s.modRes k (fun r => { r with life := .saving })).applyHeld k (fun _ => true))
  | .saving =>
    match r.task, s.freeArea with
    | some t, some a => .next (s.writeContext k t a)
    | _, _ => .next (s.contextLost k 0)
  | _ => .next s

/-! ## Restoring (R43, R317) -/

/-- A record posted again: FLAGS bit 2, the new handle (R317). -/
def repost (h : Nat) (f : FaultRec) : FaultRec := { f with flags := f.flags ||| 4, handle := BitVec.ofNat 16 h }

/-- The parks of a restored resident carry the reposted records. -/
def Resident.repostParks (r : Resident) (h : Nat) : Resident :=
  engines.foldl (fun r e => r.setPrg e { r.prg e with park := (r.prg e).park.map (fun p => { p with fault := repost h p.fault }) }) r

/-- RESTORE_CONTEXT (R43, R316, R317): the context comes back from the save area; the records of parked programs and of failed accesses
are posted again; supervisor writes that waited for it take effect (R46). -/
def execRestoreContext (h : Rh) (s : State) : Out :=
  let k := h.toNat
  match (s.res k).life, s.saved.find? (fun t => decide (t.into = some k)) with
  | .restoring, some t =>
    let a := s.areaAddr t.area
    let bs := memRead s.mem a areaSize
    let s := { s with saved := s.saved.filter (fun u => u.area != t.area) }
    if s.poisoned a areaSize || !areaOk bs then
      .next ((s.dropOps (parkedHandle t.area)).contextLost k 2)
    else
      let win := s.res k
      let r := (({ t.rest with task := win.task, slabWin := win.slabWin, ringWin := win.ringWin, chWin := win.chWin, ephWin := win.ephWin,
                               spWin := win.spWin, held := win.held } : Resident).fromArea bs).repostParks k
      let s := ((s.setRes k { r with life := .active }).applyHeld k (fun _ => true)).rehandle (parkedHandle t.area) k
      let s : State := { s with vops := s.vops.map (fun v => if v.h = k then { v with fault := v.fault.map (repost k) } else v) }
      let s := (s.pendingRecords k).foldl (fun s f => s.queueRecord (svOfTile (hTile k)) f) s
      -- a barrier of another package that failed meanwhile is delivered like any deferred fault
      let bad := s.routs.filter (fun (o : ROut) => decide (o.owner = .task k) && decide (o.status ≠ none) && decide (o.status ≠ some .performed) &&
        (match o.dest with | .barrier _ => true | _ => false) && !(s.res k).deferred.contains o.id)
      .next (bad.foldl (fun s (o : ROut) => s.addDeferred k o.id) s)
  | _, _ => .next s

end Sys2Proof.Machine
end

