-- ==== Sys2Proof/Machine/Placement.lean ====
section
/-!
DEFINITION. Placement (R342 to R345): which waiting task is placed, resumed or pre-empted for next, and what the resident is granted;
loading (R12, R436), draining (R44, R345), replay (R348), the fence and rejoin of a die (R328), supervisor writes that wait (R27, R46).
-/

namespace Sys2Proof.Machine

open Sys2Proof

/-! ## Resources of a tile (R16, R43, R343) -/

/-- Windows granted on a tile. -/
structure Grant where
  slabWin : BitVec 32
  ringWin : BitVec 32
  chWin : BitVec 16
  ephWin : BitVec 24
  spWin : BitVec 64
deriving DecidableEq, Repr

def Resident.grant (r : Resident) : Grant :=
  { slabWin := r.slabWin, ringWin := r.ringWin, chWin := r.chWin, ephWin := r.ephWin, spWin := r.spWin }
def SavedTask.grant (t : SavedTask) : Grant :=
  { slabWin := t.slabWin, ringWin := t.ringWin, chWin := t.chWin, ephWin := t.ephWin, spWin := t.spWin }

/-- The holdings of a tile: its residents that are not FREE, and its saved tasks (R43, R45). -/
def State.holdings (s : State) (t : Nat) : List Grant :=
  ((List.range 8).filterMap (fun i => let r := s.res (mkHandle t i); if r.life = .free then none else some r.grant)) ++
  (s.saved.filter (fun x => decide (x.tile = t) && decide (x.into = none))).map SavedTask.grant

/-- Two ranges share a number. -/
def meets (a n b m : Nat) : Bool := decide (0 < n) && decide (0 < m) && decide (a < b + m) && decide (b < a + n)

def ephFirstOf (w : BitVec 24) : Nat := (w.extractLsb' 12 12).toNat
def ephCountOf (w : BitVec 24) : Nat := (w.extractLsb' 0 12).toNat

/-- The lowest 64 KiB-aligned base of a free range of the scratchpad (R343). -/
def spadBase (hs : List Grant) (size : Nat) : Option Nat :=
  if size = 0 then some 0
  else ((List.range 64).map (· * 65536)).find? (fun b => decide (b + size ≤ 4194304) &&
    hs.all (fun g => !meets b size (g.spWin.extractLsb' 0 32).toNat (g.spWin.extractLsb' 32 32).toNat))

/-- The reservation for a build key and a task index (R345). -/
def State.reservation (s : State) (g : Nat) (key : BitVec 16) (i : Nat) : Option Reservation :=
  s.reservations.find? (fun r => decide (r.graph = g) && decide (r.key = key) && decide (r.index = i))

/-- The first group slot of a free run: no holder's and no reservation's (R343, R345). -/
def State.ephBase (s : State) (t : Nat) (hs : List Grant) (n : Nat) : Option Nat :=
  if n = 0 then some 0
  else (List.range (3641 - n)).find? (fun b =>
    hs.all (fun g => !meets b n (ephFirstOf g.ephWin) (ephCountOf g.ephWin)) &&
    s.reservations.all (fun r => !(decide (r.tile = t) && meets b n r.first.toNat r.count.toNat)))

/-- A node uses the tables of a build key: a build node, or a launch that names one. -/
def GNode.keyed (x : GNode) : Bool := decide (x.kind = 4) || decide (x.ephKey ≠ 0)

/-- The windows that a tile can grant to task i of a node of a graph, when it can (R122, R343, R345). -/
def State.grantOn (s : State) (t g : Nat) (x : GNode) (i : Nat) : Option Grant :=
  match x.image with
  | none => none
  | some l =>
    let hs := s.holdings t
    let eph := match (if x.keyed then s.reservation g x.ephKey i else none) with
      | some r =>
        if r.tile = t ∧ hs.all (fun h => !meets r.first.toNat l.eph (ephFirstOf h.ephWin) (ephCountOf h.ephWin)) then some r.first.toNat else none
      | none => s.ephBase t hs l.eph
    let clear := hs.all (fun h => decide (h.slabWin &&& l.slabs = 0) && decide (h.ringWin &&& l.rings = 0) && decide (h.chWin &&& l.chans = 0))
    match spadBase hs l.window, eph with
    | some b, some e =>
      if clear then some { slabWin := l.slabs, ringWin := l.rings, chWin := l.chans, ephWin := BitVec.ofNat 24 (4096 * e + l.eph),
                           spWin := BitVec.ofNat 64 (l.window * 2 ^ 32 + b) }
      else none
    | _, _ => none

/-- The lowest-numbered FREE resident of a tile. -/
def State.freeOn (s : State) (t : Nat) : Option Nat :=
  ((List.range 8).map (mkHandle t)).find? (fun h => decide ((s.res h).life = .free))

/-! ## The order of tiles (R343) -/

/-- The state of a die (R328). -/
def State.dieState (s : State) (d : Nat) : Nat := (fget (0 : BitVec 4) s.diectl d).toNat

/-- The other tiles by rising distance, the lower id first. -/
def byDistance (h : Nat) : List Nat :=
  (List.range 288).flatMap (fun d => if d = 0 then [] else (if d ≤ h then [h - d] else []) ++ (if h + d < 288 then [h + d] else []))

/-- A build node of the key has still to leave its reservation in the replay under way: a launch that names the key waits for the tiles of that build (R343, R345). -/
def State.building (s : State) (g : Nat) (key : BitVec 16) : Bool :=
  match s.runOf g with
  | none => false
  | some r =>
    let nodes := (s.graph g).nodes
    ((List.range nodes.length).zip nodes).any (fun nx => decide (nx.2.kind = 4) && decide (nx.2.ephKey = key) &&
      decide ((r.node nx.1).st ≠ .done) && decide ((r.node nx.1).st ≠ .failed))

/-- The candidate tiles of a task of a node, in order. -/
def State.candidates (s : State) (g : Nat) (x : GNode) (i : Nat) : List Nat :=
  let hint := if x.hint = 0xFFFF then 16 * i % 288 else x.hint
  let tiles := match (if x.keyed then s.reservation g x.ephKey i else none) with
    | some r => [r.tile]
    | none =>
      if decide (x.kind = 0) && decide (x.ephKey ≠ 0) && s.building g x.ephKey then []
      else if x.hard then [hint]
      else hint :: (byDistance hint).filter (fun t => decide (t / 72 = hint / 72)) ++ (byDistance hint).filter (fun t => decide (t / 72 ≠ hint / 72))
  tiles.filter (fun t => decide (s.dieState (t / 72) = 0))

/-! ## What waits (R342) -/

/-- A task that waits: a saved one, or one to be started. -/
inductive Waiting where
  | saved (t : SavedTask)
  | start (t : TaskRef)
deriving DecidableEq, Repr

def Waiting.graph : Waiting → Nat
  | .saved t => t.ref.graph
  | .start t => t.graph

/-- The rank that a task got in its launch cohort: all ones without one (R12, R41); none while another package has not answered. -/
def State.launchRank (s : State) (g n : Nat) (x : GNode) (ni : BitVec 24) (i : Nat) : Option Word :=
  let hd := x.cohort
  let asid := (s.graph g).asid
  if hd = 0 then some (BitVec.allOnes 64)
  else if hdlPkg hd = s.pkgId then
    match s.cohortOf hd with
    | some k => some (match (s.cohort k).rankOf (launchMember s.pkgId (4096 * g + n) asid ni i) with | some r => BitVec.ofNat 64 r | none => BitVec.allOnes 64)
    | none => some (BitVec.allOnes 64)
  else match s.routs.find? (fun (o : ROut) => decide (o.owner = nodeOwner g n) && decide (o.req.op0 = identBits (4096 * g + n) asid ni 0)) with
    | some o => (match o.status with
        | some .performed => some (BitVec.ofNat 64 (leNat ((o.data.drop (8 * i)).take 8)))
        | some _ => some (BitVec.allOnes 64)
        | none => none)
    | none => some (BitVec.allOnes 64)

/-- The next new task of a running instance at a level: nodes in the order they became ready, tasks in index order. -/
def State.newTask (s : State) (r : RunInst) (level : Nat) : Option TaskRef :=
  if r.inst.level.toNat ≠ level then none
  else
    let g := r.inst.graph
    match r.order.findSome? (fun n => match s.gnode g n with
      | some x => if x.isLaunch && decide ((r.node n).st = .ready) && decide ((r.node n).placed < x.grid) then some (n, x) else none
      | none => none) with
    | none => none
    | some (n, x) =>
      let i := (r.node n).placed
      let ni := instNum r.inst.first r.replay
      match s.launchRank g n x ni i with
      | none => none
      | some rank =>
        some { graph := g, node := n, index := i, replay := r.replay, asid := (s.graph g).asid, nodeInst := ni, level := r.inst.level,
               argBase := x.argBase + s.rebase r, cohort := x.cohort, rank := rank, replayed := false, placedAt := 0, tile := 0 }

/-- Graphs with a new task, in turn after the one that was served last at the level. -/
def State.turnOrder (s : State) (level : Nat) : List RunInst :=
  let last := fget 16384 s.graphTurn level
  (s.running.filter (fun r => decide (last < r.inst.graph))).mergeSort (fun a b => decide (a.inst.graph ≤ b.inst.graph)) ++
  (s.running.filter (fun r => !decide (last < r.inst.graph))).mergeSort (fun a b => decide (a.inst.graph ≤ b.inst.graph))

/-- The first of each graph. -/
def headsOf : List Waiting → List Waiting → List Waiting
  | [], acc => acc.reverse
  | w :: ws, acc => if acc.any (fun v => v.graph == w.graph) then headsOf ws acc else headsOf ws (w :: acc)

/-- The waiting tasks of a level that nothing of their own graph holds back: saved, replayed, new (R342). -/
def State.waitingAt (s : State) (level : Nat) : List Waiting :=
  headsOf ((s.saved.filter (fun t => decide (t.into = none) && decide (t.rest.prio.toNat = level))).map .saved ++
    (s.waitReplay.filter (fun t => decide (t.level.toNat = level))).map .start ++
    (s.turnOrder level).filterMap (fun r => (s.newTask r level).map .start)) []

/-! ## The next action -/

/-- What the Orrery does next. -/
inductive PlaceAct where
  | place (t : TaskRef) (h : Nat) (g : Grant)
  | resume (t : SavedTask) (h : Nat)
  | preempt (h : Nat)
deriving DecidableEq, Repr

/-- The resident of a tile that a task of a level may pre-empt (R344): of the lowest level, the one placed last. -/
def State.victim (s : State) (t level : Nat) : Option Nat :=
  let hs := ((List.range 8).map (mkHandle t)).filter (fun h => decide ((s.res h).life = .active) && decide ((s.res h).prio.toNat < level))
  let at_ : Nat → Nat := fun h => match (s.res h).task with | some x => x.placedAt | none => 0
  hs.foldl (fun (best : Option Nat) (h : Nat) => match best with
    | none => some h
    | some b =>
      if decide ((s.res h).prio.toNat < (s.res b).prio.toNat) || (decide ((s.res h).prio = (s.res b).prio) && decide (at_ b < at_ h)) then some h else best) none

/-- A pre-emption of a lower level is under way on the tile. -/
def State.preempting (s : State) (t level : Nat) : Bool :=
  (List.range 8).any (fun i => let r := s.res (mkHandle t i)
    (r.preempt || decide (r.life = .saving)) && decide (r.life ≠ .free) && decide (r.prio.toNat < level))

/-- What can be done for a waiting task: an action, nothing but waiting for a pre-emption under way, or nothing. -/
inductive Chance where
  | now (a : PlaceAct)
  | later
  | never

/-- Pre-emption on one of the tiles that could grant the rest (R344). -/
def State.tryPreempt (s : State) (tiles : List Nat) (level : Nat) : Chance :=
  match tiles.find? (fun t => s.preempting t level || (s.victim t level).isSome) with
  | none => .never
  | some t =>
    if s.preempting t level then .later
    else match s.victim t level with
      | some h => .now (.preempt h)
      | none => .never

/-- Whether and how a waiting task is placeable (R342 to R345). -/
def State.chance (s : State) (level : Nat) : Waiting → Chance
  | .saved t =>
    if s.dieState (t.tile / 72) ≠ 0 then .never
    else match s.freeOn t.tile with
      | some h => .now (.resume t h)
      | none => s.tryPreempt [t.tile] level
  | .start t =>
    match s.gnode t.graph t.node with
    | none => .never
    | some x =>
      let cs := (s.candidates t.graph x t.index).filterMap (fun c => (s.grantOn c t.graph x t.index).map (fun g => (c, g)))
      match cs.findSome? (fun cg => (s.freeOn cg.1).map (fun h => (h, cg.2))) with
      | some (h, g) => .now (.place t h g)
      | none => s.tryPreempt (cs.map (·.1)) level

/-- The action of a level: none when no waiting task is placeable, so that lower levels are served. -/
def State.actAt (s : State) (level : Nat) : Option (Option PlaceAct) :=
  let cs := (s.waitingAt level).map (s.chance level)
  match cs.findSome? (fun c => match c with | .now a => some a | _ => none) with
  | some a => some (some a)
  | none => if cs.any (fun c => match c with | .later => true | _ => false) then some none else none

/-- The Orrery's next action (R342): the highest level with a placeable task. -/
def State.nextAct (s : State) : Option PlaceAct :=
  match [3, 2, 1, 0].findSome? s.actAt with
  | some a => a
  | none => none

/-! ## Placing -/

/-- A new task takes the resident (R12, R18, R43): windows, start values, its zeroed scratchpad window and slabs, granted slabs empty,
fresh Ephemeris slots invalid (log entry 43). -/
def State.placeOn (s : State) (t : TaskRef) (x : GNode) (h : Nat) (g : Grant) : State :=
  let l := x.image.getD { entry := 0, slabs := 0, rings := 0, chans := 0, eph := 0, window := 0, args := 0, seed := 0 }
  let tl := hTile h
  let lo := (g.spWin.extractLsb' 0 32).toNat
  let n := (g.spWin.extractLsb' 32 32).toNat
  let fresh := !x.keyed || decide (s.reservation t.graph x.ephKey t.index = none)
  let seed := l.seed + BitVec.ofNat 64 t.index
  let set := fun (m : FMap Word) (i : Nat) (v : Word) => fset (0 : Word) m i v
  let idx : Word := BitVec.ofNat 64 t.index
  let sc : SCtx := { SCtx.start.enter (BitVec.ofNat 56 (x.image_ + imageSkip + l.entry.toNat)) with
    sregs := set (set (set (set [] 9 t.argBase) 10 idx) 11 t.cohort) 12 t.rank }
  let r : Resident := { Resident.start with
    life := .loading, task := some { t with placedAt := s.nextId, tile := tl }, asid := t.asid, nodeInst := t.nodeInst, taskNum := BitVec.ofNat 20 t.index,
    prio := t.level, sc := sc, rng := if seed = 0 then 1 else seed, taskIdx := idx, cohort := t.cohort, rank := t.rank, argBase := t.argBase,
    slabWin := g.slabWin, ringWin := g.ringWin, chWin := g.chWin, ephWin := g.ephWin, spWin := g.spWin }
  let s := s.modTile tl (fun y => { y with
    spad := y.spad.filter (fun c => !(decide (lo ≤ c.1) && decide (c.1 < lo + n))),
    slabs := y.slabs.filter (fun c => !g.slabWin.getLsbD (c.1 / 4096)), slabfe := y.slabfe &&& ~~~g.slabWin })
  let s := if fresh then s.invalidateEph tl g.ephWin else s
  ({ s with nextId := s.nextId + 1 } : State).setRes h r

/-- The task leaves the place where it waited. -/
def State.unwait (s : State) (t : TaskRef) (x : GNode) : State :=
  if t.replayed then { s with waitReplay := s.waitReplay.erase t }
  else
    let s := s.modNode t.graph t.node (fun y => { y with placed := y.placed + 1 })
    let id := identBits (4096 * t.graph + t.node) t.asid t.nodeInst 0
    { s with graphTurn := fput s.graphTurn t.level.toNat t.graph,
             routs := s.routs.filter (fun (o : ROut) => !(decide (o.owner = nodeOwner t.graph t.node) && decide (o.req.op0 = id) && decide (x.cohort ≠ 0) &&
               decide (x.grid ≤ t.index + 1))) }

/-- PLACE_TASK (R342, R343): the next action, when it is to place a task. -/
def execPlaceTask (s : State) : Out :=
  match s.nextAct with
  | some (.place t h g) =>
    (match s.gnode t.graph t.node with
     | some x => .next ((s.unwait t x).placeOn t x h g)
     | none => .next s)
  | _ => .next s

/-- RESUME_SAVED_TASK (R43, R45): the next action, when it is to resume a saved task: its windows are written, it is RESTORING. -/
def execResumeSavedTask (s : State) : Out :=
  match s.nextAct with
  | some (.resume t h) =>
    let r : Resident := { Resident.start with
      life := .restoring, task := some { t.ref with placedAt := s.nextId }, asid := t.rest.asid, nodeInst := t.rest.nodeInst,
      taskNum := t.rest.taskNum, prio := t.rest.prio, slabWin := t.slabWin, ringWin := t.ringWin, chWin := t.chWin, ephWin := t.ephWin,
      spWin := t.spWin }
    .next (({ s with nextId := s.nextId + 1, saved := s.saved.map (fun u => if u.area = t.area then { u with into := some h } else u) } : State).setRes h r)
  | _ => .next s

/-- ORRERY_PREEMPT (R312, R344): the next action, when it is a pre-emption. -/
def execOrreryPreempt (s : State) : Out :=
  match s.nextAct with
  | some (.preempt h) => .next (s.modRes h (fun r => { r with preempt := true }))
  | _ => .next s

/-! ## Loading (R12, R436) -/

/-- What a read of an argument word answers. -/
inductive ArgWord where
  | ok (bytes : List Byte)
  | wait
  | bad (f : FaultInfo)

/-- Address of argument word i. -/
def Resident.argAddr (r : Resident) (i : Nat) : Nat := (r.argBase + BitVec.ofNat 64 (8 * i)).toNat

/-- A read of argument word i: a load of path S with the rights of a scalar load (R277, R278). -/
def State.argRead (s : State) (h i : Nat) : ArgWord × State :=
  let r := s.res h
  let va := r.argAddr i
  let o := Owner.task h
  match allBytes (s.recBytes o 0) va 8 with
  | some bs => (.ok bs, s)
  | none =>
    if va % 8 ≠ 0 then (.bad { faultInfo 0x05 8 with va := BitVec.ofNat 64 va }, s)
    else match s.gaccs.find? (fun (g : GAcc) => decide (g.owner = o) && decide (g.dest = .record) && decide (g.va = va)) with
      | some g =>
        (match g.failed with
         | some st => (.bad { remoteFault st g.tgt.peer (s.incOf g.tgt.peer) g.tgt.pa (Config.freeStateUseDetail s.fresh) with
             va := BitVec.ofNat 64 va, flags := 0 }, s)
         | none => (.wait, s))
      | none =>
        match s.kTarget r.asid (s.classOf r.asid) va .load with
        | .error f => (.bad f, s)
        | .ok t =>
          (.wait, (s.markLeaf r.asid va false).pushGacc
            { id := 0, owner := o, path := 0, isStore := false, tgt := t, va := va, asid := r.asid, n := 8, data := [],
              acq := false, rel := false, scope := 0, dest := .record, failed := none, sent := false, combining := false,
              nt := false, iaddr := r.sc.pc, fenced := none, fencedU := none, serial := none, since := 0 })

/-- The eight words, read in order. -/
def State.argReads (s : State) (h : Nat) : List ArgWord × State :=
  (List.range 8).foldl (fun (acc : List ArgWord × State) i => let r := acc.2.argRead h i; (acc.1 ++ [r.1], r.2)) ([], s)

/-- The loads of argument words are over. -/
def State.argsOver (s : State) (h : Nat) : State :=
  let mine := fun (g : GAcc) => decide (g.owner = .task h) && decide (g.dest = .record) && decide (g.path = 0)
  let ids := (s.gaccs.filter mine).map (·.id)
  let rs := fun (o : ROut) => match o.dest with | .access id => ids.contains id | _ => false
  { (s.modRes h (fun r => { r with deferred := r.deferred.filter (fun d => !ids.contains d) })) with
    gaccs := s.gaccs.filter (fun g => !mine g), routs := s.routs.filter (fun o => !rs o) }

/-- s1 to s8 take the words, 0 for those that could not be read. -/
def Resident.takeArgs (r : Resident) (m : FMap Byte) : Resident :=
  { r with sc := (List.range 8).foldl (fun c i =>
      c.set (i + 1) (match allBytes m (r.argAddr i) 8 with | some bs => BitVec.ofNat 64 (leNat bs) | none => 0)) r.sc }

/-- The read of the words is over: the task is ready at its entry, or its scalar program is parked there with s1 to s8 zero (R436). -/
def State.argsDone (s : State) (h : Nat) (ws : List ArgWord) : State :=
  let s := s.argsOver h
  let bad := (List.range 8).filterMap (fun i => match ws[i]? with | some (ArgWord.bad f) => some (i, f) | _ => none)
  match bad with
  | [] =>
    let s := s.modRes h (fun r => ({ r with life := .active } : Resident).takeArgs (s.recBytes (.task h) 0))
    (s.setRec (.task h) 0 []).modRes h (fun r => (r.setEst .s 1).setPrg .s { r.s with park := none })
  | (_, f) :: _ =>
    let mask := bad.foldl (fun a x => a + 2 ^ x.1) 0
    (s.fresh1.modRes h (fun r => { r with life := .active })).parkWith h .s (.args mask) (s.mkRecord h .s f (s.res h).sc.pc)

/-- LOADING_COMPLETE (R43, R436): the argument words of a LOADING resident have been read, or those of one whose read a supervisor has
asked for again. -/
def execLoadingComplete (h : Rh) (s : State) : Out :=
  let k := h.toNat
  let r := s.res k
  let again := match r.s.park with | some p => decide (p.kind = .args 256) && r.est .s == 1 | none => false
  if decide (r.life = .loading) || (decide (r.life = .active) && again) then
    let (ws, s) := s.argReads k
    if ws.any (fun w => match w with | .wait => true | _ => false) then .next s else .next (s.argsDone k ws)
  else .next s

/-! ## Draining (R44, R345, R358) -/

/-- The ranks that a task got at launch are vacated (R41, R44). -/
def State.vacateRanks (s : State) (h : Nat) : State :=
  let r := s.res h
  let s := { s with cohorts := s.cohorts.map (fun kc => (kc.1, { kc.2 with members := kc.2.members.map (fun jm =>
      (jm.1, match jm.2 with | some m => if m.isTask s.pkgId r && m.atLaunch then none else some m | none => none)) })) }
  match r.task with
  | some t =>
    if t.cohort ≠ 0 ∧ hdlPkg t.cohort ≠ s.pkgId ∧ t.rank ≠ BitVec.allOnes 64 then
      s.orrCohort (4096 * t.graph + t.node) 2 t.cohort (identBits (4096 * t.graph + t.node) t.asid t.nodeInst t.index) 1 false
    else s
  | none => s

/-- Retire-all goes to every owner that the task holds sequence state with (R44, R358). -/
def State.retireTask (s : State) (h : Nat) : State :=
  let r := s.res h
  (fkeys r.seqs).foldl (fun s p =>
    let pkg := BitVec.ofNat 10 p
    if pkg = s.pkgId then { s with retires := s.retires ++ [{ src := s.pkgId, asid := r.asid, nodeInst := r.nodeInst, taskNum := r.taskNum, ct := 0 }] }
    else s.sendPacket pkg (.retireAll s.pkgId r.asid r.nodeInst r.taskNum)) s

/-- The slots of a build task's window pass to its graph's reservation (R345). -/
def State.reserve (s : State) (h : Nat) (t : TaskRef) (x : GNode) : State :=
  if x.kind ≠ 4 then s
  else
    let r := s.res h
    let v : Reservation := { graph := t.graph, key := x.ephKey, index := t.index, tile := hTile h, first := r.ephWin.extractLsb' 12 12,
                             count := r.ephWin.extractLsb' 0 12 }
    { s with reservations := v :: s.reservations.filter (fun w => !(decide (w.graph = t.graph) && decide (w.key = x.ephKey) && decide (w.index = t.index))) }

/-- The task's completion is counted on its node (R44, R337). -/
def State.countTask (s : State) (t : TaskRef) (x : GNode) : State :=
  let s := match s.runOf t.graph with
    | some r => if instNum r.inst.first r.replay = t.nodeInst then s.modNode t.graph t.node (fun y => { y with counted := y.counted + 1 }) else s
    | none => s
  s.signalDone x 1

/-- DRAIN (R43, R44): once every store of the task has committed and nothing of it is under way, its ranks, retire-all, its completion;
the holdings are released and the resident is FREE. -/
def execDrain (h : Rh) (s : State) : Out :=
  let k := h.toNat
  let r := s.res k
  if r.life ≠ .draining ∨ !s.drained k then .next s
  else
    let s := (s.vacateRanks k).retireTask k
    let s := match r.task with
      | some t => (match s.gnode t.graph t.node with
          | some x => (s.reserve k t x).countTask t x
          | none => s)
      | none => s
    .next ((s.dropOps k).freeRes k)

/-! ## Replay of lost tasks (R348) -/

/-- TASK_REPLAY (R348): the k-th lost task waits to be placed again from its start; one of a node with NR = 1 is not replayed, its node
fails. -/
def execTaskReplay (k : Nat) (s : State) : Out :=
  match s.lost[k]? with
  | none => .next s
  | some t =>
    let s := { s with lost := s.lost.eraseIdx k }
    match s.gnode t.graph t.node with
    | none => .next s
    | some x =>
      if x.nr then .next ((s.lostRecord t t.tile 0 3).failNode t.graph t.node)
      else .next { s with waitReplay := s.waitReplay ++ [{ t with replayed := true }] }

/-! ## Supervisor writes that wait (R27, R46, R151) -/

/-- An instruction in flight of the resident names a slab that a new window withdraws (R27). -/
def State.slabInFlight (s : State) (h : Nat) (win : BitVec 32) : Bool :=
  let gone := (s.res h).slabWin &&& ~~~win
  s.vops.any (fun v => v.h == h && !v.finished && (match v.space with | .slab z _ _ => gone.getLsbD z | _ => false)) ||
  (match (s.res h).dp with | some d => (match claimOf d.instr with | some z => gone.getLsbD z | none => false) | none => false)

/-- The resident allows a write of a timed register now (R27, R46). While it is RESTORING, a register that comes back from the save area takes the write once it
has. -/
def State.writeOk (s : State) (h : Nat) (w : HeldWrite) : Bool :=
  let r := s.res h
  if w.cr = 0x020 then !s.slabInFlight h (w.value.setWidth 32)
  else if r.life = .restoring then decide (0x020 ≤ w.cr) && decide (w.cr ≤ 0x024)
  else !timedCr w.cr || decide (r.life = .saving) || decide (r.life = .free) ||
    engines.all (fun e => r.est e == 0 || r.est e == 2)

/-- DEFERRED_SUPERVISOR_WRITE (R46, R151): the held writes that may take effect do. -/
def execDeferredSupervisorWrite (h : Rh) (s : State) : Out := .next (s.applyHeld h.toNat (s.writeOk h.toNat))

/-! ## Fence, reset and rejoin of a die (R328, R329) -/

/-- A saved task of a fenced die is context-lost with DETAIL 3 (R45, R316). -/
def State.fenceSaved (s : State) (t : SavedTask) : State :=
  let s := { s with saved := s.saved.filter (fun u => u.area != t.area) }.dropOps (parkedHandle t.area)
  let nr := match s.gnode t.ref.graph t.ref.node with | some x => x.nr | none => false
  (if nr then s else s.lostRecord t.ref t.tile 0 3).loseTask t.ref

/-- A resident of a fenced die becomes FREE; its task is lost (R43, R328, R348). A saved task being restored there is context-lost as any other saved one
(R316). -/
def State.fenceRes (s : State) (h : Nat) : State :=
  let r := s.res h
  if r.life = .free then s
  else
    let s := match s.saved.find? (fun t => decide (t.into = some h)) with
      | some t => s.fenceSaved t
      | none => (match r.task with | some t => s.loseTask t | none => s)
    (s.dropOps h).freeRes h

/-- The fence of a die (R328): what its residents issued goes but for the stores a home has accepted and the requests that stand at a
near-memory engine; its presence bits, walks and reservations go; its residents are FREE and its saved tasks lost. STATE is 1 until the fence is complete, at the next tick. -/
def State.fenceDie (s : State) (d : Nat) : State :=
  let bit : BitVec 4 := 1 <<< d
  let onDie := fun (t : Nat) => decide (t / 72 = d)
  let s := ((List.range 576).map (fun i => mkHandle (72 * d + i / 8) (i % 8))).foldl State.fenceRes s
  let s := (s.saved.filter (fun t => onDie t.tile)).foldl State.fenceSaved s
  { s with directory := (s.directory.map (fun kb => (kb.1, kb.2 &&& ~~~bit))).filter (fun kb => kb.2 != 0),
           walks := s.walks.map (fun w => { w with waiters := w.waiters.filter (fun t => !onDie t) }),
           reservations := s.reservations.filter (fun r => !onDie r.tile),
           tiles := s.tiles.filter (fun kt => !onDie kt.1),
           diectl := fput s.diectl d 1 }

/-- DIECTL written (R329): FENCE in STATE 0 fences the die, REJOIN in STATE 2 starts its reset; both bits, or any other state, change
nothing. -/
def State.writeDiectl (s : State) (d : Nat) (v : Word) : State :=
  let f := v.getLsbD 0
  let r := v.getLsbD 1
  if f && !r && decide (s.dieState d = 0) then s.fenceDie d
  else if r && !f && decide (s.dieState d = 2) then { s with diectl := fput s.diectl d 3 }
  else s

/-- DIECTL_FENCE (R328, R329). -/
def execDiectlFence (die : BitVec 2) (v : BitVec 64) (s : State) : Out := .next (s.writeDiectl die.toNat v)
/-- DIECTL_REJOIN (R329). -/
def execDiectlRejoin (die : BitVec 2) (v : BitVec 64) (s : State) : Out := .next (s.writeDiectl die.toNat v)

/-- DIE_REJOIN_COMPLETE (R328): the die is reset and checked, then rejoined with its caches empty: 3, 4, 0. -/
def execDieRejoinComplete (die : BitVec 2) (s : State) : Out :=
  let d := die.toNat
  if s.dieState d = 3 then .next { s with diectl := fput s.diectl d 4 }
  else if s.dieState d = 4 then .next { s with diectl := fput s.diectl d 0 }
  else .next s

end Sys2Proof.Machine
end

