-- ==== Sys2Proof/Machine/Supervisor.lean ====
section
/-!
DEFINITION. The SUPV group (R150 to R155): registers of residents, resumption (R307), pre-emption and teardown, TLBI, functions on
communicators; the watchdog (R308), fault records written to memory (R305), the restart of a supervisor core (R397).
-/

namespace Sys2Proof.Machine

open Sys2Proof

/-- A supervisor function: legal on a supervisor core alone (R127, R150). -/
def onSupv (i : Instr) (s : State) (k : Nat → Out) : Out :=
  onScalar s (fun w =>
    match w with
    | .sv c => k c
    | .task _ _ => .next (s.illegal w (wordOf i)))

/-- A resident handle: a tile id up to 287, no bit above [11:0] (R150, R151). -/
def handleOk (x : Word) : Bool := decide (x.toNat < 4096) && decide (x.toNat % 512 < 288)

/-- The status of a function in s(d), and the next instruction. -/
def supvResult (c : Nat) (d : BitVec 6) (st : Nat) (s : State) : State := scalarResult (.sv c) d (BitVec.ofNat 64 st) s

/-- A function on a resident: 3 for a bad operand, 2 for a FREE resident, else what it answers (R150). -/
def onResident (c : Nat) (d : BitVec 6) (hd : Word) (ok : Bool) (s : State) (k : Nat → State × Nat) : Out :=
  if !handleOk hd || !ok then .next (supvResult c d 3 s)
  else if (s.res hd.toNat).life = .free then .next (supvResult c d 2 s)
  else
    let r := k hd.toNat
    .next (supvResult c d r.2 r.1)

/-! ## Registers of a resident (R151) -/

/-- A register that a supervisor may write on a resident. -/
def supWritable (n : Nat) : Bool := decide (n = 0x102) || (Resident.start.supWrite 0 n 0).isSome

/-- RDR (R150, R151): state-use for a bad handle or an unassigned number; 0 from a FREE resident. The number is s(b)[13:0]; bits [63:14] are ignored here and
in WRR, which the spec does not say (DESIGN CHOICE, log entry 117). -/
def execRdr (d a b : BitVec 6) (s : State) : Out :=
  onSupv (.rdr d a b) s (fun c =>
    let w := Who.sv c
    let hd := s.sreg w a
    let n := (s.sreg w b).toNat % 16384
    if !handleOk hd then .next (s.stateUse w)
    else match s.resCr hd.toNat true n with
      | none => .next (s.stateUse w)
      | some v => .next (scalarResult w d (if (s.res hd.toNat).life = .free then 0 else v) s))

/-- WRR (R150, R151): status 3 without a write right, 2 from a FREE resident; the write takes effect when R27 and R46 let it, and
s(d) takes 0 then. It never passes an older write to the same register that is still held. -/
def execWrr (d a b : BitVec 6) (s : State) : Out :=
  onSupv (.wrr d a b) s (fun c =>
    let w := Who.sv c
    let hd := s.sreg w a
    let n := (s.sreg w b).toNat % 16384
    let v := s.sreg w d
    let h := hd.toNat
    if !handleOk hd then .next (s.stateUse w)
    else if (s.resCr h true n).isNone then .next (s.stateUse w)
    else if !supWritable n then .next (supvResult c d 3 s)
    else if (s.res h).life = .free then .next (supvResult c d 2 s)
    else if n = 0x102 then .next (supvResult c d 0 (s.modTile (hTile h) (fun x => { x with mgate := mgateValue x.mgate v })))
    else
      let x : HeldWrite := { core := c, reg := d.toNat, value := v, cr := n }
      if s.writeOk h x && !(s.res h).held.any (fun y => y.cr == n) then .next (supvResult c d 0 (s.modRes h (fun r => (r.supWrite s.stamp n v).getD r)))
      else .next ((s.modRes h (fun r => { r with held := r.held ++ [x] })).advance w))

/-! ## Resumption (R152, R307) -/

/-- The request that stands behind an access of a task. -/
def State.accessRout (s : State) (id : Nat) : Option ROut := s.routs.find? (fun o => decide (o.dest = .access id))

/-- A copy program's failed load is made anew: with the translation that the page tables give now (R236). -/
def State.reissueCreg (s : State) (h : Nat) (g : GAcc) : State :=
  let s := match s.accessRout g.id with | some o => s.dropRout o.id | none => s
  match s.kTarget g.asid (s.classOfOwner g.owner) g.va .load with
  | .ok t =>
    ({ s with gaccs := s.gaccs.map (fun x => if x.id = g.id then { x with tgt := t, failed := none, sent := false, since := s.stamp } else x) } : State).markLeaf g.asid g.va false
  | .error f => s.parkWith h .c (.remote g.id) (s.mkRecord h .c f g.iaddr)

/-- A failed operation is sent again as a retransmission, or its access is made again; the program waits for the outcome (R256). -/
def State.retryRemote (s : State) (h : Nat) (e : Eng) (id : Nat) : State :=
  let again := fun (s : State) (o : ROut) => s.resend o { o.req with rt := true }
  let s : State := match s.rout? id with
    | some o => again s o
    | none =>
      match s.gaccs.find? (fun g => g.id == id && (match g.dest with | .creg _ => true | _ => false)) with
      | some g => s.reissueCreg h g
      | none =>
      let sent := (s.accessRout id).isSome
      let s := { s with gaccs := s.gaccs.map (fun (g : GAcc) => if g.id = id then { g with failed := none, sent := sent, since := s.stamp } else g) }
      match s.accessRout id with
      | some o => again s o
      | none => s
  if (s.res h).est e = 2 then s else s.modPrg h e (fun p => { p with wait := some (.outcome id) })

/-- A failed operation is given up: its serial has completed (R256, R356). -/
def State.skipRemote (s : State) (id : Nat) : State :=
  match s.rout? id with
  | some o => (s.serialDone o).dropRout o.id
  | none =>
    let s := match s.accessRout id with | some o => (s.serialDone o).dropRout o.id | none => s
    s.dropGacc id

/-- The requests of a vector access that have failed. -/
def State.laneRouts (s : State) (id : Nat) : List ROut :=
  s.routs.filter (fun o => decide (o.status ≠ none) && (match o.dest with | .lane v _ _ _ => v == id | _ => false))

/-- The failed lanes of a vector access are made again (R184): requests go out again, other lanes issue anew as VECTOR_ACCESS_COMPLETE performs them. -/
def State.retryVop (s : State) (v : VOp) : State :=
  let s := (s.modRes v.h (fun r => r.countUp v.ctr)).modVop v.id (fun u => { u with finished := false, failed := 0, fault := none, todo := v.failed })
  if v.remote then (s.laneRouts v.id).foldl (fun s o => s.resend o { o.req with rt := true }) s else s

/-- The failed lanes are left unchanged; the load has completed, and a port's vector is pushed (R184, R188). -/
def State.skipVop (s : State) (v : VOp) : State :=
  let s := (s.laneRouts v.id).foldl (fun s o => (s.serialDone o).dropRout o.id) s
  let s := if v.load && !v.part then s.modRes v.h (fun r => r.push v.vd) else s
  (s.finishKept v.h (laneKeys v.id)).modVop v.id (fun u => { u with failed := 0, fault := none })

/-- A lane-faulted load that is not retried completes with the lanes performed: its vector is pushed once they are (R188, R307). -/
def State.skipPart (s : State) (h : Nat) : State :=
  match (s.vops.filter (fun v => v.h == h && v.part && decide (v.iaddr = (s.res h).v.pc))).getLast? with
  | some v =>
    let s := if v.finished && decide (v.failed = 0) then s.modRes h (fun r => r.push v.vd) else s
    s.modVop v.id (fun u => { u with part := false })
  | none => s

/-- After a skipped repetition the next one issues, or the instruction after the sequence (R104, R307). -/
def Resident.skipRep (r : Resident) (j n : Nat) : Resident :=
  if n ≤ j + 1 then { r.setRepIdx 0 with rep := 0, lanesDone := 0, v := { r.v with pc := r.v.pc + 8 } }
  else { r.setRepIdx (j + 1) with rep := 0, lanesDone := 0 }

/-- The work that stood part-way is abandoned (R307): what it did stands, its progress registers are cleared, its claim ends; a channel
that it filled stays armed. -/
def State.abandon (s : State) (h : Nat) (e : Eng) : State :=
  match e with
  | .m => s.modRes h (fun r => { r with dp := none, mprog := [] })
  | .c =>
    let s := match (s.res h).xf.bind (·.ch) with
      | some k => s.setChan (hTile h) k { s.chan (hTile h) k with filling := false }
      | none => s
    (s.finishKept h xferKeys).modRes h (fun r => { r with xf := none, cprog := [] })
  | _ => s

/-- What retry leaves for the program to do (R307). -/
def State.retryPark (s : State) (h : Nat) (e : Eng) (p : Park) : State :=
  match p.kind with
  | .lane f => s.modRes h (fun r => { r with lanesDone := f })
  | .rept _ _ f => if f < 128 then s.modRes h (fun r => { r with lanesDone := f }) else s
  | .remote id => s.retryRemote h e id
  | .vector id => (match s.vop? id with | some v => s.retryVop v | none => s)
  | .stream q => s.modRes h (fun r => { r with portFault := fput r.portFault q none })
  | .args _ => (s.setRec (.task h) 0 []).modPrg h e (fun x => { x with park := some { p with kind := .args 256 } })
  | .instr | .pair | .work | .waiting _ => s

/-- A wait that the watchdog stopped is skipped: the scalar program makes a normal step, no register, slot or state changed (R152), a BAR's arrival standing (R42);
a matrix or copy program abandons the instruction or transfer that waits and goes on with the next (R307, any fault); a vector program's wait completes as if its
condition held, with no counter moved and no slot claimed (R308). -/
def State.skipWait (s : State) (h : Nat) (e : Eng) (x : Wait) : State :=
  match e with
  | .s => (match x with | .barrier hd => s.stopBar h hd | _ => s).advance (.task h .s)
  | .v => s.modPrg h .v (fun p => { p with pass := true })
  | .m => if (s.res h).dp.isSome then s.abandon h .m else s.advance (.task h .m)
  | .c => if (s.res h).xf.isSome then s.abandon h .c else s.advance (.task h .c)

/-- What skip does (R152, R307). -/
def State.skipPark (s : State) (h : Nat) (e : Eng) (p : Park) : State :=
  match p.kind with
  | .instr => s.advance (.task h e)
  | .lane _ => ((s.skipPart h).modRes h (fun r => { r with lanesDone := 0 })).advance (.task h e)
  | .rept j n _ => s.modRes h (fun r => r.skipRep j n)
  | .remote id => s.skipRemote id
  | .vector id => (match s.vop? id with | some v => s.skipVop v | none => s)
  | .stream q => (s.finishKept h (portKeys q)).modRes h (fun r =>
      let r := { r with portFault := fput r.portFault q none }
      if stBind (r.stream q) = 2 then r.stored q else r.setStream q (stPut (r.stream q) 448 32 ((stPos (r.stream q)).toNat + 1)))
  | .pair => s.modRes h (fun r => { r.setRepIdx 0 with rep := 0, v := { r.v with pc := r.v.pc + 8 } })
  | .work => s.abandon h e
  | .args _ => (s.modRes h (fun r => r.takeArgs (s.recBytes (.task h) 0))).setRec (.task h) 0 []
  | .waiting x => s.skipWait h e x

/-- RESUME's effect on a parked program of an ACTIVE resident: it is set running (R152); 1 for any other, a resident whose save has begun among them (R317). -/
def State.resume (s : State) (h : Nat) (e : Eng) (skip : Bool) : State × Nat :=
  let r := s.res h
  match (r.prg e).park with
  | some p =>
    if r.est e ≠ 2 ∨ r.life ≠ .active then (s, 1)
    else
      let s := s.modRes h (fun r => (r.setEst e 1).setPrg e { r.prg e with park := none, wait := none, pass := false, blk := 0, bnd := false })
      (if skip then s.skipPark h e p else s.retryPark h e p, 0)
  | none => (s, 1)

/-- RESUME (R150, R152, R307). -/
def execResume (d a b : BitVec 6) (s : State) : Out :=
  onSupv (.resume d a b) s (fun c =>
    let x := s.sreg (.sv c) b
    onResident c d (s.sreg (.sv c) a) (decide (x.toNat < 8)) s (fun h =>
      s.resume h (pathEng (BitVec.ofNat 3 (x.toNat % 4))) (x.getLsbD 2)))

/-! ## Pre-emption and teardown (R153) -/

/-- PREEMPT (R153, R312): a pre-emption request of an ACTIVE resident. -/
def execPreempt (d a : BitVec 6) (s : State) : Out :=
  onSupv (.preempt d a) s (fun c => onResident c d (s.sreg (.sv c) a) true s (fun h =>
    if (s.res h).life = .active then (s.modRes h (fun r => { r with preempt := true }), 0) else (s, 1)))

/-- Supervisor teardown (R43): every program stopped; what is in flight completes (stores, remote operations) or is discarded. -/
def State.teardown (s : State) (h : Nat) : State :=
  let s := (s.abandon h .m).abandon h .c
  let s := s.modRes h (fun r => { engines.foldl (fun r e => (r.setEst e 0).setPrg e { r.prg e with park := none, wait := none }) r with
    life := .draining, preempt := false, deferred := [], pend := [] })
  let mine := fun (o : Owner) => decide (o = .task h)
  let s := { s with
    gaccs := (s.gaccs.filter (fun g => !mine g.owner || (g.isStore && decide (g.failed = none)))).map (fun (g : GAcc) =>
      if mine g.owner then { g with dest := .none } else g),
    routs := s.routs.filter (fun o => !mine o.owner || decide (o.status = none)),
    vops := s.vops.filter (fun v => v.h != h) }
  engines.foldl (fun s e => if s.cur (hTile h) e = some (hRes h) then s.switch (hTile h) e else s) s

/-- TEARDOWN (R153). -/
def execTeardown (d a : BitVec 6) (s : State) : Out :=
  onSupv (.teardown d a) s (fun c => onResident c d (s.sreg (.sv c) a) true s (fun h =>
    if (s.res h).life = .active then (s.teardown h, 0) else (s, 1)))

/-! ## TLBI (R154) -/

/-- The entries that a TLBI names. -/
def tlbiHit (mode : Nat) (asid : BitVec 14) (va : Nat) (x : TlbEntry) : Bool :=
  match mode with
  | 0 => x.covers asid va
  | 1 => decide (x.asid = asid)
  | _ => true

/-- The page-walk cache entries that a TLBI names: tables on the address's walk. -/
def tlbiStale (mode : Nat) (asid : BitVec 14) (va : Nat) (x : PwcEntry) : Bool :=
  match mode with
  | 0 => x.covers asid va
  | 1 => decide (x.asid = asid)
  | _ => true

/-- An access that may have been translated through such an entry; of a page, any of the largest page that may hold it. -/
def tlbiMay (mode : Nat) (asid : BitVec 14) (va : Nat) (a : BitVec 14) (v : Nat) : Bool :=
  match mode with
  | 0 => decide (a = asid) && decide (v / 2 ^ 30 = va / 2 ^ 30)
  | 1 => decide (a = asid)
  | _ => true

/-- The ASID an owner's accesses are translated under. -/
def State.asidOfOwner (s : State) : Owner → BitVec 14
  | .task h => (s.res h).asid
  | .sv c => (s.svc c).sasid
  | .coll c => (s.comm c).asid
  | .orr k => (s.graph (k / 4096)).asid
  | .host _ => 0

/-- An access takes another target. The serial of a store to an SO peer page goes with it to the same owner; toward another one it ends, and a new one is taken (R349, R350). -/
def State.retarget (s : State) (g : GAcc) (t : Target) : State :=
  let put := fun (s : State) (q : Option Serial) => ({ s with gaccs := s.gaccs.map (fun x => if x.id = g.id then { x with tgt := t, serial := q } else x) } : State)
  let n := ({ g with tgt := t } : GAcc).sequenced
  if g.serial.isSome && n && decide (t.peer = g.tgt.peer) then put s g.serial
  else
    let s := match g.serial with
      | some q => (s.outstandingLess g.owner g.tgt.peer).serialOver g.owner g.tgt.peer q
      | none => s
    if n then put (s.takeSeq g.owner t.peer) (some (s.serialOf g.owner (s.seqFor g.owner t.peer).next)) else put s none

/-- Accesses in flight that have not left are translated again, with A and D set as for a new access (R298). -/
def State.retranslate (s : State) (may : BitVec 14 → Nat → Bool) : State :=
  (s.gaccs.filter (fun g => may g.asid g.va && !g.sent && decide (g.failed = none) && decide (g.dest ≠ .flush))).foldl (fun s (g : GAcc) =>
    match s.kTarget g.asid (s.classOfOwner g.owner) g.va (if g.isStore then .store else .load) with
    | .ok t => (s.retarget g t).markLeaf g.asid g.va g.isStore
    | .error _ => s) s

/-- An access that a TLBI waits for: it has left, or its address has no translation any more. -/
def State.tlbiBusy (s : State) (may : BitVec 14 → Nat → Bool) : Bool :=
  s.gaccs.any (fun (g : GAcc) => may g.asid g.va && decide (g.failed = none) && decide (g.dest ≠ .flush) &&
    (g.sent || (match s.kTarget g.asid (s.classOfOwner g.owner) g.va (if g.isStore then .store else .load) with | .ok _ => false | .error _ => true))) ||
  s.routs.any (fun (o : ROut) => decide (o.status = none) && may (s.asidOfOwner o.owner) o.va &&
    (match o.req.op with | .handler _ _ => true | _ => false))

/-- Pinned lines whose page is no longer mapped with APER 1 are released (R324). -/
def State.unpin (s : State) (may : BitVec 14 → Nat → Bool) : State :=
  { s with pinned := s.pinned.filter (fun p => !may p.2.1 p.2.2 ||
      (match (s.walk p.2.1 p.2.2).1 with | .leaf _ e => decide (leafAper e = 1) | .bad _ _ => false)) }

/-- TLBI (R150, R154): status 3 for a bad operand; it completes when nothing in flight uses an entry it names. -/
def execTlbi (d a b : BitVec 6) (s : State) : Out :=
  onSupv (.tlbi d a b) s (fun c =>
    let x := s.sreg (.sv c) a
    let va := (s.sreg (.sv c) b).toNat
    let mode := x.toNat / 16384 % 4
    let asid : BitVec 14 := x.setWidth 14
    if mode = 3 ∨ 65536 ≤ x.toNat ∨ (mode = 2 ∧ asid ≠ 0) then .next (supvResult c d 3 s)
    else
      let may := tlbiMay mode asid va
      let s := (s.tlbInvalidate (tlbiHit mode asid va) (tlbiStale mode asid va)).retranslate may
      if s.tlbiBusy may || s.pathBusy (.sv c) 0 then .next s else .next (supvResult c d 0 (s.unpin may)))

/-! ## Communicators (R155) -/

/-- CRESUME (R155): 3 for no live handle, 1 unless stopped at a translation fault. -/
def execCresume (d a : BitVec 6) (s : State) : Out :=
  onSupv (.cresume d a) s (fun c =>
    match s.commOf (s.sreg (.sv c) a) with
    | none => .next (supvResult c d 3 s)
    | some k =>
      let r := s.collResume k
      .next (scalarResult (.sv c) d r.2 r.1))

/-- CABORT (R155). -/
def execCabort (d a : BitVec 6) (s : State) : Out :=
  onSupv (.cabort d a) s (fun c =>
    match s.commOf (s.sreg (.sv c) a) with
    | none => .next (supvResult c d 3 s)
    | some k => .next (supvResult c d 0 (s.collAbort k)))

/-! ## Watchdog, records, restart -/

/-- The kind that a watchdog record gives for a wait (R302). -/
def waitKind : Wait → Option Nat
  | .ringFree _ _ | .ringFilled _ _ | .ringTail _ _ => some 0
  | .mark _ _ | .held _ _ _ _ => some 1
  | .event _ _ => some 2
  | .counter _ _ | .counterRoom _ => some 3
  | .slabEmpty _ _ | .slabFull _ _ => some 4
  | .portIn _ | .portOut _ => some 5
  | .join => some 6
  | .barrier _ => some 7
  | .outcome _ => none

/-- WATCHDOG (R308): a program not ready on one wait for longer than WDOG, in µs of 2,000 stamp periods, parks. -/
def execWatchdog (h : Rh) (e : Eng) (s : State) : Out :=
  let k := h.toNat
  let p := (s.res k).prg e
  match p.wait with
  | none => .next s
  | some w =>
    match waitKind w with
    | none => .next s
    | some kind =>
      if decide ((s.res k).life = .active) && (s.res k).est e == 1 && decide (s.wdog ≠ 0) && !p.pass && !s.waitHolds k w &&
          decide (2000 * s.wdog.toNat < (s.stamp - p.since).toNat) then
        .next (s.parkWith k e (.waiting w) (s.mkRecord k e (faultInfo 0x32 (BitVec.ofNat 64 kind)) (s.pcOf (.task k e))))
      else .next s

/-- FAULT_RECORD_WRITE (R305, R394): the oldest record that waits at a core's quadrant is written, FQTAIL moves, and the core's MSI-X
vector is raised; not while the queue is full or off (R319). -/
def execFaultRecordWrite (core : BitVec 3) (s : State) : Out :=
  let c := core.toNat
  let x := s.svc c
  match x.waiting with
  | [] => .next s
  | f :: rest =>
    if x.fqsize = 0 ∨ x.fqsize.toNat ≤ (x.fqtail - x.fqhead).toNat then .next s
    else
      let a := x.fqbase.toNat + 64 * (x.fqtail.toNat % x.fqsize.toNat)
      let s := s.commit 3 a (recordBytes f x.nextSeq)
      .next ((s.setSvc c { x with waiting := rest, fqtail := x.fqtail + 1, nextSeq := x.nextSeq + 1 }).raiseMsix c)

/-- SUPERVISOR_RESTART (R310, R397): a stopped core starts again at the runtime's entry. -/
def execSupervisorRestart (core : BitVec 3) (s : State) : Out :=
  let x := s.svc core.toNat
  if !x.stopped then .next s
  else
    let sc := { SCtx.start.enter s.flash.entry with tcause := x.sc.tcause, epc := x.sc.epc }
    .next (s.setSvc core.toNat { x with sc := sc, running := true, stopped := false })

end Sys2Proof.Machine
end

