-- ==== Sys2Proof/Machine/Fabric.lean ====
section
/-!
DEFINITION. The Gleser fabric: codewords, channels and queues of the ports (R382 to R384), packets that arrive, pass on or are lost (R386, R387), the receiving and
the sending side of the transport (R388, R303), replay of codewords and a port that goes down (R383), circuit changes (R389), lane
remapping and telemetry (R390, R391).
-/

namespace Sys2Proof.Machine

open Sys2Proof

/-! ## Ports -/

/-- A port stripes its codewords round-robin over its 64 logical lanes (R380, R382): the lane of codeword n. -/
def codewordLane (p n : Nat) : Nat := 64 * p + n % 64
/-- The codewords that a port has filled: 20 flits each (R382). -/
def Port.codewords (x : Port) : Nat := x.sent / 20
/-- The link header of a codeword (R382): its count modulo 4,096 in [19:8], returned credits in [7:0]. -/
def linkHeader (count : Nat) (credits : BitVec 8) : BitVec 20 := BitVec.ofNat 12 count ++ credits
/-- The payload of a codeword (R382): 20 flits of 256 bits, then the header: 5,140 bits. -/
def codewordPayload (hdr : BitVec 20) (flits : Nat → BitVec 256) : BitVec 5140 :=
  ((List.range 20).foldl (fun (acc : BitVec 5140) i => acc ||| ((flits i).setWidth 5140 <<< (20 + 256 * i))) (hdr.setWidth 5140))
/-- A sent codeword that the replay buffer still holds: one of the last 256 (R383). -/
def Port.replayable (x : Port) (count : BitVec 12) : Bool :=
  decide (((BitVec.ofNat 12 x.codewords - 1) - count).toNat < min 256 x.codewords)

/-- The first packet of a channel in a port's queue. -/
def Port.first (x : Port) (ch : Nat) : Option Packet := x.queue.find? (fun p => decide (payloadVc p.body = ch))

/-- When a channel was last served, counted in flits. -/
def Port.lastServed (x : Port) (ch : Nat) : Nat := fget 0 x.served ch

/-- The channel that a port serves (R384): one that has waited so long that every ready channel is served within 32 flits, the longest waiting first; else the highest
class that holds a flit, its two channels by turns. -/
def Port.channel (x : Port) : Option Nat :=
  let ready := (List.range 8).filter (fun c => (x.first c).isSome)
  let late := ready.filter (fun c => decide (24 ≤ x.sent - x.lastServed c))
  let longest := fun (l : List Nat) => l.foldl (fun (best : Option Nat) c => match best with
    | none => some c
    | some b => if x.lastServed c < x.lastServed b then some c else some b) none
  match longest late with
  | some c => some c
  | none =>
    let top := ready.foldl (fun m c => max m (c / 2)) 0
    longest (ready.filter (fun c => c / 2 == top))

/-- One flit of a channel goes (R384); a packet whose last flit has gone leaves the queue. Channels without a flit have none waiting. -/
def Port.sendFlit (x : Port) (ch : Nat) : Port :=
  match x.first ch with
  | none => x
  | some p =>
    let n := fget 0 x.part ch + 1
    let gone := decide (packetFlits p ≤ n)
    { x with queue := if gone then x.queue.erase p else x.queue,
             part := fput x.part ch (if gone then 0 else n), sent := x.sent + 1,
             served := (List.range 8).map (fun c => (c, if c = ch || (x.first c).isNone then x.sent + 1 else x.lastServed c)) }

/-- A port sends n flits at most. -/
def Port.send : Nat → Port → Port
  | 0, x => x
  | n + 1, x => match x.channel with
    | none => x
    | some c => Port.send n (x.sendFlit c)

/-- A port sends its queue in STATE 2 and 3 (R389): n flits at most. -/
def State.drainPort (s : State) (k n : Nat) : State :=
  let x := s.port k
  if x.state ≠ 2 ∧ x.state ≠ 3 ∨ x.queue = [] then s
  else
    let x' := Port.send (min n x.flits) x
    (s.setPort k x').countOpt (k / 4) 0x40 (x'.sent - x.sent)

/-- Flits a port can send in n stamp periods: 224 in 17 (R382: 64 × 112 × 5,120 / 5,440 Gb/s, 256 bits a flit, 2 GHz). -/
def flitBudget (stamp n : Nat) : Nat := (stamp + n) * 224 / 17 - stamp * 224 / 17

/-- Every port sends for n stamp periods. -/
def State.drainPorts (s : State) (n : Nat) : State :=
  (fkeys s.ports).foldl (fun s k => s.drainPort k (flitBudget s.stamp.toNat n)) s

/-- A port's packets are discarded (R383, R389). -/
def Port.empty (x : Port) (state : BitVec 4) : Port := { x with state := state, queue := [], part := [], fails := [] }

/-- CODEWORD_REPLAY (R383, R391): the codeword of a count that a physical lane brought could not be corrected and is asked for again; one that was
itself a replay has failed once more in a row. -/
def execCodewordReplay (lane : BitVec 12) (again : Replay) (s : State) : Out :=
  let i := lane.toNat
  match s.laneOf i with
  | none => .next s
  | some l =>
    let p := l / 64
    let x := s.port p
    if x.state ≠ 2 ∧ x.state ≠ 3 then .next s
    else
      let s := s.setPort p { x with fails := fput x.fails again.count.toNat (if again.again then fget 0 x.fails again.count.toNat + 1 else 0) }
      .next (({ s with laneCounters := fput s.laneCounters i (fget (0 : BitVec 16) s.laneCounters i + 1) } : State).countOpt (i / 256) 0x41 1)

/-- PORT_DOWN (R383): the replays of one codeword have failed 16 times in a row. -/
def execPortDown (port : BitVec 6) (s : State) : Out :=
  let x := s.port port.toNat
  if x.fails.any (fun kf => decide (16 ≤ kf.2)) then .next (s.setPort port.toNat (x.empty 0)) else .next s

/-- PREP (R389). -/
def execPrep (port : BitVec 6) (v : BitVec 64) (s : State) : Out := .next (s.writePortctl port.toNat v)
/-- ENABLE (R389). -/
def execEnable (port : BitVec 6) (v : BitVec 64) (s : State) : Out := .next (s.writePortctl port.toNat v)

/-- PORT_DRAINED (R389): the queue is empty, or 10 µs have passed since PREP. -/
def execPortDrained (port : BitVec 6) (s : State) : Out :=
  let x := s.port port.toNat
  if x.state = 3 ∧ (x.queue = [] ∨ 20000 ≤ (s.stamp - x.since).toNat) then .next (s.setPort port.toNat (x.empty 4)) else .next s

/-- TRAINING_COMPLETE (R389, R359): PEERPKG and PEERINC are learned, and the transport's incarnation of that package. -/
def execTrainingComplete (port : BitVec 6) (peer : BitVec 10) (inc : BitVec 16) (s : State) : Out :=
  let x := s.port port.toNat
  if x.state ≠ 1 then .next s
  else .next { s.setPort port.toNat { x with state := 2, peerPkg := peer, peerInc := inc, fails := [] } with
    peerInc := fput s.peerInc peer.toNat inc }

/-- LANE_REMAP (R390). -/
def execLaneRemap (v : BitVec 64) (s : State) : Out := .next (s.writeLremap v)
/-- TELEMETRY_LATCH (R391). -/
def execTelemetryLatch (s : State) : Out := .next s.writeTlatch

/-! ## The sending side (R388) -/

/-- A payload as a retransmission carries it: with RT set (R354, R388). -/
def retryBody : Payload → Payload
  | .request q => .request { q with rt := true }
  | .chunk c i n => .chunk { c with rt := true } i n
  | b => b

/-- The packet's operation ends with remote-unreachable; a chunk stops its sender's program with cause remote (R272, R388). -/
def State.packetLost (s : State) (p : Packet) : State :=
  match p.body with
  | .request q => (match s.rout? q.id with
      | some o => if o.status = none then s.remoteFails o .unreachable else s
      | none => s)
  | .chunk ch _ _ => (match s.commByKey (commKey (keyCohort ch.comm) (keyOrdinal ch.comm) ch.sender) with
      | some c => if (s.comm c).run = .running then s.collStop c 6 0 false else s
      | none => s)
  | _ => s

/-- A request whose answer has not come; an arrival at a barrier has its answer before the barrier is complete. -/
def State.unanswered (s : State) (p : Packet) : Bool :=
  match p.body with
  | .request q => (match s.rout? q.id with
      | some o => decide (o.status = none) && !o.busy && (match o.dest with | .barrier _ => decide (o.answer = 0) | _ => true)
      | none => false)
  | _ => false

/-- The entry goes from the pair's list. -/
def State.dropUnacked (s : State) (peer : BitVec 10) (u : Unacked) : State :=
  let x := s.transport peer
  s.setTransport peer { x with unacked := x.unacked.filter (fun v => v.pkt.seq != u.pkt.seq) }

/-- R388: a packet is transmitted again: an unacknowledged one under its sequence, an acknowledged request as a new sequenced packet. -/
def State.transmitAgain (s : State) (peer : BitVec 10) (u : Unacked) (avoid : List Nat) : State :=
  let x := s.transport peer
  let ch := s.choosePort peer avoid
  let p := { u.pkt with body := retryBody u.pkt.body, hop := 0, seq := if u.acked then x.next else u.pkt.seq }
  let v : Unacked := { pkt := p, tries := u.tries + 1, acked := false, since := s.stamp, path := ch.map (·.1), avoid := avoid }
  let rest := x.unacked.filter (fun w => w.pkt.seq != u.pkt.seq)
  let s := if u.acked then s.setTransport peer { x with next := x.next + 1, unacked := rest ++ [v] }
    else s.setTransport peer { x with unacked := x.unacked.map (fun w => if w.pkt.seq = u.pkt.seq then v else w) }
  let s := s.enqueue p avoid
  match ch with
  | some (_, k) => s.countOpt (k / 4) 0x42 1
  | none => s

/-- R388: the packets held back go out while fewer than 8,192 are unacknowledged. -/
def State.sendWaiting (peer : BitVec 10) : Nat → State → State
  | 0, s => s
  | n + 1, s =>
    let x := s.transport peer
    match x.waiting with
    | [] => s
    | b :: bs => if x.open_ < 8192 then State.sendWaiting peer n ((s.setTransport peer { x with waiting := bs }).sendNow peer b) else s

/-- RETRANSMIT_TIMEOUT (R388, R303): the first timeout is 20 µs, each later one 30 µs, from the last transmission or from the
acknowledgement. After the timeout of the seventh transmission the packet is given up. -/
def execRetransmitTimeout (peer : BitVec 10) (seq : BitVec 32) (s : State) : Out :=
  match (s.transport peer).unacked.find? (fun u => u.pkt.seq == seq) with
  | none => .next s
  | some u =>
    if (s.stamp - u.since).toNat < (if u.tries = 1 then 40000 else 60000) then .next s
    else if u.acked && !s.unanswered u.pkt then .next (s.dropUnacked peer u)
    else if 7 ≤ u.tries then
      let s := (s.dropUnacked peer u).packetLost u.pkt
      .next (State.sendWaiting peer (s.transport peer).waiting.length s)
    else .next (s.transmitAgain peer u [])

/-- The package that a path's first hop reaches. -/
def State.firstHop (s : State) (k : Nat) : BitVec 10 :=
  if k < 32 then BitVec.ofNat 10 (32 * pkgGroup s.pkgId + k) else (s.port k).peerPkg

/-- What decides how a packet goes on from a package that it reaches first (R386): the intermediate group still ahead of it there. Paths that go on from the
reporting package alike use the same port there, and so do paths that begin alike; the source does not see the routes of others (DESIGN CHOICE, log entry 96). -/
def State.wayKey (s : State) (dst : BitVec 10) (at_ : Option (BitVec 10)) (e : Nat) : Option (BitVec 10) × Nat × Option (BitVec 5) :=
  let r := s.route (pkgGroup dst) e
  let via := if e = 0 then none else some (routeVia r)
  match at_ with
  | some x => if s.firstHop (routePort r) = x then (some x, 0, if via = some (BitVec.ofNat 5 (pkgGroup x)) then none else via) else (none, routePort r, via)
  | none => (none, routePort r, via)

/-- R387: a route-lost notice of an intermediate package names a packet of the pair: it goes out again at once, leaving out the paths that use the failed port
there. After the last transmission its timeout alone ends it (R388). -/
def State.routeLost (s : State) (peer : BitVec 10) (seq : BitVec 32) (at_ : Option (BitVec 10)) : State :=
  match (s.transport peer).unacked.find? (fun u => u.pkt.seq == seq && !u.acked) with
  | none => s
  | some u =>
    if 7 ≤ u.tries then s
    else
      let same := match u.path with
        | some e => (List.range 9).filter (fun e' => decide (s.wayKey peer at_ e' = s.wayKey peer at_ e))
        | none => []
      s.transmitAgain peer u (same ++ u.avoid)

/-- ROUTE_LOST (R387), where the notice's intermediate package is not told: the paths that begin alike are left out. -/
def execRouteLost (peer : BitVec 10) (seq : BitVec 32) (_port : BitVec 6) (s : State) : Out := .next (s.routeLost peer seq none)

/-- The acknowledgement covers a sequence: cum is the last packet delivered in order, bit i of sel stands for cum + 1 + i. -/
def ackCovers (cum : BitVec 32) (sel : BitVec 64) (seq : BitVec 32) : Bool :=
  decide ((cum - seq).toNat < 2 ^ 31) || (decide ((seq - cum - 1).toNat < 64) && sel.getLsbD (seq - cum - 1).toNat)

/-- What a covered packet tells its sender: a completed-through value has been received by its owner (R357). -/
def State.covered1 (s : State) (peer : BitVec 10) (p : Packet) : State :=
  match p.body with
  | .ack _ asid ni tn ct => s.ackSeen peer asid ni tn ct
  | _ => s

/-- R388: covered packets are held no more; a request that is not answered stays, as acknowledged. -/
def State.ackPackets (s : State) (peer : BitVec 10) (cum : BitVec 32) (sel : BitVec 64) : State :=
  let x := s.transport peer
  let mine := x.unacked.filter (fun u => !u.acked && ackCovers cum sel u.pkt.seq)
  let s := s.setTransport peer { x with unacked := x.unacked.filterMap (fun u =>
    if u.acked || !ackCovers cum sel u.pkt.seq then some u
    else if s.unanswered u.pkt then some { u with acked := true, since := s.stamp }
    else none) }
  State.sendWaiting peer x.waiting.length (mine.foldl (fun s u => s.covered1 peer u.pkt) s)

/-- TRANSPORT_ACK (R388). -/
def execTransportAck (peer : BitVec 10) (cum : BitVec 32) (sel : BitVec 64) (s : State) : Out := .next (s.ackPackets peer cum sel)

/-! ## The receiving side (R388) -/

/-- A packet of a chunk has come, in order: with the last one the chunk is whole (R388). -/
def State.takePart (s : State) (c : Chunk) (i n : Nat) : State :=
  let same := fun (d : Chunk) => decide (d.src = c.src) && decide (d.comm = c.comm) && decide (d.sender = c.sender) && decide (d.serial = c.serial)
  let rest := s.chunkParts.filter (fun d => !same d)
  let whole := match s.chunkParts.find? same with
    | some d => if i = 0 then c else { c with data := d.data ++ c.data, rt := d.rt || c.rt }
    | none => c
  if n ≤ i + 1 then { s with chunkParts := rest, chunks := s.chunks ++ [whole] } else { s with chunkParts := rest ++ [whole] }

/-- A payload that has come to this package. A peer's request carries class 7 (R398). -/
def State.deliver (s : State) (p : Packet) : State :=
  match p.body with
  | .request q => { s with requests := s.requests ++ [{ q with src := p.src, cls := 7 }] }
  | .response r => { s with responses := s.responses ++ [r] }
  | .ack src asid ni tn ct => { s with acks := s.acks ++ [{ src := src, asid := asid, nodeInst := ni, taskNum := tn, ct := ct }] }
  | .retireAll src asid ni tn => { s with retires := s.retires ++ [{ src := src, asid := asid, nodeInst := ni, taskNum := tn, ct := 0 }] }
  | .chunk c i n => s.takePart c i n
  | .credit c _ => { s with creditMsgs := s.creditMsgs ++ [c] }
  | .barrierPassed id => s.modRout id (fun o => { o with status := some .performed })
  | .eventCount hd c st set cancel => s.peerCount hd c st set cancel
  | .tack cum sel => s.ackPackets p.src cum sel
  | .routeLost dst seq _ sequenced => if sequenced then s.routeLost dst seq (some p.src) else s

/-- The packets that came early and follow on are delivered. -/
def State.takeEarly (src : BitVec 10) : Nat → State → State
  | 0, s => s
  | n + 1, s =>
    let x := s.transport src
    match x.early.find? (fun p => p.seq == x.expected) with
    | none => s
    | some p =>
      State.takeEarly src n ((s.setTransport src { x with expected := x.expected + 1,
                                                          early := x.early.filter (fun q => q.seq != p.seq) }).deliver p)

/-- The cumulative acknowledgement with its bitmap, to the sender. -/
def State.sendAck (s : State) (dst : BitVec 10) : State :=
  let x := s.transport dst
  let sel : BitVec 64 := (List.range 64).foldl (fun b i =>
    if x.early.any (fun p => decide (p.seq = x.expected + BitVec.ofNat 32 i)) then b ||| ((1 : BitVec 64) <<< i) else b) 0
  s.sendLoose dst (.tack (x.expected - 1) sel)

/-- A sequenced packet for this package: in order it is delivered, with those that came early; early it is held, up to 8,192; otherwise it
is discarded. -/
def State.receive (s : State) (p : Packet) : State :=
  let x := s.transport p.src
  let d := (p.seq - x.expected).toNat
  let s :=
    if d = 0 then
      State.takeEarly p.src x.early.length ((s.setTransport p.src { x with expected := x.expected + 1 }).deliver p)
    else if d < 2 ^ 31 ∧ d ≤ 8192 ∧ x.early.length < 8192 ∧ !x.early.any (fun q => q.seq == p.seq) then
      s.setTransport p.src { x with early := x.early ++ [p] }
    else s
  s.sendAck p.src

/-- The exit port of a packet for another package, which follows the minimal path toward its intermediate group and then toward its
destination (R386), and the packet as it goes on. -/
def State.onward (s : State) (p : Packet) : Option Nat × Packet :=
  let mine := BitVec.ofNat 5 (pkgGroup s.pkgId)
  let via := match p.via with
    | some g => if g = mine then none else some g
    | none => none
  let q := { p with via := via, hop := p.hop + 1 }
  let g := match via with | some g => g.toNat | none => pkgGroup p.dst
  if g = pkgGroup s.pkgId then (some (pkgMember p.dst), q)
  else
    let e := s.route g 0
    (if routeValid e then some (routePort e) else none, q)

/-- R387: a packet whose onward port is not up is dropped, and its source told. -/
def State.forward (s : State) (p : Packet) : State :=
  let (port, q) := s.onward p
  let up := match port with | some k => decide ((s.port k).state = 2) | none => false
  match port with
  | some k =>
    if up then s.setPort k { s.port k with queue := (s.port k).queue ++ [q] }
    else (s.countOpt (k / 4) 0x43 1).sendLoose p.src (.routeLost p.dst p.seq (BitVec.ofNat 6 k) p.sequenced)
  | none => s

/-- PACKET_ARRIVAL (R386 to R388): a packet comes in over the fabric; one for another package goes on. -/
def execPacketArrival (p : Packet) (s : State) : Out :=
  if p.src = s.pkgId then .next s
  else if p.dst ≠ s.pkgId then .next (s.forward p)
  else if p.sequenced then .next (s.receive p)
  else .next (s.deliver p)

end Sys2Proof.Machine
end

