-- ==== Sys2Proof/Machine/Platform.lean ====
section
/-!
DEFINITION. The platform: requests of the host (R290, R394), boot and package reset (R395, R359, R25), the trusted calls (R396, R397),
register writes as events (R3, R324, R402, R404), power steps (R402), errors and retirement (R325, R397, R403), the mesh (R327).
-/

namespace Sys2Proof.Machine

open Sys2Proof

/-! ## Host requests (R290, R392, R394) -/

/-- The physical address a BAR gives an offset (R392). -/
def barAddr (bar0 : Bool) (off : Nat) : Nat := if bar0 then Config.cfgBase + off else off

/-- Every byte of a request has a target that accepts it (R394, R399). -/
def State.hostOk (s : State) (cls a n : Nat) (acc : Acc) : Bool := (List.range n).all (fun i => s.targetOk cls (a + i) acc)

def hostClass (port : Bool) : Nat := if port then 1 else 0

/-- A port's PCIe function (R392): function 0, the sizes of BAR0 and BAR2, the Device Serial Number, the id and byte 0 of the Nysor DVSEC, the MSI-X vectors. -/
structure HostFunction where
  number : Nat
  bar0 : Nat
  bar2 : Nat
  serial : BitVec 64
  dvsecId : BitVec 16
  dvsecByte0 : Byte
  vectors : Nat
deriving DecidableEq, Repr

/-- Both ports present the same function; the DVSEC tells them apart (R392). -/
def hostFunction (port : Bool) : HostFunction :=
  { number := 0, bar0 := 2 ^ 24, bar2 := 2 ^ 40, serial := Config.deviceSerial, dvsecId := 0x0001, dvsecByte0 := if port then 1 else 0, vectors := 64 }

/-- The naturally aligned 8-byte pieces of n bytes at a: address and length (R275). -/
def hostPieces (a n : Nat) : List (Nat × Nat) :=
  if n = 0 then [] else
    (List.range ((a + n - 1) / 8 - a / 8 + 1)).map (fun k =>
      let lo := max a (8 * (a / 8 + k))
      (lo, min (a + n) (8 * (a / 8 + k) + 8) - lo))

/-- A piece of a host request, an access of path H (R275, R290). Writes with Relaxed Ordering clear commit in arrival order, as accesses to SO pages do; the pieces of
one request have its number in common. -/
def State.hostAcc (s : State) (port store ro : Bool) (a : Nat) (bs : List Byte) (n : Nat) (dest : Dest) : GAcc :=
  { id := 0, owner := .host port, path := 6, isStore := store, tgt := { aper := 0, pa := a, peer := 0, kind := if ro then 1 else 0 }, va := a, asid := 0, n := n,
    data := bs, acq := false, rel := false, scope := 0, dest := dest, failed := none, sent := false, combining := false, nt := false,
    iaddr := BitVec.ofNat 56 s.nextId, fenced := none, fencedU := none, serial := none, since := 0 }

/-- HOST_WRITE (R290, R394): a posted write is accepted, and commits as path H may; one that is refused is discarded and logged. Before step 6 of the boot the ports are not
enabled (R395). -/
def execHostWrite (port bar0 : Bool) (pa : BitVec 40) (bytes : List (BitVec 8)) (ro : Bool) (s : State) : Out :=
  let a := barAddr bar0 pa.toNat
  if !s.booted then .next s
  else if !s.hostOk (hostClass port) a bytes.length .store then .next { s with aer := s.aer + 1 }
  else .next ((hostPieces a bytes.length).foldl (fun x p =>
    x.pushGacc (s.hostAcc port true ro p.1 ((bytes.drop (p.1 - a)).take p.2) p.2 .none)) s)

/-- HOST_READ (R290, R394): its pieces are loads of path H, which wait for the earlier writes of the port; a refused read, or one of a poisoned line, gives no bytes. -/
def execHostRead (port bar0 : Bool) (pa : BitVec 40) (n : Nat) (s : State) : Out :=
  let a := barAddr bar0 pa.toNat
  if !s.booted then .next s
  else if !s.hostOk (hostClass port) a n .load then .next { s with hostReads := s.hostReads ++ [[]] }
  else .next ((hostPieces a n).foldl (fun x p => x.pushGacc (s.hostAcc port false false p.1 [] p.2 (.host s.hostReads.length (p.1 - a))))
    { s with hostReads := s.hostReads ++ [List.replicate n 0] })

/-- The width of the handlers a host AtomicOp may use (R258, R394). -/
def hostAtomicWidth (h : Nat) : Nat :=
  if h = 19 then 16 else if h = 0 ∨ h = 15 ∨ h = 17 then 4 else if h = 1 ∨ h = 16 ∨ h = 18 then 8 else 0

/-- HOST_ATOMIC (R394): performed at the home by its fixed handler, with no serial; the old value goes to the host. -/
def execHostAtomic (port : Bool) (pa : BitVec 40) (h : BitVec 5) (op0 op1 : BitVec 128) (s : State) : Out :=
  let a := pa.toNat
  let w := hostAtomicWidth h.toNat
  -- a write of the same port to the same bytes comes first (R280)
  let waits := s.gaccs.any (fun g => decide (g.owner = .host port) && g.isStore && decide (g.tgt.pa < a + w) && decide (a < g.tgt.pa + g.n))
  if !s.booted || waits || decide (fget none s.hruns (homeSlice a) ≠ none) then .next s
  else if w = 0 ∨ a % w ≠ 0 ∨ !s.targetOk (hostClass port) a .atomic ∨ s.poisoned a w then .next { s with hostReads := s.hostReads ++ [[]] }
  else
    let m := memNat s.mem a w
    let r := fixedHandler h.toNat w m op0.toNat op1.toNat
    let s := if r.1 = m then s else s.commit 6 a (leBytes w r.1)
    .next { s with hostReads := s.hostReads ++ [leBytes w r.2] }

/-! ## Boot and reset (R395) -/

/-- A supervisor core as boot starts it: its start values (R318) at the runtime's entry. -/
def bootCore (f : BootImage) : SvCore :=
  { SvCore.start with sc := SCtx.start.enter f.entry, running := true, sasid := f.sasid }

/-- INC wraps from 65,535 to 1 (R359). -/
def nextInc (x : BitVec 16) : BitVec 16 := if x = 0xFFFF then 1 else x + 1

/-- The actions of boot (R395, R359): measurements, INC, empty Afterglow caches and floor tables, the access tables, the runtime's memory, the ASID entry of SASID, the
runtime's registers, the supervisor cores, the dies, the ports. -/
def State.bootActions (s : State) : State :=
  let f := s.flash
  { s with
    measures := (List.range 8).map (fun i => (i, Config.measurement (s.fresh + i))),
    fresh := s.fresh + 8,
    inc := nextInc s.inc, afterglow := [], floors := [],
    rights := f.rights,
    mem := memWrite (f.cells.foldl (fun m ab => if ab.1 < Config.hbmEnd then memSet m ab.1 ab.2 else m) s.mem) (f.atbase.toNat + 16 * f.sasid.toNat) (leBytes 16 f.sasidEntry.toNat),
    atbase := f.atbase, svpool := f.svpool, svpooln := f.svpooln,
    svs := (List.range 8).map (fun c => (c, bootCore f)),
    diectl := [], booted := true }

/-- The boot sequence (R395): an image that fails verification halts it, which is reported over I3C. -/
def State.tryBoot (s : State) : State := if s.flash.signed then s.bootActions else { s with i3cReport := true }

/-- BOOT (R395). -/
def execBoot (s : State) : Out := if s.booted then .next s else .next s.tryBoot

/-- What a package reset leaves (R25, R359): the state of reset, with the flash, the package id, INC and the model's own counters. -/
def State.afterReset (s : State) : State :=
  { State.reset with agenda := s.agenda, nextId := s.nextId, fresh := s.fresh, pkgId := s.pkgId, inc := s.inc, flash := s.flash }

/-- PACKAGE_RESET (R25, R359): the Firmament starts again, and boot follows. -/
def execPackageReset (s : State) : Out := .next s.afterReset.tryBoot

/-! ## Trusted calls (R396) -/

/-- Argument i of a core's call. -/
def SvCore.callArg (x : SvCore) (i : Nat) : Word :=
  BitVec.ofNat 64 (leNat ((List.range 8).map (fun b => fget (0 : Byte) x.mailbox (8 + 8 * i + b))))

/-- The call a core's mailbox holds, when one is under way. -/
def SvCore.call (x : SvCore) : Option Nat :=
  if fget (0 : Byte) x.mailbox 40 = 0xFF then some (fget (0 : Byte) x.mailbox 0).toNat else none

/-- A call completes with a status: 0 done, 1 refused, 2 bad argument. -/
def State.endCall (s : State) (core : Nat) (st : Byte) : State :=
  s.modSvc core (fun x => { x with mailbox := fset (0 : Byte) x.mailbox 40 st })

/-- A core's call of a given code: its arguments, and the state with its status as k answers. -/
def onCall (core : BitVec 3) (code : Nat) (s : State) (k : (Nat → Nat) → State × Byte) : Out :=
  let x := s.svc core.toNat
  if x.call = some code then
    let (s', st) := k (fun i => (x.callArg i).toNat)
    .next (s'.endCall core.toNat st)
  else .next s

/-- The check of one handler word at index i of n (R111, R259, R262), for width w. -/
def handlerWordOk (w i n : Nat) (x : BitVec 32) : Bool :=
  let f := fun (lo k : Nat) => (x.extractLsb' lo k).toNat
  let imm := f 0 16
  let pair := decide (w ≠ 16) || (decide (f 20 4 % 2 = 0) && decide (f 20 4 ≤ 14))
  match f 28 4 with
  | 0 => decide (f 0 28 = 0)
  | 1 => decide (f 16 4 = 0)
  | 2 => decide (f 24 4 = 0)
  | 3 => decide (f 20 4 ≤ 1) && decide (f 16 4 = 0)
  | 4 => true
  | 9 => decide (f 8 12 = 0)
  | 10 => decide (f 1 15 = 0)
  | 11 => decide (f 3 13 = 0) && decide (f 0 3 ≤ 5)
  | 13 => decide (f 16 4 = 0) && decide (f 24 4 ≤ 2) && decide (1 ≤ imm) && decide (i + imm < n)
  | 14 => decide (f 0 20 = 0) && decide (f 24 4 = 0) && pair
  | 15 => decide (f 0 20 = 0) && decide (f 24 4 = 0) && pair
  | _ => decide (imm = 0)

/-- The check of a handler image (R111, R259). -/
def handlerImageOk (w : Nat) (l : List (BitVec 32)) : Bool :=
  decide (14 ≤ (l.getLast?.getD 0).extractLsb' 28 4) &&
  ((List.range l.length).zip l).all (fun ix => handlerWordOk w ix.1 l.length ix.2)

/-- A run of the slot's program is under way (R259). -/
def State.slotRuns (s : State) (slot : Nat) : Bool :=
  s.hruns.any (fun kr => match kr.2 with
    | some r => (match r.req.op with | .handler h _ => decide (h.toNat = slot) | _ => false)
    | none => false)

/-- LOAD_HANDLER_SLOT (R259, R396): slot, W, image address, word count. -/
def execLoadHandlerSlot (core : BitVec 3) (s : State) : Out :=
  let slot := ((s.svc core.toNat).callArg 0).toNat
  if s.slotRuns slot then .next s
  else onCall core 1 s (fun arg =>
    let w := arg 1
    let a := arg 2
    let n := arg 3
    if !within slot 24 31 || !(w == 4 || w == 8 || w == 16) || !within n 1 64 || !decide (a + 4 * n ≤ Config.hbmEnd) then (s, 2)
    else
      let l := (List.range n).map (fun i => BitVec.ofNat 32 (memNat s.mem (a + 4 * i) 4))
      if s.poisoned a (4 * n) || !handlerImageOk w l then (s, 1)
      else ({ s with hslots := fput s.hslots slot { w := w, prog := l } }, 0))

/-- WRITE_ASID_ENTRY (R292, R396): ASID, entry bits 63:0, bits 127:64. -/
def execWriteAsidEntry (core : BitVec 3) (s : State) : Out :=
  onCall core 2 s (fun arg =>
    if 16384 ≤ arg 0 then (s, 2)
    else (s.commit 2 (s.atbase.toNat + 16 * arg 0) (leBytes 8 (arg 1) ++ leBytes 8 (arg 2)), 0))

/-- A rights nibble replaced (R398). -/
def setNibble (v : BitVec 256) (cls n : Nat) : BitVec 256 :=
  (v &&& ~~~((0xF : BitVec 256) <<< (4 * cls))) ||| (BitVec.ofNat 256 (n % 16) <<< (4 * cls))

/-- WRITE_ACCESS_RIGHT (R396, R399): target, master class, rights nibble. -/
def execWriteAccessRight (core : BitVec 3) (s : State) : Out :=
  onCall core 3 s (fun arg =>
    if 86 < arg 0 ∨ 63 < arg 1 ∨ 15 < arg 2 then (s, 2)
    else ({ s with rights := fput s.rights (arg 0) (setNibble (fget rightsStart s.rights (arg 0)) (arg 1) (arg 2)) }, 0))

/-- FENCE_DIE_CALL (R328, R396). -/
def execFenceDieCall (core : BitVec 3) (s : State) : Out :=
  onCall core 4 s (fun arg =>
    if 3 < arg 0 then (s, 2) else if s.dieState (arg 0) ≠ 0 then (s, 1) else (s.writeDiectl (arg 0) 1, 0))

/-- REJOIN_DIE_CALL (R329, R396). -/
def execRejoinDieCall (core : BitVec 3) (s : State) : Out :=
  onCall core 5 s (fun arg =>
    if 3 < arg 0 then (s, 2) else if s.dieState (arg 0) ≠ 2 then (s, 1) else (s.writeDiectl (arg 0) 2, 0))

/-- WRITE_LLCPIN (R324, R396): quadrant, value. -/
def execWriteLlcpin (core : BitVec 3) (s : State) : Out :=
  onCall core 6 s (fun arg => if 3 < arg 0 then (s, 2) else (s.writeLlcpin (arg 0) (BitVec.ofNat 64 (arg 1)), 0))

/-- A 64 KiB region is retired (R325). -/
def State.retireRegion (s : State) (g : Nat) : State := if s.retired.contains g then s else { s with retired := s.retired ++ [g] }

/-- RETIRE_HBM_REGION (R325, R396): the physical address of a 64 KiB region. -/
def execRetireHbmRegion (core : BitVec 3) (s : State) : Out :=
  onCall core 7 s (fun arg =>
    if arg 0 % 65536 ≠ 0 ∨ Config.hbmEnd ≤ arg 0 then (s, 2) else (s.retireRegion (arg 0 / 65536), 0))

/-- SET_MASTER_CLASS (R396, R398): ASID, class 8 to 63. -/
def execSetMasterClass (core : BitVec 3) (s : State) : Out :=
  onCall core 8 s (fun arg =>
    if 16384 ≤ arg 0 ∨ !within (arg 1) 8 63 then (s, 2) else ({ s with classes := fput s.classes (arg 0) (BitVec.ofNat 6 (arg 1)) }, 0))

/-! ## Register writes -/

/-- REGISTER_WRITE (R3): a 64-bit write of a configuration register by a master class. -/
def execRegisterWrite (cls : BitVec 6) (off : BitVec 24) (v : BitVec 64) (s : State) : Out :=
  let c := cls.toNat
  let o := off.toNat / 8 * 8
  if !s.targetOk c (Config.cfgBase + o) .store || (decide (c ≤ 1) && !s.booted) then .next s
  else if 0x1000 ≤ o ∧ o < 0x1100 ∧ o % 0x40 = 0 then .next (s.writeDiectl ((o - 0x1000) / 0x40) v)
  else .next (s.cfgWrite c o (leBytes 8 v.toNat))

/-- LLCPIN_WRITE (R324). -/
def execLlcpinWrite (q : BitVec 2) (v : BitVec 64) (s : State) : Out := .next (s.writeLlcpin q.toNat v)

/-- DVFS_WRITE (R402): classes 2 and 3. -/
def execDvfsWrite (cls : BitVec 6) (die : BitVec 2) (v : BitVec 64) (s : State) : Out :=
  if s.targetOk cls.toNat (Config.cfgBase + 0x3000 + 0x40 * die.toNat) .store then .next (s.writeDvfs die.toNat v) else .next s

/-- COUNTER_CTL_WRITE (R404). -/
def execCounterCtlWrite (off : BitVec 24) (v : BitVec 64) (s : State) : Out :=
  if counterExists off.toNat && decide (off.toNat % 16 = 0) then .next (s.writeCounter off.toNat v) else .next s

/-- POWER_CAP_STEP (R402): the average power is above PCAP; the die goes one step lower. -/
def execPowerCapStep (die : BitVec 2) (watts : Nat) (s : State) : Out :=
  let x := fget (20 : BitVec 5) s.dvfs die.toNat
  if watts ≤ s.pcap.toNat ∨ x.toNat ≤ 12 then .next s else .next { s with dvfs := fput s.dvfs die.toNat (x - 1) }

/-! ## Errors (R325, R397, R403) -/

/-- What of a program reads data next, and its instruction's address: the operation under way, or the instruction at the pc. -/
def State.reading (s : State) (w : Who) : Option (ParkKind × Addr) :=
  match w with
  | .sv c => if (s.svc c).running && !(s.svc c).stopped then some (.instr, s.pcOf w) else none
  | .task h e =>
    let r := s.res h
    if r.life ≠ .active ∨ r.est e ≠ 1 ∨ (r.prg e).park ≠ none ∨ (r.prg e).wait ≠ none ∨ s.cur (hTile h) e ≠ some (hRes h) then none
    else match e with
      | .s => if r.sc.a0 then none else some (.instr, s.pcOf w)
      | .v => if r.rep = 0 ∧ r.lanesDone = 0 then some (.instr, s.pcOf w) else none
      | .m => (match r.dp with | some d => some (.work, d.iaddr) | none => some (.instr, s.pcOf w))
      | .c => (match r.xf with | some x => some (.work, x.iaddr) | none => some (.instr, s.pcOf w))

/-- Memory-error on data that a program reads (R302, R403). -/
def State.dataError (s : State) (w : Who) (k : ParkKind) (ia : Addr) (pa va : Word) : State :=
  match w with
  | .task h e => s.parkWith h e k (s.mkRecord h e { faultInfo 0x31 pa with va := va } ia)
  | .sv c => s.svFault c 0x31 va

/-- UNCORRECTABLE_ERROR (R325, R403): a line of HBM is poisoned; an error in a die's control state fences the die; one in
other data raises memory-error at the program that reads it. -/
def execUncorrectableError (e : ErrorPlace) (s : State) : Out :=
  match e with
  | .line n => if n < Config.hbmEnd / 64 ∧ !s.poison.contains n then .next { s with poison := s.poison ++ [n] } else .next s
  | .die d => if s.dieState d.toNat = 0 then .next (s.fenceDie d.toNat) else .next s
  | .data p e pa va =>
    let saving : Bool := match p with | .task h => decide ((s.res h.toNat).life = .saving) | .sv _ => false
    if saving then .next (match p with | .task h => s.contextLost h.toNat 1 | .sv _ => s)
    else
    let w := match p with | .task h => Who.task h.toNat e | .sv c => Who.sv c.toNat
    match s.reading w with
    | some (k, ia) => .next (s.dataError w k ia pa va)
    | none => .next s

/-- PATROL_SCRUB (R403): a visited line is clean (0), has a corrected error (1), which its region and its quadrant count, or an
uncorrectable one (2). -/
def execPatrolScrub (line : Nat) (err : BitVec 2) (s : State) : Out :=
  if Config.hbmEnd / 64 ≤ line then .next s
  else match err.toNat with
    | 1 =>
      let g := line / 1024
      .next (({ s with corrected := fput s.corrected g (fget 0 s.corrected g + 1) } : State).countQuad (line * 64 / 0x3000000000) 0x25 1)
    | 2 => if s.poison.contains line then .next s else .next { s with poison := s.poison ++ [line] }
    | _ => .next s

/-- REGION_RETIREMENT (R397): 64 corrected errors in a 64 KiB region. -/
def execRegionRetirement (region : Nat) (s : State) : Out :=
  if fget 0 s.corrected region < 64 then .next s else .next (s.retireRegion region)

/-! ## The mesh (R321, R326, R327) -/

/-- The home stack of an address (R321). -/
def homeStack (pa : Nat) : Nat :=
  let q := pa / 0x3000000000
  3 * q + (pa - 0x3000000000 * q) / 65536 % 3

/-- The mesh router of slice i of quadrant q (R321). -/
def meshRouter (q i : Nat) : Nat × Nat := (4 * (q % 2) + i % 4, 4 * (q / 2) + i / 4)
/-- The router of a home slice, numbered 16 q + i. -/
def sliceRouter (sl : Nat) : Nat × Nat := meshRouter (sl / 16) (sl % 16)
/-- A request of a die enters at the router of its quadrant whose local position is the target slice's number (R321). -/
def entryRouter (die sl : Nat) : Nat × Nat := meshRouter die (sl % 16)

/-- Directions of a router's links; link 4 × (8 y + x) + direction leaves router (x, y), which is the model's numbering (DESIGN CHOICE, log entry 103). -/
inductive MeshDir where
  | west | east | south | north
deriving DecidableEq, Repr

def MeshDir.code : MeshDir → Nat
  | .west => 0
  | .east => 1
  | .south => 2
  | .north => 3

def meshLink (at_ : Nat × Nat) (d : MeshDir) : Nat := 4 * (8 * at_.2 + at_.1) + d.code

/-- Directions that bring a packet nearer: dimension order takes x first (R326). -/
def meshNearer (at_ dst : Nat × Nat) : List MeshDir :=
  (if dst.1 < at_.1 then [.west] else if at_.1 < dst.1 then [.east] else []) ++
  (if dst.2 < at_.2 then [.south] else if at_.2 < dst.2 then [.north] else [])

/-- The link a packet takes on from a router: dimension order, x first (R326); once a link is fenced every router follows its alternate table, which obeys the west-first
turn model (R327): west before all else, then any other direction that brings it nearer over a link not fenced (which of two is DESIGN CHOICE, log entry 103). -/
def State.meshNext (s : State) (at_ dst : Nat × Nat) : Option MeshDir :=
  if s.meshFenced = [] then (meshNearer at_ dst).head?
  else if dst.1 < at_.1 then some .west
  else (meshNearer at_ dst).find? (fun d => !s.meshFenced.contains (meshLink at_ d))

/-- FLIT_RETRY (R327): a double-bit error; again says that the flit had been asked for already. -/
def execFlitRetry (link : BitVec 8) (again : Bool) (s : State) : Out :=
  let k := link.toNat
  .next { s with meshRetry := fput s.meshRetry k (if again then fget 0 s.meshRetry k + 1 else 1) }

/-- LINK_FENCE (R327): 16 consecutive retries; every router switches to its alternate table, and the security core is notified. -/
def execLinkFence (link : BitVec 8) (s : State) : Out :=
  let k := link.toNat
  if fget 0 s.meshRetry k < 16 ∨ s.meshFenced.contains k then .next s else .next { s with meshFenced := s.meshFenced ++ [k], meshNotes := s.meshNotes ++ [k] }

end Sys2Proof.Machine
end

