-- ==== Sys2Proof/Machine/Interlock.lean ====
section
/-!
DEFINITION. Interlocks (R94, R106, R123, R124, R196, R227, R238, R281, R287): whether the instruction at issue must stall. A stall is no
wait: it ends no block, and the instruction issues at a later turn. The datapath's and the transfers' own interlocks stand in
their meanings.
-/

namespace Sys2Proof.Machine

open Sys2Proof

/-- The scalar registers that an instruction reads or writes (R92, R148, R238, R252). -/
def scalarUses (i : Instr) : List (BitVec 6) :=
  match i with
  | .add d a b | .sub d a b | .and d a b | .or d a b | .xor d a b | .shl d a b | .shr d a b | .sra d a b | .slt d a b | .sltu d a b
  | .mul d a b | .mulh d a b | .mulhu d a b | .div d a b | .divu d a b | .rem d a b | .remu d a b | .min d a b | .max d a b
  | .minu d a b | .maxu d a b => [d, a, b]
  | .clz d a | .ctz d a | .popc d a => [d, a]
  | .addi d a _ | .andi d a _ | .ori d a _ | .xori d a _ | .slti d a _ | .sltiu d a _ | .muli d a _ => [d, a]
  | .shli d a _ | .shri d a _ | .srai d a _ => [d, a]
  | .lui d _ | .addpc d _ => [d]
  | .lds _ d a _ | .sts _ d a _ | .ldg _ d a _ | .stg _ d a _ => [d, a]
  | .ldsZ d a _ | .ldgZ d a _ => [d, a]
  | .ldgAcq d a _ _ | .ldgAcqZ d a _ _ | .stgRel d a _ _ => [d, a]
  | .amo d a b _ _ => [d, a, b]
  | .red a b _ _ => [a, b]
  | .amoq d a b _ _ => [d, d + 1, a, b, b + 1]
  | .crr d _ => [d]
  | .crw a _ => [a]
  | .time d => [d]
  | .beq a b _ _ | .bne a b _ _ | .blt a b _ _ | .bge a b _ _ | .bltu a b _ _ | .bgeu a b _ _ => [a, b]
  | .jal _ _ => [63]
  | .jalr d a _ => [d, a]
  | .fork v m c => [v, m, c, 1, 2, 3, 4, 5, 6, 7, 8]
  | .ccreate d a | .cjoin d a => [d, a]
  | .cleave a | .bar a => [a]
  | .glaunch d a b | .rdr d a b | .wrr d a b | .resume d a b | .tlbi d a b => [d, a, b]
  | .preempt d a | .teardown d a | .cresume d a | .cabort d a => [d, a]
  | .rinit _ x | .rclaim _ x _ | .rpub _ x _ | .rwfill _ x _ | .rwfree _ x _ | .rread _ x _ | .raddr _ x => [x]
  | .wmwait _ x | .wmread _ x => [x]
  | .wmarm _ x _ => [x, x + 1]
  | .evsig x _ => [x]
  | .evsigr x | .evwait x | .evread x | .evset x | .evsetC x => [x, x + 1]
  | .sset _ x _ | .sget _ x _ => [x]
  | .ccomm x | .cstart x | .cfree x => [x]
  | _ => []

/-- The instruction joins the operations that return a value, of which 16 may be outstanding (R124). -/
def returnsValue (i : Instr) : Bool :=
  match i with
  | .ldg _ _ _ _ | .ldgZ _ _ _ | .ldgAcq _ _ _ _ | .ldgAcqZ _ _ _ _ | .amo _ _ _ _ _ | .amoq _ _ _ _ _ | .ccreate _ _ | .cjoin _ _
  | .glaunch _ _ _ => true
  | _ => false

/-- The instruction joins the operations that return nothing, of which 32 may be outstanding (R124). -/
def returnsNothing (i : Instr) : Bool :=
  match i with
  | .stg _ _ _ _ | .stgRel _ _ _ _ | .red _ _ _ _ => true
  | _ => false

/-- A scalar access to the scratchpad. -/
def scratchForm (i : Instr) : Bool :=
  match i with
  | .lds _ _ _ _ | .sts _ _ _ _ | .ldsZ _ _ _ => true
  | _ => false

/-- Scalar registers that an operation in flight will write (R123): loads, remote operations, and the statuses of held writes of a
supervisor core (R151). -/
def State.pendingSregs (s : State) (w : Who) : List Nat :=
  let o := w.owner
  s.gaccs.filterMap (fun (g : GAcc) =>
    if decide (g.owner = o) && decide (g.failed = none) then (match g.dest with | .sreg d _ => some d | _ => none) else none) ++
  (s.routs.filter (fun (r : ROut) => decide (r.owner = o) && decide (r.status = none))).flatMap (fun (r : ROut) =>
    match r.dest with | .sreg d _ _ => [d] | .pair d => if d = 0 then [] else [d, d + 1] | _ => []) ++
  (match w with
   | .sv c => s.residents.flatMap (fun hr => (hr.2.held.filter (fun x => x.core == c)).map (·.reg))
   | .task _ _ => [])

/-- An acquire of path S has not been performed: an acquiring load, an amo or an amoq (R281, R287). -/
def State.acquiring (s : State) (w : Who) : Bool :=
  s.gaccs.any (fun (g : GAcc) => decide (g.owner = w.owner) && decide (g.path = 0) && g.acq && decide (g.failed = none)) ||
  s.routs.any (fun (r : ROut) => decide (r.owner = w.owner) && decide (r.path = 0) && decide (r.status = none) &&
    (match r.dest with | .sreg _ _ _ | .pair _ => true | _ => false))

/-- An END of the scalar program waits for the outcome of the program's loads and remote operations, so that a failed one is delivered
before it (R256). -/
def State.endStalls (s : State) (w : Who) (i : Instr) : Bool :=
  match i with
  | .sEnd =>
    s.gaccs.any (fun (g : GAcc) => decide (g.owner = w.owner) && decide (g.path = 0) && !g.isStore && decide (g.failed = none)) ||
    s.routs.any (fun (r : ROut) => decide (r.owner = w.owner) && decide (r.path = 0) && decide (r.status = none) &&
      (match r.dest with | .access _ => false | _ => true))
  | _ => false

/-- The scalar engine stalls (R123, R124, R256, R281). -/
def State.scalarStalls (s : State) (w : Who) (i : Instr) : Bool :=
  (scalarUses i).any (fun x => x != 0 && (s.pendingSregs w).contains x.toNat) ||
  (returnsValue i && decide (16 ≤ s.outLoads w.owner 0)) ||
  (returnsNothing i && decide (32 ≤ s.outStores w.owner 0)) ||
  (scratchForm i && s.acquiring w) || s.endStalls w i

/-- The c-registers that an instruction reads or writes (R230, R235 to R238). -/
def copyUses (i : Instr) : List Nat :=
  match i with
  | .cadd d a b | .csub d a b | .cand d a b | .cor d a b | .cxor d a b | .cshl d a b | .cshr d a b | .csra d a b | .cmul d a b | .cmin d a b
  | .cmax d a b | .cminu d a b | .cmaxu d a b => [d.toNat, a.toNat, b.toNat]
  | .caddi d a _ | .cseth d a _ | .clds d a _ | .cldg d a _ => [d.toNat, a.toNat]
  | .copy _ d a b _ _ _ _ | .copy2d _ d a b _ _ _ _ => [d.toNat, a.toNat, b.toNat, b.toNat + 1]
  | .cgath _ d a b _ _ _ _ _ => [d.toNat, a.toNat, b.toNat, b.toNat + 1]
  | .cscat d a b _ _ _ _ => [d.toNat, a.toNat, b.toNat, b.toNat + 1]
  | .fill _ d a b _ _ _ => [d.toNat, a.toNat, b.toNat]
  | .pref a b => [a.toNat, b.toNat]
  | .cbr _ k _ => [k.toNat]
  | .jump _ _ => []
  | i => (scalarUses i).map (·.toNat)

/-- A format Y instruction (R90). -/
def formatY (i : Instr) : Bool :=
  match i with
  | .rinit _ _ | .rclaim _ _ _ | .rpub _ _ _ | .rwfill _ _ _ | .rwfree _ _ _ | .rcons _ _ | .rread _ _ _ | .raddr _ _
  | .wmwait _ _ | .wmarm _ _ _ | .wmread _ _ | .wmidle _
  | .evsig _ _ | .evsigr _ | .evwait _ | .evread _ | .evset _ | .evsetC _
  | .fenceX _ _ _ | .fenceXu _ _ _
  | .sset _ _ _ | .sget _ _ _ | .sbind _ _ | .sunbind _ | .ccomm _ | .cstart _ | .cfree _ => true
  | _ => false

/-- A wait of the format Y groups (R240, R243, R244). -/
def waitY (i : Instr) : Bool :=
  match i with
  | .rclaim _ _ _ | .rpub _ _ _ | .rwfill _ _ _ | .rwfree _ _ _ | .wmwait _ _ | .evwait _ => true
  | _ => false

/-- What a matrix program issues only after its executing datapath instruction: the waits, RCONS, and the signalling functions (R206, R242, R245). -/
def afterDatapath (i : Instr) : Bool :=
  match i with
  | .rcons _ _ | .evsig _ _ | .evsigr _ | .evset _ | .evsetC _ => true
  | i => waitY i

/-- A load of the copy program in flight will write the c-register (R106, R236). -/
def State.pendingCregs (s : State) (h : Nat) : List Nat :=
  s.gaccs.filterMap (fun (g : GAcc) =>
    if decide (g.owner = .task h) && decide (g.failed = none) then (match g.dest with | .creg d => some d | _ => none) else none)

/-- EVWAIT and EVREAD reach the event object after the program's own earlier signals to it (R245). -/
def State.eventStalls (s : State) (w : Who) (i : Instr) : Bool :=
  let signals := fun (hd : Word) => s.routs.any (fun (r : ROut) =>
    decide (r.owner = w.owner) && decide (r.path = w.path) && decide (r.status = none) && decide (r.req.op0 = hd.setWidth 128) &&
    (match r.req.op with | .evSignal _ _ _ | .evSet _ _ => true | _ => false))
  match i with
  | .evwait x | .evread x => signals (s.lreg w x.toNat)
  | _ => false

/-- CLDS and CLDG against the resident's executing transfer: they come after its accesses to the same bytes (R233), and one that a watermark holds waits for the
transfer to end before it blocks: the transfer may be what moves the watermark (R227; DEDUCED, log entry 130). -/
def State.copyLoadStalls (s : State) (h : Nat) (i : Instr) : Bool :=
  let r := s.res h
  let on := fun (spad : Bool) (a : BitVec 5) (k : BitVec 12) => match r.xf with
    | some x =>
      let at_ := (s.creg h a + 8 * sx k).toNat
      x.touches spad at_ 8 || s.heldBy (hTile h) spad r.asid (at_ + (if spad then r.spBase else 0)) 8 none
    | none => false
  match i with
  | .clds _ a k => on true a k
  | .cldg _ a k => on false a k
  | _ => false

/-- Whether the program's instruction stalls at issue. -/
def State.stalls (s : State) (w : Who) (i : Instr) : Bool :=
  s.eventStalls w i ||
  (match w with
  | .sv _ => s.scalarStalls w i
  | .task h .s => s.scalarStalls (.task h .s) i
  | .task _ .v => false
  | .task h .m => afterDatapath i && (s.res h).dp.isSome
  | .task h .c => (formatY i && (s.res h).xf.isSome) || s.copyLoadStalls h i || (copyUses i).any (fun x => (s.pendingCregs h).contains x))

end Sys2Proof.Machine
end

