-- ==== Sys2Proof/Machine/Engines.lean ====
section
/-!
DEFINITION. Events of the engines themselves: the block limit (R32, R47), a queue that does not settle (R126), clock gating and waking
(R34), an illegal word (R86, R109); and the passing of time (R25, R382, R404).
-/

namespace Sys2Proof.Machine

open Sys2Proof

/-- Another resident of the tile is ready on the engine. -/
def State.otherReady (s : State) (t : Nat) (e : Eng) (r : Nat) : Bool :=
  (List.range 8).any (fun j => decide (j ≠ r) && s.ready (mkHandle t j) e)

/-- At the block limit the engine switches when another resident is ready; otherwise the same one starts a new block (R32). -/
def State.limitBlock (s : State) (h : Nat) (e : Eng) : State :=
  if s.otherReady (hTile h) e (hRes h) then s.endBlock h e else s.boundary h e

/-- The scalar queue is settled; the other engines have none (R30). -/
def State.settledOn (s : State) (h : Nat) (e : Eng) : Bool := match e with | .s => (s.res h).sc.settled | _ => true

/-- BLOCK_LIMIT (R32): 256 instructions on the scalar and vector engines; on the matrix and copy engines 4,096 tclk, and the operation
under way stops at its progress point. -/
def execBlockLimit (t : Tid) (e : Eng) (s : State) : Out :=
  match s.cur t.toNat e with
  | none => .next s
  | some r =>
    let h := mkHandle t.toNat r
    let due := match e with
      | .s => decide (256 ≤ (s.res h).s.blk) && (s.res h).sc.settled
      | .v => decide (256 ≤ (s.res h).v.blk)
      | .m => true
      | .c => match (s.res h).xf with | some x => x.atPoint | none => true
    if due then .next (s.limitBlock h e) else .next s

/-- UNSETTLED_LIMIT (R126): 64 instructions have issued past the limit without the queue once being settled. -/
def execUnsettledLimit (p : Prog) (s : State) : Out :=
  match progWho p with
  | .task h e =>
    if decide (320 ≤ (s.res h).s.blk) && !(s.res h).sc.settled && s.cur (hTile h) .s == some (hRes h) then .next (s.stateUse (.task h e))
    else .next s
  | .sv _ => .next s

/-- CLOCK_GATE (R34): an idle engine with no ready resident. -/
def execClockGate (t : Tid) (e : Eng) (s : State) : Out :=
  let k := t.toNat
  if s.cur k e ≠ none ∨ (List.range 8).any (fun j => s.ready (mkHandle k j) e) then .next s
  else .next (s.modTile k (fun x => { x with gated := x.gated ||| ((1 : BitVec 4) <<< engCode e) }))

/-- IDLE_ENGINE_WAKE (R34): an idle engine takes up a resident that is ready. -/
def execIdleEngineWake (t : Tid) (e : Eng) (s : State) : Out :=
  if s.cur t.toNat e ≠ none then .next s else .next (s.switch t.toNat e)

/-- ILLEGAL_INSTRUCTION (R86, R109): the program whose turn it is has an illegal word at its pc. -/
def execIllegalInstruction (w : BitVec 64) (s : State) : Out :=
  match s.turn with
  | .coll c => .next (s.collIllegal c w)
  | _ =>
    match s.who with
    | some p => .next (s.illegal p w)
    | none => .next s

/-! ## Time -/

/-- The tclk of a die in n stamp periods from x: its frequency in 100 MHz units against 2 GHz (R4, R402). -/
def tclks (x n f : Nat) : Nat := (x + n) * f / 20 - x * f / 20

/-- The tile counters that count tclk (R404). -/
def State.countTclk (s : State) (n : Nat) : State :=
  { s with counters := s.counters.map (fun kc =>
      if decide (0x100000 ≤ kc.1) && decide (kc.1 < 0x100000 + 0x80 * 288) then
        let d := (kc.1 - 0x100000) / 0x80 / 72
        (kc.1, bumpCounter 1 (tclks s.stamp.toNat n (fget (20 : BitVec 5) s.dvfs d).toNat) kc.2)
      else kc) }

/-- The quadrant counters that count LLC misses rise by a free number: what the caches hold is not modelled (R274, R404). -/
def State.countMisses (s : State) : State :=
  { s with fresh := s.fresh + 1,
           counters := s.counters.map (fun kc =>
             if decide (0x120000 ≤ kc.1) && decide (kc.1 < 0x120000 + 0x200 * 4) then (kc.1, bumpCounter 0x20 (Config.freeMisses s.fresh kc.1) kc.2)
             else kc) }

/-- n stamp periods pass (R25): the ports send, the counters of tclk and of LLC misses count, the stamp rises. -/
def State.tick (s : State) (n : Nat) : State :=
  let s := ((s.drainPorts n).countTclk n).countMisses
  { s with stamp := s.stamp + BitVec.ofNat 64 n, diectl := s.diectl.map (fun dv => if dv.2 = 1 then (dv.1, 2) else dv) }

end Sys2Proof.Machine
end

