-- ==== Sys2Proof/Machine/Dispatch.lean ====
section
/-!
DEFINITION. One arm for each instruction and event of the opcode table.
-/

namespace Sys2Proof.Machine

open Sys2Proof

def exec (i : Instr) (s : State) : Host.Outcome State Fault Refusal :=
  match i with
  | .nop => Sys2Proof.Machine.execNop s
  | .add d a b => Sys2Proof.Machine.execAdd d a b s
  | .sub d a b => Sys2Proof.Machine.execSub d a b s
  | .and d a b => Sys2Proof.Machine.execAnd d a b s
  | .or d a b => Sys2Proof.Machine.execOr d a b s
  | .xor d a b => Sys2Proof.Machine.execXor d a b s
  | .shl d a b => Sys2Proof.Machine.execShl d a b s
  | .shr d a b => Sys2Proof.Machine.execShr d a b s
  | .sra d a b => Sys2Proof.Machine.execSra d a b s
  | .slt d a b => Sys2Proof.Machine.execSlt d a b s
  | .sltu d a b => Sys2Proof.Machine.execSltu d a b s
  | .mul d a b => Sys2Proof.Machine.execMul d a b s
  | .mulh d a b => Sys2Proof.Machine.execMulh d a b s
  | .mulhu d a b => Sys2Proof.Machine.execMulhu d a b s
  | .div d a b => Sys2Proof.Machine.execDiv d a b s
  | .divu d a b => Sys2Proof.Machine.execDivu d a b s
  | .rem d a b => Sys2Proof.Machine.execRem d a b s
  | .remu d a b => Sys2Proof.Machine.execRemu d a b s
  | .min d a b => Sys2Proof.Machine.execMin d a b s
  | .max d a b => Sys2Proof.Machine.execMax d a b s
  | .minu d a b => Sys2Proof.Machine.execMinu d a b s
  | .maxu d a b => Sys2Proof.Machine.execMaxu d a b s
  | .clz d a => Sys2Proof.Machine.execClz d a s
  | .ctz d a => Sys2Proof.Machine.execCtz d a s
  | .popc d a => Sys2Proof.Machine.execPopc d a s
  | .addi d a i1 => Sys2Proof.Machine.execAddi d a i1 s
  | .andi d a i1 => Sys2Proof.Machine.execAndi d a i1 s
  | .ori d a i1 => Sys2Proof.Machine.execOri d a i1 s
  | .xori d a i1 => Sys2Proof.Machine.execXori d a i1 s
  | .slti d a i1 => Sys2Proof.Machine.execSlti d a i1 s
  | .sltiu d a i1 => Sys2Proof.Machine.execSltiu d a i1 s
  | .shli d a s1 => Sys2Proof.Machine.execShli d a s1 s
  | .shri d a s1 => Sys2Proof.Machine.execShri d a s1 s
  | .srai d a s1 => Sys2Proof.Machine.execSrai d a s1 s
  | .muli d a i1 => Sys2Proof.Machine.execMuli d a i1 s
  | .lui d i1 => Sys2Proof.Machine.execLui d i1 s
  | .addpc d i1 => Sys2Proof.Machine.execAddpc d i1 s
  | .lds z d a i1 => Sys2Proof.Machine.execLds z d a i1 s
  | .sts z d a i1 => Sys2Proof.Machine.execSts z d a i1 s
  | .ldg z d a i1 => Sys2Proof.Machine.execLdg z d a i1 s
  | .stg z d a i1 => Sys2Proof.Machine.execStg z d a i1 s
  | .ldsZ d a z => Sys2Proof.Machine.execLdsZ d a z s
  | .ldgZ d a z => Sys2Proof.Machine.execLdgZ d a z s
  | .ldgAcq d a c z => Sys2Proof.Machine.execLdgAcq d a c z s
  | .ldgAcqZ d a c z => Sys2Proof.Machine.execLdgAcqZ d a c z s
  | .stgRel d a c z => Sys2Proof.Machine.execStgRel d a c z s
  | .amo d a b h c => Sys2Proof.Machine.execAmo d a b h c s
  | .red a b h c => Sys2Proof.Machine.execRed a b h c s
  | .amoq d a b h c => Sys2Proof.Machine.execAmoq d a b h c s
  | .crr d r => Sys2Proof.Machine.execCrr d r s
  | .crw a r => Sys2Proof.Machine.execCrw a r s
  | .time d => Sys2Proof.Machine.execTime d s
  | .trap c => Sys2Proof.Machine.execTrap c s
  | .beq a b n o => Sys2Proof.Machine.execBeq a b n o s
  | .bne a b n o => Sys2Proof.Machine.execBne a b n o s
  | .blt a b n o => Sys2Proof.Machine.execBlt a b n o s
  | .bge a b n o => Sys2Proof.Machine.execBge a b n o s
  | .bltu a b n o => Sys2Proof.Machine.execBltu a b n o s
  | .bgeu a b n o => Sys2Proof.Machine.execBgeu a b n o s
  | .jump n o => Sys2Proof.Machine.execJump n o s
  | .jal n o => Sys2Proof.Machine.execJal n o s
  | .jalr d a i1 => Sys2Proof.Machine.execJalr d a i1 s
  | .fork v m c => Sys2Proof.Machine.execFork v m c s
  | .join => Sys2Proof.Machine.execJoin s
  | .sEnd => Sys2Proof.Machine.execSEnd s
  | .rett => Sys2Proof.Machine.execRett s
  | .ccreate d a => Sys2Proof.Machine.execCcreate d a s
  | .cjoin d a => Sys2Proof.Machine.execCjoin d a s
  | .cleave a => Sys2Proof.Machine.execCleave a s
  | .bar a => Sys2Proof.Machine.execBar a s
  | .glaunch d a b => Sys2Proof.Machine.execGlaunch d a b s
  | .rdr d a b => Sys2Proof.Machine.execRdr d a b s
  | .wrr d a b => Sys2Proof.Machine.execWrr d a b s
  | .resume d a b => Sys2Proof.Machine.execResume d a b s
  | .preempt d a => Sys2Proof.Machine.execPreempt d a s
  | .teardown d a => Sys2Proof.Machine.execTeardown d a s
  | .tlbi d a b => Sys2Proof.Machine.execTlbi d a b s
  | .cresume d a => Sys2Proof.Machine.execCresume d a s
  | .cabort d a => Sys2Proof.Machine.execCabort d a s
  | .rinit o x => Sys2Proof.Machine.execRinit o x s
  | .rclaim o x n => Sys2Proof.Machine.execRclaim o x n s
  | .rpub o x n => Sys2Proof.Machine.execRpub o x n s
  | .rwfill o x n => Sys2Proof.Machine.execRwfill o x n s
  | .rwfree o x n => Sys2Proof.Machine.execRwfree o x n s
  | .rcons o n => Sys2Proof.Machine.execRcons o n s
  | .rread o x s1 => Sys2Proof.Machine.execRread o x s1 s
  | .raddr o x => Sys2Proof.Machine.execRaddr o x s
  | .wmwait o x => Sys2Proof.Machine.execWmwait o x s
  | .wmarm o x p => Sys2Proof.Machine.execWmarm o x p s
  | .wmread o x => Sys2Proof.Machine.execWmread o x s
  | .wmidle o => Sys2Proof.Machine.execWmidle o s
  | .evsig x n => Sys2Proof.Machine.execEvsig x n s
  | .evsigr x => Sys2Proof.Machine.execEvsigr x s
  | .evwait x => Sys2Proof.Machine.execEvwait x s
  | .evread x => Sys2Proof.Machine.execEvread x s
  | .evset x => Sys2Proof.Machine.execEvset x s
  | .evsetC x => Sys2Proof.Machine.execEvsetC x s
  | .fenceX s1 d c => Sys2Proof.Machine.execFenceX s1 d c s
  | .fenceXu s1 d c => Sys2Proof.Machine.execFenceXu s1 d c s
  | .sset o x i1 => Sys2Proof.Machine.execSset o x i1 s
  | .sget o x i1 => Sys2Proof.Machine.execSget o x i1 s
  | .sbind o d => Sys2Proof.Machine.execSbind o d s
  | .sunbind o => Sys2Proof.Machine.execSunbind o s
  | .ccomm x => Sys2Proof.Machine.execCcomm x s
  | .cstart x => Sys2Proof.Machine.execCstart x s
  | .cfree x => Sys2Proof.Machine.execCfree x s
  | .vadd g d a b m => Sys2Proof.Machine.execVadd g d a b m s
  | .vsub g d a b m => Sys2Proof.Machine.execVsub g d a b m s
  | .vmul g d a b m => Sys2Proof.Machine.execVmul g d a b m s
  | .vmin g d a b m => Sys2Proof.Machine.execVmin g d a b m s
  | .vmax g d a b m => Sys2Proof.Machine.execVmax g d a b m s
  | .vand g d a b m => Sys2Proof.Machine.execVand g d a b m s
  | .vor g d a b m => Sys2Proof.Machine.execVor g d a b m s
  | .vxor g d a b m => Sys2Proof.Machine.execVxor g d a b m s
  | .vshl g d a b m => Sys2Proof.Machine.execVshl g d a b m s
  | .vshr g d a b m => Sys2Proof.Machine.execVshr g d a b m s
  | .vsra g d a b m => Sys2Proof.Machine.execVsra g d a b m s
  | .vaddi g d a i1 => Sys2Proof.Machine.execVaddi g d a i1 s
  | .vshli g d a s1 => Sys2Proof.Machine.execVshli g d a s1 s
  | .vshri g d a s1 => Sys2Proof.Machine.execVshri g d a s1 s
  | .vsrai g d a s1 => Sys2Proof.Machine.execVsrai g d a s1 s
  | .vbr c k o => Sys2Proof.Machine.execVbr c k o s
  | .vectorEnd => Sys2Proof.Machine.execVectorEnd s
  | .vfadd g d a b m => Sys2Proof.Machine.execVfadd g d a b m s
  | .vfsub g d a b m => Sys2Proof.Machine.execVfsub g d a b m s
  | .vfmul g d a b m => Sys2Proof.Machine.execVfmul g d a b m s
  | .vfma g d a b m => Sys2Proof.Machine.execVfma g d a b m s
  | .vfmin g d a b m => Sys2Proof.Machine.execVfmin g d a b m s
  | .vfmax g d a b m => Sys2Proof.Machine.execVfmax g d a b m s
  | .vfcmp g c e a b m => Sys2Proof.Machine.execVfcmp g c e a b m s
  | .vicmp g c e a b m => Sys2Proof.Machine.execVicmp g c e a b m s
  | .vdadd g d a b m => Sys2Proof.Machine.execVdadd g d a b m s
  | .vdsub g d a b m => Sys2Proof.Machine.execVdsub g d a b m s
  | .vdmul g d a b m => Sys2Proof.Machine.execVdmul g d a b m s
  | .vdfma g d a b m => Sys2Proof.Machine.execVdfma g d a b m s
  | .vdmin g d a b m => Sys2Proof.Machine.execVdmin g d a b m s
  | .vdmax g d a b m => Sys2Proof.Machine.execVdmax g d a b m s
  | .vdcmp g c e a b m => Sys2Proof.Machine.execVdcmp g c e a b m s
  | .vsel g d a b m => Sys2Proof.Machine.execVsel g d a b m s
  | .vdot g d a b m => Sys2Proof.Machine.execVdot g d a b m s
  | .vlmul g d a b m => Sys2Proof.Machine.execVlmul g d a b m s
  | .vldiv g d a b m => Sys2Proof.Machine.execVldiv g d a b m s
  | .vlpow g d p => Sys2Proof.Machine.execVlpow g d p s
  | .vperm g d a b m => Sys2Proof.Machine.execVperm g d a b m s
  | .vcmpx g d t e b j => Sys2Proof.Machine.execVcmpx g d t e b j s
  | .vcmpxPayload g d a t e b j => Sys2Proof.Machine.execVcmpxPayload g d a t e b j s
  | .vbcast g d k => Sys2Proof.Machine.execVbcast g d k s
  | .vbcastD g d k => Sys2Proof.Machine.execVbcastD g d k s
  | .vextr g d a l => Sys2Proof.Machine.execVextr g d a l s
  | .vextrD g d a l => Sys2Proof.Machine.execVextrD g d a l s
  | .vlds g d k w o => Sys2Proof.Machine.execVlds g d k w o s
  | .vsts g d k w o => Sys2Proof.Machine.execVsts g d k w o s
  | .vldg g d k w o => Sys2Proof.Machine.execVldg g d k w o s
  | .vstg g d k w o => Sys2Proof.Machine.execVstg g d k w o s
  | .vslr g d z w h r => Sys2Proof.Machine.execVslr g d z w h r s
  | .vslw g d z w h r => Sys2Proof.Machine.execVslw g d z w h r s
  | .vcvt g d a t s1 r => Sys2Proof.Machine.execVcvt g d a t s1 r s
  | .vcvtSr g d a t s1 r => Sys2Proof.Machine.execVcvtSr g d a t s1 r s
  | .vgaths g d x k w m => Sys2Proof.Machine.execVgaths g d x k w m s
  | .vscats g d x k w m => Sys2Proof.Machine.execVscats g d x k w m s
  | .vgathg g d x k w m => Sys2Proof.Machine.execVgathg g d x k w m s
  | .vscatg g d x k w m => Sys2Proof.Machine.execVscatg g d x k w m s
  | .vldsr g d s1 k w m => Sys2Proof.Machine.execVldsr g d s1 k w m s
  | .vstsr g d s1 k w m => Sys2Proof.Machine.execVstsr g d s1 k w m s
  | .vldgr g d s1 k w m => Sys2Proof.Machine.execVldgr g d s1 k w m s
  | .vstgr g d s1 k w m => Sys2Proof.Machine.execVstgr g d s1 k w m s
  | .waitc g c n => Sys2Proof.Machine.execWaitc g c n s
  | .vamo d a k h w => Sys2Proof.Machine.execVamo d a k h w s
  | .rep c d a b z => Sys2Proof.Machine.execRep c d a b z s
  | .vmov g d a m => Sys2Proof.Machine.execVmov g d a m s
  | .vnot g d a m => Sys2Proof.Machine.execVnot g d a m s
  | .viabs g d a m => Sys2Proof.Machine.execViabs g d a m s
  | .vineg g d a m => Sys2Proof.Machine.execVineg g d a m s
  | .vfneg g d a m => Sys2Proof.Machine.execVfneg g d a m s
  | .vfabs g d a m => Sys2Proof.Machine.execVfabs g d a m s
  | .vdneg g d a m => Sys2Proof.Machine.execVdneg g d a m s
  | .vdabs g d a m => Sys2Proof.Machine.execVdabs g d a m s
  | .vclz g d a m => Sys2Proof.Machine.execVclz g d a m s
  | .vpopc g d a m => Sys2Proof.Machine.execVpopc g d a m s
  | .vtolog g d a m => Sys2Proof.Machine.execVtolog g d a m s
  | .vfromlog g d a m => Sys2Proof.Machine.execVfromlog g d a m s
  | .vexp2l g d a m => Sys2Proof.Machine.execVexp2l g d a m s
  | .vlog2f g d a m => Sys2Proof.Machine.execVlog2f g d a m s
  | .mand g d b a => Sys2Proof.Machine.execMand g d b a s
  | .mor g d b a => Sys2Proof.Machine.execMor g d b a s
  | .mxor g d b a => Sys2Proof.Machine.execMxor g d b a s
  | .mandn g d b a => Sys2Proof.Machine.execMandn g d b a s
  | .mnot g d a => Sys2Proof.Machine.execMnot g d a s
  | .mmov g d a => Sys2Proof.Machine.execMmov g d a s
  | .mpopc g d a => Sys2Proof.Machine.execMpopc g d a s
  | .vrsum g d a m => Sys2Proof.Machine.execVrsum g d a m s
  | .vrmin g d a m => Sys2Proof.Machine.execVrmin g d a m s
  | .vrmax g d a m => Sys2Proof.Machine.execVrmax g d a m s
  | .vrfsum g d a m => Sys2Proof.Machine.execVrfsum g d a m s
  | .vrfmin g d a m => Sys2Proof.Machine.execVrfmin g d a m s
  | .vrfmax g d a m => Sys2Proof.Machine.execVrfmax g d a m s
  | .vrdsum g d a m => Sys2Proof.Machine.execVrdsum g d a m s
  | .vrdmin g d a m => Sys2Proof.Machine.execVrdmin g d a m s
  | .vrdmax g d a m => Sys2Proof.Machine.execVrdmax g d a m s
  | .kmov g d a => Sys2Proof.Machine.execKmov g d a s
  | .kadd g d a => Sys2Proof.Machine.execKadd g d a s
  | .ksub g d a => Sys2Proof.Machine.execKsub g d a s
  | .vpackE3m2 g s1 d a => Sys2Proof.Machine.execVpackE3m2 g s1 d a s
  | .vunpkE3m2 g s1 d a => Sys2Proof.Machine.execVunpkE3m2 g s1 d a s
  | .vpack g w s1 d a => Sys2Proof.Machine.execVpack g w s1 d a s
  | .vunpk g w s1 d a => Sys2Proof.Machine.execVunpk g w s1 d a s
  | .mma z a b n i1 r => Sys2Proof.Machine.execMma z a b n i1 r s
  | .mmas z a b n s1 i1 r => Sys2Proof.Machine.execMmas z a b n s1 i1 r s
  | .sbp z a b n i1 r => Sys2Proof.Machine.execSbp z a b n i1 r s
  | .ephb b n => Sys2Proof.Machine.execEphb b n s
  | .ephl b n => Sys2Proof.Machine.execEphl b n s
  | .ephs b n => Sys2Proof.Machine.execEphs b n s
  | .mzero z r => Sys2Proof.Machine.execMzero z r s
  | .fft2 a b n s1 i1 => Sys2Proof.Machine.execFft2 a b n s1 i1 s
  | .fft3 a b n s1 i1 => Sys2Proof.Machine.execFft3 a b n s1 i1 s
  | .fft4 a b n s1 i1 => Sys2Proof.Machine.execFft4 a b n s1 i1 s
  | .fft5 a b n s1 i1 => Sys2Proof.Machine.execFft5 a b n s1 i1 s
  | .leg z a b n i1 y r => Sys2Proof.Machine.execLeg z a b n i1 y r s
  | .legi a b n => Sys2Proof.Machine.execLegi a b n s
  | .macq z => Sys2Proof.Machine.execMacq z s
  | .mrel z => Sys2Proof.Machine.execMrel z s
  | .nadd d a b => Sys2Proof.Machine.execNadd d a b s
  | .nsub d a b => Sys2Proof.Machine.execNsub d a b s
  | .nand d a b => Sys2Proof.Machine.execNand d a b s
  | .nor d a b => Sys2Proof.Machine.execNor d a b s
  | .nxor d a b => Sys2Proof.Machine.execNxor d a b s
  | .nshl d a b => Sys2Proof.Machine.execNshl d a b s
  | .nshr d a b => Sys2Proof.Machine.execNshr d a b s
  | .nsra d a b => Sys2Proof.Machine.execNsra d a b s
  | .nmul d a b => Sys2Proof.Machine.execNmul d a b s
  | .nmin d a b => Sys2Proof.Machine.execNmin d a b s
  | .nmax d a b => Sys2Proof.Machine.execNmax d a b s
  | .nminu d a b => Sys2Proof.Machine.execNminu d a b s
  | .nmaxu d a b => Sys2Proof.Machine.execNmaxu d a b s
  | .naddi d a i1 => Sys2Proof.Machine.execNaddi d a i1 s
  | .nseth d a p v => Sys2Proof.Machine.execNseth d a p v s
  | .nget d s1 => Sys2Proof.Machine.execNget d s1 s
  | .mbr c a o => Sys2Proof.Machine.execMbr c a o s
  | .matrixEnd => Sys2Proof.Machine.execMatrixEnd s
  | .mwake => Sys2Proof.Machine.execMwake s
  | .cadd d a b => Sys2Proof.Machine.execCadd d a b s
  | .csub d a b => Sys2Proof.Machine.execCsub d a b s
  | .cand d a b => Sys2Proof.Machine.execCand d a b s
  | .cor d a b => Sys2Proof.Machine.execCor d a b s
  | .cxor d a b => Sys2Proof.Machine.execCxor d a b s
  | .cshl d a b => Sys2Proof.Machine.execCshl d a b s
  | .cshr d a b => Sys2Proof.Machine.execCshr d a b s
  | .csra d a b => Sys2Proof.Machine.execCsra d a b s
  | .cmul d a b => Sys2Proof.Machine.execCmul d a b s
  | .cmin d a b => Sys2Proof.Machine.execCmin d a b s
  | .cmax d a b => Sys2Proof.Machine.execCmax d a b s
  | .cminu d a b => Sys2Proof.Machine.execCminu d a b s
  | .cmaxu d a b => Sys2Proof.Machine.execCmaxu d a b s
  | .caddi d a i1 => Sys2Proof.Machine.execCaddi d a i1 s
  | .cseth d a i1 => Sys2Proof.Machine.execCseth d a i1 s
  | .copy h d a b n k t s1 => Sys2Proof.Machine.execCopy h d a b n k t s1 s
  | .copy2d h d a b n k t s1 => Sys2Proof.Machine.execCopy2d h d a b n k t s1 s
  | .cgath h d a b e n k t s1 => Sys2Proof.Machine.execCgath h d a b e n k t s1 s
  | .cscat d a b e n t s1 => Sys2Proof.Machine.execCscat d a b e n t s1 s
  | .fill h d a b n k t => Sys2Proof.Machine.execFill h d a b n k t s
  | .pref a b => Sys2Proof.Machine.execPref a b s
  | .clds d a i1 => Sys2Proof.Machine.execClds d a i1 s
  | .cldg d a i1 => Sys2Proof.Machine.execCldg d a i1 s
  | .cbr c k o => Sys2Proof.Machine.execCbr c k o s
  | .copyEnd => Sys2Proof.Machine.execCopyEnd s
  | .collNop => Sys2Proof.Machine.execCollNop s
  | .send ls pa pb buf wide ba bb => Sys2Proof.Machine.execSend ls pa pb buf wide ba bb s
  | .recv ls pa pb buf ba bb => Sys2Proof.Machine.execRecv ls pa pb buf ba bb s
  | .rrs ls pa pb buf fwd ba bb => Sys2Proof.Machine.execRrs ls pa pb buf fwd ba bb s
  | .rrf ls pa pb buf ba bb => Sys2Proof.Machine.execRrf ls pa pb buf ba bb s
  | .collCopy ls dst src ba bb => Sys2Proof.Machine.execCollCopy ls dst src ba bb s
  | .bcast buf root => Sys2Proof.Machine.execBcast buf root s
  | .xpose buf => Sys2Proof.Machine.execXpose buf s
  | .wait buf n => Sys2Proof.Machine.execWait buf n s
  | .signal buf n => Sys2Proof.Machine.execSignal buf n s
  | .loop ls limit => Sys2Proof.Machine.execLoop ls limit s
  | .endl ls => Sys2Proof.Machine.execEndl ls s
  | .hnop => Sys2Proof.Machine.execHnop s
  | .hld d a i1 => Sys2Proof.Machine.execHld d a i1 s
  | .hst a b i1 => Sys2Proof.Machine.execHst a b i1 s
  | .hli d i1 => Sys2Proof.Machine.execHli d i1 s
  | .hlis d i1 => Sys2Proof.Machine.execHlis d i1 s
  | .hadd d a b i1 => Sys2Proof.Machine.execHadd d a b i1 s
  | .hsub d a b => Sys2Proof.Machine.execHsub d a b s
  | .hand d a b => Sys2Proof.Machine.execHand d a b s
  | .hor d a b => Sys2Proof.Machine.execHor d a b s
  | .hxor d a b => Sys2Proof.Machine.execHxor d a b s
  | .hshf d a k n => Sys2Proof.Machine.execHshf d a k n s
  | .hfadd d a b f => Sys2Proof.Machine.execHfadd d a b f s
  | .hcmp d a b c => Sys2Proof.Machine.execHcmp d a b c s
  | .hsel d a b => Sys2Proof.Machine.execHsel d a b s
  | .hbr c a i1 => Sys2Proof.Machine.execHbr c a i1 s
  | .hret a => Sys2Proof.Machine.execHret a s
  | .hfail a => Sys2Proof.Machine.execHfail a s
  | .blockLimit t e => Sys2Proof.Machine.execBlockLimit t e s
  | .unsettledLimit p => Sys2Proof.Machine.execUnsettledLimit p s
  | .clockGate t e => Sys2Proof.Machine.execClockGate t e s
  | .idleEngineWake t e => Sys2Proof.Machine.execIdleEngineWake t e s
  | .subarrayGate t i1 => Sys2Proof.Machine.execSubarrayGate t i1 s
  | .datapathComplete t => Sys2Proof.Machine.execDatapathComplete t s
  | .transferComplete t => Sys2Proof.Machine.execTransferComplete t s
  | .vectorAccessComplete id lanes data => Sys2Proof.Machine.execVectorAccessComplete id lanes data s
  | .loadComplete id data => Sys2Proof.Machine.execLoadComplete id data s
  | .streamFetch h q => Sys2Proof.Machine.execStreamFetch h q s
  | .streamStore h q => Sys2Proof.Machine.execStreamStore h q s
  | .timerExpiry p => Sys2Proof.Machine.execTimerExpiry p s
  | .timerInterrupt p => Sys2Proof.Machine.execTimerInterrupt p s
  | .tcmpWrite p v => Sys2Proof.Machine.execTcmpWrite p v s
  | .rctlWrite h v => Sys2Proof.Machine.execRctlWrite h v s
  | .rngWrite h v => Sys2Proof.Machine.execRngWrite h v s
  | .deferredFaultDelivery h => Sys2Proof.Machine.execDeferredFaultDelivery h s
  | .watchdog h e => Sys2Proof.Machine.execWatchdog h e s
  | .faultRecordWrite core => Sys2Proof.Machine.execFaultRecordWrite core s
  | .faultQueueInterrupt core => Sys2Proof.Machine.execFaultQueueInterrupt core s
  | .fqheadWrite core v => Sys2Proof.Machine.execFqheadWrite core v s
  | .faultQueueConfigWrite core size v => Sys2Proof.Machine.execFaultQueueConfigWrite core size v s
  | .supervisorFaultTrap core code addr => Sys2Proof.Machine.execSupervisorFaultTrap core code addr s
  | .supervisorRestart core => Sys2Proof.Machine.execSupervisorRestart core s
  | .placeTask => Sys2Proof.Machine.execPlaceTask s
  | .loadingComplete h => Sys2Proof.Machine.execLoadingComplete h s
  | .resumeSavedTask => Sys2Proof.Machine.execResumeSavedTask s
  | .restoreContext h => Sys2Proof.Machine.execRestoreContext h s
  | .saveContext h => Sys2Proof.Machine.execSaveContext h s
  | .drain h => Sys2Proof.Machine.execDrain h s
  | .deferredSupervisorWrite h => Sys2Proof.Machine.execDeferredSupervisorWrite h s
  | .orreryPreempt => Sys2Proof.Machine.execOrreryPreempt s
  | .replayStart g => Sys2Proof.Machine.execReplayStart g s
  | .nodeReady g n => Sys2Proof.Machine.execNodeReady g n s
  | .nodeComplete g n => Sys2Proof.Machine.execNodeComplete g n s
  | .taskReplay k => Sys2Proof.Machine.execTaskReplay k s
  | .eventUpdate k => Sys2Proof.Machine.execEventUpdate k s
  | .registerGraph => Sys2Proof.Machine.execRegisterGraph s
  | .destroyGraph => Sys2Proof.Machine.execDestroyGraph s
  | .createEvent => Sys2Proof.Machine.execCreateEvent s
  | .destroyEvent => Sys2Proof.Machine.execDestroyEvent s
  | .launch => Sys2Proof.Machine.execLaunch s
  | .bindCompletionEvent => Sys2Proof.Machine.execBindCompletionEvent s
  | .commandRingConfigWrite size v => Sys2Proof.Machine.execCommandRingConfigWrite size v s
  | .remoteRequest k => Sys2Proof.Machine.execRemoteRequest k s
  | .remoteResponse k => Sys2Proof.Machine.execRemoteResponse k s
  | .ownerBusyResend id => Sys2Proof.Machine.execOwnerBusyResend id s
  | .standaloneAck h owner => Sys2Proof.Machine.execStandaloneAck h owner s
  | .acknowledgement k => Sys2Proof.Machine.execAcknowledgement k s
  | .retireAll k => Sys2Proof.Machine.execRetireAll k s
  | .storeCommit id => Sys2Proof.Machine.execStoreCommit id s
  | .wcBufferIssue k => Sys2Proof.Machine.execWcBufferIssue k s
  | .walkComplete k => Sys2Proof.Machine.execWalkComplete k s
  | .uncorrectableError e => Sys2Proof.Machine.execUncorrectableError e s
  | .regionRetirement region => Sys2Proof.Machine.execRegionRetirement region s
  | .flitRetry link again => Sys2Proof.Machine.execFlitRetry link again s
  | .linkFence link => Sys2Proof.Machine.execLinkFence link s
  | .diectlFence die v => Sys2Proof.Machine.execDiectlFence die v s
  | .diectlRejoin die v => Sys2Proof.Machine.execDiectlRejoin die v s
  | .llcpinWrite q v => Sys2Proof.Machine.execLlcpinWrite q v s
  | .chunkSend q => Sys2Proof.Machine.execChunkSend q s
  | .chunkArrival k => Sys2Proof.Machine.execChunkArrival k s
  | .creditReturn k => Sys2Proof.Machine.execCreditReturn k s
  | .flush c => Sys2Proof.Machine.execFlush c s
  | .collectiveWatchdog c => Sys2Proof.Machine.execCollectiveWatchdog c s
  | .packetArrival p => Sys2Proof.Machine.execPacketArrival p s
  | .transportAck peer cum sel => Sys2Proof.Machine.execTransportAck peer cum sel s
  | .retransmitTimeout peer seq => Sys2Proof.Machine.execRetransmitTimeout peer seq s
  | .routeLost peer seq port => Sys2Proof.Machine.execRouteLost peer seq port s
  | .codewordReplay lane again => Sys2Proof.Machine.execCodewordReplay lane again s
  | .portDown port => Sys2Proof.Machine.execPortDown port s
  | .prep port v => Sys2Proof.Machine.execPrep port v s
  | .enable port v => Sys2Proof.Machine.execEnable port v s
  | .portDrained port => Sys2Proof.Machine.execPortDrained port s
  | .trainingComplete port peer inc => Sys2Proof.Machine.execTrainingComplete port peer inc s
  | .laneRemap v => Sys2Proof.Machine.execLaneRemap v s
  | .telemetryLatch => Sys2Proof.Machine.execTelemetryLatch s
  | .hostWrite port bar0 pa bytes ro => Sys2Proof.Machine.execHostWrite port bar0 pa bytes ro s
  | .hostRead port bar0 pa n => Sys2Proof.Machine.execHostRead port bar0 pa n s
  | .hostAtomic port pa h op0 op1 => Sys2Proof.Machine.execHostAtomic port pa h op0 op1 s
  | .hostCompletionTimeout id => Sys2Proof.Machine.execHostCompletionTimeout id s
  | .boot => Sys2Proof.Machine.execBoot s
  | .loadHandlerSlot core => Sys2Proof.Machine.execLoadHandlerSlot core s
  | .writeAsidEntry core => Sys2Proof.Machine.execWriteAsidEntry core s
  | .writeAccessRight core => Sys2Proof.Machine.execWriteAccessRight core s
  | .fenceDieCall core => Sys2Proof.Machine.execFenceDieCall core s
  | .rejoinDieCall core => Sys2Proof.Machine.execRejoinDieCall core s
  | .writeLlcpin core => Sys2Proof.Machine.execWriteLlcpin core s
  | .retireHbmRegion core => Sys2Proof.Machine.execRetireHbmRegion core s
  | .setMasterClass core => Sys2Proof.Machine.execSetMasterClass core s
  | .dvfsWrite cls die v => Sys2Proof.Machine.execDvfsWrite cls die v s
  | .powerCapStep die watts => Sys2Proof.Machine.execPowerCapStep die watts s
  | .counterCtlWrite off v => Sys2Proof.Machine.execCounterCtlWrite off v s
  | .registerWrite cls off v => Sys2Proof.Machine.execRegisterWrite cls off v s
  | .illegalInstruction w => Sys2Proof.Machine.execIllegalInstruction w s
  | .writeLands h => Sys2Proof.Machine.execWriteLands h s
  | .progressPointReached t e => Sys2Proof.Machine.execProgressPointReached t e s
  | .subarrayWake t => Sys2Proof.Machine.execSubarrayWake t s
  | .sendStagingReady c => Sys2Proof.Machine.execSendStagingReady c s
  | .directoryEviction line => Sys2Proof.Machine.execDirectoryEviction line s
  | .patrolScrub line err => Sys2Proof.Machine.execPatrolScrub line err s
  | .dieRejoinComplete die => Sys2Proof.Machine.execDieRejoinComplete die s
  | .packageReset => Sys2Proof.Machine.execPackageReset s

end Sys2Proof.Machine
end

