-- ==== Sys2Proof/Machine/Issue.lean ====
section
/-!
DEFINITION. The issue of instructions: the boundaries before an instruction (R30 to R33, R47, R126, R312), interrupts and deferred
faults before it (R24, R256, R306), the fetch, decoding, interlocks, execution; the turns of supervisor cores, collective programs and
handler runs; and the placing of one word where the next step fetches it.
-/

namespace Sys2Proof.Machine

open Sys2Proof

/-- What comes before an instruction: the turn is used up, or the instruction may issue. -/
inductive Begin where
  | done (s : State)
  | go (s : State)

/-- The program stands at a stop point of a pre-emption (R312). -/
def atStop (e : Eng) (r : Resident) : Bool :=
  let p := r.prg e
  match e with
  | .s => r.sc.settled && (p.bnd || decide (256 ≤ p.blk) || decide (p.blk = 0))
  | .v => p.bnd || decide (256 ≤ p.blk) || decide (p.blk = 0)
  | .m => match r.dp with | some d => d.stopped | none => true
  | .c => match r.xf with | some x => x.stopped | none => true

/-- A control transfer's boundary on the matrix or copy engine: a resident that is ready runs before the same one starts another block (R47); accesses of a transfer
that are under way end first. -/
def State.transferBoundary (s : State) (h : Nat) (e : Eng) : Begin :=
  if !((s.res h).prg e).bnd then .go s
  else if !s.otherReady (hTile h) e (hRes h) then .go (s.boundary h e)
  else if s.xfUnderWay h e then .done s
  else .done (s.endBlock h e)

/-- The boundaries before an instruction of a resident on its engine (R30, R32, R47, R126, R312); an operation that stopped part-way goes on
before it (R196, R227). -/
def State.begin (s : State) (h : Nat) (e : Eng) : Begin :=
  let r := s.res h
  let p := r.prg e
  let t := hTile h
  if decide (r.life ≠ .active) || r.est e != 1 || decide (p.park ≠ none) then .done (s.switch t e)
  else if r.preempt && atStop e r then .done (s.endBlock h e)
  else match e with
    | .m => if r.preempt then .done s
        else match r.dp with
          | some d => if d.stopped then .done (s.contDp h) else s.transferBoundary h e
          | none => s.transferBoundary h e
    | .c => if r.preempt then .done s
        else match r.xf with
          | some x => if x.stopped then .done (s.modRes h Resident.contXf) else s.transferBoundary h e
          | none => s.transferBoundary h e
    | _ =>
      if !s.settledOn h e then (if 320 ≤ p.blk then .done (s.stateUse (.task h e)) else .go s)
      else if 256 ≤ p.blk ∨ (p.bnd ∧ 256 ≤ p.turn) then
        (if s.otherReady t e (hRes h) then .done (s.endBlock h e) else .go (s.boundary h e))
      else if p.bnd then .go (s.boundary h e)
      else .go s

/-- The instruction set of an engine. -/
def engIsa : Eng → Isa
  | .s => .scalar | .v => .vector | .m => .matrix | .c => .copy

def Who.isa : Who → Isa
  | .task _ e => engIsa e
  | .sv _ => .scalar

/-- A word of a program is decoded and executed (R86, R123). -/
noncomputable def State.runWord (s : State) (w : Who) (x : BitVec 32) : Out :=
  match decode w.isa x with
  | .ok i => if s.stalls w i then .next s else exec i s
  | .error _ => exec (.illegalInstruction (x.setWidth 64)) s

/-- The instruction at a program's pc is fetched and executed (R85, R296). -/
noncomputable def State.fetchRun (s : State) (w : Who) : Out :=
  let a := s.pcOf w
  match s.fetchWord w a with
  | .miss => .next (s.touchFetch w a)
  | .bad f => .next ((s.touchFetch w a).takeFault w .instr f)
  | .word x => (s.touchFetch w a).runWord w x

/-- The turn of an engine that runs a resident. -/
noncomputable def State.issueTask (s : State) (h : Nat) (e : Eng) : Out :=
  match s.begin h e with
  | .done s => .next s
  | .go s =>
    let w : Who := .task h e
    if e = .s then
      if (s.res h).deferred ≠ [] then exec (.deferredFaultDelivery (BitVec.ofNat 12 h)) s
      else if timerReady s.stamp (s.res h).sc then exec (.timerInterrupt (.task (BitVec.ofNat 12 h))) s
      else if (s.res h).sc.a0 then .next (s.advance w)
      else s.fetchRun w
    else s.fetchRun w

/-- The turn of a supervisor core (R127, R306). -/
noncomputable def State.issueSv (s : State) (c : Nat) : Out :=
  let x := s.svc c
  if !x.running || x.stopped then .next s
  else if fqReady x then exec (.faultQueueInterrupt (BitVec.ofNat 3 c)) s
  else if timerReady s.stamp x.sc then exec (.timerInterrupt (.sv (BitVec.ofNat 3 c))) s
  else if x.sc.a0 then .next (s.advance (.sv c))
  else s.fetchRun (.sv c)

/-- The turn of a collective program (R263, R267). -/
noncomputable def State.issueColl (s : State) (c : Nat) : Out :=
  let x := s.comm c
  if !x.live || decide (x.run ≠ .running) then .next s
  else match x.prog[x.pos]? with
    | none => .next (s.collEnd c)
    | some w =>
      match decodeStep w with
      | .ok i => exec i s
      | .error _ => exec (.illegalInstruction w) s

/-- The turn of a near-memory engine (R260). -/
noncomputable def State.issueNear (s : State) (k : Nat) : Out :=
  match fget none s.hruns k with
  | none => .next s
  | some r =>
    match r.prog[r.idx]? with
    | none => .next s
    | some w =>
      match decode .handler w with
      | .ok i => exec i s
      | .error _ => .next s

/-- The turn of the agent that State.turn names. -/
noncomputable def State.issue (s : State) : Out :=
  match s.turn with
  | .eng t e =>
    if 288 ≤ t then .fault .noSuchAgent
    else match s.cur t e with
      | some r => s.issueTask (mkHandle t r) e
      | none => exec (.idleEngineWake (BitVec.ofNat 9 t) e) s
  | .sv c => if 8 ≤ c then .fault .noSuchAgent else s.issueSv c
  | .coll c => if 1024 ≤ c then .fault .noSuchAgent else s.issueColl c
  | .near k => if 64 ≤ k then .fault .noSuchAgent else s.issueNear k

/-- One move of the agenda, or the turn that goes on when it is empty. -/
noncomputable def State.move (s : State) : Out :=
  match s.agenda with
  | [] => s.issue
  | m :: rest =>
    let s := { s with agenda := rest }
    match m with
    | .turn a => ({ s with turn := a } : State).issue
    | .event i => if i.eventWf then exec i s else .next s
    | .tick n => .next (s.tick n)

/-! ## One word where the next step fetches it -/

/-- Where it stands. -/
def probeVa : Nat := 0x10000
/-- Its page: an executable RC page of local HBM. -/
def probeLeaf : BitVec 64 := 0x000000000000583F#64

/-- Resident 0 of tile 0 runs a program on an engine that stands at the word. -/
def State.probeEngine (s : State) (e : Eng) (w : BitVec 32) : State :=
  let r := s.res 0
  let r := { (r.setEst e 1) with life := .active, preempt := false, deferred := [],
                                 sc := { r.sc.enter (BitVec.ofNat 56 probeVa) with tstat := 0 } }
  let r := r.setPrg e { Prg.start with pc := BitVec.ofNat 56 probeVa }
  let s := s.setRes 0 r
  let s := s.modTile 0 (fun t => { t with cur := fput t.cur (engCode e) (some 0),
                                          tlb := { asid := r.asid, page := 1, res := .leaf 3 probeLeaf } :: t.tlb })
  { s with agenda := [], turn := .eng 0 e, mem := memWrite s.mem probeVa (leBytes 4 w.toNat),
           poison := s.poison.filter (fun l => l != probeVa / 64),
           rights := fput s.rights 0 (fget rightsStart s.rights 0 ||| ((1 : BitVec 256) <<< (4 * s.classOf r.asid))) }

/-- A handler run at slice 0 that stands at the word. -/
def State.probeNear (s : State) (w : BitVec 32) : State :=
  let q : RReq := { src := s.pkgId, id := 0, serial := none, scope := 0, rt := false, rp := false, inc := s.inc, ct := none, cls := 6, addr := 0,
                    op := .handler 24 8, op0 := 0, op1 := 0 }
  { s with agenda := [], turn := .near 0, hruns := fput s.hruns 0 (some (startRun { w := 8, prog := [w] } q)) }

/-- A communicator of one rank whose program is the step. -/
def State.probeColl (s : State) (w : BitVec 64) : State :=
  { (s.setComm 0 { Comm.start with live := true, handle := 1, size := 1, slots := 1, chunkBytes := 4096, run := .running, prog := [w] }) with
    agenda := [], turn := .coll 0 }

/-- The word in the instruction set that decodeTableWord reads it in. -/
noncomputable def State.probe (s : State) (nbits w : Nat) : State :=
  if nbits ≤ 32 then
    match tableIsa (BitVec.ofNat 32 w) with
    | some (.handler, _) => s.probeNear (BitVec.ofNat 32 w)
    | some (.vector, _) => s.probeEngine .v (BitVec.ofNat 32 w)
    | some (.matrix, _) => s.probeEngine .m (BitVec.ofNat 32 w)
    | some (.copy, _) => s.probeEngine .c (BitVec.ofNat 32 w)
    | _ => s.probeEngine .s (BitVec.ofNat 32 w)
  else s.probeColl (BitVec.ofNat 64 w)

end Sys2Proof.Machine
end

