-- ==== Sys2Proof/Machine/Step.lean ====
section
/-!
DEFINITION. One step of the machine, and the placing of an instruction where the next step fetches it.
-/

namespace Sys2Proof.Machine

open Sys2Proof

/-- One step: the first move of the agenda, or a turn of the agent whose turn it is. -/
noncomputable def step (s : State) : Host.Outcome State Fault Refusal := s.move

/-- s with an instruction stored where step fetches its next one. -/
noncomputable def State.withFetchWord (s : State) (nbits w : Nat) : State := s.probe nbits w

end Sys2Proof.Machine
end

