-- ==== Sys2Proof/Safety.lean ====
section
/-!
DEFINITION. What counts as a safe run, and the vocabulary of the claims: who runs, what an instruction changes and what it leaves.
-/

namespace Sys2Proof.Machine

open Sys2Proof

/-- A step that answers a next state. -/
def Steps (s t : State) : Prop := step s = .next t

/-- A run of k steps that meets no stop. -/
def Safe (k : Nat) (s : State) : Prop := ∃ t, Host.Core.run Sys2Proof.core k s = .next t

/-! ## Who runs -/

/-- The program whose turn it is runs on the scalar engine of a tile, or is a supervisor core's. -/
def ScalarTurn (s : State) (w : Who) : Prop := s.who = some w ∧ (∀ h e, w = .task h e → e = .s)

/-- Resident h runs on engine e, whose turn it is. -/
def EngineTurn (s : State) (h : Nat) (e : Eng) : Prop := s.who = some (.task h e)

/-! ## What may differ -/

/-- Nothing differs but residents, supervisor cores and event counters: memory, tiles, the Orrery, the fabric, all else is kept. -/
def Locally (s t : State) : Prop := t = { s with residents := t.residents, svs := t.svs, counters := t.counters }

/-- Locally, and of the residents and supervisor cores only the program's own differs. -/
def OnlyProgram (w : Who) (s t : State) : Prop :=
  Locally s t ∧ (∀ h, (∀ e, w ≠ .task h e) → t.res h = s.res h) ∧ (∀ c, w ≠ .sv c → t.svc c = s.svc c)

/-- Of the program's own resident or core, only the scalar context and the scalar program's counts differ. -/
def OnlyScalar (w : Who) (s t : State) : Prop :=
  OnlyProgram w s t ∧
  match w with
  | .task h _ => t.res h = { s.res h with sc := (t.res h).sc, s := (t.res h).s }
  | .sv c => t.svc c = { s.svc c with sc := (t.svc c).sc }

/-- A normal step of the PC queue (R22, R23). -/
def QueueStepped (c d : SCtx) : Prop :=
  d.pc = c.nx1 ∧ d.nx1 = c.nx2 ∧ d.nx2 = c.nx2 + 4 ∧ d.a0 = c.a1 ∧ d.a1 = false

/-- A taken transfer: the two slots stand in the queue, then the target (R22). -/
def QueueTaken (c d : SCtx) (target : Addr) : Prop :=
  d.pc = c.nx1 ∧ d.nx1 = c.nx2 ∧ d.nx2 = target

/-- The trap registers are kept (R24). -/
def TrapsKept (c d : SCtx) : Prop :=
  d.tvec = c.tvec ∧ d.tcause = c.tcause ∧ d.tstat = c.tstat ∧ d.tcmp = c.tcmp ∧ d.epc = c.epc ∧ d.enx1 = c.enx1 ∧
  d.enx2 = c.enx2 ∧ d.eann = c.eann

/-- Every scalar register but d is kept. -/
def SregsKept (w : Who) (d : BitVec 6) (s t : State) : Prop := ∀ n, n ≠ d → t.sreg w n = s.sreg w n

/-- s(d) takes v, a write to s0 being discarded (R13); the queue steps; nothing else of the machine differs. -/
def WritesSreg (w : Who) (d : BitVec 6) (v : Word) (s t : State) : Prop :=
  OnlyScalar w s t ∧ QueueStepped (s.sc w) (t.sc w) ∧ TrapsKept (s.sc w) (t.sc w) ∧
  t.sreg w d = (if d = 0 then 0 else v) ∧ SregsKept w d s t

/-- The scalar program steps over state u, which its instruction has made: the queue steps, no register differs from u's. -/
def ScalarSteps (w : Who) (u t : State) : Prop :=
  OnlyScalar w u t ∧ QueueStepped (u.sc w) (t.sc w) ∧ TrapsKept (u.sc w) (t.sc w) ∧ (t.sc w).sregs = (u.sc w).sregs

/-- A transfer of control to target: the annul bits move up, no register differs from u's (R22, R23). -/
def ScalarJumps (w : Who) (target : Addr) (annul : Bool) (u t : State) : Prop :=
  OnlyScalar w u t ∧ QueueTaken (u.sc w) (t.sc w) target ∧ TrapsKept (u.sc w) (t.sc w) ∧ (t.sc w).sregs = (u.sc w).sregs ∧
  (t.sc w).a0 = (annul || (u.sc w).a1) ∧ (t.sc w).a1 = annul

/-- A branch that is not taken: the queue steps; with annulment both slots are annulled (R137). -/
def ScalarPasses (w : Who) (annul : Bool) (u t : State) : Prop :=
  OnlyScalar w u t ∧ (t.sc w).pc = (u.sc w).nx1 ∧ (t.sc w).nx1 = (u.sc w).nx2 ∧ (t.sc w).nx2 = (u.sc w).nx2 + 4 ∧
  TrapsKept (u.sc w) (t.sc w) ∧ (t.sc w).sregs = (u.sc w).sregs ∧
  (t.sc w).a0 = (annul || (u.sc w).a1) ∧ (t.sc w).a1 = annul

/-- A vector, matrix or copy program steps over state u: its pc moves on by 4 (on the vector engine the distance position by one, R97), no
other part of the resident differs. -/
def EngineSteps (h : Nat) (e : Eng) (u t : State) : Prop :=
  Locally u t ∧ (∀ k, k ≠ h → t.res k = u.res k) ∧ (∀ c, t.svc c = u.svc c) ∧
  t.res h = { (u.res h).setPrg e ((t.res h).prg e) with vpos := (t.res h).vpos } ∧
  ((t.res h).prg e).pc = ((u.res h).prg e).pc + 4 ∧ ((t.res h).prg e).park = ((u.res h).prg e).park ∧
  ((t.res h).prg e).wait = ((u.res h).prg e).wait ∧ (t.res h).vpos = (u.res h).vpos + (if e = .v then 1 else 0)

/-- A program of any engine steps over state u. -/
def ProgramSteps (w : Who) (u t : State) : Prop :=
  match w with
  | .task _ .s => ScalarSteps w u t
  | .sv _ => ScalarSteps w u t
  | .task h e => EngineSteps h e u t

/-- A program of any engine has moved to its next instruction. -/
def Advanced (w : Who) (s t : State) : Prop :=
  match w with
  | .task _ .s => QueueStepped (s.sc w) (t.sc w)
  | .sv _ => QueueStepped (s.sc w) (t.sc w)
  | .task h e => ((t.res h).prg e).pc = ((s.res h).prg e).pc + 4

/-- The state in which a wait that passes goes on: at a settled point a block boundary stands before it (R30, R100). -/
def State.waited (s : State) (w : Who) : State :=
  match w with
  | .task h .s => if (s.res h).sc.settled then s.boundary h .s else s
  | .task h e => s.boundary h e
  | .sv _ => s

/-- Nothing but its condition keeps a wait of the program from passing: no watchdog skip, no pre-emption request (R308, R312). -/
def Unhindered (s : State) (w : Who) : Prop :=
  match w with
  | .task h e => ((s.res h).prg e).pass = false ∧ (s.res h).preempt = false
  | .sv _ => True

/-- The program w has made request q, with the outstanding operation o, and goes on: beside them only the program's control and its sequence states differ, no register
(R124, R251, R356, R360). -/
def Sends (w : Who) (s : State) (q : RReq) (o : ROut) (t : State) : Prop :=
  t = { s with requests := s.requests ++ [q], routs := s.routs ++ [o], nextId := s.nextId + 1, residents := t.residents, svs := t.svs,
               sysSeqs := t.sysSeqs, counters := t.counters } ∧
  Advanced w s t ∧ TrapsKept (s.sc w) (t.sc w) ∧
  (∀ h, t.res h = match w with
    | .task k e => if h = k then { (s.res k).setPrg e ((t.res k).prg e) with
        sc := if e = .s then { (t.res k).sc with sregs := (s.res k).sc.sregs } else (s.res k).sc,
        vpos := if e = .v then (s.res k).vpos + 1 else (s.res k).vpos, seqs := (t.res k).seqs } else s.res h
    | .sv _ => s.res h) ∧
  (∀ c, t.svc c = match w with
    | .sv k => if c = k then { s.svc k with sc := { (t.svc k).sc with sregs := (s.svc k).sc.sregs } } else s.svc c
    | .task _ _ => s.svc c) ∧
  q.id = s.nextId ∧ q.src = s.pkgId ∧ q.rt = false ∧ o.id = q.id ∧ o.req = q ∧ o.owner = w.owner ∧ o.path = w.path ∧ o.scope = q.scope ∧
  o.status = none ∧ o.busy = false ∧ o.iaddr = s.pcOf w ∧
  (∀ h e k, w = .task h e → (s.res h).task = some k → k.replayed = false → q.rp = false ∧ q.inc = s.incOf o.peer)

/-- Request q carries the next sequence of the program toward its owner (R350): the serial names the task, and the program counts one operation more. -/
def Numbered (w : Who) (owner : BitVec 10) (q : RReq) (s t : State) : Prop :=
  (∃ n, q.serial = some n ∧ n.seq = (s.seqFor w.owner owner).next ∧
    ∀ h e, w = .task h e → n.asid = (s.res h).asid ∧ n.nodeInst = (s.res h).nodeInst ∧ n.taskNum = (s.res h).taskNum) ∧
  (t.seqFor w.owner owner).next = (s.seqFor w.owner owner).next + 1 ∧
  (t.seqFor w.owner owner).outstanding = (s.seqFor w.owner owner).outstanding + 1

/-- Request q carries no serial, and no sequence is taken (R349). -/
def Unnumbered (w : Who) (owner : BitVec 10) (q : RReq) (s t : State) : Prop :=
  q.serial = none ∧ (t.seqFor w.owner owner).next = (s.seqFor w.owner owner).next ∧
  (t.seqFor w.owner owner).outstanding = (s.seqFor w.owner owner).outstanding

/-- The operations of the program toward an owner that it does not know to be received leave room for n more (R357). -/
def SerialsFree (s : State) (w : Who) (owner : BitVec 10) (n : Nat) : Prop :=
  ((s.seqFor w.owner owner).next - 1 - (s.seqFor w.owner owner).seen).toNat + n ≤ 2 ^ 30

/-- The resident whose conditions a program's waits test. -/
def Who.resident : Who → Nat
  | .task h _ => h
  | .sv _ => 0

/-- No watermark of the program's tile holds an access to n bytes at a (R21). -/
def NotHeld (s : State) (w : Who) (glob : Bool) (a n : Nat) : Prop :=
  match w with
  | .task h _ => s.heldBy (hTile h) (!glob) (s.res h).asid a n none = false
  | .sv _ => True

/-- The loads of an owner on a path have brought bs for the n bytes at va (R275). -/
def Brought (s : State) (o : Owner) (path : BitVec 3) (va n : Nat) (bs : List Byte) : Prop :=
  (∀ u ∈ readUnits 1 [(va, n)], (allBytes (s.recBytes o path) u.1 u.2).isSome = true) ∧
  bs = (readUnits 1 [(va, n)]).flatMap (fun u => (allBytes (s.recBytes o path) u.1 u.2).getD [])

/-- n bytes of a record at va are not held, and the program's loads of them have returned bs (R250). -/
def RecordHere (s : State) (w : Who) (va n : Nat) (bs : List Byte) : Prop :=
  NotHeld s w true va n ∧ Brought s w.owner w.path va n bs

/-- The program's access to address va translates to a target and passes its checks at once (R291 to R298). -/
def Translates (s : State) (w : Who) (va : Nat) (acc : Acc) (acqrel : Bool) (tgt : Target) (leaf : BitVec 64) : Prop :=
  s.translate w.tlb (s.asidOf w) (s.classOfWho w) va acc acqrel = .ok tgt leaf ∧ s.dirtyOk w.tlb (s.asidOf w) va acc = true

/-- The instruction answers a next state of which P holds. -/
def Completes (i : Instr) (s : State) (P : State → Prop) : Prop := ∃ t, exec i s = .next t ∧ P t

/-! ## The vector engine -/

/-- The state that an instruction of the vector program reads: the writes due have landed (R97). -/
def State.landed (s : State) (h : Nat) : State := s.modRes h (fun r => r.landTo r.vpos)

/-- No gap rule is broken by an instruction that reads rd and writes wr, each with its latency where it has one: CHECK = 0, or no register
named is awaited (R99, R101). -/
def NoGap (s : State) (h : Nat) (rd : List VTgt) (wr : List (VTgt × Option Nat)) : Prop :=
  let r := (s.landed h).res h
  r.check = false ∨
    ((∀ t ∈ rd, t.real = true → s.uncovered h t = false ∧ ∀ p ∈ r.pend, p.tgt ≠ t) ∧
     (∀ x ∈ wr, x.1.real = true → s.uncovered h x.1 = false ∧ ∀ l, x.2 = some l → ∀ p ∈ r.pend, p.tgt = x.1 → p.at_ < r.vpos + l))

/-- It is the vector program's turn, the registers named are bound to no stream, and no gap rule is broken (R28, R99). -/
def VectorReady (s : State) (h : Nat) (rd : List VTgt) (wr : List (VTgt × Option Nat)) : Prop :=
  s.who = some (.task h .v) ∧ (∀ n, .vreg n ∈ rd ∨ (∃ l, (.vreg n, l) ∈ wr) → (s.res h).portBind n = 0) ∧ NoGap s h rd wr

/-- The vector program's instruction has issued over state s, its resident becoming r: the program counter moves on by 4, the distance position by
1 + g (R97), REPIDX reads 0, and nothing else of the machine differs. -/
def VectorIssues (h : Nat) (g : BitVec 2) (r : Resident) (s t : State) : Prop :=
  (let u : State := { s with fresh := s.fresh + 1 }
   Locally u t ∧ (∀ k, k ≠ h → t.res k = u.res k) ∧ (∀ c, t.svc c = u.svc c)) ∧
  t.res h = { r with v := (t.res h).v, vpos := r.vpos + 1 + g.toNat, lanesDone := 0, rep := 0, vctl := r.vctl &&& 1 } ∧
  (t.res h).v.pc = r.v.pc + 4 ∧ (t.res h).v.park = r.v.park ∧ (t.res h).v.wait = r.v.wait

/-- One register write joins those that have not landed, at distance l, in the bits of en, and with it the flags of fl, which RCTL takes when the write
lands (R14, R60, R97, R98). -/
def FixedWrites (h : Nat) (g : BitVec 2) (l : Nat) (tgt : VTgt) (en val : VReg) (fl : Flg) (s t : State) : Prop :=
  let r := (s.landed h).res h
  VectorIssues h g { r with pend := insertPend { at_ := r.vpos + l, tgt := tgt, val := val, en := en, flg := fl.code } r.pend } s t

/-- fl holds exactly the conditions that the values of P raise (R60). -/
def FlagsOf (fl : Flg) (P : Flg → Prop) : Prop :=
  (fl.inv = true ↔ ∃ x, P x ∧ x.inv = true) ∧ (fl.ovf = true ↔ ∃ x, P x ∧ x.ovf = true) ∧
  (fl.unf = true ↔ ∃ x, P x ∧ x.unf = true) ∧ (fl.inx = true ↔ ∃ x, P x ∧ x.inx = true)

/-- Lane i of v(d) will be f i where the mask holds it, the other lanes kept; the active lanes' flags come with it (R157, R158, R159). -/
def LaneWrites (h : Nat) (g : BitVec 2) (l : Nat) (d : BitVec 7) (m : BitVec 128) (f : Nat → BitVec 32 × Flg) (s t : State) : Prop :=
  ∃ val fl, FixedWrites h g l (.vreg d.toNat) (laneBits m) val fl s t ∧ (∀ i, i < 128 → m.getLsbD i = true → lane val i = (f i).1) ∧
    FlagsOf fl (fun x => ∃ i, i < 128 ∧ m.getLsbD i = true ∧ x = (f i).2)

/-- The same in the fp64 view: element i follows mask bit 2i (R157). -/
def ElemWrites (h : Nat) (g : BitVec 2) (l : Nat) (d : BitVec 7) (m : BitVec 128) (f : Nat → BitVec 64 × Flg) (s t : State) : Prop :=
  ∃ val fl, FixedWrites h g l (.vreg d.toNat) (laneBits (elemMask m)) val fl s t ∧
    (∀ i, i < 64 → m.getLsbD (2 * i) = true → elem val i = (f i).1) ∧
    FlagsOf fl (fun x => ∃ i, i < 64 ∧ m.getLsbD (2 * i) = true ∧ x = (f i).2)

/-- The same with no condition raised. -/
def PlainLanes (h : Nat) (g : BitVec 2) (l : Nat) (d : BitVec 7) (m : BitVec 128) (f : Nat → BitVec 32) (s t : State) : Prop :=
  ∃ val, FixedWrites h g l (.vreg d.toNat) (laneBits m) val Flg.none s t ∧ (∀ i, i < 128 → m.getLsbD i = true → lane val i = f i)

/-- Every lane of v(d) will be f i (R163, R176, R177). -/
def WholeVector (h : Nat) (g : BitVec 2) (l : Nat) (d : BitVec 7) (f : Nat → BitVec 32) (fl : Flg) (s t : State) : Prop :=
  ∃ val, FixedWrites h g l (.vreg d.toNat) allBits val fl s t ∧ (∀ i, i < 128 → lane val i = f i)

/-- Bit i of mask e will be f i where m holds it, the other bits kept; a write to m0 is discarded (R12, R160). -/
def MaskWrites (h : Nat) (g : BitVec 2) (l : Nat) (e : BitVec 3) (m : BitVec 128) (f : Nat → Bool) (s t : State) : Prop :=
  if e = 0 then VectorIssues h g ((s.landed h).res h) s t
  else ∃ val : BitVec 128, FixedWrites h g l (.mask e.toNat) (m.setWidth 4096) (val.setWidth 4096) Flg.none s t ∧
    (∀ i, i < 128 → m.getLsbD i = true → val.getLsbD i = f i)

/-- k(d) takes v (R160). -/
def KWrites (h : Nat) (g : BitVec 2) (d : BitVec 5) (v : Word) (s t : State) : Prop :=
  let r := (s.landed h).res h
  VectorIssues h g { r with kregs := fset (0 : Word) r.kregs d.toNat v } s t

/-! ## Operands of the matrix engine (R199, R201, R202) -/

/-- A matrix stream of one of the formats, BASE and RS multiples of 64. -/
def MatrixSide (q : BitVec 512) (formats : List Nat) : Prop :=
  mqKind q = 1 ∧ mqFmt q ∈ formats ∧ mqBase q % 64 = 0 ∧ mqRs q % 64 = 0

/-- Rows of k packed elements lie in a window of size bytes. -/
def RowsIn (size : Nat) (q : BitVec 512) (rows k : Nat) : Prop :=
  ∀ x, x < rows → mqBase q + x * mqRs q + ((mqFormat q).width * k + 7) / 8 ≤ size

/-- One scale byte for each of n units of each row, and the fp32 tensor scale of each row, lie in the window, the latter at multiples of 4. -/
def ScalesIn (size : Nat) (q : BitVec 512) (rows n : Nat) : Prop :=
  ∀ x, x < rows → mqSbase q + x * mqSstride q + n ≤ size
def TensorIn (size : Nat) (q : BitVec 512) (rows : Nat) : Prop :=
  mqTbase q % 4 = 0 ∧ mqTstride q % 4 = 0 ∧ ∀ x, x < rows → mqTbase q + x * mqTstride q + 4 ≤ size

/-- The 72-byte images of n columns in each of g groups, two for each int8 column, lie in the window from base on. -/
def ImagesIn (size : Nat) (q : BitVec 512) (base n g : Nat) : Prop :=
  ∀ x, x < g * n → base + 72 * (if mqFmt q = 9 then 2 else 1) * (x + 1) ≤ size

/-- N columns of 1 to 64, K a multiple of 64 up to 16,384, with their Ephemeris slots in EPHWIN. -/
def SlotsIn (r : Resident) (q : BitVec 512) (n k : Nat) : Prop :=
  1 ≤ n ∧ n ≤ 64 ∧ 64 ≤ k ∧ k ≤ 16384 ∧ k % 64 = 0 ∧ mqEphbase q + (if mqFmt q = 9 then 2 else 1) * (n * (k / 64)) ≤ r.ephCount

/-- Both streams are fp32, or both fp64, with BASE and RS multiples of the element's e bytes. -/
def RealSides (qa qb : BitVec 512) (e : Nat) : Prop :=
  mqFmt qa = mqFmt qb ∧ (mqFmt qa = 0 ∧ e = 4 ∨ mqFmt qa = 1 ∧ e = 8) ∧
  ∀ q ∈ [qa, qb], mqKind q = 1 ∧ mqBase q % e = 0 ∧ mqRs q % e = 0

/-- Ranges of the list read lie in the window and share no byte with ranges of the list written, which lie in it too. -/
def ApartIn (size : Nat) (a b : Nat × Nat → Prop) : Prop :=
  (∀ x, a x ∨ b x → x.1 + x.2 ≤ size) ∧ ∀ x y, a x → b y → x.1 + x.2 ≤ y.1 ∨ y.1 + y.2 ≤ x.1

/-! ## Collective programs, handler runs and events -/

/-- Memory, tiles, residents and supervisor cores are kept. -/
def Untouched (s t : State) : Prop := t.mem = s.mem ∧ t.tiles = s.tiles ∧ t.residents = s.residents ∧ t.svs = s.svs

/-- Of programs, tiles and memory only scalar registers of the program w may differ. -/
def OnlyScalarValue (w : Who) (s t : State) : Prop :=
  t.mem = s.mem ∧ t.tiles = s.tiles ∧
  (∀ h, t.res h = match w with
    | .task k _ => if h = k then { s.res h with sc := { (s.res h).sc with sregs := (t.res h).sc.sregs } } else s.res h
    | .sv _ => s.res h) ∧
  (∀ c, t.svc c = match w with
    | .sv k => if c = k then { s.svc c with sc := { (s.svc c).sc with sregs := (t.svc c).sc.sregs } } else s.svc c
    | .task _ _ => s.svc c)

/-- x is the running member c, whose step has its turn. -/
def MemberRuns (s : State) (c : Nat) (x : Comm) : Prop :=
  s.turn = .coll c ∧ s.comm c = x ∧ x.live = true ∧ x.run = .running

/-- Of programs, tiles, memory and members only member c may differ. -/
def OnlyMember (c : Nat) (s t : State) : Prop :=
  Untouched s t ∧ t.gaccs = s.gaccs ∧ ∀ d, d ≠ c → t.comm d = s.comm d

/-- Every store of member c's program has committed (R267). -/
def EngineSettled (s : State) (c : Nat) : Prop := ∀ g ∈ s.gaccs, g.owner = .coll c → g.isStore = false

/-- Member c's program has stopped with a cause: nothing is written, and a record that names communicator, step, cause and rank waits for the queue of the quadrant's first
supervisor core (R271, R272). -/
def MemberStops (c cause : Nat) (s t : State) : Prop :=
  (t.comm c).run = .stopped cause ∧ (t.comm c).pos = (s.comm c).pos ∧ (∀ d, d ≠ c → t.comm d = s.comm d) ∧ t.mem = s.mem ∧ t.residents = s.residents ∧
  t.gaccs = s.gaccs ∧ (∀ k, (t.tile k).spad = (s.tile k).spad) ∧
  ∃ rec, (t.svc (2 * (c / 256))).waiting = (s.svc (2 * (c / 256))).waiting ++ [rec] ∧ rec.code = 0x34 ∧ rec.src = 4 ∧ rec.comm = (s.comm c).handle ∧
    rec.detail = BitVec.ofNat 64 (cause + 256 * (s.comm c).rank) ∧ rec.iaddr = (s.comm c).progAddr + BitVec.ofNat 64 (8 * (s.comm c).pos)

/-- n bytes at an address may be used by a step: global memory, or the window of a resident of the tile whose task has the communicator's ASID (R264). -/
def StepWindow (s : State) (x : Comm) (d : BitVec 256) (lo n : Nat) : Prop :=
  dSpace d = 1 → ∃ r, r < 8 ∧ (let y := s.res (mkHandle (dTile d) r)
    y.life ≠ .free ∧ y.asid = x.asid ∧ y.spBase ≤ (dBase d).toNat + lo ∧ (dBase d).toNat + lo + n ≤ y.spBase + y.spSize)

/-- An idle channel, or one armed for these bytes, may be filled; no channel is named by 0xFF (R231, R264). -/
def MayFill (s : State) (tile ch : Nat) (scratch : Bool) (a n : Nat) : Prop :=
  let k := s.chan tile ch
  ch ≠ 0xFF → k.base.toNat ≤ k.wm.toNat → k.wm.toNat < k.limit.toNat → k.space = scratch ∧ a = k.wm.toNat ∧ a + n ≤ k.limit.toNat

/-- Of programs, tiles and memory only member c differs, and the channel, which the member's step fills from now: taken over, or armed for the bytes (R231). -/
def BeginsFilling (c tile ch : Nat) (scratch : Bool) (asid : BitVec 14) (a n : Nat) (s t : State) : Prop :=
  let k := s.chan tile ch
  t.mem = s.mem ∧ t.residents = s.residents ∧ t.svs = s.svs ∧ t.gaccs = s.gaccs ∧ (∀ d, d ≠ c → t.comm d = s.comm d) ∧
  (∀ j, t.tile j = if j = tile ∧ ch ≠ 0xFF then { s.tile j with chans := (t.tile j).chans } else s.tile j) ∧ (∀ y, y ≠ ch → t.chan tile y = s.chan tile y) ∧
  (ch ≠ 0xFF → t.chan tile ch = if k.base.toNat ≤ k.wm.toNat ∧ k.wm.toNat < k.limit.toNat then { k with filling := true }
    else { space := scratch, base := BitVec.ofNat 56 a, limit := BitVec.ofNat 56 (a + n), wm := BitVec.ofNat 56 a, asid := asid, filling := true })

/-- The channel of a step when every byte below an address is written: WM passes whole 64-byte granules, and LIMIT with the last byte (R231). -/
def State.channelAt (s : State) (tile ch a : Nat) (fill : Bool) : State :=
  let k := s.chan tile ch
  if ch = 0xFF then s
  else s.setChan tile ch { k with wm := BitVec.ofNat 56 (max k.wm.toNat (if a = k.limit.toNat then a else a / 64 * 64)), filling := fill }

/-- The bytes of [a, a + n), of a tile's scratchpad or of memory, that the engine's loads have brought for member c (R275). -/
def BytesHere (s : State) (c : Nat) (scratch : Bool) (tile a n : Nat) (bs : List Byte) : Prop :=
  let here := fun (u : Nat × Nat) => allBytes (s.recBytes (.coll c) 4) ((if scratch then spadKey tile else 0) + u.1) u.2
  (∀ u ∈ readUnits (if scratch then 4 else 1) [(a, n)], (here u).isSome = true) ∧
  bs = (readUnits (if scratch then 4 else 1) [(a, n)]).flatMap (fun u => (here u).getD [])

/-- A step of member c, x in state s, has completed: the program goes on at pos, and after its last step, with nothing of it under way, it ends
and its start event is signalled with state 1 when nothing was missed (R267, R271, R376). -/
def StepPasses (c : Nat) (x : Comm) (pos : Nat) (s t : State) : Prop :=
  OnlyMember c s t ∧ (t.comm c).pos = pos ∧ (t.comm c).step = none ∧ (t.comm c).sends = x.sends ∧ (t.comm c).status = x.status ∧
  (let ends := x.prog.length ≤ pos ∧ x.sends = [] ∧ EngineSettled s c
   (ends → (t.comm c).run = .completed ∧
     (x.incomplete = false → x.event ≠ 0 → hdlPkg x.event = s.pkgId → s.eventLive x.event = true →
       t.updates = s.updates ++ [{ idx := hdlIdx x.event, gen := hdlGen x.event, op := .evSignal x.incr 1 0, keep := false }])) ∧
   (¬ ends → (t.comm c).run = .running ∧ t.updates = s.updates))

/-- Among the steps after a LOOP, m is the place of the ENDL that closes it (R263). -/
def ClosesAt (ws : List (BitVec 64)) (m : Nat) : Prop :=
  let count := fun (op k : Nat) => ((ws.take k).filter (fun w => decide (swOp w = op))).length
  (∃ w, ws[m]? = some w ∧ swOp w = 0x0B) ∧ count 0x0B m = count 0x0A m ∧ ∀ k, k ≤ m → count 0x0B k ≤ count 0x0A k

/-- The handler run of slice sl goes on as u; nothing else of the machine differs. -/
def RunGoes (sl : Nat) (u : HRun) (s t : State) : Prop :=
  fget none t.hruns sl = some u ∧ t = { s with hruns := t.hruns } ∧ ∀ j, j ≠ sl → fget none t.hruns j = fget none s.hruns j

/-- The run r of slice sl has ended with an outcome, which its entry beside the slice holds and its requester of this package receives
(R261, R354). -/
def RunEnds (sl : Nat) (r : HRun) (st : RStatus) (result : BitVec 128) (s t : State) : Prop :=
  fget none t.hruns sl = none ∧ (∀ j, j ≠ sl → fget none t.hruns j = fget none s.hruns j) ∧
  t.tiles = s.tiles ∧ t.residents = s.residents ∧ t.svs = s.svs ∧
  (∀ g, r.req.serial = some g → ∀ e ∈ t.agEntries sl, e.matches r.req.src g = true → e.pending = false ∧ e.status = st ∧ e.result = result) ∧
  (r.req.src = s.pkgId → t.responses = s.responses ++
    [{ src := s.pkgId, dst := r.req.src, id := r.req.id, status := st, result := result, data := [], inc := s.inc }])

/-! ## Faults and traps -/

/-- The program of resident h on engine e has parked for a fault: ESTAT says so, the record is kept and joins those that wait for the queue of
the tile's supervisor core, the program's pc, its registers and memory are kept (R35, R304, R305). -/
def Parks (h : Nat) (e : Eng) (kind : ParkKind) (rec : FaultRec) (s t : State) : Prop :=
  (t.res h).est e = 2 ∧ ((t.res h).prg e).park = some { kind := kind, fault := rec } ∧ t.pcOf (.task h e) = s.pcOf (.task h e) ∧
  (∀ d, d ≠ e → (t.res h).est d = (s.res h).est d) ∧
  (t.res h).sc = (s.res h).sc ∧ (t.res h).kregs = (s.res h).kregs ∧ (t.res h).nregs = (s.res h).nregs ∧ (t.res h).cregs = (s.res h).cregs ∧
  (t.svc (hTile h / 36)).waiting = (s.svc (hTile h / 36)).waiting ++ [rec] ∧ t.mem = s.mem ∧ ∀ k, (t.tile k).spad = (s.tile k).spad

/-- What every record of a resident's program names (R304). -/
def RecordOf (s : State) (h : Nat) (e : Eng) (code : Nat) (iaddr : Word) (rec : FaultRec) : Prop :=
  rec.code = BitVec.ofNat 8 code ∧ rec.src = BitVec.ofNat 8 (engCode e) ∧ rec.handle = BitVec.ofNat 16 h ∧ rec.asid = (s.res h).asid ∧
  rec.iaddr = iaddr ∧ rec.nodeInst = (s.res h).nodeInst ∧ rec.taskNum = (s.res h).taskNum

/-- A trap is taken with a kind and a code: the queue as it stands is saved, PIE takes IE, IE falls, INTRAP rises, control goes to TVEC (R24). -/
def TrapTaken (kind code : Nat) (c d : SCtx) : Prop :=
  d.epc = c.pc ∧ d.enx1 = c.nx1 ∧ d.enx2 = c.nx2 ∧ d.eann.getLsbD 0 = c.a0 ∧ d.eann.getLsbD 1 = c.a1 ∧
  d.tcause = BitVec.ofNat 64 (kind + 256 * code) ∧ d.tstat.getLsbD 0 = false ∧ d.tstat.getLsbD 1 = c.tstat.getLsbD 0 ∧ d.tstat.getLsbD 2 = true ∧
  d.pc = c.tvec ∧ d.nx1 = c.tvec + 4 ∧ d.nx2 = c.tvec + 8 ∧ d.a0 = false ∧ d.a1 = false ∧ d.sregs = c.sregs ∧ d.tvec = c.tvec ∧ d.tcmp = c.tcmp

/-- Only the scalar context of the program w differs. -/
def OnlyContext (w : Who) (s t : State) : Prop :=
  match w with
  | .task h _ => t = s.setRes h { s.res h with sc := (t.res h).sc }
  | .sv c => t = s.setSvc c { s.svc c with sc := (t.svc c).sc }

/-! ## Invariants -/

/-- Memory, every scratchpad and the buffer of every handler run stand in their canonical form: addresses strictly rising, no byte listed
that an unlisted address reads as; a handler's buffer lies in its window (R2, R261). -/
def Formed (s : State) : Prop :=
  Memory.wf s.mem = true ∧ (∀ k, Memory.wf (s.tile k).spad = true) ∧
  (∀ k r, fget none s.hruns k = some r → r.buf.Pairwise (fun p q => p.1 < q.1) ∧ ∀ p ∈ r.buf, p.1 < 4096)

/-- A power of two between two bounds, or 0. -/
def PowerOrZero (lo hi n : Nat) : Prop := n = 0 ∨ ∃ i, lo ≤ i ∧ i ≤ hi ∧ n = 2 ^ i

/-- The registers with a range hold a value of it (R319, R324, R329, R389, R400, R402). -/
def Ranged (s : State) : Prop :=
  (1000 ≤ s.pcap.toNat ∧ s.pcap.toNat ≤ 3200) ∧ (∀ d, 12 ≤ (fget 20 s.dvfs d).toNat ∧ (fget 20 s.dvfs d).toNat ≤ 22) ∧
  (∀ q, (fget 0 s.llcpin q).toNat ≤ 512) ∧ (∀ d, s.dieState d ≤ 4) ∧ (∀ p, (s.port p).state.toNat ≤ 4) ∧
  (∀ c, PowerOrZero 6 16 (s.svc c).fqsize.toNat ∧ (s.svc c).fqbase.toNat % 64 = 0) ∧
  PowerOrZero 6 12 s.crsize.toNat ∧ s.crbase.toNat % 4096 = 0

/-! ## What a turn runs -/

/-- Nothing stands between a resident's turn on an engine and its next instruction: it is active, started, not parked, no pre-emption is asked
for, no block boundary is due, no operation stands part-way; the scalar program has no deferred fault, no timer interrupt and no annulled slot
(R24, R30, R32, R93, R256, R312). -/
def Issues (s : State) (h : Nat) (e : Eng) : Prop :=
  let r := s.res h
  r.life = .active ∧ r.est e = 1 ∧ (r.prg e).park = none ∧ r.preempt = false ∧ (r.prg e).bnd = false ∧ (r.prg e).blk < 256 ∧
  (∀ d, r.dp = some d → d.stopped = false) ∧ (∀ x, r.xf = some x → x.stopped = false) ∧
  (e = .s → r.deferred = [] ∧ r.sc.a0 = false ∧ (r.sc.tcmp.toNat ≤ s.stamp.toNat → r.sc.tstat.getLsbD 0 = true → r.sc.tstat.getLsbD 2 = true))

end Sys2Proof.Machine
end

