-- ==== Sys2Proof/Certificates/Slice0/Obligations.lean ====
section
/-!
DEFINITION. The statements for the provers, each formalising rules of the spec.
-/

open Sys2Proof Sys2Proof.Machine

/-! ## The scalar engine -/

/-- R128, R129: the two-operand scalar instructions other than multiplication and division write their result and step the queue. -/
def Obligations.ScalarTwoOperandResults : Prop :=
  ∀ (s : State) (w : Who) (d a b : BitVec 6), ScalarTurn s w →
    let x := s.sreg w a
    let y := s.sreg w b
    Completes (.add d a b) s (WritesSreg w d (BitVec.ofNat 64 (x.toNat + y.toNat)) s) ∧
    Completes (.sub d a b) s (WritesSreg w d (BitVec.ofInt 64 (x.toInt - y.toInt)) s) ∧
    Completes (.and d a b) s (WritesSreg w d (x &&& y) s) ∧
    Completes (.or d a b) s (WritesSreg w d (x ||| y) s) ∧
    Completes (.xor d a b) s (WritesSreg w d (x ^^^ y) s) ∧
    Completes (.shl d a b) s (WritesSreg w d (BitVec.ofNat 64 (x.toNat * 2 ^ (y.toNat % 64))) s) ∧
    Completes (.shr d a b) s (WritesSreg w d (BitVec.ofNat 64 (x.toNat / 2 ^ (y.toNat % 64))) s) ∧
    Completes (.sra d a b) s (WritesSreg w d (BitVec.ofInt 64 (x.toInt / 2 ^ (y.toNat % 64))) s) ∧
    Completes (.slt d a b) s (WritesSreg w d (if x.toInt < y.toInt then 1 else 0) s) ∧
    Completes (.sltu d a b) s (WritesSreg w d (if x.toNat < y.toNat then 1 else 0) s) ∧
    Completes (.min d a b) s (WritesSreg w d (if x.toInt < y.toInt then x else y) s) ∧
    Completes (.max d a b) s (WritesSreg w d (if y.toInt < x.toInt then x else y) s) ∧
    Completes (.minu d a b) s (WritesSreg w d (if x.toNat < y.toNat then x else y) s) ∧
    Completes (.maxu d a b) s (WritesSreg w d (if y.toNat < x.toNat then x else y) s)

/-- R129, R130: multiplication and division, with every edge value of R130, in the integers. -/
def Obligations.ScalarMultiplyDivideResults : Prop :=
  ∀ (s : State) (w : Who) (d a b : BitVec 6), ScalarTurn s w →
    let x := s.sreg w a
    let y := s.sreg w b
    Completes (.mul d a b) s (WritesSreg w d (BitVec.ofNat 64 (x.toNat * y.toNat)) s) ∧
    Completes (.mulh d a b) s (WritesSreg w d (BitVec.ofInt 64 (x.toInt * y.toInt / 2 ^ 64)) s) ∧
    Completes (.mulhu d a b) s (WritesSreg w d (BitVec.ofNat 64 (x.toNat * y.toNat / 2 ^ 64)) s) ∧
    Completes (.div d a b) s (WritesSreg w d (if y = 0 then BitVec.ofInt 64 (-1) else BitVec.ofInt 64 (x.toInt.tdiv y.toInt)) s) ∧
    Completes (.divu d a b) s (WritesSreg w d (if y = 0 then BitVec.ofNat 64 (2 ^ 64 - 1) else BitVec.ofNat 64 (x.toNat / y.toNat)) s) ∧
    Completes (.rem d a b) s (WritesSreg w d (if y = 0 then x else BitVec.ofInt 64 (x.toInt.tmod y.toInt)) s) ∧
    Completes (.remu d a b) s (WritesSreg w d (if y = 0 then x else BitVec.ofNat 64 (x.toNat % y.toNat)) s)

/-- R87, R129, R131, R132: NOP, the one-operand, immediate and upper-immediate instructions. -/
def Obligations.ScalarImmediateResults : Prop :=
  ∀ (s : State) (w : Who) (d a n : BitVec 6) (i : BitVec 14) (u : BitVec 20), ScalarTurn s w →
    let x := s.sreg w a
    Completes .nop s (fun t => OnlyScalar w s t ∧ QueueStepped (s.sc w) (t.sc w) ∧ TrapsKept (s.sc w) (t.sc w) ∧ (t.sc w).sregs = (s.sc w).sregs) ∧
    Completes (.clz d a) s (WritesSreg w d (if x = 0 then 64 else BitVec.ofNat 64 (63 - x.toNat.log2)) s) ∧
    Completes (.ctz d a) s (fun t => ∃ z, WritesSreg w d (BitVec.ofNat 64 z) s t ∧ z ≤ 64 ∧ (∀ j, j < z → x.getLsbD j = false) ∧ (z < 64 → x.getLsbD z = true)) ∧
    Completes (.popc d a) s (WritesSreg w d (BitVec.ofNat 64 (((List.range 64).filter (fun j => x.getLsbD j)).length)) s) ∧
    Completes (.addi d a i) s (WritesSreg w d (BitVec.ofInt 64 (x.toInt + i.toInt)) s) ∧
    Completes (.andi d a i) s (WritesSreg w d (x &&& BitVec.ofInt 64 i.toInt) s) ∧
    Completes (.ori d a i) s (WritesSreg w d (x ||| BitVec.ofInt 64 i.toInt) s) ∧
    Completes (.xori d a i) s (WritesSreg w d (x ^^^ BitVec.ofInt 64 i.toInt) s) ∧
    Completes (.slti d a i) s (WritesSreg w d (if x.toInt < i.toInt then 1 else 0) s) ∧
    Completes (.sltiu d a i) s (WritesSreg w d (if x.toNat < (BitVec.ofInt 64 i.toInt).toNat then 1 else 0) s) ∧
    Completes (.muli d a i) s (WritesSreg w d (BitVec.ofInt 64 (x.toInt * i.toInt)) s) ∧
    Completes (.shli d a n) s (WritesSreg w d (BitVec.ofNat 64 (x.toNat * 2 ^ n.toNat)) s) ∧
    Completes (.shri d a n) s (WritesSreg w d (BitVec.ofNat 64 (x.toNat / 2 ^ n.toNat)) s) ∧
    Completes (.srai d a n) s (WritesSreg w d (BitVec.ofInt 64 (x.toInt / 2 ^ n.toNat)) s) ∧
    Completes (.lui d u) s (WritesSreg w d (BitVec.ofInt 64 (u.toInt * 2 ^ 12)) s) ∧
    Completes (.addpc d u) s (WritesSreg w d (BitVec.ofInt 64 ((s.pcOf w).toNat + u.toInt * 2 ^ 12)) s)

/-- R16, R133, R134: scratchpad loads and stores of the scalar engine, in the window and aligned: the value loaded, the bytes stored and no other. -/
def Obligations.ScalarScratchpadAccesses : Prop :=
  ∀ (s : State) (h : Nat) (z : BitVec 2) (d a : BitVec 6) (i : BitVec 14),
    let w : Who := .task h .s
    let n := 2 ^ z.toNat
    let tile := s.tile (hTile h)
    let base := (s.res h).spBase
    let va := (BitVec.ofInt 64 ((s.sreg w a).toInt + i.toInt)).toNat
    let vz := (s.sreg w a).toNat
    ScalarTurn s w →
    (va < (s.res h).spSize → va % n = 0 → NotHeld s w false (base + va) n →
      (let x := leNat (memRead tile.spad (base + va) n)
       Completes (.lds z d a i) s (WritesSreg w d (BitVec.ofInt 64 (if x < 2 ^ (8 * n - 1) then x else (x : Int) - 2 ^ (8 * n))) s)) ∧
      Completes (.sts z d a i) s (fun t =>
        ScalarSteps w (s.setTile (hTile h) { tile with spad := memWrite tile.spad (base + va) (leBytes n (s.sreg w d).toNat) }) t ∧
        memRead (t.tile (hTile h)).spad (base + va) n = leBytes n (s.sreg w d).toNat ∧
        (∀ x, x < base + va ∨ base + va + n ≤ x → memByte (t.tile (hTile h)).spad x = memByte tile.spad x) ∧
        (∀ k, k ≠ hTile h → t.tile k = s.tile k) ∧ (∀ x, memByte t.mem x = memByte s.mem x))) ∧
    (vz < (s.res h).spSize → vz % n = 0 → NotHeld s w false (base + vz) n →
      Completes (.ldsZ d a z) s (WritesSreg w d (BitVec.ofNat 64 (leNat (memRead tile.spad (base + vz) n))) s))

/-- R16, R127, R135: a scratchpad access whose offset is not below the window's size raises state-use, a misaligned one inside it an alignment fault (though its
bytes end past the window), and one of a supervisor core illegal-instruction. -/
def Obligations.ScalarScratchpadFaults : Prop :=
  ∀ (s : State) (w : Who) (z : BitVec 2) (d a : BitVec 6) (i : BitVec 14), ScalarTurn s w →
    let n := 2 ^ z.toNat
    let va := BitVec.ofInt 64 ((s.sreg w a).toInt + i.toInt)
    let vz := s.sreg w a
    match w with
    | .task h _ =>
      ((s.res h).spSize ≤ va.toNat →
        exec (.lds z d a i) s = .next (s.stateUse w) ∧ exec (.sts z d a i) s = .next (s.stateUse w)) ∧
      ((s.res h).spSize ≤ vz.toNat → exec (.ldsZ d a z) s = .next (s.stateUse w)) ∧
      (va.toNat < (s.res h).spSize → va.toNat % n ≠ 0 → NotHeld s w false ((s.res h).spBase + va.toNat) n →
        exec (.lds z d a i) s = .next (s.alignFault w n va) ∧ exec (.sts z d a i) s = .next (s.alignFault w n va)) ∧
      (vz.toNat < (s.res h).spSize → vz.toNat % n ≠ 0 → NotHeld s w false ((s.res h).spBase + vz.toNat) n →
        exec (.ldsZ d a z) s = .next (s.alignFault w n vz))
    | .sv _ =>
      exec (.lds z d a i) s = .next (s.illegal w (wordOf (.lds z d a i))) ∧
      exec (.sts z d a i) s = .next (s.illegal w (wordOf (.sts z d a i))) ∧
      exec (.ldsZ d a z) s = .next (s.illegal w (wordOf (.ldsZ d a z)))

/-- R124, R133, R134, R281: a global load that is aligned, not held and translated joins the accesses in flight with its address, size,
destination and ordering marks; the program goes on and no register or memory byte differs yet. -/
def Obligations.ScalarGlobalLoadsIssue : Prop :=
  ∀ (s : State) (w : Who) (z : BitVec 2) (d a : BitVec 6) (i : BitVec 14) (c : BitVec 3) (tgt : Target) (leaf : BitVec 64),
    ScalarTurn s w →
    let n := 2 ^ z.toNat
    let va := (BitVec.ofInt 64 ((s.sreg w a).toInt + i.toInt)).toNat
    let vz := (s.sreg w a).toNat
    let issues := fun (acq signed : Bool) (scope : BitVec 3) (addr : Nat) (t : State) => ∃ g,
      ScalarSteps w { s with gaccs := s.gaccs ++ [g], nextId := s.nextId + 1 } t ∧
      g.id = s.nextId ∧ g.owner = w.owner ∧ g.path = 0 ∧ g.isStore = false ∧ g.tgt = tgt ∧ g.va = addr ∧ g.n = n ∧
      g.acq = acq ∧ g.rel = false ∧ g.scope = scope ∧ g.dest = .sreg d.toNat signed ∧ g.failed = none
    (va % n = 0 → NotHeld s w true va n → Translates s w va .load false tgt leaf →
      Completes (.ldg z d a i) s (issues false true 0 va)) ∧
    (vz % n = 0 → NotHeld s w true vz n → Translates s w vz .load false tgt leaf →
      Completes (.ldgZ d a z) s (issues false false 0 vz)) ∧
    (vz % n = 0 → NotHeld s w true vz n → Translates s w vz .load true tgt leaf →
      Completes (.ldgAcq d a c z) s (issues true true c vz) ∧ Completes (.ldgAcqZ d a c z) s (issues true false c vz))

/-- R124, R133, R134, R276, R281, R298, R350: a global store likewise; its bytes are the low bytes of s(d), one to an SO page of another package takes the program's next
sequence toward it, and memory differs at most in the D bit of the page's entry. -/
def Obligations.ScalarGlobalStoresIssue : Prop :=
  ∀ (s : State) (w : Who) (z : BitVec 2) (d a : BitVec 6) (i : BitVec 14) (c : BitVec 3) (tgt : Target) (leaf : BitVec 64),
    ScalarTurn s w →
    let n := 2 ^ z.toNat
    let va := (BitVec.ofInt 64 ((s.sreg w a).toInt + i.toInt)).toNat
    let vz := (s.sreg w a).toNat
    let numbered := tgt.aper = 2 ∧ tgt.kind = 0
    let issues := fun (rel : Bool) (scope : BitVec 3) (addr : Nat) (t : State) => ∃ g,
      (let u := s.touchTlb w.tlb (s.asidOf w) addr .store
       let x := u.seqFor w.owner tgt.peer
       let v := if tgt.aper = 2 ∧ tgt.kind = 0 then u.setSeqFor w.owner tgt.peer { x with next := x.next + 1, outstanding := x.outstanding + 1 } else u
       ScalarSteps w { v with gaccs := u.gaccs ++ [g], nextId := u.nextId + 1 } t ∧
       (numbered → ∃ q, g.serial = some q ∧ q.seq = x.next ∧
         ∀ h, w = .task h .s → q.asid = (s.res h).asid ∧ q.nodeInst = (s.res h).nodeInst ∧ q.taskNum = (s.res h).taskNum)) ∧
      (¬ numbered → g.serial = none) ∧
      g.owner = w.owner ∧ g.path = 0 ∧ g.isStore = true ∧ g.tgt = tgt ∧ g.va = addr ∧ g.n = n ∧
      g.data = leBytes n (s.sreg w d).toNat ∧ g.acq = false ∧ g.rel = rel ∧ g.scope = scope ∧ g.failed = none
    (numbered → SerialsFree s w tgt.peer 1) →
    (va % n = 0 → NotHeld s w true va n → Translates s w va .store false tgt leaf →
      Completes (.stg z d a i) s (issues false 0 va)) ∧
    (vz % n = 0 → NotHeld s w true vz n → Translates s w vz .store true tgt leaf →
      Completes (.stgRel d a c z) s (issues true c vz))

/-- R148, R251 to R254, R349, R350, R357: a scalar remote operation whose handler has a width the form takes, aligned, permitted and with a serial free, becomes a request with its address,
handler, scope and operands, numbered but for handler 23 and host pages, and the program goes on with no register changed. A form the width does not suit raises state-use, a misaligned one
an alignment fault, one whose page or host does not permit it fault 0x14; one with no serial free stalls. -/
def Obligations.ScalarAtomicsIssue : Prop :=
  ∀ (s : State) (w : Who) (d a b : BitVec 6) (hd : BitVec 5) (c : BitVec 3) (tgt : Target) (leaf : BitVec 64),
    ScalarTurn s w →
    let wd := s.handlerWidth hd.toNat
    let va := s.sreg w a
    let owner := if tgt.aper = 2 then tgt.peer else s.pkgId
    let low := fun (r : BitVec 6) => BitVec.ofNat 128 ((s.sreg w r).toNat % 2 ^ (8 * wd))
    let wide := fun (r : BitVec 6) => s.sreg w (r + 1) ++ s.sreg w r
    let sends := fun (op0 op1 : BitVec 128) (dest : RDest) (t : State) => ∃ q o, Sends w s q o t ∧
      q.op = .handler hd wd ∧ q.addr = tgt.pa ∧ q.op0 = op0 ∧ q.op1 = op1 ∧ q.scope = c ∧
      q.cls = (if tgt.aper = 2 then 7 else BitVec.ofNat 6 (s.classOfWho w)) ∧
      o.peer = owner ∧ o.tgt = tgt ∧ o.va = va.toNat ∧ o.dest = dest ∧ o.leave = .release ∧
      (hd ≠ 23 → tgt.aper ≠ 3 → Numbered w owner q s t) ∧ (hd = 23 ∨ tgt.aper = 3 → Unnumbered w owner q s t)
    let amo : Instr := .amo d a b hd c
    let red : Instr := .red a b hd c
    let amoq : Instr := .amoq d a b hd c
    let right := fun (r : Bool) => if hd = 23 then Acc.read23 else if r then .red else .atomic
    let permitted := (tgt.aper = 2 → leaf.getLsbD 10 = true) ∧ (tgt.aper = 3 → hd.toNat ∈ [0, 1, 15, 16, 17, 18, 19])
    let narrow := wd = 4 ∨ wd = 8
    (va.toNat % wd = 0 → permitted → SerialsFree s w owner 1 →
      (narrow → Translates s w va.toNat (right false) true tgt leaf →
        Completes amo s (sends (low b) (low d) (.sreg d.toNat wd (decide (hd = 0 ∨ hd = 2 ∨ hd = 3))))) ∧
      (narrow → Translates s w va.toNat (right true) true tgt leaf → Completes red s (sends (low b) 0 .none)) ∧
      (wd = 16 → Translates s w va.toNat (right false) true tgt leaf →
        Completes amoq s (sends (wide b) (if d = 0 then 0 else wide d) (.pair d.toNat)))) ∧
    (wd = 0 ∨ wd = 16 → exec amo s = .next (s.stateUse w) ∧ exec red s = .next (s.stateUse w)) ∧
    (wd ≠ 16 → exec amoq s = .next (s.stateUse w)) ∧
    (va.toNat % wd ≠ 0 → (narrow → exec amo s = .next (s.alignFault w wd va) ∧ exec red s = .next (s.alignFault w wd va)) ∧
      (wd = 16 → exec amoq s = .next (s.alignFault w wd va))) ∧
    (va.toNat % wd = 0 → narrow →
      (¬ permitted → Translates s w va.toNat (right false) true tgt leaf →
        exec amo s = .next (s.takeFault w .instr (accFault 0x14 leaf va (right false)))) ∧
      (permitted → ¬ SerialsFree s w owner 1 → Translates s w va.toNat (right false) true tgt leaf → exec amo s = .next s))

/-- R22, R23, R93, R137: each compare and branch transfers after its two slots when its condition holds, and otherwise steps, annulling both
slots when n = 1. -/
def Obligations.ScalarBranches : Prop :=
  ∀ (s : State) (w : Who) (a b : BitVec 6) (n : BitVec 1) (o : BitVec 13), ScalarTurn s w →
    let x := s.sreg w a
    let y := s.sreg w b
    let target := BitVec.ofInt 56 ((s.pcOf w).toNat + 4 * o.toInt)
    let branch := fun (i : Instr) (taken : Prop) =>
      (taken → Completes i s (ScalarJumps w target false s)) ∧ (¬ taken → Completes i s (ScalarPasses w (n == 1) s))
    branch (.beq a b n o) (x = y) ∧ branch (.bne a b n o) (x ≠ y) ∧
    branch (.blt a b n o) (x.toInt < y.toInt) ∧ branch (.bge a b n o) (y.toInt ≤ x.toInt) ∧
    branch (.bltu a b n o) (x.toNat < y.toNat) ∧ branch (.bgeu a b n o) (y.toNat ≤ x.toNat)

/-- R93, R138: J and JAL transfer, annulling both slots when n = 1; JAL links pc + 12 in s63; JALR goes to s(a) + imm, which must be a
multiple of 4, and links in s(d), the old value of s(a) giving the target. -/
def Obligations.ScalarJumpsAndLinks : Prop :=
  ∀ (s : State) (w : Who) (d a : BitVec 6) (n : BitVec 1) (o : BitVec 25) (i : BitVec 14), ScalarTurn s w →
    let target := BitVec.ofInt 56 ((s.pcOf w).toNat + 4 * o.toInt)
    let link := BitVec.ofNat 64 (((s.pcOf w).toNat + 12) % 2 ^ 56)
    let far := BitVec.ofInt 64 ((s.sreg w a).toInt + i.toInt)
    Completes (.jump n o) s (ScalarJumps w target (n == 1) s) ∧
    Completes (.jal n o) s (ScalarJumps w target (n == 1) (s.setSreg w 63 link)) ∧
    (far.toNat % 4 = 0 → Completes (.jalr d a i) s (ScalarJumps w (far.setWidth 56) false (s.setSreg w d link))) ∧
    (far.toNat % 4 ≠ 0 → exec (.jalr d a i) s = .next (s.alignFault w 4 far))

/-- R24, R25, R140, R141: TRAP saves the stepped queue and enters the handler at TVEC; RETT restores what was saved. Each outside its state
raises its fault. -/
def Obligations.ScalarTrapAndReturn : Prop :=
  ∀ (s : State) (w : Who) (c : BitVec 8), ScalarTurn s w →
    let q := s.sc w
    (q.tstat.getLsbD 2 = false → Completes (.trap c) s (fun t => OnlyScalar w s t ∧
      (let r := t.sc w
       r.sregs = q.sregs ∧ r.pc = q.tvec ∧ r.nx1 = q.tvec + 4 ∧ r.nx2 = q.tvec + 8 ∧ r.a0 = false ∧ r.a1 = false ∧
       r.epc = q.nx1 ∧ r.enx1 = q.nx2 ∧ r.enx2 = q.nx2 + 4 ∧ r.eann.getLsbD 0 = q.a1 ∧ r.eann.getLsbD 1 = false ∧
       r.tcause = BitVec.ofNat 64 (2 + 256 * c.toNat) ∧ r.tvec = q.tvec ∧ r.tcmp = q.tcmp ∧
       r.tstat.getLsbD 0 = false ∧ r.tstat.getLsbD 1 = q.tstat.getLsbD 0 ∧ r.tstat.getLsbD 2 = true ∧
       r.tstat.getLsbD 3 = q.tstat.getLsbD 3))) ∧
    (q.tstat.getLsbD 2 = true → exec (.trap c) s = .next (s.illegal w (wordOf (.trap c)))) ∧
    (q.tstat.getLsbD 2 = true → Completes .rett s (fun t => OnlyScalar w s t ∧
      (let r := t.sc w
       r.sregs = q.sregs ∧ r.pc = q.epc ∧ r.nx1 = q.enx1 ∧ r.nx2 = q.enx2 ∧ r.a0 = q.eann.getLsbD 0 ∧ r.a1 = q.eann.getLsbD 1 ∧
       r.tvec = q.tvec ∧ r.tcause = q.tcause ∧ r.tcmp = q.tcmp ∧ r.epc = q.epc ∧ r.enx1 = q.enx1 ∧ r.enx2 = q.enx2 ∧ r.eann = q.eann ∧
       r.tstat.getLsbD 0 = q.tstat.getLsbD 1 ∧ r.tstat.getLsbD 2 = false ∧ r.tstat.getLsbD 3 = q.tstat.getLsbD 3))) ∧
    (q.tstat.getLsbD 2 = false → exec .rett s = .next (s.stateUse w))

/-- R12 to R15, R17, R24, R25, R43, R59, R142, R143, R318, R319: CRR reads every register its program may read, by number, zero-extended; CRW writes every register it may write, with the fields that take the
value; any other number is illegal-instruction, for a task and for a supervisor core; TIME reads the stamp counter. -/
def Obligations.ControlRegisterAccess : Prop :=
  ∀ (s : State) (w : Who) (d a : BitVec 6) (r : BitVec 14), ScalarTurn s w →
    let v := s.sreg w a
    let q := s.sc w
    let addr := BitVec.ofNat 56 (v.toNat / 4 * 4)
    let pend : BitVec 1 := if q.tcmp.toNat ≤ s.stamp.toNat then 1 else 0
    let traps : List (Nat × Word) := [(0x003, q.tvec.setWidth 64), (0x004, q.tcause), (0x005, (pend ++ q.tstat.extractLsb' 0 3).setWidth 64), (0x006, q.tcmp),
      (0x007, q.epc.setWidth 64), (0x008, q.enx1.setWidth 64), (0x009, q.enx2.setWidth 64), (0x00A, q.eann.setWidth 64)]
    let queue : List (Nat × SCtx) := [(0x003, { q with tvec := addr }), (0x005, { q with tstat := q.tstat &&& 0xC#64 ||| v &&& 0x3#64 }),
      (0x006, { q with tcmp := v, tstat := q.tstat &&& 0x7#64 ||| (if v.toNat ≤ s.stamp.toNat then 8 else 0) }),
      (0x007, { q with epc := addr }), (0x008, { q with enx1 := addr }), (0x009, { q with enx2 := addr }), (0x00A, { q with eann := v.setWidth 2 })]
    let reads := fun (l : List (Nat × Word)) =>
      (∀ p ∈ l, r.toNat = p.1 → Completes (.crr d r) s (WritesSreg w d p.2 s)) ∧
      ((∀ p ∈ l, r.toNat ≠ p.1) → exec (.crr d r) s = .next (s.illegal w (wordOf (.crr d r))))
    let writes := fun (l : List (Nat × State)) =>
      (∀ p ∈ l, r.toNat = p.1 → Completes (.crw a r) s (ScalarSteps w p.2)) ∧
      ((∀ p ∈ l, r.toNat ≠ p.1) → exec (.crw a r) s = .next (s.illegal w (wordOf (.crw a r))))
    Completes (.time d) s (WritesSreg w d s.stamp s) ∧
    (match w with
     | .task h _ =>
       let x := s.res h
       let y := s.tile (hTile h)
       let state : BitVec 4 := match x.life with | .free => 0 | .loading => 1 | .active => 2 | .saving => 4 | .restoring => 6 | .draining => 7
       reads (traps ++ [(0x001, x.rctl), (0x002, x.rng), (0x00B, x.taskIdx), (0x00C, x.cohort), (0x00D, x.rank), (0x00E, x.argBase),
         (0x00F, x.asid ++ x.nodeInst ++ x.taskNum ++ x.prio ++ state), (0x010, x.estat.setWidth 64), (0x011, x.vctl), (0x020, x.slabWin.setWidth 64),
         (0x021, x.ringWin.setWidth 64), (0x022, x.chWin.setWidth 64), (0x023, x.ephWin.setWidth 64), (0x024, x.spWin),
         (0x030, (fget (0 : BitVec 32) x.mprog 0).setWidth 64), (0x031, (fget (0 : BitVec 32) x.mprog 1).setWidth 64),
         (0x032, (fget (0 : BitVec 32) x.mprog 2).setWidth 64), (0x033, (fget (0 : BitVec 32) x.mprog 3).setWidth 64),
         (0x034, (fget (0 : BitVec 32) x.cprog 0).setWidth 64), (0x035, (fget (0 : BitVec 32) x.cprog 1).setWidth 64),
         (0x100, BitVec.ofNat 64 (hTile h)), (0x101, Config.mcap), (0x103, y.slabfe.setWidth 64)]) ∧
       writes (queue.map (fun p => (p.1, s.setRes h { x with sc := p.2 })) ++
         [(0x001, s.setRes h { x with rctl := BitVec.ofNat 64 (v.toNat / 16 % 16 * 16 + if v.toNat % 8 ≤ 4 then v.toNat % 8 else 0) }),
          (0x002, s.setRes h { x with rng := if v = 0 then 1 else v }), (0x011, s.setRes h { x with vctl := x.vctl &&& 0x3F00#64 ||| v &&& 1#64 })])
     | .sv c =>
       let x := s.svc c
       reads (traps ++ [(0x200, BitVec.ofNat 64 c), (0x201, x.sasid.setWidth 64), (0x202, x.fqbase.setWidth 64), (0x203, x.fqsize.setWidth 64),
         (0x204, x.fqhead.setWidth 64), (0x205, x.fqtail.setWidth 64), (0x206, x.sfaddr), (0x207, s.wdog.setWidth 64), (0x208, s.svpool.setWidth 64),
         (0x209, s.svpooln.setWidth 64), (0x20A, s.atbase.setWidth 64)]) ∧
       writes (queue.map (fun p => (p.1, s.setSvc c { x with sc := p.2 })) ++
         [(0x202, s.setSvc c { x with fqbase := BitVec.ofNat 52 (v.toNat / 64 * 64), fqhead := 0, fqtail := 0 }),
          (0x203, s.setSvc c { x with fqsize := if v.toNat ∈ (List.range 11).map (fun i => 2 ^ (i + 6)) then BitVec.ofNat 17 v.toNat else 0, fqhead := 0, fqtail := 0 }),
          (0x204, s.setSvc c { x with fqhead :=
            if 1 ≤ (v.setWidth 32 - x.fqtail).toNat ∧ (v.setWidth 32 - x.fqtail).toNat < 2 ^ 31 then x.fqtail else v.setWidth 32 }),
          (0x207, { s with wdog := v.setWidth 32 })]))

/-- R36, R38, R39, R144, R145: FORK starts every named idle engine at its entry with locals 0 to 7 from s1 to s8 and leaves the others; JOIN with no
V, M or C program running or parked makes every ended one idle; END with the others idle drains the resident. A FORK that names a busy engine or a
malformed entry, or END while another program is not idle, raises state-use. -/
def Obligations.ForkJoinEnd : Prop :=
  ∀ (s : State) (h : Nat) (fv fm fc : BitVec 6),
    let w : Who := .task h .s
    let named := [(Eng.v, fv), (Eng.m, fm), (Eng.c, fc)]
    let good := ∀ x ∈ named, x.2 ≠ 0 → (s.res h).est x.1 = 0 ∧ (s.sreg w x.2).toNat % 4 = 0 ∧ (s.sreg w x.2).toNat < 2 ^ 56
    ScalarTurn s w →
    (good → Completes (.fork fv fm fc) s (fun t => Locally s t ∧ (∀ k, k ≠ h → t.res k = s.res k) ∧
      QueueStepped (s.sc w) (t.sc w) ∧ (t.sc w).sregs = (s.sc w).sregs ∧
      (∀ x ∈ named, x.2 ≠ 0 → (t.res h).est x.1 = 1 ∧ ((t.res h).prg x.1).pc = (s.sreg w x.2).setWidth 56 ∧
        (∀ i, i < 8 → t.lreg (.task h x.1) i = (s.sc w).get (i + 1))) ∧
      (∀ x ∈ named, x.2 = 0 → (t.res h).prg x.1 = (s.res h).prg x.1 ∧ (t.res h).est x.1 = (s.res h).est x.1))) ∧
    (¬ good → exec (.fork fv fm fc) s = .next (s.stateUse w)) ∧
    ((∀ e ∈ [Eng.v, .m, .c], (s.res h).est e ≠ 1 ∧ (s.res h).est e ≠ 2) → (s.res h).preempt = false → (s.res h).s.pass = false →
      Completes .join s (fun t => Locally s t ∧ (∀ k, k ≠ h → t.res k = s.res k) ∧ QueueStepped (s.sc w) (t.sc w) ∧
        (t.sc w).sregs = (s.sc w).sregs ∧ ∀ e ∈ [Eng.v, .m, .c], (t.res h).est e = 0)) ∧
    ((∀ e ∈ [Eng.v, .m, .c], (s.res h).est e = 0) → (s.res h).life = .active →
      Completes .sEnd s (fun t => (t.res h).life = .draining ∧ (t.res h).est .s = 0 ∧ (∀ x, memByte t.mem x = memByte s.mem x))) ∧
    ((∃ e ∈ [Eng.v, .m, .c], (s.res h).est e ≠ 0) → exec .sEnd s = .next (s.stateUse w))

/-- R40, R41, R146: CCREATE of a size from 1 to 2^20 makes a cohort object of the program's ASID with every rank vacant and gives its handle, 0 when all 65,536 are in use; CJOIN gives a task the
rank it holds, else the lowest vacant one, or all ones when the cohort is full; CLEAVE vacates its rank. On another package's cohort each becomes a request. A size out of range, a handle of
this package that names no cohort, and CJOIN of a supervisor core raise state-use. -/
def Obligations.CohortMembership : Prop :=
  ∀ (s : State) (w : Who) (k : Nat) (d a : BitVec 6),
    let x := s.sreg w a
    ScalarTurn s w →
    (0 < x.toNat → x.toNat ≤ 2 ^ 20 →
      ((∃ j, j < 65536 ∧ (s.cohort j).live = false) → Completes (.ccreate d a) s (fun t => ∃ j hd,
        WritesSreg w d hd { s with fresh := s.fresh + 1, cohorts := t.cohorts } t ∧ j < 65536 ∧ (s.cohort j).live = false ∧
        (s.cohorts.length < 2 ^ 40 - 2 → hd ≠ 0 ∧ hdlPkg hd = s.pkgId ∧ ∀ i, (s.cohort i).live = true → (s.cohort i).handle ≠ hd) ∧
        (t.cohort j).live = true ∧ (t.cohort j).handle = hd ∧ (t.cohort j).asid = s.asidOf w ∧ (t.cohort j).size = x.toNat ∧ (∀ r, (t.cohort j).at r = none) ∧
        ∀ i, i ≠ j → t.cohort i = s.cohort i)) ∧
      ((∀ j, j < 65536 → (s.cohort j).live = true) → Completes (.ccreate d a) s (WritesSreg w d 0 s))) ∧
    (x.toNat = 0 ∨ 2 ^ 20 < x.toNat → exec (.ccreate d a) s = .next (s.stateUse w)) ∧
    (∀ h, w = .task h .s →
      let me := fun (m : Member) => m.pkg = s.pkgId ∧ m.key = (s.res h).key ∧ m.asid = (s.res h).asid ∧ m.nodeInst = (s.res h).nodeInst ∧ m.taskNum = (s.res h).taskNum
      let c := s.cohort k
      let stranger := ∀ jm ∈ c.members, ∀ m, jm.2 = some m → ¬ me m
      (hdlPkg x = s.pkgId → s.cohortOf x = some k →
        (∀ r, s.rankIn k (s.res h) = some r →
          Completes (.cjoin d a) s (fun t => WritesSreg w d (BitVec.ofNat 64 r) { s with cohorts := t.cohorts } t ∧ t.cohort k = c ∧ ∀ i, i ≠ k → t.cohort i = s.cohort i) ∧
          Completes (.cleave a) s (fun t => ScalarSteps w { s with cohorts := t.cohorts } t ∧ (t.cohort k).at r = none ∧ (∀ j, j ≠ r → (t.cohort k).at j = c.at j) ∧
            t.cohort k = { c with members := (t.cohort k).members } ∧ ∀ i, i ≠ k → t.cohort i = s.cohort i)) ∧
        (stranger → ∀ r, r < c.size → c.at r = none → (∀ j, j < r → c.at j ≠ none) →
          Completes (.cjoin d a) s (fun t => WritesSreg w d (BitVec.ofNat 64 r) { s with cohorts := t.cohorts } t ∧
            (∃ m, (t.cohort k).at r = some m ∧ me m ∧ m.atLaunch = false ∧ m.arrived = false ∧ m.passed = false) ∧ (∀ j, j ≠ r → (t.cohort k).at j = c.at j) ∧
            t.cohort k = { c with members := (t.cohort k).members } ∧ ∀ i, i ≠ k → t.cohort i = s.cohort i)) ∧
        (stranger → (∀ j, j < c.size → c.at j ≠ none) →
          Completes (.cjoin d a) s (fun t => WritesSreg w d (BitVec.ofNat 64 (2 ^ 64 - 1)) { s with cohorts := t.cohorts } t ∧ ∀ i, t.cohort i = s.cohort i)) ∧
        (stranger → Completes (.cleave a) s (fun t => ScalarSteps w { s with cohorts := t.cohorts } t ∧ ∀ i, t.cohort i = s.cohort i))) ∧
      (hdlPkg x = s.pkgId → s.cohortOf x = none →
        exec (.cjoin d a) s = .next (s.stateUse w) ∧ exec (.cleave a) s = .next (s.stateUse w)) ∧
      (hdlPkg x ≠ s.pkgId →
        let asks := fun (fn : BitVec 2) (dest : RDest) (t : State) => ∃ q o, Sends w s q o t ∧ q.op = .cohort fn x ∧
          q.op0 = ((s.res h).key ++ (s.res h).asid ++ (s.res h).nodeInst ++ (s.res h).taskNum).setWidth 128 ∧
          o.peer = hdlPkg x ∧ o.dest = dest ∧ o.leave = .free ∧ Unnumbered w (hdlPkg x) q s t
        Completes (.cjoin d a) s (asks 1 (.sreg d.toNat 8 false)) ∧ Completes (.cleave a) s (asks 2 .none))) ∧
    (∀ c, w = .sv c → exec (.cjoin d a) s = .next (s.stateUse w) ∧
      (s.cohortOf x = some k → Completes (.cleave a) s (ScalarSteps w s)) ∧ (s.cohortOf x = none → exec (.cleave a) s = .next (s.stateUse w)))

/-- R42, R126, R152, R284, R286: BAR of the last member to arrive, its path S accesses performed, completes the generation: every arrival is spent, the BARs that wait pass, the members of other packages
are told, and it passes at once. BAR of another member arrives and waits; where the queue is unsettled it raises state-use. A member whose generation has completed passes. -/
def Obligations.BarrierOfTheLastMemberPasses : Prop :=
  ∀ (s : State) (h k r : Nat) (x : Member) (a : BitVec 6),
    let w : Who := .task h .s
    let hd := s.sreg w a
    let c := s.cohort k
    let quiet := (∀ g ∈ s.gaccs, g.owner = .task h → g.path ≠ 0) ∧ (∀ o ∈ s.routs, o.owner = .task h → o.path = 0 → o.status ≠ none)
    let elsewhere := fun (t : State) => t.mem = s.mem ∧ (∀ j, (t.tile j).spad = (s.tile j).spad) ∧ ∀ i, i ≠ k → t.cohort i = s.cohort i
    let alone := fun (t : State) => ∀ y, y ≠ h → t.res y = s.res y
    ScalarTurn s w → hdlPkg hd = s.pkgId → s.cohortOf hd = some k → quiet → (s.res h).preempt = false → (s.res h).s.pass = false →
    c.members.map (·.1) = List.range c.members.length → c.at r = some x → s.rankIn k (s.res h) = some r → x.arrived = false →
    (x.passed = false → c.members.length = c.size → (∀ jm ∈ c.members, jm.1 ≠ r → ∃ m, jm.2 = some m ∧ m.arrived = true) →
      Completes (.bar a) s (fun t => QueueStepped (s.sc w) (t.sc w) ∧ (t.sc w).sregs = (s.sc w).sregs ∧ elsewhere t ∧ alone t ∧ (t.cohort k).gen = c.gen + 1 ∧
        (∃ y, (t.cohort k).at r = some y ∧ y.arrived = false ∧ y.passed = false) ∧
        (∀ j m, j ≠ r → c.at j = some m → ∃ y, (t.cohort k).at j = some y ∧ y = { m with arrived := false, waits := false, passed := y.passed } ∧
          (y.passed = true ↔ m.waits = true ∧ m.reply = none) ∧
          (∀ id, m.reply = some id → m.waits = true →
            (∃ u ∈ (t.transport m.pkg).unacked, u.pkt.body = .barrierPassed id) ∨ .barrierPassed id ∈ (t.transport m.pkg).waiting)))) ∧
    (x.passed = false → (∃ j, j < c.size ∧ j ≠ r ∧ ∀ m, c.at j = some m → m.arrived = false) → (∀ jm ∈ c.members, jm.1 < c.size) →
      Completes (.bar a) s (fun t => elsewhere t ∧ (t.cohort k).gen = c.gen ∧ (t.cohort k).at r = some { x with arrived := true, waits := true, reply := none } ∧
        (∀ j, j ≠ r → (t.cohort k).at j = c.at j) ∧
        ((s.res h).sc.settled = true → t.pcOf w = s.pcOf w ∧ (t.res h).s.wait = some (.barrier hd) ∧ (t.res h).sc = (s.res h).sc) ∧
        ((s.res h).sc.settled = false → (t.res h).est .s = 2))) ∧
    (x.passed = true → (∃ j, j < c.size ∧ j ≠ r ∧ ∀ m, c.at j = some m → m.arrived = false) → (∀ jm ∈ c.members, jm.1 < c.size) →
      Completes (.bar a) s (fun t => QueueStepped (s.sc w) (t.sc w) ∧ (t.sc w).sregs = (s.sc w).sregs ∧ elsewhere t ∧ alone t ∧ (t.cohort k).gen = c.gen ∧
        ∃ y, (t.cohort k).at r = some y ∧ y.arrived = false ∧ y.passed = false))

/-- R147, R340: GLAUNCH with the right to the Orrery's queues, every earlier store committed and the handle a live graph of the task's ASID, queues one instance of
the graph at the task's level under a number not in use and returns it; a full queue, no number free, or another handle returns 0; without the right it raises a protection fault. -/
def Obligations.GraphLaunch : Prop :=
  ∀ (s : State) (h : Nat) (d a b : BitVec 6),
    let w : Who := .task h .s
    let hd := s.sreg w a
    let level := (s.res h).prio
    let room := (s.queues.filter (fun q => decide (q.level = level))).length < 4096
    let free := fun (n : BitVec 24) => n ≠ 0 ∧ s.instUsed n.toNat (s.graph (hdlIdx hd)).rcnt = false
    ScalarTurn s w → (s.hasRight 86 (s.classOfWho w) 1 = false → exec (.glaunch d a b) s = .next (s.takeFault w .instr (faultInfo 0x12 2))) ∧
    (s.hasRight 86 (s.classOfWho w) 1 = true → (∀ g ∈ s.gaccs, g.owner = w.owner → g.path = 0 → g.isStore = true → g.failed ≠ none) →
      (s.graphLive hd = true → hdlAsid hd = s.asidOf w → room → (∃ n, free n) →
        Completes (.glaunch d a b) s (fun t => ∃ n : BitVec 24, free n ∧
          WritesSreg w d (n.setWidth 64) { s with fresh := s.fresh + 1, queues := s.queues ++ [{ graph := hdlIdx hd, first := n, rebase := s.sreg w b, level := level }] } t)) ∧
      (s.graphLive hd = false ∨ hdlAsid hd ≠ s.asidOf w → Completes (.glaunch d a b) s (WritesSreg w d 0 s)) ∧
      (s.graphLive hd = true → hdlAsid hd = s.asidOf w → ¬ room ∨ (∀ n, ¬ free n) → Completes (.glaunch d a b) s (WritesSreg w d 0 s)))

/-- R150 to R154, R307, R312: the supervisor functions on an ACTIVE resident of a legal handle, each returning status 0: RDR's value, WRR's write, RESUME
of a program parked by its instruction, PREEMPT's request, TEARDOWN. -/
def Obligations.SupervisorFunctionsOnResidents : Prop :=
  ∀ (s : State) (c : Nat) (d a b : BitVec 6),
    let w : Who := .sv c
    let hd := s.sreg w a
    let h := hd.toNat
    let n := (s.sreg w b).toNat % 2 ^ 14
    ScalarTurn s w → h < 4096 → h % 512 < 288 → (s.res h).life = .active →
    (∀ v, s.resCr h true n = some v → Completes (.rdr d a b) s (WritesSreg w d v s)) ∧
    (∀ r, (s.resCr h true n).isSome = true → supWritable n = true → n ≠ 0x102 →
      s.writeOk h { core := c, reg := d.toNat, value := s.sreg w d, cr := n } = true →
      (s.res h).supWrite s.stamp n (s.sreg w d) = some r →
      Completes (.wrr d a b) s (WritesSreg w d 0 (s.setRes h r))) ∧
    (∀ (e : Eng) (p : Park), (s.sreg w b).toNat < 4 → e = pathEng (BitVec.ofNat 3 (s.sreg w b).toNat) → (s.res h).est e = 2 →
      ((s.res h).prg e).park = some p → p.kind = .instr →
      Completes (.resume d a b) s (fun t => t.sreg w d = 0 ∧ QueueStepped (s.sc w) (t.sc w) ∧ (t.res h).est e = 1 ∧
        ((t.res h).prg e).park = none ∧ t.pcOf (.task h e) = s.pcOf (.task h e) ∧ t.tiles = s.tiles ∧ t.mem = s.mem)) ∧
    Completes (.preempt d a) s (fun t => ∃ r, WritesSreg w d 0 (s.setRes h r) t ∧ r = { s.res h with preempt := true }) ∧
    Completes (.teardown d a) s (fun t => t.sreg w d = 0 ∧ QueueStepped (s.sc w) (t.sc w) ∧ (t.res h).life = .draining ∧
      (∀ e, (t.res h).est e = 0) ∧ t.mem = s.mem)

/-- R150, R153: a supervisor function on a handle that names no resident of the package returns 3, one on a FREE resident 2; PREEMPT and TEARDOWN of a resident
that is not ACTIVE return 1. Each changes nothing but s(d). -/
def Obligations.SupervisorFunctionStatuses : Prop :=
  ∀ (s : State) (c : Nat) (d a b : BitVec 6),
    let w : Who := .sv c
    let h := (s.sreg w a).toNat
    ScalarTurn s w →
    (4096 ≤ h ∨ 288 ≤ h % 512 → Completes (.preempt d a) s (WritesSreg w d 3 s) ∧ Completes (.teardown d a) s (WritesSreg w d 3 s) ∧
      Completes (.resume d a b) s (WritesSreg w d 3 s)) ∧
    (h < 4096 → h % 512 < 288 → (s.res h).life = .free → Completes (.preempt d a) s (WritesSreg w d 2 s) ∧
      Completes (.teardown d a) s (WritesSreg w d 2 s) ∧ ((s.sreg w b).toNat < 8 → Completes (.resume d a b) s (WritesSreg w d 2 s))) ∧
    (h < 4096 → h % 512 < 288 → (s.res h).life ≠ .free → (s.res h).life ≠ .active →
      Completes (.preempt d a) s (WritesSreg w d 1 s) ∧ Completes (.teardown d a) s (WritesSreg w d 1 s))

/-- R127, R150, R154, R155, R271, R334: TLBI of a well-formed operand drops every translation, page-walk cache entry and walk that it names and completes with status 0 once no access translated through one
is in flight, or each has been translated again; one that has left holds it. CRESUME runs a member on that stands at a translation fault, 1 for any other; CABORT tears a member down: its program, stored
chunks and staging go, its accesses and handle are freed, and the start event of a running or stopped one takes the cancel form. A bad operand or dead handle gives 3; a task's is illegal-instruction. -/
def Obligations.SupervisorInvalidationAndCollectives : Prop :=
  ∀ (s : State) (c k : Nat) (d a b : BitVec 6),
    let w : Who := .sv c
    let x := (s.sreg w a).toNat
    let va := (s.sreg w b).toNat
    let mode := x / 2 ^ 14
    let asid : BitVec 14 := BitVec.ofNat 14 x
    let named := fun (i : BitVec 14) (v : Nat) => mode = 2 ∨ (i = asid ∧ (mode = 1 ∨ v / 2 ^ 30 = va / 2 ^ 30))
    let dropped := fun (t : State) =>
      (∀ j e, e ∈ (t.tile j).tlb → tlbiHit mode asid va e = false) ∧ (∀ q l, (q, l) ∈ t.stlbs → ∀ e ∈ l, tlbiHit mode asid va e = false) ∧
      (∀ q l, (q, l) ∈ t.pwcs → ∀ e ∈ l, tlbiStale mode asid va e = false) ∧
      (∀ y ∈ t.walks, tlbiHit mode asid va { asid := y.asid, page := y.page, res := .bad 0 0 } = false) ∧ ∀ j, (t.tile j).spad = (s.tile j).spad
    let good := x < 2 ^ 16 ∧ mode < 3 ∧ (mode = 2 → asid = 0)
    let atomics := ∀ o ∈ s.routs, named (s.asidOfOwner o.owner) o.va → o.status = none → ∀ hn n, o.req.op ≠ .handler hn n
    let own := (∀ g ∈ s.gaccs, g.owner = .sv c → g.path = 0 → g.failed ≠ none) ∧ (∀ o ∈ s.routs, o.owner = .sv c → o.path = 0 → o.status ≠ none)
    let m := s.comm k
    (∀ h, ScalarTurn s (.task h .s) → exec (.tlbi d a b) s = .next (s.illegal (.task h .s) (wordOf (.tlbi d a b))) ∧
      exec (.cresume d a) s = .next (s.illegal (.task h .s) (wordOf (.cresume d a))) ∧ exec (.cabort d a) s = .next (s.illegal (.task h .s) (wordOf (.cabort d a)))) ∧
    (ScalarTurn s w →
      (good → atomics → own →
        ((∀ g ∈ s.gaccs, named g.asid g.va → g.failed ≠ none ∨ g.dest = .flush) →
          Completes (.tlbi d a b) s (fun t => t.sreg w d = 0 ∧ SregsKept w d s t ∧ QueueStepped (s.sc w) (t.sc w) ∧ t.mem = s.mem ∧ t.gaccs = s.gaccs ∧
            t.residents = s.residents ∧ dropped t)) ∧
        (∀ g lvl e tgt, s.gaccs = [g] → named g.asid g.va → g.failed = none → g.sent = false → g.dest ≠ .flush → g.isStore = false → g.va < 2 ^ 56 →
          (s.walk g.asid g.va).1 = .leaf lvl e → leafA e = true →
          s.checkLeaf g.asid (s.classOfOwner g.owner) lvl e g.va .load false = .ok tgt e →
          Completes (.tlbi d a b) s (fun t => t.sreg w d = 0 ∧ QueueStepped (s.sc w) (t.sc w) ∧ (∃ y, t.gaccs = [{ g with tgt := tgt, serial := y }]) ∧ dropped t))) ∧
      (good → (∃ g ∈ s.gaccs, named g.asid g.va ∧ g.failed = none ∧ g.sent = true ∧ g.dest ≠ .flush) →
        Completes (.tlbi d a b) s (fun t => t.pcOf w = s.pcOf w ∧ t.sc w = s.sc w ∧ dropped t)) ∧
      (¬ good → Completes (.tlbi d a b) s (WritesSreg w d 3 s)) ∧
      (s.commOf (s.sreg w a) = some k →
        (m.run = .stopped 5 → Completes (.cresume d a) s (WritesSreg w d 0 { s with comms := fput s.comms k { m with run := .running, moved := s.stamp } })) ∧
        (m.run ≠ .stopped 5 → Completes (.cresume d a) s (WritesSreg w d 1 s)) ∧
        Completes (.cabort d a) s (fun t => t.sreg w d = 0 ∧ SregsKept w d s t ∧ QueueStepped (s.sc w) (t.sc w) ∧ t.comm k = Comm.start ∧
          (∀ j, j ≠ k → t.comm j = s.comm j) ∧ t.gaccs = s.gaccs.filter (fun g => decide (g.owner ≠ .coll k)) ∧ (∀ o ∈ t.routs, o.owner ≠ .coll k) ∧
          t.mem = s.mem ∧ t.residents = s.residents ∧ (∀ j, (t.tile j).spad = (s.tile j).spad ∧ (t.tile j).rings = (s.tile j).rings) ∧
          (∀ p, m.step = some p → p.kind = .recv → dCh (m.desc p.buf) ≠ 0xFF →
            t.chan (dTile (m.desc p.buf)) (dCh (m.desc p.buf)) = { s.chan (dTile (m.desc p.buf)) (dCh (m.desc p.buf)) with filling := false }) ∧
          ((m.run = .running ∨ ∃ z, m.run = .stopped z) → s.eventLive m.event = true → m.event ≠ 0 → hdlPkg m.event = s.pkgId →
            t.updates = s.updates ++ [{ idx := hdlIdx m.event, gen := hdlGen m.event, op := .evSet 0 true, keep := true }]) ∧
          (m.run = .idle ∨ m.run = .completed → t.updates = s.updates))) ∧
      (s.commOf (s.sreg w a) = none →
        Completes (.cresume d a) s (WritesSreg w d 3 s) ∧ Completes (.cabort d a) s (WritesSreg w d 3 s)))

/-! ## Waits, rings, watermarks, events, fences and streams: every tile engine -/

/-- R30, R31: a wait whose condition does not hold, met at a settled point, leaves the instruction to issue again: the program keeps its pc and
records what it waits for, and nothing of memory differs. -/
def Obligations.FalseWaitLeavesTheInstruction : Prop :=
  ∀ (s : State) (h : Nat) (e : Eng) (x : Wait) (p k : State → Out),
    let w : Who := .task h e
    s.waitHolds h x = false → ((s.res h).prg e).pass = false → (e = .s → (s.res h).sc.settled = true) → (s.res h).pend = [] →
    ∃ t, waitOp w x s p k = .next t ∧ ((t.res h).prg e).wait = some x ∧ t.pcOf w = s.pcOf w ∧ t.mem = s.mem ∧
      (∀ n, (t.tile n).spad = (s.tile n).spad ∧ (t.tile n).rings = (s.tile n).rings ∧ (t.tile n).chans = (s.tile n).chans ∧
        (t.tile n).slabfe = (s.tile n).slabfe)

/-- R19, R240, R241, R242: the ring functions on a granted ring, on every engine. RINIT configures it; RCLAIM and RWFREE read CLAIM once n slots are free, RCLAIM
moving it on by n; RPUB sets TAIL to x + n once TAIL = x; RWFILL reads HEAD once n slots are filled; RCONS moves HEAD; RREAD and RADDR read. RPUB and RCONS stall while the engine's earlier
scratchpad and slab accesses are under way. -/
def Obligations.RingFunctions : Prop :=
  ∀ (s : State) (h : Nat) (e : Eng) (o x : BitVec 6) (n : BitVec 10) (sel : BitVec 2),
    let w : Who := .task h e
    let b := o.toNat
    let g := s.ring (hTile h) b
    let v := s.lreg w x.toNat
    let m := s.waited w
    let settled := fun (wr : Bool) => (e = .v → ∀ y ∈ s.vops, y.h = h → y.finished = false → y.load = !wr → y.space = .global) ∧
      (e = .m → (s.res h).dp = none) ∧ (e = .c → (s.res h).xf = none)
    s.who = some w → (s.res h).ringOk b = true → Unhindered s w →
    (ringWordOk v (s.res h).spSize = true → (g.cfg = true → g.claim = g.head) →
      Completes (.rinit o x) s (ProgramSteps w (s.setRing (hTile h) b
        { base := BitVec.ofNat 22 ((s.res h).spBase + v.toNat % 2 ^ 22), slotsz := BitVec.ofNat 17 (v.toNat / 2 ^ 22),
          nslots := BitVec.ofNat 13 (v.toNat / 2 ^ 39), head := 0, tail := 0, claim := 0, cfg := true, hslot := 0 }))) ∧
    (g.cfg = true → n.toNat ≤ g.nslots.toNat → n.toNat ≤ g.nslots.toNat - (g.claim - g.head).toNat →
      Completes (.rclaim o x n) s (ProgramSteps w
        ((m.setRing (hTile h) b { g with claim := g.claim + n.setWidth 32 }).setLreg w x.toNat (g.claim.setWidth 64))) ∧
      Completes (.rwfree o x n) s (ProgramSteps w (m.setLreg w x.toNat (g.claim.setWidth 64)))) ∧
    (g.cfg = true → v.setWidth 32 = g.tail → n.toNat ≤ (g.claim - g.tail).toNat →
      (settled true → Completes (.rpub o x n) s (ProgramSteps w (m.setRing (hTile h) b { g with tail := g.tail + n.setWidth 32 }))) ∧
      (¬ settled true → exec (.rpub o x n) s = .next s)) ∧
    (g.cfg = true → n.toNat ≤ (g.tail - g.head).toNat →
      Completes (.rwfill o x n) s (ProgramSteps w (m.setLreg w x.toNat (g.head.setWidth 64)))) ∧
    (g.cfg = true → n.toNat ≤ (g.tail - g.head).toNat →
      (settled false → Completes (.rcons o n) s (ProgramSteps w (s.setRing (hTile h) b
        { g with head := g.head + n.setWidth 32, hslot := BitVec.ofNat 12 ((g.hslot.toNat + n.toNat) % g.nslots.toNat) }))) ∧
      (¬ settled false → exec (.rcons o n) s = .next s)) ∧
    Completes (.rread o x sel) s (ProgramSteps w (s.setLreg w x.toNat
      (if g.cfg then (if sel = 0 then g.head.setWidth 64 else if sel = 1 then g.tail.setWidth 64 else if sel = 2 then g.claim.setWidth 64
        else g.word (s.res h).spBase) else 0))) ∧
    (g.cfg = true → g.nslots ≠ 0 →
      Completes (.raddr o x) s (ProgramSteps w (s.setLreg w x.toNat (BitVec.ofInt 64
        ((g.base.toNat + (g.hslot.toNat + (v.setWidth 32 - g.head).toNat) % g.nslots.toNat * g.slotsz.toNat : Int) - (s.res h).spBase)))))

/-- R16, R127, R240, R241: a ring function on a ring the window does not grant raises state-use, as do a claim of more slots than the ring has, a publication beyond CLAIM and a
consumption beyond TAIL; on a supervisor core the group is illegal. -/
def Obligations.RingFaults : Prop :=
  ∀ (s : State) (h : Nat) (e : Eng) (o x : BitVec 6) (n : BitVec 10),
    let w : Who := .task h e
    let g := s.ring (hTile h) o.toNat
    (∀ c, s.who = some (.sv c) → ∀ i ∈ [Instr.rinit o x, .rclaim o x n, .rpub o x n, .rwfill o x n, .rwfree o x n, .rcons o n, .raddr o x],
      exec i s = .next (s.illegal (.sv c) (wordOf i))) ∧
    (s.who = some w →
      ((s.res h).ringOk o.toNat = false → exec (.rclaim o x n) s = .next (s.stateUse w) ∧ exec (.rpub o x n) s = .next (s.stateUse w) ∧
        exec (.rcons o n) s = .next (s.stateUse w) ∧ exec (.rinit o x) s = .next (s.stateUse w)) ∧
      ((s.res h).ringOk o.toNat = true → g.cfg = true →
        (g.nslots.toNat < n.toNat → exec (.rclaim o x n) s = .next (s.stateUse w)) ∧
        ((g.claim - g.tail).toNat < n.toNat → (s.lreg w x.toNat).setWidth 32 = g.tail → exec (.rpub o x n) s = .next (s.stateUse w)) ∧
        ((g.tail - g.head).toNat < n.toNat → exec (.rcons o n) s = .next (s.stateUse w))))

/-- R20, R21, R243: the watermark functions on a granted channel: WMWAIT passes when the address lies from BASE to WM, WMARM arms an idle channel with WM := BASE, WMREAD
returns WM, as a window offset for a scratchpad channel, and WMIDLE disarms a channel nothing fills. -/
def Obligations.WatermarkFunctions : Prop :=
  ∀ (s : State) (h : Nat) (e : Eng) (o x : BitVec 6) (p : BitVec 1),
    let w : Who := .task h e
    let ch := o.toNat
    let c := s.chan (hTile h) ch
    let r := s.res h
    let b := (s.lreg w x.toNat).toNat
    let l := (s.lreg w (x.toNat + 1)).toNat
    let off := if p = 1 then r.spBase else 0
    s.who = some w → r.chanOk ch = true → Unhindered s w →
    ((let a := (BitVec.ofNat 64 (b + if c.space then r.spBase else 0)).toNat
      c.base.toNat ≤ a ∧ a ≤ c.wm.toNat) → Completes (.wmwait o x) s (ProgramSteps w (s.waited w))) ∧
    (¬ (c.base.toNat ≤ c.wm.toNat ∧ c.wm.toNat < c.limit.toNat) → b ≤ l → l - b ≤ 2 ^ 32 → (p = 1 → l ≤ r.spSize) → l < 2 ^ 56 →
      Completes (.wmarm o x p) s (ProgramSteps w (s.setChan (hTile h) ch
        { space := decide (p = 1), base := BitVec.ofNat 56 (b + off), limit := BitVec.ofNat 56 (l + off), wm := BitVec.ofNat 56 (b + off), asid := r.asid, filling := false }))) ∧
    ((c.base.toNat ≤ c.wm.toNat ∧ c.wm.toNat < c.limit.toNat) → exec (.wmarm o x p) s = .next (s.stateUse w)) ∧
    Completes (.wmread o x) s (ProgramSteps w (s.setLreg w x.toNat
      (BitVec.ofInt 64 ((c.wm.toNat : Int) - if c.space then r.spBase else 0)))) ∧
    (c.filling = false → Completes (.wmidle o) s (ProgramSteps w (s.setChan (hTile h) ch { c with base := c.wm, limit := c.wm }))) ∧
    (c.filling = true → exec (.wmidle o) s = .next (s.stateUse w))

/-- R244, R245, R349, R350, R357: an event function on a live event of the program's ASID with the right to the Orrery: signals and sets become numbered requests that leave after every earlier access of
the program, the count itself not yet moved; EVWAIT passes when (count − target) mod 2^64 is below 2^63; EVREAD returns the count. The count of another package's event is asked for, and taken from
the answer. -/
def Obligations.EventFunctions : Prop :=
  ∀ (s : State) (w : Who) (x : BitVec 6) (n : BitVec 10),
    let hd := s.lreg w x.toNat
    let y := s.lreg w (x.toNat + 1)
    let posts := fun (op : ROp) (t : State) => ∃ q o, Sends w s q o t ∧ q.op = op ∧ q.op0 = hd.setWidth 128 ∧ o.peer = hdlPkg hd ∧ o.dest = .none ∧ o.leave = .all ∧
      Numbered w (hdlPkg hd) q s t
    let count := (s.eventObj (hdlIdx hd)).count
    let asked := fun (o : ROut) => s.eventRout w.owner w.path hd = some o
    s.who = some w → hdlAsid hd = s.asidOf w → hdlType hd = 1 → (hdlPkg hd = s.pkgId → s.eventLive hd = true) → Unhindered s w →
    (s.hasRight 86 (s.classOfWho w) 1 = true → SerialsFree s w (hdlPkg hd) 1 →
      Completes (.evsig x n) s (posts (.evSignal (BitVec.ofNat 64 n.toNat) 0 0)) ∧
      Completes (.evsigr x) s (posts (.evSignal y 0 0)) ∧
      Completes (.evset x) s (posts (.evSet y false)) ∧
      Completes (.evsetC x) s (posts (.evSet y true))) ∧
    (s.hasRight 86 (s.classOfWho w) 1 = false →
      ∀ i ∈ [Instr.evsig x n, .evsigr x, .evset x, .evsetC x], exec i s = .next (s.takeFault w .instr { faultInfo 0x12 2 with flags := 1 })) ∧
    (hdlPkg hd = s.pkgId →
      ((count - y).toNat < 2 ^ 63 → Completes (.evwait x) s (ProgramSteps w (s.waited w))) ∧
      Completes (.evread x) s (ProgramSteps w (s.setLreg w (x.toNat + 1) count))) ∧
    (hdlPkg hd ≠ s.pkgId →
      (s.eventRout w.owner w.path hd = none → ∀ i ∈ [Instr.evwait x, .evread x], Completes i s (fun t => ∃ q o, t.pcOf w = s.pcOf w ∧ t.mem = s.mem ∧ t.tiles = s.tiles ∧
        t.requests = s.requests ++ [q] ∧ t.routs = s.routs ++ [o] ∧ o.req = q ∧ q.op = .evRead hd ∧ q.serial = none ∧ o.peer = hdlPkg hd ∧ o.dest = .eventInfo hd ∧
        o.owner = w.owner ∧ o.path = w.path ∧ o.status = none)) ∧
      (∀ o, asked o → o.status = none → exec (.evwait x) s = .next s ∧ exec (.evread x) s = .next s) ∧
      (∀ o, asked o → o.status = some .performed →
        Completes (.evread x) s (fun t => Advanced w s t ∧ (w = .sv (Who.resident w) ∨ x.toNat + 1 < 64 → t.lreg w (x.toNat + 1) = o.answer.setWidth 64) ∧
          (∀ j, j ≠ x.toNat + 1 → t.lreg w j = s.lreg w j) ∧ t.routs = s.routs.filter (fun r => r.id != o.id) ∧ t.mem = s.mem ∧ t.tiles = s.tiles) ∧
        ((o.answer.setWidth 64 - y).toNat < 2 ^ 63 → Completes (.evwait x) s (fun t => Advanced w s t ∧ t.routs = s.routs.filter (fun r => r.id != o.id) ∧ t.mem = s.mem))))

/-- R244: an event function on a handle that names no live event of the program's ASID raises state-use: at once for one of this package, by the answer for another's. -/
def Obligations.EventFaults : Prop :=
  ∀ (s : State) (w : Who) (x : BitVec 6) (n : BitVec 10), s.who = some w →
    let hd := s.lreg w x.toNat
    (hdlAsid hd ≠ s.asidOf w ∨ hdlType hd ≠ 1 ∨ (hdlPkg hd = s.pkgId ∧ s.eventLive hd = false) →
      exec (.evsig x n) s = .next (s.stateUse w) ∧ exec (.evsigr x) s = .next (s.stateUse w) ∧ exec (.evwait x) s = .next (s.stateUse w) ∧
      exec (.evread x) s = .next (s.stateUse w) ∧ exec (.evset x) s = .next (s.stateUse w) ∧ exec (.evsetC x) s = .next (s.stateUse w)) ∧
    (∀ o h e, w = .task h e → hdlAsid hd = s.asidOf w → hdlType hd = 1 → hdlPkg hd ≠ s.pkgId → s.eventRout w.owner w.path hd = some o → o.status = some .stateUse →
      Completes (.evread x) s (fun t => ∃ rec, Parks h e .instr rec s t ∧ RecordOf s h e 0x04 ((s.pcOf w).setWidth 64) rec) ∧
      Completes (.evwait x) s (fun t => ∃ rec, Parks h e .instr rec s t ∧ RecordOf s h e 0x04 ((s.pcOf w).setWidth 64) rec))

/-- R14, R246, R280, R284, R289: a fence holds the program until each access of set A, those that stood when it issued, is performed at its scope; then the accesses of the paths it names stand behind it,
the flags of a vector program's earlier instructions are set, and the program goes on. At scope h it first issues a zero-length read on each host port that carried a write of the set, and holds till the
port is flushed. -/
def Obligations.FencesComplete : Prop :=
  ∀ (s : State) (w : Who) (src dst c : BitVec 3) (u : Bool),
    let i : Instr := if u then .fenceXu src dst c else .fenceX src dst c
    let n := (s.fenceOf w).getD s.nextId
    let names := fun (code p : BitVec 3) => code = 7 ∨ code = p
    let started := fun (o : Owner) => names src 4 ∧ ∃ k h, o = .coll k ∧ w.owner = .task h ∧ (s.comm k).ident = (s.res h).ident
    let reaches := fun (g : GAcc) => g.isStore = true ∧ g.data.length = g.n ∧ (c.toNat ≤ 1 ∨ (c = 2 ∧ g.tgt.aper = 2 ∧ g.sent = true))
    let performed :=
      (∀ g ∈ s.gaccs, g.id < n → u = true ∨ g.tgt.kind ≠ 2 →
        (g.owner = w.owner → names src g.path → g.failed = none → reaches g) ∧ (started g.owner → reaches g)) ∧
      (∀ g ∈ s.gaccs, ∀ p, names src 6 → g.id < n → g.owner = .host p → g.isStore = false) ∧
      (∀ o ∈ s.routs, o.owner = w.owner → o.id < n → (names src o.path → s.remotePerformed o c = true) ∧ (names src 5 → s.handlerDone o = true)) ∧
      (∀ v ∈ s.vops, w.owner = .task v.h → names src 1 → v.id < n → v.space ≠ .global → v.finished = true) ∧
      (∀ h e, w = .task h e → (names src 2 → ∀ d, (s.res h).dp = some d → n ≤ d.id) ∧ (names src 3 → ∀ x, (s.res h).xf = some x → n ≤ x.id))
    let covered := fun (m : Posted) => m.id < n ∧ ((m.owner = w.owner ∧ names src m.path) ∨ started m.owner)
    let flushed := c = 4 → ∀ m ∈ s.unflushed, ¬ covered m
    s.who = some w →
    (performed → flushed → Completes i s (fun t => Advanced w s t ∧ t.fenceOf w = none ∧ t.mem = s.mem ∧ t.tiles = s.tiles ∧ t.routs = s.routs ∧ t.unflushed = s.unflushed ∧
      t.gaccs.length = s.gaccs.length ∧
      (∀ (k : Nat) (g : GAcc), s.gaccs[k]? = some g → ∃ y : GAcc, t.gaccs[k]? = some y ∧ y = { g with fenced := y.fenced, fencedU := y.fencedU } ∧
        (g.owner = w.owner → g.id < n → names src g.path ∨ names dst g.path →
          y.fenced = some (g.fenced.getD s.nextId) ∧ (u = true → y.fencedU = some (g.fencedU.getD s.nextId)) ∧ (u = false → y.fencedU = g.fencedU)) ∧
        (g.owner ≠ w.owner ∨ n ≤ g.id ∨ ¬ (names src g.path ∨ names dst g.path) → y = g)) ∧
      (∀ h, w = .task h .v → ∀ p ∈ (s.res h).pend, ∀ b, b < 4 → p.flg.getLsbD b = true → (t.res h).rctl.getLsbD (4 + b) = true))) ∧
    (performed → ¬ flushed → Completes i s (fun t => t.pcOf w = s.pcOf w ∧ t.fenceOf w = some n ∧ t.mem = s.mem ∧ t.tiles = s.tiles ∧
      ∀ m ∈ s.unflushed, covered m → ∃ g ∈ t.gaccs, g.dest = .flush ∧ g.owner = w.owner ∧ g.path = w.path ∧ (2 ^ 51 ≤ g.tgt.pa ↔ m.port = true))) ∧
    (¬ performed → Completes i s (fun t => t.pcOf w = s.pcOf w ∧ t.fenceOf w = some n ∧ t.gaccs = s.gaccs ∧ t.routs = s.routs ∧ t.mem = s.mem ∧ t.tiles = s.tiles))

/-- R28, R247, R248: SSET writes the writable bits of one word of an unbound stream register, SGET reads a word, SBIND binds a stream that passes its checks with POS 0 and nothing staged, and SUNBIND frees
one whose staging is empty, or an input stream at once, with what was fetched ahead and is still arriving discarded. -/
def Obligations.StreamFunctions : Prop :=
  ∀ (s : State) (h : Nat) (e : Eng) (o x : BitVec 6) (i : BitVec 3) (d : BitVec 2),
    let w : Who := .task h e
    let n := o.toNat
    let r := s.res h
    let q := r.stream n
    let old := q.extractLsb' (64 * i.toNat) 64
    let m := ssetMask i.toNat
    let at_ := fun (k : Nat) => ((stBase q).toNat : Int) + k * (stRs q).toInt
    let bindable := n < 8 ∧ stKind q = 2 ∧ stBind q = 0 ∧ stCount q ≠ 0 ∧ (stBase q).toNat % 64 = 0 ∧ (stRs q).toNat % 64 = 0 ∧
      (stSpace q = true → ∀ k, k < (stCount q).toNat → 0 ≤ at_ k ∧ at_ k + 512 ≤ r.spSize)
    let stored := fget none r.portFault n = none ∧ r.staged.getLsbD n = false ∧ (∀ p ∈ r.pend, p.tgt ≠ .vreg (120 + n)) ∧
      ∀ v ∈ s.vops, v.h = h → v.load = true → v.vd = 120 + n → v.finished = true
    s.who = some w →
    (stBind q = 0 → Completes (.sset o x i) s (fun t => Advanced w s t ∧
      (let q' := (t.res h).stream n
       q'.extractLsb' (64 * i.toNat) 64 = (old &&& ~~~m) ||| (s.lreg w x.toNat &&& m) ∧
       ∀ j, j < 8 → j ≠ i.toNat → q'.extractLsb' (64 * j) 64 = q.extractLsb' (64 * j) 64))) ∧
    (stBind q ≠ 0 → exec (.sset o x i) s = .next (s.stateUse w)) ∧
    Completes (.sget o x i) s (ProgramSteps w (s.setLreg w x.toNat old)) ∧
    (bindable → Completes (.sbind o d) s (fun t => Advanced w s t ∧
      (let q' := (t.res h).stream n
       stBind q' = d.toNat ∧ stPos q' = 0 ∧ stBase q' = stBase q ∧ stCount q' = stCount q ∧ stRs q' = stRs q ∧ stSpace q' = stSpace q ∧
       (t.res h).staged.getLsbD n = false ∧ fget [] (t.res h).ahead n = [] ∧ fget 0 (t.res h).pushed n = 0))) ∧
    (¬ bindable → exec (.sbind o d) s = .next (s.stateUse w)) ∧
    (stBind q ≠ 2 ∨ stored →
      Completes (.sunbind o) s (fun t => Advanced w s t ∧ stBind ((t.res h).stream n) = 0 ∧ fget [] (t.res h).ahead n = [] ∧ fget [] (t.res h).fetch n = [] ∧
        (n < 8 → (t.res h).staged.getLsbD n = false) ∧ (∀ g ∈ t.gaccs, g.owner = .task h → ∀ k, g.dest ≠ .port n k) ∧
        t.gaccs.Sublist s.gaccs ∧ t.mem = s.mem ∧ t.tiles = s.tiles)) ∧
    (stBind q = 2 → ¬ stored → exec (.sunbind o) s = .next s)

/-- R250, R263, R264, R271, R364 to R366: CCOMM of a well-formed record by a member of a live cohort forms its communicator member on the quadrant's engine and returns its handle, 0 when its 256 places or 64 MiB of
staging do not suffice; CSTART starts a well-formed program on an idle member, its named events' counts captured; CFREE frees one. CSTART and CFREE of a running or stopped member return 1, of a dead
handle 2. A record not yet read is loaded; a bad address, field, cohort or program raises state-use. -/
def Obligations.CollectiveFunctions : Prop :=
  ∀ (s : State) (h : Nat) (e : Eng) (x : BitVec 6) (k rank c : Nat) (bs pb db : List Byte) (tgt : Nat → Target) (leaf : Nat → BitVec 64),
    let w : Who := .task h e
    let a := (s.lreg w x.toNat).toNat
    let prog := (cutWords 8 pb).map (BitVec.ofNat 64)
    let ds := (cutWords 32 db).map (BitVec.ofNat 256)
    let returns := fun (v : Word) (t : State) => Advanced w s t ∧ (e = .s ∧ x = 0 ∨ t.lreg w x.toNat = v) ∧ (∀ j, j ≠ x.toNat → t.lreg w j = s.lreg w j) ∧
      t.mem = s.mem ∧ t.tiles = s.tiles ∧ t.svs = s.svs ∧ t.gaccs = s.gaccs
    let f := fun (o n : Nat) => recNat bs o n
    let cohort : Word := BitVec.ofNat 64 (f 0 8)
    let handle : Word := BitVec.ofNat 64 (f 0 8)
    let place := fun (i : Nat) => 256 * (hTile h / 72) + i
    let staging := 8 * f 9 1 * (4096 * 2 ^ f 10 1)
    let held := ((s.commsOf (hTile h / 72)).map (fun y => 8 * y.slots * y.chunkBytes)).sum
    let room := (∃ i, i < 256 ∧ (s.comm (place i)).live = false) ∧ held + staging ≤ 64 * 2 ^ 20
    let first := ∀ t, (s.res h).task = some t → t.replayed = false
    s.who = some w → (∀ g ∈ s.gaccs, g.owner = w.owner → g.path = w.path → g.isStore = true → g.failed ≠ none) →
    (a % 64 = 0 → RecordHere s w a 64 bs → first →
      let good := f 8 1 ≤ 3 ∧ 1 ≤ f 9 1 ∧ f 9 1 ≤ 16 ∧ f 10 1 ≤ 4 ∧ f 11 1 ≤ 1 ∧ f 12 4 ≠ 0 ∧ f 16 48 = 0
      (good → hdlPkg cohort = s.pkgId → s.cohortOf cohort = some k → s.rankIn k (s.res h) = some rank →
        (room → Completes (.ccomm x) s (fun t => ∃ i hd, returns hd t ∧ i < 256 ∧ (s.comm (place i)).live = false ∧
          (let y := t.comm (place i)
           y.live = true ∧ y.handle = hd ∧ y.cohort = cohort ∧ y.rank = rank ∧ y.size = (s.cohort k).size ∧ y.asid = (s.res h).asid ∧ y.cls = BitVec.ofNat 2 (f 8 1) ∧
           y.slots = f 9 1 ∧ y.chunkBytes = 4096 * 2 ^ f 10 1 ∧ (y.bounded = true ↔ f 11 1 = 1) ∧ y.timeout = BitVec.ofNat 32 (f 12 4) ∧ y.run = .idle ∧
           y.prog = [] ∧ y.windows = [] ∧ y.sends = []) ∧ ∀ j, j ≠ place i → t.comm j = s.comm j)) ∧
        (¬ room → Completes (.ccomm x) s (fun t => returns 0 t ∧ t.comms = s.comms))) ∧
      (¬ good ∨ (hdlPkg cohort = s.pkgId ∧ (s.cohortOf cohort = none ∨ (s.cohortOf cohort = some k ∧ s.rankIn k (s.res h) = none))) →
        exec (.ccomm x) s = .next (s.stateUse w)) ∧
      (good → hdlPkg cohort ≠ s.pkgId → s.cohortAsk w cohort = none → Completes (.ccomm x) s (fun t => ∃ q o, t.pcOf w = s.pcOf w ∧ t.requests = s.requests ++ [q] ∧
        t.routs = s.routs ++ [o] ∧ o.req = q ∧ q.op = .cohort 0 cohort ∧ o.peer = hdlPkg cohort ∧ o.dest = .cohortInfo cohort ∧ t.comms = s.comms ∧ t.mem = s.mem))) ∧
    (a % 64 = 0 → RecordHere s w a 64 bs → first →
      let good := f 8 8 % 8 = 0 ∧ 1 ≤ f 16 4 ∧ f 16 4 ≤ 65536 ∧ f 20 4 = 0 ∧ f 48 16 = 0
      (¬ good → exec (.cstart x) s = .next (s.stateUse w)) ∧
      (good → s.commOf handle = none → Completes (.cstart x) s (fun t => returns 2 t ∧ t.comms = s.comms)) ∧
      (good → s.commOf handle = some c →
        ((s.comm c).run = .running ∨ (∃ z, (s.comm c).run = .stopped z) → Completes (.cstart x) s (fun t => returns 1 t ∧ t.comms = s.comms)) ∧
        ((s.comm c).run = .idle ∨ (s.comm c).run = .completed →
          RecordHere s w (f 8 8) (8 * f 16 4) pb → RecordHere s w (f 24 8) (32 * descCount prog) db →
          (s.programOk prog ds = false → exec (.cstart x) s = .next (s.stateUse w)) ∧
          (s.programOk prog ds = true → (∀ d ∈ ds, dKind d = 1 → hdlPkg (dBase d) = s.pkgId) →
            Completes (.cstart x) s (fun t => returns 0 t ∧
              (let y := t.comm c
               y.live = (s.comm c).live ∧ y.handle = (s.comm c).handle ∧ y.rank = (s.comm c).rank ∧ y.size = (s.comm c).size ∧ y.run = .running ∧ y.prog = prog ∧ y.pos = 0 ∧
               y.descs = ds ∧ y.event = BitVec.ofNat 64 (f 32 8) ∧ y.incr = BitVec.ofNat 64 (f 40 8) ∧ y.step = none ∧ y.sends = [] ∧ y.loops = [] ∧ y.runs = (s.comm c).runs + 1 ∧
               (∀ j, j < ds.length → dKind (ds.getD j 0) = 1 → fget 0 y.captured j = s.eventCount (dBase (ds.getD j 0)))) ∧
              ∀ j, j ≠ c → t.comm j = s.comm j))))) ∧
    (a % 64 ≠ 0 → exec (.ccomm x) s = .next (s.stateUse w) ∧ exec (.cstart x) s = .next (s.stateUse w)) ∧
    (a % 64 = 0 → NotHeld s w true a 64 → s.recBytes w.owner w.path = [] → (∀ g ∈ s.gaccs, g.owner = w.owner → g.path = w.path → g.dest ≠ .record) →
      (∀ i, i < 8 → Translates s w (a + 8 * i) .load false (tgt i) (leaf i)) →
      ∀ i ∈ [Instr.ccomm x, .cstart x], Completes i s (fun t => ∃ gs, t.gaccs = s.gaccs ++ gs ∧ gs.length = 8 ∧ t.pcOf w = s.pcOf w ∧ t.mem = s.mem ∧ t.comms = s.comms ∧
        ∀ j, j < 8 → ∃ g, gs[j]? = some g ∧ g.isStore = false ∧ g.va = a + 8 * j ∧ g.n = 8 ∧ g.tgt = tgt j ∧ g.dest = .record ∧ g.owner = w.owner ∧ g.path = w.path)) ∧
    (s.commOf (s.lreg w x.toNat) = some c →
      ((s.comm c).run = .idle ∨ (s.comm c).run = .completed →
        Completes (.cfree x) s (fun t => returns 0 t ∧ t.comm c = Comm.start ∧ ∀ j, j ≠ c → t.comm j = s.comm j)) ∧
      ((s.comm c).run = .running ∨ (∃ z, (s.comm c).run = .stopped z) → Completes (.cfree x) s (fun t => returns 1 t ∧ t.comms = s.comms))) ∧
    (s.commOf (s.lreg w x.toNat) = none → Completes (.cfree x) s (fun t => returns 2 t ∧ t.comms = s.comms))

/-! ## The vector engine -/

/-- R97, R157, R158, R161, R162, R168: the integer lane operations: each active lane of the destination will hold the result, mod 2^32, two distances
later; the other lanes are kept, and nothing else of the machine differs. -/
def Obligations.VectorIntegerResults : Prop :=
  ∀ (s : State) (h : Nat) (g : BitVec 2) (d a b : BitVec 7) (m : BitVec 3) (n : BitVec 2) (i : BitVec 10) (sh : BitVec 5),
    let u := s.landed h
    let x := fun j => lane (u.vread h a.toNat) j
    let y := fun j => lane (u.vread h b.toNat) j
    let two := fun (c : Instr) (f : BitVec 32 → BitVec 32 → BitVec 32) =>
      VectorReady s h [.vreg a.toNat, .vreg b.toNat, .mask m.toNat] [(.vreg d.toNat, some 2)] →
      Completes c s (PlainLanes h g 2 d (u.mread h m.toNat) (fun j => f (x j) (y j)) s)
    let imm := fun (c : Instr) (f : BitVec 32 → BitVec 32) =>
      VectorReady s h [.vreg a.toNat] [(.vreg d.toNat, some 2)] → Completes c s (PlainLanes h g 2 d allLanes (fun j => f (x j)) s)
    let one := fun (c : Instr) (f : BitVec 32 → BitVec 32) =>
      VectorReady s h [.vreg a.toNat, .mask n.toNat] [(.vreg d.toNat, some 2)] →
      Completes c s (PlainLanes h g 2 d (u.mread h n.toNat) (fun j => f (x j)) s)
    two (.vadd g d a b m) (fun p q => BitVec.ofNat 32 (p.toNat + q.toNat)) ∧
    two (.vsub g d a b m) (fun p q => BitVec.ofInt 32 (p.toInt - q.toInt)) ∧
    two (.vmul g d a b m) (fun p q => BitVec.ofNat 32 (p.toNat * q.toNat)) ∧
    two (.vmin g d a b m) (fun p q => if p.toInt < q.toInt then p else q) ∧
    two (.vmax g d a b m) (fun p q => if q.toInt < p.toInt then p else q) ∧
    two (.vand g d a b m) (fun p q => p &&& q) ∧ two (.vor g d a b m) (fun p q => p ||| q) ∧ two (.vxor g d a b m) (fun p q => p ^^^ q) ∧
    two (.vshl g d a b m) (fun p q => BitVec.ofNat 32 (p.toNat * 2 ^ (q.toNat % 32))) ∧
    two (.vshr g d a b m) (fun p q => BitVec.ofNat 32 (p.toNat / 2 ^ (q.toNat % 32))) ∧
    two (.vsra g d a b m) (fun p q => BitVec.ofInt 32 (p.toInt / 2 ^ (q.toNat % 32))) ∧
    imm (.vaddi g d a i) (fun p => BitVec.ofInt 32 (p.toInt + i.toInt)) ∧
    imm (.vshli g d a sh) (fun p => BitVec.ofNat 32 (p.toNat * 2 ^ sh.toNat)) ∧
    imm (.vshri g d a sh) (fun p => BitVec.ofNat 32 (p.toNat / 2 ^ sh.toNat)) ∧
    imm (.vsrai g d a sh) (fun p => BitVec.ofInt 32 (p.toInt / 2 ^ sh.toNat)) ∧
    one (.vmov g d a n) (fun p => p) ∧ one (.vnot g d a n) (fun p => BitVec.ofNat 32 (2 ^ 32 - 1 - p.toNat)) ∧
    one (.viabs g d a n) (fun p => BitVec.ofNat 32 p.toInt.natAbs) ∧ one (.vineg g d a n) (fun p => BitVec.ofInt 32 (-p.toInt)) ∧
    one (.vclz g d a n) (fun p => if p = 0 then 32 else BitVec.ofNat 32 (31 - p.toNat.log2)) ∧
    one (.vpopc g d a n) (fun p => BitVec.ofNat 32 (((List.range 32).filter (fun j => p.getLsbD j)).length))

/-- R57, R60, R97, R157, R164, R165, R168: the floating lane operations: each active lane or element will hold the one rounding, in the resident's mode, of the
exact result, and its flags join RCTL. -/
def Obligations.VectorFloatResults : Prop :=
  ∀ (s : State) (h : Nat) (g : BitVec 2) (d a b : BitVec 7) (m : BitVec 3) (n : BitVec 2),
    let u := s.landed h
    let rm := roundOf (u.res h).rmode
    let x := fun j => (lane (u.vread h a.toNat) j).toNat
    let y := fun j => (lane (u.vread h b.toNat) j).toNat
    let z := fun j => (lane (u.vread h d.toNat) j).toNat
    let xd := fun j => (elem (u.vread h a.toNat) j).toNat
    let yd := fun j => (elem (u.vread h b.toNat) j).toNat
    let zd := fun j => (elem (u.vread h d.toNat) j).toNat
    let w := fun (v : Nat × Flg) => (BitVec.ofNat 32 v.1, v.2)
    let wd := fun (v : Nat × Flg) => (BitVec.ofNat 64 v.1, v.2)
    let ready := fun (l : Nat) => VectorReady s h [.vreg a.toNat, .vreg b.toNat, .mask m.toNat] [(.vreg d.toNat, some l)]
    let readyD := fun (l : Nat) => VectorReady s h [.vreg a.toNat, .vreg b.toNat, .vreg d.toNat, .mask m.toNat] [(.vreg d.toNat, some l)]
    let ready1 := VectorReady s h [.vreg a.toNat, .mask n.toNat] [(.vreg d.toNat, some 4)]
    (ready 4 →
      Completes (.vfadd g d a b m) s (LaneWrites h g 4 d (u.mread h m.toNat) (fun j => w (fAdd .fp32 rm (x j) (y j))) s) ∧
      Completes (.vfsub g d a b m) s (LaneWrites h g 4 d (u.mread h m.toNat) (fun j => w (fSub .fp32 rm (x j) (y j))) s) ∧
      Completes (.vfmul g d a b m) s (LaneWrites h g 4 d (u.mread h m.toNat) (fun j => w (fMul .fp32 rm (x j) (y j))) s) ∧
      Completes (.vfmin g d a b m) s (PlainLanes h g 4 d (u.mread h m.toNat) (fun j => BitVec.ofNat 32 (fMin .fp32 (x j) (y j))) s) ∧
      Completes (.vfmax g d a b m) s (PlainLanes h g 4 d (u.mread h m.toNat) (fun j => BitVec.ofNat 32 (fMax .fp32 (x j) (y j))) s)) ∧
    (readyD 4 → Completes (.vfma g d a b m) s (LaneWrites h g 4 d (u.mread h m.toNat) (fun j => w (fFma .fp32 rm (x j) (y j) (z j))) s)) ∧
    (ready 6 →
      Completes (.vdadd g d a b m) s (ElemWrites h g 6 d (u.mread h m.toNat) (fun j => wd (fAdd .fp64 rm (xd j) (yd j))) s) ∧
      Completes (.vdsub g d a b m) s (ElemWrites h g 6 d (u.mread h m.toNat) (fun j => wd (fSub .fp64 rm (xd j) (yd j))) s) ∧
      Completes (.vdmul g d a b m) s (ElemWrites h g 6 d (u.mread h m.toNat) (fun j => wd (fMul .fp64 rm (xd j) (yd j))) s) ∧
      Completes (.vdmin g d a b m) s (ElemWrites h g 6 d (u.mread h m.toNat) (fun j => wd (fMin .fp64 (xd j) (yd j), Flg.none)) s) ∧
      Completes (.vdmax g d a b m) s (ElemWrites h g 6 d (u.mread h m.toNat) (fun j => wd (fMax .fp64 (xd j) (yd j), Flg.none)) s)) ∧
    (readyD 6 → Completes (.vdfma g d a b m) s (ElemWrites h g 6 d (u.mread h m.toNat) (fun j => wd (fFma .fp64 rm (xd j) (yd j) (zd j))) s)) ∧
    (ready1 →
      Completes (.vfneg g d a n) s (PlainLanes h g 4 d (u.mread h n.toNat) (fun j => BitVec.ofNat 32 (x j + 2 ^ 31)) s) ∧
      Completes (.vfabs g d a n) s (PlainLanes h g 4 d (u.mread h n.toNat) (fun j => BitVec.ofNat 32 (x j % 2 ^ 31)) s) ∧
      Completes (.vdneg g d a n) s (ElemWrites h g 4 d (u.mread h n.toNat) (fun j => (BitVec.ofNat 64 (xd j + 2 ^ 63), Flg.none)) s) ∧
      Completes (.vdabs g d a n) s (ElemWrites h g 4 d (u.mread h n.toNat) (fun j => (BitVec.ofNat 64 (xd j % 2 ^ 63), Flg.none)) s))

/-- R163, R166, R167: compares write the active bits of a mask (both bits of an fp64 element), VSEL selects lanes by a mask, the mask operations write every bit, a
write to m0 is discarded, and MPOPC counts into a k register. -/
def Obligations.VectorComparesAndMasks : Prop :=
  ∀ (s : State) (h : Nat) (g : BitVec 2) (c : BitVec 4) (e p q : BitVec 3) (d a b : BitVec 7) (m : BitVec 3) (k : BitVec 5),
    let u := s.landed h
    let mk := u.mread h m.toNat
    let x := fun j => lane (u.vread h a.toNat) j
    let y := fun j => lane (u.vread h b.toNat) j
    let xd := fun j => (elem (u.vread h a.toNat) j).toNat
    let yd := fun j => (elem (u.vread h b.toNat) j).toNat
    let bit := fun (r : BitVec 3) j => (u.mread h r.toNat).getLsbD j
    let cmp := fun (l : Nat) => VectorReady s h [.vreg a.toNat, .vreg b.toNat, .mask m.toNat] [(.mask e.toNat, some l)]
    let op2 := VectorReady s h [.mask p.toNat, .mask q.toNat] [(.mask e.toNat, some 2)]
    let op1 := VectorReady s h [.mask p.toNat] [(.mask e.toNat, some 2)]
    (cmp 4 → Completes (.vfcmp g c e a b m) s (MaskWrites h g 4 e mk (fun j => fCmp .fp32 c.toNat (x j).toNat (y j).toNat) s)) ∧
    (cmp 2 → Completes (.vicmp g c e a b m) s (MaskWrites h g 2 e mk (fun j =>
      if c = 0 then x j = y j else if c = 1 then x j ≠ y j else if c = 2 then (x j).toInt < (y j).toInt
      else if c = 3 then (y j).toInt ≤ (x j).toInt else if c = 4 then (x j).toNat < (y j).toNat else (y j).toNat ≤ (x j).toNat) s)) ∧
    (cmp 6 → Completes (.vdcmp g c e a b m) s (MaskWrites h g 6 e (elemMask mk) (fun j => fCmp .fp64 c.toNat (xd (j / 2)) (yd (j / 2))) s)) ∧
    (VectorReady s h [.vreg a.toNat, .vreg b.toNat, .mask m.toNat] [(.vreg d.toNat, some 2)] →
      Completes (.vsel g d a b m) s (WholeVector h g 2 d (fun j => if mk.getLsbD j then x j else y j) Flg.none s)) ∧
    (op2 →
      Completes (.mand g e q p) s (MaskWrites h g 2 e allLanes (fun j => bit p j && bit q j) s) ∧
      Completes (.mor g e q p) s (MaskWrites h g 2 e allLanes (fun j => bit p j || bit q j) s) ∧
      Completes (.mxor g e q p) s (MaskWrites h g 2 e allLanes (fun j => bit p j != bit q j) s) ∧
      Completes (.mandn g e q p) s (MaskWrites h g 2 e allLanes (fun j => bit p j && !bit q j) s)) ∧
    (op1 →
      Completes (.mnot g e p) s (MaskWrites h g 2 e allLanes (fun j => !bit p j) s) ∧
      Completes (.mmov g e p) s (MaskWrites h g 2 e allLanes (fun j => bit p j) s)) ∧
    (VectorReady s h [.mask p.toNat] [] →
      Completes (.mpopc g k p) s (KWrites h g k (BitVec.ofNat 64 (((List.range 128).filter (fun j => bit p j)).length)) s))

/-- R176: a reduction writes its one value to every lane: the sum mod 2^32, the signed minimum and maximum of the active lanes, with their values for no active
lane, and the floating ones over the fixed-order tree. -/
def Obligations.VectorReductions : Prop :=
  ∀ (s : State) (h : Nat) (g : BitVec 2) (d a : BitVec 7) (n : BitVec 2),
    let u := s.landed h
    let mk := u.mread h n.toNat
    let rm := roundOf (u.res h).rmode
    let x := fun j => lane (u.vread h a.toNat) j
    let active := (List.range 128).filter (fun j => mk.getLsbD j)
    let tree := fun (f : Nat → Nat → Nat × Flg) => reduceTree f 7 ((List.range 128).map (fun j => if mk.getLsbD j then some (x j).toNat else none))
    let treeD := fun (f : Nat → Nat → Nat × Flg) =>
      reduceTree f 6 ((List.range 64).map (fun j => if mk.getLsbD (2 * j) then some (elem (u.vread h a.toNat) j).toNat else none))
    let all := fun (v : BitVec 32) (fl : Flg) => WholeVector h g 6 d (fun _ => v) fl s
    let allD := fun (v : Option Nat × Flg) (empty : Nat) => WholeVector h g 6 d (fun j =>
      (BitVec.ofNat 64 (v.1.getD empty)).extractLsb' (32 * (j % 2)) 32) v.2 s
    VectorReady s h [.vreg a.toNat, .mask n.toNat] [(.vreg d.toNat, some 6)] →
    Completes (.vrsum g d a n) s (all (BitVec.ofNat 32 ((active.map (fun j => (x j).toNat)).sum)) Flg.none) ∧
    Completes (.vrmin g d a n) s (fun t => ∃ v, all v Flg.none t ∧ (active = [] → v = 0x7FFFFFFF) ∧
      (active ≠ [] → (∃ j ∈ active, v = x j) ∧ ∀ j ∈ active, v.toInt ≤ (x j).toInt)) ∧
    Completes (.vrmax g d a n) s (fun t => ∃ v, all v Flg.none t ∧ (active = [] → v = 0x80000000) ∧
      (active ≠ [] → (∃ j ∈ active, v = x j) ∧ ∀ j ∈ active, (x j).toInt ≤ v.toInt)) ∧
    Completes (.vrfsum g d a n) s (all (BitVec.ofNat 32 ((tree (fAdd .fp32 rm)).1.getD 0)) (tree (fAdd .fp32 rm)).2) ∧
    Completes (.vrfmin g d a n) s (all (BitVec.ofNat 32 ((tree (fun p q => (fMin .fp32 p q, Flg.none))).1.getD 0x7F800000)) Flg.none) ∧
    Completes (.vrfmax g d a n) s (all (BitVec.ofNat 32 ((tree (fun p q => (fMax .fp32 p q, Flg.none))).1.getD 0xFF800000)) Flg.none) ∧
    Completes (.vrdsum g d a n) s (allD (treeD (fAdd .fp64 rm)) 0) ∧
    Completes (.vrdmin g d a n) s (allD (treeD (fun p q => (fMin .fp64 p q, Flg.none))) 0x7FF0000000000000) ∧
    Completes (.vrdmax g d a n) s (allD (treeD (fun p q => (fMax .fp64 p q, Flg.none))) 0xFFF0000000000000)

/-- R63, R81, R82, R169, R170, R174, R175: VPERM, the compare-exchange stage on keys and on a payload, VDOT and the log path. -/
def Obligations.VectorPermutesAndLogPath : Prop :=
  ∀ (s : State) (h : Nat) (g : BitVec 2) (d a b : BitVec 7) (m : BitVec 3) (n : BitVec 2) (ty e : BitVec 1) (blk : BitVec 4) (jb : BitVec 3)
    (pw : BitVec 16),
    let u := s.landed h
    let mk := u.mread h m.toNat
    let x := fun j => lane (u.vread h a.toNat) j
    let y := fun j => lane (u.vread h b.toNat) j
    let z := fun j => lane (u.vread h d.toNat) j
    let w := fun (v : Nat × Flg) => (BitVec.ofNat 32 v.1, v.2)
    let key := fun j => if ty = 1 ∧ (z j).getLsbD 31 = true then (z j ^^^ 0x7FFFFFFF).toInt else (z j).toInt
    let partner := fun j => if Nat.testBit j jb.toNat then j - 2 ^ jb.toNat else j + 2 ^ jb.toNat
    let up := fun j => (!Nat.testBit (Nat.min j (partner j)) blk.toNat) != decide (e = 1)
    let swaps := fun j => if up j then key (Nat.max j (partner j)) < key (Nat.min j (partner j))
      else key (Nat.min j (partner j)) < key (Nat.max j (partner j))
    let byte := fun (v : BitVec 32) i => (v.extractLsb' (8 * i) 8).toInt
    let dot := fun j => (z j).toInt + (byte (x j) 0 * byte (y j) 0 + byte (x j) 1 * byte (y j) 1 + byte (x j) 2 * byte (y j) 2 + byte (x j) 3 * byte (y j) 3)
    let three := fun (l : Nat) => VectorReady s h [.vreg a.toNat, .vreg b.toNat, .mask m.toNat] [(.vreg d.toNat, some l)]
    (three 3 → Completes (.vperm g d a b m) s (PlainLanes h g 3 d mk (fun j => x ((y j).toNat % 128)) s)) ∧
    (VectorReady s h [.vreg d.toNat] [(.vreg d.toNat, some 3)] → jb.toNat < 7 →
      Completes (.vcmpx g d ty e blk jb) s (PlainLanes h g 3 d allLanes (fun j => if swaps j then z (partner j) else z j) s)) ∧
    (VectorReady s h [.vreg d.toNat, .vreg a.toNat] [(.vreg d.toNat, some 3), (.vreg a.toNat, some 3)] → jb.toNat < 7 →
      Completes (.vcmpxPayload g d a ty e blk jb) s (fun t => ∃ kv pv : VReg,
        (∀ j, j < 128 → lane kv j = (if swaps j then z (partner j) else z j) ∧ lane pv j = (if swaps j then x (partner j) else x j)) ∧
        (let r := u.res h
         let kw : PendW := { at_ := r.vpos + 3, tgt := .vreg d.toNat, val := kv, en := allBits, flg := 0 }
         let pw : PendW := { at_ := r.vpos + 3, tgt := .vreg a.toNat, val := pv, en := allBits, flg := 0 }
         VectorIssues h g { r with pend := insertPend pw (insertPend kw r.pend) } s t))) ∧
    (VectorReady s h [.vreg a.toNat, .vreg b.toNat, .vreg d.toNat, .mask m.toNat] [(.vreg d.toNat, some 4)] →
      Completes (.vdot g d a b m) s (LaneWrites h g 4 d mk (fun j =>
        (BitVec.ofInt 32 (max (-(2 ^ 31)) (min (2 ^ 31 - 1) (dot j))), { Flg.none with ovf := decide (dot j < -(2 ^ 31) ∨ 2 ^ 31 - 1 < dot j) })) s)) ∧
    (three 8 →
      Completes (.vlmul g d a b m) s (LaneWrites h g 8 d mk (fun j => w (lgMul (x j).toNat (y j).toNat)) s) ∧
      Completes (.vldiv g d a b m) s (LaneWrites h g 8 d mk (fun j => w (lgDiv (x j).toNat (y j).toNat)) s)) ∧
    (VectorReady s h [.vreg d.toNat] [(.vreg d.toNat, some 8)] →
      Completes (.vlpow g d pw) s (LaneWrites h g 8 d allLanes (fun j => w (lgPow (z j).toNat pw.toInt)) s)) ∧
    (VectorReady s h [.vreg a.toNat, .mask n.toNat] [(.vreg d.toNat, some 8)] →
      Completes (.vtolog g d a n) s (LaneWrites h g 8 d (u.mread h n.toNat) (fun j => w (toLog (x j).toNat)) s) ∧
      Completes (.vfromlog g d a n) s (LaneWrites h g 8 d (u.mread h n.toNat) (fun j => w (fromLog (x j).toNat)) s) ∧
      Completes (.vexp2l g d a n) s (LaneWrites h g 8 d (u.mread h n.toNat) (fun j => w (exp2L (x j).toNat)) s) ∧
      Completes (.vlog2f g d a n) s (LaneWrites h g 8 d (u.mread h n.toNat) (fun j => w (log2F (x j).toNat)) s))

/-- R57 to R59, R171 to R173: conversions in the named mode keep the generator; a stochastic one steps it once an element, in increasing order, element i rounding by the state after step
i + 1; packs write one segment of width 128 × w and unpacks zero-extend one. -/
def Obligations.VectorConversions : Prop :=
  ∀ (s : State) (h : Nat) (g : BitVec 2) (d a : BitVec 7) (t c : BitVec 4) (q : BitVec 2) (k3 : BitVec 3) (k4 : BitVec 4) (wd : BitVec 2) (dst src : NFmt),
    let u := s.landed h
    let r := u.res h
    let va := u.vread h a.toNat
    let n := if dst = .fp64 ∨ src = .fp64 then 64 else 128
    let x := fun j => if src = .fp64 then (elem va j).toNat else (lane va j).toNat
    let en := if src = .fp64 then laneBits (BitVec.ofNat 128 (2 ^ 64 - 1)) else allBits
    let steps := fun j => Nat.repeat rngStep j r.rng
    let converts := fun (rnd : Nat → Round) (rng : Word) (t : State) => ∃ val fl,
      (let p : PendW := { at_ := r.vpos + 4, tgt := .vreg d.toNat, val := val, en := en, flg := fl.code }
       VectorIssues h g { r with rng := rng, pend := insertPend p r.pend } s t) ∧
      (∀ j, j < n → (if dst = .fp64 then elem val j = BitVec.ofNat 64 (cvtFill dst (convert dst src (rnd j) (x j)).1)
        else lane val j = BitVec.ofNat 32 (cvtFill dst (convert dst src (rnd j) (x j)).1))) ∧
      FlagsOf fl (fun f => ∃ j, j < n ∧ f = (convert dst src (rnd j) (x j)).2)
    let packs := fun (w k : Nat) (t : State) => ∃ val : VReg, (∀ j b, j < 128 → b < w → 128 * w * k + w * j + b < 4096 →
        val.getLsbD (128 * w * k + w * j + b) = (lane va j).getLsbD b) ∧
      FixedWrites h g 2 (.vreg d.toNat) (BitVec.ofNat 4096 ((2 ^ (128 * w) - 1) * 2 ^ (128 * w * k))) val Flg.none s t
    let unpacks := fun (w k : Nat) => WholeVector h g 2 d (fun j => (va.extractLsb' (128 * w * k + w * j) w).setWidth 32) Flg.none s
    VectorReady s h [.vreg a.toNat] [(.vreg d.toNat, some 4)] → VectorReady s h [.vreg a.toNat] [(.vreg d.toNat, some 2)] →
    NFmt.ofCode t.toNat = some dst → NFmt.ofCode c.toNat = some src → cvtPair t c = true →
    Completes (.vcvt g d a t c q) s (converts (fun _ => if q = 0 then .ne else if q = 1 then .tz else if q = 2 then .up else .down) r.rng) ∧
    (q = 0 ∨ (q = 1 ∧ r.rmode = 4) → Completes (.vcvtSr g d a t c q) s (converts (fun j => .sr (rhoOf (steps (j + 1)))) (steps n))) ∧
    (q = 1 → r.rmode ≠ 4 → Completes (.vcvtSr g d a t c q) s (converts (fun _ => roundOf r.rmode) r.rng)) ∧
    Completes (.vpack g wd k4 d a) s (packs (16 / 2 ^ wd.toNat) k4.toNat) ∧ Completes (.vpackE3m2 g k3 d a) s (packs 6 k3.toNat) ∧
    Completes (.vunpk g wd k4 d a) s (unpacks (16 / 2 ^ wd.toNat) k4.toNat) ∧ Completes (.vunpkE3m2 g k3 d a) s (unpacks 6 k3.toNat)

/-- R89, R160, R177 to R179, R192, R193: broadcasts and extractions, the k-register instructions, VBR (code 5 decrements first and the branch ends a block), and END, which ends the program once nothing of it is in
flight. -/
def Obligations.VectorScalarValuesAndControl : Prop :=
  ∀ (s : State) (h : Nat) (g : BitVec 2) (d a : BitVec 7) (k j : BitVec 5) (l : BitVec 7) (c : BitVec 3) (o : BitVec 18),
    let u := s.landed h
    let va := u.vread h a.toNat
    let kr := fun (x : BitVec 5) => s.kread h x.toNat
    (VectorReady s h [] [(.vreg d.toNat, some 2)] →
      Completes (.vbcast g d k) s (WholeVector h g 2 d (fun _ => (kr k).extractLsb' 0 32) Flg.none s) ∧
      Completes (.vbcastD g d k) s (WholeVector h g 2 d (fun i => (kr k).extractLsb' (32 * (i % 2)) 32) Flg.none s)) ∧
    (VectorReady s h [.vreg a.toNat] [] →
      Completes (.vextr g k a l) s (KWrites h g k (BitVec.ofInt 64 (lane va l.toNat).toInt) s) ∧
      (l.toNat % 2 = 0 → Completes (.vextrD g k a l) s (KWrites h g k (lane va (l.toNat + 1) ++ lane va l.toNat) s))) ∧
    (s.who = some (.task h .v) →
      Completes (.kmov g k j) s (KWrites h g k (kr j) s) ∧
      Completes (.kadd g k j) s (KWrites h g k (BitVec.ofNat 64 ((kr k).toNat + (kr j).toNat)) s) ∧
      Completes (.ksub g k j) s (KWrites h g k (BitVec.ofInt 64 ((kr k).toInt - (kr j).toInt)) s) ∧
      (let x := if c = 5 then kr k - 1 else kr k
       let taken := c = 0 ∨ (c = 1 ∧ x = 0) ∨ (c = 2 ∧ x ≠ 0) ∨ (c = 3 ∧ x.toInt < 0) ∨ (c = 4 ∧ 0 ≤ x.toInt) ∨ (5 ≤ c.toNat ∧ x ≠ 0)
       Completes (.vbr c k o) s (fun t => Locally s t ∧ (∀ y, y ≠ h → t.res y = s.res y) ∧
         t.res h =
           { s.res h with v := (t.res h).v, vpos := (t.res h).vpos, vctl := (s.res h).vctl &&& 1, lanesDone := 0, rep := 0, kregs := (t.res h).kregs } ∧
         (∀ y, t.kread h y = if c = 5 ∧ y = k.toNat then x else s.kread h y) ∧
         (taken → (t.res h).v.pc = BitVec.ofInt 56 ((s.res h).v.pc.toNat + 4 * o.toInt)) ∧
         (¬ taken → (t.res h).v.pc = (s.res h).v.pc + 4) ∧ (t.res h).v.bnd = true)) ∧
      (s.pathBusy (.task h) 1 = false → (s.res h).settle.portsHeld = false → s.vops.all (fun v => v.h != h || decide (v.fault = none)) = true →
        (∀ y, stBind ((s.res h).stream y) = 2 → fget none (s.res h).portFault y = none) →
        Completes .vectorEnd s (fun t => (t.res h).est .v = 3 ∧ (t.res h).pend = [] ∧ (t.res h).vregs = (s.res h).settle.vregs ∧
          (t.res h).mregs = (s.res h).settle.mregs ∧ (t.res h).kregs = (s.res h).kregs ∧ t.mem = s.mem)))

/-- R86, R102 to R104: REP before a prefixable word issues its next repetition, register fields moved by j × their increments mod 128 and masked-off lanes zeroed under Z; the
program counter stays until the last one, which passes prefix and word. A prefix before a word that takes none parks the program with code 2. -/
def Obligations.VectorRepeat : Prop :=
  ∀ (s : State) (h : Nat) (c : BitVec 6) (dd da db : BitVec 3) (z : BitVec 1) (x : BitVec 32),
    let w : Who := .task h .v
    let r := s.res h
    let n := c.toNat + 1
    s.who = some w → s.fetchWord w (r.v.pc + 4) = .word x →
    (∀ (g : BitVec 2) (d a b : BitVec 7) (m : BitVec 3),
      decodeVector x = .ok (.vadd g d a b m) →
      (∀ j, j < n → (d.toNat + j * dd.toNat) % 128 < 120) →
      (let j := if r.rep = 0 then r.repIdx else r.rep
       let d' := (d.toNat + j * dd.toNat) % 128
       let a' := (a.toNat + j * da.toNat) % 128
       let b' := (b.toNat + j * db.toNat) % 128
       let u := s.landed h
       let mk := u.mread h m.toNat
       j < n → VectorReady s h [.vreg a', .vreg b', .mask m.toNat] [(.vreg d', some 2)] →
       Completes (.rep c dd da db z) s (fun t => Locally { s with fresh := s.fresh + 1 } t ∧ (∀ k, k ≠ h → t.res k = s.res k) ∧
         (∃ val en, (t.res h).pend = insertPend { at_ := r.vpos + 2, tgt := .vreg d', val := val, en := en, flg := 0 } (u.res h).pend ∧
           (∀ i, i < 128 → mk.getLsbD i = true → lane en i = 0xFFFFFFFF ∧
             lane val i = BitVec.ofNat 32 ((lane (u.vread h a') i).toNat + (lane (u.vread h b') i).toNat)) ∧
           (∀ i, i < 128 → mk.getLsbD i = false → lane en i = (if z = 1 then 0xFFFFFFFF else 0) ∧ (z = 1 → lane val i = 0))) ∧
         t.res h = { u.res h with pend := (t.res h).pend, v := (t.res h).v, vpos := r.vpos + 1 + g.toNat, lanesDone := 0, rep := (t.res h).rep, vctl := r.vctl &&& 1 } ∧
         (j + 1 < n → (t.res h).v.pc = r.v.pc ∧ (t.res h).rep = j + 1) ∧
         (j + 1 = n → (t.res h).v.pc = r.v.pc + 8 ∧ (t.res h).rep = 0)))) ∧
    (unprefixable (x.extractLsb' 26 6).toNat = true →
      exec (.rep c dd da db z) s = .next (s.takeFault w .pair (faultInfo 0x02 (wordOf (.rep c dd da db z)))))

/-- R29, R97, R101, R102, R158, R181 to R183, R185: a vector load or store whose active lanes are in the window or translated, and aligned, is listed with its lanes, addresses, counter and (a
store) the data it read; its wait counter counts it, a global one's lanes join the accesses in flight, and no register or byte of memory differs yet but the D bits of the pages a store touches. -/
def Obligations.VectorMemoryAccesses : Prop :=
  ∀ (s : State) (h : Nat) (g : BitVec 2) (d x : BitVec 7) (k q : BitVec 5) (c : BitVec 3) (o : BitVec 9) (m : BitVec 2) (tgt : Nat → Target)
    (leaf : Nat → BitVec 64),
    let w : Who := .task h .v
    let u := s.landed h
    let r := u.res h
    let kb := s.kread h k.toNat
    let contig := fun (i : Nat) => BitVec.ofInt 64 (kb.toInt + 64 * o.toInt + 4 * i)
    let gather := fun i => BitVec.ofInt 64 (kb.toInt + (lane (u.vread h x.toNat) i).toInt)
    let stride := fun i => BitVec.ofNat 64 (kb.toNat + i * (s.kread h q.toNat).toNat)
    let counted := if c.toNat ≤ 5 then { r with wcnt := fput r.wcnt c.toNat (fget (0 : BitVec 6) r.wcnt c.toNat + 1) } else r
    let lanes := fun (mk : BitVec 128) => (List.range 128).filter (fun i => mk.getLsbD i)
    let ready := fun (rd : List VTgt) (load : Bool) =>
      VectorReady s h (rd ++ (if load then [] else [.vreg d.toNat])) (if load then [(.vreg d.toNat, none)] else []) ∧ r.lanesDone = 0 ∧
      (c.toNat ≤ 5 → fget (0 : BitVec 6) r.wcnt c.toNat ≠ 63)
    let listed := fun (v : VOp) (load : Bool) (space : VSpace) (mk : BitVec 128) (addr : Nat → Nat) =>
      v.id = s.nextId ∧ v.h = h ∧ v.load = load ∧ v.remote = false ∧ v.vd = d.toNat ∧ v.space = space ∧ v.todo = mk ∧ v.all = mk ∧
      v.ctr = (if c.toNat ≤ 5 then some c.toNat else none) ∧ v.finished = false ∧ v.fault = none ∧ v.failed = 0 ∧
      (load = false → v.data = u.vread h d.toNat) ∧ (∀ i ∈ lanes mk, fget 0 v.addrs i = addr i)
    let spad := fun (i : Instr) (load : Bool) (mk : BitVec 128) (addr : Nat → Word) =>
      (∀ j ∈ lanes mk, (addr j).toNat + 4 ≤ r.spSize) →
      Completes i s (fun t => ∃ v, VectorIssues h g counted { s with vops := s.vops ++ [v], nextId := s.nextId + 1 } t ∧
        listed v load .scratch mk (fun j => r.spBase + (addr j).toNat))
    let glob := fun (i : Instr) (load : Bool) (mk : BitVec 128) (addr : Nat → Word) =>
      (∀ j ∈ lanes mk, Translates u w (addr j).toNat (if load then .load else .store) false (tgt j) (leaf j) ∧
        (load = false → (tgt j).aper = 2 → (tgt j).kind = 0 → SerialsFree s w (tgt j).peer (lanes mk).length)) →
      Completes i s (fun t => ∃ v gs, t.vops = s.vops ++ [v] ∧ listed v load .global mk (fun j => (addr j).toNat) ∧ t.gaccs = s.gaccs ++ gs ∧
        gs.length = (lanes mk).length ∧ (∀ p ∈ (lanes mk).zip gs, p.2.va = (addr p.1).toNat ∧ p.2.n = 4 ∧ p.2.tgt = tgt p.1 ∧ p.2.isStore = !load ∧
          p.2.owner = w.owner ∧ p.2.path = 1 ∧ p.2.dest = .lane v.id p.1 ∧ p.2.acq = false ∧ p.2.rel = false ∧ p.2.failed = none ∧
          (load = false → p.2.data = leBytes 4 (lane (u.vread h d.toNat) p.1).toNat ∧ (p.2.serial ≠ none ↔ (tgt p.1).aper = 2 ∧ (tgt p.1).kind = 0)) ∧
          (load = true → p.2.serial = none)) ∧
        t.res h = { counted with v := (t.res h).v, vpos := r.vpos + 1 + g.toNat, lanesDone := 0, rep := 0, vctl := r.vctl &&& 1, seqs := (t.res h).seqs, kept := (t.res h).kept } ∧
        ((load = true ∨ ∀ j ∈ lanes mk, (tgt j).aper ≠ 2 ∨ (tgt j).kind ≠ 0) → (t.res h).seqs = r.seqs ∧ (t.res h).kept = r.kept) ∧
        (t.res h).v.pc = r.v.pc + 4 ∧
        t.mem = ((lanes mk).foldl (fun y j => y.touchTlb w.tlb (y.asidOf w) (addr j).toNat (if load then .load else .store)) s).mem ∧
        (∀ j, (t.tile j).spad = (s.tile j).spad ∧ (t.tile j).slabs = (s.tile j).slabs))
    let mk := u.mread h m.toNat
    ((contig 0).toNat % 64 = 0 →
      (ready [.mask 0] true → spad (.vlds g d k c o) true allLanes contig ∧ glob (.vldg g d k c o) true allLanes contig) ∧
      (ready [.mask 0] false → spad (.vsts g d k c o) false allLanes contig ∧ glob (.vstg g d k c o) false allLanes contig)) ∧
    ((∀ j ∈ lanes mk, (gather j).toNat % 4 = 0) →
      (ready [.vreg x.toNat, .mask m.toNat] true → spad (.vgaths g d x k c m) true mk gather ∧ glob (.vgathg g d x k c m) true mk gather) ∧
      (ready [.vreg x.toNat, .mask m.toNat] false → spad (.vscats g d x k c m) false mk gather ∧ glob (.vscatg g d x k c m) false mk gather)) ∧
    ((∀ j ∈ lanes mk, (stride j).toNat % 4 = 0) →
      (ready [.mask m.toNat] true → spad (.vldsr g d q k c m) true mk stride ∧ glob (.vldgr g d q k c m) true mk stride) ∧
      (ready [.mask m.toNat] false → spad (.vstsr g d q k c m) false mk stride ∧ glob (.vstgr g d q k c m) false mk stride))

/-- R16, R17, R189 to R191, R252: a slab row access on a granted slab in the right state that no datapath instruction claims is listed with the 128 words of its row; outside SLABWIN it raises
state-use. WAITC passes once its counter is at its bound and uncovers what it covers. VAMO sends one remote operation for each lane or element. -/
def Obligations.VectorSlabsCountersAtomics : Prop :=
  ∀ (s : State) (h : Nat) (g : BitVec 2) (d a : BitVec 7) (z : BitVec 5) (c : BitVec 3) (ch : BitVec 1) (row : BitVec 5) (n : BitVec 6) (k hd : BitVec 5)
    (wc : BitVec 2) (tgt : Nat → Target) (leaf : Nat → BitVec 64),
    let w : Who := .task h .v
    let se := s.modRes h Resident.settle
    let listed := fun (load : Bool) (t : State) => ∃ v : VOp, t.vops = s.vops ++ [v] ∧ v.h = h ∧ v.load = load ∧ v.vd = d.toNat ∧
      v.space = .slab z.toNat row.toNat (decide (ch = 1)) ∧ v.todo = allLanes ∧ v.ctr = (if c.toNat ≤ 5 then some c.toNat else none) ∧
      (∀ i, i < 128 → fget 0 v.addrs i = 128 * row.toNat + i) ∧ (load = false → v.data = se.vread h d.toNat) ∧
      t.tiles = s.tiles ∧ t.mem = s.mem ∧ t.gaccs = s.gaccs ∧ (t.res h).v.pc = (s.res h).v.pc + 4 ∧ (t.res h).vregs = (se.res h).vregs ∧
      (t.res h).wcnt = (if c.toNat ≤ 5 then fput (s.res h).wcnt c.toNat (fget (0 : BitVec 6) (s.res h).wcnt c.toNat + 1) else (s.res h).wcnt)
    let free := (s.res h).portBind d.toNat = 0 ∧ ((s.res h).check = false ∨ s.uncovered h (.vreg d.toNat) = false) ∧
      (c.toNat ≤ 5 → fget (0 : BitVec 6) (s.res h).wcnt c.toNat ≠ 63)
    s.who = some w →
    (free → (s.res h).slabOk z.toNat = true → Unhindered s w →
      (s.slabFull (hTile h) z.toNat = true → s.slabClaimed (hTile h) z.toNat = false → Completes (.vslr g d z c ch row) s (listed true)) ∧
      (s.slabFull (hTile h) z.toNat = false → s.slabClaimed (hTile h) z.toNat = false → Completes (.vslw g d z c ch row) s (listed false))) ∧
    (free → (s.res h).slabOk z.toNat = false →
      exec (.vslr g d z c ch row) s = .next (se.stateUse w) ∧ exec (.vslw g d z c ch row) s = .next (se.stateUse w)) ∧
    ((fget (0 : BitVec 6) (s.res h).wcnt c.toNat).toNat ≤ n.toNat → Unhindered s w → (∀ v ∈ s.covered h c.toNat n.toNat, v.fault = none) →
      Completes (.waitc g c n) s (fun t =>
        t.vops = s.vops.filter (fun v => !(s.covered h c.toNat n.toNat).any (fun x => x.id == v.id)) ∧ (t.res h).v.pc = (s.res h).v.pc + 4 ∧
        (t.res h).vregs = (se.res h).vregs ∧ (t.res h).wcnt = (s.res h).wcnt ∧ t.tiles = s.tiles ∧ t.mem = s.mem)) ∧
    (let u := s.landed h
     let wd := s.handlerWidth hd.toNat
     let cnt := vamoCtr wc
     let step := wd / 4
     let addr := fun i => BitVec.ofInt 64 ((s.kread h k.toNat).toInt + (lane (u.vread h a.toNat) (step * i)).toInt)
     VectorReady s h [.vreg d.toNat, .vreg a.toNat] [(.vreg d.toNat, none)] → (s.res h).lanesDone = 0 → (wd = 4 ∨ wd = 8) →
     fget (0 : BitVec 6) (s.res h).wcnt cnt ≠ 63 →
     (∀ i, i < 128 / step → (addr i).toNat % wd = 0 ∧ (∀ b, Translates u w (addr i).toNat (if hd = 23 then .read23 else .atomic) b (tgt i) (leaf i)) ∧
       ((tgt i).aper = 2 → (leaf i).getLsbD 10 = true) ∧ ((tgt i).aper = 3 → hd.toNat ∈ [0, 1, 15, 16, 17, 18, 19]) ∧
       SerialsFree s w (if (tgt i).aper = 2 then (tgt i).peer else s.pkgId) (128 / step)) →
     Completes (.vamo d a k hd wc) s (fun t => ∃ v os, t.vops = s.vops ++ [v] ∧ v.h = h ∧ v.remote = true ∧ v.load = true ∧ v.vd = d.toNat ∧
       v.todo = allLanes ∧ v.ctr = some cnt ∧ t.routs = s.routs ++ os ∧ os.length = 128 / step ∧
       t.requests = s.requests ++ os.map (·.req) ∧
       (∀ p ∈ (List.range (128 / step)).zip os, p.2.va = (addr p.1).toNat ∧ p.2.tgt = tgt p.1 ∧ p.2.owner = w.owner ∧ p.2.path = 1 ∧
         p.2.req.op = .handler hd wd ∧ p.2.req.op1 = 0 ∧ p.2.status = none ∧ p.2.dest = .lane v.id (step * p.1) wd (decide (hd ≠ 20)) ∧
         p.2.req.op0 = (if wd = 8 then (elem (u.vread h d.toNat) p.1).setWidth 128 else (lane (u.vread h d.toNat) p.1).setWidth 128) ∧
         (hd ≠ 23 → (tgt p.1).aper ≠ 3 → p.2.req.serial ≠ none)) ∧
       t.mem = s.mem ∧ t.tiles = s.tiles ∧ (t.res h).vregs = (u.res h).vregs ∧ (t.res h).v.pc = (s.res h).v.pc + 4))

/-! ## The matrix and copy engines -/

/-- R203, R204, R235, R236: the local instructions of the matrix and copy programs write one n or c register and step the program; CLDS reads 8 bytes of the window, CLDG
sends a load of 8 bytes. -/
def Obligations.LocalRegisterResults : Prop :=
  ∀ (s : State) (h : Nat) (d a b : BitVec 4) (i : BitVec 18) (p : BitVec 2) (v : BitVec 16) (dc ac bc : BitVec 5) (ic : BitVec 12) (tgt : Target) (leaf : BitVec 64),
    (s.who = some (.task h .m) →
      let x := fget (0 : Word) (s.res h).nregs a.toNat
      let y := fget (0 : Word) (s.res h).nregs b.toNat
      let gives := fun (c : Instr) (z : Word) => Completes c s (ProgramSteps (.task h .m) (s.setLreg (.task h .m) d.toNat z))
      gives (.nadd d a b) (BitVec.ofNat 64 (x.toNat + y.toNat)) ∧ gives (.nsub d a b) (BitVec.ofInt 64 (x.toInt - y.toInt)) ∧
      gives (.nand d a b) (x &&& y) ∧ gives (.nor d a b) (x ||| y) ∧ gives (.nxor d a b) (x ^^^ y) ∧
      gives (.nshl d a b) (BitVec.ofNat 64 (x.toNat * 2 ^ (y.toNat % 64))) ∧ gives (.nshr d a b) (BitVec.ofNat 64 (x.toNat / 2 ^ (y.toNat % 64))) ∧
      gives (.nsra d a b) (BitVec.ofInt 64 (x.toInt / 2 ^ (y.toNat % 64))) ∧ gives (.nmul d a b) (BitVec.ofNat 64 (x.toNat * y.toNat)) ∧
      gives (.nmin d a b) (if x.toInt < y.toInt then x else y) ∧ gives (.nmax d a b) (if y.toInt < x.toInt then x else y) ∧
      gives (.nminu d a b) (if x.toNat < y.toNat then x else y) ∧ gives (.nmaxu d a b) (if y.toNat < x.toNat then x else y) ∧
      gives (.naddi d a i) (BitVec.ofInt 64 (x.toInt + i.toInt)) ∧
      Completes (.nseth d a p v) s (fun t => ∃ z : Word, ProgramSteps (.task h .m) (s.setLreg (.task h .m) d.toNat z) t ∧
        z.extractLsb' (16 * p.toNat) 16 = v ∧ ∀ j, j < 64 → j / 16 ≠ p.toNat → z.getLsbD j = x.getLsbD j) ∧
      (i.toNat < 4 → gives (.nget d i) ((fget (0 : BitVec 32) (s.res h).mprog i.toNat).setWidth 64)) ∧ (i.toNat = 4 → gives (.nget d i) Config.mcap)) ∧
    (s.who = some (.task h .c) →
      let x := fget (0 : Word) (s.res h).cregs ac.toNat
      let y := fget (0 : Word) (s.res h).cregs bc.toNat
      let gives := fun (c : Instr) (z : Word) => Completes c s (ProgramSteps (.task h .c) (s.setLreg (.task h .c) dc.toNat z))
      let off := BitVec.ofInt 64 (x.toInt + 8 * ic.toInt)
      gives (.cadd dc ac bc) (BitVec.ofNat 64 (x.toNat + y.toNat)) ∧ gives (.csub dc ac bc) (BitVec.ofInt 64 (x.toInt - y.toInt)) ∧
      gives (.cand dc ac bc) (x &&& y) ∧ gives (.cor dc ac bc) (x ||| y) ∧ gives (.cxor dc ac bc) (x ^^^ y) ∧
      gives (.cshl dc ac bc) (BitVec.ofNat 64 (x.toNat * 2 ^ (y.toNat % 64))) ∧ gives (.cshr dc ac bc) (BitVec.ofNat 64 (x.toNat / 2 ^ (y.toNat % 64))) ∧
      gives (.csra dc ac bc) (BitVec.ofInt 64 (x.toInt / 2 ^ (y.toNat % 64))) ∧ gives (.cmul dc ac bc) (BitVec.ofNat 64 (x.toNat * y.toNat)) ∧
      gives (.cmin dc ac bc) (if x.toInt < y.toInt then x else y) ∧ gives (.cmax dc ac bc) (if y.toInt < x.toInt then x else y) ∧
      gives (.cminu dc ac bc) (if x.toNat < y.toNat then x else y) ∧ gives (.cmaxu dc ac bc) (if y.toNat < x.toNat then x else y) ∧
      gives (.caddi dc ac ic) (BitVec.ofInt 64 (x.toInt + ic.toInt)) ∧ gives (.cseth dc ac ic) (BitVec.ofNat 64 (x.toNat * 2 ^ 12 + ic.toNat)) ∧
      (off.toNat + 8 ≤ (s.res h).spSize → off.toNat % 8 = 0 → NotHeld s (.task h .c) false ((s.res h).spBase + off.toNat) 8 →
        gives (.clds dc ac ic) (BitVec.ofNat 64 (leNat (memRead (s.tile (hTile h)).spad ((s.res h).spBase + off.toNat) 8)))) ∧
      ((s.res h).spSize < off.toNat + 8 → exec (.clds dc ac ic) s = .next (s.stateUse (.task h .c))) ∧
      (off.toNat % 8 = 0 → NotHeld s (.task h .c) true off.toNat 8 → Translates s (.task h .c) off.toNat .load false tgt leaf →
        Completes (.cldg dc ac ic) s (fun t => ∃ g, ProgramSteps (.task h .c) { s with gaccs := s.gaccs ++ [g], nextId := s.nextId + 1 } t ∧
          g.id = s.nextId ∧ g.owner = .task h ∧ g.path = 3 ∧ g.isStore = false ∧ g.tgt = tgt ∧ g.va = off.toNat ∧ g.n = 8 ∧ g.dest = .creg dc.toNat)) ∧
      (off.toNat % 8 ≠ 0 → exec (.cldg dc ac ic) s = .next (s.alignFault (.task h .c) 8 off)))

/-- R37, R89, R196, R205, R206, R226, R227, R237: MBR and CBR (code 5 decrements first; the branch ends a block), the ENDs of the matrix and copy programs, which hold until nothing of the program is in
flight, and MWAKE, which completes when all four sub-arrays are awake. -/
def Obligations.MatrixAndCopyControl : Prop :=
  ∀ (s : State) (h : Nat) (c : BitVec 3) (a : BitVec 4) (o : BitVec 19) (k : BitVec 5) (oc : BitVec 18),
    let takes := fun (x : Word) => c = 0 ∨ (c = 1 ∧ x = 0) ∨ (c = 2 ∧ x ≠ 0) ∨ (c = 3 ∧ x.toInt < 0) ∨ (c = 4 ∧ 0 ≤ x.toInt) ∨ (5 ≤ c.toNat ∧ x ≠ 0)
    let branches := fun (e : Eng) (reg : Nat) (off : Int) (t : State) =>
      let w : Who := .task h e
      let x := if c = 5 then s.lreg w reg - 1 else s.lreg w reg
      let u := if c = 5 then s.setLreg w reg x else s
      Locally u t ∧ (∀ y, y ≠ h → t.res y = u.res y) ∧ t.res h = (u.res h).setPrg e ((t.res h).prg e) ∧
      (takes x → ((t.res h).prg e).pc = BitVec.ofInt 56 (((s.res h).prg e).pc.toNat + 4 * off)) ∧
      (¬ takes x → ((t.res h).prg e).pc = ((s.res h).prg e).pc + 4) ∧ ((t.res h).prg e).bnd = true
    let ends := fun (e : Eng) (t : State) => (t.res h).est e = 3 ∧ t.mem = s.mem ∧ (t.res h).nregs = (s.res h).nregs ∧ (t.res h).cregs = (s.res h).cregs ∧
      (∀ j, (t.tile j).spad = (s.tile j).spad ∧ (t.tile j).slabs = (s.tile j).slabs ∧ (t.tile j).slabfe = (s.tile j).slabfe)
    (s.who = some (.task h .m) →
      Completes (.mbr c a o) s (branches .m a.toNat o.toInt) ∧
      (s.pathBusy (.task h) 2 = false → Completes .matrixEnd s (ends .m)) ∧ (s.pathBusy (.task h) 2 = true → exec .matrixEnd s = .next s) ∧
      ((s.res h).dp = none → mgStat (s.tile (hTile h)).mgate = 0 → Completes .mwake s (ProgramSteps (.task h .m) s)) ∧
      ((s.res h).dp = none → mgStat (s.tile (hTile h)).mgate ≠ 0 →
        exec .mwake s = .next (s.setTile (hTile h) { s.tile (hTile h) with waking := true }))) ∧
    (s.who = some (.task h .c) →
      Completes (.cbr c k oc) s (branches .c k.toNat oc.toInt) ∧
      (s.pathBusy (.task h) 3 = false → Completes .copyEnd s (ends .c)) ∧ (s.pathBusy (.task h) 3 = true → exec .copyEnd s = .next s))

/-- R194, R195, R198 to R202, R212 to R215, R218, R222, R223, R226: a datapath instruction whose row of checks holds, its slab in the state it needs, begins: it holds a snapshot of its shape and streams,
sleeps when it needs a gated sub-array, and the program goes on with nothing else changed; one whose row fails raises state-use, and one behind another, or a LEG whose header a watermark holds, stalls. -/
def Obligations.MatrixDatapathBegins : Prop :=
  ∀ (s : State) (h : Nat) (z : BitVec 5) (a b n : BitVec 4) (i r y : BitVec 1) (md : BitVec 2),
    let w : Who := .task h .m
    let x := s.res h
    let size := x.spSize
    let shape := fget (0 : Word) x.nregs n.toNat
    let m := shM shape
    let c := shN shape
    let k := shK shape
    let qa := x.stream a.toNat
    let qb := x.stream b.toNat
    let e := if mqFmt qa = 1 then 8 else 4
    let granted := x.slabWin.getLsbD z.toNat = true
    let ten := [0, 2, 3, 4, 5, 6, 7, 9, 10, 11]
    let weights := [9, 10, 11, 7]
    let dense := granted ∧ MatrixSide qa ten ∧ MatrixSide qb ten ∧ 1 ≤ m ∧ m ≤ 64 ∧ 1 ≤ c ∧ c ≤ 64 ∧ 1 ≤ k ∧ k ≤ 16384 ∧ RowsIn size qa m k ∧ RowsIn size qb c k
    let scaled := let q := if y = 1 then qa else qb; let rows := if y = 1 then m else c; let len := 16 * 2 ^ mqSblk q
      dense ∧ mqSblk q ≠ 3 ∧ ScalesIn size q rows ((k + len - 1) / len) ∧ TensorIn size q rows
    let parts := granted ∧ MatrixSide qa [9, 4, 5, 2] ∧ MatrixSide qb weights ∧ 1 ≤ m ∧ m ≤ 64 ∧ SlotsIn x qb c k ∧ mqRecov qb ≠ 3 ∧ RowsIn size qa m k ∧
      (mqFmt qa ≠ 2 → ScalesIn size qa m (k / 64)) ∧ ScalesIn size qb c (k / 64) ∧ TensorIn size qb c ∧
      (mqRecov qb = 1 → mqImgbase qb % 8 = 0 ∧ ImagesIn size qb (mqImgbase qb) c (k / 64)) ∧ (mqRecov qb = 2 → RowsIn size qb c k)
    let builds := MatrixSide qb weights ∧ SlotsIn x qb c k ∧ RowsIn size qb c k
    let images := mqKind qb = 1 ∧ mqFmt qb ∈ weights ∧ mqBase qb % 64 = 0 ∧ SlotsIn x qb c k ∧ ImagesIn size qb (mqBase qb) c (k / 64)
    let elems := fun (q : BitVec 512) (g : Nat × Nat) => ∃ t p, t < m ∧ p < c ∧ g = (mqBase q + t * mqRs q + p * mqEs q, 2 * e)
    let stage := fun (rad : Nat) => RealSides qa qb e ∧ (∀ q ∈ [qa, qb], mqEs q % e = 0 ∧ 2 * e ≤ mqEs q) ∧ 1 ≤ m ∧ 2 ≤ c ∧ c ≤ 16384 ∧ 1 ≤ k ∧
      c % (k * rad) = 0 ∧ ApartIn size (elems qa) (elems qb)
    let values := fun (q : BitVec 512) (off cnt : Nat) (g : Nat × Nat) => ∃ l, l < m ∧ g = (mqBase q + off + l * mqRs q, cnt * e)
    let seeds := RealSides qa qb e ∧ 1 ≤ m ∧ m ≤ 16384 ∧ 3 * e ≤ mqRs qb ∧
      ApartIn size (values qa 0 2) (fun g => g = (mqBase qb, 64) ∨ values qb 64 3 g)
    let header := fun (o : Nat) => leNat (memRead (s.tile (hTile h)).spad (x.spBase + mqBase qa + o) 4)
    let degrees := granted ∧ RealSides qa qb e ∧ 1 ≤ m ∧ m ≤ 16384 ∧ 1 ≤ c ∧ c ≤ (if mqFmt qa = 1 then 1024 else 2048) ∧
      ApartIn size (fun g => g = (mqBase qa, 64) ∨ values qa 64 3 g) (values qb 0 2) ∧ header 0 ≤ header 4 ∧ header 4 + c ≤ 65535 ∧
      ∀ j, 8 ≤ j → j < 64 → memByte (s.tile (hTile h)).spad (x.spBase + mqBase qa + j) = 0
    let rows := 2 ^ ((m + 15) / 16) - 1
    let begun := fun (i : Instr) (ra rb rn : BitVec 4) (need : Nat) (u : State) => ProgramSteps w ({ u with nextId := s.nextId + 1 }.setRes h { u.res h with
      dp := some { id := s.nextId, instr := i, iaddr := x.m.pc, shape := fget (0 : Word) x.nregs rn.toNat, qa := x.stream ra.toNat, qb := x.stream rb.toNat, units := 0,
                   asleep := decide (mgStat (s.tile (hTile h)).mgate &&& BitVec.ofNat 4 need ≠ 0), stopped := false } })
    let issues := fun (i : Instr) (ok : Prop) (ra rb rn : BitVec 4) (need : Nat) (slab : Option Bool) =>
      (ok → (slab = none → Completes i s (begun i ra rb rn need s)) ∧
        (∀ full, slab = some full → (s.tile (hTile h)).slabfe.getLsbD z.toNat = full → Unhindered s w → Completes i s (begun i ra rb rn need (s.waited w)))) ∧
      (¬ ok → exec i s = .next (s.stateUse w))
    s.who = some w →
    (x.dp = none →
      issues (.mma z a b n i r) dense a b n rows (some false) ∧ issues (.mmas z a b n y i r) scaled a b n rows (some false) ∧
      issues (.sbp z a b n i r) parts a b n 15 (some false) ∧ issues (.ephb b n) builds b b n 1 none ∧ issues (.ephl b n) images b b n 1 none ∧
      issues (.ephs b n) images b b n 1 none ∧ issues (.mzero z r) granted 0 0 0 15 (some false) ∧ issues (.macq z) granted 0 0 0 1 (some true) ∧
      issues (.mrel z) granted 0 0 0 1 (some false) ∧ issues (.fft2 a b n md i) (stage 2) a b n 1 none ∧ issues (.fft3 a b n md i) (stage 3) a b n 1 none ∧
      issues (.fft4 a b n md i) (stage 4) a b n 1 none ∧ issues (.fft5 a b n md i) (stage 5) a b n 1 none ∧ issues (.legi a b n) seeds a b n 1 none ∧
      (NotHeld s w false (x.spBase + mqBase qa) 64 → issues (.leg z a b n i y r) degrees a b n 1 (some (decide (y = 1)))) ∧
      (¬ NotHeld s w false (x.spBase + mqBase qa) 64 → exec (.leg z a b n i y r) s = .next s)) ∧
    (x.dp ≠ none → ∀ j ∈ [Instr.mma z a b n i r, .mmas z a b n y i r, .sbp z a b n i r, .ephb b n, .ephl b n, .ephs b n, .mzero z r, .macq z, .mrel z,
      .fft2 a b n md i, .fft3 a b n md i, .fft4 a b n md i, .fft5 a b n md i, .legi a b n, .leg z a b n i y r], exec j s = .next s)

/-- R66, R197, R198, R200, R207, R209, R215, R225, R226, R312: a progress point of MMA over integers adds one chunk's exact products to every element of the result, saturating, and moves the count; completion sets the slab's state and ends the claim;
MZERO writes +0 to its slab; an unused sub-array is gated, and a wake frees those asked for. -/
def Obligations.MatrixDatapathWork : Prop :=
  ∀ (s : State) (t : Tid) (r : Nat) (d : DataPath) (j : BitVec 2),
    let k := t.toNat
    let h := mkHandle k r
    k < 288 → r < 8 →
    (s.cur k .m = some r → (s.res h).dp = some d → d.stopped = false → d.asleep = false →
      (d.units < dpTotal d → s.unitHeld h d = false → (s.res h).preempt = false →
        (∀ z a b n i rl, d.instr = .mma z a b n i rl → (mqFormat d.qa).isInt = true → (mqFormat d.qb).isInt = true → shM d.shape ≤ 64 → shN d.shape ≤ 64 →
          Completes (.progressPointReached t .m) s (fun u =>
            (∀ x y, x < shM d.shape → y < shN d.shape →
              let old : Int := if i = 1 ∧ d.units = 0 then 0 else (s.slabWord k z.toNat (64 * x + y)).toInt
              let ks := unitRange d.units (chunkLen (mqFormat d.qa) (mqFormat d.qb)) (shK d.shape)
              let sum := old + (ks.map (fun e => intOf (mqFormat d.qa) (s.elemAt h d.qa x e) * intOf (mqFormat d.qb) (s.elemAt h d.qb y e))).sum
              u.slabWord k z.toNat (64 * x + y) = BitVec.ofInt 32 (max (-(2 ^ 31)) (min (2 ^ 31 - 1) sum))) ∧
            (∀ x y, x < 64 → y < 64 → shM d.shape ≤ x ∨ shN d.shape ≤ y → u.slabWord k z.toNat (64 * x + y) = s.slabWord k z.toNat (64 * x + y)) ∧
            (∀ q x, (q ≠ k ∨ x / 4096 ≠ z.toNat) → fget (0 : BitVec 32) (u.tile q).slabs x = fget (0 : BitVec 32) (s.tile q).slabs x) ∧
            (u.res h).dp = some { d with units := d.units + 1 } ∧ u.mem = s.mem ∧ (∀ q, (u.tile q).spad = (s.tile q).spad ∧ (u.tile q).slabfe = (s.tile q).slabfe))) ∧
        (∀ e c, s.dpUnit h d = .error (e, c) → exec (.progressPointReached t .m) s = .next ((s.parkWith h .m .work
          (s.mkRecord h .m (faultInfo 0x30 (BitVec.ofNat 64 (e % 4096 + 4096 * c))) d.iaddr)).preemptStop k .m))) ∧
      (s.unitHeld h d = true → (s.res h).preempt = false → exec (.progressPointReached t .m) s = .next s) ∧
      (dpTotal d ≤ d.units →
        Completes (.datapathComplete t) s (fun u => (u.res h).dp = none ∧ (u.res h).mprog = [] ∧ u.mem = s.mem ∧
          (∀ z, z < 32 → (u.tile k).slabfe.getLsbD z = (match d.instr with
            | .mma x _ _ _ _ rl | .mmas x _ _ _ _ _ rl | .sbp x _ _ _ _ rl | .mzero x rl =>
              (if x.toNat = z ∧ rl = 1 then true else (s.tile k).slabfe.getLsbD z)
            | .leg x _ _ _ _ y rl => (if x.toNat = z ∧ rl = 1 then decide (y = 0) else (s.tile k).slabfe.getLsbD z)
            | .macq x => (if x.toNat = z then false else (s.tile k).slabfe.getLsbD z)
            | .mrel x => (if x.toNat = z then true else (s.tile k).slabfe.getLsbD z)
            | _ => (s.tile k).slabfe.getLsbD z)) ∧
          (∀ x, fget (0 : BitVec 32) (u.tile k).slabs x = (match d.instr with
            | .mzero z _ => (if x / 4096 = z.toNat then 0 else fget (0 : BitVec 32) (s.tile k).slabs x)
            | _ => fget (0 : BitVec 32) (s.tile k).slabs x))))) ∧
    ((∀ q dp, q < 8 → (s.res (mkHandle k q)).dp = some dp → dp.stopped = true ∨ (subArrays dp).getLsbD j.toNat = false) →
      mgIdle (s.tile k).mgate ≠ 0 → (mgKeep (s.tile k).mgate).getLsbD j.toNat = false →
      Completes (.subarrayGate t j) s (fun u => u.mem = s.mem ∧ (mgStat (u.tile k).mgate).getLsbD j.toNat = true ∧
        ∀ x, x < 4 → x ≠ j.toNat → (mgStat (u.tile k).mgate).getLsbD x = (mgStat (s.tile k).mgate).getLsbD x)) ∧
    Completes (.subarrayWake t) s (fun u => u.mem = s.mem ∧ (u.tile k).waking = false ∧
      (∀ q dp, q < 8 → (s.res (mkHandle k q)).dp = some dp → dp.asleep = true → (u.res (mkHandle k q)).dp = some { dp with asleep := false } ∧
        mgStat (u.tile k).mgate &&& subArrays dp = 0) ∧
      ((s.tile k).waking = true → mgStat (u.tile k).mgate = 0))

/-- R227 to R233: a transfer whose checks hold begins with its operands read and its channel armed, or taken over at its WM; one whose checks fail raises state-use, and one behind another stalls. A COPY
within the scratchpad or a FILL of it then goes on one granule access at a time, in increasing order: a granule of at most 64 bytes begins, its source units are read, its units of at most 8 bytes are written,
no other byte with them, and the channel's WM takes its end; completion frees the channel. -/
def Obligations.CopyTransfers : Prop :=
  ∀ (s : State) (h : Nat) (ch : BitVec 4) (d a b : BitVec 5) (e : BitVec 2) (n k td sd : BitVec 1),
    let w : Who := .task h .c
    let r := s.res h
    let cr := fun (x : BitVec 5) => fget (0 : Word) r.cregs x.toNat
    let cd := (cr d).toNat
    let ca := (cr a).toNat
    let cb := (cr b).toNat
    let lenRow := ((cr b).extractLsb' 0 32).toNat
    let rows := ((cr b).extractLsb' 32 32).toNat
    let src := ((cr (b + 1)).extractLsb' 0 32).toInt
    let dst := ((cr (b + 1)).extractLsb' 32 32).toInt
    let count := (cr (b + 1)).toNat
    let esz := if e = 3 then 512 else if e = 2 then 64 else if e = 1 then 8 else 4
    let side := fun (spad : BitVec 1) (at_ len : Nat) => if spad = 1 then at_ + len ≤ r.spSize else at_ + len < 2 ^ 56
    let row := fun (at_ : Nat) (stride : Int) (i : Nat) => (((at_ : Int) + i * stride) % 2 ^ 64).toNat
    let apart := fun (x y len : Nat) => x + len ≤ y ∨ y + len ≤ x
    let c := s.chan (hTile h) ch.toNat
    let armed := c.base.toNat ≤ c.wm.toNat ∧ c.wm.toNat < c.limit.toNat
    let start := cd + (if td = 1 then r.spBase else 0)
    let channel := fun (total : Nat) => k = 1 → r.chWin.getLsbD ch.toNat = true ∧
      (armed → (c.space = true ↔ td = 1) ∧ start = c.wm.toNat ∧ start + total ≤ c.limit.toNat)
    let index := cb % 4 = 0 ∧ cb + 4 * count ≤ r.spSize ∧ 1 ≤ count ∧ count ≤ 2 ^ 24
    let begins := fun (i : Instr) (op : XOp) (x : BitVec 5) (kk tt ss nn : BitVec 1) (ez total : Nat) (ok : Prop) =>
      (¬ ok → exec i s = .next (s.stateUse w)) ∧
      (ok → Completes i s (fun t =>
        (∃ y, (t.res h).xf = some y ∧ y.id = s.nextId ∧ y.op = op ∧ y.ch = (if kk = 1 then some ch.toNat else none) ∧ (y.nt = true ↔ nn = 1) ∧ (y.ds = true ↔ tt = 1) ∧
          (y.ss = true ↔ ss = 1) ∧ y.esz = ez ∧ y.opd = cr x ∧ y.opa = cr a ∧ y.opb = cr b ∧ y.opb1 = cr (b + 1) ∧ y.pos = 0 ∧ y.next = 0 ∧ y.grans = [] ∧ y.stopped = false) ∧
        t.res h = { r with xf := (t.res h).xf, c := (t.res h).c } ∧ (t.res h).c.pc = r.c.pc + 4 ∧ (∀ y, y ≠ h → t.res y = s.res y) ∧ t.mem = s.mem ∧ t.gaccs = s.gaccs ∧
        (∀ j, t.tile j = if j = hTile h ∧ kk = 1 then { s.tile j with chans := (t.tile j).chans } else s.tile j) ∧
        (∀ y, y ≠ ch.toNat → t.chan (hTile h) y = s.chan (hTile h) y) ∧
        (kk = 1 → (armed → t.chan (hTile h) ch.toNat = { c with filling := true }) ∧
          (¬ armed → t.chan (hTile h) ch.toNat = { space := decide (tt = 1), base := BitVec.ofNat 56 start, limit := BitVec.ofNat 56 (start + total), wm := BitVec.ofNat 56 start, asid := r.asid, filling := true }))))
    (s.who = some w →
      (r.xf = none →
        begins (.copy ch d a b n k td sd) .copy d k td sd n 4 cb
          (1 ≤ cb ∧ cb ≤ 2 ^ 32 ∧ side td cd cb ∧ side sd ca cb ∧ (td = sd → apart cd ca cb) ∧ channel cb) ∧
        begins (.copy2d ch d a b n k td sd) .copy2d d k td sd n 4 (lenRow * rows)
          (1 ≤ lenRow ∧ lenRow ≤ 2 ^ 24 ∧ 1 ≤ rows ∧ rows ≤ 2 ^ 20 ∧ lenRow * rows ≤ 2 ^ 32 ∧
            (∀ i, i < rows → side td (row cd dst i) lenRow ∧ side sd (row ca src i) lenRow) ∧
            (td = sd → ∀ i j, i < rows → j < rows → apart (row cd dst i) (row ca src j) lenRow) ∧ (k = 1 → dst = lenRow) ∧ channel (lenRow * rows)) ∧
        begins (.cgath ch d a b e n k td sd) .cgath d k td sd n esz (count * esz) (index ∧ side td cd (count * esz) ∧ channel (count * esz)) ∧
        begins (.cscat d a b e n td sd) .cscat d 0 td sd n esz (count * esz) (index ∧ side sd ca (count * esz)) ∧
        begins (.fill ch d a b n k td) .fill d k td 0 n 4 cb (1 ≤ cb ∧ cb ≤ 2 ^ 32 ∧ side td cd cb ∧ channel cb) ∧
        begins (.pref a b) .pref 0 0 0 0 0 4 cb (1 ≤ cb ∧ cb ≤ 2 ^ 32 ∧ side 0 ca cb)) ∧
      (r.xf ≠ none → ∀ i ∈ [Instr.copy ch d a b n k td sd, .copy2d ch d a b n k td sd, .cgath ch d a b e n k td sd, .cscat d a b e n td sd, .fill ch d a b n k td, .pref a b],
        exec i s = .next s)) ∧
    (∀ (t : Tid) (q : Nat) (x : Xfer), h = mkHandle t.toNat q → t.toNat < 288 → q < 8 → s.cur t.toNat .c = some q → r.xf = some x → x.stopped = false →
      (x.op = .copy ∧ x.ss = true ∨ x.op = .fill → x.ds = true → x.pos < x.opb.toNat → r.preempt = false → (∀ g ∈ s.gaccs, ∀ p, g.dest ≠ .xfer p) →
        let goes := fun (P : State → Xfer → Prop) => Completes (.progressPointReached t .c) s (fun u => ∃ y, (u.res h).xf = some y ∧ u.mem = s.mem ∧ u.gaccs = s.gaccs ∧
          y.op = x.op ∧ y.ch = x.ch ∧ y.opd = x.opd ∧ y.opa = x.opa ∧ y.opb = x.opb ∧ P u y)
        let quiet := fun (u : State) => ∀ j, (u.tile j).spad = (s.tile j).spad ∧ (u.tile j).chans = (s.tile j).chans
        (x.grans = [] → x.next < x.opb.toNat → r.c.bnd = false → r.c.blk < 256 → (∀ kc ∈ (s.tile t.toNat).chans, some kc.1 = x.ch ∨ kc.2.armed = false) →
          goes (fun u y => quiet u ∧ y.pos = x.pos ∧ ∃ g, y.grans = [g] ∧ g.lo = x.next ∧ g.len = min (64 - (x.opd.toNat + x.next) % 2 ^ 64 % 64) (x.opb.toNat - x.next) ∧
            g.dst = (x.opd.toNat + x.next) % 2 ^ 64 ∧ g.got = [] ∧ g.ready = false ∧ g.put = 0 ∧ y.next = x.next + g.len ∧
            (x.op = .copy → g.src = [(0, g.len, (x.opa.toNat + x.next) % 2 ^ 64)]))) ∧
        (∀ g gs, x.grans = g :: gs → (∀ z ∈ gs, z.lo ≠ g.lo) →
          (g.ready = false → g.got = [] → 1 ≤ g.len →
            (x.op = .fill → goes (fun u y => quiet u ∧ y.pos = x.pos ∧ ∃ z, y.grans.head? = some z ∧ z.lo = g.lo ∧
              ∀ i, i < g.len → fget 0 z.got i = x.opa.extractLsb' (8 * ((g.lo + i) % 8)) 8)) ∧
            (∀ v, x.op = .copy → g.src = [(0, g.len, v)] → goes (fun u y => quiet u ∧ y.pos = x.pos ∧ ∃ z len, y.grans.head? = some z ∧ z.lo = g.lo ∧ 1 ≤ len ∧ len ≤ 8 ∧
              fkeys z.got = List.range len ∧ ∀ i, i < len → fget 0 z.got i = memByte (s.tile t.toNat).spad (r.spBase + v + i)))) ∧
          (g.ready = false → g.got.length = g.len → 1 ≤ g.len → goes (fun u y => quiet u ∧ y.pos = x.pos ∧ y.grans.head? = some { g with ready := true })) ∧
          (g.ready = true → g.put < g.len → goes (fun u y => ∃ len, 1 ≤ len ∧ len ≤ 8 ∧ g.put + len ≤ g.len ∧ y.pos = x.pos ∧ y.grans.head? = some { g with put := g.put + len } ∧
            (∀ j, (u.tile j).chans = (s.tile j).chans ∧ (j ≠ t.toNat → (u.tile j).spad = (s.tile j).spad)) ∧
            (∀ i, i < len → memByte (u.tile t.toNat).spad (r.spBase + g.dst + g.put + i) = fget 0 g.got (g.put + i)) ∧
            ∀ z, z < r.spBase + g.dst + g.put ∨ r.spBase + g.dst + g.put + len ≤ z → memByte (u.tile t.toNat).spad z = memByte (s.tile t.toNat).spad z)) ∧
          (g.ready = true → g.len ≤ g.put → goes (fun u y => y.grans = gs ∧ y.pos = g.lo + g.len ∧ (∀ j, (u.tile j).spad = (s.tile j).spad) ∧
            (∀ o, x.ch = some o → (u.chan t.toNat o).wm = BitVec.ofNat 56 (max (s.chan t.toNat o).wm.toNat (r.spBase + x.opd.toNat + g.lo + g.len))) ∧
            ∀ o, x.ch ≠ some o → u.chan t.toNat o = s.chan t.toNat o)))) ∧
      (x.op = .pref ∨ (x.op = .copy ∨ x.op = .fill) ∧ x.opb.toNat ≤ x.pos → Completes (.transferComplete t) s (fun u => (u.res h).xf = none ∧ (u.res h).cprog = [] ∧ u.mem = s.mem ∧
        (∀ o, x.ch = some o → u.chan t.toNat o = { s.chan t.toNat o with filling := false }) ∧ (∀ o, x.ch ≠ some o → u.chan t.toNat o = s.chan t.toNat o) ∧
        (∀ j, (u.tile j).spad = (s.tile j).spad))) ∧
      (x.op = .copy ∨ x.op = .fill → x.pos < x.opb.toNat → exec (.transferComplete t) s = .next s))

/-! ## Collective steps and handler words -/

/-- R265 to R267, R269 to R272, R350, R357: the steps that send or stand alone. NOP, LOOP and ENDL complete at once, WAIT when the event has counted enough since the start, SIGNAL when the event has counted
it, another package's by a request; SEND, BCAST and XPOSE begin their streams to the ranks the rules name, once their operands are in hand, and complete when every chunk is accepted and every byte written. A
wrong kind stops the program with cause 1, the rank itself as peer with cause 3, a range outside every window with cause 4. -/
def Obligations.CollectiveSendingSteps : Prop :=
  ∀ (s : State) (c : Nat) (x : Comm) (ls : BitVec 2) (n : BitVec 24) (buf : BitVec 4) (pa ba : BitVec 8) (pb : BitVec 20) (bb : BitVec 12) (wide : Bool),
    let d := x.desc buf.toNat
    let hd := dBase d
    let l : Int := x.counter ls
    let peer := (((x.rank : Int) + pa.toInt * l + pb.toInt) % x.size).toNat
    let len := dLen d / dNblk d
    let lo := (((x.rank : Int) + ba.toInt * l + bb.toInt) % dNblk d).toNat * len
    let v := (x.rank + x.size - pb.toNat) % x.size
    let count := (s.eventObj (hdlIdx hd)).count
    let since := fun (y : Word) => (y - fget 0 x.captured buf.toNat).toNat
    let passes := StepPasses c x (x.pos + 1) s
    let send : Instr := .send ls pa pb buf wide ba bb
    MemberRuns s c x →
    Completes .collNop s (fun t => passes t ∧ (t.comm c).loops = x.loops ∧ (t.comm c).ctrs = x.ctrs) ∧
    (n ≠ 0 → Completes (.loop ls n) s (fun t => passes t ∧ (t.comm c).loops = (ls.toNat, x.pos, n.toNat) :: x.loops ∧ (t.comm c).counter ls = 0)) ∧
    (∀ m, ClosesAt (x.prog.drop (x.pos + 1)) m →
      Completes (.loop ls 0) s (fun t => StepPasses c x (x.pos + m + 2) s t ∧ (t.comm c).loops = x.loops)) ∧
    (∀ p lim rest, x.loops = (ls.toNat, p, lim) :: rest →
      Completes (.endl ls) s (fun t =>
        (x.counter ls + 1 < lim → StepPasses c x (p + 1) s t ∧ (t.comm c).loops = x.loops ∧ (t.comm c).counter ls = x.counter ls + 1) ∧
        (lim ≤ x.counter ls + 1 → passes t ∧ (t.comm c).loops = rest))) ∧
    (dKind d = 1 → x.sends = [] → hdlPkg hd = s.pkgId →
      (n.toNat ≤ since count → Completes (.wait buf n) s passes) ∧ (since count < n.toNat → exec (.wait buf n) s = .next s) ∧
      (x.step = none → EngineSettled s c → s.eventLive hd = true →
        Completes (.signal buf n) s (fun t => passes t ∧ (t.eventObj (hdlIdx hd)).count = count + n.setWidth 64))) ∧
    (dKind d = 1 → x.sends = [] → hdlPkg hd ≠ s.pkgId →
      (s.eventRout (.coll c) 4 hd = none → Completes (.wait buf n) s (fun t => OnlyMember c s t ∧ (t.comm c).pos = x.pos ∧ ∃ q o, t.requests = s.requests ++ [q] ∧
        t.routs = s.routs ++ [o] ∧ o.req = q ∧ q.op = .evRead hd ∧ q.serial = none ∧ o.peer = hdlPkg hd ∧ o.owner = .coll c ∧ o.dest = .eventInfo hd)) ∧
      (∀ o, s.eventRout (.coll c) 4 hd = some o → o.status = some .performed → n.toNat ≤ since (o.answer.setWidth 64) →
        Completes (.wait buf n) s (StepPasses c x (x.pos + 1) (s.dropRout o.id))) ∧
      (x.step = none → EngineSettled s c → ((s.seqFor (.coll c) (hdlPkg hd)).next - 1 - (s.seqFor (.coll c) (hdlPkg hd)).seen).toNat < 2 ^ 30 →
        Completes (.signal buf n) s (fun t => OnlyMember c s t ∧ (t.comm c).pos = x.pos ∧ (t.comm c).step ≠ none ∧
          ∃ o, t.routs = s.routs ++ [o] ∧ o.owner = .coll c ∧ o.peer = hdlPkg hd ∧ o.req.op0 = hd.setWidth 128 ∧ o.req.serial ≠ none ∧
            (x.incomplete = false → o.req.op = .evSignal (n.setWidth 64) 1 0)))) ∧
    (dKind d = 1 → x.step = none → x.sends = [] → ¬ EngineSettled s c → exec (.signal buf n) s = .next s) ∧
    (x.step ≠ none → (∀ o ∈ s.routs, o.owner ≠ .coll c) → Completes (.signal buf n) s passes) ∧
    (x.step = none → x.sends = [] →
      (dKind d = 0 → peer ≠ x.rank → StepWindow s x d lo len →
        Completes send s (fun t => OnlyMember c s t ∧ (t.comm c).pos = x.pos ∧ (t.comm c).step ≠ none ∧
          ∃ st, (t.comm c).sends = [st] ∧ st.dest = peer ∧ st.kind = .pair ∧ st.wide = wide ∧ st.ord = fget 0 x.sendOrd peer ∧ st.staged = 0 ∧ st.accepted = 0 ∧
            st.total = (if wide then len * 8 / fmtBits (dFmt d) * 4 else len) ∧
            st.src = (if wide then .wider buf.toNat lo (dFmt d) else .range buf.toNat lo))) ∧
      (dKind d ≠ 0 → Completes send s (MemberStops c 1 s) ∧ Completes (.bcast buf pb) s (MemberStops c 1 s)) ∧
      (dKind d ≠ 1 → Completes (.wait buf n) s (MemberStops c 1 s) ∧ Completes (.signal buf n) s (MemberStops c 1 s)) ∧
      (dKind d ≠ 2 → Completes (.xpose buf) s (MemberStops c 1 s)) ∧
      (dKind d = 0 → peer = x.rank → Completes send s (MemberStops c 3 s)) ∧
      (dKind d = 0 → peer ≠ x.rank → ¬ StepWindow s x d lo len → Completes send s (MemberStops c 4 s)) ∧
      (dKind d = 0 → x.size ≤ pb.toNat → Completes (.bcast buf pb) s (MemberStops c 1 s)) ∧
      (dKind d = 0 → pb.toNat < x.size → x.size ≤ 2 ^ 20 → StepWindow s x d 0 (dLen d) → (v ≠ 0 → MayFill s (dTile d) (dCh d) (decide (dSpace d = 1)) (dBase d).toNat (dLen d)) →
        Completes (.bcast buf pb) s (fun t => (v = 0 → OnlyMember c s t) ∧
          (v ≠ 0 → BeginsFilling c (dTile d) (dCh d) (decide (dSpace d = 1)) x.asid (dBase d).toNat (dLen d) s t) ∧ (t.comm c).pos = x.pos ∧ (t.comm c).bcasts = x.bcasts + 1 ∧
          (∃ ws : List Nat, ws.Pairwise (· < ·) ∧ (∀ w, w ∈ ws ↔ w < x.size ∧ ∃ j, w = v + 2 ^ j ∧ v < 2 ^ j) ∧
            (t.comm c).sends.map (·.dest) = ws.map (fun w => (w + pb.toNat) % x.size)) ∧
          (∀ st ∈ (t.comm c).sends, st.kind = .bcast ∧ st.ord = x.bcasts ∧ st.wide = false ∧ st.total = dLen d ∧ st.src = .range buf.toNat 0) ∧
          ∃ p, (t.comm c).step = some p ∧ p.kind = .bcast ∧ p.len = dLen d ∧ p.ord = x.bcasts ∧
            (if v = 0 then p.off = dLen d ∧ p.peer = x.rank else p.off = 0 ∧ p.peer = (v - 2 ^ v.log2 + pb.toNat) % x.size))) ∧
      (dKind d = 2 → StepWindow s x d 0 128 → ∀ bs, BytesHere s c (decide (dSpace d = 1)) (dTile d) (dBase d).toNat 128 bs →
        let f := fun (o w : Nat) => recNat bs o w
        let stride := fun (o : Nat) => (BitVec.ofNat 64 (f o 8)).toInt
        let e : Nat := 4 * 2 ^ f 19 1
        let box := f 24 4 * f 28 4 * e
        let inside := fun (tile base rows cols : Nat) (rs cs : Int) => ∃ r, r < 8 ∧ (let y := s.res (mkHandle tile r)
          y.life ≠ .free ∧ y.asid = x.asid ∧ ∀ i j : Nat, i < rows → j < cols →
            (y.spBase : Int) ≤ base + i * rs + j * cs ∧ (base : Int) + i * rs + j * cs + e ≤ y.spBase + y.spSize)
        f 0 8 = x.handle.toNat → f 18 1 ≤ 1 → (f 18 1 = 1 → f 16 2 < 288) → f 19 1 ≤ 2 → f 20 4 = 0 → 1 ≤ f 24 4 → f 24 4 ≤ 65535 → 1 ≤ f 28 4 → f 28 4 ≤ 65535 →
        f 58 1 ≤ 1 → (f 58 1 = 1 ∨ f 59 1 ≠ 0xFF → f 56 2 < 288) → (f 59 1 < 16 ∨ f 59 1 = 0xFF) → f 60 1 ≤ 1 → f 61 3 = 0 → (f 80 8 ≠ 0 → 1 ≤ f 88 8 ∧ f 88 8 < 2 ^ 32) →
        f 96 32 = 0 → (f 59 1 ≠ 0xFF → stride 72 = e ∧ stride 64 = f 28 4 * e) → x.size ≠ 0 →
        (f 18 1 = 1 → inside (f 16 2) (f 8 8) (f 24 4) (x.size * f 28 4) (stride 32) (stride 40)) →
        (f 58 1 = 1 → inside (f 56 2) (f 48 8) (x.size * f 24 4) (f 28 4) (stride 64) (stride 72)) →
        MayFill s (f 56 2) (f 59 1) (decide (f 58 1 = 1)) (f 48 8) (x.size * box) →
        Completes (.xpose buf) s (fun t => BeginsFilling c (f 56 2) (f 59 1) (decide (f 58 1 = 1)) x.asid (f 48 8) (x.size * box) s t ∧ (t.comm c).pos = x.pos ∧
          (t.comm c).sends.map (·.dest) = (List.range (x.size - 1)).map (fun i => (x.rank + x.size - (i + 1)) % x.size) ∧
          (∀ st ∈ (t.comm c).sends, st.kind = .xpose ∧ st.wide = false ∧ st.total = box ∧ st.src = .block st.dest) ∧
          ∃ q, (t.comm c).step = some q ∧ q.kind = .xpose ∧ q.par = BitVec.ofNat 1024 (leNat bs) ∧ q.m = 1 ∧ q.off = 0))) ∧
    (∀ p, x.step = some p → x.sends = [] →
      Completes send s passes ∧
      (p.kind = .bcast → p.peer = x.rank → p.len ≤ p.off → EngineSettled s c → Completes (.bcast buf pb) s passes) ∧
      (p.kind = .xpose → x.size < p.m → p.par.extractLsb' 472 8 = 0xFF → p.par.extractLsb' 640 64 = 0 → EngineSettled s c → Completes (.xpose buf) s passes))

/-- R265 to R268, R272: RECV, RRS, RRF and COPY begin with their block, their peer and the stream the pair's order names, their channel armed; each takes its stream's chunk that is next, RECV writing its
bytes, RRF the sum (minimum, maximum) narrowed once, RRS sending it wide, COPY the block's bytes, each unit of a scratchpad by itself; each completes when every byte is written, or accepted. A stream of the
other form or another length stops the program with cause 2, nothing written. -/
def Obligations.CollectiveReceivingSteps : Prop :=
  ∀ (s : State) (c : Nat) (x : Comm) (ls : BitVec 2) (buf src : BitVec 4) (pa ba : BitVec 8) (pb : BitVec 20) (bb : BitVec 12) (fwd : Bool),
    let d := x.desc buf.toNat
    let e := x.desc src.toNat
    let l : Int := x.counter ls
    let peer := (((x.rank : Int) + pa.toInt * l + pb.toInt) % x.size).toNat
    let len := dLen d / dNblk d
    let blk := fun (k : BitVec 256) => (((x.rank : Int) + ba.toInt * l + bb.toInt) % dNblk k).toNat
    let onward := if fwd then peer else ((2 * (x.rank : Int) - peer) % x.size).toNat
    let arms := fun (lo : Nat) => BeginsFilling c (dTile d) (dCh d) (decide (dSpace d = 1)) x.asid ((dBase d).toNat + lo) len s
    let fillable := fun (lo : Nat) => MayFill s (dTile d) (dCh d) (decide (dSpace d = 1)) ((dBase d).toNat + lo) len
    let begun := fun (k : StepKind) (t : State) => ∃ p, (t.comm c).step = some p ∧ p.kind = k ∧ p.peer = peer ∧ p.ord = fget 0 x.recvOrd peer ∧
      p.buf = buf.toNat ∧ p.lo = blk d * len ∧ p.len = len ∧ p.off = 0 ∧ fget 0 (t.comm c).recvOrd peer = p.ord + 1 ∧ (t.comm c).pos = x.pos
    let recv : Instr := .recv ls pa pb buf ba bb
    let rrf : Instr := .rrf ls pa pb buf ba bb
    let rrs : Instr := .rrs ls pa pb buf fwd ba bb
    let copy : Instr := .collCopy ls buf src ba bb
    MemberRuns s c x →
    (x.step = none → x.sends = [] →
      (dKind d = 0 → peer ≠ x.rank → StepWindow s x d (blk d * len) len →
        Completes rrs s (fun t => OnlyMember c s t ∧ begun .rrs t ∧ ∃ st, (t.comm c).sends = [st] ∧ st.dest = onward ∧ st.kind = .pair ∧ st.wide = true ∧
          st.total = len * 8 / fmtBits (dFmt d) * 4 ∧ st.src = .made) ∧
        (fillable (blk d * len) →
          Completes recv s (fun t => arms (blk d * len) t ∧ begun .recv t ∧ (t.comm c).sends = []) ∧
          Completes rrf s (fun t => arms (blk d * len) t ∧ begun .rrf t ∧ (t.comm c).sends = []))) ∧
      (dKind d = 0 → dKind e = 0 → dLen e / dNblk e = len → blk e < dNblk d → StepWindow s x d (blk e * len) len → StepWindow s x e (blk e * len) len → fillable (blk e * len) →
        Completes copy s (fun t => arms (blk e * len) t ∧ (t.comm c).pos = x.pos ∧ ∃ p, (t.comm c).step = some p ∧ p.kind = .copy ∧ p.buf = buf.toNat ∧
          p.lo = blk e * len ∧ p.len = len ∧ p.src = blk e * len ∧ p.off = 0)) ∧
      (dKind d = 0 → peer = x.rank → ∀ i ∈ [recv, rrf, rrs], Completes i s (MemberStops c 3 s)) ∧
      (dKind d ≠ 0 → ∀ i ∈ [recv, rrf, rrs, copy], Completes i s (MemberStops c 1 s)) ∧
      (dKind d = 0 → dKind e ≠ 0 ∨ dLen e / dNblk e ≠ len → Completes copy s (MemberStops c 1 s))) ∧
    (∀ p, x.step = some p →
      let b := x.desc p.buf
      let tile := dTile b
      let at_ := (dBase b).toNat + p.lo + p.off
      let bits := fmtBits (dFmt b)
      let eb := bits / 8
      let wire := if p.kind = .recv then p.off else p.off * 8 / bits * 4
      let total := if p.kind = .recv then p.len else p.len * 8 / bits * 4
      let wrote := fun (bs : List Byte) (t : State) =>
        (∀ i, i < bs.length → memByte (t.tile tile).spad (at_ + i) = bs.getD i 0) ∧
        (∀ y, y < at_ ∨ at_ + bs.length ≤ y → memByte (t.tile tile).spad y = memByte (s.tile tile).spad y) ∧
        (∀ q, q ≠ tile → t.tile q = s.tile q) ∧ t.mem = s.mem ∧ t.residents = s.residents ∧ t.svs = s.svs ∧ t.gaccs = s.gaccs ∧
        t.chan tile (dCh b) = (s.channelAt tile (dCh b) (at_ + bs.length) true).chan tile (dCh b) ∧
        ∃ y, (t.comm c).step = some y ∧ y.off = p.off + bs.length ∧ y.kind = p.kind ∧ (t.comm c).pos = x.pos
      (∀ win ch more, x.windows.find? (fun w => w.sender == p.peer) = some win → win.chunks = ch :: more → ch.run = x.runs → ch.kind = .pair → ch.ord = p.ord → ch.offset ≤ wire →
        wire < ch.offset + ch.data.length → p.off < p.len → x.sends = [] ∨ p.kind = .rrs →
        let fits := ch.recd = x.recd ∧ ch.wide = decide (p.kind ≠ .recv) ∧ ch.total = total
        let done := wire - ch.offset
        let left := ch.data.length - done
        let fresh := (if p.kind = .recv then left else left / 4 * eb)
        let unit := if (p.kind = .recv ∨ bits = 32) ∧ at_ % 8 = 0 ∧ done ∈ ch.eights ∧ 8 ≤ fresh then 8 else min fresh (4 - at_ % 4)
        let incoming := fun (i : Nat) => recNat ch.data (done + 4 * i) 4
        let local_ := fun (bs : List Byte) (i : Nat) => (convert .fp32 ((NFmt.ofCode (dFmt b)).getD .fp32) .ne (recNat bs (eb * i) eb)).1
        let z := fun (bs : List Byte) (i : Nat) => if dRop b = 0 then (fAdd .fp32 .ne (incoming i) (local_ bs i)).1
          else if dRop b = 1 then fMin .fp32 (incoming i) (local_ bs i) else fMax .fp32 (incoming i) (local_ bs i)
        (¬ fits → (p.kind = .recv → Completes recv s (MemberStops c 2 s)) ∧ (p.kind = .rrf → Completes rrf s (MemberStops c 2 s)) ∧ (p.kind = .rrs → Completes rrs s (MemberStops c 2 s))) ∧
        (fits → p.kind = .recv → dSpace b = 1 → EngineSettled s c → Completes recv s (wrote ((ch.data.drop done).take unit))) ∧
        (fits → p.kind = .rrf → dSpace b = 1 → EngineSettled s c → wideFmt (dFmt b) = true → left % 4 = 0 →
          let n := min fresh ((unit + eb - 1) / eb * eb)
          ∀ bs, BytesHere s c true tile at_ n bs → Completes rrf s (wrote ((List.range (n / eb)).flatMap (fun i =>
            leBytes eb (convert ((NFmt.ofCode (dFmt b)).getD .fp32) .fp32 .ne (z bs i)).1)))) ∧
        (fits → p.kind = .rrs → wideFmt (dFmt b) = true → left % 4 = 0 → ∀ bs, BytesHere s c (decide (dSpace b = 1)) tile at_ fresh bs →
          Completes rrs s (fun t => t.tiles = s.tiles ∧ t.mem = s.mem ∧ t.residents = s.residents ∧ t.gaccs = s.gaccs ∧ (∃ y, (t.comm c).step = some y ∧ y.off = p.off + fresh) ∧
            (t.comm c).sends = x.sends.map (fun st => if st.src = .made ∧ st.ord = p.m ∧ st.dest = p.src then
              { st with given := st.given ++ [((List.range (left / 4)).flatMap (fun i => leBytes 4 (z bs i)), ch.miss)] } else st)))) ∧
      (p.off < p.len → p.kind = .copy → p.buf = buf.toNat → dSpace d = 1 → EngineSettled s c → x.chunkBytes ≠ 0 →
        let k := min x.chunkBytes (p.len - p.off)
        let from_ := (dBase e).toNat + p.src + p.off
        let n := if at_ % 8 = 0 ∧ from_ % 8 = 0 ∧ 8 ≤ k then 8 else min k (4 - at_ % 4)
        ∀ bs, BytesHere s c (decide (dSpace e = 1)) (dTile e) from_ n bs → Completes copy s (wrote bs)) ∧
      (p.len ≤ p.off →
        let ends := fun (i : Instr) => Completes i s (StepPasses c x (x.pos + 1) (s.channelAt tile (dCh b) at_ false))
        (EngineSettled s c → (p.kind = .recv → ends recv) ∧ (p.kind = .rrf → ends rrf) ∧ (p.kind = .copy → ends copy)) ∧
        (p.kind = .rrs → x.sends = [] → Completes rrs s (StepPasses c x (x.pos + 1) s))))

/-- R257, R260, R261, R262: each handler word writes its register, or buffers its bytes, and the next word follows; HBR goes on its distance when its condition holds; HLD reads a byte of the buffer before one of memory,
and ends the run on a poisoned line unless all its bytes are buffered; HRET commits every buffered byte to the window and no other, HFAIL none, and both return h(ha). -/
def Obligations.HandlerWords : Prop :=
  ∀ (s : State) (sl : Nat) (r : HRun) (d a b : BitVec 4) (i : BitVec 16) (k : BitVec 2) (n : BitVec 6) (f : BitVec 1) (c : BitVec 3),
    let x := r.get a
    let y := r.get b
    let gives := fun (w : Instr) (v : Word) => Completes w s (fun t => ∃ u, RunGoes sl u s t ∧ u.get d = v ∧ (∀ j, j ≠ d → u.get j = r.get j) ∧
      u = { r with regs := u.regs, idx := r.idx + 1 })
    let off := ((x + i.signExtend 64) &&& 0xFF8#64).toNat
    let seen := fun (o : Nat) => match fget none r.buf o with | some v => v | none => memByte s.mem (4096 * r.window + o)
    let result : BitVec 128 := if r.w = 16 then r.get (a + 1) ++ r.get a else if r.w = 4 then BitVec.ofNat 128 (x.toNat % 2 ^ 32) else BitVec.ofNat 128 x.toNat
    s.turn = .near sl → fget none s.hruns sl = some r →
    Completes .hnop s (RunGoes sl { r with idx := r.idx + 1 } s) ∧
    gives (.hli d i) (i.signExtend 64) ∧ gives (.hlis d i) (BitVec.ofNat 64 ((r.get d).toNat * 2 ^ 16) ||| i.setWidth 64) ∧
    gives (.hadd d a b i) (BitVec.ofInt 64 (x.toInt + y.toInt + i.toInt)) ∧ gives (.hsub d a b) (BitVec.ofInt 64 (x.toInt - y.toInt)) ∧
    gives (.hand d a b) (x &&& y) ∧ gives (.hor d a b) (x ||| y) ∧ gives (.hxor d a b) (x ^^^ y) ∧
    gives (.hshf d a k n) (if k = 0 then BitVec.ofNat 64 (x.toNat * 2 ^ n.toNat) else if k = 1 then BitVec.ofNat 64 (x.toNat / 2 ^ n.toNat)
      else if k = 2 then BitVec.ofInt 64 (x.toInt / 2 ^ n.toNat) else BitVec.ofNat 64 (x.toNat / 2 ^ n.toNat + x.toNat * 2 ^ (64 - n.toNat))) ∧
    gives (.hfadd d a b f) (if f = 0 then BitVec.ofNat 64 (fAdd .fp32 (roundOf 0) (x.toNat % 2 ^ 32) (y.toNat % 2 ^ 32)).1
      else BitVec.ofNat 64 (fAdd .fp64 (roundOf 0) x.toNat y.toNat).1) ∧
    (let holds := (c = 0 ∧ x = y) ∨ (c = 1 ∧ x ≠ y) ∨ (c = 2 ∧ x.toInt < y.toInt) ∨ (c = 3 ∧ x.toNat < y.toNat) ∨
       (c = 4 ∧ fCmp .fp32 2 (x.toNat % 2 ^ 32) (y.toNat % 2 ^ 32) = true) ∨ (c = 5 ∧ fCmp .fp64 2 x.toNat y.toNat = true)
     c.toNat ≤ 5 → (holds → gives (.hcmp d a b c) 1) ∧ (¬ holds → gives (.hcmp d a b c) 0)) ∧
    gives (.hsel d a b) (if r.get d ≠ 0 then x else y) ∧
    (∀ hc : BitVec 4, hc.toNat ≤ 2 → Completes (.hbr hc a i) s (RunGoes sl
      { r with idx := if hc = 0 ∨ (hc = 1 ∧ x = 0) ∨ (hc = 2 ∧ x ≠ 0) then r.idx + i.toNat else r.idx + 1 } s)) ∧
    (let buffered := ∀ j, j < 8 → fget none r.buf (off + j) ≠ none
     (s.poisoned (4096 * r.window + off) 8 = false ∨ buffered → ∃ v : Word, gives (.hld d a i) v ∧ ∀ j, j < 8 → v.extractLsb' (8 * j) 8 = seen (off + j)) ∧
     (s.poisoned (4096 * r.window + off) 8 = true → ¬ buffered → Completes (.hld d a i) s (fun t => RunEnds sl r .memError 0 s t ∧ t.mem = s.mem))) ∧
    Completes (.hst a b i) s (fun t => ∃ u, RunGoes sl u s t ∧ u = { r with buf := u.buf, idx := r.idx + 1 } ∧
      (∀ j, j < 8 → fget none u.buf (off + j) = some (y.extractLsb' (8 * j) 8)) ∧
      (∀ o, o < off ∨ off + 8 ≤ o → fget none u.buf o = fget none r.buf o)) ∧
    (r.buf.Pairwise (fun p q => p.1 < q.1) → (∀ p ∈ r.buf, p.1 < 4096) → 4096 * r.window + 4096 ≤ Config.cfgBase →
      Completes (.hret a) s (fun t => RunEnds sl r .performed result s t ∧ (∀ o, o < 4096 → memByte t.mem (4096 * r.window + o) = seen o) ∧
        (∀ z, z < 4096 * r.window ∨ 4096 * r.window + 4096 ≤ z → memByte t.mem z = memByte s.mem z))) ∧
    Completes (.hfail a) s (fun t => RunEnds sl r .byHfail result s t ∧ t.mem = s.mem)

/-! ## Accesses in flight -/

/-- R97, R123, R133, R183, R236, R249, R276 to R278, R288, R295, R298 to R300, R323: a global load that may be performed returns its bytes, forwarded or from memory, to its register; a store that may commit puts its bytes, and no other, into memory and invalidates
the cached copies, one to the host is posted; a vector access is performed lane by lane and reports; a pending write lands; a stream vector is fetched to, or stored from, its port; a walk sets A and fills the TLBs that wait. -/
def Obligations.AccessEvents : Prop :=
  ∀ (s : State),
    (∀ id g data, s.gacc? id = some g → g.isStore = false → g.failed = none → s.mayPerform g = true → (∀ v l, g.dest ≠ .lane v l) →
      (s.forwarded g ≠ none ∨ g.tgt.aper = 3 ∨ (g.tgt.aper ≤ 1 ∧ s.poisoned g.tgt.pa g.n = false ∧ g.tgt.pa < Config.cfgBase)) →
      let bytes := match s.forwarded g with
        | some bs => bs
        | none => if g.tgt.aper = 3 then leBytes g.n data.toNat else memRead s.mem g.tgt.pa g.n
      (∀ d sgn w, g.dest = .sreg d sgn → ownerWho g.owner g.path = some w →
        Completes (.loadComplete id data) s (fun t => (∀ n : BitVec 6, t.sreg w n = if n.toNat = d ∧ d ≠ 0 then extBytes sgn g.n (leNat bytes) else s.sreg w n) ∧
          OnlyScalarValue w s t ∧ t.gaccs = s.gaccs.filter (fun x => x.id != id))) ∧
      (∀ d h, g.dest = .creg d → g.owner = .task h →
        Completes (.loadComplete id data) s (fun t => t.res h = { s.res h with cregs := fset (0 : Word) (s.res h).cregs d (BitVec.ofNat 64 (leNat bytes)) } ∧
          (∀ k, k ≠ h → t.res k = s.res k) ∧ t.mem = s.mem ∧ t.tiles = s.tiles ∧ t.svs = s.svs ∧ t.gaccs = s.gaccs.filter (fun x => x.id != id)))) ∧
    (∀ id g, s.gacc? id = some g → g.isStore = true → g.failed = none → g.buffered = false → s.mayPerform g = true → s.windowBusy g.tgt.pa g.n = false →
      (∀ v l, g.dest ≠ .lane v l) → (g.rel = true → g.scope = 4 → s.unflushed = []) →
      (g.tgt.aper ≤ 1 → g.tgt.pa < Config.cfgBase → g.data ≠ [] → s.poison.contains (g.tgt.pa / 64) = false →
        Completes (.storeCommit id) s (fun t => memRead t.mem g.tgt.pa g.data.length = g.data ∧
          (∀ a, a < g.tgt.pa ∨ g.tgt.pa + g.data.length ≤ a → memByte t.mem a = memByte s.mem a) ∧ t.tiles = s.tiles ∧ t.residents = s.residents ∧ t.svs = s.svs ∧
          t.gaccs = s.gaccs.filter (fun x => x.id != id) ∧
          (∀ l, g.tgt.pa < 64 * l + 64 → 64 * l < g.tgt.pa + g.data.length → fget (0 : BitVec 4) t.directory l = 0))) ∧
      (g.tgt.aper = 3 → Completes (.storeCommit id) s (fun t => Untouched s t ∧ t.gaccs = s.gaccs.filter (fun x => x.id != id) ∧
        t.hostOut = s.hostOut ++ [{ port := decide (2 ^ 51 ≤ g.tgt.pa), addr := g.tgt.pa % 2 ^ 51, data := g.data, ro := false }] ∧
        t.unflushed = s.unflushed ++ [{ port := decide (2 ^ 51 ≤ g.tgt.pa), owner := g.owner, path := g.path, id := g.id, at_ := s.nextId }])) ∧
      (g.tgt.aper = 2 → g.sent = false →
        Completes (.storeCommit id) s (fun t => t.mem = s.mem ∧ t.tiles = s.tiles ∧ t.svs = s.svs ∧ t.requests = s.requests ∧
          (∀ h, t.res h = { s.res h with seqs := (t.res h).seqs }) ∧ (∀ x ∈ t.gaccs, x.id = id → x.sent = true) ∧
          ∃ o, t.routs = s.routs ++ [o] ∧ o.dest = .access id ∧ o.peer = g.tgt.peer ∧ o.req.op = .store g.data ∧ o.req.addr = g.tgt.pa ∧ o.req.rt = false ∧
            o.req.serial = g.serial ∧ o.status = none))) ∧
    (∀ id g bs, s.gacc? id = some g → g.buffered = true → g.failed = none → s.mayPerform g = true → g.data = bs → bs.length = g.n → bs ≠ [] →
      (∀ v l, g.dest ≠ .lane v l) → (∀ x ∈ s.gaccs, x.owner = g.owner → x.path = g.path → x.buffered = true → x = g) →
      Completes (.wcBufferIssue id) s (fun t => Untouched s t ∧ t.gaccs = s.gaccs.filter (fun x => x.id != id) ∧
        t.hostOut = s.hostOut ++ [{ port := decide (2 ^ 51 ≤ g.tgt.pa), addr := g.tgt.pa % 2 ^ 51, data := bs, ro := true }])) ∧
    (∀ id lanes data v, s.vop? id = some v → v.finished = false → v.remote = false → v.space = .scratch → v.vd < 120 →
      (∀ i, i < 128 → v.todo.getLsbD i = true → lanes.getLsbD i = true ∧ s.heldBy (hTile v.h) true 0 (fget 0 v.addrs i) 4 none = false) →
      (∀ u ∈ s.vops, u.h = v.h → u.id < v.id → u.finished = true) →
      let tile := hTile v.h
      Completes (.vectorAccessComplete id lanes data) s (fun t =>
        (v.load = true → t.tiles = s.tiles ∧ ∀ i, i < 128 → lane (fget (0 : VReg) (t.res v.h).vregs v.vd) i =
          if v.todo.getLsbD i then BitVec.ofNat 32 (leNat (memRead (s.tile tile).spad (fget 0 v.addrs i) 4)) else lane (fget (0 : VReg) (s.res v.h).vregs v.vd) i) ∧
        (v.load = false → (t.res v.h).vregs = (s.res v.h).vregs ∧
          (∀ i, i < 128 → v.todo.getLsbD i = true → (∀ j, i < j → j < 128 → v.todo.getLsbD j = true → lanesMeet (fget 0 v.addrs j) (fget 0 v.addrs i) = false) →
            memRead (t.tile tile).spad (fget 0 v.addrs i) 4 = leBytes 4 (lane v.data i).toNat) ∧
          (∀ a, (∀ i, i < 128 → v.todo.getLsbD i = true → a < fget 0 v.addrs i ∨ fget 0 v.addrs i + 4 ≤ a) →
            memByte (t.tile tile).spad a = memByte (s.tile tile).spad a)) ∧
        (∀ k, v.ctr = some k → fget (0 : BitVec 6) (t.res v.h).wcnt k = fget (0 : BitVec 6) (s.res v.h).wcnt k - 1) ∧
        (∀ n, n ≠ v.vd → fget (0 : VReg) (t.res v.h).vregs n = fget (0 : VReg) (s.res v.h).vregs n) ∧ t.mem = s.mem)) ∧
    (∀ h : Rh, Completes (.writeLands h) s (fun t => t = s.setRes h.toNat (t.res h.toNat) ∧
      (t.res h.toNat).pend = (s.res h.toNat).pend.filter (fun p => decide ((s.res h.toNat).vpos < p.at_)) ∧
      (∀ p n, (s.res h.toNat).pend = [p] → p.at_ ≤ (s.res h.toNat).vpos → p.tgt = .vreg n →
        fget (0 : VReg) (t.res h.toNat).vregs n = (fget (0 : VReg) (s.res h.toNat).vregs n &&& ~~~p.en) ||| (p.val &&& p.en)) ∧
      (t.res h.toNat).sc = (s.res h.toNat).sc ∧ (t.res h.toNat).v = (s.res h.toNat).v ∧ (t.res h.toNat).kregs = (s.res h.toNat).kregs)) ∧
    (∀ (h : Rh) (q : BitVec 3),
      let k := h.toNat
      let n := q.toNat
      let r := s.res k
      let x := r.stream n
      let spad := (s.tile (hTile k)).spad
      let got := fget [] r.fetch n
      let fits := fun (acc : Acc) (i : Nat) (tg : Target) => ∃ leaf, Translates s (.task k .v) i acc false tg leaf
      let free := fun (a : Nat) => if stSpace x then s.heldBy (hTile k) true 0 (r.spBase + a) 512 none = false ∧ s.spadVecBusy k (r.spBase + a) = false
        else s.heldBy (hTile k) false r.asid a 512 none = false
      r.life = .active → fget none r.portFault n = none → (∀ g ∈ s.gaccs, g.owner = .task k → ∀ off, g.dest ≠ .port n off) →
      (stBind x = 1 → r.staged.getLsbD n = false → ∀ v vs, fget [] r.ahead n = v :: vs → Completes (.streamFetch h q) s (fun t => t = s.setRes k (t.res k) ∧
        fget (0 : VReg) (t.res k).vregs (120 + n) = v ∧ fget [] (t.res k).ahead n = vs ∧ (t.res k).staged.getLsbD n = true)) ∧
      (stBind x = 1 → (fget [] r.ahead n = [] ∨ r.staged.getLsbD n = true) → got.length = 512 → Completes (.streamFetch h q) s (fun t =>
        let v := bytesVec (got.map (·.2))
        t = s.setRes k (t.res k) ∧ fget [] (t.res k).fetch n = [] ∧
        (if r.staged.getLsbD n then fget [] (t.res k).ahead n = fget [] r.ahead n ++ [v] ∧ (t.res k).vregs = r.vregs
         else fget (0 : VReg) (t.res k).vregs (120 + n) = v ∧ (t.res k).staged.getLsbD n = true))) ∧
      (stBind x = 1 → (fget [] r.ahead n = [] ∨ r.staged.getLsbD n = true) → got.length < 512 → (fget [] r.ahead n).length < 4 →
        let i := (stPos x).toNat + (if r.staged.getLsbD n then 1 else 0) + (fget [] r.ahead n).length
        let a := stVec x i
        i < (stCount x).toNat → free a →
        (stSpace x = true → Completes (.streamFetch h q) s (fun t => t = s.setRes k (t.res k) ∧ (t.res k).vregs = r.vregs ∧ (t.res k).streams = r.streams ∧
          (fget [] (t.res k).fetch n).map (·.2) = got.map (·.2) ++ memRead spad (r.spBase + a + got.length) 4)) ∧
        (stSpace x = false → (∀ i, i < 128 → ∃ tg, fits .load (a + 4 * i) tg) → Completes (.streamFetch h q) s (fun t =>
          ∃ gs, t.gaccs = s.gaccs ++ gs ∧ gs.length = 128 ∧ ∀ i, i < 128 → ∃ g, gs[i]? = some g ∧ g.isStore = false ∧ g.va = a + 4 * i ∧ g.n = 4 ∧
            g.dest = .port n (4 * i) ∧ g.owner = .task k ∧ g.path = 1 ∧ ∀ tg, fits .load (a + 4 * i) tg → g.tgt = tg))) ∧
      (stBind x = 2 → r.staged.getLsbD n = true →
        let a := stVec x (stPos x).toNat
        let v := fget (0 : VReg) r.vregs (120 + n)
        let stored := Completes (.streamStore h q) s (fun t => t = s.setRes k (t.res k) ∧ (t.res k).staged.getLsbD n = false ∧ (t.res k).vregs = r.vregs ∧
          fget [] (t.res k).fetch n = [] ∧ stPos ((t.res k).stream n) = stPos x + 1)
        (stSpace x = true → got.length = 128 → stored) ∧
        (stSpace x = false → got ≠ [] → stored) ∧
        (stSpace x = true → got.length < 128 → free a → Completes (.streamStore h q) s (fun t =>
          memRead (t.tile (hTile k)).spad (r.spBase + a + 4 * got.length) 4 = leBytes 4 (lane v got.length).toNat ∧
          (∀ y, y < r.spBase + a + 4 * got.length ∨ r.spBase + a + 4 * got.length + 4 ≤ y → memByte (t.tile (hTile k)).spad y = memByte spad y) ∧
          (t.res k).staged = r.staged ∧ (t.res k).streams = r.streams ∧ (t.res k).vregs = r.vregs ∧ t.mem = s.mem)) ∧
        (stSpace x = false → got = [] → free a → (∀ i, i < 128 → ∃ tg, fits .store (a + 4 * i) tg ∧ (tg.aper ≠ 2 ∨ tg.kind ≠ 0 ∨ SerialsFree s (.task k .v) tg.peer 128)) →
          Completes (.streamStore h q) s (fun t => (t.res k).staged = r.staged ∧
          ∃ gs, t.gaccs = s.gaccs ++ gs ∧ gs.length = 128 ∧ ∀ i, i < 128 → ∃ g, gs[i]? = some g ∧ g.isStore = true ∧ g.va = a + 4 * i ∧ g.n = 4 ∧
            g.data = leBytes 4 (lane v i).toNat ∧ g.owner = .task k ∧ g.path = 1 ∧ ∀ tg, fits .store (a + 4 * i) tg → g.tgt = tg)))) ∧
    (∀ k w, s.walks[k]? = some w → ((s.walks.take k).filter (fun v => v.quad == w.quad)).length < 64 →
      (∀ lvl e pa, s.walkBy w.quad w.asid (w.page * 65536) = (.leaf lvl e, pa) →
        let held : TlbEntry := { asid := w.asid, page := w.page, res := .leaf lvl (e ||| 0x800) }
        Completes (.walkComplete k) s (fun t => memNat t.mem pa 8 = (BitVec.ofNat 64 (memNat s.mem pa 8) ||| 0x800#64).toNat ∧
          (∀ a, a < pa ∨ pa + 8 ≤ a → memByte t.mem a = memByte s.mem a) ∧ held ∈ fget [] t.stlbs w.quad ∧
          (∀ n ∈ w.waiters, n < 288 → held ∈ (t.tile n).tlb) ∧ w ∉ t.walks ∧ (∀ n, (t.tile n).spad = (s.tile n).spad) ∧ t.residents = s.residents ∧ t.svs = s.svs)) ∧
      (∀ code d pa, s.walkBy w.quad w.asid (w.page * 65536) = (.bad code d, pa) →
        Completes (.walkComplete k) s (fun t => t.mem = s.mem ∧ t.walks = s.walks.eraseIdx k ∧
          (∀ n ∈ w.waiters, n < 288 → { asid := w.asid, page := w.page, res := .bad code d } ∈ (t.tile n).tlb)))) ∧
    (∀ line, Completes (.directoryEviction line) s (fun t => fget (0 : BitVec 4) t.directory line = 0 ∧
      (∀ l, l ≠ line → fget (0 : BitVec 4) t.directory l = fget (0 : BitVec 4) s.directory l) ∧ t = { s with directory := t.directory }))

/-! ## Exactly-once operations -/

/-- R251, R252, R255, R258, R325, R352 to R359: a request with a serial that its owner has never seen is performed once, as the table of handlers says, and its entry keeps the outcome; one whose entry stands is answered from it with memory kept; one at or below the floor is
answered retired; a re-sent one from before a restart is answered indeterminate; a full slice answers owner_busy. A response completes its operation; acknowledgement and retire-all free entries. -/
def Obligations.ExactlyOnceEvents : Prop :=
  ∀ (s : State) (k : Nat),
    (∀ q g, s.requests[k]? = some q → q.serial = some g →
      (q.src = s.pkgId → ∃ o, s.rout? q.id = some o ∧ s.mayLeave o = true ∧ o.tgt.aper ≤ 1 ∧ (o.scope = 4 → o.leave = .release → s.unflushed = [])) →
      (q.src ≠ s.pkgId → ∀ p ∈ s.requests.take k, p.src = q.src → p.addr ≠ q.addr) →
      let sl := rqSlice q
      let u := match q.ct with | some ct => s.ackTo q.src ct.asid ct.nodeInst ct.taskNum ct.seq | none => s
      let ev : Instr := .remoteRequest k
      let answered := fun (st : RStatus) (res : BitVec 128) (t : State) => q.src = s.pkgId → t.responses = s.responses ++
        [{ src := s.pkgId, dst := q.src, id := q.id, status := st, result := res, data := [], inc := s.inc }]
      let passedOn := fun (t : State) => Untouched s t ∧ t.requests = s.requests.eraseIdx k ∧ t.afterglow = u.afterglow
      fget none s.hruns sl = none → (∀ f h, q.op ≠ .cohort f h) → s.windowBusy q.addr (rqBytes q) = false → s.peerAllowed q = true →
      (q.inc ≠ s.inc → q.rt = true ∨ q.rp = true → Completes ev s (fun t => passedOn t ∧ answered .indeterminate 0 t)) ∧
      (q.inc = s.inc ∨ (q.rt = false ∧ q.rp = false) →
        (∀ e, u.agFind sl q.src g = some e →
          (e.pending = false → Completes ev s (fun t => passedOn t ∧ answered e.status e.result t)) ∧
          (e.pending = true → Completes ev s (fun t => Untouched s t ∧ t.requests = s.requests ∧ t.responses = s.responses))) ∧
        (u.agFind sl q.src g = none →
          (∀ f, u.floorOf q.src g = some f → (f.floor - g.seq).toNat < 2 ^ 31 → Completes ev s (fun t => passedOn t ∧ answered .retired 0 t)) ∧
          ((∀ f, u.floorOf q.src g = some f → 2 ^ 31 ≤ (f.floor - g.seq).toNat) →
            (agRoom (u.agEntries sl) = none → Completes ev s (fun t => passedOn t ∧ answered .ownerBusy 0 t)) ∧
            (∀ l h w, agRoom (u.agEntries sl) = some l → q.op = .handler h w →
              let held := fun (st : RStatus) (res : BitVec 128) (t : State) =>
                ∃ e, t.agFind sl q.src g = some e ∧ e.status = st ∧ e.result = res ∧ e.pending = false ∧ e.handler = h
              (∀ e ∈ l, e.matches q.src g = false) →
              (h.toNat < 24 → s.poisoned q.addr w = true → Completes ev s (fun t => Untouched s t ∧ held .memError 0 t ∧ answered .memError 0 t)) ∧
              (h.toNat < 24 → s.poisoned q.addr w = false → q.addr < Config.cfgBase → 0 < w →
                let m := memNat s.mem q.addr w
                let new := fixedHandler h.toNat w m q.op0.toNat q.op1.toNat
                Completes ev s (fun t => memRead t.mem q.addr w = leBytes w new.1 ∧
                  (∀ a, a < q.addr ∨ q.addr + w ≤ a → memByte t.mem a = memByte s.mem a) ∧ t.tiles = s.tiles ∧ t.residents = s.residents ∧ t.svs = s.svs ∧
                  t.requests = s.requests.eraseIdx k ∧ held .performed (BitVec.ofNat 128 new.2) t ∧ answered .performed (BitVec.ofNat 128 new.2) t)) ∧
              (24 ≤ h.toNat → (fget HSlot.start s.hslots h.toNat).w ≠ w → Completes ev s (fun t => Untouched s t ∧ held .stateUse 0 t ∧ answered .stateUse 0 t)) ∧
              (24 ≤ h.toNat → (fget HSlot.start s.hslots h.toNat).w = w → w ≠ 0 → Completes ev s (fun t => Untouched s t ∧
                ∃ r, fget none t.hruns sl = some r ∧ r.idx = 0 ∧ r.prog = (fget HSlot.start s.hslots h.toNat).prog ∧ r.buf = [] ∧ r.window = q.addr / 4096 ∧
                  r.get 5 = BitVec.ofNat 64 (q.addr % 4096) ∧ (w = 4 → r.get 1 = (q.op0.setWidth 32).setWidth 64 ∧ r.get 2 = 0 ∧ r.get 3 = (q.op1.setWidth 32).setWidth 64 ∧ r.get 4 = 0) ∧
                  (w = 16 → r.get 1 = q.op0.setWidth 64 ∧ r.get 2 = (q.op0 >>> 64).setWidth 64) ∧
                  (w = 8 → r.get 1 = q.op0.setWidth 64 ∧ r.get 2 = 0 ∧ r.get 3 = q.op1.setWidth 64 ∧ r.get 4 = 0) ∧
                  (∀ n : BitVec 4, n = 0 ∨ 6 ≤ n.toNat → r.get n = 0)))))))) ∧
    (∀ m x y : Nat,
      let i := fun (v : Nat) => (BitVec.ofNat 32 v).toInt
      let j := fun (v : Nat) => (BitVec.ofNat 64 v).toInt
      let h := fixedHandler
      (m < 2 ^ 32 → x < 2 ^ 32 → y < 2 ^ 32 →
        h 0 4 m x y = ((m + x) % 2 ^ 32, m) ∧ h 2 4 m x y = (if i x < i m then x else m, m) ∧ h 3 4 m x y = (if i m < i x then x else m, m) ∧
        h 6 4 m x y = ((fAdd .fp32 (roundOf 0) m x).1, m) ∧ h 8 4 m x y = (fMin .fp32 m x, m) ∧ h 9 4 m x y = (fMax .fp32 m x, m) ∧ h 15 4 m x y = (x, m) ∧
        h 17 4 m x y = (if m = y then x else m, m) ∧ h 20 4 m x y = ((fAdd .fp32 (roundOf 0) m x).1, 0) ∧
        h 21 4 m x y = (if m < x then m + 1 else m, m) ∧ h 22 4 m x y = (m - 1, m)) ∧
      (m < 2 ^ 64 → x < 2 ^ 64 → y < 2 ^ 64 →
        h 1 8 m x y = ((m + x) % 2 ^ 64, m) ∧ h 4 8 m x y = (if j x < j m then x else m, m) ∧ h 5 8 m x y = (if j m < j x then x else m, m) ∧
        h 7 8 m x y = ((fAdd .fp64 (roundOf 0) m x).1, m) ∧ h 10 8 m x y = (fMin .fp64 m x, m) ∧ h 11 8 m x y = (fMax .fp64 m x, m) ∧
        h 12 8 m x y = (Nat.land m x, m) ∧ h 13 8 m x y = (Nat.lor m x, m) ∧ h 14 8 m x y = (Nat.xor m x, m) ∧ h 16 8 m x y = (x, m) ∧
        h 18 8 m x y = (if m = y then x else m, m) ∧ h 23 8 m x y = (m, m)) ∧
      (m < 2 ^ 128 → x < 2 ^ 128 → y < 2 ^ 128 → h 19 16 m x y = (if m = y then x else m, m))) ∧
    (∀ x o, s.responses[k]? = some x → s.rout? x.id = some o → o.status = none →
      let ev : Instr := .remoteResponse k
      let learned := fun (t : State) => x.src ≠ s.pkgId → fget (0 : BitVec 16) t.peerInc x.src.toNat = x.inc
      let dropped := fun (t : State) => t.responses = s.responses.eraseIdx k ∧ t.routs = s.routs.filter (fun r => r.id != o.id) ∧ t.mem = s.mem ∧ t.tiles = s.tiles
      (∀ d w sgn p, o.dest = .sreg d w sgn → ownerWho o.owner o.path = some p → (x.status = .performed ∨ x.status = .byHfail) →
        Completes ev s (fun t => dropped t ∧ learned t ∧
          ∀ n : BitVec 6, t.sreg p n = if n.toNat = d ∧ d ≠ 0 then extBytes sgn w x.result.toNat else s.sreg p n)) ∧
      (o.dest = .none → (x.status = .performed ∨ x.status = .byHfail ∨ x.status = .retired) →
        Completes ev s (fun t => dropped t ∧ learned t ∧ ∀ p n, t.sreg p n = s.sreg p n)) ∧
      (∀ d w sgn h, o.dest = .sreg d w sgn → o.owner = .task h → o.path = 0 → (s.res h).life ≠ .free →
        (x.status = .indeterminate ∨ x.status = .retired ∨ x.status = .stateUse ∨ x.status = .memError) →
        Completes ev s (fun t => learned t ∧ (t.res h).deferred = (s.res h).deferred ++ [o.id] ∧ (t.res h).sc = (s.res h).sc ∧ t.mem = s.mem ∧
          (∀ r ∈ t.routs, r.id = o.id → r.status = some x.status ∧ r.inc = x.inc))) ∧
      (x.status = .ownerBusy → Completes ev s (fun t => learned t ∧ t.mem = s.mem ∧ t.tiles = s.tiles ∧ (∀ h, t.res h = { s.res h with seqs := (t.res h).seqs }) ∧ ∀ r ∈ t.routs, r.id = o.id → r.busy = true))) ∧
    let late := fun (pa : Nat) (since : Word) => fget 100000000 s.hostTimeout (if 2 ^ 51 ≤ pa then 1 else 0) ≤ (s.stamp - since).toNat
    (∀ o, s.rout? k = some o →
      (o.busy = true → o.status = none → Completes (.ownerBusyResend k) s (fun t => Untouched s t ∧
        (o.tgt.aper ≠ 2 → ∃ q, t.requests = s.requests ++ [q] ∧ q.rt = false ∧ q.serial = o.req.serial ∧ q.op = o.req.op ∧ q.addr = o.req.addr ∧ q.id = o.req.id ∧
          q.inc = (if o.req.rp then o.req.inc else s.incOf o.peer)) ∧
        (∀ r ∈ t.routs, r.id = k → r.busy = false))) ∧
      (o.busy = false → exec (.ownerBusyResend k) s = .next s) ∧
      (s.gacc? k = none → o.tgt.aper = 3 → o.status = none → late o.tgt.pa o.since → (∀ q ∈ s.requests, q.src = s.pkgId → q.id ≠ k) →
        ∀ h, o.owner = .task h → o.path = 0 → (∃ d w sgn, o.dest = .sreg d w sgn) → (s.res h).life ≠ .free →
          Completes (.hostCompletionTimeout k) s (fun t => (t.res h).deferred = (s.res h).deferred ++ [k] ∧ (t.res h).sc = (s.res h).sc ∧ t.mem = s.mem ∧
            ∀ r ∈ t.routs, r.id = k → r.status = some .indeterminate))) ∧
    (∀ g h d sgn, s.gacc? k = some g → g.tgt.aper = 3 → g.isStore = false → g.failed = none → s.mayPerform g = true → late g.tgt.pa g.since → g.owner = .task h → g.path = 0 →
      g.dest = .sreg d sgn → (s.res h).life ≠ .free →
      Completes (.hostCompletionTimeout k) s (fun t => (t.res h).deferred = (s.res h).deferred ++ [k] ∧ (t.res h).sc = (s.res h).sc ∧ t.mem = s.mem ∧
        ∀ x ∈ t.gaccs, x.id = k → x.failed = some .unreachable)) ∧
    (∀ (h : Rh) (owner : BitVec 10),
      let r := s.res h.toNat
      let x := s.seqOf h.toNat owner
      (x.current ≠ x.ct → owner = s.pkgId → Completes (.standaloneAck h owner) s (fun t => (t.seqOf h.toNat owner).ct = x.current ∧ t.mem = s.mem ∧ t.tiles = s.tiles ∧
        t.acks = s.acks ++ [{ src := s.pkgId, asid := r.asid, nodeInst := r.nodeInst, taskNum := r.taskNum, ct := x.current }])) ∧
      (x.current = x.ct → exec (.standaloneAck h owner) s = .next s)) ∧
    (∀ a f, s.acks[k]? = some a → (fget [] s.floors (floorSlice a.asid a.taskNum)).find? (fun f => f.isTask a.src a.asid a.nodeInst a.taskNum) = some f →
      2 ^ 31 ≤ (f.floor - a.ct).toNat →
      Completes (.acknowledgement k) s (fun t => t.mem = s.mem ∧ t.tiles = s.tiles ∧ t.svs = s.svs ∧ (∀ h, t.res h = { s.res h with seqs := (t.res h).seqs }) ∧ t.acks = s.acks.eraseIdx k ∧
        (∀ g, serialIsTask g a.asid a.nodeInst a.taskNum = true → ∃ y, t.floorOf a.src g = some y ∧ y.floor = a.ct) ∧
        (∀ sl e, e ∈ t.agEntries sl → e.pkg = a.src → serialIsTask e.serial a.asid a.nodeInst a.taskNum = true → e.pending = false → e.chunk = false →
          (a.ct - e.serial.seq).toNat < 2 ^ 31 → e.retirable = true))) ∧
    (∀ a, s.retires[k]? = some a →
      (s.taskInFlight a.src a.asid a.nodeInst a.taskNum = false → Completes (.retireAll k) s (fun t => Untouched s t ∧ t.retires = s.retires.eraseIdx k ∧
        (∀ g, serialIsTask g a.asid a.nodeInst a.taskNum = true → t.floorOf a.src g = none ∧ ∀ sl, t.agFind sl a.src g = none))) ∧
      (s.taskInFlight a.src a.asid a.nodeInst a.taskNum = true → exec (.retireAll k) s = .next s))

/-! ## The fabric and the collective engines at work -/

/-- R303, R382, R383, R386 to R391, R398: a packet of the expected sequence is delivered, an early one held, a later copy discarded; a request delivered carries class 7. Acknowledged packets are held no more; a timed-out one goes again, a request with RT set, at most 7 times in all; a notice
makes it avoid the path it took and those that begin alike (the model's reading, log entry 96). Ports drain, go down, train and come up; a lane moves to the spare; a latch takes every lane's record. -/
def Obligations.FabricEvents : Prop :=
  ∀ (s : State),
    (∀ p : Packet, p.src ≠ s.pkgId →
      let x := s.transport p.src
      let d := (p.seq - x.expected).toNat
      (p.dst = s.pkgId → p.sequenced = true →
        (d = 0 → x.early = [] → Completes (.packetArrival p) s (fun t => (t.transport p.src).expected = x.expected + 1 ∧
          (∀ q, p.body = .request q → Untouched s t ∧ t.requests = s.requests ++ [{ q with src := p.src, cls := 7 }]) ∧
          (∀ c n, p.body = .chunk c 0 n → Untouched s t ∧ (n ≤ 1 → t.chunks = s.chunks ++ [c]) ∧ (1 < n → c ∈ t.chunkParts ∧ t.chunks = s.chunks)) ∧
          (∀ c i n e, p.body = .chunk c i n → 0 < i →
            s.chunkParts.find? (fun d => d.src == c.src && d.comm == c.comm && d.sender == c.sender && d.serial == c.serial) = some e →
            let w := { c with data := e.data ++ c.data, rt := e.rt || c.rt }
            (n ≤ i + 1 → t.chunks = s.chunks ++ [w]) ∧ (i + 1 < n → w ∈ t.chunkParts ∧ t.chunks = s.chunks)) ∧
          (∀ c cls, p.body = .credit c cls → Untouched s t ∧ t.creditMsgs = s.creditMsgs ++ [c]) ∧
          (∀ src a n k ct, p.body = .ack src a n k ct → Untouched s t ∧ t.acks = s.acks ++ [{ src := src, asid := a, nodeInst := n, taskNum := k, ct := ct }]))) ∧
        (d ≠ 0 → Completes (.packetArrival p) s (fun t => Untouched s t ∧ t.requests = s.requests ∧ t.chunks = s.chunks ∧ t.creditMsgs = s.creditMsgs ∧
          (t.transport p.src).expected = x.expected ∧
          (d ≤ 8192 → x.early.length < 8192 → (∀ q ∈ x.early, q.seq ≠ p.seq) → (t.transport p.src).early = x.early ++ [p]) ∧
          (2 ^ 31 ≤ d → (t.transport p.src).early = x.early)))) ∧
      (∀ r, p.dst = s.pkgId → p.sequenced = false → p.body = .response r →
        Completes (.packetArrival p) s (fun t => t = { s with responses := s.responses ++ [r] })) ∧
      (p.dst ≠ s.pkgId → pkgGroup p.dst = pkgGroup s.pkgId → p.via = none → (s.port (pkgMember p.dst)).state = 2 →
        Completes (.packetArrival p) s (fun t => t = s.setPort (pkgMember p.dst) (t.port (pkgMember p.dst)) ∧
          (t.port (pkgMember p.dst)).queue = (s.port (pkgMember p.dst)).queue ++ [{ p with hop := p.hop + 1 }]))) ∧
    (∀ (peer : BitVec 10) (cum : BitVec 32) (sel : BitVec 64), Completes (.transportAck peer cum sel) s (fun t => t.mem = s.mem ∧ t.tiles = s.tiles ∧ t.svs = s.svs ∧ (∀ h, t.res h = { s.res h with seqs := (t.res h).seqs }) ∧
      (let old := (s.transport peer).unacked
       let new := (t.transport peer).unacked
       let covered := fun (q : BitVec 32) => (cum - q).toNat < 2 ^ 31 ∨ ((q - cum - 1).toNat < 64 ∧ sel.getLsbD (q - cum - 1).toNat = true)
       (∀ u ∈ old, u.acked = true ∨ ¬ covered u.pkt.seq → u ∈ new) ∧
       (∀ u ∈ old, u.acked = false → covered u.pkt.seq →
         ((s.transport peer).waiting = [] → s.unanswered u.pkt = false → u ∉ new) ∧ (s.unanswered u.pkt = true → { u with acked := true, since := s.stamp } ∈ new)) ∧
       ((s.transport peer).waiting = [] → new.length ≤ old.length)))) ∧
    (∀ (peer : BitVec 10) (seq : BitVec 32) (u : Unacked),
      let again := fun (sq : BitVec 32) (avoid : List Nat) (t : State) => t.mem = s.mem ∧ t.tiles = s.tiles ∧ t.residents = s.residents ∧ ∃ v, v ∈ (t.transport peer).unacked ∧
        v.tries = u.tries + 1 ∧ v.acked = false ∧ v.since = s.stamp ∧ v.pkt.seq = sq ∧ v.avoid = avoid ∧
        (∀ q, u.pkt.body = .request q → v.pkt.body = .request { q with rt := true }) ∧ (∀ e, v.path = some e → e ∉ avoid)
      let lost := fun (t : State) => ∀ q o h d w sg, u.pkt.body = .request q → s.rout? q.id = some o → o.status = none → o.owner = .task h → o.path = 0 →
        o.dest = .sreg d w sg → (s.res h).life ≠ .free → (t.res h).deferred = (s.res h).deferred ++ [o.id] ∧ (t.res h).sc = (s.res h).sc ∧
          ((s.transport peer).waiting = [] → ∀ v ∈ (t.transport peer).unacked, v.pkt.seq ≠ u.pkt.seq)
      (((s.transport peer).unacked.find? (fun u => u.pkt.seq == seq) = some u →
        let due := (if u.tries = 1 then 40000 else 60000) ≤ (s.stamp - u.since).toNat
        (¬ due → exec (.retransmitTimeout peer seq) s = .next s) ∧
        (due → u.acked = false → u.tries < 7 → Completes (.retransmitTimeout peer seq) s (again u.pkt.seq [])) ∧
        (due → u.acked = true → s.unanswered u.pkt = true → u.tries < 7 → Completes (.retransmitTimeout peer seq) s (again (s.transport peer).next [])) ∧
        (due → u.acked = true → s.unanswered u.pkt = false → Completes (.retransmitTimeout peer seq) s (fun t => Untouched s t ∧
          (t.transport peer).unacked = (s.transport peer).unacked.filter (fun v => v.pkt.seq != u.pkt.seq))) ∧
        (due → u.acked = false → 7 ≤ u.tries → Completes (.retransmitTimeout peer seq) s lost))) ∧
      (∀ port : BitVec 6, (s.transport peer).unacked.find? (fun u => u.pkt.seq == seq && !u.acked) = some u →
        (∀ e, u.path = some e → u.tries < 7 →
          let way := fun (i : Nat) => (routePort (s.route (pkgGroup peer) i), if i = 0 then none else some (routeVia (s.route (pkgGroup peer) i)))
          Completes (.routeLost peer seq port) s (again u.pkt.seq ((List.range 9).filter (fun i => way i == way e) ++ u.avoid))) ∧
        (7 ≤ u.tries → exec (.routeLost peer seq port) s = .next s))) ∧
    (∀ (lane count : BitVec 12) (again : Bool) (l : Nat), s.laneOf lane.toNat = some l → ((s.port (l / 64)).state = 2 ∨ (s.port (l / 64)).state = 3) →
      Completes (.codewordReplay lane ⟨count, again⟩) s (fun t => Untouched s t ∧
        (∀ n, fget 0 (t.port (l / 64)).fails n = if n = count.toNat then (if again then fget 0 (s.port (l / 64)).fails n + 1 else 0) else fget 0 (s.port (l / 64)).fails n) ∧
        (t.port (l / 64)).queue = (s.port (l / 64)).queue ∧ fget (0 : BitVec 16) t.laneCounters lane.toNat = fget (0 : BitVec 16) s.laneCounters lane.toNat + 1)) ∧
    (∀ (port : BitVec 6) (v : Word) (peer : BitVec 10) (inc : BitVec 16),
      let p := port.toNat
      let x := s.port p
      let goes := fun (y : Port) (t : State) => t = s.setPort p y
      ((∃ f ∈ x.fails, 16 ≤ f.2) → Completes (.portDown port) s (goes { x with state := 0, queue := [], part := [], fails := [] })) ∧
      ((∀ f ∈ x.fails, f.2 < 16) → exec (.portDown port) s = .next s) ∧
      (p ≠ pkgMember s.pkgId → v.getLsbD 0 = true → v.getLsbD 1 = false → x.state = 2 → Completes (.prep port v) s (goes { x with state := 3, since := s.stamp })) ∧
      (p ≠ pkgMember s.pkgId → v.getLsbD 0 = false → v.getLsbD 1 = true → (x.state = 0 ∨ x.state = 4) →
        Completes (.enable port v) s (goes { x with state := 1, since := s.stamp })) ∧
      ((p = pkgMember s.pkgId ∨ (v.getLsbD 0 = true ∧ v.getLsbD 1 = true)) → exec (.prep port v) s = .next s ∧ exec (.enable port v) s = .next s) ∧
      (x.state = 3 → (x.queue = [] ∨ 20000 ≤ (s.stamp - x.since).toNat) →
        Completes (.portDrained port) s (goes { x with state := 4, queue := [], part := [], fails := [] })) ∧
      (x.state = 3 → x.queue ≠ [] → (s.stamp - x.since).toNat < 20000 → exec (.portDrained port) s = .next s) ∧
      (x.state = 1 → Completes (.trainingComplete port peer inc) s (fun t => Untouched s t ∧ (t.port p).state = 2 ∧ (t.port p).peerPkg = peer ∧
        (t.port p).peerInc = inc ∧ (t.port p).fails = [] ∧ fget (0 : BitVec 16) t.peerInc peer.toNat = inc)) ∧
      (x.state ≠ 1 → exec (.trainingComplete port peer inc) s = .next s)) ∧
    (∀ v : Word,
      let phys := (v.extractLsb' 32 12).toNat
      let lg := (v.extractLsb' 16 12).toNat
      (phys / 64 = pkgMember s.pkgId → s.laneOf phys = none → Completes (.laneRemap v) s (fun t => Untouched s t ∧ t.laneOf phys = some lg ∧ t.mapgen = s.mapgen + 1 ∧
        (∀ p, p < 4096 → s.laneOf p = some lg → (∀ q, q < p → s.laneOf q ≠ some lg) → t.laneOf p = none) ∧
        (∀ p, p ≠ phys → s.laneOf p ≠ some lg → t.laneOf p = s.laneOf p))) ∧
      ((phys / 64 ≠ pkgMember s.pkgId ∨ s.laneOf phys ≠ none) → exec (.laneRemap v) s = .next s)) ∧
    Completes .telemetryLatch s (fun t => Untouched s t ∧ t.latches = s.latches + 1 ∧ ∀ i, i < 4096 →
      let r := fget LaneRec.start t.telemetry i
      r.latch = s.latches + 1 ∧ r.mapgen = s.mapgen ∧ r.counters.extractLsb' 32 16 = fget (0 : BitVec 16) s.laneCounters i ∧
      r.counters.extractLsb' 0 32 = fget (0 : BitVec 32) t.laneSyms i ∧
      r.logical = (match s.laneOf i with | some l => BitVec.ofNat 16 l | none => 0xFFFF))

/-- R265 to R268, R354, R363, R366 to R368, R371 to R375: a chunk's source bytes enter the staging of two buffers; the port serves the highest class, a member of it with its deficit, against a credit when one is held; a chunk that may is stored in its sender's window, one that finds no window or no
entry is refused; credits, acceptances and releases change the sender; in bounded mode a reduction flushes at its timeout; a member whose chunks stall for longer than the timeout is reported. -/
def Obligations.CollectiveEngineEvents : Prop :=
  ∀ (s : State) (c k : Nat) (q : BitVec 2),
    let x := s.comm c
    (∀ st b lo, x.live = true → x.run = .running → x.staging.length < 2 → x.nextStage = some st → st.src = .range b lo →
      let o := st.staged * x.chunkBytes
      let n := min x.chunkBytes (st.total - o)
      let a := (dBase (x.desc b)).toNat + (lo + o)
      let sc := decide (dSpace (x.desc b) = 1)
      (∀ bs, BytesHere s c sc (dTile (x.desc b)) a n bs → Completes (.sendStagingReady c) s (fun t => Untouched s t ∧ t.gaccs = s.gaccs ∧
        (∀ d, d ≠ c → t.comm d = s.comm d) ∧
        (t.comm c).sends = x.sends.map (fun u => if u.dest = st.dest ∧ isBcast u.kind = isBcast st.kind ∧ u.ord = st.ord then { u with staged := u.staged + 1 } else u) ∧
        ∃ ch, (t.comm c).staging = x.staging ++ [(st.dest, ch)] ∧ ch.data = bs ∧ ch.offset = o ∧ ch.total = st.total ∧ ch.ord = st.ord ∧ ch.kind = st.kind ∧
          ch.sender = x.rank ∧ ch.run = x.runs ∧ ch.wide = st.wide ∧ ch.miss = 0 ∧ ch.serial.seq = BitVec.ofNat 32 (2 ^ 31 + st.k0 + st.staged) ∧ ch.src = s.pkgId ∧
          ch.rt = false ∧ ch.rp = x.replays.isSome)) ∧
      ((∃ u ∈ readUnits 4 [(a, n)], (allBytes (s.recBytes (.coll c) 4) (spadKey (dTile (x.desc b)) + u.1) u.2).isNone = true) → sc = true →
        Completes (.sendStagingReady c) s (fun t => t = { s with recs := t.recs } ∧ ∃ u ∈ readUnits 4 [(a, n)],
          allBytes (s.recBytes (.coll c) 4) (spadKey (dTile (x.desc b)) + u.1) u.2 = none ∧
          allBytes (t.recBytes (.coll c) 4) (spadKey (dTile (x.desc b)) + u.1) u.2 = some (memRead (s.tile (dTile (x.desc b))).spad u.1 u.2)))) ∧
    (2 ≤ x.staging.length → exec (.sendStagingReady c) s = .next s) ∧
    (∀ cls, cls < 4 → s.eligibles q.toNat cls ≠ [] → (∀ d, cls < d → d < 4 → s.eligibles q.toNat d = []) →
      Completes (.chunkSend q) s (fun t => Untouched s t ∧ ∃ i j dest ch,
        let m := s.comm (256 * q.toNat + i)
        let turn := fget 256 s.collTurn (4 * q.toNat + cls)
        let paid := decide (0 < fget 0 m.credits dest)
        i ∈ s.eligibles q.toNat cls ∧ m.sendable = some (j, dest, ch) ∧ (t.comm (256 * q.toNat + i)).staging = m.staging.eraseIdx j ∧
        (turn ∈ s.eligibles q.toNat cls → (∀ j' d' h', (s.comm (256 * q.toNat + turn)).sendable = some (j', d', h') → h'.data.length ≤ (s.comm (256 * q.toNat + turn)).deficit) →
          i = turn) ∧
        (t.comm (256 * q.toNat + i)).deficit = (if i = turn ∧ ch.data.length ≤ m.deficit then m.deficit else m.deficit + 65536) - ch.data.length ∧
        (∀ d, d / 256 = q.toNat → (s.comm d).eligible = false → (t.comm d).deficit = 0) ∧
        fget 0 (t.comm (256 * q.toNat + i)).credits dest = fget 0 m.credits dest - 1 ∧
        (s.pkgOf m dest = s.pkgId → t.chunks = s.chunks ++ [{ ch with paid := paid, inc := match m.replays with | some r => fget 0 r s.pkgId.toNat | none => s.inc }]) ∧
        fget 256 t.collTurn (4 * q.toNat + cls) = i)) ∧
    ((∀ cls, cls < 4 → s.eligibles q.toNat cls = []) → Completes (.chunkSend q) s (fun t => t = { s with comms := t.comms } ∧
      ∀ d, t.comm d = if d / 256 = q.toNat then { s.comm d with deficit := 0 } else s.comm d)) ∧
    (∀ ch, s.chunks[k]? = some ch → (∀ y ∈ s.chunks.take k, ¬ (y.comm = ch.comm ∧ y.sender = ch.sender)) → s.commByKey ch.comm = some c →
      let ev : Instr := .chunkArrival k
      let sl := 16 * (c / 256)
      let kept := fun (t : State) => Untouched s t ∧ t.chunks = s.chunks.eraseIdx k ∧ t.agEntries sl = s.agEntries sl ∧ (t.comm c).windows = x.windows
      let entered := fun (l : List AgEntry) (t : State) => ∃ e, t.agEntries sl = l ++ [e] ∧ e.pkg = ch.src ∧ e.serial = ch.serial ∧ e.status = .performed ∧
        e.pending = false ∧ e.chunk = true
      (ch.inc ≠ s.inc → ch.rt = true ∨ ch.rp = true → Completes ev s kept) ∧
      (ch.inc = s.inc ∨ (ch.rt = false ∧ ch.rp = false) → s.chunkDup c ch = false → x.passed ch = false →
        (x.window? ch.sender = none → ch.offset = 0 →
          (x.barred ch = false → x.windows.length < 8 → x.mayBind ch.sender = true →
            (∀ l, agRoom (s.agEntries sl) = some l → Completes ev s (fun t => Untouched s t ∧ t.chunks = s.chunks.eraseIdx k ∧
              (t.comm c).windows = x.windows ++ [{ sender := ch.sender, chunks := [ch], out := x.slots - 1 }] ∧ entered l t)) ∧
            (agRoom (s.agEntries sl) = none → Completes ev s kept)) ∧
          (x.barred ch = true ∨ 8 ≤ x.windows.length ∨ x.mayBind ch.sender = false → Completes ev s (fun t => kept t ∧ ch.sender ∈ (t.comm c).refusals))) ∧
        (∀ w l, x.window? ch.sender = some w → x.barred ch = false → x.follows w ch = true → ch.paid = true → 0 < w.out → agRoom (s.agEntries sl) = some l →
          Completes ev s (fun t => Untouched s t ∧ t.chunks = s.chunks.eraseIdx k ∧ entered l t ∧
            (t.comm c).window? ch.sender = some { w with chunks := w.chunks ++ [ch], out := w.out - 1 })))) ∧
    (∀ m, s.creditMsgs[k]? = some m → (∀ y ∈ s.creditMsgs.take k, creditKey y ≠ creditKey m) → s.commByKey (creditKey m).1 = some c →
      Completes (.creditReturn k) s (fun t => t.mem = s.mem ∧ t.tiles = s.tiles ∧ t.residents = s.residents ∧ t.creditMsgs = s.creditMsgs.eraseIdx k ∧
        (∀ a p n, (m = .grant a p n ∨ m = .back a p n) → fget 0 (t.comm c).credits p = fget 0 x.credits p + n ∧ ∀ u ∈ (t.comm c).sends, u.dest = p → u.refused = false) ∧
        (∀ a p, m = .release a p → fget 0 (t.comm c).credits p = 0) ∧
        (∀ a p run inc, m = .indeterminate a p run inc → fget (0 : BitVec 16) t.peerInc (s.pkgOf x p).toNat = inc ∧
          (run = x.runs → x.run = .running → (t.comm c).run = .stopped 6)) ∧
        (∀ st, x.sends = [st] →
          (∀ a kind n, m = .bound a st.dest x.runs kind st.ord n → isBcast st.kind = isBcast kind → fget 0 (t.comm c).credits st.dest = n - (st.sent - 1) ∧
            (t.comm c).sends = [{ st with refused := false }]) ∧
          (∀ a kind paid busy, m = .refuse a st.dest x.runs kind st.ord false paid busy → isBcast st.kind = isBcast kind → fget 0 (t.comm c).credits st.dest = 0 ∧
            (t.comm c).sends = [{ st with staged := st.accepted, sent := st.accepted, refused := !busy }]) ∧
          (∀ a kind n, m = .accepted a st.dest x.runs kind st.ord n → isBcast st.kind = isBcast kind →
            (chunksOf x st.total ≤ st.accepted + n → (t.comm c).sends = []) ∧
            (st.accepted + n < chunksOf x st.total → (t.comm c).sends = [{ st with accepted := st.accepted + n }]))))) ∧
    (∀ p, x.step = some p → x.live = true → x.run = .running → x.bounded = true → (p.kind = .rrs ∨ p.kind = .rrf) → p.off < p.len →
      ((s.stamp - p.began).toNat < 2000 * x.timeout.toNat → exec (.flush c) s = .next s) ∧
      (2000 * x.timeout.toNat ≤ (s.stamp - p.began).toNat → p.flush = false → Completes (.flush c) s (fun t => t = { s with comms := t.comms } ∧
        t.comm c = { x with step := some { p with flush := true } } ∧ ∀ d, d ≠ c → t.comm d = s.comm d))) ∧
    (x.live = true → x.run = .running →
      (x.sends ≠ [] ∨ ∃ p, x.step = some p ∧ (p.kind = .recv ∨ p.kind = .bcast ∨ p.kind = .xpose ∨ ((p.kind = .rrs ∨ p.kind = .rrf) ∧ x.bounded = false))) →
      (2000 * x.timeout.toNat < (s.stamp - x.moved).toNat → Completes (.collectiveWatchdog c) s (fun t => t.mem = s.mem ∧ t.tiles = s.tiles ∧ t.residents = s.residents ∧
        (t.comm c).moved = s.stamp ∧ (t.comm c).run = .running ∧ ∃ f, (t.svc (2 * (c / 256))).waiting = (s.svc (2 * (c / 256))).waiting ++ [f] ∧
          f.code = 0x32 ∧ f.src = 4 ∧ f.detail = BitVec.ofNat 64 (8 + 256 * x.rank) ∧ f.comm = x.handle)) ∧
      ((s.stamp - x.moved).toNat ≤ 2000 * x.timeout.toNat → exec (.collectiveWatchdog c) s = .next s))

/-! ## Blocks, traps, faults and their queues -/

/-- R14, R24, R25, R32 to R35, R59, R86, R109, R126, R256, R302, R304 to R306, R308, R310, R319, R394: block limits, idle engines, the timer, register writes, faults that park with their record or trap a supervisor core, the watchdog, and the fault queues. -/
def Obligations.EngineAndFaultEvents : Prop :=
  ∀ (s : State) (h : Rh) (tid : Tid) (e : Eng) (p : Prog) (core : BitVec 3) (v : Word),
    let k := h.toNat
    let n := tid.toNat
    let w := progWho p
    let c := s.sc w
    let x := s.svc core.toNat
    (∀ r, s.cur n e = some r → r < 8 →
      let g := mkHandle n r
      let due := (e = .s → 256 ≤ (s.res g).s.blk ∧ (s.res g).sc.settled = true) ∧ (e = .v → 256 ≤ (s.res g).v.blk) ∧
        (e = .c → ∀ y, (s.res g).xf = some y → y.atPoint = true)
      (due → (∀ j, j < 8 → j ≠ r → s.ready (mkHandle n j) e = false) → n < 512 →
        Completes (.blockLimit tid e) s (fun t => t.cur n e = some r ∧ ((t.res g).prg e).blk = 0 ∧ t.pcOf (.task g e) = s.pcOf (.task g e) ∧ t.mem = s.mem ∧
          (e = .v → (t.res g).pend = []))) ∧
      (due → (e = .s ∨ e = .v) → s.last n e = r → (∃ j, j < 8 ∧ j ≠ r ∧ s.ready (mkHandle n j) e = true) →
        Completes (.blockLimit tid e) s (fun t => ∃ j, j < 8 ∧ j ≠ r ∧ s.ready (mkHandle n j) e = true ∧ t.cur n e = some j ∧ t.mem = s.mem ∧
          (t.res g).sc = (s.res g).sc ∧ ((t.res g).prg e).pc = ((s.res g).prg e).pc)) ∧
      (e = .s ∨ e = .v → ¬ due → exec (.blockLimit tid e) s = .next s)) ∧
    (s.cur n e = none → (∀ j, j < 8 → s.ready (mkHandle n j) e = false) →
      Completes (.clockGate tid e) s (fun t => t = s.setTile n { s.tile n with gated := (t.tile n).gated } ∧ (t.tile n).gated.getLsbD (engCode e) = true) ∧
      Completes (.idleEngineWake tid e) s (fun t => t.cur n e = none ∧ Locally s { t with tiles := s.tiles })) ∧
    (∀ j, s.cur n e = none → s.pick n e (s.last n e) = some j →
      Completes (.idleEngineWake tid e) s (fun t => t.cur n e = some j ∧ s.ready (mkHandle n j) e = true ∧ ((t.res (mkHandle n j)).prg e).blk = 0 ∧
        (t.tile n).gated.getLsbD (engCode e) = false ∧ t.mem = s.mem)) ∧
    (320 ≤ (s.res k).s.blk → (s.res k).sc.settled = false → s.cur (hTile k) .s = some (hRes k) →
      Completes (.unsettledLimit (.task h)) s (fun t => ∃ rec, Parks k .s .instr rec s t ∧ RecordOf s k .s 0x04 ((s.res k).sc.pc.setWidth 64) rec)) ∧
    ((s.res k).s.blk < 320 ∨ (s.res k).sc.settled = true → exec (.unsettledLimit (.task h)) s = .next s) ∧
    Completes (.timerExpiry p) s (fun t => OnlyContext w s t ∧ (t.sc w) = { c with tstat := if c.tcmp.toNat ≤ s.stamp.toNat then c.tstat ||| 8 else c.tstat }) ∧
    Completes (.tcmpWrite p v) s (fun t => OnlyContext w s t ∧ (t.sc w).tcmp = v ∧ ((t.sc w).tstat.getLsbD 3 = true ↔ v.toNat ≤ s.stamp.toNat) ∧
      (t.sc w).pc = c.pc ∧ (t.sc w).sregs = c.sregs) ∧
    (s.scalarRuns w = true → c.tcmp.toNat ≤ s.stamp.toNat → c.tstat.getLsbD 0 = true → c.tstat.getLsbD 2 = false →
      (match w with | .task g _ => (s.res g).deferred = [] | .sv g => (s.svc g).fqhead = (s.svc g).fqtail) →
      Completes (.timerInterrupt p) s (fun t => OnlyContext w s t ∧ TrapTaken 1 0 c (t.sc w))) ∧
    (∀ g d, w = .task g d → (s.res g).deferred ≠ [] → exec (.timerInterrupt p) s = .next s) ∧
    ((s.stamp.toNat < c.tcmp.toNat ∨ c.tstat.getLsbD 0 = false ∨ c.tstat.getLsbD 2 = true) → exec (.timerInterrupt p) s = .next s) ∧
    Completes (.rctlWrite h v) s (fun t => t = s.setRes k { s.res k with rctl := (t.res k).rctl } ∧
      (t.res k).rctl.toNat = v.toNat / 16 % 16 * 16 + (if v.toNat % 8 ≤ 4 then v.toNat % 8 else 0)) ∧
    Completes (.rngWrite h v) s (fun t => t = s.setRes k { s.res k with rng := if v = 0 then 1 else v }) ∧
    (∀ id rest o st code, (s.scalarRuns (.task k .s) = true ∨ s.drains k = true) → (s.res k).deferred = id :: rest → s.rout? id = some o → o.status = some st →
      (st, code) ∈ [(RStatus.indeterminate, 0x21), (RStatus.retired, 0x21), (RStatus.unreachable, 0x20), (RStatus.stateUse, 0x04), (RStatus.memError, 0x31)] →
      Completes (.deferredFaultDelivery h) s (fun t => (t.res k).deferred = rest ∧
        ∃ rec, Parks k .s (.remote id) rec s t ∧ RecordOf s k .s code (o.iaddr.setWidth 64) rec ∧ rec.flags.getLsbD 3 = true)) ∧
    (∀ y kind, ((s.res k).prg e).wait = some y → waitKind y = some kind →
      ((s.res k).life = .active → (s.res k).est e = 1 → ((s.res k).prg e).pass = false → s.waitHolds k y = false → s.wdog ≠ 0 →
        2000 * s.wdog.toNat < (s.stamp - ((s.res k).prg e).since).toNat →
        Completes (.watchdog h e) s (fun t => ∃ rec, Parks k e (.waiting y) rec s t ∧ RecordOf s k e 0x32 ((s.pcOf (.task k e)).setWidth 64) rec ∧
          rec.detail = BitVec.ofNat 64 kind)) ∧
      ((s.wdog = 0 ∨ s.waitHolds k y = true ∨ (s.stamp - ((s.res k).prg e).since).toNat ≤ 2000 * s.wdog.toNat) → exec (.watchdog h e) s = .next s)) ∧
    (∀ f rest, x.waiting = f :: rest →
      (x.fqsize ≠ 0 → (x.fqtail - x.fqhead).toNat < x.fqsize.toNat →
        let a := x.fqbase.toNat + 64 * (x.fqtail.toNat % x.fqsize.toNat)
        a < Config.cfgBase →
        Completes (.faultRecordWrite core) s (fun t =>
          (t.svc core.toNat) = { x with waiting := rest, fqtail := x.fqtail + 1, nextSeq := x.nextSeq + 1 } ∧ t.msix.getLsbD core.toNat = true ∧
          (let m := fun (o i : Nat) => memNat t.mem (a + o) i
           m 0 1 = f.code.toNat ∧ m 1 1 = f.src.toNat ∧ m 2 1 = f.flags.toNat ∧ m 3 1 = f.lane.toNat ∧ m 4 2 = f.handle.toNat % 4096 ∧ m 6 2 = f.asid.toNat ∧
           m 8 8 = f.iaddr.toNat ∧ m 16 8 = f.vaddr.toNat ∧ m 24 4 = f.nodeInst.toNat ∧ m 28 4 = f.taskNum.toNat ∧ m 32 8 = f.detail.toNat ∧
           m 40 8 = f.comm.toNat ∧ m 48 1 = f.repidx.toNat ∧ m 49 7 = 0 ∧ m 56 8 = x.nextSeq.toNat) ∧
          (∀ y, y < a ∨ a + 64 ≤ y → memByte t.mem y = memByte s.mem y) ∧ t.residents = s.residents ∧ t.tiles = s.tiles)) ∧
      ((x.fqsize = 0 ∨ x.fqsize.toNat ≤ (x.fqtail - x.fqhead).toNat) → exec (.faultRecordWrite core) s = .next s)) ∧
    (x.running = true → x.stopped = false → x.fqhead ≠ x.fqtail → x.sc.tstat.getLsbD 0 = true → x.sc.tstat.getLsbD 2 = false →
      Completes (.faultQueueInterrupt core) s (fun t => OnlyContext (.sv core.toNat) s t ∧ TrapTaken 3 0 x.sc (t.svc core.toNat).sc)) ∧
    ((x.fqhead = x.fqtail ∨ x.sc.tstat.getLsbD 0 = false ∨ x.sc.tstat.getLsbD 2 = true) → exec (.faultQueueInterrupt core) s = .next s) ∧
    Completes (.fqheadWrite core v) s (fun t => t = s.setSvc core.toNat { x with fqhead :=
      if 1 ≤ (v.setWidth 32 - x.fqtail).toNat ∧ (v.setWidth 32 - x.fqtail).toNat < 2 ^ 31 then x.fqtail else v.setWidth 32 }) ∧
    Completes (.faultQueueConfigWrite core false v) s (fun t => t = s.setSvc core.toNat { x with
      fqbase := BitVec.ofNat 52 (v.toNat / 64 * 64), fqhead := 0, fqtail := 0 }) ∧
    Completes (.faultQueueConfigWrite core true v) s (fun t => ∃ y, t = s.setSvc core.toNat { x with fqsize := y, fqhead := 0, fqtail := 0 } ∧
      ((∃ i, 6 ≤ i ∧ i ≤ 16 ∧ v.toNat = 2 ^ i) → y.toNat = v.toNat) ∧ ((¬ ∃ i, 6 ≤ i ∧ i ≤ 16 ∧ v.toNat = 2 ^ i) → y = 0)) ∧
    (∀ code : BitVec 8,
      (x.sc.tstat.getLsbD 2 = false → Completes (.supervisorFaultTrap core code v) s (fun t => (t.svc core.toNat).sfaddr = v ∧
        TrapTaken 4 code.toNat x.sc (t.svc core.toNat).sc ∧ t = s.setSvc core.toNat { x with sc := (t.svc core.toNat).sc, sfaddr := v })) ∧
      (x.sc.tstat.getLsbD 2 = true → Completes (.supervisorFaultTrap core code v) s (fun t => t = s.setSvc core.toNat { x with
        stopped := true, running := false, sfaddr := v, sc := { x.sc with epc := x.sc.pc, tcause := BitVec.ofNat 64 (4 + 256 * code.toNat) } }))) ∧
    (x.stopped = true → Completes (.supervisorRestart core) s (fun t => (t.svc core.toNat).running = true ∧ (t.svc core.toNat).stopped = false ∧
      (t.svc core.toNat).sc.pc = s.flash.entry ∧ (t.svc core.toNat).sc.nx1 = s.flash.entry + 4 ∧ (t.svc core.toNat).sc.tstat = 0 ∧
      (t.svc core.toNat).sc.tcause = x.sc.tcause ∧ (t.svc core.toNat).sc.epc = x.sc.epc ∧ (t.svc core.toNat).waiting = x.waiting)) ∧
    (x.stopped = false → exec (.supervisorRestart core) s = .next s) ∧
    (∀ g, s.who = some (.task g e) → Completes (.illegalInstruction v) s (fun t => ∃ rec, Parks g e .instr rec s t ∧
      RecordOf s g e 0x01 ((s.pcOf (.task g e)).setWidth 64) rec ∧ rec.detail = v)) ∧
    (∀ g, s.who = some (.sv g) → (s.svc g).sc.tstat.getLsbD 2 = false →
      Completes (.illegalInstruction v) s (fun t => TrapTaken 4 0x01 (s.svc g).sc (t.svc g).sc ∧ t.mem = s.mem)) ∧
    (∀ g, s.turn = .coll g → Completes (.illegalInstruction v) s (fun t => (∃ z, (t.comm g).run = .stopped z) ∧ (t.comm g).pos = (s.comm g).pos ∧
      ∃ rec, (t.svc (2 * (g / 256))).waiting = (s.svc (2 * (g / 256))).waiting ++ [rec] ∧ rec.code = 0x01 ∧ rec.src = 4 ∧ rec.detail = v ∧ rec.comm = (s.comm g).handle))

/-! ## Placement and contexts -/

/-- R12, R15, R16, R43 to R46, R312 to R317, R342 to R348, R436: the highest level with a placeable task is served; windows granted never meet those held on the tile; a new task gets its windows, start values and zeroed memory, a resumed one its windows; argument words; the save area and what comes back from it; a lost context; draining; replay; writes held. (Fresh Ephemeris slots, the section base of an image and the CRC's start are the model's: log entries 43, 40, 41.) -/
def Obligations.PlacementEvents : Prop :=
  ∀ (s : State) (h : Rh),
    let k := h.toNat
    let r := s.res k
    let lo := fun (g : Grant) => (g.spWin.extractLsb' 0 32).toNat
    let len := fun (g : Grant) => (g.spWin.extractLsb' 32 32).toNat
    let others := fun (k : Nat) (t : State) => ∀ j, j ≠ k → t.res j = s.res j
    let lost := fun (k : Nat) (tk : TaskRef) (detail : Nat) (t : State) => t.res k = Resident.start ∧ t.lost = s.lost ++ [tk] ∧ t.mem = s.mem ∧
      ∃ rec, (t.svc (hTile k / 36)).waiting = (s.svc (hTile k / 36)).waiting ++ [rec] ∧ rec.code = 0x33 ∧ rec.src = 5 ∧ rec.detail = BitVec.ofNat 64 detail ∧
        rec.asid = tk.asid ∧ rec.nodeInst = tk.nodeInst ∧ rec.handle = BitVec.ofNat 16 k
    (∀ p a, p < 4 → (∀ q, p < q → q < 4 → s.actAt q = none) → s.actAt p = some a → s.nextAct = a) ∧
    (∀ c g x i l gr, x.image = some l → l.window ≤ 4194304 → l.eph ≤ 3640 → s.grantOn c g x i = some gr →
      gr.slabWin = l.slabs ∧ gr.ringWin = l.rings ∧ gr.chWin = l.chans ∧ len gr = l.window ∧ lo gr % 65536 = 0 ∧ lo gr + l.window ≤ 4194304 ∧ ephCountOf gr.ephWin = l.eph ∧
      ∀ d ∈ s.holdings c, gr.slabWin &&& d.slabWin = 0 ∧ gr.ringWin &&& d.ringWin = 0 ∧ gr.chWin &&& d.chWin = 0 ∧
        (∀ a, ¬ (lo gr ≤ a ∧ a < lo gr + len gr ∧ lo d ≤ a ∧ a < lo d + len d)) ∧
        (∀ a, ¬ (ephFirstOf gr.ephWin ≤ a ∧ a < ephFirstOf gr.ephWin + l.eph ∧ ephFirstOf d.ephWin ≤ a ∧ a < ephFirstOf d.ephWin + ephCountOf d.ephWin))) ∧
    (∀ tk j g x l, s.nextAct = some (.place tk j g) → s.gnode tk.graph tk.node = some x → x.image = some l →
      Completes .placeTask s (fun t =>
        let y := t.res j
        let seed := l.seed + BitVec.ofNat 64 tk.index
        y.life = .loading ∧ y.asid = tk.asid ∧ y.nodeInst = tk.nodeInst ∧ y.taskNum = BitVec.ofNat 20 tk.index ∧ y.prio = tk.level ∧ y.grant = g ∧
        y.sc.pc.toNat = (x.image_ + 65536 + l.entry.toNat) % 2 ^ 56 ∧ y.sc.nx1 = y.sc.pc + 4 ∧ y.sc.nx2 = y.sc.pc + 8 ∧ y.sc.a0 = false ∧ y.sc.a1 = false ∧
        y.sc.get 9 = tk.argBase ∧ y.sc.get 10 = BitVec.ofNat 64 tk.index ∧ y.sc.get 11 = tk.cohort ∧ y.sc.get 12 = tk.rank ∧
        (∀ n, n < 9 ∨ 12 < n → y.sc.get n = 0) ∧ y.rng = (if seed = 0 then 1 else seed) ∧ y.estat = 1 ∧ y.vregs = [] ∧ y.kregs = [] ∧ y.mregs = [] ∧
        y.rctl = 0 ∧ y.sc.tstat = 0 ∧ y.sc.tcmp = BitVec.allOnes 64 ∧
        (∀ a, lo g ≤ a → a < lo g + len g → memByte (t.tile (hTile j)).spad a = 0) ∧
        (∀ a, a < lo g ∨ lo g + len g ≤ a → memByte (t.tile (hTile j)).spad a = memByte (s.tile (hTile j)).spad a) ∧
        (∀ z i, z < 32 → i < 4096 → g.slabWin.getLsbD z = true → fget 0 (t.tile (hTile j)).slabs (4096 * z + i) = 0) ∧
        (∀ z i, z < 32 → i < 4096 → g.slabWin.getLsbD z = false → fget 0 (t.tile (hTile j)).slabs (4096 * z + i) = fget 0 (s.tile (hTile j)).slabs (4096 * z + i)) ∧
        (∀ z, z < 32 → (t.tile (hTile j)).slabfe.getLsbD z = ((s.tile (hTile j)).slabfe.getLsbD z && !g.slabWin.getLsbD z)) ∧
        others j t ∧ t.mem = s.mem ∧ t.svs = s.svs ∧ ∀ c, c ≠ hTile j → t.tile c = s.tile c)) ∧
    (∀ sv j, s.nextAct = some (.resume sv j) → Completes .resumeSavedTask s (fun t => (t.res j).life = .restoring ∧ (t.res j).grant = sv.grant ∧
      (t.res j).asid = sv.rest.asid ∧ (∀ u ∈ t.saved, u.area = sv.area → u.into = some j) ∧ others j t ∧ t.mem = s.mem ∧ t.tiles = s.tiles)) ∧
    (∀ j, s.nextAct = some (.preempt j) → Completes .orreryPreempt s (fun t => t = s.setRes j { s.res j with preempt := true })) ∧
    (s.nextAct = none → exec .placeTask s = .next s ∧ exec .resumeSavedTask s = .next s ∧ exec .orreryPreempt s = .next s) ∧
    (let here := fun (i : Nat) => allBytes (s.recBytes (.task k) 0) (r.argAddr i) 8
     r.life = .loading →
      (∀ i tg, i < 8 → (∀ j, j < i → (here j).isSome = true) → here i = none → r.argAddr i % 8 = 0 →
        (∀ g ∈ s.gaccs, g.owner = .task k → g.dest = .record → g.va ≠ r.argAddr i) → s.kTarget r.asid (s.classOf r.asid) (r.argAddr i) .load = .ok tg →
        Completes (.loadingComplete h) s (fun t => (t.res k).life = .loading ∧ (t.res k).sc = r.sc ∧ ∃ g ∈ t.gaccs, g.id = s.nextId ∧ g.isStore = false ∧
          g.va = r.argAddr i ∧ g.n = 8 ∧ g.tgt = tg ∧ g.dest = .record ∧ g.owner = .task k ∧ g.path = 0)) ∧
      (∀ bs : Nat → List Byte, (∀ i : Nat, i < 8 → here i = some (bs i)) →
        Completes (.loadingComplete h) s (fun t => (t.res k).life = .active ∧ (t.res k).est .s = 1 ∧ (t.res k).s.park = none ∧
          (∀ i, i < 8 → (t.res k).sc.get (i + 1) = BitVec.ofNat 64 (leNat (bs i))) ∧ (∀ n, n = 0 ∨ 8 < n → (t.res k).sc.get n = r.sc.get n) ∧
          (t.res k).sc.pc = r.sc.pc ∧ t.mem = s.mem ∧ others k t))) ∧
    (r.life = .loading →
      let ws := (s.argReads k).1
      ((∃ i : Nat, ws[i]? = some ArgWord.wait) → Completes (.loadingComplete h) s (fun t => (t.res k).life = .loading ∧ (t.res k).sc = r.sc)) ∧
      ((∀ i : Nat, ws[i]? ≠ some ArgWord.wait) → (∃ (i : Nat) (f : FaultInfo), ws[i]? = some (ArgWord.bad f)) →
        Completes (.loadingComplete h) s (fun t => (t.res k).life = .active ∧ (t.res k).est .s = 2 ∧ (t.res k).sc = r.sc ∧
          ∃ (mask : Nat) (rec : FaultRec) (i : Nat) (f : FaultInfo), (t.res k).s.park = some { kind := .args mask, fault := rec } ∧ (∀ j : Nat, j < 8 → (mask.testBit j = true ↔ ∃ f : FaultInfo, ws[j]? = some (ArgWord.bad f))) ∧
            ws[i]? = some (ArgWord.bad f) ∧ (∀ j : Nat, j < i → ∀ f : FaultInfo, ws[j]? ≠ some (ArgWord.bad f)) ∧ rec.code = BitVec.ofNat 8 f.code ∧ rec.vaddr = f.va ∧
            (t.svc (hTile k / 36)).waiting = (s.svc (hTile k / 36)).waiting ++ [rec]))) ∧
    (r.life = .active → r.held = [] →
      (r.preempt = true ∧ s.stoppedAll k = true ∧ s.drained k = true →
        Completes (.saveContext h) s (fun t => t.res k = { r with life := .saving } ∧ others k t ∧ t.mem = s.mem)) ∧
      (r.preempt = false ∨ s.stoppedAll k = false ∨ s.drained k = false → exec (.saveContext h) s = .next s)) ∧
    (r.life = .saving → ∀ tk, r.task = some tk →
      (s.freeArea = none → Completes (.saveContext h) s (fun t => lost k tk 0 t)) ∧
      (∀ a, s.freeArea = some a → s.areaAddr a + 98304 ≤ Config.cfgBase →
        let at_ := s.areaAddr a
        Completes (.saveContext h) s (fun t =>
          let m := fun (o n : Nat) => memNat t.mem (at_ + o) n
          m 0 4 = 0x53564131 ∧ m 4 4 = 1 ∧ m 16 1 = r.estat.toNat ∧ m 72 8 = (r.saves + 1).toNat ∧
          m 80 8 = (crc64 (memRead t.mem (at_ + 256) 98048)).toNat ∧
          (∀ n, 1 ≤ n → n < 64 → m (0x100 + 8 * (n - 1)) 8 = (r.sc.get n).toNat) ∧
          m 0x2F8 8 = r.sc.pc.toNat ∧ m 0x300 8 = r.sc.nx1.toNat ∧ m 0x308 8 = r.sc.nx2.toNat ∧ m 24 8 = r.v.pc.toNat ∧ m 32 8 = r.m.pc.toNat ∧ m 40 8 = r.c.pc.toNat ∧
          (∀ n i, n < 128 → i < 128 → m (0x4000 + 512 * n + 4 * i) 4 = (lane (fget 0 r.vregs n) i).toNat) ∧
          (∀ y, y < at_ ∨ at_ + 98304 ≤ y → memByte t.mem y = memByte s.mem y) ∧
          t.res k = Resident.start ∧ ∃ x, t.saved = s.saved ++ [x] ∧ x.ref = tk ∧ x.area = a ∧ x.tile = hTile k ∧ x.grant = r.grant ∧ x.into = none))) ∧
    (r.life = .restoring → r.held = [] → ∀ sv, s.saved.find? (fun u => decide (u.into = some k)) = some sv →
      let at_ := s.areaAddr sv.area
      let bs := memRead s.mem at_ 98304
      (s.poisoned at_ 98304 = true ∨ areaOk bs = false → ∀ tk, r.task = some tk → Completes (.restoreContext h) s (fun t => lost k tk 2 t)) ∧
      (s.poisoned at_ 98304 = false → areaOk bs = true → Completes (.restoreContext h) s (fun t =>
        let m := fun (o n : Nat) => memNat s.mem (at_ + o) n
        (t.res k).life = .active ∧ (t.res k).grant = r.grant ∧ (t.res k).task = r.task ∧ (t.res k).estat.toNat = m 16 1 ∧
        (∀ n, 1 ≤ n → n < 64 → ((t.res k).sc.get n).toNat = m (0x100 + 8 * (n - 1)) 8) ∧
        (t.res k).sc.pc = BitVec.ofNat 56 (m 0x2F8 8) ∧ (t.res k).sc.nx1 = BitVec.ofNat 56 (m 0x300 8) ∧ (t.res k).sc.nx2 = BitVec.ofNat 56 (m 0x308 8) ∧
        (∀ n i, n < 128 → i < 128 → (lane (fget 0 (t.res k).vregs n) i).toNat = m (0x4000 + 512 * n + 4 * i) 4) ∧
        (∀ u ∈ t.saved, u.area ≠ sv.area) ∧ others k t ∧ t.mem = s.mem ∧ t.tiles = s.tiles))) ∧
    ((r.life ≠ .draining ∨ s.drained k = false) → exec (.drain h) s = .next s) ∧
    (r.life = .draining → s.drained k = true → ∀ tk x, r.task = some tk → s.gnode tk.graph tk.node = some x →
      Completes (.drain h) s (fun t => t.res k = Resident.start ∧ t.mem = s.mem ∧
        (∀ u, s.runOf tk.graph = some u → instNum u.inst.first u.replay = tk.nodeInst →
          ∃ v, t.runOf tk.graph = some v ∧ (v.node tk.node).counted = (u.node tk.node).counted + 1) ∧
        (s.eventLive x.done = true → x.done ≠ 0 → t.updates = s.updates ++ [{ idx := hdlIdx x.done, gen := hdlGen x.done, op := .evSignal 1 1 0, keep := false }]) ∧
        (s.pkgId.toNat ∈ fkeys r.seqs → ∃ m ∈ t.retires, m.src = s.pkgId ∧ m.asid = r.asid ∧ m.nodeInst = r.nodeInst ∧ m.taskNum = r.taskNum))) ∧
    (∀ n tk x, s.lost[n]? = some tk → s.gnode tk.graph tk.node = some x →
      (x.nr = false → Completes (.taskReplay n) s (fun t => t = { s with lost := s.lost.eraseIdx n, waitReplay := s.waitReplay ++ [{ tk with replayed := true }] })) ∧
      (x.nr = true → Completes (.taskReplay n) s (fun t => t.lost = s.lost.eraseIdx n ∧ t.waitReplay = s.waitReplay ∧ t.mem = s.mem ∧ t.residents = s.residents ∧
        (∃ rec, (t.svc (tk.tile / 36)).waiting = (s.svc (tk.tile / 36)).waiting ++ [rec] ∧ rec.code = 0x33 ∧ rec.src = 5 ∧ rec.detail = 3) ∧
        (∀ u, s.runOf tk.graph = some u → (u.node tk.node).st ≠ .done → ∃ v, t.runOf tk.graph = some v ∧ (v.node tk.node).st = .failed ∧
          ((u.node tk.node).st ≠ .failed → v.cancelled = true))))) ∧
    (∀ w y, r.held = [w] → ({ r with held := [] } : Resident).supWrite s.stamp w.cr w.value = some y →
      (s.writeOk k w = true → Completes (.deferredSupervisorWrite h) s (fun t => t.res k = y ∧ (t.svc w.core).sc.get w.reg = 0 ∧ others k t ∧ t.mem = s.mem ∧
        t.tiles = s.tiles)) ∧
      (s.writeOk k w = false → Completes (.deferredSupervisorWrite h) s (fun t => t.res k = r ∧ others k t ∧ t.svs = s.svs ∧ t.mem = s.mem))) ∧
    ((∃ e, e ∈ engines ∧ (r.est e = 1 ∨ r.est e = 3)) → r.life = .active → ∀ w : HeldWrite, w.cr ∈ [0x00F, 0x021, 0x022, 0x023, 0x024] → s.writeOk k w = false)

/-! ## The Orrery -/

/-- R331 to R341, R394, R400: the commands of the ring, in ring order: registration, destruction, launch, events, bindings, with their status and handle; a replay starts and its in-edges are armed, a dead one failing its node; nodes become ready and complete, replays and instances end; updates reach their event, fire or fail its dependants. -/
def Obligations.OrreryEvents : Prop :=
  ∀ (s : State) (g n k : Nat) (v : Word),
    let a := s.cmdAddr
    let kept := fun (lo hi : Nat) (u t : State) => ∀ y, y < lo ∨ hi ≤ y → memByte t.mem y = memByte u.mem y
    let done := fun (st : Nat) (u t : State) => memNat t.mem (u.cmdAddr + 40) 1 = st ∧ t.crhead = u.crhead + 1 ∧ t.crtail = u.crtail ∧
      t.residents = u.residents ∧ t.tiles = u.tiles ∧ t.svs = u.svs
    let plain := fun (st : Nat) (t : State) => done st s t ∧ kept (a + 40) (a + 41) s t
    let noMore := fun (t : State) => t.events = s.events ∧ t.graphs = s.graphs ∧ t.queues = s.queues ∧ t.binds = s.binds
    let gives := fun (hd : Word) (u t : State) => done 0 u t ∧ memNat t.mem (u.cmdAddr + 32) 8 = hd.toNat ∧ kept (u.cmdAddr + 32) (u.cmdAddr + 41) u t
    let signalled := fun (hd : Word) (ops : List ROp) (t : State) => s.eventLive hd = true → hd ≠ 0 →
      t.updates = s.updates ++ ops.map (fun op => { idx := hdlIdx hd, gen := hdlGen hd, op := op, keep := false })
    let failed := fun (g n : Nat) (t : State) => ∃ w, t.runOf g = some w ∧ (w.node n).st = .failed ∧ w.cancelled = true
    -- the command ring
    (s.cmdEntry = none → exec .registerGraph s = .next s ∧ exec .destroyGraph s = .next s ∧ exec .createEvent s = .next s ∧ exec .destroyEvent s = .next s ∧
      exec .launch s = .next s ∧ exec .bindCompletionEvent s = .next s) ∧
    (∀ e, s.cmdEntry = some e → a + 64 ≤ Config.cfgBase →
      let code := recNat e 0 1
      let asid : BitVec 14 := BitVec.ofNat 14 (recNat e 48 2)
      let hd : Word := BitVec.ofNat 64 (recNat e 8 8)
      let x := s.graph (hdlIdx hd)
      e = memRead s.mem a 64 ∧
      (code = 0 ∨ 6 < code → Completes .registerGraph s (fun t => plain 3 t ∧ noMore t)) ∧
      (code = 3 →
        (∀ j, freeSlot (fun j => (s.eventObj j).live) s.events.length 1048576 = some j → (s.eventObj j).live = false ∧ j < 1048576 ∧
          Completes .createEvent s (fun t => let y := mkHdl asid s.pkgId (s.eventObj j).gen 1 j
            gives y s t ∧ t.eventLive y = true ∧ (t.eventObj j).count = 0 ∧ (t.eventObj j).status = 0 ∧ (t.eventObj j).deps = [] ∧ ∀ i, i ≠ j → t.eventObj i = s.eventObj i)) ∧
        (freeSlot (fun j => (s.eventObj j).live) s.events.length 1048576 = none → Completes .createEvent s (fun t => plain 2 t ∧ noMore t))) ∧
      (code = 4 →
        (s.eventLive hd = false ∨ hdlAsid hd ≠ asid → Completes .destroyEvent s (fun t => plain 3 t ∧ noMore t)) ∧
        (s.eventLive hd = true → hdlAsid hd = asid → Completes .destroyEvent s (fun t => plain 0 t ∧ t.eventLive hd = false ∧
          (t.eventObj (hdlIdx hd)).gen = nextGen (s.eventObj (hdlIdx hd)).gen ∧
          ∀ d ∈ (s.eventObj (hdlIdx hd)).deps, ∀ u, s.runOf d.graph = some u → (u.node d.node).st = .waiting → failed d.graph d.node t))) ∧
      (code = 2 →
        (s.graphLive hd = false ∨ hdlAsid hd ≠ asid → Completes .destroyGraph s (fun t => plain 3 t ∧ noMore t)) ∧
        (s.graphLive hd = true → hdlAsid hd = asid → s.graphBusy (hdlIdx hd) = true → Completes .destroyGraph s (fun t => plain 1 t ∧ noMore t)) ∧
        (s.graphLive hd = true → hdlAsid hd = asid → s.graphBusy (hdlIdx hd) = false → Completes .destroyGraph s (fun t => plain 0 t ∧ t.graphLive hd = false ∧
          (t.graph (hdlIdx hd)).gen = nextGen x.gen ∧ (∀ i, i ≠ hdlIdx hd → t.graph i = s.graph i) ∧ (∀ r ∈ t.reservations, r.graph ≠ hdlIdx hd) ∧
          ∀ kc ∈ t.cohorts, kc.2.live = true → kc.2.graph ≠ hdlIdx hd))) ∧
      (code = 5 →
        (s.graphLive hd = false ∨ hdlAsid hd ≠ asid → Completes .launch s (fun t => plain 3 t ∧ noMore t)) ∧
        (s.graphLive hd = true → hdlAsid hd = asid → s.graphBusy (hdlIdx hd) = true → Completes .launch s (fun t => plain 1 t ∧ noMore t)) ∧
        (s.graphLive hd = true → hdlAsid hd = asid → s.graphBusy (hdlIdx hd) = false →
          let full := 4096 ≤ (s.queues.filter (fun q => decide (q.level = x.prio))).length
          (full ∨ s.newInst x.rcnt = 0 → Completes .launch s (fun t => plain 2 t ∧ noMore t)) ∧
          (¬ full → s.newInst x.rcnt ≠ 0 → Completes .launch s (fun t => plain 0 t ∧ ∃ q, t.queues = s.queues ++ [q] ∧ q.graph = hdlIdx hd ∧ q.level = x.prio ∧
            q.rebase = BitVec.ofNat 64 (recNat e 16 8) ∧ q.first ≠ 0)))) ∧
      (code = 6 →
        let vec := recNat e 16 8
        (vec < 8 → Completes .bindCompletionEvent s (fun t => plain 2 t ∧ noMore t)) ∧
        (8 ≤ vec → 63 < vec ∨ s.eventLive hd = false → Completes .bindCompletionEvent s (fun t => plain 3 t ∧ noMore t)) ∧
        (8 ≤ vec → vec ≤ 63 → s.eventLive hd = true → Completes .bindCompletionEvent s (fun t => plain 0 t ∧ t.binds.find? (fun b => b.1 == hd) = some (hd, vec)))) ∧
      (code = 1 → s.cmdFailed = true → Completes .registerGraph s (fun t => plain 2 t ∧ noMore t)) ∧
      (code = 1 → s.cmdFailed = false → ∀ db, Brought s ringOwner 4 (recNat e 8 8) 64 db →
        (graphDescOk db = false → Completes .registerGraph s (fun t => plain 2 t ∧ noMore t)) ∧
        (graphDescOk db = true → ∀ nb, Brought s ringOwner 4 (recNat db 0 8) (128 * recNat db 8 2) nb →
          let raw := (List.range (recNat db 8 2)).map (fun i => (nb.drop (128 * i)).take 128)
          let nodes := raw.map parseNode
          let far := fun (hd : Word) => hdlPkg hd ≠ s.pkgId ∧ ∃ x ∈ nodes, ∃ ed ∈ x.edges.take x.nin, ed.1 = hd
          let answer := fun (hd : Word) => s.eventRout ringOwner 5 hd
          (raw.all (s.nodeOk asid) = false → Completes .registerGraph s (fun t => plain 2 t ∧ noMore t)) ∧
          (raw.all (s.nodeOk asid) = true → (∃ hd, far hd ∧ answer hd = none) → Completes .registerGraph s (fun t => t.mem = s.mem ∧ t.crhead = s.crhead ∧
            noMore t ∧ ∀ hd, far hd → answer hd = none → ∃ q ∈ t.requests, q.op = .evRead hd)) ∧
          (raw.all (s.nodeOk asid) = true → (∀ hd, far hd → ∃ o, answer hd = some o ∧ o.status ≠ none) → (∃ hd o, far hd ∧ answer hd = some o ∧ o.status ≠ some .performed) →
            Completes .registerGraph s (fun t => plain 2 t ∧ noMore t)) ∧
          (raw.all (s.nodeOk asid) = true → (∀ hd, far hd → ∃ o, answer hd = some o ∧ o.status = some .performed) → ∀ hb lb : Nat → List Byte,
            (∀ i x, nodes[i]? = some x → x.isLaunch = true → Brought s ringOwner 4 x.image_ 64 (hb i) ∧
              (imageHeadOk (hb i) = true → Brought s ringOwner 4 (x.image_ + recNat (hb i) 20 4) 128 (lb i))) →
            let good := ∀ i x, nodes[i]? = some x → x.isLaunch = true → imageHeadOk (hb i) = true ∧ launchOk (lb i) = true
            let ns := nodes.zipIdx.map (fun xi => if xi.1.isLaunch then { xi.1 with image := some (parseLaunch (lb xi.2)) } else xi.1)
            let slot := freeSlot (fun j => (s.graph j).live) s.graphs.length 16384
            (¬ good ∨ keysOk ns = false ∨ slot = none → Completes .registerGraph s (fun t => plain 2 t ∧ noMore t)) ∧
            (∀ j, good → keysOk ns = true → slot = some j → Completes .registerGraph s (fun t => let y := mkHdl asid s.pkgId (s.graph j).gen 2 j
              gives y s t ∧ t.graphLive y = true ∧ (t.graph j).nodes = ns ∧ (t.graph j).rcnt = recNat db 12 4 ∧ (t.graph j).prio = BitVec.ofNat 2 (recNat db 10 1) ∧
              (t.graph j).stride = BitVec.ofNat 64 (recNat db 16 8) ∧ (t.graph j).completion = BitVec.ofNat 64 (recNat db 24 8) ∧
              ∀ i, i ≠ j → t.graph i = s.graph i)))))) ∧
    Completes (.commandRingConfigWrite false v) s (fun t => t = { s with crhead := 0, crtail := 0, crbase := BitVec.ofNat 64 (v.toNat / 4096 % 2 ^ 40 * 4096) }) ∧
    Completes (.commandRingConfigWrite true v) s (fun t => t = { s with crhead := 0, crtail := 0, crsize := t.crsize, fresh := t.fresh } ∧
      (∃ i, 6 ≤ i ∧ i ≤ 12 ∧ t.crsize.toNat = 2 ^ i) ∧ ((∃ i, 6 ≤ i ∧ i ≤ 12 ∧ v.toNat = 2 ^ i) → t.crsize = v)) ∧
    -- replays
    (let nodes := (s.graph g).nodes
     let live := ∀ x ∈ nodes, ∀ ed ∈ x.edges.take x.nin, hdlPkg ed.1 = s.pkgId → s.eventLive ed.1 = true
     let armed := fun (t : State) => ∀ (i : Nat) x (e : Nat) (ed : Word × Word), nodes[i]? = some x → (x.edges.take x.nin)[e]? = some ed →
       (hdlPkg ed.1 ≠ s.pkgId → ∃ o ∈ t.routs, o.owner = nodeOwner g i ∧ o.path = 5 ∧ o.dest = .eventInfo ed.1) ∧ (s.eventLive ed.1 = true →
       (∃ d ∈ (t.eventObj (hdlIdx ed.1)).deps, d = { graph := g, node := i, edge := e, threshold := ed.2, base := (s.eventObj (hdlIdx ed.1)).count }) ∧
       (t.eventObj (hdlIdx ed.1)).count = (s.eventObj (hdlIdx ed.1)).count)
     let dead := fun (t : State) => ∀ (i : Nat) x, nodes[i]? = some x → (∃ ed ∈ x.edges.take x.nin, hdlPkg ed.1 = s.pkgId ∧ s.eventLive ed.1 = false) → failed g i t
     (∀ q, s.runOf g = none → s.queues.find? (fun q => q.graph == g) = some q →
       Completes (.replayStart g) s (fun t => t.queues = s.queues.erase q ∧ t.mem = s.mem ∧ t.residents = s.residents ∧ dead t ∧
         (live → armed t ∧ t.runOf g = some
           { inst := q, replay := 0, started := true, cancelled := false, nodes := [], order := [], incs := s.incSnapshot }))) ∧
     (∀ r, s.runOf g = some r → r.started = false →
       Completes (.replayStart g) s (fun t => t.queues = s.queues ∧ t.mem = s.mem ∧ t.residents = s.residents ∧ dead t ∧
         (live → armed t ∧ t.runOf g = some { r with started := true, nodes := [], order := [], incs := s.incSnapshot }))) ∧
     ((∃ r, s.runOf g = some r ∧ r.started = true) ∨ (s.runOf g = none ∧ s.queues.find? (fun q => q.graph == g) = none) → exec (.replayStart g) s = .next s)) ∧
    -- nodes
    (∀ r x, s.runOf g = some r → s.gnode g n = some x →
      let y := r.node n
      let nodes := (s.graph g).nodes
      let ended := fun (m : Nat) => (r.node m).st = .done ∨ (r.node m).st = .failed
      let put := fun (z : NodeRun) (r : RunInst) => { r with nodes := fput r.nodes n z }
      let fires := r.started = true ∧ y.st = .waiting ∧ ∀ e, e < x.nin → y.fired.getLsbD e = true
      (¬ fires → exec (.nodeReady g n) s = .next s) ∧
      (fires → 0 < r.replay → x.once = true → Completes (.nodeReady g n) s (fun t => t.runOf g = some (put { y with st := .done } r) ∧ t.mem = s.mem ∧
        signalled x.done [.evSignal (BitVec.ofNat 64 (if x.isLaunch then x.grid else 1)) 1 0] t)) ∧
      (let writes := fires ∧ (r.replay = 0 ∨ x.once = false) ∧ x.isLaunch = true ∧ x.stidx ≠ 0
       let stored := ∀ q ∈ s.gaccs, q.owner = nodeOwner g n → q.isStore = false
       let goes := fires ∧ (r.replay = 0 ∨ x.once = false) ∧ (writes → 0 < y.placed ∧ stored)
       let a := (x.argBase + s.rebase r).toNat + 8 * x.stidx
       let asid := (s.graph g).asid
       (goes → Completes (.nodeReady g n) s (fun t => t.runOf g = some { put { y with st := .ready, placed := 0 } r with order := r.order ++ [n] } ∧
         t.mem = s.mem ∧ t.updates = s.updates ∧
         (x.isLaunch = true → x.cohort ≠ 0 → hdlPkg x.cohort = s.pkgId → ∀ c, s.cohortOf x.cohort = some c → t.cohort c =
           (List.range x.grid).foldl (fun c i => (c.join (launchMember s.pkgId (4096 * g + n) asid (instNum r.inst.first r.replay) i)).1) (s.cohort c)) ∧
         (x.isLaunch = true → x.cohort ≠ 0 → hdlPkg x.cohort ≠ s.pkgId → ∃ o ∈ t.routs, o.owner = nodeOwner g n ∧ o.dest = .cohortInfo x.cohort ∧
           o.req.op = .cohort 1 x.cohort ∧ o.req.op1.toNat = x.grid % 2 ^ 128))) ∧
       (writes → 0 < y.placed → ¬ stored → exec (.nodeReady g n) s = .next s) ∧
       (writes → y.placed = 0 → a % 8 = 0 → ∀ tg, s.kTarget asid 4 a .store = .ok tg →
         (tg.aper = 2 → tg.kind = 0 → ((s.seqFor (nodeOwner g n) tg.peer).next - 1 - (s.seqFor (nodeOwner g n) tg.peer).seen).toNat + 1 ≤ 2 ^ 30) →
         Completes (.nodeReady g n) s (fun t => t.runOf g = some (put { y with placed := 1 } r) ∧ ∃ q ∈ t.gaccs, q.owner = nodeOwner g n ∧ q.isStore = true ∧
           q.tgt = tg ∧ q.va = a ∧ q.data = leBytes 8 (s.eventStatus ((x.edges.headD (0, 0)).1)).toNat)) ∧
       (writes → y.placed = 0 → a % 8 = 0 → ∀ f, s.kTarget asid 4 a .store = .error f → Completes (.nodeReady g n) s (fun t => failed g n t ∧
         ∃ rec, (t.svc 0).waiting = (s.svc 0).waiting ++ [rec] ∧ rec.src = 5 ∧ rec.code = BitVec.ofNat 8 f.code ∧ rec.vaddr = f.va))) ∧
      (y.st = .waiting ∨ y.st = .running → exec (.nodeComplete g n) s = .next s) ∧
      ((∃ m, m < nodes.length ∧ ¬ ended m) → ended n → exec (.nodeComplete g n) s = .next s) ∧
      (r.started = true → ended n → (∀ m, m < nodes.length → ended m) →
        let last := r.cancelled = true ∨ (s.graph g).rcnt ≤ r.replay + 1
        (last → Completes (.nodeComplete g n) s (fun t => t.runOf g = none ∧ t.mem = s.mem ∧
          signalled (s.graph g).completion [.evSignal 1 (if r.cancelled then 3 else 1) 0] t ∧
          (∀ b, (s.graph g).completion ≠ 0 → s.binds.find? (fun b => b.1 == (s.graph g).completion) = some b → b.2 < 64 → t.msix.getLsbD b.2 = true))) ∧
        (¬ last → Completes (.nodeComplete g n) s (fun t => t.runOf g = some { r with replay := r.replay + 1, started := false, nodes := [], order := [] } ∧
          t.mem = s.mem ∧ t.updates = s.updates))) ∧
      (y.st = .ready → x.isLaunch = true → y.counted < x.grid → exec (.nodeComplete g n) s = .next s) ∧
      ((∃ m, m < nodes.length ∧ m ≠ n ∧ ¬ ended m) → y.st = .ready →
        (x.isLaunch = true → x.grid ≤ y.counted → Completes (.nodeComplete g n) s (fun t => t.runOf g = some (put { y with st := .done } r) ∧ t.mem = s.mem)) ∧
        (let gives := fun (st : BitVec 2) => Completes (.nodeComplete g n) s (fun t => t.runOf g = some (put { y with st := .done } r) ∧ t.mem = s.mem ∧
           signalled x.done [.evSignal 1 st 0] t)
         let bad := Completes (.nodeComplete g n) s (fun t => failed g n t ∧ ∃ rec, (t.svc 0).waiting = (s.svc 0).waiting ++ [rec] ∧ rec.src = 5 ∧ rec.code = 0x04)
         let off : Word := if x.reb then s.rebase r else 0
         let src := (BitVec.ofNat 64 (x.field 0 8) + off).toNat
         let dst := (BitVec.ofNat 64 (x.field 8 8) + off).toNat
         let quad := s.copyQuad (s.graph g).asid src
         let first := ∀ c, s.topClass quad = some c → c ≤ (s.graph g).prio.toNat
         let brought := Brought s (nodeOwner g n) 4
         -- prefetch
         (x.kind = 3 → let len := x.field 8 8
           let fits := 1 ≤ len ∧ len ≤ 2 ^ 32 ∧ src + len ≤ 2 ^ 56
           (¬ fits → bad) ∧ (fits → ¬ first → exec (.nodeComplete g n) s = .next s) ∧ (fits → first → gives 1)) ∧
         -- copy
         (x.kind = 2 → x.field 16 8 ≤ 4096 * y.placed → ((∃ q ∈ s.gaccs, q.owner = nodeOwner g n) → exec (.nodeComplete g n) s = .next s) ∧
           ((∀ q ∈ s.gaccs, q.owner ≠ nodeOwner g n) → gives 1)) ∧
         (x.kind = 2 → 4096 * y.placed < x.field 16 8 → let len := x.field 16 8
           let fits := src + len ≤ 2 ^ 56 ∧ dst + len ≤ 2 ^ 56 ∧ footApart [(src, len)] [(dst, len)] = true
           let o := 4096 * y.placed
           let m := min 4096 (len - o)
           (¬ fits → bad) ∧ (fits → ¬ first → exec (.nodeComplete g n) s = .next s) ∧
           (fits → first → ∀ bs (T : Nat → Target), brought (src + o) m bs →
             (∀ i, i < m → (∃ e, s.translate (.quad quad) (s.graph g).asid 5 (dst + o + i) .store false = .ok (T (dst + o + i)) e) ∧
               s.dirtyOk (.quad quad) (s.graph g).asid (dst + o + i) .store = true ∧ ((T (dst + o + i)).aper = 2 → (T (dst + o + i)).kind = 0 →
                 ((s.seqFor (nodeOwner g n) (T (dst + o + i)).peer).next - 1 - (s.seqFor (nodeOwner g n) (T (dst + o + i)).peer).seen).toNat + m ≤ 2 ^ 30)) →
             Completes (.nodeComplete g n) s (fun t => t.runOf g = some (put { y with placed := y.placed + 1 } r) ∧
               ∀ i, i < m → ∃ q ∈ t.gaccs, q.owner = nodeOwner g n ∧ q.isStore = true ∧ q.nt = decide (x.field 24 1 = 1) ∧ q.tgt = T q.va ∧
                 q.va ≤ dst + o + i ∧ dst + o + i < q.va + q.n ∧ q.data[dst + o + i - q.va]? = bs[i]?))) ∧
         -- collective
         (x.kind = 1 → x.field 16 4 ≤ y.placed →
           let mine := fun (z : Comm) => (∃ c, (c, z) ∈ s.comms) ∧ z.live = true ∧ z.startBy = nodeOwner g n ∧
             z.ident.extractLsb' 20 24 = instNum r.inst.first r.replay
           ((∃ z, mine z ∧ z.busy = true) → exec (.nodeComplete g n) s = .next s) ∧
           ((∀ z, mine z → z.busy = false) → ((∃ z, mine z ∧ z.incomplete = true) → gives 2) ∧ ((∀ z, mine z → z.incomplete = false) → gives 1))) ∧
         (x.kind = 1 → y.placed < x.field 16 4 →
           let a := (BitVec.ofNat 64 (x.field 0 8 + y.placed * x.field 8 8)).toNat
           (a % 64 ≠ 0 → bad) ∧
           (a % 64 = 0 → ∀ bs, brought a 64 bs →
             (cstartOk bs = false ∨ s.commOf (BitVec.ofNat 64 (recNat bs 0 8)) = none → bad) ∧
             (cstartOk bs = true → ∀ c, s.commOf (BitVec.ofNat 64 (recNat bs 0 8)) = some c →
               ((s.comm c).busy = true → exec (.nodeComplete g n) s = .next s) ∧
               ((s.comm c).busy = false → ∀ pb db, brought (recNat bs 8 8) (8 * recNat bs 16 4) pb →
                 let prog := (cutWords 8 pb).map (BitVec.ofNat 64)
                 let ds := (cutWords 32 db).map (BitVec.ofNat 256)
                 brought (recNat bs 24 8) (32 * descCount prog) db →
                 (s.programOk prog ds = false → bad) ∧
                 (s.programOk prog ds = true → (∀ hd ∈ descEvents ds, hdlPkg hd = s.pkgId) → Completes (.nodeComplete g n) s (fun t => (t.comm c).run = .running ∧
                   (t.comm c).prog = prog ∧ (t.comm c).pos = 0 ∧ (t.comm c).startBy = nodeOwner g n ∧ t.runOf g = some (put { y with placed := y.placed + 1 } r)))))))) ∧
        (x.kind = 5 → let hd : Word := BitVec.ofNat 64 (x.field 0 8)
          Completes (.nodeComplete g n) s (fun t => t.runOf g = some (put { y with st := .done } r) ∧ t.mem = s.mem ∧
            (x.done = 0 → signalled hd [eventNodeOp x] t) ∧ (hd = 0 → signalled x.done [.evSignal 1 1 0] t) ∧
            (s.eventLive hd = true → s.eventLive x.done = true → hd ≠ 0 → x.done ≠ 0 → t.updates = s.updates ++
              [{ idx := hdlIdx hd, gen := hdlGen hd, op := eventNodeOp x, keep := false }, { idx := hdlIdx x.done, gen := hdlGen x.done, op := .evSignal 1 1 0, keep := false }]))))) ∧
    -- updates
    (s.updates[k]? = none → exec (.eventUpdate k) s = .next s) ∧
    (∀ u, s.updates[k]? = some u →
      let o := s.eventObj u.idx
      let rest := fun (t : State) => t.updates = s.updates.eraseIdx k ∧ t.mem = s.mem ∧ t.residents = s.residents ∧ ∀ i, i ≠ u.idx → (t.eventObj i).count = (s.eventObj i).count
      (o.live = false ∨ o.gen ≠ u.gen → Completes (.eventUpdate k) s (fun t => t = { s with updates := s.updates.eraseIdx k })) ∧
      (∀ m st cause, o.live = true → o.gen = u.gen → u.op = .evSignal m st cause → Completes (.eventUpdate k) s (fun t => rest t ∧
        let z := t.eventObj u.idx
        z.live = true ∧ z.count = o.count + m ∧ z.status = (if (o.status.extractLsb' 0 2).toNat < st.toNat then cause ++ (0 : BitVec 6) ++ st else o.status) ∧
        ∀ d ∈ o.deps,
          ((o.count + m - d.base).toNat < d.threshold.toNat → d ∈ z.deps) ∧
          (d.threshold.toNat ≤ (o.count + m - d.base).toNat → d ∉ z.deps ∧ ∀ r, s.runOf d.graph = some r → d.edge < 4 →
            ∃ w, t.runOf d.graph = some w ∧ (w.node d.node).fired.getLsbD d.edge = true))) ∧
      (∀ m, o.live = true → o.gen = u.gen → u.op = .evSet m false → Completes (.eventUpdate k) s (fun t => rest t ∧ (t.eventObj u.idx).count = m ∧ (t.eventObj u.idx).status = 0 ∧
        (t.eventObj u.idx).live = true)) ∧
      (∀ m, o.live = true → o.gen = u.gen → u.op = .evSet m true → Completes (.eventUpdate k) s (fun t => t.mem = s.mem ∧ t.residents = s.residents ∧ (t.eventObj u.idx).status = 3 ∧
        (t.eventObj u.idx).deps = [] ∧ (t.eventObj u.idx).count = (if u.keep then o.count else m) ∧
        ∀ d ∈ o.deps, ∀ r, s.runOf d.graph = some r → (r.node d.node).st = .waiting → failed d.graph d.node t)))

/-! ## The platform -/

/-- R3, R25, R258, R259, R287, R290, R324, R325, R327 to R329, R359, R389, R392, R394 to R400, R402 to R404: host requests, boot and package reset, the trusted calls, register writes, power steps, errors and retirement, the mesh, a die's fence and rejoin. (What PCAP takes from a number outside its range, the measurements, the reset contents of memory and the address a data error's record gives are the model's: log entries 28, 30, 100, 94.) -/
def Obligations.PlatformEvents : Prop :=
  ∀ (s : State) (core : BitVec 3) (port bar0 ro : Bool) (pa : BitVec 40) (bytes : List Byte) (n k : Nat) (hd : BitVec 5) (op0 op1 : BitVec 128)
    (die q : BitVec 2) (v : Word) (cls : BitVec 6) (off : BitVec 24) (link : BitVec 8) (watts : Nat),
    let c := core.toNat
    let x := s.svc c
    let arg := fun (i : Nat) => (x.callArg i).toNat
    let keeps := fun (lo hi : Nat) (t : State) => (∀ y, y < lo ∨ hi ≤ y → memByte t.mem y = memByte s.mem y) ∧ t.residents = s.residents ∧ t.tiles = s.tiles
    let ends := fun (st : Byte) (u t : State) => t = u.setSvc c { u.svc c with mailbox := fset 0 (u.svc c).mailbox 40 st }
    let fenced := fun (d : Nat) (t : State) => t.dieState d = 1 ∧ t.mem = s.mem ∧
      (∀ h : Rh, hTile h.toNat / 72 = d → (t.res h.toNat).life = .free ∧ ∀ tk, (s.res h.toNat).life ≠ .free → (s.res h.toNat).task = some tk →
        s.saved.find? (fun u => decide (u.into = some h.toNat)) = none → tk ∈ t.lost) ∧ (∀ u ∈ s.saved, u.tile / 72 = d → (∀ y ∈ s.saved, y.area = u.area → y = u) → u.ref ∈ t.lost ∧ u ∉ t.saved) ∧
      (∀ h : Rh, hTile h.toNat / 72 ≠ d → t.res h.toNat = s.res h.toNat) ∧ (∀ l, (fget 0 t.directory l).getLsbD d = false) ∧
      (∀ i, i / 72 ≠ d → t.tile i = s.tile i) ∧ t.events = s.events ∧ t.afterglow = s.afterglow ∧ t.transports = s.transports ∧ t.comms = s.comms
    -- the host
    (let a := barAddr bar0 pa.toNat
     let m := hostClass port
     (bar0 = true → a = 0xFFF0000000000 + pa.toNat) ∧ (bar0 = false → a = pa.toNat) ∧ (port = true → m = 1) ∧ (port = false → m = 0) ∧
     let joins := fun (store : Bool) (count : Nat) (l : List GAcc) => (∀ g ∈ l, g.owner = .host port ∧ g.isStore = store ∧ g.tgt.aper = 0 ∧ g.sent = false) ∧
       ∀ i, i < count → ∃ g ∈ l, g.tgt.pa ≤ a + i ∧ a + i < g.tgt.pa + g.n
     (s.booted = true → s.hostOk m a bytes.length .store = true → Completes (.hostWrite port bar0 pa bytes ro) s (fun t => ∃ l, joins true bytes.length l ∧
       (∀ g ∈ l, g.tgt.kind = (if ro then 1 else 0) ∧ g.dest = .none ∧ g.data = (bytes.drop (g.tgt.pa - a)).take g.n) ∧
       t = { s with gaccs := s.gaccs ++ l, nextId := t.nextId })) ∧
     (s.booted = true → s.hostOk m a bytes.length .store = false →
       Completes (.hostWrite port bar0 pa bytes ro) s (fun t => t = { s with aer := s.aer + 1 })) ∧
     (s.booted = true → s.hostOk m a n .load = true → Completes (.hostRead port bar0 pa n) s (fun t => ∃ l, joins false n l ∧
       (∀ g ∈ l, g.dest = .host s.hostReads.length (g.tgt.pa - a)) ∧
       t = { s with hostReads := s.hostReads ++ [List.replicate n 0], gaccs := s.gaccs ++ l, nextId := t.nextId })) ∧
     (s.booted = true → s.hostOk m a n .load = false → Completes (.hostRead port bar0 pa n) s (fun t => t = { s with hostReads := s.hostReads ++ [[]] })) ∧
     (s.booted = false → exec (.hostWrite port bar0 pa bytes ro) s = .next s ∧ exec (.hostRead port bar0 pa n) s = .next s)) ∧
    (let a := pa.toNat
     let w := if hd = 19 then 16 else if hd = 0 ∨ hd = 15 ∨ hd = 17 then 4 else if hd = 1 ∨ hd = 16 ∨ hd = 18 then 8 else 0
     let waits := fget none s.hruns (homeSlice a) ≠ none ∨ ∃ g ∈ s.gaccs, g.owner = .host port ∧ g.isStore = true ∧ g.tgt.pa < a + w ∧ a < g.tgt.pa + g.n
     (s.booted = false ∨ waits → exec (.hostAtomic port pa hd op0 op1) s = .next s) ∧
     (s.booted = true → ¬ waits → w ≠ 0 → a % w = 0 → s.targetOk (hostClass port) a .atomic = true → s.poisoned a w = false → a < Config.cfgBase →
       let r := fixedHandler hd.toNat w (memNat s.mem a w) op0.toNat op1.toNat
       Completes (.hostAtomic port pa hd op0 op1) s (fun t => memRead t.mem a w = leBytes w r.1 ∧ keeps a (a + w) t ∧
         t.hostReads = s.hostReads ++ [leBytes w r.2])) ∧
     (s.booted = true → ¬ waits → w = 0 ∨ a % w ≠ 0 ∨ s.targetOk (hostClass port) a .atomic = false ∨ s.poisoned a w = true →
       Completes (.hostAtomic port pa hd op0 op1) s (fun t => t = { s with hostReads := s.hostReads ++ [[]] }))) ∧
    -- boot and reset
    (let started := fun (t : State) => t.booted = true ∧ t.inc = (if s.inc = 0xFFFF then 1 else s.inc + 1) ∧ t.afterglow = [] ∧ t.floors = [] ∧ t.rights = s.flash.rights ∧
       t.atbase = s.flash.atbase ∧ t.svpool = s.flash.svpool ∧ t.svpooln = s.flash.svpooln ∧
       (∀ j, j < 8 → (t.svc j).running = true ∧ (t.svc j).sc.pc = s.flash.entry ∧ (t.svc j).sc.nx1 = s.flash.entry + 4 ∧ (t.svc j).sc.nx2 = s.flash.entry + 8 ∧
         (t.svc j).sc.sregs = [] ∧ (t.svc j).sasid = s.flash.sasid) ∧ (∀ d, d < 4 → t.dieState d = 0) ∧
       (let e := s.flash.atbase.toNat + 16 * s.flash.sasid.toNat
        memRead t.mem e 16 = leBytes 16 s.flash.sasidEntry.toNat ∧
        (s.flash.cells.wf = true → ∀ ab ∈ s.flash.cells, ab.1 < Config.hbmEnd → ab.1 < e ∨ e + 16 ≤ ab.1 → memByte t.mem ab.1 = ab.2))
     let failed := fun (u t : State) => t = { u with i3cReport := true }
     (s.booted = false → s.flash.signed = true → Completes .boot s (fun t => started t ∧ t.residents = s.residents ∧ t.tiles = s.tiles)) ∧
     (s.booted = true → exec .boot s = .next s) ∧
     (s.booted = false → s.flash.signed = false → Completes .boot s (failed s)) ∧
     (let blank := fun (t : State) => t.residents = [] ∧ t.tiles = [] ∧ t.stamp = 0 ∧ t.events = [] ∧ t.graphs = [] ∧ t.gaccs = [] ∧ t.routs = [] ∧ t.comms = [] ∧
        t.flash = s.flash ∧ t.pkgId = s.pkgId
      (s.flash.signed = true → Completes .packageReset s (fun t => blank t ∧ started t)) ∧
      (s.flash.signed = false → Completes .packageReset s (fun t => blank t ∧ t.inc = s.inc ∧ t.svs = [] ∧ t.booted = false ∧ t.i3cReport = true)))) ∧
    -- the trusted calls
    (let image := (List.range (arg 3)).map (fun i => BitVec.ofNat 32 (memNat s.mem (arg 2 + 4 * i) 4))
     let formed := 24 ≤ arg 0 ∧ arg 0 ≤ 31 ∧ arg 1 ∈ [4, 8, 16] ∧ 1 ≤ arg 3 ∧ arg 3 ≤ 64 ∧ arg 2 + 4 * arg 3 ≤ Config.hbmEnd
     let good := s.poisoned (arg 2) (4 * arg 3) = false ∧ handlerImageOk (arg 1) image = true
     (x.call = some 1 → s.slotRuns (arg 0) = false →
       (formed → good → Completes (.loadHandlerSlot core) s (fun t => ends 0 { s with hslots := fput s.hslots (arg 0) { w := arg 1, prog := image } } t)) ∧
       (formed → ¬ good → Completes (.loadHandlerSlot core) s (fun t => ends 1 s t)) ∧
       (¬ formed → Completes (.loadHandlerSlot core) s (fun t => ends 2 s t))) ∧
     (s.slotRuns (arg 0) = true ∨ x.call ≠ some 1 → exec (.loadHandlerSlot core) s = .next s)) ∧
    (x.call = some 2 →
      let a := s.atbase.toNat + 16 * arg 0
      (arg 0 < 16384 → a + 16 ≤ Config.cfgBase → Completes (.writeAsidEntry core) s (fun t =>
        memNat t.mem a 8 = arg 1 ∧ memNat t.mem (a + 8) 8 = arg 2 ∧ keeps a (a + 16) t ∧ fget 0 (t.svc c).mailbox 40 = 0)) ∧
      (16384 ≤ arg 0 → Completes (.writeAsidEntry core) s (fun t => ends 2 s t))) ∧
    (x.call = some 3 →
      (arg 0 ≤ 86 → arg 1 ≤ 63 → arg 2 ≤ 15 → Completes (.writeAccessRight core) s (fun t =>
        ends 0 { s with rights := t.rights } t ∧
        ∀ i m b, m < 64 → b < 4 → t.hasRight i m b = (if i = arg 0 ∧ m = arg 1 then (arg 2).testBit b else s.hasRight i m b))) ∧
      (86 < arg 0 ∨ 63 < arg 1 ∨ 15 < arg 2 → Completes (.writeAccessRight core) s (fun t => ends 2 s t))) ∧
    (x.call = some 4 →
      (arg 0 ≤ 3 → s.dieState (arg 0) = 0 → Completes (.fenceDieCall core) s (fun t => fenced (arg 0) t ∧ fget 0 (t.svc c).mailbox 40 = 0)) ∧
      (arg 0 ≤ 3 → s.dieState (arg 0) ≠ 0 → Completes (.fenceDieCall core) s (fun t => ends 1 s t)) ∧
      (3 < arg 0 → Completes (.fenceDieCall core) s (fun t => ends 2 s t))) ∧
    (x.call = some 5 →
      (arg 0 ≤ 3 → s.dieState (arg 0) = 2 → Completes (.rejoinDieCall core) s (fun t => ends 0 { s with diectl := fput s.diectl (arg 0) 3 } t)) ∧
      (arg 0 ≤ 3 → s.dieState (arg 0) ≠ 2 → Completes (.rejoinDieCall core) s (fun t => ends 1 s t)) ∧
      (3 < arg 0 → Completes (.rejoinDieCall core) s (fun t => ends 2 s t))) ∧
    (x.call = some 6 →
      (arg 0 ≤ 3 → Completes (.writeLlcpin core) s (fun t => ends 0 { s with llcpin := fput s.llcpin (arg 0) (BitVec.ofNat 16 (min 512 (arg 1 % 65536))) } t)) ∧
      (3 < arg 0 → Completes (.writeLlcpin core) s (fun t => ends 2 s t))) ∧
    (x.call = some 7 →
      (arg 0 % 65536 = 0 → arg 0 < Config.hbmEnd → Completes (.retireHbmRegion core) s (fun t => arg 0 / 65536 ∈ t.retired ∧ (∀ g ∈ s.retired, g ∈ t.retired) ∧
        ends 0 { s with retired := t.retired } t)) ∧
      (arg 0 % 65536 ≠ 0 ∨ Config.hbmEnd ≤ arg 0 → Completes (.retireHbmRegion core) s (fun t => ends 2 s t))) ∧
    (x.call = some 8 →
      (arg 0 < 16384 → 8 ≤ arg 1 → arg 1 ≤ 63 → Completes (.setMasterClass core) s (fun t =>
        ends 0 { s with classes := fput s.classes (arg 0) (BitVec.ofNat 6 (arg 1)) } t)) ∧
      (16384 ≤ arg 0 ∨ arg 1 < 8 ∨ 63 < arg 1 → Completes (.setMasterClass core) s (fun t => ends 2 s t))) ∧
    (x.call = none → exec (.writeAsidEntry core) s = .next s ∧ exec (.writeAccessRight core) s = .next s ∧ exec (.fenceDieCall core) s = .next s ∧
      exec (.rejoinDieCall core) s = .next s ∧ exec (.writeLlcpin core) s = .next s ∧ exec (.retireHbmRegion core) s = .next s ∧ exec (.setMasterClass core) s = .next s) ∧
    -- register writes
    (let o := off.toNat / 8 * 8
     let ev : Instr := .registerWrite cls off v
     let ok := s.targetOk cls.toNat (Config.cfgBase + o) .store = true ∧ (cls.toNat ≤ 1 → s.booted = true)
     (¬ ok → exec ev s = .next s) ∧
     (ok → o = 0x3100 → 1000 ≤ v.toNat % 4096 → v.toNat % 4096 ≤ 3200 → Completes ev s (fun t => t = { s with pcap := BitVec.ofNat 12 v.toNat })) ∧
     (ok → o = 0xC018 → Completes ev s (fun t => t = { s with crtail := v })) ∧
     (∀ d, ok → d < 4 → o = 0x3000 + 0x40 * d → Completes ev s (fun t => t = { s with dvfs := fput s.dvfs d (BitVec.ofNat 5 (max 12 (min 22 (v.toNat % 32)))) })) ∧
     (∀ i j, ok → i < 87 → j < 4 → o = 0x200000 + 32 * i + 8 * j → Completes ev s (fun t => t = { s with rights := t.rights } ∧
       ∀ m b, m < 64 → b < 4 → t.hasRight i m b = (if m / 16 = j then v.getLsbD (4 * (m % 16) + b) else s.hasRight i m b))) ∧
     (∀ p, ok → p < 64 → o = 0x8000 + 0x40 * p → p ≠ pkgMember s.pkgId →
       (v.getLsbD 0 = true → v.getLsbD 1 = false → (s.port p).state = 2 → Completes ev s (fun t => (t.port p).state = 3 ∧ ∀ j, j ≠ p → t.port j = s.port j)) ∧
       (v.getLsbD 1 = true → v.getLsbD 0 = false → (s.port p).state = 0 ∨ (s.port p).state = 4 →
         Completes ev s (fun t => (t.port p).state = 1 ∧ ∀ j, j ≠ p → t.port j = s.port j)) ∧
       (v.getLsbD 0 = v.getLsbD 1 → exec ev s = .next s)) ∧
     (∀ d, ok → d < 4 → o = 0x1000 + 0x40 * d → v.getLsbD 0 = true → v.getLsbD 1 = false → s.dieState d = 0 → Completes ev s (fenced d))) ∧
    Completes (.llcpinWrite q v) s (fun t => t = { s with llcpin := fput s.llcpin q.toNat (BitVec.ofNat 16 (min 512 (v.toNat % 65536))) }) ∧
    (let ok := s.targetOk cls.toNat (Config.cfgBase + 0x3000 + 0x40 * die.toNat) .store
     (ok = true → cls = 2 ∨ cls = 3) ∧
     (ok = true → Completes (.dvfsWrite cls die v) s (fun t => t = { s with dvfs := fput s.dvfs die.toNat (BitVec.ofNat 5 (max 12 (min 22 (v.toNat % 32)))) })) ∧
     (ok = false → exec (.dvfsWrite cls die v) s = .next s)) ∧
    (counterExists off.toNat = true → off.toNat % 16 = 0 → Completes (.counterCtlWrite off v) s (fun t => t = { s with counters := t.counters } ∧
      let y := fget Counter.start t.counters off.toNat
      y.ctl.getLsbD 0 = v.getLsbD 0 ∧ y.value = (fget Counter.start s.counters off.toNat).value ∧
      y.ctl.toNat / 256 = (if counterSrcOk off.toNat (v.toNat / 256 % 256) then v.toNat / 256 % 256 else 0))) ∧
    (let f := (fget 20 s.dvfs die.toNat).toNat
     (s.pcap.toNat < watts → 12 < f → Completes (.powerCapStep die watts) s (fun t => t = { s with dvfs := fput s.dvfs die.toNat (BitVec.ofNat 5 (f - 1)) })) ∧
     (watts ≤ s.pcap.toNat ∨ f ≤ 12 → exec (.powerCapStep die watts) s = .next s)) ∧
    -- errors
    (n < Config.hbmEnd / 64 → Completes (.uncorrectableError (.line n)) s (fun t => n ∈ t.poison ∧ (∀ l, l ∈ t.poison ↔ l = n ∨ l ∈ s.poison) ∧ t = { s with poison := t.poison })) ∧
    (s.dieState die.toNat = 0 → Completes (.uncorrectableError (.die die)) s (fenced die.toNat)) ∧
    (s.dieState die.toNat ≠ 0 → exec (.uncorrectableError (.die die)) s = .next s) ∧
    (∀ (h : Rh) (e : Eng) kind ia, s.reading (.task h.toNat e) = some (kind, ia) →
      Completes (.uncorrectableError (.data (.task h) e (pa.setWidth 64) v)) s (fun t => ∃ rec, Parks h.toNat e kind rec s t ∧
        RecordOf s h.toNat e 0x31 (ia.setWidth 64) rec ∧ rec.detail = pa.setWidth 64 ∧ rec.vaddr = v ∧ t.mem = s.mem)) ∧
    (∀ e : Eng, x.running = true → x.stopped = false → x.sc.tstat.getLsbD 2 = false →
      Completes (.uncorrectableError (.data (.sv core) e (pa.setWidth 64) v)) s (fun t => TrapTaken 4 0x31 x.sc (t.svc c).sc ∧ (t.svc c).sfaddr = v ∧ t.mem = s.mem)) ∧
    (∀ (h : Rh) (e : Eng) tk, (s.res h.toNat).life = .saving → (s.res h.toNat).task = some tk →
      Completes (.uncorrectableError (.data (.task h) e (pa.setWidth 64) v)) s (fun t => t.res h.toNat = Resident.start ∧ tk ∈ t.lost ∧ t.mem = s.mem ∧
        ∃ rec, (t.svc (hTile h.toNat / 36)).waiting = (s.svc (hTile h.toNat / 36)).waiting ++ [rec] ∧ rec.code = 0x33 ∧ rec.src = 5 ∧ rec.detail = 1)) ∧
    (n < Config.hbmEnd / 64 →
      Completes (.patrolScrub n 0) s (fun t => t = s) ∧
      Completes (.patrolScrub n 1) s (fun t => fget 0 t.corrected (n / 1024) = fget 0 s.corrected (n / 1024) + 1 ∧
        (∀ g, g ≠ n / 1024 → fget 0 t.corrected g = fget 0 s.corrected g) ∧ t.mem = s.mem ∧ t.poison = s.poison) ∧
      Completes (.patrolScrub n 2) s (fun t => n ∈ t.poison ∧ t.mem = s.mem ∧ t.corrected = s.corrected)) ∧
    (64 ≤ fget 0 s.corrected k → Completes (.regionRetirement k) s (fun t => k ∈ t.retired ∧ (∀ g ∈ s.retired, g ∈ t.retired) ∧ t = { s with retired := t.retired })) ∧
    (fget 0 s.corrected k < 64 → exec (.regionRetirement k) s = .next s) ∧
    -- the mesh
    (Completes (.flitRetry link true) s (fun t => t = { s with meshRetry := fput s.meshRetry link.toNat (fget 0 s.meshRetry link.toNat + 1) }) ∧
     Completes (.flitRetry link false) s (fun t => t = { s with meshRetry := fput s.meshRetry link.toNat 1 }) ∧
     (16 ≤ fget 0 s.meshRetry link.toNat → Completes (.linkFence link) s (fun t => link.toNat ∈ t.meshFenced ∧ t = { s with meshFenced := t.meshFenced, meshNotes := t.meshNotes } ∧ (link.toNat ∉ s.meshFenced → link.toNat ∈ t.meshNotes))) ∧
     (fget 0 s.meshRetry link.toNat < 16 → exec (.linkFence link) s = .next s)) ∧
    -- dies
    (v.getLsbD 0 = true → v.getLsbD 1 = false → s.dieState die.toNat = 0 → Completes (.diectlFence die v) s (fenced die.toNat)) ∧
    (v.getLsbD 1 = true → v.getLsbD 0 = false → s.dieState die.toNat = 2 →
      Completes (.diectlRejoin die v) s (fun t => t = { s with diectl := fput s.diectl die.toNat 3 })) ∧
    (v.getLsbD 0 = v.getLsbD 1 ∨ (v.getLsbD 0 = true ∧ s.dieState die.toNat ≠ 0) ∨ (v.getLsbD 1 = true ∧ s.dieState die.toNat ≠ 2) →
      exec (.diectlFence die v) s = .next s ∧ exec (.diectlRejoin die v) s = .next s) ∧
    (s.dieState die.toNat = 1 → (s.tick n).dieState die.toNat = 2) ∧
    (s.dieState die.toNat = 3 → Completes (.dieRejoinComplete die) s (fun t => t = { s with diectl := fput s.diectl die.toNat 4 })) ∧
    (s.dieState die.toNat = 4 → Completes (.dieRejoinComplete die) s (fun t => t = { s with diectl := fput s.diectl die.toNat 0 })) ∧
    (s.dieState die.toNat < 3 → exec (.dieRejoinComplete die) s = .next s)

/-! ## Reset, steps, invariants, encodings -/

/-- What reset leaves, and that it meets the two invariants: no task, no ring in use, idle channels, invalid Ephemeris slots, empty slabs, MGATE.IDLE 4,096, TCMP all ones, dies and ports in state 0, stamp 0, event counters off, the clock step and power cap of R402 (register tables of the chapters cited; memory that lists nothing and reads 0 is the model's choice, log entries 4 and 6). -/
def Obligations.ResetState : Prop :=
  let s := State.reset
  Formed s ∧ Ranged s ∧ s.stamp = 0 ∧ s.booted = false ∧ s.pcap.toNat = 3200 ∧ s.crhead = 0 ∧ s.crtail = 0 ∧ s.wdog = 0 ∧ s.mapgen = 0 ∧
  (∀ h, (s.res h).life = .free ∧ (s.res h).task = none ∧ ∀ w : Who, (s.sc w).sregs = [] ∧ (s.sc w).tcmp = BitVec.allOnes 64 ∧ (s.sc w).tstat = 0) ∧
  (∀ k, (s.tile k).slabfe = 0 ∧ (s.tile k).mgate.toNat = 4096 * 256 ∧ (∀ e, s.cur k e = none) ∧
    (∀ b, (s.ring k b).cfg = false) ∧ (∀ c, s.chan k c = Chan.start ∧ (s.chan k c).armed = false) ∧ ∀ i, (fget EphSlot.start (s.tile k).eph i).st = .invalid) ∧
  (∀ c, (s.svc c).fqsize = 0 ∧ (s.svc c).fqhead = 0 ∧ (s.svc c).fqtail = 0 ∧ (s.svc c).nextSeq = 1) ∧
  (∀ d, s.dieState d = 0 ∧ (fget (20 : BitVec 5) s.dvfs d).toNat = 20) ∧ (∀ p, (s.port p).state = 0) ∧
  (∀ k, (fget Counter.start s.counters k).ctl = 0 ∧ (fget Counter.start s.counters k).value = 0) ∧
  (∀ k, (s.eventObj k).live = false ∧ (s.graph k).live = false ∧ (s.cohort k).live = false ∧ (s.comm k).live = false) ∧
  (∀ sl, s.agEntries sl = []) ∧ (∀ a, memByte s.mem a = 0)

/-- R2, R261: every step from a state whose memory, scratchpads and handler buffers stand in canonical form leads to such a state. -/
def Obligations.StepKeepsMemoryForm : Prop := ∀ s t : State, Formed s → step s = .next t → Formed t

/-- R319, R324, R329, R389, R400, R402: every step from a state whose ranged registers hold legal values leads to such a state: PCAP, DVFS, LLCPIN, DIECTL, PORTCTL, FQSIZE, FQBASE, CRSIZE, CRBASE. -/
def Obligations.StepKeepsRegisterRanges : Prop := ∀ s t : State, Ranged s → step s = .next t → Ranged t

/-- R85, R86 and the encoding tables: the word that encodes a well-formed instruction of an instruction set decodes there to that instruction, and the bytes of the word decode to it whatever follows. -/
def Obligations.DecodeEncode : Prop :=
  ∀ (isa : Isa) (i : Instr), i.wf isa = true →
    (isa = .collective → ∃ w, encodeStep i = some w ∧ decodeStep w = .ok i ∧ ∀ rest, decodeBytes isa (leBytes 8 w.toNat ++ rest) = .ok (i, rest)) ∧
    (isa ≠ .collective → ∃ w, encode i = some w ∧ decode isa w = .ok i ∧ ∀ rest, decodeBytes isa (leBytes 4 w.toNat ++ rest) = .ok (i, rest))

/-- Words written out from the encoding tables decode to the instructions they stand for; words that R86 calls illegal are refused. -/
def Obligations.DecodeWords : Prop :=
  decode .scalar 0x04518700 = .ok (.add 5 6 7) ∧ decode .scalar 0x0850BFFD = .ok (.addi 5 2 0x3FFD) ∧ decode .scalar 0x2892403F = .ok (.srai 9 9 63) ∧
  decode .scalar 0x1175C400 = .ok (.ori 23 23 0x400) ∧ decode .scalar 0xDD840E05 = .ok (.tlbi 24 16 14) ∧ decode .scalar 0xDD83C002 = .ok (.resume 24 15 0) ∧
  decode .scalar 0xD0000000 = .ok .rett ∧
  decode .handler 0x96100003 = .ok (.hshf 6 1 0 3) ∧ decode .handler 0x46650000 = .ok (.hadd 6 6 5 0) ∧ decode .handler 0x17600000 = .ok (.hld 7 6 0) ∧
  decode .handler 0x20670000 = .ok (.hst 6 7 0) ∧ decode .handler 0xE0700000 = .ok (.hret 7) ∧
  decode .vector 0 = .ok .nop ∧ decode .matrix 0x54000000 = .ok .matrixEnd ∧ decode .copy 0x34000000 = .ok .copyEnd ∧
  decodeStep 0x2C00000000000000 = .ok (.endl 0) ∧ decodeStep 0x0000000000000001 = .error .reservedField ∧
  decode .scalar 0xFC000000 = .error .unassignedOpcode ∧ decode .scalar 0x045187FF = .error .unassignedFunction ∧
  decode .scalar 0x00000001 = .error .reservedField

/-- R9, R22, R23, R85, R86, R123, R127, R260, R263: the bytes at the program counter of the program whose turn it is, decoded, are what the step executes, over the state in which the fetch has used its translation; where the interlocks hold the instruction the step changes no more than that; a word that does not decode is an illegal instruction; an annulled slot only steps the queue. Collective programs and handler runs execute the word at their position. An agenda gives the turn, lets a well-formed event happen, or lets time pass. -/
def Obligations.StepRunsDecoded : Prop :=
  ∀ (s : State),
    let fetched := fun (w : Who) (isa : Isa) =>
      let a := s.pcOf w
      let u := s.touchFetch w a
      (∀ x i, s.fetchWord w a = .word x → decode isa x = .ok i → (u.stalls w i = false → step s = exec i u) ∧ (u.stalls w i = true → step s = .next u)) ∧
      (∀ x e, s.fetchWord w a = .word x → decode isa x = .error e → step s = exec (.illegalInstruction (x.setWidth 64)) u) ∧
      (∀ f, s.fetchWord w a = .bad f → step s = .next (u.takeFault w .instr f)) ∧
      (s.fetchWord w a = .miss → step s = .next u) ∧
      (∀ tg leaf, s.translate w.tlb (s.asidOf w) (s.classOfWho w) a.toNat .fetch false = .ok tg leaf → s.poisoned tg.pa 4 = false →
        ∃ b0 b1 b2 b3, memRead s.mem tg.pa 4 = [b0, b1, b2, b3] ∧ s.fetchWord w a = .word (leWord b0 b1 b2 b3))
    s.agenda = [] →
      (∀ t e r, s.turn = .eng t e → t < 288 → s.cur t e = some r → r < 8 → Issues s (mkHandle t r) e → fetched (.task (mkHandle t r) e) (engIsa e)) ∧
      (∀ t r, s.turn = .eng t .s → t < 288 → s.cur t .s = some r → r < 8 →
        (let x := s.res (mkHandle t r)
         x.life = .active → x.est .s = 1 → x.s.park = none → x.preempt = false → x.s.bnd = false → x.s.blk < 256 → x.deferred = [] →
           timerReady s.stamp x.sc = false → x.sc.a0 = true → step s = .next (s.advance (.task (mkHandle t r) .s)))) ∧
      (∀ t e, s.turn = .eng t e → t < 288 → s.cur t e = none → step s = exec (.idleEngineWake (BitVec.ofNat 9 t) e) s) ∧
      (∀ c, s.turn = .sv c → c < 8 → (s.svc c).running = true → (s.svc c).stopped = false → fqReady (s.svc c) = false → timerReady s.stamp (s.svc c).sc = false →
        ((s.svc c).sc.a0 = false → fetched (.sv c) .scalar) ∧ ((s.svc c).sc.a0 = true → step s = .next (s.advance (.sv c)))) ∧
      (∀ c w, s.turn = .coll c → c < 1024 → (s.comm c).live = true → (s.comm c).run = .running → (s.comm c).prog[(s.comm c).pos]? = some w →
        (∀ i, decodeStep w = .ok i → step s = exec i s) ∧ (∀ e, decodeStep w = .error e → step s = exec (.illegalInstruction w) s)) ∧
      (∀ k r w i, s.turn = .near k → k < 64 → fget none s.hruns k = some r → r.prog[r.idx]? = some w → decode .handler w = .ok i → step s = exec i s) ∧
      (∀ rest a, step { s with agenda := .turn a :: rest, turn := a } = ({ s with agenda := rest, turn := a } : State).issue) ∧
      (∀ a, step { s with agenda := [.turn a] } = step { s with turn := a }) ∧
      (∀ rest i, (i.eventWf = true → step { s with agenda := .event i :: rest } = exec i { s with agenda := rest }) ∧
        (i.eventWf = false → step { s with agenda := .event i :: rest } = .next { s with agenda := rest })) ∧
      (∀ rest n, step { s with agenda := .tick n :: rest } = .next (({ s with agenda := rest } : State).tick n) ∧
        (({ s with agenda := rest } : State).tick n).stamp = s.stamp + BitVec.ofNat 64 n)
end

