-- ==== Sys2Proof/Laws/Dispatch.lean ====
section
/-!
SUPPORT. One equation per instruction: exec is that instruction's meaning.
-/

namespace Sys2Proof.Machine

open Sys2Proof

theorem exec_nop (s : State) : exec (.nop) s = execNop s := rfl
theorem exec_add (d a b : BitVec 6) (s : State) : exec (.add d a b) s = execAdd d a b s := rfl
theorem exec_sub (d a b : BitVec 6) (s : State) : exec (.sub d a b) s = execSub d a b s := rfl
theorem exec_and (d a b : BitVec 6) (s : State) : exec (.and d a b) s = execAnd d a b s := rfl
theorem exec_or (d a b : BitVec 6) (s : State) : exec (.or d a b) s = execOr d a b s := rfl
theorem exec_xor (d a b : BitVec 6) (s : State) : exec (.xor d a b) s = execXor d a b s := rfl
theorem exec_shl (d a b : BitVec 6) (s : State) : exec (.shl d a b) s = execShl d a b s := rfl
theorem exec_shr (d a b : BitVec 6) (s : State) : exec (.shr d a b) s = execShr d a b s := rfl
theorem exec_sra (d a b : BitVec 6) (s : State) : exec (.sra d a b) s = execSra d a b s := rfl
theorem exec_slt (d a b : BitVec 6) (s : State) : exec (.slt d a b) s = execSlt d a b s := rfl
theorem exec_sltu (d a b : BitVec 6) (s : State) : exec (.sltu d a b) s = execSltu d a b s := rfl
theorem exec_mul (d a b : BitVec 6) (s : State) : exec (.mul d a b) s = execMul d a b s := rfl
theorem exec_mulh (d a b : BitVec 6) (s : State) : exec (.mulh d a b) s = execMulh d a b s := rfl
theorem exec_mulhu (d a b : BitVec 6) (s : State) : exec (.mulhu d a b) s = execMulhu d a b s := rfl
theorem exec_div (d a b : BitVec 6) (s : State) : exec (.div d a b) s = execDiv d a b s := rfl
theorem exec_divu (d a b : BitVec 6) (s : State) : exec (.divu d a b) s = execDivu d a b s := rfl
theorem exec_rem (d a b : BitVec 6) (s : State) : exec (.rem d a b) s = execRem d a b s := rfl
theorem exec_remu (d a b : BitVec 6) (s : State) : exec (.remu d a b) s = execRemu d a b s := rfl
theorem exec_min (d a b : BitVec 6) (s : State) : exec (.min d a b) s = execMin d a b s := rfl
theorem exec_max (d a b : BitVec 6) (s : State) : exec (.max d a b) s = execMax d a b s := rfl
theorem exec_minu (d a b : BitVec 6) (s : State) : exec (.minu d a b) s = execMinu d a b s := rfl
theorem exec_maxu (d a b : BitVec 6) (s : State) : exec (.maxu d a b) s = execMaxu d a b s := rfl
theorem exec_clz (d a : BitVec 6) (s : State) : exec (.clz d a) s = execClz d a s := rfl
theorem exec_ctz (d a : BitVec 6) (s : State) : exec (.ctz d a) s = execCtz d a s := rfl
theorem exec_popc (d a : BitVec 6) (s : State) : exec (.popc d a) s = execPopc d a s := rfl
theorem exec_addi (d a : BitVec 6) (i1 : BitVec 14) (s : State) : exec (.addi d a i1) s = execAddi d a i1 s := rfl
theorem exec_andi (d a : BitVec 6) (i1 : BitVec 14) (s : State) : exec (.andi d a i1) s = execAndi d a i1 s := rfl
theorem exec_ori (d a : BitVec 6) (i1 : BitVec 14) (s : State) : exec (.ori d a i1) s = execOri d a i1 s := rfl
theorem exec_xori (d a : BitVec 6) (i1 : BitVec 14) (s : State) : exec (.xori d a i1) s = execXori d a i1 s := rfl
theorem exec_slti (d a : BitVec 6) (i1 : BitVec 14) (s : State) : exec (.slti d a i1) s = execSlti d a i1 s := rfl
theorem exec_sltiu (d a : BitVec 6) (i1 : BitVec 14) (s : State) : exec (.sltiu d a i1) s = execSltiu d a i1 s := rfl
theorem exec_shli (d a s1 : BitVec 6) (s : State) : exec (.shli d a s1) s = execShli d a s1 s := rfl
theorem exec_shri (d a s1 : BitVec 6) (s : State) : exec (.shri d a s1) s = execShri d a s1 s := rfl
theorem exec_srai (d a s1 : BitVec 6) (s : State) : exec (.srai d a s1) s = execSrai d a s1 s := rfl
theorem exec_muli (d a : BitVec 6) (i1 : BitVec 14) (s : State) : exec (.muli d a i1) s = execMuli d a i1 s := rfl
theorem exec_lui (d : BitVec 6) (i1 : BitVec 20) (s : State) : exec (.lui d i1) s = execLui d i1 s := rfl
theorem exec_addpc (d : BitVec 6) (i1 : BitVec 20) (s : State) : exec (.addpc d i1) s = execAddpc d i1 s := rfl
theorem exec_lds (z : BitVec 2) (d a : BitVec 6) (i1 : BitVec 14) (s : State) : exec (.lds z d a i1) s = execLds z d a i1 s := rfl
theorem exec_sts (z : BitVec 2) (d a : BitVec 6) (i1 : BitVec 14) (s : State) : exec (.sts z d a i1) s = execSts z d a i1 s := rfl
theorem exec_ldg (z : BitVec 2) (d a : BitVec 6) (i1 : BitVec 14) (s : State) : exec (.ldg z d a i1) s = execLdg z d a i1 s := rfl
theorem exec_stg (z : BitVec 2) (d a : BitVec 6) (i1 : BitVec 14) (s : State) : exec (.stg z d a i1) s = execStg z d a i1 s := rfl
theorem exec_ldsZ (d a : BitVec 6) (z : BitVec 2) (s : State) : exec (.ldsZ d a z) s = execLdsZ d a z s := rfl
theorem exec_ldgZ (d a : BitVec 6) (z : BitVec 2) (s : State) : exec (.ldgZ d a z) s = execLdgZ d a z s := rfl
theorem exec_ldgAcq (d a : BitVec 6) (c : BitVec 3) (z : BitVec 2) (s : State) : exec (.ldgAcq d a c z) s = execLdgAcq d a c z s := rfl
theorem exec_ldgAcqZ (d a : BitVec 6) (c : BitVec 3) (z : BitVec 2) (s : State) : exec (.ldgAcqZ d a c z) s = execLdgAcqZ d a c z s := rfl
theorem exec_stgRel (d a : BitVec 6) (c : BitVec 3) (z : BitVec 2) (s : State) : exec (.stgRel d a c z) s = execStgRel d a c z s := rfl
theorem exec_amo (d a b : BitVec 6) (h : BitVec 5) (c : BitVec 3) (s : State) : exec (.amo d a b h c) s = execAmo d a b h c s := rfl
theorem exec_red (a b : BitVec 6) (h : BitVec 5) (c : BitVec 3) (s : State) : exec (.red a b h c) s = execRed a b h c s := rfl
theorem exec_amoq (d a b : BitVec 6) (h : BitVec 5) (c : BitVec 3) (s : State) : exec (.amoq d a b h c) s = execAmoq d a b h c s := rfl
theorem exec_crr (d : BitVec 6) (r : BitVec 14) (s : State) : exec (.crr d r) s = execCrr d r s := rfl
theorem exec_crw (a : BitVec 6) (r : BitVec 14) (s : State) : exec (.crw a r) s = execCrw a r s := rfl
theorem exec_time (d : BitVec 6) (s : State) : exec (.time d) s = execTime d s := rfl
theorem exec_trap (c : BitVec 8) (s : State) : exec (.trap c) s = execTrap c s := rfl
theorem exec_beq (a b : BitVec 6) (n : BitVec 1) (o : BitVec 13) (s : State) : exec (.beq a b n o) s = execBeq a b n o s := rfl
theorem exec_bne (a b : BitVec 6) (n : BitVec 1) (o : BitVec 13) (s : State) : exec (.bne a b n o) s = execBne a b n o s := rfl
theorem exec_blt (a b : BitVec 6) (n : BitVec 1) (o : BitVec 13) (s : State) : exec (.blt a b n o) s = execBlt a b n o s := rfl
theorem exec_bge (a b : BitVec 6) (n : BitVec 1) (o : BitVec 13) (s : State) : exec (.bge a b n o) s = execBge a b n o s := rfl
theorem exec_bltu (a b : BitVec 6) (n : BitVec 1) (o : BitVec 13) (s : State) : exec (.bltu a b n o) s = execBltu a b n o s := rfl
theorem exec_bgeu (a b : BitVec 6) (n : BitVec 1) (o : BitVec 13) (s : State) : exec (.bgeu a b n o) s = execBgeu a b n o s := rfl
theorem exec_jump (n : BitVec 1) (o : BitVec 25) (s : State) : exec (.jump n o) s = execJump n o s := rfl
theorem exec_jal (n : BitVec 1) (o : BitVec 25) (s : State) : exec (.jal n o) s = execJal n o s := rfl
theorem exec_jalr (d a : BitVec 6) (i1 : BitVec 14) (s : State) : exec (.jalr d a i1) s = execJalr d a i1 s := rfl
theorem exec_fork (v m c : BitVec 6) (s : State) : exec (.fork v m c) s = execFork v m c s := rfl
theorem exec_join (s : State) : exec (.join) s = execJoin s := rfl
theorem exec_sEnd (s : State) : exec (.sEnd) s = execSEnd s := rfl
theorem exec_rett (s : State) : exec (.rett) s = execRett s := rfl
theorem exec_ccreate (d a : BitVec 6) (s : State) : exec (.ccreate d a) s = execCcreate d a s := rfl
theorem exec_cjoin (d a : BitVec 6) (s : State) : exec (.cjoin d a) s = execCjoin d a s := rfl
theorem exec_cleave (a : BitVec 6) (s : State) : exec (.cleave a) s = execCleave a s := rfl
theorem exec_bar (a : BitVec 6) (s : State) : exec (.bar a) s = execBar a s := rfl
theorem exec_glaunch (d a b : BitVec 6) (s : State) : exec (.glaunch d a b) s = execGlaunch d a b s := rfl
theorem exec_rdr (d a b : BitVec 6) (s : State) : exec (.rdr d a b) s = execRdr d a b s := rfl
theorem exec_wrr (d a b : BitVec 6) (s : State) : exec (.wrr d a b) s = execWrr d a b s := rfl
theorem exec_resume (d a b : BitVec 6) (s : State) : exec (.resume d a b) s = execResume d a b s := rfl
theorem exec_preempt (d a : BitVec 6) (s : State) : exec (.preempt d a) s = execPreempt d a s := rfl
theorem exec_teardown (d a : BitVec 6) (s : State) : exec (.teardown d a) s = execTeardown d a s := rfl
theorem exec_tlbi (d a b : BitVec 6) (s : State) : exec (.tlbi d a b) s = execTlbi d a b s := rfl
theorem exec_cresume (d a : BitVec 6) (s : State) : exec (.cresume d a) s = execCresume d a s := rfl
theorem exec_cabort (d a : BitVec 6) (s : State) : exec (.cabort d a) s = execCabort d a s := rfl
theorem exec_rinit (o x : BitVec 6) (s : State) : exec (.rinit o x) s = execRinit o x s := rfl
theorem exec_rclaim (o x : BitVec 6) (n : BitVec 10) (s : State) : exec (.rclaim o x n) s = execRclaim o x n s := rfl
theorem exec_rpub (o x : BitVec 6) (n : BitVec 10) (s : State) : exec (.rpub o x n) s = execRpub o x n s := rfl
theorem exec_rwfill (o x : BitVec 6) (n : BitVec 10) (s : State) : exec (.rwfill o x n) s = execRwfill o x n s := rfl
theorem exec_rwfree (o x : BitVec 6) (n : BitVec 10) (s : State) : exec (.rwfree o x n) s = execRwfree o x n s := rfl
theorem exec_rcons (o : BitVec 6) (n : BitVec 10) (s : State) : exec (.rcons o n) s = execRcons o n s := rfl
theorem exec_rread (o x : BitVec 6) (s1 : BitVec 2) (s : State) : exec (.rread o x s1) s = execRread o x s1 s := rfl
theorem exec_raddr (o x : BitVec 6) (s : State) : exec (.raddr o x) s = execRaddr o x s := rfl
theorem exec_wmwait (o x : BitVec 6) (s : State) : exec (.wmwait o x) s = execWmwait o x s := rfl
theorem exec_wmarm (o x : BitVec 6) (p : BitVec 1) (s : State) : exec (.wmarm o x p) s = execWmarm o x p s := rfl
theorem exec_wmread (o x : BitVec 6) (s : State) : exec (.wmread o x) s = execWmread o x s := rfl
theorem exec_wmidle (o : BitVec 6) (s : State) : exec (.wmidle o) s = execWmidle o s := rfl
theorem exec_evsig (x : BitVec 6) (n : BitVec 10) (s : State) : exec (.evsig x n) s = execEvsig x n s := rfl
theorem exec_evsigr (x : BitVec 6) (s : State) : exec (.evsigr x) s = execEvsigr x s := rfl
theorem exec_evwait (x : BitVec 6) (s : State) : exec (.evwait x) s = execEvwait x s := rfl
theorem exec_evread (x : BitVec 6) (s : State) : exec (.evread x) s = execEvread x s := rfl
theorem exec_evset (x : BitVec 6) (s : State) : exec (.evset x) s = execEvset x s := rfl
theorem exec_evsetC (x : BitVec 6) (s : State) : exec (.evsetC x) s = execEvsetC x s := rfl
theorem exec_fenceX (s1 d c : BitVec 3) (s : State) : exec (.fenceX s1 d c) s = execFenceX s1 d c s := rfl
theorem exec_fenceXu (s1 d c : BitVec 3) (s : State) : exec (.fenceXu s1 d c) s = execFenceXu s1 d c s := rfl
theorem exec_sset (o x : BitVec 6) (i1 : BitVec 3) (s : State) : exec (.sset o x i1) s = execSset o x i1 s := rfl
theorem exec_sget (o x : BitVec 6) (i1 : BitVec 3) (s : State) : exec (.sget o x i1) s = execSget o x i1 s := rfl
theorem exec_sbind (o : BitVec 6) (d : BitVec 2) (s : State) : exec (.sbind o d) s = execSbind o d s := rfl
theorem exec_sunbind (o : BitVec 6) (s : State) : exec (.sunbind o) s = execSunbind o s := rfl
theorem exec_ccomm (x : BitVec 6) (s : State) : exec (.ccomm x) s = execCcomm x s := rfl
theorem exec_cstart (x : BitVec 6) (s : State) : exec (.cstart x) s = execCstart x s := rfl
theorem exec_cfree (x : BitVec 6) (s : State) : exec (.cfree x) s = execCfree x s := rfl
theorem exec_vadd (g : BitVec 2) (d a b : BitVec 7) (m : BitVec 3) (s : State) : exec (.vadd g d a b m) s = execVadd g d a b m s := rfl
theorem exec_vsub (g : BitVec 2) (d a b : BitVec 7) (m : BitVec 3) (s : State) : exec (.vsub g d a b m) s = execVsub g d a b m s := rfl
theorem exec_vmul (g : BitVec 2) (d a b : BitVec 7) (m : BitVec 3) (s : State) : exec (.vmul g d a b m) s = execVmul g d a b m s := rfl
theorem exec_vmin (g : BitVec 2) (d a b : BitVec 7) (m : BitVec 3) (s : State) : exec (.vmin g d a b m) s = execVmin g d a b m s := rfl
theorem exec_vmax (g : BitVec 2) (d a b : BitVec 7) (m : BitVec 3) (s : State) : exec (.vmax g d a b m) s = execVmax g d a b m s := rfl
theorem exec_vand (g : BitVec 2) (d a b : BitVec 7) (m : BitVec 3) (s : State) : exec (.vand g d a b m) s = execVand g d a b m s := rfl
theorem exec_vor (g : BitVec 2) (d a b : BitVec 7) (m : BitVec 3) (s : State) : exec (.vor g d a b m) s = execVor g d a b m s := rfl
theorem exec_vxor (g : BitVec 2) (d a b : BitVec 7) (m : BitVec 3) (s : State) : exec (.vxor g d a b m) s = execVxor g d a b m s := rfl
theorem exec_vshl (g : BitVec 2) (d a b : BitVec 7) (m : BitVec 3) (s : State) : exec (.vshl g d a b m) s = execVshl g d a b m s := rfl
theorem exec_vshr (g : BitVec 2) (d a b : BitVec 7) (m : BitVec 3) (s : State) : exec (.vshr g d a b m) s = execVshr g d a b m s := rfl
theorem exec_vsra (g : BitVec 2) (d a b : BitVec 7) (m : BitVec 3) (s : State) : exec (.vsra g d a b m) s = execVsra g d a b m s := rfl
theorem exec_vaddi (g : BitVec 2) (d a : BitVec 7) (i1 : BitVec 10) (s : State) : exec (.vaddi g d a i1) s = execVaddi g d a i1 s := rfl
theorem exec_vshli (g : BitVec 2) (d a : BitVec 7) (s1 : BitVec 5) (s : State) : exec (.vshli g d a s1) s = execVshli g d a s1 s := rfl
theorem exec_vshri (g : BitVec 2) (d a : BitVec 7) (s1 : BitVec 5) (s : State) : exec (.vshri g d a s1) s = execVshri g d a s1 s := rfl
theorem exec_vsrai (g : BitVec 2) (d a : BitVec 7) (s1 : BitVec 5) (s : State) : exec (.vsrai g d a s1) s = execVsrai g d a s1 s := rfl
theorem exec_vbr (c : BitVec 3) (k : BitVec 5) (o : BitVec 18) (s : State) : exec (.vbr c k o) s = execVbr c k o s := rfl
theorem exec_vectorEnd (s : State) : exec (.vectorEnd) s = execVectorEnd s := rfl
theorem exec_vfadd (g : BitVec 2) (d a b : BitVec 7) (m : BitVec 3) (s : State) : exec (.vfadd g d a b m) s = execVfadd g d a b m s := rfl
theorem exec_vfsub (g : BitVec 2) (d a b : BitVec 7) (m : BitVec 3) (s : State) : exec (.vfsub g d a b m) s = execVfsub g d a b m s := rfl
theorem exec_vfmul (g : BitVec 2) (d a b : BitVec 7) (m : BitVec 3) (s : State) : exec (.vfmul g d a b m) s = execVfmul g d a b m s := rfl
theorem exec_vfma (g : BitVec 2) (d a b : BitVec 7) (m : BitVec 3) (s : State) : exec (.vfma g d a b m) s = execVfma g d a b m s := rfl
theorem exec_vfmin (g : BitVec 2) (d a b : BitVec 7) (m : BitVec 3) (s : State) : exec (.vfmin g d a b m) s = execVfmin g d a b m s := rfl
theorem exec_vfmax (g : BitVec 2) (d a b : BitVec 7) (m : BitVec 3) (s : State) : exec (.vfmax g d a b m) s = execVfmax g d a b m s := rfl
theorem exec_vfcmp (g : BitVec 2) (c : BitVec 4) (e : BitVec 3) (a b : BitVec 7) (m : BitVec 3) (s : State) : exec (.vfcmp g c e a b m) s = execVfcmp g c e a b m s := rfl
theorem exec_vicmp (g : BitVec 2) (c : BitVec 4) (e : BitVec 3) (a b : BitVec 7) (m : BitVec 3) (s : State) : exec (.vicmp g c e a b m) s = execVicmp g c e a b m s := rfl
theorem exec_vdadd (g : BitVec 2) (d a b : BitVec 7) (m : BitVec 3) (s : State) : exec (.vdadd g d a b m) s = execVdadd g d a b m s := rfl
theorem exec_vdsub (g : BitVec 2) (d a b : BitVec 7) (m : BitVec 3) (s : State) : exec (.vdsub g d a b m) s = execVdsub g d a b m s := rfl
theorem exec_vdmul (g : BitVec 2) (d a b : BitVec 7) (m : BitVec 3) (s : State) : exec (.vdmul g d a b m) s = execVdmul g d a b m s := rfl
theorem exec_vdfma (g : BitVec 2) (d a b : BitVec 7) (m : BitVec 3) (s : State) : exec (.vdfma g d a b m) s = execVdfma g d a b m s := rfl
theorem exec_vdmin (g : BitVec 2) (d a b : BitVec 7) (m : BitVec 3) (s : State) : exec (.vdmin g d a b m) s = execVdmin g d a b m s := rfl
theorem exec_vdmax (g : BitVec 2) (d a b : BitVec 7) (m : BitVec 3) (s : State) : exec (.vdmax g d a b m) s = execVdmax g d a b m s := rfl
theorem exec_vdcmp (g : BitVec 2) (c : BitVec 4) (e : BitVec 3) (a b : BitVec 7) (m : BitVec 3) (s : State) : exec (.vdcmp g c e a b m) s = execVdcmp g c e a b m s := rfl
theorem exec_vsel (g : BitVec 2) (d a b : BitVec 7) (m : BitVec 3) (s : State) : exec (.vsel g d a b m) s = execVsel g d a b m s := rfl
theorem exec_vdot (g : BitVec 2) (d a b : BitVec 7) (m : BitVec 3) (s : State) : exec (.vdot g d a b m) s = execVdot g d a b m s := rfl
theorem exec_vlmul (g : BitVec 2) (d a b : BitVec 7) (m : BitVec 3) (s : State) : exec (.vlmul g d a b m) s = execVlmul g d a b m s := rfl
theorem exec_vldiv (g : BitVec 2) (d a b : BitVec 7) (m : BitVec 3) (s : State) : exec (.vldiv g d a b m) s = execVldiv g d a b m s := rfl
theorem exec_vlpow (g : BitVec 2) (d : BitVec 7) (p : BitVec 16) (s : State) : exec (.vlpow g d p) s = execVlpow g d p s := rfl
theorem exec_vperm (g : BitVec 2) (d a b : BitVec 7) (m : BitVec 3) (s : State) : exec (.vperm g d a b m) s = execVperm g d a b m s := rfl
theorem exec_vcmpx (g : BitVec 2) (d : BitVec 7) (t e : BitVec 1) (b : BitVec 4) (j : BitVec 3) (s : State) : exec (.vcmpx g d t e b j) s = execVcmpx g d t e b j s := rfl
theorem exec_vcmpxPayload (g : BitVec 2) (d a : BitVec 7) (t e : BitVec 1) (b : BitVec 4) (j : BitVec 3) (s : State) : exec (.vcmpxPayload g d a t e b j) s = execVcmpxPayload g d a t e b j s := rfl
theorem exec_vbcast (g : BitVec 2) (d : BitVec 7) (k : BitVec 5) (s : State) : exec (.vbcast g d k) s = execVbcast g d k s := rfl
theorem exec_vbcastD (g : BitVec 2) (d : BitVec 7) (k : BitVec 5) (s : State) : exec (.vbcastD g d k) s = execVbcastD g d k s := rfl
theorem exec_vextr (g : BitVec 2) (d : BitVec 5) (a l : BitVec 7) (s : State) : exec (.vextr g d a l) s = execVextr g d a l s := rfl
theorem exec_vextrD (g : BitVec 2) (d : BitVec 5) (a l : BitVec 7) (s : State) : exec (.vextrD g d a l) s = execVextrD g d a l s := rfl
theorem exec_vlds (g : BitVec 2) (d : BitVec 7) (k : BitVec 5) (w : BitVec 3) (o : BitVec 9) (s : State) : exec (.vlds g d k w o) s = execVlds g d k w o s := rfl
theorem exec_vsts (g : BitVec 2) (d : BitVec 7) (k : BitVec 5) (w : BitVec 3) (o : BitVec 9) (s : State) : exec (.vsts g d k w o) s = execVsts g d k w o s := rfl
theorem exec_vldg (g : BitVec 2) (d : BitVec 7) (k : BitVec 5) (w : BitVec 3) (o : BitVec 9) (s : State) : exec (.vldg g d k w o) s = execVldg g d k w o s := rfl
theorem exec_vstg (g : BitVec 2) (d : BitVec 7) (k : BitVec 5) (w : BitVec 3) (o : BitVec 9) (s : State) : exec (.vstg g d k w o) s = execVstg g d k w o s := rfl
theorem exec_vslr (g : BitVec 2) (d : BitVec 7) (z : BitVec 5) (w : BitVec 3) (h : BitVec 1) (r : BitVec 5) (s : State) : exec (.vslr g d z w h r) s = execVslr g d z w h r s := rfl
theorem exec_vslw (g : BitVec 2) (d : BitVec 7) (z : BitVec 5) (w : BitVec 3) (h : BitVec 1) (r : BitVec 5) (s : State) : exec (.vslw g d z w h r) s = execVslw g d z w h r s := rfl
theorem exec_vcvt (g : BitVec 2) (d a : BitVec 7) (t s1 : BitVec 4) (r : BitVec 2) (s : State) : exec (.vcvt g d a t s1 r) s = execVcvt g d a t s1 r s := rfl
theorem exec_vcvtSr (g : BitVec 2) (d a : BitVec 7) (t s1 : BitVec 4) (r : BitVec 2) (s : State) : exec (.vcvtSr g d a t s1 r) s = execVcvtSr g d a t s1 r s := rfl
theorem exec_vgaths (g : BitVec 2) (d x : BitVec 7) (k : BitVec 5) (w : BitVec 3) (m : BitVec 2) (s : State) : exec (.vgaths g d x k w m) s = execVgaths g d x k w m s := rfl
theorem exec_vscats (g : BitVec 2) (d x : BitVec 7) (k : BitVec 5) (w : BitVec 3) (m : BitVec 2) (s : State) : exec (.vscats g d x k w m) s = execVscats g d x k w m s := rfl
theorem exec_vgathg (g : BitVec 2) (d x : BitVec 7) (k : BitVec 5) (w : BitVec 3) (m : BitVec 2) (s : State) : exec (.vgathg g d x k w m) s = execVgathg g d x k w m s := rfl
theorem exec_vscatg (g : BitVec 2) (d x : BitVec 7) (k : BitVec 5) (w : BitVec 3) (m : BitVec 2) (s : State) : exec (.vscatg g d x k w m) s = execVscatg g d x k w m s := rfl
theorem exec_vldsr (g : BitVec 2) (d : BitVec 7) (s1 k : BitVec 5) (w : BitVec 3) (m : BitVec 2) (s : State) : exec (.vldsr g d s1 k w m) s = execVldsr g d s1 k w m s := rfl
theorem exec_vstsr (g : BitVec 2) (d : BitVec 7) (s1 k : BitVec 5) (w : BitVec 3) (m : BitVec 2) (s : State) : exec (.vstsr g d s1 k w m) s = execVstsr g d s1 k w m s := rfl
theorem exec_vldgr (g : BitVec 2) (d : BitVec 7) (s1 k : BitVec 5) (w : BitVec 3) (m : BitVec 2) (s : State) : exec (.vldgr g d s1 k w m) s = execVldgr g d s1 k w m s := rfl
theorem exec_vstgr (g : BitVec 2) (d : BitVec 7) (s1 k : BitVec 5) (w : BitVec 3) (m : BitVec 2) (s : State) : exec (.vstgr g d s1 k w m) s = execVstgr g d s1 k w m s := rfl
theorem exec_waitc (g : BitVec 2) (c : BitVec 3) (n : BitVec 6) (s : State) : exec (.waitc g c n) s = execWaitc g c n s := rfl
theorem exec_vamo (d a : BitVec 7) (k h : BitVec 5) (w : BitVec 2) (s : State) : exec (.vamo d a k h w) s = execVamo d a k h w s := rfl
theorem exec_rep (c : BitVec 6) (d a b : BitVec 3) (z : BitVec 1) (s : State) : exec (.rep c d a b z) s = execRep c d a b z s := rfl
theorem exec_vmov (g : BitVec 2) (d a : BitVec 7) (m : BitVec 2) (s : State) : exec (.vmov g d a m) s = execVmov g d a m s := rfl
theorem exec_vnot (g : BitVec 2) (d a : BitVec 7) (m : BitVec 2) (s : State) : exec (.vnot g d a m) s = execVnot g d a m s := rfl
theorem exec_viabs (g : BitVec 2) (d a : BitVec 7) (m : BitVec 2) (s : State) : exec (.viabs g d a m) s = execViabs g d a m s := rfl
theorem exec_vineg (g : BitVec 2) (d a : BitVec 7) (m : BitVec 2) (s : State) : exec (.vineg g d a m) s = execVineg g d a m s := rfl
theorem exec_vfneg (g : BitVec 2) (d a : BitVec 7) (m : BitVec 2) (s : State) : exec (.vfneg g d a m) s = execVfneg g d a m s := rfl
theorem exec_vfabs (g : BitVec 2) (d a : BitVec 7) (m : BitVec 2) (s : State) : exec (.vfabs g d a m) s = execVfabs g d a m s := rfl
theorem exec_vdneg (g : BitVec 2) (d a : BitVec 7) (m : BitVec 2) (s : State) : exec (.vdneg g d a m) s = execVdneg g d a m s := rfl
theorem exec_vdabs (g : BitVec 2) (d a : BitVec 7) (m : BitVec 2) (s : State) : exec (.vdabs g d a m) s = execVdabs g d a m s := rfl
theorem exec_vclz (g : BitVec 2) (d a : BitVec 7) (m : BitVec 2) (s : State) : exec (.vclz g d a m) s = execVclz g d a m s := rfl
theorem exec_vpopc (g : BitVec 2) (d a : BitVec 7) (m : BitVec 2) (s : State) : exec (.vpopc g d a m) s = execVpopc g d a m s := rfl
theorem exec_vtolog (g : BitVec 2) (d a : BitVec 7) (m : BitVec 2) (s : State) : exec (.vtolog g d a m) s = execVtolog g d a m s := rfl
theorem exec_vfromlog (g : BitVec 2) (d a : BitVec 7) (m : BitVec 2) (s : State) : exec (.vfromlog g d a m) s = execVfromlog g d a m s := rfl
theorem exec_vexp2l (g : BitVec 2) (d a : BitVec 7) (m : BitVec 2) (s : State) : exec (.vexp2l g d a m) s = execVexp2l g d a m s := rfl
theorem exec_vlog2f (g : BitVec 2) (d a : BitVec 7) (m : BitVec 2) (s : State) : exec (.vlog2f g d a m) s = execVlog2f g d a m s := rfl
theorem exec_mand (g : BitVec 2) (d b a : BitVec 3) (s : State) : exec (.mand g d b a) s = execMand g d b a s := rfl
theorem exec_mor (g : BitVec 2) (d b a : BitVec 3) (s : State) : exec (.mor g d b a) s = execMor g d b a s := rfl
theorem exec_mxor (g : BitVec 2) (d b a : BitVec 3) (s : State) : exec (.mxor g d b a) s = execMxor g d b a s := rfl
theorem exec_mandn (g : BitVec 2) (d b a : BitVec 3) (s : State) : exec (.mandn g d b a) s = execMandn g d b a s := rfl
theorem exec_mnot (g : BitVec 2) (d a : BitVec 3) (s : State) : exec (.mnot g d a) s = execMnot g d a s := rfl
theorem exec_mmov (g : BitVec 2) (d a : BitVec 3) (s : State) : exec (.mmov g d a) s = execMmov g d a s := rfl
theorem exec_mpopc (g : BitVec 2) (d : BitVec 5) (a : BitVec 3) (s : State) : exec (.mpopc g d a) s = execMpopc g d a s := rfl
theorem exec_vrsum (g : BitVec 2) (d a : BitVec 7) (m : BitVec 2) (s : State) : exec (.vrsum g d a m) s = execVrsum g d a m s := rfl
theorem exec_vrmin (g : BitVec 2) (d a : BitVec 7) (m : BitVec 2) (s : State) : exec (.vrmin g d a m) s = execVrmin g d a m s := rfl
theorem exec_vrmax (g : BitVec 2) (d a : BitVec 7) (m : BitVec 2) (s : State) : exec (.vrmax g d a m) s = execVrmax g d a m s := rfl
theorem exec_vrfsum (g : BitVec 2) (d a : BitVec 7) (m : BitVec 2) (s : State) : exec (.vrfsum g d a m) s = execVrfsum g d a m s := rfl
theorem exec_vrfmin (g : BitVec 2) (d a : BitVec 7) (m : BitVec 2) (s : State) : exec (.vrfmin g d a m) s = execVrfmin g d a m s := rfl
theorem exec_vrfmax (g : BitVec 2) (d a : BitVec 7) (m : BitVec 2) (s : State) : exec (.vrfmax g d a m) s = execVrfmax g d a m s := rfl
theorem exec_vrdsum (g : BitVec 2) (d a : BitVec 7) (m : BitVec 2) (s : State) : exec (.vrdsum g d a m) s = execVrdsum g d a m s := rfl
theorem exec_vrdmin (g : BitVec 2) (d a : BitVec 7) (m : BitVec 2) (s : State) : exec (.vrdmin g d a m) s = execVrdmin g d a m s := rfl
theorem exec_vrdmax (g : BitVec 2) (d a : BitVec 7) (m : BitVec 2) (s : State) : exec (.vrdmax g d a m) s = execVrdmax g d a m s := rfl
theorem exec_kmov (g : BitVec 2) (d a : BitVec 5) (s : State) : exec (.kmov g d a) s = execKmov g d a s := rfl
theorem exec_kadd (g : BitVec 2) (d a : BitVec 5) (s : State) : exec (.kadd g d a) s = execKadd g d a s := rfl
theorem exec_ksub (g : BitVec 2) (d a : BitVec 5) (s : State) : exec (.ksub g d a) s = execKsub g d a s := rfl
theorem exec_vpackE3m2 (g : BitVec 2) (s1 : BitVec 3) (d a : BitVec 7) (s : State) : exec (.vpackE3m2 g s1 d a) s = execVpackE3m2 g s1 d a s := rfl
theorem exec_vunpkE3m2 (g : BitVec 2) (s1 : BitVec 3) (d a : BitVec 7) (s : State) : exec (.vunpkE3m2 g s1 d a) s = execVunpkE3m2 g s1 d a s := rfl
theorem exec_vpack (g w : BitVec 2) (s1 : BitVec 4) (d a : BitVec 7) (s : State) : exec (.vpack g w s1 d a) s = execVpack g w s1 d a s := rfl
theorem exec_vunpk (g w : BitVec 2) (s1 : BitVec 4) (d a : BitVec 7) (s : State) : exec (.vunpk g w s1 d a) s = execVunpk g w s1 d a s := rfl
theorem exec_mma (z : BitVec 5) (a b n : BitVec 4) (i1 r : BitVec 1) (s : State) : exec (.mma z a b n i1 r) s = execMma z a b n i1 r s := rfl
theorem exec_mmas (z : BitVec 5) (a b n : BitVec 4) (s1 i1 r : BitVec 1) (s : State) : exec (.mmas z a b n s1 i1 r) s = execMmas z a b n s1 i1 r s := rfl
theorem exec_sbp (z : BitVec 5) (a b n : BitVec 4) (i1 r : BitVec 1) (s : State) : exec (.sbp z a b n i1 r) s = execSbp z a b n i1 r s := rfl
theorem exec_ephb (b n : BitVec 4) (s : State) : exec (.ephb b n) s = execEphb b n s := rfl
theorem exec_ephl (b n : BitVec 4) (s : State) : exec (.ephl b n) s = execEphl b n s := rfl
theorem exec_ephs (b n : BitVec 4) (s : State) : exec (.ephs b n) s = execEphs b n s := rfl
theorem exec_mzero (z : BitVec 5) (r : BitVec 1) (s : State) : exec (.mzero z r) s = execMzero z r s := rfl
theorem exec_fft2 (a b n : BitVec 4) (s1 : BitVec 2) (i1 : BitVec 1) (s : State) : exec (.fft2 a b n s1 i1) s = execFft2 a b n s1 i1 s := rfl
theorem exec_fft3 (a b n : BitVec 4) (s1 : BitVec 2) (i1 : BitVec 1) (s : State) : exec (.fft3 a b n s1 i1) s = execFft3 a b n s1 i1 s := rfl
theorem exec_fft4 (a b n : BitVec 4) (s1 : BitVec 2) (i1 : BitVec 1) (s : State) : exec (.fft4 a b n s1 i1) s = execFft4 a b n s1 i1 s := rfl
theorem exec_fft5 (a b n : BitVec 4) (s1 : BitVec 2) (i1 : BitVec 1) (s : State) : exec (.fft5 a b n s1 i1) s = execFft5 a b n s1 i1 s := rfl
theorem exec_leg (z : BitVec 5) (a b n : BitVec 4) (i1 y r : BitVec 1) (s : State) : exec (.leg z a b n i1 y r) s = execLeg z a b n i1 y r s := rfl
theorem exec_legi (a b n : BitVec 4) (s : State) : exec (.legi a b n) s = execLegi a b n s := rfl
theorem exec_macq (z : BitVec 5) (s : State) : exec (.macq z) s = execMacq z s := rfl
theorem exec_mrel (z : BitVec 5) (s : State) : exec (.mrel z) s = execMrel z s := rfl
theorem exec_nadd (d a b : BitVec 4) (s : State) : exec (.nadd d a b) s = execNadd d a b s := rfl
theorem exec_nsub (d a b : BitVec 4) (s : State) : exec (.nsub d a b) s = execNsub d a b s := rfl
theorem exec_nand (d a b : BitVec 4) (s : State) : exec (.nand d a b) s = execNand d a b s := rfl
theorem exec_nor (d a b : BitVec 4) (s : State) : exec (.nor d a b) s = execNor d a b s := rfl
theorem exec_nxor (d a b : BitVec 4) (s : State) : exec (.nxor d a b) s = execNxor d a b s := rfl
theorem exec_nshl (d a b : BitVec 4) (s : State) : exec (.nshl d a b) s = execNshl d a b s := rfl
theorem exec_nshr (d a b : BitVec 4) (s : State) : exec (.nshr d a b) s = execNshr d a b s := rfl
theorem exec_nsra (d a b : BitVec 4) (s : State) : exec (.nsra d a b) s = execNsra d a b s := rfl
theorem exec_nmul (d a b : BitVec 4) (s : State) : exec (.nmul d a b) s = execNmul d a b s := rfl
theorem exec_nmin (d a b : BitVec 4) (s : State) : exec (.nmin d a b) s = execNmin d a b s := rfl
theorem exec_nmax (d a b : BitVec 4) (s : State) : exec (.nmax d a b) s = execNmax d a b s := rfl
theorem exec_nminu (d a b : BitVec 4) (s : State) : exec (.nminu d a b) s = execNminu d a b s := rfl
theorem exec_nmaxu (d a b : BitVec 4) (s : State) : exec (.nmaxu d a b) s = execNmaxu d a b s := rfl
theorem exec_naddi (d a : BitVec 4) (i1 : BitVec 18) (s : State) : exec (.naddi d a i1) s = execNaddi d a i1 s := rfl
theorem exec_nseth (d a : BitVec 4) (p : BitVec 2) (v : BitVec 16) (s : State) : exec (.nseth d a p v) s = execNseth d a p v s := rfl
theorem exec_nget (d : BitVec 4) (s1 : BitVec 18) (s : State) : exec (.nget d s1) s = execNget d s1 s := rfl
theorem exec_mbr (c : BitVec 3) (a : BitVec 4) (o : BitVec 19) (s : State) : exec (.mbr c a o) s = execMbr c a o s := rfl
theorem exec_matrixEnd (s : State) : exec (.matrixEnd) s = execMatrixEnd s := rfl
theorem exec_mwake (s : State) : exec (.mwake) s = execMwake s := rfl
theorem exec_cadd (d a b : BitVec 5) (s : State) : exec (.cadd d a b) s = execCadd d a b s := rfl
theorem exec_csub (d a b : BitVec 5) (s : State) : exec (.csub d a b) s = execCsub d a b s := rfl
theorem exec_cand (d a b : BitVec 5) (s : State) : exec (.cand d a b) s = execCand d a b s := rfl
theorem exec_cor (d a b : BitVec 5) (s : State) : exec (.cor d a b) s = execCor d a b s := rfl
theorem exec_cxor (d a b : BitVec 5) (s : State) : exec (.cxor d a b) s = execCxor d a b s := rfl
theorem exec_cshl (d a b : BitVec 5) (s : State) : exec (.cshl d a b) s = execCshl d a b s := rfl
theorem exec_cshr (d a b : BitVec 5) (s : State) : exec (.cshr d a b) s = execCshr d a b s := rfl
theorem exec_csra (d a b : BitVec 5) (s : State) : exec (.csra d a b) s = execCsra d a b s := rfl
theorem exec_cmul (d a b : BitVec 5) (s : State) : exec (.cmul d a b) s = execCmul d a b s := rfl
theorem exec_cmin (d a b : BitVec 5) (s : State) : exec (.cmin d a b) s = execCmin d a b s := rfl
theorem exec_cmax (d a b : BitVec 5) (s : State) : exec (.cmax d a b) s = execCmax d a b s := rfl
theorem exec_cminu (d a b : BitVec 5) (s : State) : exec (.cminu d a b) s = execCminu d a b s := rfl
theorem exec_cmaxu (d a b : BitVec 5) (s : State) : exec (.cmaxu d a b) s = execCmaxu d a b s := rfl
theorem exec_caddi (d a : BitVec 5) (i1 : BitVec 12) (s : State) : exec (.caddi d a i1) s = execCaddi d a i1 s := rfl
theorem exec_cseth (d a : BitVec 5) (i1 : BitVec 12) (s : State) : exec (.cseth d a i1) s = execCseth d a i1 s := rfl
theorem exec_copy (h : BitVec 4) (d a b : BitVec 5) (n k t s1 : BitVec 1) (s : State) : exec (.copy h d a b n k t s1) s = execCopy h d a b n k t s1 s := rfl
theorem exec_copy2d (h : BitVec 4) (d a b : BitVec 5) (n k t s1 : BitVec 1) (s : State) : exec (.copy2d h d a b n k t s1) s = execCopy2d h d a b n k t s1 s := rfl
theorem exec_cgath (h : BitVec 4) (d a b : BitVec 5) (e : BitVec 2) (n k t s1 : BitVec 1) (s : State) : exec (.cgath h d a b e n k t s1) s = execCgath h d a b e n k t s1 s := rfl
theorem exec_cscat (d a b : BitVec 5) (e : BitVec 2) (n t s1 : BitVec 1) (s : State) : exec (.cscat d a b e n t s1) s = execCscat d a b e n t s1 s := rfl
theorem exec_fill (h : BitVec 4) (d a b : BitVec 5) (n k t : BitVec 1) (s : State) : exec (.fill h d a b n k t) s = execFill h d a b n k t s := rfl
theorem exec_pref (a b : BitVec 5) (s : State) : exec (.pref a b) s = execPref a b s := rfl
theorem exec_clds (d a : BitVec 5) (i1 : BitVec 12) (s : State) : exec (.clds d a i1) s = execClds d a i1 s := rfl
theorem exec_cldg (d a : BitVec 5) (i1 : BitVec 12) (s : State) : exec (.cldg d a i1) s = execCldg d a i1 s := rfl
theorem exec_cbr (c : BitVec 3) (k : BitVec 5) (o : BitVec 18) (s : State) : exec (.cbr c k o) s = execCbr c k o s := rfl
theorem exec_copyEnd (s : State) : exec (.copyEnd) s = execCopyEnd s := rfl
theorem exec_collNop (s : State) : exec (.collNop) s = execCollNop s := rfl
theorem exec_send (ls : BitVec 2) (pa : BitVec 8) (pb : BitVec 20) (buf : BitVec 4) (wide : Bool) (ba : BitVec 8) (bb : BitVec 12) (s : State) : exec (.send ls pa pb buf wide ba bb) s = execSend ls pa pb buf wide ba bb s := rfl
theorem exec_recv (ls : BitVec 2) (pa : BitVec 8) (pb : BitVec 20) (buf : BitVec 4) (ba : BitVec 8) (bb : BitVec 12) (s : State) : exec (.recv ls pa pb buf ba bb) s = execRecv ls pa pb buf ba bb s := rfl
theorem exec_rrs (ls : BitVec 2) (pa : BitVec 8) (pb : BitVec 20) (buf : BitVec 4) (fwd : Bool) (ba : BitVec 8) (bb : BitVec 12) (s : State) : exec (.rrs ls pa pb buf fwd ba bb) s = execRrs ls pa pb buf fwd ba bb s := rfl
theorem exec_rrf (ls : BitVec 2) (pa : BitVec 8) (pb : BitVec 20) (buf : BitVec 4) (ba : BitVec 8) (bb : BitVec 12) (s : State) : exec (.rrf ls pa pb buf ba bb) s = execRrf ls pa pb buf ba bb s := rfl
theorem exec_collCopy (ls : BitVec 2) (dst src : BitVec 4) (ba : BitVec 8) (bb : BitVec 12) (s : State) : exec (.collCopy ls dst src ba bb) s = execCollCopy ls dst src ba bb s := rfl
theorem exec_bcast (buf : BitVec 4) (root : BitVec 20) (s : State) : exec (.bcast buf root) s = execBcast buf root s := rfl
theorem exec_xpose (buf : BitVec 4) (s : State) : exec (.xpose buf) s = execXpose buf s := rfl
theorem exec_wait (buf : BitVec 4) (n : BitVec 24) (s : State) : exec (.wait buf n) s = execWait buf n s := rfl
theorem exec_signal (buf : BitVec 4) (n : BitVec 24) (s : State) : exec (.signal buf n) s = execSignal buf n s := rfl
theorem exec_loop (ls : BitVec 2) (limit : BitVec 24) (s : State) : exec (.loop ls limit) s = execLoop ls limit s := rfl
theorem exec_endl (ls : BitVec 2) (s : State) : exec (.endl ls) s = execEndl ls s := rfl
theorem exec_hnop (s : State) : exec (.hnop) s = execHnop s := rfl
theorem exec_hld (d a : BitVec 4) (i1 : BitVec 16) (s : State) : exec (.hld d a i1) s = execHld d a i1 s := rfl
theorem exec_hst (a b : BitVec 4) (i1 : BitVec 16) (s : State) : exec (.hst a b i1) s = execHst a b i1 s := rfl
theorem exec_hli (d : BitVec 4) (i1 : BitVec 16) (s : State) : exec (.hli d i1) s = execHli d i1 s := rfl
theorem exec_hlis (d : BitVec 4) (i1 : BitVec 16) (s : State) : exec (.hlis d i1) s = execHlis d i1 s := rfl
theorem exec_hadd (d a b : BitVec 4) (i1 : BitVec 16) (s : State) : exec (.hadd d a b i1) s = execHadd d a b i1 s := rfl
theorem exec_hsub (d a b : BitVec 4) (s : State) : exec (.hsub d a b) s = execHsub d a b s := rfl
theorem exec_hand (d a b : BitVec 4) (s : State) : exec (.hand d a b) s = execHand d a b s := rfl
theorem exec_hor (d a b : BitVec 4) (s : State) : exec (.hor d a b) s = execHor d a b s := rfl
theorem exec_hxor (d a b : BitVec 4) (s : State) : exec (.hxor d a b) s = execHxor d a b s := rfl
theorem exec_hshf (d a : BitVec 4) (k : BitVec 2) (n : BitVec 6) (s : State) : exec (.hshf d a k n) s = execHshf d a k n s := rfl
theorem exec_hfadd (d a b : BitVec 4) (f : BitVec 1) (s : State) : exec (.hfadd d a b f) s = execHfadd d a b f s := rfl
theorem exec_hcmp (d a b : BitVec 4) (c : BitVec 3) (s : State) : exec (.hcmp d a b c) s = execHcmp d a b c s := rfl
theorem exec_hsel (d a b : BitVec 4) (s : State) : exec (.hsel d a b) s = execHsel d a b s := rfl
theorem exec_hbr (c a : BitVec 4) (i1 : BitVec 16) (s : State) : exec (.hbr c a i1) s = execHbr c a i1 s := rfl
theorem exec_hret (a : BitVec 4) (s : State) : exec (.hret a) s = execHret a s := rfl
theorem exec_hfail (a : BitVec 4) (s : State) : exec (.hfail a) s = execHfail a s := rfl
theorem exec_blockLimit (t : Tid) (e : Eng) (s : State) : exec (.blockLimit t e) s = execBlockLimit t e s := rfl
theorem exec_unsettledLimit (p : Prog) (s : State) : exec (.unsettledLimit p) s = execUnsettledLimit p s := rfl
theorem exec_clockGate (t : Tid) (e : Eng) (s : State) : exec (.clockGate t e) s = execClockGate t e s := rfl
theorem exec_idleEngineWake (t : Tid) (e : Eng) (s : State) : exec (.idleEngineWake t e) s = execIdleEngineWake t e s := rfl
theorem exec_subarrayGate (t : Tid) (i1 : BitVec 2) (s : State) : exec (.subarrayGate t i1) s = execSubarrayGate t i1 s := rfl
theorem exec_datapathComplete (t : Tid) (s : State) : exec (.datapathComplete t) s = execDatapathComplete t s := rfl
theorem exec_transferComplete (t : Tid) (s : State) : exec (.transferComplete t) s = execTransferComplete t s := rfl
theorem exec_vectorAccessComplete (id : Nat) (lanes : BitVec 128) (data : BitVec 4096) (s : State) : exec (.vectorAccessComplete id lanes data) s = execVectorAccessComplete id lanes data s := rfl
theorem exec_loadComplete (id : Nat) (data : BitVec 64) (s : State) : exec (.loadComplete id data) s = execLoadComplete id data s := rfl
theorem exec_streamFetch (h : Rh) (q : BitVec 3) (s : State) : exec (.streamFetch h q) s = execStreamFetch h q s := rfl
theorem exec_streamStore (h : Rh) (q : BitVec 3) (s : State) : exec (.streamStore h q) s = execStreamStore h q s := rfl
theorem exec_timerExpiry (p : Prog) (s : State) : exec (.timerExpiry p) s = execTimerExpiry p s := rfl
theorem exec_timerInterrupt (p : Prog) (s : State) : exec (.timerInterrupt p) s = execTimerInterrupt p s := rfl
theorem exec_tcmpWrite (p : Prog) (v : BitVec 64) (s : State) : exec (.tcmpWrite p v) s = execTcmpWrite p v s := rfl
theorem exec_rctlWrite (h : Rh) (v : BitVec 64) (s : State) : exec (.rctlWrite h v) s = execRctlWrite h v s := rfl
theorem exec_rngWrite (h : Rh) (v : BitVec 64) (s : State) : exec (.rngWrite h v) s = execRngWrite h v s := rfl
theorem exec_deferredFaultDelivery (h : Rh) (s : State) : exec (.deferredFaultDelivery h) s = execDeferredFaultDelivery h s := rfl
theorem exec_watchdog (h : Rh) (e : Eng) (s : State) : exec (.watchdog h e) s = execWatchdog h e s := rfl
theorem exec_faultRecordWrite (core : BitVec 3) (s : State) : exec (.faultRecordWrite core) s = execFaultRecordWrite core s := rfl
theorem exec_faultQueueInterrupt (core : BitVec 3) (s : State) : exec (.faultQueueInterrupt core) s = execFaultQueueInterrupt core s := rfl
theorem exec_fqheadWrite (core : BitVec 3) (v : BitVec 64) (s : State) : exec (.fqheadWrite core v) s = execFqheadWrite core v s := rfl
theorem exec_faultQueueConfigWrite (core : BitVec 3) (size : Bool) (v : BitVec 64) (s : State) : exec (.faultQueueConfigWrite core size v) s = execFaultQueueConfigWrite core size v s := rfl
theorem exec_supervisorFaultTrap (core : BitVec 3) (code : BitVec 8) (addr : BitVec 64) (s : State) : exec (.supervisorFaultTrap core code addr) s = execSupervisorFaultTrap core code addr s := rfl
theorem exec_supervisorRestart (core : BitVec 3) (s : State) : exec (.supervisorRestart core) s = execSupervisorRestart core s := rfl
theorem exec_placeTask (s : State) : exec (.placeTask) s = execPlaceTask s := rfl
theorem exec_loadingComplete (h : Rh) (s : State) : exec (.loadingComplete h) s = execLoadingComplete h s := rfl
theorem exec_resumeSavedTask (s : State) : exec (.resumeSavedTask) s = execResumeSavedTask s := rfl
theorem exec_restoreContext (h : Rh) (s : State) : exec (.restoreContext h) s = execRestoreContext h s := rfl
theorem exec_saveContext (h : Rh) (s : State) : exec (.saveContext h) s = execSaveContext h s := rfl
theorem exec_drain (h : Rh) (s : State) : exec (.drain h) s = execDrain h s := rfl
theorem exec_deferredSupervisorWrite (h : Rh) (s : State) : exec (.deferredSupervisorWrite h) s = execDeferredSupervisorWrite h s := rfl
theorem exec_orreryPreempt (s : State) : exec (.orreryPreempt) s = execOrreryPreempt s := rfl
theorem exec_replayStart (g : Nat) (s : State) : exec (.replayStart g) s = execReplayStart g s := rfl
theorem exec_nodeReady (g n : Nat) (s : State) : exec (.nodeReady g n) s = execNodeReady g n s := rfl
theorem exec_nodeComplete (g n : Nat) (s : State) : exec (.nodeComplete g n) s = execNodeComplete g n s := rfl
theorem exec_taskReplay (k : Nat) (s : State) : exec (.taskReplay k) s = execTaskReplay k s := rfl
theorem exec_eventUpdate (k : Nat) (s : State) : exec (.eventUpdate k) s = execEventUpdate k s := rfl
theorem exec_registerGraph (s : State) : exec (.registerGraph) s = execRegisterGraph s := rfl
theorem exec_destroyGraph (s : State) : exec (.destroyGraph) s = execDestroyGraph s := rfl
theorem exec_createEvent (s : State) : exec (.createEvent) s = execCreateEvent s := rfl
theorem exec_destroyEvent (s : State) : exec (.destroyEvent) s = execDestroyEvent s := rfl
theorem exec_launch (s : State) : exec (.launch) s = execLaunch s := rfl
theorem exec_bindCompletionEvent (s : State) : exec (.bindCompletionEvent) s = execBindCompletionEvent s := rfl
theorem exec_commandRingConfigWrite (size : Bool) (v : BitVec 64) (s : State) : exec (.commandRingConfigWrite size v) s = execCommandRingConfigWrite size v s := rfl
theorem exec_remoteRequest (k : Nat) (s : State) : exec (.remoteRequest k) s = execRemoteRequest k s := rfl
theorem exec_remoteResponse (k : Nat) (s : State) : exec (.remoteResponse k) s = execRemoteResponse k s := rfl
theorem exec_ownerBusyResend (id : Nat) (s : State) : exec (.ownerBusyResend id) s = execOwnerBusyResend id s := rfl
theorem exec_standaloneAck (h : Rh) (owner : BitVec 10) (s : State) : exec (.standaloneAck h owner) s = execStandaloneAck h owner s := rfl
theorem exec_acknowledgement (k : Nat) (s : State) : exec (.acknowledgement k) s = execAcknowledgement k s := rfl
theorem exec_retireAll (k : Nat) (s : State) : exec (.retireAll k) s = execRetireAll k s := rfl
theorem exec_storeCommit (id : Nat) (s : State) : exec (.storeCommit id) s = execStoreCommit id s := rfl
theorem exec_wcBufferIssue (k : Nat) (s : State) : exec (.wcBufferIssue k) s = execWcBufferIssue k s := rfl
theorem exec_walkComplete (k : Nat) (s : State) : exec (.walkComplete k) s = execWalkComplete k s := rfl
theorem exec_uncorrectableError (e : ErrorPlace) (s : State) : exec (.uncorrectableError e) s = execUncorrectableError e s := rfl
theorem exec_regionRetirement (region : Nat) (s : State) : exec (.regionRetirement region) s = execRegionRetirement region s := rfl
theorem exec_flitRetry (link : BitVec 8) (again : Bool) (s : State) : exec (.flitRetry link again) s = execFlitRetry link again s := rfl
theorem exec_linkFence (link : BitVec 8) (s : State) : exec (.linkFence link) s = execLinkFence link s := rfl
theorem exec_diectlFence (die : BitVec 2) (v : BitVec 64) (s : State) : exec (.diectlFence die v) s = execDiectlFence die v s := rfl
theorem exec_diectlRejoin (die : BitVec 2) (v : BitVec 64) (s : State) : exec (.diectlRejoin die v) s = execDiectlRejoin die v s := rfl
theorem exec_llcpinWrite (q : BitVec 2) (v : BitVec 64) (s : State) : exec (.llcpinWrite q v) s = execLlcpinWrite q v s := rfl
theorem exec_chunkSend (q : BitVec 2) (s : State) : exec (.chunkSend q) s = execChunkSend q s := rfl
theorem exec_chunkArrival (k : Nat) (s : State) : exec (.chunkArrival k) s = execChunkArrival k s := rfl
theorem exec_creditReturn (k : Nat) (s : State) : exec (.creditReturn k) s = execCreditReturn k s := rfl
theorem exec_flush (c : Nat) (s : State) : exec (.flush c) s = execFlush c s := rfl
theorem exec_collectiveWatchdog (c : Nat) (s : State) : exec (.collectiveWatchdog c) s = execCollectiveWatchdog c s := rfl
theorem exec_packetArrival (p : Packet) (s : State) : exec (.packetArrival p) s = execPacketArrival p s := rfl
theorem exec_transportAck (peer : BitVec 10) (cum : BitVec 32) (sel : BitVec 64) (s : State) : exec (.transportAck peer cum sel) s = execTransportAck peer cum sel s := rfl
theorem exec_retransmitTimeout (peer : BitVec 10) (seq : BitVec 32) (s : State) : exec (.retransmitTimeout peer seq) s = execRetransmitTimeout peer seq s := rfl
theorem exec_routeLost (peer : BitVec 10) (seq : BitVec 32) (port : BitVec 6) (s : State) : exec (.routeLost peer seq port) s = execRouteLost peer seq port s := rfl
theorem exec_codewordReplay (lane : BitVec 12) (again : Replay) (s : State) : exec (.codewordReplay lane again) s = execCodewordReplay lane again s := rfl
theorem exec_portDown (port : BitVec 6) (s : State) : exec (.portDown port) s = execPortDown port s := rfl
theorem exec_prep (port : BitVec 6) (v : BitVec 64) (s : State) : exec (.prep port v) s = execPrep port v s := rfl
theorem exec_enable (port : BitVec 6) (v : BitVec 64) (s : State) : exec (.enable port v) s = execEnable port v s := rfl
theorem exec_portDrained (port : BitVec 6) (s : State) : exec (.portDrained port) s = execPortDrained port s := rfl
theorem exec_trainingComplete (port : BitVec 6) (peer : BitVec 10) (inc : BitVec 16) (s : State) : exec (.trainingComplete port peer inc) s = execTrainingComplete port peer inc s := rfl
theorem exec_laneRemap (v : BitVec 64) (s : State) : exec (.laneRemap v) s = execLaneRemap v s := rfl
theorem exec_telemetryLatch (s : State) : exec (.telemetryLatch) s = execTelemetryLatch s := rfl
theorem exec_hostWrite (port bar0 : Bool) (pa : BitVec 40) (bytes : List (BitVec 8)) (ro : Bool) (s : State) : exec (.hostWrite port bar0 pa bytes ro) s = execHostWrite port bar0 pa bytes ro s := rfl
theorem exec_hostRead (port bar0 : Bool) (pa : BitVec 40) (n : Nat) (s : State) : exec (.hostRead port bar0 pa n) s = execHostRead port bar0 pa n s := rfl
theorem exec_hostAtomic (port : Bool) (pa : BitVec 40) (h : BitVec 5) (op0 op1 : BitVec 128) (s : State) : exec (.hostAtomic port pa h op0 op1) s = execHostAtomic port pa h op0 op1 s := rfl
theorem exec_hostCompletionTimeout (id : Nat) (s : State) : exec (.hostCompletionTimeout id) s = execHostCompletionTimeout id s := rfl
theorem exec_boot (s : State) : exec (.boot) s = execBoot s := rfl
theorem exec_loadHandlerSlot (core : BitVec 3) (s : State) : exec (.loadHandlerSlot core) s = execLoadHandlerSlot core s := rfl
theorem exec_writeAsidEntry (core : BitVec 3) (s : State) : exec (.writeAsidEntry core) s = execWriteAsidEntry core s := rfl
theorem exec_writeAccessRight (core : BitVec 3) (s : State) : exec (.writeAccessRight core) s = execWriteAccessRight core s := rfl
theorem exec_fenceDieCall (core : BitVec 3) (s : State) : exec (.fenceDieCall core) s = execFenceDieCall core s := rfl
theorem exec_rejoinDieCall (core : BitVec 3) (s : State) : exec (.rejoinDieCall core) s = execRejoinDieCall core s := rfl
theorem exec_writeLlcpin (core : BitVec 3) (s : State) : exec (.writeLlcpin core) s = execWriteLlcpin core s := rfl
theorem exec_retireHbmRegion (core : BitVec 3) (s : State) : exec (.retireHbmRegion core) s = execRetireHbmRegion core s := rfl
theorem exec_setMasterClass (core : BitVec 3) (s : State) : exec (.setMasterClass core) s = execSetMasterClass core s := rfl
theorem exec_dvfsWrite (cls : BitVec 6) (die : BitVec 2) (v : BitVec 64) (s : State) : exec (.dvfsWrite cls die v) s = execDvfsWrite cls die v s := rfl
theorem exec_powerCapStep (die : BitVec 2) (watts : Nat) (s : State) : exec (.powerCapStep die watts) s = execPowerCapStep die watts s := rfl
theorem exec_counterCtlWrite (off : BitVec 24) (v : BitVec 64) (s : State) : exec (.counterCtlWrite off v) s = execCounterCtlWrite off v s := rfl
theorem exec_registerWrite (cls : BitVec 6) (off : BitVec 24) (v : BitVec 64) (s : State) : exec (.registerWrite cls off v) s = execRegisterWrite cls off v s := rfl
theorem exec_illegalInstruction (w : BitVec 64) (s : State) : exec (.illegalInstruction w) s = execIllegalInstruction w s := rfl
theorem exec_writeLands (h : Rh) (s : State) : exec (.writeLands h) s = execWriteLands h s := rfl
theorem exec_progressPointReached (t : Tid) (e : Eng) (s : State) : exec (.progressPointReached t e) s = execProgressPointReached t e s := rfl
theorem exec_subarrayWake (t : Tid) (s : State) : exec (.subarrayWake t) s = execSubarrayWake t s := rfl
theorem exec_sendStagingReady (c : Nat) (s : State) : exec (.sendStagingReady c) s = execSendStagingReady c s := rfl
theorem exec_directoryEviction (line : Nat) (s : State) : exec (.directoryEviction line) s = execDirectoryEviction line s := rfl
theorem exec_patrolScrub (line : Nat) (err : BitVec 2) (s : State) : exec (.patrolScrub line err) s = execPatrolScrub line err s := rfl
theorem exec_dieRejoinComplete (die : BitVec 2) (s : State) : exec (.dieRejoinComplete die) s = execDieRejoinComplete die s := rfl
theorem exec_packageReset (s : State) : exec (.packageReset) s = execPackageReset s := rfl

end Sys2Proof.Machine
end

