-- ==== Sys2Proof/Laws/Maps.lean ====
section
/-!
SUPPORT. Laws of the sparse maps and of memory: read after write, every other place untouched, and the canonical form
that every memory operation keeps.
-/

namespace Sys2Proof.Machine

open Sys2Proof

/-! ## Sparse maps -/

@[simp] theorem fget_fput_same {α : Type} (d : α) (m : FMap α) (k : Nat) (v : α) : fget d (fput m k v) k = v := by
  induction m with
  | nil => simp [fput, fget]
  | cons c m ih =>
    obtain ⟨j, w⟩ := c
    simp only [fput]
    split
    · simp [fget]
    · split
      · simp [fget]
      · have : j ≠ k := by omega
        simp [fget, this, ih]

theorem fget_fput_other {α : Type} (d : α) (m : FMap α) {k n : Nat} (v : α) (h : n ≠ k) :
    fget d (fput m k v) n = fget d m n := by
  induction m with
  | nil => simp [fput, fget, Ne.symm h]
  | cons c m ih =>
    obtain ⟨j, w⟩ := c
    simp only [fput]
    split
    · next e => subst e; simp [fget, Ne.symm h]
    · split
      · simp [fget, Ne.symm h]
      · simp only [fget, ih]

theorem fget_fdel_same {α : Type} (d : α) (m : FMap α) (k : Nat) : fget d (fdel m k) k = d := by
  induction m with
  | nil => rfl
  | cons c m ih =>
    obtain ⟨j, w⟩ := c
    unfold fdel at *
    by_cases e : j = k
    · simpa [e] using ih
    · simp [e, fget, ih]

theorem fget_fdel_other {α : Type} (d : α) (m : FMap α) {k n : Nat} (h : n ≠ k) : fget d (fdel m k) n = fget d m n := by
  induction m with
  | nil => rfl
  | cons c m ih =>
    obtain ⟨j, w⟩ := c
    unfold fdel at *
    by_cases e : j = k
    · subst e; simp [fget, Ne.symm h, ih]
    · simp [e, fget, ih]

@[simp] theorem fget_fset_same {α : Type} [DecidableEq α] (d : α) (m : FMap α) (k : Nat) (v : α) : fget d (fset d m k v) k = v := by
  unfold fset
  split
  · next e => rw [fget_fdel_same, e]
  · exact fget_fput_same d m k v

theorem fget_fset_other {α : Type} [DecidableEq α] (d : α) (m : FMap α) {k n : Nat} (v : α) (h : n ≠ k) :
    fget d (fset d m k v) n = fget d m n := by
  unfold fset
  split
  · exact fget_fdel_other d m h
  · exact fget_fput_other d m v h

/-- Writing back what the map holds changes no read. -/
theorem fget_fput_self {α : Type} (d : α) (m : FMap α) (k n : Nat) : fget d (fput m k (fget d m k)) n = fget d m n := by
  by_cases h : n = k
  · subst h; simp
  · exact fget_fput_other d m _ h

/-! ## Memory: reads and writes -/

@[simp] theorem memByte_memSet_same (m : Memory) (a : Nat) (b : Byte) : memByte (memSet m a b) a = b := fget_fset_same _ _ _ _

theorem memByte_memSet_other (m : Memory) {a x : Nat} (b : Byte) (h : x ≠ a) : memByte (memSet m a b) x = memByte m x :=
  fget_fset_other _ _ _ h

/-- A write changes no byte outside its bytes. -/
theorem memByte_memWrite_other (bs : List Byte) : ∀ (m : Memory) (a x : Nat), (x < a ∨ a + bs.length ≤ x) →
    memByte (memWrite m a bs) x = memByte m x := by
  induction bs with
  | nil => intro m a x _; rfl
  | cons b bs ih =>
    intro m a x h
    simp only [List.length_cons] at h
    rw [memWrite, ih _ _ _ (by omega), memByte_memSet_other _ _ (by omega)]

/-- Byte i of the written range reads what was written there. -/
theorem memByte_memWrite_inside (bs : List Byte) : ∀ (m : Memory) (a i : Nat) (h : i < bs.length),
    memByte (memWrite m a bs) (a + i) = bs[i] := by
  induction bs with
  | nil => intro m a i h; simp at h
  | cons b bs ih =>
    intro m a i h
    cases i with
    | zero => rw [memWrite, memByte_memWrite_other _ _ _ _ (by omega)]; simp
    | succ i =>
      have := ih (memSet m a b) (a + 1) i (by simpa using h)
      rw [memWrite, show a + (i + 1) = a + 1 + i by omega, this]; simp

/-- Reading the written range gives the bytes written. -/
theorem memRead_memWrite_same (m : Memory) (a : Nat) (bs : List Byte) : memRead (memWrite m a bs) a bs.length = bs := by
  apply List.ext_getElem
  · simp [memRead]
  · intro i h1 h2
    simp [memRead, memByte_memWrite_inside bs m a i h2]

theorem memRead_memWrite_other (m : Memory) (a x n : Nat) (bs : List Byte) (h : x + n ≤ a ∨ a + bs.length ≤ x) :
    memRead (memWrite m a bs) x n = memRead m x n := by
  apply List.map_congr_left
  intro i hi
  have := List.mem_range.mp hi
  exact memByte_memWrite_other bs m a (x + i) (by omega)

/-! ## Little-endian numbers -/

@[simp] theorem leBytes_length : ∀ n v : Nat, (leBytes n v).length = n
  | 0, _ => rfl
  | n + 1, v => congrArg (· + 1) (leBytes_length n (v / 256))

/-- The low n bytes of a number, read back. -/
theorem leNat_leBytes : ∀ n v : Nat, leNat (leBytes n v) = v % 256 ^ n
  | 0, v => by simp [leBytes, leNat, Nat.mod_one]
  | n + 1, v => by
    rw [leBytes, leNat, leNat_leBytes n, Nat.pow_succ, Nat.mul_comm (256 ^ n) 256, Nat.mod_mul]
    simp [BitVec.toNat_ofNat]

/-! ## The canonical form -/

/-- Every address of the memory lies above a. -/
def memAbove (a : Nat) (m : Memory) : Bool := m.all (fun c => decide (a < c.1))

theorem memWf_cons (a : Nat) (b : Byte) (m : Memory) :
    Memory.wf ((a, b) :: m) = (b != 0 && (match m with | [] => true | (c, _) :: _ => decide (a < c)) && Memory.wf m) := by
  cases m with
  | nil => simp [Memory.wf]
  | cons c m => obtain ⟨c, d⟩ := c; simp [Memory.wf]

theorem memWf_tail {c : Host.Cell} {m : Memory} (h : Memory.wf (c :: m) = true) : Memory.wf m = true := by
  obtain ⟨a, b⟩ := c
  rw [memWf_cons] at h
  simp only [Bool.and_eq_true] at h
  exact h.2

theorem memWf_above {a : Nat} {b : Byte} : ∀ {m : Memory}, Memory.wf ((a, b) :: m) = true → ∀ c ∈ m, a < c.1 := by
  intro m
  induction m generalizing a b with
  | nil => intro _ c hc; simp at hc
  | cons e m ih =>
    obtain ⟨x, y⟩ := e
    intro h c hc
    rw [memWf_cons] at h
    simp only [Bool.and_eq_true, decide_eq_true_eq] at h
    rcases List.mem_cons.mp hc with rfl | hc
    · exact h.1.2
    · exact Nat.lt_trans h.1.2 (ih h.2 c hc)

theorem memWf_of {a : Nat} {b : Byte} {m : Memory} (hb : b ≠ 0) (ha : ∀ c ∈ m, a < c.1) (hm : Memory.wf m = true) :
    Memory.wf ((a, b) :: m) = true := by
  rw [memWf_cons]
  cases m with
  | nil => simpa [Memory.wf] using hb
  | cons c m =>
    obtain ⟨c, d⟩ := c
    have := ha (c, d) (List.mem_cons_self ..)
    simpa [hm, this] using hb

theorem fput_mem {m : Memory} {k : Nat} {v : Byte} {c : Host.Cell} (h : c ∈ fput m k v) : c = (k, v) ∨ c ∈ m := by
  induction m with
  | nil => simpa [fput] using h
  | cons e m ih =>
    obtain ⟨j, w⟩ := e
    simp only [fput] at h
    split at h
    · rcases List.mem_cons.mp h with h | h
      · exact .inl h
      · exact .inr (List.mem_cons_of_mem _ h)
    · split at h
      · rcases List.mem_cons.mp h with h | h
        · exact .inl h
        · exact .inr h
      · rcases List.mem_cons.mp h with h | h
        · exact .inr (h ▸ List.mem_cons_self ..)
        · rcases ih h with h | h
          · exact .inl h
          · exact .inr (List.mem_cons_of_mem _ h)

theorem fput_wf {m : Memory} (k : Nat) {v : Byte} (hv : v ≠ 0) (h : Memory.wf m = true) : Memory.wf (fput m k v) = true := by
  induction m with
  | nil => simpa [fput, Memory.wf] using hv
  | cons e m ih =>
    obtain ⟨j, w⟩ := e
    have ht := memWf_tail h
    have ha := memWf_above h
    have hw : w ≠ 0 := by rw [memWf_cons] at h; simp only [Bool.and_eq_true, bne_iff_ne] at h; exact h.1.1
    simp only [fput]
    split
    · next e => subst e; exact memWf_of hv ha ht
    · split
      · next hk =>
        refine memWf_of hv ?_ h
        intro c hc
        rcases List.mem_cons.mp hc with rfl | hc
        · exact hk
        · exact Nat.lt_trans hk (ha c hc)
      · refine memWf_of hw ?_ (ih ht)
        intro c hc
        rcases fput_mem hc with rfl | hc
        · show j < k; omega
        · exact ha c hc

theorem filter_wf {m : Memory} (p : Host.Cell → Bool) (h : Memory.wf m = true) : Memory.wf (m.filter p) = true := by
  induction m with
  | nil => rfl
  | cons e m ih =>
    obtain ⟨j, w⟩ := e
    have ht := memWf_tail h
    by_cases hp : p (j, w)
    · rw [List.filter_cons_of_pos hp]
      have hw : w ≠ 0 := by rw [memWf_cons] at h; simp only [Bool.and_eq_true, bne_iff_ne] at h; exact h.1.1
      exact memWf_of hw (fun c hc => memWf_above h c ((List.mem_filter.mp hc).1)) (ih ht)
    · rw [List.filter_cons_of_neg hp]; exact ih ht

/-- Writing a byte keeps the canonical form. -/
theorem memSet_wf {m : Memory} (a : Nat) (b : Byte) (h : Memory.wf m = true) : Memory.wf (memSet m a b) = true := by
  unfold memSet fset
  split
  · exact filter_wf _ h
  · next hb => exact fput_wf a hb h

/-- Writing bytes keeps the canonical form. -/
theorem memWrite_wf (bs : List Byte) : ∀ {m : Memory} (a : Nat), Memory.wf m = true → Memory.wf (memWrite m a bs) = true := by
  induction bs with
  | nil => intro m a h; exact h
  | cons b bs ih => intro m a h; exact ih _ (memSet_wf a b h)

end Sys2Proof.Machine
end

