-- ==== Sys2Proof/Laws/State.lean ====
section
/-!
SUPPORT. One lemma per field per named update of State: what the update leaves as it was, and what it writes.
-/

namespace Sys2Proof.Machine

open Sys2Proof

/-! ## The updates in terms of the three setters -/

@[simp] theorem State.modRes_eq (s : State) (h : Nat) (f : Resident → Resident) : s.modRes h f = s.setRes h (f (s.res h)) := rfl
@[simp] theorem State.modTile_eq (s : State) (t : Nat) (f : Tile → Tile) : s.modTile t f = s.setTile t (f (s.tile t)) := rfl
@[simp] theorem State.modSvc_eq (s : State) (c : Nat) (f : SvCore → SvCore) : s.modSvc c f = s.setSvc c (f (s.svc c)) := rfl
@[simp] theorem State.setRing_eq (s : State) (t b : Nat) (x : Ring) :
    s.setRing t b x = s.setTile t { s.tile t with rings := fput (s.tile t).rings b x } := rfl
@[simp] theorem State.setChan_eq (s : State) (t ch : Nat) (x : Chan) :
    s.setChan t ch x = s.setTile t { s.tile t with chans := fput (s.tile t).chans ch x } := rfl
@[simp] theorem State.modPrg_eq (s : State) (h : Nat) (e : Eng) (f : Prg → Prg) :
    s.modPrg h e f = s.setRes h ((s.res h).setPrg e (f ((s.res h).prg e))) := rfl
@[simp] theorem State.modSc_task (s : State) (h : Nat) (e : Eng) (f : SCtx → SCtx) :
    s.modSc (.task h e) f = s.setRes h { s.res h with sc := f (s.res h).sc } := rfl
@[simp] theorem State.modSc_sv (s : State) (c : Nat) (f : SCtx → SCtx) :
    s.modSc (.sv c) f = s.setSvc c { s.svc c with sc := f (s.svc c).sc } := rfl

/-! ## Reading what an update wrote -/

@[simp] theorem State.res_setRes (s : State) (h : Nat) (r : Resident) : (s.setRes h r).res h = r := fget_fput_same _ _ _ _
theorem State.res_setRes_other (s : State) {h k : Nat} (r : Resident) (n : k ≠ h) : (s.setRes h r).res k = s.res k := fget_fput_other _ _ _ n
@[simp] theorem State.tile_setTile (s : State) (t : Nat) (x : Tile) : (s.setTile t x).tile t = x := fget_fput_same _ _ _ _
theorem State.tile_setTile_other (s : State) {t k : Nat} (x : Tile) (n : k ≠ t) : (s.setTile t x).tile k = s.tile k := fget_fput_other _ _ _ n
@[simp] theorem State.svc_setSvc (s : State) (c : Nat) (x : SvCore) : (s.setSvc c x).svc c = x := fget_fput_same _ _ _ _
theorem State.svc_setSvc_other (s : State) {c k : Nat} (x : SvCore) (n : k ≠ c) : (s.setSvc c x).svc k = s.svc k := fget_fput_other _ _ _ n
@[simp] theorem State.res_setTile (s : State) (t h : Nat) (x : Tile) : (s.setTile t x).res h = s.res h := rfl
@[simp] theorem State.res_setSvc (s : State) (c h : Nat) (x : SvCore) : (s.setSvc c x).res h = s.res h := rfl
@[simp] theorem State.tile_setRes (s : State) (h t : Nat) (r : Resident) : (s.setRes h r).tile t = s.tile t := rfl
@[simp] theorem State.tile_setSvc (s : State) (c t : Nat) (x : SvCore) : (s.setSvc c x).tile t = s.tile t := rfl
@[simp] theorem State.svc_setRes (s : State) (h c : Nat) (r : Resident) : (s.setRes h r).svc c = s.svc c := rfl
@[simp] theorem State.svc_setTile (s : State) (t c : Nat) (x : Tile) : (s.setTile t x).svc c = s.svc c := rfl
@[simp] theorem State.res_fresh1 (s : State) (h : Nat) : s.fresh1.res h = s.res h := rfl
@[simp] theorem State.tile_fresh1 (s : State) (t : Nat) : s.fresh1.tile t = s.tile t := rfl
@[simp] theorem State.svc_fresh1 (s : State) (c : Nat) : s.fresh1.svc c = s.svc c := rfl
@[simp] theorem State.res_count (s : State) (b k c n h : Nat) : (s.count b k c n).res h = s.res h := rfl
@[simp] theorem State.tile_count (s : State) (b k c n t : Nat) : (s.count b k c n).tile t = s.tile t := rfl
@[simp] theorem State.svc_count (s : State) (b k c n j : Nat) : (s.count b k c n).svc j = s.svc j := rfl

/-! ## setRes -/

@[simp] theorem State.setRes_agenda (s : State) (h : Nat) (r : Resident) : (s.setRes h r).agenda = s.agenda := rfl
@[simp] theorem State.setRes_turn (s : State) (h : Nat) (r : Resident) : (s.setRes h r).turn = s.turn := rfl
@[simp] theorem State.setRes_fresh (s : State) (h : Nat) (r : Resident) : (s.setRes h r).fresh = s.fresh := rfl
@[simp] theorem State.setRes_nextId (s : State) (h : Nat) (r : Resident) : (s.setRes h r).nextId = s.nextId := rfl
@[simp] theorem State.setRes_pkgId (s : State) (h : Nat) (r : Resident) : (s.setRes h r).pkgId = s.pkgId := rfl
@[simp] theorem State.setRes_stamp (s : State) (h : Nat) (r : Resident) : (s.setRes h r).stamp = s.stamp := rfl
@[simp] theorem State.setRes_tiles (s : State) (h : Nat) (r : Resident) : (s.setRes h r).tiles = s.tiles := rfl
@[simp] theorem State.setRes_residents (s : State) (h : Nat) (r : Resident) : (s.setRes h r).residents = fput s.residents h r := rfl
@[simp] theorem State.setRes_svs (s : State) (h : Nat) (r : Resident) : (s.setRes h r).svs = s.svs := rfl
@[simp] theorem State.setRes_wdog (s : State) (h : Nat) (r : Resident) : (s.setRes h r).wdog = s.wdog := rfl
@[simp] theorem State.setRes_svpool (s : State) (h : Nat) (r : Resident) : (s.setRes h r).svpool = s.svpool := rfl
@[simp] theorem State.setRes_svpooln (s : State) (h : Nat) (r : Resident) : (s.setRes h r).svpooln = s.svpooln := rfl
@[simp] theorem State.setRes_atbase (s : State) (h : Nat) (r : Resident) : (s.setRes h r).atbase = s.atbase := rfl
@[simp] theorem State.setRes_mem (s : State) (h : Nat) (r : Resident) : (s.setRes h r).mem = s.mem := rfl
@[simp] theorem State.setRes_poison (s : State) (h : Nat) (r : Resident) : (s.setRes h r).poison = s.poison := rfl
@[simp] theorem State.setRes_corrected (s : State) (h : Nat) (r : Resident) : (s.setRes h r).corrected = s.corrected := rfl
@[simp] theorem State.setRes_retired (s : State) (h : Nat) (r : Resident) : (s.setRes h r).retired = s.retired := rfl
@[simp] theorem State.setRes_pinned (s : State) (h : Nat) (r : Resident) : (s.setRes h r).pinned = s.pinned := rfl
@[simp] theorem State.setRes_directory (s : State) (h : Nat) (r : Resident) : (s.setRes h r).directory = s.directory := rfl
@[simp] theorem State.setRes_gaccs (s : State) (h : Nat) (r : Resident) : (s.setRes h r).gaccs = s.gaccs := rfl
@[simp] theorem State.setRes_vops (s : State) (h : Nat) (r : Resident) : (s.setRes h r).vops = s.vops := rfl
@[simp] theorem State.setRes_walks (s : State) (h : Nat) (r : Resident) : (s.setRes h r).walks = s.walks := rfl
@[simp] theorem State.setRes_stlbs (s : State) (h : Nat) (r : Resident) : (s.setRes h r).stlbs = s.stlbs := rfl
@[simp] theorem State.setRes_hostOut (s : State) (h : Nat) (r : Resident) : (s.setRes h r).hostOut = s.hostOut := rfl
@[simp] theorem State.setRes_pwcs (s : State) (h : Nat) (r : Resident) : (s.setRes h r).pwcs = s.pwcs := rfl
@[simp] theorem State.setRes_unflushed (s : State) (h : Nat) (r : Resident) : (s.setRes h r).unflushed = s.unflushed := rfl
@[simp] theorem State.setRes_hostTimeout (s : State) (h : Nat) (r : Resident) : (s.setRes h r).hostTimeout = s.hostTimeout := rfl
@[simp] theorem State.setRes_hostReads (s : State) (h : Nat) (r : Resident) : (s.setRes h r).hostReads = s.hostReads := rfl
@[simp] theorem State.setRes_cohorts (s : State) (h : Nat) (r : Resident) : (s.setRes h r).cohorts = s.cohorts := rfl
@[simp] theorem State.setRes_events (s : State) (h : Nat) (r : Resident) : (s.setRes h r).events = s.events := rfl
@[simp] theorem State.setRes_updates (s : State) (h : Nat) (r : Resident) : (s.setRes h r).updates = s.updates := rfl
@[simp] theorem State.setRes_peerCounts (s : State) (h : Nat) (r : Resident) : (s.setRes h r).peerCounts = s.peerCounts := rfl
@[simp] theorem State.setRes_peerStatus (s : State) (h : Nat) (r : Resident) : (s.setRes h r).peerStatus = s.peerStatus := rfl
@[simp] theorem State.setRes_peerDeps (s : State) (h : Nat) (r : Resident) : (s.setRes h r).peerDeps = s.peerDeps := rfl
@[simp] theorem State.setRes_graphs (s : State) (h : Nat) (r : Resident) : (s.setRes h r).graphs = s.graphs := rfl
@[simp] theorem State.setRes_queues (s : State) (h : Nat) (r : Resident) : (s.setRes h r).queues = s.queues := rfl
@[simp] theorem State.setRes_running (s : State) (h : Nat) (r : Resident) : (s.setRes h r).running = s.running := rfl
@[simp] theorem State.setRes_graphTurn (s : State) (h : Nat) (r : Resident) : (s.setRes h r).graphTurn = s.graphTurn := rfl
@[simp] theorem State.setRes_waitReplay (s : State) (h : Nat) (r : Resident) : (s.setRes h r).waitReplay = s.waitReplay := rfl
@[simp] theorem State.setRes_saved (s : State) (h : Nat) (r : Resident) : (s.setRes h r).saved = s.saved := rfl
@[simp] theorem State.setRes_lost (s : State) (h : Nat) (r : Resident) : (s.setRes h r).lost = s.lost := rfl
@[simp] theorem State.setRes_reservations (s : State) (h : Nat) (r : Resident) : (s.setRes h r).reservations = s.reservations := rfl
@[simp] theorem State.setRes_crbase (s : State) (h : Nat) (r : Resident) : (s.setRes h r).crbase = s.crbase := rfl
@[simp] theorem State.setRes_crsize (s : State) (h : Nat) (r : Resident) : (s.setRes h r).crsize = s.crsize := rfl
@[simp] theorem State.setRes_crhead (s : State) (h : Nat) (r : Resident) : (s.setRes h r).crhead = s.crhead := rfl
@[simp] theorem State.setRes_crtail (s : State) (h : Nat) (r : Resident) : (s.setRes h r).crtail = s.crtail := rfl
@[simp] theorem State.setRes_binds (s : State) (h : Nat) (r : Resident) : (s.setRes h r).binds = s.binds := rfl
@[simp] theorem State.setRes_cmdFailed (s : State) (h : Nat) (r : Resident) : (s.setRes h r).cmdFailed = s.cmdFailed := rfl
@[simp] theorem State.setRes_msix (s : State) (h : Nat) (r : Resident) : (s.setRes h r).msix = s.msix := rfl
@[simp] theorem State.setRes_aer (s : State) (h : Nat) (r : Resident) : (s.setRes h r).aer = s.aer := rfl
@[simp] theorem State.setRes_i3cReport (s : State) (h : Nat) (r : Resident) : (s.setRes h r).i3cReport = s.i3cReport := rfl
@[simp] theorem State.setRes_inc (s : State) (h : Nat) (r : Resident) : (s.setRes h r).inc = s.inc := rfl
@[simp] theorem State.setRes_peerInc (s : State) (h : Nat) (r : Resident) : (s.setRes h r).peerInc = s.peerInc := rfl
@[simp] theorem State.setRes_sysSeqs (s : State) (h : Nat) (r : Resident) : (s.setRes h r).sysSeqs = s.sysSeqs := rfl
@[simp] theorem State.setRes_afterglow (s : State) (h : Nat) (r : Resident) : (s.setRes h r).afterglow = s.afterglow := rfl
@[simp] theorem State.setRes_floors (s : State) (h : Nat) (r : Resident) : (s.setRes h r).floors = s.floors := rfl
@[simp] theorem State.setRes_routs (s : State) (h : Nat) (r : Resident) : (s.setRes h r).routs = s.routs := rfl
@[simp] theorem State.setRes_requests (s : State) (h : Nat) (r : Resident) : (s.setRes h r).requests = s.requests := rfl
@[simp] theorem State.setRes_responses (s : State) (h : Nat) (r : Resident) : (s.setRes h r).responses = s.responses := rfl
@[simp] theorem State.setRes_acks (s : State) (h : Nat) (r : Resident) : (s.setRes h r).acks = s.acks := rfl
@[simp] theorem State.setRes_retires (s : State) (h : Nat) (r : Resident) : (s.setRes h r).retires = s.retires := rfl
@[simp] theorem State.setRes_hslots (s : State) (h : Nat) (r : Resident) : (s.setRes h r).hslots = s.hslots := rfl
@[simp] theorem State.setRes_hruns (s : State) (h : Nat) (r : Resident) : (s.setRes h r).hruns = s.hruns := rfl
@[simp] theorem State.setRes_comms (s : State) (h : Nat) (r : Resident) : (s.setRes h r).comms = s.comms := rfl
@[simp] theorem State.setRes_ccount (s : State) (h : Nat) (r : Resident) : (s.setRes h r).ccount = s.ccount := rfl
@[simp] theorem State.setRes_formed (s : State) (h : Nat) (r : Resident) : (s.setRes h r).formed = s.formed := rfl
@[simp] theorem State.setRes_collTurn (s : State) (h : Nat) (r : Resident) : (s.setRes h r).collTurn = s.collTurn := rfl
@[simp] theorem State.setRes_recs (s : State) (h : Nat) (r : Resident) : (s.setRes h r).recs = s.recs := rfl
@[simp] theorem State.setRes_chunks (s : State) (h : Nat) (r : Resident) : (s.setRes h r).chunks = s.chunks := rfl
@[simp] theorem State.setRes_chunkParts (s : State) (h : Nat) (r : Resident) : (s.setRes h r).chunkParts = s.chunkParts := rfl
@[simp] theorem State.setRes_creditMsgs (s : State) (h : Nat) (r : Resident) : (s.setRes h r).creditMsgs = s.creditMsgs := rfl
@[simp] theorem State.setRes_ports (s : State) (h : Nat) (r : Resident) : (s.setRes h r).ports = s.ports := rfl
@[simp] theorem State.setRes_routes (s : State) (h : Nat) (r : Resident) : (s.setRes h r).routes = s.routes := rfl
@[simp] theorem State.setRes_lanes (s : State) (h : Nat) (r : Resident) : (s.setRes h r).lanes = s.lanes := rfl
@[simp] theorem State.setRes_mapgen (s : State) (h : Nat) (r : Resident) : (s.setRes h r).mapgen = s.mapgen := rfl
@[simp] theorem State.setRes_lremap (s : State) (h : Nat) (r : Resident) : (s.setRes h r).lremap = s.lremap := rfl
@[simp] theorem State.setRes_laneCounters (s : State) (h : Nat) (r : Resident) : (s.setRes h r).laneCounters = s.laneCounters := rfl
@[simp] theorem State.setRes_laneSyms (s : State) (h : Nat) (r : Resident) : (s.setRes h r).laneSyms = s.laneSyms := rfl
@[simp] theorem State.setRes_telemetry (s : State) (h : Nat) (r : Resident) : (s.setRes h r).telemetry = s.telemetry := rfl
@[simp] theorem State.setRes_latches (s : State) (h : Nat) (r : Resident) : (s.setRes h r).latches = s.latches := rfl
@[simp] theorem State.setRes_transports (s : State) (h : Nat) (r : Resident) : (s.setRes h r).transports = s.transports := rfl
@[simp] theorem State.setRes_meshRetry (s : State) (h : Nat) (r : Resident) : (s.setRes h r).meshRetry = s.meshRetry := rfl
@[simp] theorem State.setRes_meshFenced (s : State) (h : Nat) (r : Resident) : (s.setRes h r).meshFenced = s.meshFenced := rfl
@[simp] theorem State.setRes_meshNotes (s : State) (h : Nat) (r : Resident) : (s.setRes h r).meshNotes = s.meshNotes := rfl
@[simp] theorem State.setRes_rights (s : State) (h : Nat) (r : Resident) : (s.setRes h r).rights = s.rights := rfl
@[simp] theorem State.setRes_classes (s : State) (h : Nat) (r : Resident) : (s.setRes h r).classes = s.classes := rfl
@[simp] theorem State.setRes_diectl (s : State) (h : Nat) (r : Resident) : (s.setRes h r).diectl = s.diectl := rfl
@[simp] theorem State.setRes_llcpin (s : State) (h : Nat) (r : Resident) : (s.setRes h r).llcpin = s.llcpin := rfl
@[simp] theorem State.setRes_dvfs (s : State) (h : Nat) (r : Resident) : (s.setRes h r).dvfs = s.dvfs := rfl
@[simp] theorem State.setRes_pcap (s : State) (h : Nat) (r : Resident) : (s.setRes h r).pcap = s.pcap := rfl
@[simp] theorem State.setRes_counters (s : State) (h : Nat) (r : Resident) : (s.setRes h r).counters = s.counters := rfl
@[simp] theorem State.setRes_measures (s : State) (h : Nat) (r : Resident) : (s.setRes h r).measures = s.measures := rfl
@[simp] theorem State.setRes_flash (s : State) (h : Nat) (r : Resident) : (s.setRes h r).flash = s.flash := rfl
@[simp] theorem State.setRes_booted (s : State) (h : Nat) (r : Resident) : (s.setRes h r).booted = s.booted := rfl

/-! ## setTile -/

@[simp] theorem State.setTile_agenda (s : State) (t : Nat) (x : Tile) : (s.setTile t x).agenda = s.agenda := rfl
@[simp] theorem State.setTile_turn (s : State) (t : Nat) (x : Tile) : (s.setTile t x).turn = s.turn := rfl
@[simp] theorem State.setTile_fresh (s : State) (t : Nat) (x : Tile) : (s.setTile t x).fresh = s.fresh := rfl
@[simp] theorem State.setTile_nextId (s : State) (t : Nat) (x : Tile) : (s.setTile t x).nextId = s.nextId := rfl
@[simp] theorem State.setTile_pkgId (s : State) (t : Nat) (x : Tile) : (s.setTile t x).pkgId = s.pkgId := rfl
@[simp] theorem State.setTile_stamp (s : State) (t : Nat) (x : Tile) : (s.setTile t x).stamp = s.stamp := rfl
@[simp] theorem State.setTile_tiles (s : State) (t : Nat) (x : Tile) : (s.setTile t x).tiles = fput s.tiles t x := rfl
@[simp] theorem State.setTile_residents (s : State) (t : Nat) (x : Tile) : (s.setTile t x).residents = s.residents := rfl
@[simp] theorem State.setTile_svs (s : State) (t : Nat) (x : Tile) : (s.setTile t x).svs = s.svs := rfl
@[simp] theorem State.setTile_wdog (s : State) (t : Nat) (x : Tile) : (s.setTile t x).wdog = s.wdog := rfl
@[simp] theorem State.setTile_svpool (s : State) (t : Nat) (x : Tile) : (s.setTile t x).svpool = s.svpool := rfl
@[simp] theorem State.setTile_svpooln (s : State) (t : Nat) (x : Tile) : (s.setTile t x).svpooln = s.svpooln := rfl
@[simp] theorem State.setTile_atbase (s : State) (t : Nat) (x : Tile) : (s.setTile t x).atbase = s.atbase := rfl
@[simp] theorem State.setTile_mem (s : State) (t : Nat) (x : Tile) : (s.setTile t x).mem = s.mem := rfl
@[simp] theorem State.setTile_poison (s : State) (t : Nat) (x : Tile) : (s.setTile t x).poison = s.poison := rfl
@[simp] theorem State.setTile_corrected (s : State) (t : Nat) (x : Tile) : (s.setTile t x).corrected = s.corrected := rfl
@[simp] theorem State.setTile_retired (s : State) (t : Nat) (x : Tile) : (s.setTile t x).retired = s.retired := rfl
@[simp] theorem State.setTile_pinned (s : State) (t : Nat) (x : Tile) : (s.setTile t x).pinned = s.pinned := rfl
@[simp] theorem State.setTile_directory (s : State) (t : Nat) (x : Tile) : (s.setTile t x).directory = s.directory := rfl
@[simp] theorem State.setTile_gaccs (s : State) (t : Nat) (x : Tile) : (s.setTile t x).gaccs = s.gaccs := rfl
@[simp] theorem State.setTile_vops (s : State) (t : Nat) (x : Tile) : (s.setTile t x).vops = s.vops := rfl
@[simp] theorem State.setTile_walks (s : State) (t : Nat) (x : Tile) : (s.setTile t x).walks = s.walks := rfl
@[simp] theorem State.setTile_stlbs (s : State) (t : Nat) (x : Tile) : (s.setTile t x).stlbs = s.stlbs := rfl
@[simp] theorem State.setTile_hostOut (s : State) (t : Nat) (x : Tile) : (s.setTile t x).hostOut = s.hostOut := rfl
@[simp] theorem State.setTile_pwcs (s : State) (t : Nat) (x : Tile) : (s.setTile t x).pwcs = s.pwcs := rfl
@[simp] theorem State.setTile_unflushed (s : State) (t : Nat) (x : Tile) : (s.setTile t x).unflushed = s.unflushed := rfl
@[simp] theorem State.setTile_hostTimeout (s : State) (t : Nat) (x : Tile) : (s.setTile t x).hostTimeout = s.hostTimeout := rfl
@[simp] theorem State.setTile_hostReads (s : State) (t : Nat) (x : Tile) : (s.setTile t x).hostReads = s.hostReads := rfl
@[simp] theorem State.setTile_cohorts (s : State) (t : Nat) (x : Tile) : (s.setTile t x).cohorts = s.cohorts := rfl
@[simp] theorem State.setTile_events (s : State) (t : Nat) (x : Tile) : (s.setTile t x).events = s.events := rfl
@[simp] theorem State.setTile_updates (s : State) (t : Nat) (x : Tile) : (s.setTile t x).updates = s.updates := rfl
@[simp] theorem State.setTile_peerCounts (s : State) (t : Nat) (x : Tile) : (s.setTile t x).peerCounts = s.peerCounts := rfl
@[simp] theorem State.setTile_peerStatus (s : State) (t : Nat) (x : Tile) : (s.setTile t x).peerStatus = s.peerStatus := rfl
@[simp] theorem State.setTile_peerDeps (s : State) (t : Nat) (x : Tile) : (s.setTile t x).peerDeps = s.peerDeps := rfl
@[simp] theorem State.setTile_graphs (s : State) (t : Nat) (x : Tile) : (s.setTile t x).graphs = s.graphs := rfl
@[simp] theorem State.setTile_queues (s : State) (t : Nat) (x : Tile) : (s.setTile t x).queues = s.queues := rfl
@[simp] theorem State.setTile_running (s : State) (t : Nat) (x : Tile) : (s.setTile t x).running = s.running := rfl
@[simp] theorem State.setTile_graphTurn (s : State) (t : Nat) (x : Tile) : (s.setTile t x).graphTurn = s.graphTurn := rfl
@[simp] theorem State.setTile_waitReplay (s : State) (t : Nat) (x : Tile) : (s.setTile t x).waitReplay = s.waitReplay := rfl
@[simp] theorem State.setTile_saved (s : State) (t : Nat) (x : Tile) : (s.setTile t x).saved = s.saved := rfl
@[simp] theorem State.setTile_lost (s : State) (t : Nat) (x : Tile) : (s.setTile t x).lost = s.lost := rfl
@[simp] theorem State.setTile_reservations (s : State) (t : Nat) (x : Tile) : (s.setTile t x).reservations = s.reservations := rfl
@[simp] theorem State.setTile_crbase (s : State) (t : Nat) (x : Tile) : (s.setTile t x).crbase = s.crbase := rfl
@[simp] theorem State.setTile_crsize (s : State) (t : Nat) (x : Tile) : (s.setTile t x).crsize = s.crsize := rfl
@[simp] theorem State.setTile_crhead (s : State) (t : Nat) (x : Tile) : (s.setTile t x).crhead = s.crhead := rfl
@[simp] theorem State.setTile_crtail (s : State) (t : Nat) (x : Tile) : (s.setTile t x).crtail = s.crtail := rfl
@[simp] theorem State.setTile_binds (s : State) (t : Nat) (x : Tile) : (s.setTile t x).binds = s.binds := rfl
@[simp] theorem State.setTile_cmdFailed (s : State) (t : Nat) (x : Tile) : (s.setTile t x).cmdFailed = s.cmdFailed := rfl
@[simp] theorem State.setTile_msix (s : State) (t : Nat) (x : Tile) : (s.setTile t x).msix = s.msix := rfl
@[simp] theorem State.setTile_aer (s : State) (t : Nat) (x : Tile) : (s.setTile t x).aer = s.aer := rfl
@[simp] theorem State.setTile_i3cReport (s : State) (t : Nat) (x : Tile) : (s.setTile t x).i3cReport = s.i3cReport := rfl
@[simp] theorem State.setTile_inc (s : State) (t : Nat) (x : Tile) : (s.setTile t x).inc = s.inc := rfl
@[simp] theorem State.setTile_peerInc (s : State) (t : Nat) (x : Tile) : (s.setTile t x).peerInc = s.peerInc := rfl
@[simp] theorem State.setTile_sysSeqs (s : State) (t : Nat) (x : Tile) : (s.setTile t x).sysSeqs = s.sysSeqs := rfl
@[simp] theorem State.setTile_afterglow (s : State) (t : Nat) (x : Tile) : (s.setTile t x).afterglow = s.afterglow := rfl
@[simp] theorem State.setTile_floors (s : State) (t : Nat) (x : Tile) : (s.setTile t x).floors = s.floors := rfl
@[simp] theorem State.setTile_routs (s : State) (t : Nat) (x : Tile) : (s.setTile t x).routs = s.routs := rfl
@[simp] theorem State.setTile_requests (s : State) (t : Nat) (x : Tile) : (s.setTile t x).requests = s.requests := rfl
@[simp] theorem State.setTile_responses (s : State) (t : Nat) (x : Tile) : (s.setTile t x).responses = s.responses := rfl
@[simp] theorem State.setTile_acks (s : State) (t : Nat) (x : Tile) : (s.setTile t x).acks = s.acks := rfl
@[simp] theorem State.setTile_retires (s : State) (t : Nat) (x : Tile) : (s.setTile t x).retires = s.retires := rfl
@[simp] theorem State.setTile_hslots (s : State) (t : Nat) (x : Tile) : (s.setTile t x).hslots = s.hslots := rfl
@[simp] theorem State.setTile_hruns (s : State) (t : Nat) (x : Tile) : (s.setTile t x).hruns = s.hruns := rfl
@[simp] theorem State.setTile_comms (s : State) (t : Nat) (x : Tile) : (s.setTile t x).comms = s.comms := rfl
@[simp] theorem State.setTile_ccount (s : State) (t : Nat) (x : Tile) : (s.setTile t x).ccount = s.ccount := rfl
@[simp] theorem State.setTile_formed (s : State) (t : Nat) (x : Tile) : (s.setTile t x).formed = s.formed := rfl
@[simp] theorem State.setTile_collTurn (s : State) (t : Nat) (x : Tile) : (s.setTile t x).collTurn = s.collTurn := rfl
@[simp] theorem State.setTile_recs (s : State) (t : Nat) (x : Tile) : (s.setTile t x).recs = s.recs := rfl
@[simp] theorem State.setTile_chunks (s : State) (t : Nat) (x : Tile) : (s.setTile t x).chunks = s.chunks := rfl
@[simp] theorem State.setTile_chunkParts (s : State) (t : Nat) (x : Tile) : (s.setTile t x).chunkParts = s.chunkParts := rfl
@[simp] theorem State.setTile_creditMsgs (s : State) (t : Nat) (x : Tile) : (s.setTile t x).creditMsgs = s.creditMsgs := rfl
@[simp] theorem State.setTile_ports (s : State) (t : Nat) (x : Tile) : (s.setTile t x).ports = s.ports := rfl
@[simp] theorem State.setTile_routes (s : State) (t : Nat) (x : Tile) : (s.setTile t x).routes = s.routes := rfl
@[simp] theorem State.setTile_lanes (s : State) (t : Nat) (x : Tile) : (s.setTile t x).lanes = s.lanes := rfl
@[simp] theorem State.setTile_mapgen (s : State) (t : Nat) (x : Tile) : (s.setTile t x).mapgen = s.mapgen := rfl
@[simp] theorem State.setTile_lremap (s : State) (t : Nat) (x : Tile) : (s.setTile t x).lremap = s.lremap := rfl
@[simp] theorem State.setTile_laneCounters (s : State) (t : Nat) (x : Tile) : (s.setTile t x).laneCounters = s.laneCounters := rfl
@[simp] theorem State.setTile_laneSyms (s : State) (t : Nat) (x : Tile) : (s.setTile t x).laneSyms = s.laneSyms := rfl
@[simp] theorem State.setTile_telemetry (s : State) (t : Nat) (x : Tile) : (s.setTile t x).telemetry = s.telemetry := rfl
@[simp] theorem State.setTile_latches (s : State) (t : Nat) (x : Tile) : (s.setTile t x).latches = s.latches := rfl
@[simp] theorem State.setTile_transports (s : State) (t : Nat) (x : Tile) : (s.setTile t x).transports = s.transports := rfl
@[simp] theorem State.setTile_meshRetry (s : State) (t : Nat) (x : Tile) : (s.setTile t x).meshRetry = s.meshRetry := rfl
@[simp] theorem State.setTile_meshFenced (s : State) (t : Nat) (x : Tile) : (s.setTile t x).meshFenced = s.meshFenced := rfl
@[simp] theorem State.setTile_meshNotes (s : State) (t : Nat) (x : Tile) : (s.setTile t x).meshNotes = s.meshNotes := rfl
@[simp] theorem State.setTile_rights (s : State) (t : Nat) (x : Tile) : (s.setTile t x).rights = s.rights := rfl
@[simp] theorem State.setTile_classes (s : State) (t : Nat) (x : Tile) : (s.setTile t x).classes = s.classes := rfl
@[simp] theorem State.setTile_diectl (s : State) (t : Nat) (x : Tile) : (s.setTile t x).diectl = s.diectl := rfl
@[simp] theorem State.setTile_llcpin (s : State) (t : Nat) (x : Tile) : (s.setTile t x).llcpin = s.llcpin := rfl
@[simp] theorem State.setTile_dvfs (s : State) (t : Nat) (x : Tile) : (s.setTile t x).dvfs = s.dvfs := rfl
@[simp] theorem State.setTile_pcap (s : State) (t : Nat) (x : Tile) : (s.setTile t x).pcap = s.pcap := rfl
@[simp] theorem State.setTile_counters (s : State) (t : Nat) (x : Tile) : (s.setTile t x).counters = s.counters := rfl
@[simp] theorem State.setTile_measures (s : State) (t : Nat) (x : Tile) : (s.setTile t x).measures = s.measures := rfl
@[simp] theorem State.setTile_flash (s : State) (t : Nat) (x : Tile) : (s.setTile t x).flash = s.flash := rfl
@[simp] theorem State.setTile_booted (s : State) (t : Nat) (x : Tile) : (s.setTile t x).booted = s.booted := rfl

/-! ## setSvc -/

@[simp] theorem State.setSvc_agenda (s : State) (c : Nat) (x : SvCore) : (s.setSvc c x).agenda = s.agenda := rfl
@[simp] theorem State.setSvc_turn (s : State) (c : Nat) (x : SvCore) : (s.setSvc c x).turn = s.turn := rfl
@[simp] theorem State.setSvc_fresh (s : State) (c : Nat) (x : SvCore) : (s.setSvc c x).fresh = s.fresh := rfl
@[simp] theorem State.setSvc_nextId (s : State) (c : Nat) (x : SvCore) : (s.setSvc c x).nextId = s.nextId := rfl
@[simp] theorem State.setSvc_pkgId (s : State) (c : Nat) (x : SvCore) : (s.setSvc c x).pkgId = s.pkgId := rfl
@[simp] theorem State.setSvc_stamp (s : State) (c : Nat) (x : SvCore) : (s.setSvc c x).stamp = s.stamp := rfl
@[simp] theorem State.setSvc_tiles (s : State) (c : Nat) (x : SvCore) : (s.setSvc c x).tiles = s.tiles := rfl
@[simp] theorem State.setSvc_residents (s : State) (c : Nat) (x : SvCore) : (s.setSvc c x).residents = s.residents := rfl
@[simp] theorem State.setSvc_svs (s : State) (c : Nat) (x : SvCore) : (s.setSvc c x).svs = fput s.svs c x := rfl
@[simp] theorem State.setSvc_wdog (s : State) (c : Nat) (x : SvCore) : (s.setSvc c x).wdog = s.wdog := rfl
@[simp] theorem State.setSvc_svpool (s : State) (c : Nat) (x : SvCore) : (s.setSvc c x).svpool = s.svpool := rfl
@[simp] theorem State.setSvc_svpooln (s : State) (c : Nat) (x : SvCore) : (s.setSvc c x).svpooln = s.svpooln := rfl
@[simp] theorem State.setSvc_atbase (s : State) (c : Nat) (x : SvCore) : (s.setSvc c x).atbase = s.atbase := rfl
@[simp] theorem State.setSvc_mem (s : State) (c : Nat) (x : SvCore) : (s.setSvc c x).mem = s.mem := rfl
@[simp] theorem State.setSvc_poison (s : State) (c : Nat) (x : SvCore) : (s.setSvc c x).poison = s.poison := rfl
@[simp] theorem State.setSvc_corrected (s : State) (c : Nat) (x : SvCore) : (s.setSvc c x).corrected = s.corrected := rfl
@[simp] theorem State.setSvc_retired (s : State) (c : Nat) (x : SvCore) : (s.setSvc c x).retired = s.retired := rfl
@[simp] theorem State.setSvc_pinned (s : State) (c : Nat) (x : SvCore) : (s.setSvc c x).pinned = s.pinned := rfl
@[simp] theorem State.setSvc_directory (s : State) (c : Nat) (x : SvCore) : (s.setSvc c x).directory = s.directory := rfl
@[simp] theorem State.setSvc_gaccs (s : State) (c : Nat) (x : SvCore) : (s.setSvc c x).gaccs = s.gaccs := rfl
@[simp] theorem State.setSvc_vops (s : State) (c : Nat) (x : SvCore) : (s.setSvc c x).vops = s.vops := rfl
@[simp] theorem State.setSvc_walks (s : State) (c : Nat) (x : SvCore) : (s.setSvc c x).walks = s.walks := rfl
@[simp] theorem State.setSvc_stlbs (s : State) (c : Nat) (x : SvCore) : (s.setSvc c x).stlbs = s.stlbs := rfl
@[simp] theorem State.setSvc_hostOut (s : State) (c : Nat) (x : SvCore) : (s.setSvc c x).hostOut = s.hostOut := rfl
@[simp] theorem State.setSvc_pwcs (s : State) (c : Nat) (x : SvCore) : (s.setSvc c x).pwcs = s.pwcs := rfl
@[simp] theorem State.setSvc_unflushed (s : State) (c : Nat) (x : SvCore) : (s.setSvc c x).unflushed = s.unflushed := rfl
@[simp] theorem State.setSvc_hostTimeout (s : State) (c : Nat) (x : SvCore) : (s.setSvc c x).hostTimeout = s.hostTimeout := rfl
@[simp] theorem State.setSvc_hostReads (s : State) (c : Nat) (x : SvCore) : (s.setSvc c x).hostReads = s.hostReads := rfl
@[simp] theorem State.setSvc_cohorts (s : State) (c : Nat) (x : SvCore) : (s.setSvc c x).cohorts = s.cohorts := rfl
@[simp] theorem State.setSvc_events (s : State) (c : Nat) (x : SvCore) : (s.setSvc c x).events = s.events := rfl
@[simp] theorem State.setSvc_updates (s : State) (c : Nat) (x : SvCore) : (s.setSvc c x).updates = s.updates := rfl
@[simp] theorem State.setSvc_peerCounts (s : State) (c : Nat) (x : SvCore) : (s.setSvc c x).peerCounts = s.peerCounts := rfl
@[simp] theorem State.setSvc_peerStatus (s : State) (c : Nat) (x : SvCore) : (s.setSvc c x).peerStatus = s.peerStatus := rfl
@[simp] theorem State.setSvc_peerDeps (s : State) (c : Nat) (x : SvCore) : (s.setSvc c x).peerDeps = s.peerDeps := rfl
@[simp] theorem State.setSvc_graphs (s : State) (c : Nat) (x : SvCore) : (s.setSvc c x).graphs = s.graphs := rfl
@[simp] theorem State.setSvc_queues (s : State) (c : Nat) (x : SvCore) : (s.setSvc c x).queues = s.queues := rfl
@[simp] theorem State.setSvc_running (s : State) (c : Nat) (x : SvCore) : (s.setSvc c x).running = s.running := rfl
@[simp] theorem State.setSvc_graphTurn (s : State) (c : Nat) (x : SvCore) : (s.setSvc c x).graphTurn = s.graphTurn := rfl
@[simp] theorem State.setSvc_waitReplay (s : State) (c : Nat) (x : SvCore) : (s.setSvc c x).waitReplay = s.waitReplay := rfl
@[simp] theorem State.setSvc_saved (s : State) (c : Nat) (x : SvCore) : (s.setSvc c x).saved = s.saved := rfl
@[simp] theorem State.setSvc_lost (s : State) (c : Nat) (x : SvCore) : (s.setSvc c x).lost = s.lost := rfl
@[simp] theorem State.setSvc_reservations (s : State) (c : Nat) (x : SvCore) : (s.setSvc c x).reservations = s.reservations := rfl
@[simp] theorem State.setSvc_crbase (s : State) (c : Nat) (x : SvCore) : (s.setSvc c x).crbase = s.crbase := rfl
@[simp] theorem State.setSvc_crsize (s : State) (c : Nat) (x : SvCore) : (s.setSvc c x).crsize = s.crsize := rfl
@[simp] theorem State.setSvc_crhead (s : State) (c : Nat) (x : SvCore) : (s.setSvc c x).crhead = s.crhead := rfl
@[simp] theorem State.setSvc_crtail (s : State) (c : Nat) (x : SvCore) : (s.setSvc c x).crtail = s.crtail := rfl
@[simp] theorem State.setSvc_binds (s : State) (c : Nat) (x : SvCore) : (s.setSvc c x).binds = s.binds := rfl
@[simp] theorem State.setSvc_cmdFailed (s : State) (c : Nat) (x : SvCore) : (s.setSvc c x).cmdFailed = s.cmdFailed := rfl
@[simp] theorem State.setSvc_msix (s : State) (c : Nat) (x : SvCore) : (s.setSvc c x).msix = s.msix := rfl
@[simp] theorem State.setSvc_aer (s : State) (c : Nat) (x : SvCore) : (s.setSvc c x).aer = s.aer := rfl
@[simp] theorem State.setSvc_i3cReport (s : State) (c : Nat) (x : SvCore) : (s.setSvc c x).i3cReport = s.i3cReport := rfl
@[simp] theorem State.setSvc_inc (s : State) (c : Nat) (x : SvCore) : (s.setSvc c x).inc = s.inc := rfl
@[simp] theorem State.setSvc_peerInc (s : State) (c : Nat) (x : SvCore) : (s.setSvc c x).peerInc = s.peerInc := rfl
@[simp] theorem State.setSvc_sysSeqs (s : State) (c : Nat) (x : SvCore) : (s.setSvc c x).sysSeqs = s.sysSeqs := rfl
@[simp] theorem State.setSvc_afterglow (s : State) (c : Nat) (x : SvCore) : (s.setSvc c x).afterglow = s.afterglow := rfl
@[simp] theorem State.setSvc_floors (s : State) (c : Nat) (x : SvCore) : (s.setSvc c x).floors = s.floors := rfl
@[simp] theorem State.setSvc_routs (s : State) (c : Nat) (x : SvCore) : (s.setSvc c x).routs = s.routs := rfl
@[simp] theorem State.setSvc_requests (s : State) (c : Nat) (x : SvCore) : (s.setSvc c x).requests = s.requests := rfl
@[simp] theorem State.setSvc_responses (s : State) (c : Nat) (x : SvCore) : (s.setSvc c x).responses = s.responses := rfl
@[simp] theorem State.setSvc_acks (s : State) (c : Nat) (x : SvCore) : (s.setSvc c x).acks = s.acks := rfl
@[simp] theorem State.setSvc_retires (s : State) (c : Nat) (x : SvCore) : (s.setSvc c x).retires = s.retires := rfl
@[simp] theorem State.setSvc_hslots (s : State) (c : Nat) (x : SvCore) : (s.setSvc c x).hslots = s.hslots := rfl
@[simp] theorem State.setSvc_hruns (s : State) (c : Nat) (x : SvCore) : (s.setSvc c x).hruns = s.hruns := rfl
@[simp] theorem State.setSvc_comms (s : State) (c : Nat) (x : SvCore) : (s.setSvc c x).comms = s.comms := rfl
@[simp] theorem State.setSvc_ccount (s : State) (c : Nat) (x : SvCore) : (s.setSvc c x).ccount = s.ccount := rfl
@[simp] theorem State.setSvc_formed (s : State) (c : Nat) (x : SvCore) : (s.setSvc c x).formed = s.formed := rfl
@[simp] theorem State.setSvc_collTurn (s : State) (c : Nat) (x : SvCore) : (s.setSvc c x).collTurn = s.collTurn := rfl
@[simp] theorem State.setSvc_recs (s : State) (c : Nat) (x : SvCore) : (s.setSvc c x).recs = s.recs := rfl
@[simp] theorem State.setSvc_chunks (s : State) (c : Nat) (x : SvCore) : (s.setSvc c x).chunks = s.chunks := rfl
@[simp] theorem State.setSvc_chunkParts (s : State) (c : Nat) (x : SvCore) : (s.setSvc c x).chunkParts = s.chunkParts := rfl
@[simp] theorem State.setSvc_creditMsgs (s : State) (c : Nat) (x : SvCore) : (s.setSvc c x).creditMsgs = s.creditMsgs := rfl
@[simp] theorem State.setSvc_ports (s : State) (c : Nat) (x : SvCore) : (s.setSvc c x).ports = s.ports := rfl
@[simp] theorem State.setSvc_routes (s : State) (c : Nat) (x : SvCore) : (s.setSvc c x).routes = s.routes := rfl
@[simp] theorem State.setSvc_lanes (s : State) (c : Nat) (x : SvCore) : (s.setSvc c x).lanes = s.lanes := rfl
@[simp] theorem State.setSvc_mapgen (s : State) (c : Nat) (x : SvCore) : (s.setSvc c x).mapgen = s.mapgen := rfl
@[simp] theorem State.setSvc_lremap (s : State) (c : Nat) (x : SvCore) : (s.setSvc c x).lremap = s.lremap := rfl
@[simp] theorem State.setSvc_laneCounters (s : State) (c : Nat) (x : SvCore) : (s.setSvc c x).laneCounters = s.laneCounters := rfl
@[simp] theorem State.setSvc_laneSyms (s : State) (c : Nat) (x : SvCore) : (s.setSvc c x).laneSyms = s.laneSyms := rfl
@[simp] theorem State.setSvc_telemetry (s : State) (c : Nat) (x : SvCore) : (s.setSvc c x).telemetry = s.telemetry := rfl
@[simp] theorem State.setSvc_latches (s : State) (c : Nat) (x : SvCore) : (s.setSvc c x).latches = s.latches := rfl
@[simp] theorem State.setSvc_transports (s : State) (c : Nat) (x : SvCore) : (s.setSvc c x).transports = s.transports := rfl
@[simp] theorem State.setSvc_meshRetry (s : State) (c : Nat) (x : SvCore) : (s.setSvc c x).meshRetry = s.meshRetry := rfl
@[simp] theorem State.setSvc_meshFenced (s : State) (c : Nat) (x : SvCore) : (s.setSvc c x).meshFenced = s.meshFenced := rfl
@[simp] theorem State.setSvc_meshNotes (s : State) (c : Nat) (x : SvCore) : (s.setSvc c x).meshNotes = s.meshNotes := rfl
@[simp] theorem State.setSvc_rights (s : State) (c : Nat) (x : SvCore) : (s.setSvc c x).rights = s.rights := rfl
@[simp] theorem State.setSvc_classes (s : State) (c : Nat) (x : SvCore) : (s.setSvc c x).classes = s.classes := rfl
@[simp] theorem State.setSvc_diectl (s : State) (c : Nat) (x : SvCore) : (s.setSvc c x).diectl = s.diectl := rfl
@[simp] theorem State.setSvc_llcpin (s : State) (c : Nat) (x : SvCore) : (s.setSvc c x).llcpin = s.llcpin := rfl
@[simp] theorem State.setSvc_dvfs (s : State) (c : Nat) (x : SvCore) : (s.setSvc c x).dvfs = s.dvfs := rfl
@[simp] theorem State.setSvc_pcap (s : State) (c : Nat) (x : SvCore) : (s.setSvc c x).pcap = s.pcap := rfl
@[simp] theorem State.setSvc_counters (s : State) (c : Nat) (x : SvCore) : (s.setSvc c x).counters = s.counters := rfl
@[simp] theorem State.setSvc_measures (s : State) (c : Nat) (x : SvCore) : (s.setSvc c x).measures = s.measures := rfl
@[simp] theorem State.setSvc_flash (s : State) (c : Nat) (x : SvCore) : (s.setSvc c x).flash = s.flash := rfl
@[simp] theorem State.setSvc_booted (s : State) (c : Nat) (x : SvCore) : (s.setSvc c x).booted = s.booted := rfl

/-! ## fresh1 -/

@[simp] theorem State.fresh1_agenda (s : State) : (s.fresh1).agenda = s.agenda := rfl
@[simp] theorem State.fresh1_turn (s : State) : (s.fresh1).turn = s.turn := rfl
@[simp] theorem State.fresh1_fresh (s : State) : (s.fresh1).fresh = s.fresh + 1 := rfl
@[simp] theorem State.fresh1_nextId (s : State) : (s.fresh1).nextId = s.nextId := rfl
@[simp] theorem State.fresh1_pkgId (s : State) : (s.fresh1).pkgId = s.pkgId := rfl
@[simp] theorem State.fresh1_stamp (s : State) : (s.fresh1).stamp = s.stamp := rfl
@[simp] theorem State.fresh1_tiles (s : State) : (s.fresh1).tiles = s.tiles := rfl
@[simp] theorem State.fresh1_residents (s : State) : (s.fresh1).residents = s.residents := rfl
@[simp] theorem State.fresh1_svs (s : State) : (s.fresh1).svs = s.svs := rfl
@[simp] theorem State.fresh1_wdog (s : State) : (s.fresh1).wdog = s.wdog := rfl
@[simp] theorem State.fresh1_svpool (s : State) : (s.fresh1).svpool = s.svpool := rfl
@[simp] theorem State.fresh1_svpooln (s : State) : (s.fresh1).svpooln = s.svpooln := rfl
@[simp] theorem State.fresh1_atbase (s : State) : (s.fresh1).atbase = s.atbase := rfl
@[simp] theorem State.fresh1_mem (s : State) : (s.fresh1).mem = s.mem := rfl
@[simp] theorem State.fresh1_poison (s : State) : (s.fresh1).poison = s.poison := rfl
@[simp] theorem State.fresh1_corrected (s : State) : (s.fresh1).corrected = s.corrected := rfl
@[simp] theorem State.fresh1_retired (s : State) : (s.fresh1).retired = s.retired := rfl
@[simp] theorem State.fresh1_pinned (s : State) : (s.fresh1).pinned = s.pinned := rfl
@[simp] theorem State.fresh1_directory (s : State) : (s.fresh1).directory = s.directory := rfl
@[simp] theorem State.fresh1_gaccs (s : State) : (s.fresh1).gaccs = s.gaccs := rfl
@[simp] theorem State.fresh1_vops (s : State) : (s.fresh1).vops = s.vops := rfl
@[simp] theorem State.fresh1_walks (s : State) : (s.fresh1).walks = s.walks := rfl
@[simp] theorem State.fresh1_stlbs (s : State) : (s.fresh1).stlbs = s.stlbs := rfl
@[simp] theorem State.fresh1_hostOut (s : State) : (s.fresh1).hostOut = s.hostOut := rfl
@[simp] theorem State.fresh1_pwcs (s : State) : (s.fresh1).pwcs = s.pwcs := rfl
@[simp] theorem State.fresh1_unflushed (s : State) : (s.fresh1).unflushed = s.unflushed := rfl
@[simp] theorem State.fresh1_hostTimeout (s : State) : (s.fresh1).hostTimeout = s.hostTimeout := rfl
@[simp] theorem State.fresh1_hostReads (s : State) : (s.fresh1).hostReads = s.hostReads := rfl
@[simp] theorem State.fresh1_cohorts (s : State) : (s.fresh1).cohorts = s.cohorts := rfl
@[simp] theorem State.fresh1_events (s : State) : (s.fresh1).events = s.events := rfl
@[simp] theorem State.fresh1_updates (s : State) : (s.fresh1).updates = s.updates := rfl
@[simp] theorem State.fresh1_peerCounts (s : State) : (s.fresh1).peerCounts = s.peerCounts := rfl
@[simp] theorem State.fresh1_peerStatus (s : State) : (s.fresh1).peerStatus = s.peerStatus := rfl
@[simp] theorem State.fresh1_peerDeps (s : State) : (s.fresh1).peerDeps = s.peerDeps := rfl
@[simp] theorem State.fresh1_graphs (s : State) : (s.fresh1).graphs = s.graphs := rfl
@[simp] theorem State.fresh1_queues (s : State) : (s.fresh1).queues = s.queues := rfl
@[simp] theorem State.fresh1_running (s : State) : (s.fresh1).running = s.running := rfl
@[simp] theorem State.fresh1_graphTurn (s : State) : (s.fresh1).graphTurn = s.graphTurn := rfl
@[simp] theorem State.fresh1_waitReplay (s : State) : (s.fresh1).waitReplay = s.waitReplay := rfl
@[simp] theorem State.fresh1_saved (s : State) : (s.fresh1).saved = s.saved := rfl
@[simp] theorem State.fresh1_lost (s : State) : (s.fresh1).lost = s.lost := rfl
@[simp] theorem State.fresh1_reservations (s : State) : (s.fresh1).reservations = s.reservations := rfl
@[simp] theorem State.fresh1_crbase (s : State) : (s.fresh1).crbase = s.crbase := rfl
@[simp] theorem State.fresh1_crsize (s : State) : (s.fresh1).crsize = s.crsize := rfl
@[simp] theorem State.fresh1_crhead (s : State) : (s.fresh1).crhead = s.crhead := rfl
@[simp] theorem State.fresh1_crtail (s : State) : (s.fresh1).crtail = s.crtail := rfl
@[simp] theorem State.fresh1_binds (s : State) : (s.fresh1).binds = s.binds := rfl
@[simp] theorem State.fresh1_cmdFailed (s : State) : (s.fresh1).cmdFailed = s.cmdFailed := rfl
@[simp] theorem State.fresh1_msix (s : State) : (s.fresh1).msix = s.msix := rfl
@[simp] theorem State.fresh1_aer (s : State) : (s.fresh1).aer = s.aer := rfl
@[simp] theorem State.fresh1_i3cReport (s : State) : (s.fresh1).i3cReport = s.i3cReport := rfl
@[simp] theorem State.fresh1_inc (s : State) : (s.fresh1).inc = s.inc := rfl
@[simp] theorem State.fresh1_peerInc (s : State) : (s.fresh1).peerInc = s.peerInc := rfl
@[simp] theorem State.fresh1_sysSeqs (s : State) : (s.fresh1).sysSeqs = s.sysSeqs := rfl
@[simp] theorem State.fresh1_afterglow (s : State) : (s.fresh1).afterglow = s.afterglow := rfl
@[simp] theorem State.fresh1_floors (s : State) : (s.fresh1).floors = s.floors := rfl
@[simp] theorem State.fresh1_routs (s : State) : (s.fresh1).routs = s.routs := rfl
@[simp] theorem State.fresh1_requests (s : State) : (s.fresh1).requests = s.requests := rfl
@[simp] theorem State.fresh1_responses (s : State) : (s.fresh1).responses = s.responses := rfl
@[simp] theorem State.fresh1_acks (s : State) : (s.fresh1).acks = s.acks := rfl
@[simp] theorem State.fresh1_retires (s : State) : (s.fresh1).retires = s.retires := rfl
@[simp] theorem State.fresh1_hslots (s : State) : (s.fresh1).hslots = s.hslots := rfl
@[simp] theorem State.fresh1_hruns (s : State) : (s.fresh1).hruns = s.hruns := rfl
@[simp] theorem State.fresh1_comms (s : State) : (s.fresh1).comms = s.comms := rfl
@[simp] theorem State.fresh1_ccount (s : State) : (s.fresh1).ccount = s.ccount := rfl
@[simp] theorem State.fresh1_formed (s : State) : (s.fresh1).formed = s.formed := rfl
@[simp] theorem State.fresh1_collTurn (s : State) : (s.fresh1).collTurn = s.collTurn := rfl
@[simp] theorem State.fresh1_recs (s : State) : (s.fresh1).recs = s.recs := rfl
@[simp] theorem State.fresh1_chunks (s : State) : (s.fresh1).chunks = s.chunks := rfl
@[simp] theorem State.fresh1_chunkParts (s : State) : (s.fresh1).chunkParts = s.chunkParts := rfl
@[simp] theorem State.fresh1_creditMsgs (s : State) : (s.fresh1).creditMsgs = s.creditMsgs := rfl
@[simp] theorem State.fresh1_ports (s : State) : (s.fresh1).ports = s.ports := rfl
@[simp] theorem State.fresh1_routes (s : State) : (s.fresh1).routes = s.routes := rfl
@[simp] theorem State.fresh1_lanes (s : State) : (s.fresh1).lanes = s.lanes := rfl
@[simp] theorem State.fresh1_mapgen (s : State) : (s.fresh1).mapgen = s.mapgen := rfl
@[simp] theorem State.fresh1_lremap (s : State) : (s.fresh1).lremap = s.lremap := rfl
@[simp] theorem State.fresh1_laneCounters (s : State) : (s.fresh1).laneCounters = s.laneCounters := rfl
@[simp] theorem State.fresh1_laneSyms (s : State) : (s.fresh1).laneSyms = s.laneSyms := rfl
@[simp] theorem State.fresh1_telemetry (s : State) : (s.fresh1).telemetry = s.telemetry := rfl
@[simp] theorem State.fresh1_latches (s : State) : (s.fresh1).latches = s.latches := rfl
@[simp] theorem State.fresh1_transports (s : State) : (s.fresh1).transports = s.transports := rfl
@[simp] theorem State.fresh1_meshRetry (s : State) : (s.fresh1).meshRetry = s.meshRetry := rfl
@[simp] theorem State.fresh1_meshFenced (s : State) : (s.fresh1).meshFenced = s.meshFenced := rfl
@[simp] theorem State.fresh1_meshNotes (s : State) : (s.fresh1).meshNotes = s.meshNotes := rfl
@[simp] theorem State.fresh1_rights (s : State) : (s.fresh1).rights = s.rights := rfl
@[simp] theorem State.fresh1_classes (s : State) : (s.fresh1).classes = s.classes := rfl
@[simp] theorem State.fresh1_diectl (s : State) : (s.fresh1).diectl = s.diectl := rfl
@[simp] theorem State.fresh1_llcpin (s : State) : (s.fresh1).llcpin = s.llcpin := rfl
@[simp] theorem State.fresh1_dvfs (s : State) : (s.fresh1).dvfs = s.dvfs := rfl
@[simp] theorem State.fresh1_pcap (s : State) : (s.fresh1).pcap = s.pcap := rfl
@[simp] theorem State.fresh1_counters (s : State) : (s.fresh1).counters = s.counters := rfl
@[simp] theorem State.fresh1_measures (s : State) : (s.fresh1).measures = s.measures := rfl
@[simp] theorem State.fresh1_flash (s : State) : (s.fresh1).flash = s.flash := rfl
@[simp] theorem State.fresh1_booted (s : State) : (s.fresh1).booted = s.booted := rfl

/-! ## count -/

@[simp] theorem State.count_agenda (s : State) (b k c n : Nat) : (s.count b k c n).agenda = s.agenda := rfl
@[simp] theorem State.count_turn (s : State) (b k c n : Nat) : (s.count b k c n).turn = s.turn := rfl
@[simp] theorem State.count_fresh (s : State) (b k c n : Nat) : (s.count b k c n).fresh = s.fresh := rfl
@[simp] theorem State.count_nextId (s : State) (b k c n : Nat) : (s.count b k c n).nextId = s.nextId := rfl
@[simp] theorem State.count_pkgId (s : State) (b k c n : Nat) : (s.count b k c n).pkgId = s.pkgId := rfl
@[simp] theorem State.count_stamp (s : State) (b k c n : Nat) : (s.count b k c n).stamp = s.stamp := rfl
@[simp] theorem State.count_tiles (s : State) (b k c n : Nat) : (s.count b k c n).tiles = s.tiles := rfl
@[simp] theorem State.count_residents (s : State) (b k c n : Nat) : (s.count b k c n).residents = s.residents := rfl
@[simp] theorem State.count_svs (s : State) (b k c n : Nat) : (s.count b k c n).svs = s.svs := rfl
@[simp] theorem State.count_wdog (s : State) (b k c n : Nat) : (s.count b k c n).wdog = s.wdog := rfl
@[simp] theorem State.count_svpool (s : State) (b k c n : Nat) : (s.count b k c n).svpool = s.svpool := rfl
@[simp] theorem State.count_svpooln (s : State) (b k c n : Nat) : (s.count b k c n).svpooln = s.svpooln := rfl
@[simp] theorem State.count_atbase (s : State) (b k c n : Nat) : (s.count b k c n).atbase = s.atbase := rfl
@[simp] theorem State.count_mem (s : State) (b k c n : Nat) : (s.count b k c n).mem = s.mem := rfl
@[simp] theorem State.count_poison (s : State) (b k c n : Nat) : (s.count b k c n).poison = s.poison := rfl
@[simp] theorem State.count_corrected (s : State) (b k c n : Nat) : (s.count b k c n).corrected = s.corrected := rfl
@[simp] theorem State.count_retired (s : State) (b k c n : Nat) : (s.count b k c n).retired = s.retired := rfl
@[simp] theorem State.count_pinned (s : State) (b k c n : Nat) : (s.count b k c n).pinned = s.pinned := rfl
@[simp] theorem State.count_directory (s : State) (b k c n : Nat) : (s.count b k c n).directory = s.directory := rfl
@[simp] theorem State.count_gaccs (s : State) (b k c n : Nat) : (s.count b k c n).gaccs = s.gaccs := rfl
@[simp] theorem State.count_vops (s : State) (b k c n : Nat) : (s.count b k c n).vops = s.vops := rfl
@[simp] theorem State.count_walks (s : State) (b k c n : Nat) : (s.count b k c n).walks = s.walks := rfl
@[simp] theorem State.count_stlbs (s : State) (b k c n : Nat) : (s.count b k c n).stlbs = s.stlbs := rfl
@[simp] theorem State.count_hostOut (s : State) (b k c n : Nat) : (s.count b k c n).hostOut = s.hostOut := rfl
@[simp] theorem State.count_pwcs (s : State) (b k c n : Nat) : (s.count b k c n).pwcs = s.pwcs := rfl
@[simp] theorem State.count_unflushed (s : State) (b k c n : Nat) : (s.count b k c n).unflushed = s.unflushed := rfl
@[simp] theorem State.count_hostTimeout (s : State) (b k c n : Nat) : (s.count b k c n).hostTimeout = s.hostTimeout := rfl
@[simp] theorem State.count_hostReads (s : State) (b k c n : Nat) : (s.count b k c n).hostReads = s.hostReads := rfl
@[simp] theorem State.count_cohorts (s : State) (b k c n : Nat) : (s.count b k c n).cohorts = s.cohorts := rfl
@[simp] theorem State.count_events (s : State) (b k c n : Nat) : (s.count b k c n).events = s.events := rfl
@[simp] theorem State.count_updates (s : State) (b k c n : Nat) : (s.count b k c n).updates = s.updates := rfl
@[simp] theorem State.count_peerCounts (s : State) (b k c n : Nat) : (s.count b k c n).peerCounts = s.peerCounts := rfl
@[simp] theorem State.count_peerStatus (s : State) (b k c n : Nat) : (s.count b k c n).peerStatus = s.peerStatus := rfl
@[simp] theorem State.count_peerDeps (s : State) (b k c n : Nat) : (s.count b k c n).peerDeps = s.peerDeps := rfl
@[simp] theorem State.count_graphs (s : State) (b k c n : Nat) : (s.count b k c n).graphs = s.graphs := rfl
@[simp] theorem State.count_queues (s : State) (b k c n : Nat) : (s.count b k c n).queues = s.queues := rfl
@[simp] theorem State.count_running (s : State) (b k c n : Nat) : (s.count b k c n).running = s.running := rfl
@[simp] theorem State.count_graphTurn (s : State) (b k c n : Nat) : (s.count b k c n).graphTurn = s.graphTurn := rfl
@[simp] theorem State.count_waitReplay (s : State) (b k c n : Nat) : (s.count b k c n).waitReplay = s.waitReplay := rfl
@[simp] theorem State.count_saved (s : State) (b k c n : Nat) : (s.count b k c n).saved = s.saved := rfl
@[simp] theorem State.count_lost (s : State) (b k c n : Nat) : (s.count b k c n).lost = s.lost := rfl
@[simp] theorem State.count_reservations (s : State) (b k c n : Nat) : (s.count b k c n).reservations = s.reservations := rfl
@[simp] theorem State.count_crbase (s : State) (b k c n : Nat) : (s.count b k c n).crbase = s.crbase := rfl
@[simp] theorem State.count_crsize (s : State) (b k c n : Nat) : (s.count b k c n).crsize = s.crsize := rfl
@[simp] theorem State.count_crhead (s : State) (b k c n : Nat) : (s.count b k c n).crhead = s.crhead := rfl
@[simp] theorem State.count_crtail (s : State) (b k c n : Nat) : (s.count b k c n).crtail = s.crtail := rfl
@[simp] theorem State.count_binds (s : State) (b k c n : Nat) : (s.count b k c n).binds = s.binds := rfl
@[simp] theorem State.count_cmdFailed (s : State) (b k c n : Nat) : (s.count b k c n).cmdFailed = s.cmdFailed := rfl
@[simp] theorem State.count_msix (s : State) (b k c n : Nat) : (s.count b k c n).msix = s.msix := rfl
@[simp] theorem State.count_aer (s : State) (b k c n : Nat) : (s.count b k c n).aer = s.aer := rfl
@[simp] theorem State.count_i3cReport (s : State) (b k c n : Nat) : (s.count b k c n).i3cReport = s.i3cReport := rfl
@[simp] theorem State.count_inc (s : State) (b k c n : Nat) : (s.count b k c n).inc = s.inc := rfl
@[simp] theorem State.count_peerInc (s : State) (b k c n : Nat) : (s.count b k c n).peerInc = s.peerInc := rfl
@[simp] theorem State.count_sysSeqs (s : State) (b k c n : Nat) : (s.count b k c n).sysSeqs = s.sysSeqs := rfl
@[simp] theorem State.count_afterglow (s : State) (b k c n : Nat) : (s.count b k c n).afterglow = s.afterglow := rfl
@[simp] theorem State.count_floors (s : State) (b k c n : Nat) : (s.count b k c n).floors = s.floors := rfl
@[simp] theorem State.count_routs (s : State) (b k c n : Nat) : (s.count b k c n).routs = s.routs := rfl
@[simp] theorem State.count_requests (s : State) (b k c n : Nat) : (s.count b k c n).requests = s.requests := rfl
@[simp] theorem State.count_responses (s : State) (b k c n : Nat) : (s.count b k c n).responses = s.responses := rfl
@[simp] theorem State.count_acks (s : State) (b k c n : Nat) : (s.count b k c n).acks = s.acks := rfl
@[simp] theorem State.count_retires (s : State) (b k c n : Nat) : (s.count b k c n).retires = s.retires := rfl
@[simp] theorem State.count_hslots (s : State) (b k c n : Nat) : (s.count b k c n).hslots = s.hslots := rfl
@[simp] theorem State.count_hruns (s : State) (b k c n : Nat) : (s.count b k c n).hruns = s.hruns := rfl
@[simp] theorem State.count_comms (s : State) (b k c n : Nat) : (s.count b k c n).comms = s.comms := rfl
@[simp] theorem State.count_ccount (s : State) (b k c n : Nat) : (s.count b k c n).ccount = s.ccount := rfl
@[simp] theorem State.count_formed (s : State) (b k c n : Nat) : (s.count b k c n).formed = s.formed := rfl
@[simp] theorem State.count_collTurn (s : State) (b k c n : Nat) : (s.count b k c n).collTurn = s.collTurn := rfl
@[simp] theorem State.count_recs (s : State) (b k c n : Nat) : (s.count b k c n).recs = s.recs := rfl
@[simp] theorem State.count_chunks (s : State) (b k c n : Nat) : (s.count b k c n).chunks = s.chunks := rfl
@[simp] theorem State.count_chunkParts (s : State) (b k c n : Nat) : (s.count b k c n).chunkParts = s.chunkParts := rfl
@[simp] theorem State.count_creditMsgs (s : State) (b k c n : Nat) : (s.count b k c n).creditMsgs = s.creditMsgs := rfl
@[simp] theorem State.count_ports (s : State) (b k c n : Nat) : (s.count b k c n).ports = s.ports := rfl
@[simp] theorem State.count_routes (s : State) (b k c n : Nat) : (s.count b k c n).routes = s.routes := rfl
@[simp] theorem State.count_lanes (s : State) (b k c n : Nat) : (s.count b k c n).lanes = s.lanes := rfl
@[simp] theorem State.count_mapgen (s : State) (b k c n : Nat) : (s.count b k c n).mapgen = s.mapgen := rfl
@[simp] theorem State.count_lremap (s : State) (b k c n : Nat) : (s.count b k c n).lremap = s.lremap := rfl
@[simp] theorem State.count_laneCounters (s : State) (b k c n : Nat) : (s.count b k c n).laneCounters = s.laneCounters := rfl
@[simp] theorem State.count_laneSyms (s : State) (b k c n : Nat) : (s.count b k c n).laneSyms = s.laneSyms := rfl
@[simp] theorem State.count_telemetry (s : State) (b k c n : Nat) : (s.count b k c n).telemetry = s.telemetry := rfl
@[simp] theorem State.count_latches (s : State) (b k c n : Nat) : (s.count b k c n).latches = s.latches := rfl
@[simp] theorem State.count_transports (s : State) (b k c n : Nat) : (s.count b k c n).transports = s.transports := rfl
@[simp] theorem State.count_meshRetry (s : State) (b k c n : Nat) : (s.count b k c n).meshRetry = s.meshRetry := rfl
@[simp] theorem State.count_meshFenced (s : State) (b k c n : Nat) : (s.count b k c n).meshFenced = s.meshFenced := rfl
@[simp] theorem State.count_meshNotes (s : State) (b k c n : Nat) : (s.count b k c n).meshNotes = s.meshNotes := rfl
@[simp] theorem State.count_rights (s : State) (b k c n : Nat) : (s.count b k c n).rights = s.rights := rfl
@[simp] theorem State.count_classes (s : State) (b k c n : Nat) : (s.count b k c n).classes = s.classes := rfl
@[simp] theorem State.count_diectl (s : State) (b k c n : Nat) : (s.count b k c n).diectl = s.diectl := rfl
@[simp] theorem State.count_llcpin (s : State) (b k c n : Nat) : (s.count b k c n).llcpin = s.llcpin := rfl
@[simp] theorem State.count_dvfs (s : State) (b k c n : Nat) : (s.count b k c n).dvfs = s.dvfs := rfl
@[simp] theorem State.count_pcap (s : State) (b k c n : Nat) : (s.count b k c n).pcap = s.pcap := rfl
@[simp] theorem State.count_measures (s : State) (b k c n : Nat) : (s.count b k c n).measures = s.measures := rfl
@[simp] theorem State.count_flash (s : State) (b k c n : Nat) : (s.count b k c n).flash = s.flash := rfl
@[simp] theorem State.count_booted (s : State) (b k c n : Nat) : (s.count b k c n).booted = s.booted := rfl

end Sys2Proof.Machine
end

