-- ==== Sys2Proof/Laws/Ops.lean ====
section
/-!
SUPPORT. What each shared operation does, said once: a program's advance, a scalar result, faults, traps, waits and block ends.
-/

namespace Sys2Proof.Machine

open Sys2Proof

/-! ## Scalar registers (R12, R13) -/

theorem SCtx.get_zero (c : SCtx) : c.get 0 = 0 := rfl

theorem SCtx.get_set_same (c : SCtx) (n : Nat) (v : Word) : (c.set n v).get n = if n = 0 then 0 else v := by
  unfold SCtx.get SCtx.set
  split <;> simp [*]

theorem SCtx.get_set_other (c : SCtx) {n k : Nat} (v : Word) (h : k ≠ n) : (c.set n v).get k = c.get k := by
  unfold SCtx.get SCtx.set
  split
  · rfl
  · split
    · rfl
    · exact fget_fset_other _ _ _ h

@[simp] theorem SCtx.get_normal (c : SCtx) (n : Nat) : c.normal.get n = c.get n := rfl

/-- A register write changes nothing of a context but its registers. -/
theorem SCtx.set_eq (c : SCtx) (n : Nat) (v : Word) : c.set n v = { c with sregs := (c.set n v).sregs } := by
  unfold SCtx.set
  split <;> rfl

/-! ## The scalar queue (R22, R23) -/

theorem SCtx.normal_stepped (c : SCtx) : QueueStepped c c.normal := ⟨rfl, rfl, rfl, rfl, rfl⟩

theorem SCtx.taken_queue (c : SCtx) (a : Addr) : QueueTaken c (c.taken a) a := ⟨rfl, rfl, rfl⟩

/-- Returning from a trap that was just taken gives back the queue, the annul bits, the registers and IE (R24, R141). -/
theorem SCtx.retTrap_takeTrap (c : SCtx) (k n : Nat) :
    let d := (c.takeTrap k n).retTrap
    d.pc = c.pc ∧ d.nx1 = c.nx1 ∧ d.nx2 = c.nx2 ∧ d.a0 = c.a0 ∧ d.a1 = c.a1 ∧ d.sregs = c.sregs := by
  refine ⟨rfl, rfl, rfl, ?_, ?_, rfl⟩ <;> cases h0 : c.a0 <;> cases h1 : c.a1 <;> simp [SCtx.retTrap, SCtx.takeTrap, h0, h1]

/-! ## A scalar result (R22, R128) -/

theorem scalarResult_writes (w : Who) (d : BitVec 6) (v : Word) (s : State) (h : ∀ k e, w = .task k e → e = .s) :
    WritesSreg w d v s (scalarResult w d v s) := by
  have hz : (d.toNat = 0) ↔ (d = 0) := by constructor <;> intro e <;> bv_omega
  cases w with
  | task k e =>
    obtain rfl : e = .s := h k e rfl
    refine ⟨⟨⟨rfl, ?_, fun c _ => rfl⟩, ?_⟩, ?_, ?_, ?_, ?_⟩
    · intro j hj
      have : j ≠ k := fun e => hj .s (by rw [e])
      simp [scalarResult, State.setSreg, State.advance, State.issued, State.countTile, State.res_setRes_other, this]
    · simp only [scalarResult, State.setSreg, State.advance, State.issued, State.countTile, State.modSc_task, State.modPrg_eq,
        State.res_setRes, State.res_count, Resident.setPrg, Resident.prg]
    · simp [scalarResult, State.setSreg, State.advance, State.issued, State.countTile, State.sc, QueueStepped, SCtx.normal,
        Resident.setPrg, SCtx.set]
      split <;> simp
    · simp [scalarResult, State.setSreg, State.advance, State.issued, State.countTile, State.sc, TrapsKept, SCtx.normal,
        Resident.setPrg, SCtx.set]
      split <;> simp
    · simp only [scalarResult, State.setSreg, State.sreg, State.advance, State.issued, State.countTile, State.sc, State.modSc_task,
        State.modPrg_eq, State.res_setRes, State.res_count, Resident.setPrg, SCtx.get_normal, SCtx.get_set_same, hz]
    · intro n hn
      have : n.toNat ≠ d.toNat := fun e => hn (BitVec.eq_of_toNat_eq e)
      simp only [scalarResult, State.setSreg, State.sreg, State.advance, State.issued, State.countTile, State.sc, State.modSc_task,
        State.modPrg_eq, State.res_setRes, State.res_count, Resident.setPrg, SCtx.get_normal, SCtx.get_set_other _ _ this]
  | sv k =>
    refine ⟨⟨⟨rfl, fun _ _ => rfl, ?_⟩, ?_⟩, ?_, ?_, ?_, ?_⟩
    · intro j hj
      have : j ≠ k := fun e => hj (by rw [e])
      simp [scalarResult, State.setSreg, State.advance, State.svc_setSvc_other, this]
    · simp only [scalarResult, State.setSreg, State.advance, State.modSc_sv, State.svc_setSvc]
    · simp [scalarResult, State.setSreg, State.advance, State.sc, QueueStepped, SCtx.normal, SCtx.set]
      split <;> simp
    · simp [scalarResult, State.setSreg, State.advance, State.sc, TrapsKept, SCtx.normal, SCtx.set]
      split <;> simp
    · simp only [scalarResult, State.setSreg, State.sreg, State.advance, State.sc, State.modSc_sv, State.svc_setSvc,
        SCtx.get_normal, SCtx.get_set_same, hz]
    · intro n hn
      have : n.toNat ≠ d.toNat := fun e => hn (BitVec.eq_of_toNat_eq e)
      simp only [scalarResult, State.setSreg, State.sreg, State.advance, State.sc, State.modSc_sv, State.svc_setSvc,
        SCtx.get_normal, SCtx.get_set_other _ _ this]

/-- A program's advance is a normal step of its queue and no more (R22). -/
theorem advance_steps (w : Who) (u : State) (h : ∀ k e, w = .task k e → e = .s) : ScalarSteps w u (u.advance w) := by
  cases w with
  | task k e =>
    obtain rfl : e = .s := h k e rfl
    refine ⟨⟨⟨rfl, ?_, fun c _ => rfl⟩, ?_⟩, ?_, ?_, ?_⟩
    · intro j hj
      have : j ≠ k := fun e => hj .s (by rw [e])
      simp [State.advance, State.issued, State.countTile, State.res_setRes_other, this]
    all_goals simp [State.advance, State.issued, State.countTile, State.sc, Resident.setPrg, Resident.prg, QueueStepped, TrapsKept,
      SCtx.normal]
  | sv k =>
    refine ⟨⟨⟨rfl, fun _ _ => rfl, ?_⟩, ?_⟩, ?_, ?_, ?_⟩
    · intro j hj
      have : j ≠ k := fun e => hj (by rw [e])
      simp [State.advance, State.svc_setSvc_other, this]
    all_goals simp [State.advance, State.sc, QueueStepped, TrapsKept, SCtx.normal]

/-- An instruction whose next state is an advance over u steps over it. -/
theorem completes_steps {s u : State} {w : Who} {i : Instr} (h : ScalarTurn s w) (e : exec i s = .next (u.advance w)) :
    Completes i s (ScalarSteps w u) := ⟨_, e, advance_steps w u h.2⟩

/-- An access that translates goes on at once; only a store may first set the D bit of the page's entry (R298). -/
theorem withTarget_of {s : State} {w : Who} {va : Nat} {a : Acc} {q : Bool} {tgt : Target} {leaf : BitVec 64} {k : ParkKind}
    {f : Target → BitVec 64 → State → Out} (h : Translates s w va a q tgt leaf) :
    withTarget w va a q k s f = f tgt leaf (s.touchTlb w.tlb (s.asidOf w) va a) := by
  simp [withTarget, h.1, h.2]

/-- An access of another kind than a store leaves the state as it is when its translation is held. -/
theorem touchTlb_hit {s : State} {w : Who} {va : Nat} {a : Acc} {q : Bool} {tgt : Target} {leaf : BitVec 64} (ha : a ≠ .store)
    (h : Translates s w va a q tgt leaf) : s.touchTlb w.tlb (s.asidOf w) va a = s := by
  have h1 := h.1
  unfold State.translate at h1
  unfold State.touchTlb
  split
  · rfl
  · split at h1
    · cases h1
    · split at h1
      · cases h1
      · split at h1
        · cases h1
        · simp_all

/-- An access that no watermark holds goes on. -/
theorem heldOp_of {s : State} {w : Who} {g : Bool} {a n : Nat} {k : State → Out} (h : NotHeld s w g a n) : heldOp w g a n s k = k s := by
  cases w <;> simp_all [heldOp, NotHeld]

theorem heldUnsettled_of {s : State} {w : Who} {g : Bool} {a n : Nat} (h : NotHeld s w g a n) : s.heldUnsettled w g a n = false := by
  cases w with
  | task k e => cases e <;> simp_all [State.heldUnsettled, NotHeld]
  | sv c => rfl

/-- A program's advance is one step of it and no more. -/
theorem advance_programSteps (w : Who) (u : State) : ProgramSteps w u (u.advance w) := by
  match w with
  | .task h .s => exact advance_steps _ u (by rintro _ _ ⟨⟩; rfl)
  | .sv c => exact advance_steps _ u (by rintro _ _ ⟨⟩)
  | .task h .v =>
    refine ⟨rfl, fun k hk => ?_, fun c => rfl, ?_⟩
    · simp [State.advance, State.issued, State.countTile, State.res_setRes_other, hk]
    · simp [State.advance, State.issued, State.countTile, Resident.setPrg, Resident.prg]
  | .task h .m =>
    refine ⟨rfl, fun k hk => ?_, fun c => rfl, ?_⟩
    · simp [State.advance, State.issued, State.countTile, State.res_setRes_other, hk]
    · simp [State.advance, State.issued, State.countTile, Resident.setPrg, Resident.prg]
  | .task h .c =>
    refine ⟨rfl, fun k hk => ?_, fun c => rfl, ?_⟩
    · simp [State.advance, State.issued, State.countTile, State.res_setRes_other, hk]
    · simp [State.advance, State.issued, State.countTile, Resident.setPrg, Resident.prg]

/-- An instruction of any engine whose next state is an advance over u steps over it. -/
theorem completes_programSteps {s u : State} {w : Who} {i : Instr} (e : exec i s = .next (u.advance w)) :
    Completes i s (ProgramSteps w u) := ⟨_, e, advance_programSteps w u⟩

/-- A wait whose condition holds passes, unhindered (R30, R31). -/
theorem waitOp_passes {s : State} {w : Who} {x : Wait} {p k : State → Out} (hx : s.waitHolds w.resident x = true)
    (u : Unhindered s w) : waitOp w x s p k = p (s.waited w) := by
  match w with
  | .sv c => simp_all [waitOp, Who.resident, State.waited]
  | .task h .s =>
    simp only [Unhindered, Who.resident] at *
    simp only [waitOp, State.waited, u.1, u.2, hx, Bool.false_and, Bool.not_false, Bool.and_self, if_true, Bool.false_eq_true, if_false]
  | .task h .v =>
    simp only [Unhindered, Who.resident] at *
    simp only [waitOp, State.waited, u.1, u.2, hx, Bool.false_and, Bool.not_false, Bool.and_self, if_true, Bool.false_eq_true, if_false]
  | .task h .m =>
    simp only [Unhindered, Who.resident] at *
    simp only [waitOp, State.waited, u.1, u.2, hx, Bool.false_and, Bool.not_false, Bool.and_self, if_true, Bool.false_eq_true, if_false]
  | .task h .c =>
    simp only [Unhindered, Who.resident] at *
    simp only [waitOp, State.waited, u.1, u.2, hx, Bool.false_and, Bool.not_false, Bool.and_self, if_true, Bool.false_eq_true, if_false]

/-- The scalar program whose turn it is runs the instruction. -/
theorem onScalar_of {s : State} {w : Who} (h : ScalarTurn s w) (k : Who → Out) : onScalar s k = k w := by
  obtain ⟨h1, h2⟩ := h
  cases w with
  | task j e => obtain rfl := h2 j e rfl; simp [onScalar, h1]
  | sv c => simp [onScalar, h1]

/-- An instruction whose next state is a scalar result writes it. -/
theorem completes_sreg {s : State} {w : Who} {i : Instr} {d : BitVec 6} {u v : Word} (h : ScalarTurn s w)
    (e : exec i s = .next (scalarResult w d u s)) (q : u = v) : Completes i s (WritesSreg w d v s) :=
  q ▸ ⟨_, e, scalarResult_writes w d u s h.2⟩

end Sys2Proof.Machine
end

