-- ==== Sys2Proof/Laws/PerInstr.lean ====
section
/-!
SUPPORT. Which instructions have words, constructor by constructor: a word of 32 bits for every instruction of a tile engine or of the
near-memory engines, a step word for every instruction of a collective program, none for the events.
-/

namespace Sys2Proof.Laws.HasWord

open Sys2Proof

/-- The encoder gives a word exactly for the instructions of an instruction set with 32-bit words, and a step word exactly for steps. -/
def Statement (i : Instr) : Prop :=
  (encode i).isSome = i.isas.any (fun isa => decide (isa ≠ .collective)) ∧ (encodeStep i).isSome = i.isas.contains .collective

theorem nop : Statement .nop := ⟨rfl, rfl⟩
theorem add (d : BitVec 6) (a : BitVec 6) (b : BitVec 6) : Statement (.add d a b) := ⟨rfl, rfl⟩
theorem sub (d : BitVec 6) (a : BitVec 6) (b : BitVec 6) : Statement (.sub d a b) := ⟨rfl, rfl⟩
theorem and (d : BitVec 6) (a : BitVec 6) (b : BitVec 6) : Statement (.and d a b) := ⟨rfl, rfl⟩
theorem or (d : BitVec 6) (a : BitVec 6) (b : BitVec 6) : Statement (.or d a b) := ⟨rfl, rfl⟩
theorem xor (d : BitVec 6) (a : BitVec 6) (b : BitVec 6) : Statement (.xor d a b) := ⟨rfl, rfl⟩
theorem shl (d : BitVec 6) (a : BitVec 6) (b : BitVec 6) : Statement (.shl d a b) := ⟨rfl, rfl⟩
theorem shr (d : BitVec 6) (a : BitVec 6) (b : BitVec 6) : Statement (.shr d a b) := ⟨rfl, rfl⟩
theorem sra (d : BitVec 6) (a : BitVec 6) (b : BitVec 6) : Statement (.sra d a b) := ⟨rfl, rfl⟩
theorem slt (d : BitVec 6) (a : BitVec 6) (b : BitVec 6) : Statement (.slt d a b) := ⟨rfl, rfl⟩
theorem sltu (d : BitVec 6) (a : BitVec 6) (b : BitVec 6) : Statement (.sltu d a b) := ⟨rfl, rfl⟩
theorem mul (d : BitVec 6) (a : BitVec 6) (b : BitVec 6) : Statement (.mul d a b) := ⟨rfl, rfl⟩
theorem mulh (d : BitVec 6) (a : BitVec 6) (b : BitVec 6) : Statement (.mulh d a b) := ⟨rfl, rfl⟩
theorem mulhu (d : BitVec 6) (a : BitVec 6) (b : BitVec 6) : Statement (.mulhu d a b) := ⟨rfl, rfl⟩
theorem div (d : BitVec 6) (a : BitVec 6) (b : BitVec 6) : Statement (.div d a b) := ⟨rfl, rfl⟩
theorem divu (d : BitVec 6) (a : BitVec 6) (b : BitVec 6) : Statement (.divu d a b) := ⟨rfl, rfl⟩
theorem rem (d : BitVec 6) (a : BitVec 6) (b : BitVec 6) : Statement (.rem d a b) := ⟨rfl, rfl⟩
theorem remu (d : BitVec 6) (a : BitVec 6) (b : BitVec 6) : Statement (.remu d a b) := ⟨rfl, rfl⟩
theorem min (d : BitVec 6) (a : BitVec 6) (b : BitVec 6) : Statement (.min d a b) := ⟨rfl, rfl⟩
theorem max (d : BitVec 6) (a : BitVec 6) (b : BitVec 6) : Statement (.max d a b) := ⟨rfl, rfl⟩
theorem minu (d : BitVec 6) (a : BitVec 6) (b : BitVec 6) : Statement (.minu d a b) := ⟨rfl, rfl⟩
theorem maxu (d : BitVec 6) (a : BitVec 6) (b : BitVec 6) : Statement (.maxu d a b) := ⟨rfl, rfl⟩
theorem clz (d : BitVec 6) (a : BitVec 6) : Statement (.clz d a) := ⟨rfl, rfl⟩
theorem ctz (d : BitVec 6) (a : BitVec 6) : Statement (.ctz d a) := ⟨rfl, rfl⟩
theorem popc (d : BitVec 6) (a : BitVec 6) : Statement (.popc d a) := ⟨rfl, rfl⟩
theorem addi (d : BitVec 6) (a : BitVec 6) (i : BitVec 14) : Statement (.addi d a i) := ⟨rfl, rfl⟩
theorem andi (d : BitVec 6) (a : BitVec 6) (i : BitVec 14) : Statement (.andi d a i) := ⟨rfl, rfl⟩
theorem ori (d : BitVec 6) (a : BitVec 6) (i : BitVec 14) : Statement (.ori d a i) := ⟨rfl, rfl⟩
theorem xori (d : BitVec 6) (a : BitVec 6) (i : BitVec 14) : Statement (.xori d a i) := ⟨rfl, rfl⟩
theorem slti (d : BitVec 6) (a : BitVec 6) (i : BitVec 14) : Statement (.slti d a i) := ⟨rfl, rfl⟩
theorem sltiu (d : BitVec 6) (a : BitVec 6) (i : BitVec 14) : Statement (.sltiu d a i) := ⟨rfl, rfl⟩
theorem shli (d : BitVec 6) (a : BitVec 6) (s : BitVec 6) : Statement (.shli d a s) := ⟨rfl, rfl⟩
theorem shri (d : BitVec 6) (a : BitVec 6) (s : BitVec 6) : Statement (.shri d a s) := ⟨rfl, rfl⟩
theorem srai (d : BitVec 6) (a : BitVec 6) (s : BitVec 6) : Statement (.srai d a s) := ⟨rfl, rfl⟩
theorem muli (d : BitVec 6) (a : BitVec 6) (i : BitVec 14) : Statement (.muli d a i) := ⟨rfl, rfl⟩
theorem lui (d : BitVec 6) (i : BitVec 20) : Statement (.lui d i) := ⟨rfl, rfl⟩
theorem addpc (d : BitVec 6) (i : BitVec 20) : Statement (.addpc d i) := ⟨rfl, rfl⟩
theorem lds (z : BitVec 2) (d : BitVec 6) (a : BitVec 6) (i : BitVec 14) : Statement (.lds z d a i) := ⟨rfl, rfl⟩
theorem sts (z : BitVec 2) (d : BitVec 6) (a : BitVec 6) (i : BitVec 14) : Statement (.sts z d a i) := ⟨rfl, rfl⟩
theorem ldg (z : BitVec 2) (d : BitVec 6) (a : BitVec 6) (i : BitVec 14) : Statement (.ldg z d a i) := ⟨rfl, rfl⟩
theorem stg (z : BitVec 2) (d : BitVec 6) (a : BitVec 6) (i : BitVec 14) : Statement (.stg z d a i) := ⟨rfl, rfl⟩
theorem ldsZ (d : BitVec 6) (a : BitVec 6) (z : BitVec 2) : Statement (.ldsZ d a z) := ⟨rfl, rfl⟩
theorem ldgZ (d : BitVec 6) (a : BitVec 6) (z : BitVec 2) : Statement (.ldgZ d a z) := ⟨rfl, rfl⟩
theorem ldgAcq (d : BitVec 6) (a : BitVec 6) (c : BitVec 3) (z : BitVec 2) : Statement (.ldgAcq d a c z) := ⟨rfl, rfl⟩
theorem ldgAcqZ (d : BitVec 6) (a : BitVec 6) (c : BitVec 3) (z : BitVec 2) : Statement (.ldgAcqZ d a c z) := ⟨rfl, rfl⟩
theorem stgRel (d : BitVec 6) (a : BitVec 6) (c : BitVec 3) (z : BitVec 2) : Statement (.stgRel d a c z) := ⟨rfl, rfl⟩
theorem amo (d : BitVec 6) (a : BitVec 6) (b : BitVec 6) (h : BitVec 5) (c : BitVec 3) : Statement (.amo d a b h c) := ⟨rfl, rfl⟩
theorem red (a : BitVec 6) (b : BitVec 6) (h : BitVec 5) (c : BitVec 3) : Statement (.red a b h c) := ⟨rfl, rfl⟩
theorem amoq (d : BitVec 6) (a : BitVec 6) (b : BitVec 6) (h : BitVec 5) (c : BitVec 3) : Statement (.amoq d a b h c) := ⟨rfl, rfl⟩
theorem crr (d : BitVec 6) (r : BitVec 14) : Statement (.crr d r) := ⟨rfl, rfl⟩
theorem crw (a : BitVec 6) (r : BitVec 14) : Statement (.crw a r) := ⟨rfl, rfl⟩
theorem time (d : BitVec 6) : Statement (.time d) := ⟨rfl, rfl⟩
theorem trap (c : BitVec 8) : Statement (.trap c) := ⟨rfl, rfl⟩
theorem beq (a : BitVec 6) (b : BitVec 6) (n : BitVec 1) (o : BitVec 13) : Statement (.beq a b n o) := ⟨rfl, rfl⟩
theorem bne (a : BitVec 6) (b : BitVec 6) (n : BitVec 1) (o : BitVec 13) : Statement (.bne a b n o) := ⟨rfl, rfl⟩
theorem blt (a : BitVec 6) (b : BitVec 6) (n : BitVec 1) (o : BitVec 13) : Statement (.blt a b n o) := ⟨rfl, rfl⟩
theorem bge (a : BitVec 6) (b : BitVec 6) (n : BitVec 1) (o : BitVec 13) : Statement (.bge a b n o) := ⟨rfl, rfl⟩
theorem bltu (a : BitVec 6) (b : BitVec 6) (n : BitVec 1) (o : BitVec 13) : Statement (.bltu a b n o) := ⟨rfl, rfl⟩
theorem bgeu (a : BitVec 6) (b : BitVec 6) (n : BitVec 1) (o : BitVec 13) : Statement (.bgeu a b n o) := ⟨rfl, rfl⟩
theorem jump (n : BitVec 1) (o : BitVec 25) : Statement (.jump n o) := ⟨rfl, rfl⟩
theorem jal (n : BitVec 1) (o : BitVec 25) : Statement (.jal n o) := ⟨rfl, rfl⟩
theorem jalr (d : BitVec 6) (a : BitVec 6) (i : BitVec 14) : Statement (.jalr d a i) := ⟨rfl, rfl⟩
theorem fork (v : BitVec 6) (m : BitVec 6) (c : BitVec 6) : Statement (.fork v m c) := ⟨rfl, rfl⟩
theorem join : Statement .join := ⟨rfl, rfl⟩
theorem sEnd : Statement .sEnd := ⟨rfl, rfl⟩
theorem rett : Statement .rett := ⟨rfl, rfl⟩
theorem ccreate (d : BitVec 6) (a : BitVec 6) : Statement (.ccreate d a) := ⟨rfl, rfl⟩
theorem cjoin (d : BitVec 6) (a : BitVec 6) : Statement (.cjoin d a) := ⟨rfl, rfl⟩
theorem cleave (a : BitVec 6) : Statement (.cleave a) := ⟨rfl, rfl⟩
theorem bar (a : BitVec 6) : Statement (.bar a) := ⟨rfl, rfl⟩
theorem glaunch (d : BitVec 6) (a : BitVec 6) (b : BitVec 6) : Statement (.glaunch d a b) := ⟨rfl, rfl⟩
theorem rdr (d : BitVec 6) (a : BitVec 6) (b : BitVec 6) : Statement (.rdr d a b) := ⟨rfl, rfl⟩
theorem wrr (d : BitVec 6) (a : BitVec 6) (b : BitVec 6) : Statement (.wrr d a b) := ⟨rfl, rfl⟩
theorem resume (d : BitVec 6) (a : BitVec 6) (b : BitVec 6) : Statement (.resume d a b) := ⟨rfl, rfl⟩
theorem preempt (d : BitVec 6) (a : BitVec 6) : Statement (.preempt d a) := ⟨rfl, rfl⟩
theorem teardown (d : BitVec 6) (a : BitVec 6) : Statement (.teardown d a) := ⟨rfl, rfl⟩
theorem tlbi (d : BitVec 6) (a : BitVec 6) (b : BitVec 6) : Statement (.tlbi d a b) := ⟨rfl, rfl⟩
theorem cresume (d : BitVec 6) (a : BitVec 6) : Statement (.cresume d a) := ⟨rfl, rfl⟩
theorem cabort (d : BitVec 6) (a : BitVec 6) : Statement (.cabort d a) := ⟨rfl, rfl⟩
theorem rinit (o : BitVec 6) (x : BitVec 6) : Statement (.rinit o x) := ⟨rfl, rfl⟩
theorem rclaim (o : BitVec 6) (x : BitVec 6) (n : BitVec 10) : Statement (.rclaim o x n) := ⟨rfl, rfl⟩
theorem rpub (o : BitVec 6) (x : BitVec 6) (n : BitVec 10) : Statement (.rpub o x n) := ⟨rfl, rfl⟩
theorem rwfill (o : BitVec 6) (x : BitVec 6) (n : BitVec 10) : Statement (.rwfill o x n) := ⟨rfl, rfl⟩
theorem rwfree (o : BitVec 6) (x : BitVec 6) (n : BitVec 10) : Statement (.rwfree o x n) := ⟨rfl, rfl⟩
theorem rcons (o : BitVec 6) (n : BitVec 10) : Statement (.rcons o n) := ⟨rfl, rfl⟩
theorem rread (o : BitVec 6) (x : BitVec 6) (s : BitVec 2) : Statement (.rread o x s) := ⟨rfl, rfl⟩
theorem raddr (o : BitVec 6) (x : BitVec 6) : Statement (.raddr o x) := ⟨rfl, rfl⟩
theorem wmwait (o : BitVec 6) (x : BitVec 6) : Statement (.wmwait o x) := ⟨rfl, rfl⟩
theorem wmarm (o : BitVec 6) (x : BitVec 6) (p : BitVec 1) : Statement (.wmarm o x p) := ⟨rfl, rfl⟩
theorem wmread (o : BitVec 6) (x : BitVec 6) : Statement (.wmread o x) := ⟨rfl, rfl⟩
theorem wmidle (o : BitVec 6) : Statement (.wmidle o) := ⟨rfl, rfl⟩
theorem evsig (x : BitVec 6) (n : BitVec 10) : Statement (.evsig x n) := ⟨rfl, rfl⟩
theorem evsigr (x : BitVec 6) : Statement (.evsigr x) := ⟨rfl, rfl⟩
theorem evwait (x : BitVec 6) : Statement (.evwait x) := ⟨rfl, rfl⟩
theorem evread (x : BitVec 6) : Statement (.evread x) := ⟨rfl, rfl⟩
theorem evset (x : BitVec 6) : Statement (.evset x) := ⟨rfl, rfl⟩
theorem evsetC (x : BitVec 6) : Statement (.evsetC x) := ⟨rfl, rfl⟩
theorem fenceX (s : BitVec 3) (d : BitVec 3) (c : BitVec 3) : Statement (.fenceX s d c) := ⟨rfl, rfl⟩
theorem fenceXu (s : BitVec 3) (d : BitVec 3) (c : BitVec 3) : Statement (.fenceXu s d c) := ⟨rfl, rfl⟩
theorem sset (o : BitVec 6) (x : BitVec 6) (i : BitVec 3) : Statement (.sset o x i) := ⟨rfl, rfl⟩
theorem sget (o : BitVec 6) (x : BitVec 6) (i : BitVec 3) : Statement (.sget o x i) := ⟨rfl, rfl⟩
theorem sbind (o : BitVec 6) (d : BitVec 2) : Statement (.sbind o d) := ⟨rfl, rfl⟩
theorem sunbind (o : BitVec 6) : Statement (.sunbind o) := ⟨rfl, rfl⟩
theorem ccomm (x : BitVec 6) : Statement (.ccomm x) := ⟨rfl, rfl⟩
theorem cstart (x : BitVec 6) : Statement (.cstart x) := ⟨rfl, rfl⟩
theorem cfree (x : BitVec 6) : Statement (.cfree x) := ⟨rfl, rfl⟩
theorem vadd (g : BitVec 2) (d : BitVec 7) (a : BitVec 7) (b : BitVec 7) (m : BitVec 3) : Statement (.vadd g d a b m) := ⟨rfl, rfl⟩
theorem vsub (g : BitVec 2) (d : BitVec 7) (a : BitVec 7) (b : BitVec 7) (m : BitVec 3) : Statement (.vsub g d a b m) := ⟨rfl, rfl⟩
theorem vmul (g : BitVec 2) (d : BitVec 7) (a : BitVec 7) (b : BitVec 7) (m : BitVec 3) : Statement (.vmul g d a b m) := ⟨rfl, rfl⟩
theorem vmin (g : BitVec 2) (d : BitVec 7) (a : BitVec 7) (b : BitVec 7) (m : BitVec 3) : Statement (.vmin g d a b m) := ⟨rfl, rfl⟩
theorem vmax (g : BitVec 2) (d : BitVec 7) (a : BitVec 7) (b : BitVec 7) (m : BitVec 3) : Statement (.vmax g d a b m) := ⟨rfl, rfl⟩
theorem vand (g : BitVec 2) (d : BitVec 7) (a : BitVec 7) (b : BitVec 7) (m : BitVec 3) : Statement (.vand g d a b m) := ⟨rfl, rfl⟩
theorem vor (g : BitVec 2) (d : BitVec 7) (a : BitVec 7) (b : BitVec 7) (m : BitVec 3) : Statement (.vor g d a b m) := ⟨rfl, rfl⟩
theorem vxor (g : BitVec 2) (d : BitVec 7) (a : BitVec 7) (b : BitVec 7) (m : BitVec 3) : Statement (.vxor g d a b m) := ⟨rfl, rfl⟩
theorem vshl (g : BitVec 2) (d : BitVec 7) (a : BitVec 7) (b : BitVec 7) (m : BitVec 3) : Statement (.vshl g d a b m) := ⟨rfl, rfl⟩
theorem vshr (g : BitVec 2) (d : BitVec 7) (a : BitVec 7) (b : BitVec 7) (m : BitVec 3) : Statement (.vshr g d a b m) := ⟨rfl, rfl⟩
theorem vsra (g : BitVec 2) (d : BitVec 7) (a : BitVec 7) (b : BitVec 7) (m : BitVec 3) : Statement (.vsra g d a b m) := ⟨rfl, rfl⟩
theorem vaddi (g : BitVec 2) (d : BitVec 7) (a : BitVec 7) (i : BitVec 10) : Statement (.vaddi g d a i) := ⟨rfl, rfl⟩
theorem vshli (g : BitVec 2) (d : BitVec 7) (a : BitVec 7) (s : BitVec 5) : Statement (.vshli g d a s) := ⟨rfl, rfl⟩
theorem vshri (g : BitVec 2) (d : BitVec 7) (a : BitVec 7) (s : BitVec 5) : Statement (.vshri g d a s) := ⟨rfl, rfl⟩
theorem vsrai (g : BitVec 2) (d : BitVec 7) (a : BitVec 7) (s : BitVec 5) : Statement (.vsrai g d a s) := ⟨rfl, rfl⟩
theorem vbr (c : BitVec 3) (k : BitVec 5) (o : BitVec 18) : Statement (.vbr c k o) := ⟨rfl, rfl⟩
theorem vectorEnd : Statement .vectorEnd := ⟨rfl, rfl⟩
theorem vfadd (g : BitVec 2) (d : BitVec 7) (a : BitVec 7) (b : BitVec 7) (m : BitVec 3) : Statement (.vfadd g d a b m) := ⟨rfl, rfl⟩
theorem vfsub (g : BitVec 2) (d : BitVec 7) (a : BitVec 7) (b : BitVec 7) (m : BitVec 3) : Statement (.vfsub g d a b m) := ⟨rfl, rfl⟩
theorem vfmul (g : BitVec 2) (d : BitVec 7) (a : BitVec 7) (b : BitVec 7) (m : BitVec 3) : Statement (.vfmul g d a b m) := ⟨rfl, rfl⟩
theorem vfma (g : BitVec 2) (d : BitVec 7) (a : BitVec 7) (b : BitVec 7) (m : BitVec 3) : Statement (.vfma g d a b m) := ⟨rfl, rfl⟩
theorem vfmin (g : BitVec 2) (d : BitVec 7) (a : BitVec 7) (b : BitVec 7) (m : BitVec 3) : Statement (.vfmin g d a b m) := ⟨rfl, rfl⟩
theorem vfmax (g : BitVec 2) (d : BitVec 7) (a : BitVec 7) (b : BitVec 7) (m : BitVec 3) : Statement (.vfmax g d a b m) := ⟨rfl, rfl⟩
theorem vfcmp (g : BitVec 2) (c : BitVec 4) (e : BitVec 3) (a : BitVec 7) (b : BitVec 7) (m : BitVec 3) : Statement (.vfcmp g c e a b m) := ⟨rfl, rfl⟩
theorem vicmp (g : BitVec 2) (c : BitVec 4) (e : BitVec 3) (a : BitVec 7) (b : BitVec 7) (m : BitVec 3) : Statement (.vicmp g c e a b m) := ⟨rfl, rfl⟩
theorem vdadd (g : BitVec 2) (d : BitVec 7) (a : BitVec 7) (b : BitVec 7) (m : BitVec 3) : Statement (.vdadd g d a b m) := ⟨rfl, rfl⟩
theorem vdsub (g : BitVec 2) (d : BitVec 7) (a : BitVec 7) (b : BitVec 7) (m : BitVec 3) : Statement (.vdsub g d a b m) := ⟨rfl, rfl⟩
theorem vdmul (g : BitVec 2) (d : BitVec 7) (a : BitVec 7) (b : BitVec 7) (m : BitVec 3) : Statement (.vdmul g d a b m) := ⟨rfl, rfl⟩
theorem vdfma (g : BitVec 2) (d : BitVec 7) (a : BitVec 7) (b : BitVec 7) (m : BitVec 3) : Statement (.vdfma g d a b m) := ⟨rfl, rfl⟩
theorem vdmin (g : BitVec 2) (d : BitVec 7) (a : BitVec 7) (b : BitVec 7) (m : BitVec 3) : Statement (.vdmin g d a b m) := ⟨rfl, rfl⟩
theorem vdmax (g : BitVec 2) (d : BitVec 7) (a : BitVec 7) (b : BitVec 7) (m : BitVec 3) : Statement (.vdmax g d a b m) := ⟨rfl, rfl⟩
theorem vdcmp (g : BitVec 2) (c : BitVec 4) (e : BitVec 3) (a : BitVec 7) (b : BitVec 7) (m : BitVec 3) : Statement (.vdcmp g c e a b m) := ⟨rfl, rfl⟩
theorem vsel (g : BitVec 2) (d : BitVec 7) (a : BitVec 7) (b : BitVec 7) (m : BitVec 3) : Statement (.vsel g d a b m) := ⟨rfl, rfl⟩
theorem vdot (g : BitVec 2) (d : BitVec 7) (a : BitVec 7) (b : BitVec 7) (m : BitVec 3) : Statement (.vdot g d a b m) := ⟨rfl, rfl⟩
theorem vlmul (g : BitVec 2) (d : BitVec 7) (a : BitVec 7) (b : BitVec 7) (m : BitVec 3) : Statement (.vlmul g d a b m) := ⟨rfl, rfl⟩
theorem vldiv (g : BitVec 2) (d : BitVec 7) (a : BitVec 7) (b : BitVec 7) (m : BitVec 3) : Statement (.vldiv g d a b m) := ⟨rfl, rfl⟩
theorem vlpow (g : BitVec 2) (d : BitVec 7) (p : BitVec 16) : Statement (.vlpow g d p) := ⟨rfl, rfl⟩
theorem vperm (g : BitVec 2) (d : BitVec 7) (a : BitVec 7) (b : BitVec 7) (m : BitVec 3) : Statement (.vperm g d a b m) := ⟨rfl, rfl⟩
theorem vcmpx (g : BitVec 2) (d : BitVec 7) (t : BitVec 1) (e : BitVec 1) (b : BitVec 4) (j : BitVec 3) : Statement (.vcmpx g d t e b j) := ⟨rfl, rfl⟩
theorem vcmpxPayload (g : BitVec 2) (d : BitVec 7) (a : BitVec 7) (t : BitVec 1) (e : BitVec 1) (b : BitVec 4) (j : BitVec 3) : Statement (.vcmpxPayload g d a t e b j) := ⟨rfl, rfl⟩
theorem vbcast (g : BitVec 2) (d : BitVec 7) (k : BitVec 5) : Statement (.vbcast g d k) := ⟨rfl, rfl⟩
theorem vbcastD (g : BitVec 2) (d : BitVec 7) (k : BitVec 5) : Statement (.vbcastD g d k) := ⟨rfl, rfl⟩
theorem vextr (g : BitVec 2) (d : BitVec 5) (a : BitVec 7) (l : BitVec 7) : Statement (.vextr g d a l) := ⟨rfl, rfl⟩
theorem vextrD (g : BitVec 2) (d : BitVec 5) (a : BitVec 7) (l : BitVec 7) : Statement (.vextrD g d a l) := ⟨rfl, rfl⟩
theorem vlds (g : BitVec 2) (d : BitVec 7) (k : BitVec 5) (w : BitVec 3) (o : BitVec 9) : Statement (.vlds g d k w o) := ⟨rfl, rfl⟩
theorem vsts (g : BitVec 2) (d : BitVec 7) (k : BitVec 5) (w : BitVec 3) (o : BitVec 9) : Statement (.vsts g d k w o) := ⟨rfl, rfl⟩
theorem vldg (g : BitVec 2) (d : BitVec 7) (k : BitVec 5) (w : BitVec 3) (o : BitVec 9) : Statement (.vldg g d k w o) := ⟨rfl, rfl⟩
theorem vstg (g : BitVec 2) (d : BitVec 7) (k : BitVec 5) (w : BitVec 3) (o : BitVec 9) : Statement (.vstg g d k w o) := ⟨rfl, rfl⟩
theorem vslr (g : BitVec 2) (d : BitVec 7) (z : BitVec 5) (w : BitVec 3) (h : BitVec 1) (r : BitVec 5) : Statement (.vslr g d z w h r) := ⟨rfl, rfl⟩
theorem vslw (g : BitVec 2) (d : BitVec 7) (z : BitVec 5) (w : BitVec 3) (h : BitVec 1) (r : BitVec 5) : Statement (.vslw g d z w h r) := ⟨rfl, rfl⟩
theorem vcvt (g : BitVec 2) (d : BitVec 7) (a : BitVec 7) (t : BitVec 4) (s : BitVec 4) (r : BitVec 2) : Statement (.vcvt g d a t s r) := ⟨rfl, rfl⟩
theorem vcvtSr (g : BitVec 2) (d : BitVec 7) (a : BitVec 7) (t : BitVec 4) (s : BitVec 4) (r : BitVec 2) : Statement (.vcvtSr g d a t s r) := ⟨rfl, rfl⟩
theorem vgaths (g : BitVec 2) (d : BitVec 7) (x : BitVec 7) (k : BitVec 5) (w : BitVec 3) (m : BitVec 2) : Statement (.vgaths g d x k w m) := ⟨rfl, rfl⟩
theorem vscats (g : BitVec 2) (d : BitVec 7) (x : BitVec 7) (k : BitVec 5) (w : BitVec 3) (m : BitVec 2) : Statement (.vscats g d x k w m) := ⟨rfl, rfl⟩
theorem vgathg (g : BitVec 2) (d : BitVec 7) (x : BitVec 7) (k : BitVec 5) (w : BitVec 3) (m : BitVec 2) : Statement (.vgathg g d x k w m) := ⟨rfl, rfl⟩
theorem vscatg (g : BitVec 2) (d : BitVec 7) (x : BitVec 7) (k : BitVec 5) (w : BitVec 3) (m : BitVec 2) : Statement (.vscatg g d x k w m) := ⟨rfl, rfl⟩
theorem vldsr (g : BitVec 2) (d : BitVec 7) (s : BitVec 5) (k : BitVec 5) (w : BitVec 3) (m : BitVec 2) : Statement (.vldsr g d s k w m) := ⟨rfl, rfl⟩
theorem vstsr (g : BitVec 2) (d : BitVec 7) (s : BitVec 5) (k : BitVec 5) (w : BitVec 3) (m : BitVec 2) : Statement (.vstsr g d s k w m) := ⟨rfl, rfl⟩
theorem vldgr (g : BitVec 2) (d : BitVec 7) (s : BitVec 5) (k : BitVec 5) (w : BitVec 3) (m : BitVec 2) : Statement (.vldgr g d s k w m) := ⟨rfl, rfl⟩
theorem vstgr (g : BitVec 2) (d : BitVec 7) (s : BitVec 5) (k : BitVec 5) (w : BitVec 3) (m : BitVec 2) : Statement (.vstgr g d s k w m) := ⟨rfl, rfl⟩
theorem waitc (g : BitVec 2) (c : BitVec 3) (n : BitVec 6) : Statement (.waitc g c n) := ⟨rfl, rfl⟩
theorem vamo (d : BitVec 7) (a : BitVec 7) (k : BitVec 5) (h : BitVec 5) (w : BitVec 2) : Statement (.vamo d a k h w) := ⟨rfl, rfl⟩
theorem rep (c : BitVec 6) (d : BitVec 3) (a : BitVec 3) (b : BitVec 3) (z : BitVec 1) : Statement (.rep c d a b z) := ⟨rfl, rfl⟩
theorem vmov (g : BitVec 2) (d : BitVec 7) (a : BitVec 7) (m : BitVec 2) : Statement (.vmov g d a m) := ⟨rfl, rfl⟩
theorem vnot (g : BitVec 2) (d : BitVec 7) (a : BitVec 7) (m : BitVec 2) : Statement (.vnot g d a m) := ⟨rfl, rfl⟩
theorem viabs (g : BitVec 2) (d : BitVec 7) (a : BitVec 7) (m : BitVec 2) : Statement (.viabs g d a m) := ⟨rfl, rfl⟩
theorem vineg (g : BitVec 2) (d : BitVec 7) (a : BitVec 7) (m : BitVec 2) : Statement (.vineg g d a m) := ⟨rfl, rfl⟩
theorem vfneg (g : BitVec 2) (d : BitVec 7) (a : BitVec 7) (m : BitVec 2) : Statement (.vfneg g d a m) := ⟨rfl, rfl⟩
theorem vfabs (g : BitVec 2) (d : BitVec 7) (a : BitVec 7) (m : BitVec 2) : Statement (.vfabs g d a m) := ⟨rfl, rfl⟩
theorem vdneg (g : BitVec 2) (d : BitVec 7) (a : BitVec 7) (m : BitVec 2) : Statement (.vdneg g d a m) := ⟨rfl, rfl⟩
theorem vdabs (g : BitVec 2) (d : BitVec 7) (a : BitVec 7) (m : BitVec 2) : Statement (.vdabs g d a m) := ⟨rfl, rfl⟩
theorem vclz (g : BitVec 2) (d : BitVec 7) (a : BitVec 7) (m : BitVec 2) : Statement (.vclz g d a m) := ⟨rfl, rfl⟩
theorem vpopc (g : BitVec 2) (d : BitVec 7) (a : BitVec 7) (m : BitVec 2) : Statement (.vpopc g d a m) := ⟨rfl, rfl⟩
theorem vtolog (g : BitVec 2) (d : BitVec 7) (a : BitVec 7) (m : BitVec 2) : Statement (.vtolog g d a m) := ⟨rfl, rfl⟩
theorem vfromlog (g : BitVec 2) (d : BitVec 7) (a : BitVec 7) (m : BitVec 2) : Statement (.vfromlog g d a m) := ⟨rfl, rfl⟩
theorem vexp2l (g : BitVec 2) (d : BitVec 7) (a : BitVec 7) (m : BitVec 2) : Statement (.vexp2l g d a m) := ⟨rfl, rfl⟩
theorem vlog2f (g : BitVec 2) (d : BitVec 7) (a : BitVec 7) (m : BitVec 2) : Statement (.vlog2f g d a m) := ⟨rfl, rfl⟩
theorem mand (g : BitVec 2) (d : BitVec 3) (b : BitVec 3) (a : BitVec 3) : Statement (.mand g d b a) := ⟨rfl, rfl⟩
theorem mor (g : BitVec 2) (d : BitVec 3) (b : BitVec 3) (a : BitVec 3) : Statement (.mor g d b a) := ⟨rfl, rfl⟩
theorem mxor (g : BitVec 2) (d : BitVec 3) (b : BitVec 3) (a : BitVec 3) : Statement (.mxor g d b a) := ⟨rfl, rfl⟩
theorem mandn (g : BitVec 2) (d : BitVec 3) (b : BitVec 3) (a : BitVec 3) : Statement (.mandn g d b a) := ⟨rfl, rfl⟩
theorem mnot (g : BitVec 2) (d : BitVec 3) (a : BitVec 3) : Statement (.mnot g d a) := ⟨rfl, rfl⟩
theorem mmov (g : BitVec 2) (d : BitVec 3) (a : BitVec 3) : Statement (.mmov g d a) := ⟨rfl, rfl⟩
theorem mpopc (g : BitVec 2) (d : BitVec 5) (a : BitVec 3) : Statement (.mpopc g d a) := ⟨rfl, rfl⟩
theorem vrsum (g : BitVec 2) (d : BitVec 7) (a : BitVec 7) (m : BitVec 2) : Statement (.vrsum g d a m) := ⟨rfl, rfl⟩
theorem vrmin (g : BitVec 2) (d : BitVec 7) (a : BitVec 7) (m : BitVec 2) : Statement (.vrmin g d a m) := ⟨rfl, rfl⟩
theorem vrmax (g : BitVec 2) (d : BitVec 7) (a : BitVec 7) (m : BitVec 2) : Statement (.vrmax g d a m) := ⟨rfl, rfl⟩
theorem vrfsum (g : BitVec 2) (d : BitVec 7) (a : BitVec 7) (m : BitVec 2) : Statement (.vrfsum g d a m) := ⟨rfl, rfl⟩
theorem vrfmin (g : BitVec 2) (d : BitVec 7) (a : BitVec 7) (m : BitVec 2) : Statement (.vrfmin g d a m) := ⟨rfl, rfl⟩
theorem vrfmax (g : BitVec 2) (d : BitVec 7) (a : BitVec 7) (m : BitVec 2) : Statement (.vrfmax g d a m) := ⟨rfl, rfl⟩
theorem vrdsum (g : BitVec 2) (d : BitVec 7) (a : BitVec 7) (m : BitVec 2) : Statement (.vrdsum g d a m) := ⟨rfl, rfl⟩
theorem vrdmin (g : BitVec 2) (d : BitVec 7) (a : BitVec 7) (m : BitVec 2) : Statement (.vrdmin g d a m) := ⟨rfl, rfl⟩
theorem vrdmax (g : BitVec 2) (d : BitVec 7) (a : BitVec 7) (m : BitVec 2) : Statement (.vrdmax g d a m) := ⟨rfl, rfl⟩
theorem kmov (g : BitVec 2) (d : BitVec 5) (a : BitVec 5) : Statement (.kmov g d a) := ⟨rfl, rfl⟩
theorem kadd (g : BitVec 2) (d : BitVec 5) (a : BitVec 5) : Statement (.kadd g d a) := ⟨rfl, rfl⟩
theorem ksub (g : BitVec 2) (d : BitVec 5) (a : BitVec 5) : Statement (.ksub g d a) := ⟨rfl, rfl⟩
theorem vpackE3m2 (g : BitVec 2) (s : BitVec 3) (d : BitVec 7) (a : BitVec 7) : Statement (.vpackE3m2 g s d a) := ⟨rfl, rfl⟩
theorem vunpkE3m2 (g : BitVec 2) (s : BitVec 3) (d : BitVec 7) (a : BitVec 7) : Statement (.vunpkE3m2 g s d a) := ⟨rfl, rfl⟩
theorem vpack (g : BitVec 2) (w : BitVec 2) (s : BitVec 4) (d : BitVec 7) (a : BitVec 7) : Statement (.vpack g w s d a) := ⟨rfl, rfl⟩
theorem vunpk (g : BitVec 2) (w : BitVec 2) (s : BitVec 4) (d : BitVec 7) (a : BitVec 7) : Statement (.vunpk g w s d a) := ⟨rfl, rfl⟩
theorem mma (z : BitVec 5) (a : BitVec 4) (b : BitVec 4) (n : BitVec 4) (i : BitVec 1) (r : BitVec 1) : Statement (.mma z a b n i r) := ⟨rfl, rfl⟩
theorem mmas (z : BitVec 5) (a : BitVec 4) (b : BitVec 4) (n : BitVec 4) (s : BitVec 1) (i : BitVec 1) (r : BitVec 1) : Statement (.mmas z a b n s i r) := ⟨rfl, rfl⟩
theorem sbp (z : BitVec 5) (a : BitVec 4) (b : BitVec 4) (n : BitVec 4) (i : BitVec 1) (r : BitVec 1) : Statement (.sbp z a b n i r) := ⟨rfl, rfl⟩
theorem ephb (b : BitVec 4) (n : BitVec 4) : Statement (.ephb b n) := ⟨rfl, rfl⟩
theorem ephl (b : BitVec 4) (n : BitVec 4) : Statement (.ephl b n) := ⟨rfl, rfl⟩
theorem ephs (b : BitVec 4) (n : BitVec 4) : Statement (.ephs b n) := ⟨rfl, rfl⟩
theorem mzero (z : BitVec 5) (r : BitVec 1) : Statement (.mzero z r) := ⟨rfl, rfl⟩
theorem fft2 (a : BitVec 4) (b : BitVec 4) (n : BitVec 4) (s : BitVec 2) (i : BitVec 1) : Statement (.fft2 a b n s i) := ⟨rfl, rfl⟩
theorem fft3 (a : BitVec 4) (b : BitVec 4) (n : BitVec 4) (s : BitVec 2) (i : BitVec 1) : Statement (.fft3 a b n s i) := ⟨rfl, rfl⟩
theorem fft4 (a : BitVec 4) (b : BitVec 4) (n : BitVec 4) (s : BitVec 2) (i : BitVec 1) : Statement (.fft4 a b n s i) := ⟨rfl, rfl⟩
theorem fft5 (a : BitVec 4) (b : BitVec 4) (n : BitVec 4) (s : BitVec 2) (i : BitVec 1) : Statement (.fft5 a b n s i) := ⟨rfl, rfl⟩
theorem leg (z : BitVec 5) (a : BitVec 4) (b : BitVec 4) (n : BitVec 4) (i : BitVec 1) (y : BitVec 1) (r : BitVec 1) : Statement (.leg z a b n i y r) := ⟨rfl, rfl⟩
theorem legi (a : BitVec 4) (b : BitVec 4) (n : BitVec 4) : Statement (.legi a b n) := ⟨rfl, rfl⟩
theorem macq (z : BitVec 5) : Statement (.macq z) := ⟨rfl, rfl⟩
theorem mrel (z : BitVec 5) : Statement (.mrel z) := ⟨rfl, rfl⟩
theorem nadd (d : BitVec 4) (a : BitVec 4) (b : BitVec 4) : Statement (.nadd d a b) := ⟨rfl, rfl⟩
theorem nsub (d : BitVec 4) (a : BitVec 4) (b : BitVec 4) : Statement (.nsub d a b) := ⟨rfl, rfl⟩
theorem nand (d : BitVec 4) (a : BitVec 4) (b : BitVec 4) : Statement (.nand d a b) := ⟨rfl, rfl⟩
theorem nor (d : BitVec 4) (a : BitVec 4) (b : BitVec 4) : Statement (.nor d a b) := ⟨rfl, rfl⟩
theorem nxor (d : BitVec 4) (a : BitVec 4) (b : BitVec 4) : Statement (.nxor d a b) := ⟨rfl, rfl⟩
theorem nshl (d : BitVec 4) (a : BitVec 4) (b : BitVec 4) : Statement (.nshl d a b) := ⟨rfl, rfl⟩
theorem nshr (d : BitVec 4) (a : BitVec 4) (b : BitVec 4) : Statement (.nshr d a b) := ⟨rfl, rfl⟩
theorem nsra (d : BitVec 4) (a : BitVec 4) (b : BitVec 4) : Statement (.nsra d a b) := ⟨rfl, rfl⟩
theorem nmul (d : BitVec 4) (a : BitVec 4) (b : BitVec 4) : Statement (.nmul d a b) := ⟨rfl, rfl⟩
theorem nmin (d : BitVec 4) (a : BitVec 4) (b : BitVec 4) : Statement (.nmin d a b) := ⟨rfl, rfl⟩
theorem nmax (d : BitVec 4) (a : BitVec 4) (b : BitVec 4) : Statement (.nmax d a b) := ⟨rfl, rfl⟩
theorem nminu (d : BitVec 4) (a : BitVec 4) (b : BitVec 4) : Statement (.nminu d a b) := ⟨rfl, rfl⟩
theorem nmaxu (d : BitVec 4) (a : BitVec 4) (b : BitVec 4) : Statement (.nmaxu d a b) := ⟨rfl, rfl⟩
theorem naddi (d : BitVec 4) (a : BitVec 4) (i : BitVec 18) : Statement (.naddi d a i) := ⟨rfl, rfl⟩
theorem nseth (d : BitVec 4) (a : BitVec 4) (p : BitVec 2) (v : BitVec 16) : Statement (.nseth d a p v) := ⟨rfl, rfl⟩
theorem nget (d : BitVec 4) (s : BitVec 18) : Statement (.nget d s) := ⟨rfl, rfl⟩
theorem mbr (c : BitVec 3) (a : BitVec 4) (o : BitVec 19) : Statement (.mbr c a o) := ⟨rfl, rfl⟩
theorem matrixEnd : Statement .matrixEnd := ⟨rfl, rfl⟩
theorem mwake : Statement .mwake := ⟨rfl, rfl⟩
theorem cadd (d : BitVec 5) (a : BitVec 5) (b : BitVec 5) : Statement (.cadd d a b) := ⟨rfl, rfl⟩
theorem csub (d : BitVec 5) (a : BitVec 5) (b : BitVec 5) : Statement (.csub d a b) := ⟨rfl, rfl⟩
theorem cand (d : BitVec 5) (a : BitVec 5) (b : BitVec 5) : Statement (.cand d a b) := ⟨rfl, rfl⟩
theorem cor (d : BitVec 5) (a : BitVec 5) (b : BitVec 5) : Statement (.cor d a b) := ⟨rfl, rfl⟩
theorem cxor (d : BitVec 5) (a : BitVec 5) (b : BitVec 5) : Statement (.cxor d a b) := ⟨rfl, rfl⟩
theorem cshl (d : BitVec 5) (a : BitVec 5) (b : BitVec 5) : Statement (.cshl d a b) := ⟨rfl, rfl⟩
theorem cshr (d : BitVec 5) (a : BitVec 5) (b : BitVec 5) : Statement (.cshr d a b) := ⟨rfl, rfl⟩
theorem csra (d : BitVec 5) (a : BitVec 5) (b : BitVec 5) : Statement (.csra d a b) := ⟨rfl, rfl⟩
theorem cmul (d : BitVec 5) (a : BitVec 5) (b : BitVec 5) : Statement (.cmul d a b) := ⟨rfl, rfl⟩
theorem cmin (d : BitVec 5) (a : BitVec 5) (b : BitVec 5) : Statement (.cmin d a b) := ⟨rfl, rfl⟩
theorem cmax (d : BitVec 5) (a : BitVec 5) (b : BitVec 5) : Statement (.cmax d a b) := ⟨rfl, rfl⟩
theorem cminu (d : BitVec 5) (a : BitVec 5) (b : BitVec 5) : Statement (.cminu d a b) := ⟨rfl, rfl⟩
theorem cmaxu (d : BitVec 5) (a : BitVec 5) (b : BitVec 5) : Statement (.cmaxu d a b) := ⟨rfl, rfl⟩
theorem caddi (d : BitVec 5) (a : BitVec 5) (i : BitVec 12) : Statement (.caddi d a i) := ⟨rfl, rfl⟩
theorem cseth (d : BitVec 5) (a : BitVec 5) (i : BitVec 12) : Statement (.cseth d a i) := ⟨rfl, rfl⟩
theorem copy (h : BitVec 4) (d : BitVec 5) (a : BitVec 5) (b : BitVec 5) (n : BitVec 1) (k : BitVec 1) (t : BitVec 1) (s : BitVec 1) : Statement (.copy h d a b n k t s) := ⟨rfl, rfl⟩
theorem copy2d (h : BitVec 4) (d : BitVec 5) (a : BitVec 5) (b : BitVec 5) (n : BitVec 1) (k : BitVec 1) (t : BitVec 1) (s : BitVec 1) : Statement (.copy2d h d a b n k t s) := ⟨rfl, rfl⟩
theorem cgath (h : BitVec 4) (d : BitVec 5) (a : BitVec 5) (b : BitVec 5) (e : BitVec 2) (n : BitVec 1) (k : BitVec 1) (t : BitVec 1) (s : BitVec 1) : Statement (.cgath h d a b e n k t s) := ⟨rfl, rfl⟩
theorem cscat (d : BitVec 5) (a : BitVec 5) (b : BitVec 5) (e : BitVec 2) (n : BitVec 1) (t : BitVec 1) (s : BitVec 1) : Statement (.cscat d a b e n t s) := ⟨rfl, rfl⟩
theorem fill (h : BitVec 4) (d : BitVec 5) (a : BitVec 5) (b : BitVec 5) (n : BitVec 1) (k : BitVec 1) (t : BitVec 1) : Statement (.fill h d a b n k t) := ⟨rfl, rfl⟩
theorem pref (a : BitVec 5) (b : BitVec 5) : Statement (.pref a b) := ⟨rfl, rfl⟩
theorem clds (d : BitVec 5) (a : BitVec 5) (i : BitVec 12) : Statement (.clds d a i) := ⟨rfl, rfl⟩
theorem cldg (d : BitVec 5) (a : BitVec 5) (i : BitVec 12) : Statement (.cldg d a i) := ⟨rfl, rfl⟩
theorem cbr (c : BitVec 3) (k : BitVec 5) (o : BitVec 18) : Statement (.cbr c k o) := ⟨rfl, rfl⟩
theorem copyEnd : Statement .copyEnd := ⟨rfl, rfl⟩
theorem collNop : Statement .collNop := ⟨rfl, rfl⟩
theorem send (ls : BitVec 2) (pa : BitVec 8) (pb : BitVec 20) (buf : BitVec 4) (wide : Bool) (ba : BitVec 8) (bb : BitVec 12) : Statement (.send ls pa pb buf wide ba bb) := ⟨rfl, rfl⟩
theorem recv (ls : BitVec 2) (pa : BitVec 8) (pb : BitVec 20) (buf : BitVec 4) (ba : BitVec 8) (bb : BitVec 12) : Statement (.recv ls pa pb buf ba bb) := ⟨rfl, rfl⟩
theorem rrs (ls : BitVec 2) (pa : BitVec 8) (pb : BitVec 20) (buf : BitVec 4) (fwd : Bool) (ba : BitVec 8) (bb : BitVec 12) : Statement (.rrs ls pa pb buf fwd ba bb) := ⟨rfl, rfl⟩
theorem rrf (ls : BitVec 2) (pa : BitVec 8) (pb : BitVec 20) (buf : BitVec 4) (ba : BitVec 8) (bb : BitVec 12) : Statement (.rrf ls pa pb buf ba bb) := ⟨rfl, rfl⟩
theorem collCopy (ls : BitVec 2) (dst : BitVec 4) (src : BitVec 4) (ba : BitVec 8) (bb : BitVec 12) : Statement (.collCopy ls dst src ba bb) := ⟨rfl, rfl⟩
theorem bcast (buf : BitVec 4) (root : BitVec 20) : Statement (.bcast buf root) := ⟨rfl, rfl⟩
theorem xpose (buf : BitVec 4) : Statement (.xpose buf) := ⟨rfl, rfl⟩
theorem wait (buf : BitVec 4) (n : BitVec 24) : Statement (.wait buf n) := ⟨rfl, rfl⟩
theorem signal (buf : BitVec 4) (n : BitVec 24) : Statement (.signal buf n) := ⟨rfl, rfl⟩
theorem loop (ls : BitVec 2) (limit : BitVec 24) : Statement (.loop ls limit) := ⟨rfl, rfl⟩
theorem endl (ls : BitVec 2) : Statement (.endl ls) := ⟨rfl, rfl⟩
theorem hnop : Statement .hnop := ⟨rfl, rfl⟩
theorem hld (d : BitVec 4) (a : BitVec 4) (i : BitVec 16) : Statement (.hld d a i) := ⟨rfl, rfl⟩
theorem hst (a : BitVec 4) (b : BitVec 4) (i : BitVec 16) : Statement (.hst a b i) := ⟨rfl, rfl⟩
theorem hli (d : BitVec 4) (i : BitVec 16) : Statement (.hli d i) := ⟨rfl, rfl⟩
theorem hlis (d : BitVec 4) (i : BitVec 16) : Statement (.hlis d i) := ⟨rfl, rfl⟩
theorem hadd (d : BitVec 4) (a : BitVec 4) (b : BitVec 4) (i : BitVec 16) : Statement (.hadd d a b i) := ⟨rfl, rfl⟩
theorem hsub (d : BitVec 4) (a : BitVec 4) (b : BitVec 4) : Statement (.hsub d a b) := ⟨rfl, rfl⟩
theorem hand (d : BitVec 4) (a : BitVec 4) (b : BitVec 4) : Statement (.hand d a b) := ⟨rfl, rfl⟩
theorem hor (d : BitVec 4) (a : BitVec 4) (b : BitVec 4) : Statement (.hor d a b) := ⟨rfl, rfl⟩
theorem hxor (d : BitVec 4) (a : BitVec 4) (b : BitVec 4) : Statement (.hxor d a b) := ⟨rfl, rfl⟩
theorem hshf (d : BitVec 4) (a : BitVec 4) (k : BitVec 2) (n : BitVec 6) : Statement (.hshf d a k n) := ⟨rfl, rfl⟩
theorem hfadd (d : BitVec 4) (a : BitVec 4) (b : BitVec 4) (f : BitVec 1) : Statement (.hfadd d a b f) := ⟨rfl, rfl⟩
theorem hcmp (d : BitVec 4) (a : BitVec 4) (b : BitVec 4) (c : BitVec 3) : Statement (.hcmp d a b c) := ⟨rfl, rfl⟩
theorem hsel (d : BitVec 4) (a : BitVec 4) (b : BitVec 4) : Statement (.hsel d a b) := ⟨rfl, rfl⟩
theorem hbr (c : BitVec 4) (a : BitVec 4) (i : BitVec 16) : Statement (.hbr c a i) := ⟨rfl, rfl⟩
theorem hret (a : BitVec 4) : Statement (.hret a) := ⟨rfl, rfl⟩
theorem hfail (a : BitVec 4) : Statement (.hfail a) := ⟨rfl, rfl⟩
theorem blockLimit (t : Tid) (e : Eng) : Statement (.blockLimit t e) := ⟨rfl, rfl⟩
theorem unsettledLimit (p : Prog) : Statement (.unsettledLimit p) := ⟨rfl, rfl⟩
theorem clockGate (t : Tid) (e : Eng) : Statement (.clockGate t e) := ⟨rfl, rfl⟩
theorem idleEngineWake (t : Tid) (e : Eng) : Statement (.idleEngineWake t e) := ⟨rfl, rfl⟩
theorem subarrayGate (t : Tid) (i : BitVec 2) : Statement (.subarrayGate t i) := ⟨rfl, rfl⟩
theorem datapathComplete (t : Tid) : Statement (.datapathComplete t) := ⟨rfl, rfl⟩
theorem transferComplete (t : Tid) : Statement (.transferComplete t) := ⟨rfl, rfl⟩
theorem vectorAccessComplete (id : Nat) (lanes : BitVec 128) (data : BitVec 4096) : Statement (.vectorAccessComplete id lanes data) := ⟨rfl, rfl⟩
theorem loadComplete (id : Nat) (data : BitVec 64) : Statement (.loadComplete id data) := ⟨rfl, rfl⟩
theorem streamFetch (h : Rh) (q : BitVec 3) : Statement (.streamFetch h q) := ⟨rfl, rfl⟩
theorem streamStore (h : Rh) (q : BitVec 3) : Statement (.streamStore h q) := ⟨rfl, rfl⟩
theorem timerExpiry (p : Prog) : Statement (.timerExpiry p) := ⟨rfl, rfl⟩
theorem timerInterrupt (p : Prog) : Statement (.timerInterrupt p) := ⟨rfl, rfl⟩
theorem tcmpWrite (p : Prog) (v : BitVec 64) : Statement (.tcmpWrite p v) := ⟨rfl, rfl⟩
theorem rctlWrite (h : Rh) (v : BitVec 64) : Statement (.rctlWrite h v) := ⟨rfl, rfl⟩
theorem rngWrite (h : Rh) (v : BitVec 64) : Statement (.rngWrite h v) := ⟨rfl, rfl⟩
theorem deferredFaultDelivery (h : Rh) : Statement (.deferredFaultDelivery h) := ⟨rfl, rfl⟩
theorem watchdog (h : Rh) (e : Eng) : Statement (.watchdog h e) := ⟨rfl, rfl⟩
theorem faultRecordWrite (core : BitVec 3) : Statement (.faultRecordWrite core) := ⟨rfl, rfl⟩
theorem faultQueueInterrupt (core : BitVec 3) : Statement (.faultQueueInterrupt core) := ⟨rfl, rfl⟩
theorem fqheadWrite (core : BitVec 3) (v : BitVec 64) : Statement (.fqheadWrite core v) := ⟨rfl, rfl⟩
theorem faultQueueConfigWrite (core : BitVec 3) (size : Bool) (v : BitVec 64) : Statement (.faultQueueConfigWrite core size v) := ⟨rfl, rfl⟩
theorem supervisorFaultTrap (core : BitVec 3) (code : BitVec 8) (addr : BitVec 64) : Statement (.supervisorFaultTrap core code addr) := ⟨rfl, rfl⟩
theorem supervisorRestart (core : BitVec 3) : Statement (.supervisorRestart core) := ⟨rfl, rfl⟩
theorem placeTask : Statement .placeTask := ⟨rfl, rfl⟩
theorem loadingComplete (h : Rh) : Statement (.loadingComplete h) := ⟨rfl, rfl⟩
theorem resumeSavedTask : Statement .resumeSavedTask := ⟨rfl, rfl⟩
theorem restoreContext (h : Rh) : Statement (.restoreContext h) := ⟨rfl, rfl⟩
theorem saveContext (h : Rh) : Statement (.saveContext h) := ⟨rfl, rfl⟩
theorem drain (h : Rh) : Statement (.drain h) := ⟨rfl, rfl⟩
theorem deferredSupervisorWrite (h : Rh) : Statement (.deferredSupervisorWrite h) := ⟨rfl, rfl⟩
theorem orreryPreempt : Statement .orreryPreempt := ⟨rfl, rfl⟩
theorem replayStart (g : Nat) : Statement (.replayStart g) := ⟨rfl, rfl⟩
theorem nodeReady (g : Nat) (n : Nat) : Statement (.nodeReady g n) := ⟨rfl, rfl⟩
theorem nodeComplete (g : Nat) (n : Nat) : Statement (.nodeComplete g n) := ⟨rfl, rfl⟩
theorem taskReplay (k : Nat) : Statement (.taskReplay k) := ⟨rfl, rfl⟩
theorem eventUpdate (k : Nat) : Statement (.eventUpdate k) := ⟨rfl, rfl⟩
theorem registerGraph : Statement .registerGraph := ⟨rfl, rfl⟩
theorem destroyGraph : Statement .destroyGraph := ⟨rfl, rfl⟩
theorem createEvent : Statement .createEvent := ⟨rfl, rfl⟩
theorem destroyEvent : Statement .destroyEvent := ⟨rfl, rfl⟩
theorem launch : Statement .launch := ⟨rfl, rfl⟩
theorem bindCompletionEvent : Statement .bindCompletionEvent := ⟨rfl, rfl⟩
theorem commandRingConfigWrite (size : Bool) (v : BitVec 64) : Statement (.commandRingConfigWrite size v) := ⟨rfl, rfl⟩
theorem remoteRequest (k : Nat) : Statement (.remoteRequest k) := ⟨rfl, rfl⟩
theorem remoteResponse (k : Nat) : Statement (.remoteResponse k) := ⟨rfl, rfl⟩
theorem ownerBusyResend (id : Nat) : Statement (.ownerBusyResend id) := ⟨rfl, rfl⟩
theorem standaloneAck (h : Rh) (owner : BitVec 10) : Statement (.standaloneAck h owner) := ⟨rfl, rfl⟩
theorem acknowledgement (k : Nat) : Statement (.acknowledgement k) := ⟨rfl, rfl⟩
theorem retireAll (k : Nat) : Statement (.retireAll k) := ⟨rfl, rfl⟩
theorem storeCommit (id : Nat) : Statement (.storeCommit id) := ⟨rfl, rfl⟩
theorem wcBufferIssue (k : Nat) : Statement (.wcBufferIssue k) := ⟨rfl, rfl⟩
theorem walkComplete (k : Nat) : Statement (.walkComplete k) := ⟨rfl, rfl⟩
theorem uncorrectableError (e : ErrorPlace) : Statement (.uncorrectableError e) := ⟨rfl, rfl⟩
theorem regionRetirement (region : Nat) : Statement (.regionRetirement region) := ⟨rfl, rfl⟩
theorem flitRetry (link : BitVec 8) (again : Bool) : Statement (.flitRetry link again) := ⟨rfl, rfl⟩
theorem linkFence (link : BitVec 8) : Statement (.linkFence link) := ⟨rfl, rfl⟩
theorem diectlFence (die : BitVec 2) (v : BitVec 64) : Statement (.diectlFence die v) := ⟨rfl, rfl⟩
theorem diectlRejoin (die : BitVec 2) (v : BitVec 64) : Statement (.diectlRejoin die v) := ⟨rfl, rfl⟩
theorem llcpinWrite (q : BitVec 2) (v : BitVec 64) : Statement (.llcpinWrite q v) := ⟨rfl, rfl⟩
theorem chunkSend (q : BitVec 2) : Statement (.chunkSend q) := ⟨rfl, rfl⟩
theorem chunkArrival (k : Nat) : Statement (.chunkArrival k) := ⟨rfl, rfl⟩
theorem creditReturn (k : Nat) : Statement (.creditReturn k) := ⟨rfl, rfl⟩
theorem flush (c : Nat) : Statement (.flush c) := ⟨rfl, rfl⟩
theorem collectiveWatchdog (c : Nat) : Statement (.collectiveWatchdog c) := ⟨rfl, rfl⟩
theorem packetArrival (p : Packet) : Statement (.packetArrival p) := ⟨rfl, rfl⟩
theorem transportAck (peer : BitVec 10) (cum : BitVec 32) (sel : BitVec 64) : Statement (.transportAck peer cum sel) := ⟨rfl, rfl⟩
theorem retransmitTimeout (peer : BitVec 10) (seq : BitVec 32) : Statement (.retransmitTimeout peer seq) := ⟨rfl, rfl⟩
theorem routeLost (peer : BitVec 10) (seq : BitVec 32) (port : BitVec 6) : Statement (.routeLost peer seq port) := ⟨rfl, rfl⟩
theorem codewordReplay (lane : BitVec 12) (again : Replay) : Statement (.codewordReplay lane again) := ⟨rfl, rfl⟩
theorem portDown (port : BitVec 6) : Statement (.portDown port) := ⟨rfl, rfl⟩
theorem prep (port : BitVec 6) (v : BitVec 64) : Statement (.prep port v) := ⟨rfl, rfl⟩
theorem enable (port : BitVec 6) (v : BitVec 64) : Statement (.enable port v) := ⟨rfl, rfl⟩
theorem portDrained (port : BitVec 6) : Statement (.portDrained port) := ⟨rfl, rfl⟩
theorem trainingComplete (port : BitVec 6) (peer : BitVec 10) (inc : BitVec 16) : Statement (.trainingComplete port peer inc) := ⟨rfl, rfl⟩
theorem laneRemap (v : BitVec 64) : Statement (.laneRemap v) := ⟨rfl, rfl⟩
theorem telemetryLatch : Statement .telemetryLatch := ⟨rfl, rfl⟩
theorem hostWrite (port : Bool) (bar0 : Bool) (pa : BitVec 40) (bytes : List (BitVec 8)) (ro : Bool) : Statement (.hostWrite port bar0 pa bytes ro) := ⟨rfl, rfl⟩
theorem hostRead (port : Bool) (bar0 : Bool) (pa : BitVec 40) (n : Nat) : Statement (.hostRead port bar0 pa n) := ⟨rfl, rfl⟩
theorem hostAtomic (port : Bool) (pa : BitVec 40) (h : BitVec 5) (op0 : BitVec 128) (op1 : BitVec 128) : Statement (.hostAtomic port pa h op0 op1) := ⟨rfl, rfl⟩
theorem hostCompletionTimeout (id : Nat) : Statement (.hostCompletionTimeout id) := ⟨rfl, rfl⟩
theorem boot : Statement .boot := ⟨rfl, rfl⟩
theorem loadHandlerSlot (core : BitVec 3) : Statement (.loadHandlerSlot core) := ⟨rfl, rfl⟩
theorem writeAsidEntry (core : BitVec 3) : Statement (.writeAsidEntry core) := ⟨rfl, rfl⟩
theorem writeAccessRight (core : BitVec 3) : Statement (.writeAccessRight core) := ⟨rfl, rfl⟩
theorem fenceDieCall (core : BitVec 3) : Statement (.fenceDieCall core) := ⟨rfl, rfl⟩
theorem rejoinDieCall (core : BitVec 3) : Statement (.rejoinDieCall core) := ⟨rfl, rfl⟩
theorem writeLlcpin (core : BitVec 3) : Statement (.writeLlcpin core) := ⟨rfl, rfl⟩
theorem retireHbmRegion (core : BitVec 3) : Statement (.retireHbmRegion core) := ⟨rfl, rfl⟩
theorem setMasterClass (core : BitVec 3) : Statement (.setMasterClass core) := ⟨rfl, rfl⟩
theorem dvfsWrite (cls : BitVec 6) (die : BitVec 2) (v : BitVec 64) : Statement (.dvfsWrite cls die v) := ⟨rfl, rfl⟩
theorem powerCapStep (die : BitVec 2) (watts : Nat) : Statement (.powerCapStep die watts) := ⟨rfl, rfl⟩
theorem counterCtlWrite (off : BitVec 24) (v : BitVec 64) : Statement (.counterCtlWrite off v) := ⟨rfl, rfl⟩
theorem registerWrite (cls : BitVec 6) (off : BitVec 24) (v : BitVec 64) : Statement (.registerWrite cls off v) := ⟨rfl, rfl⟩
theorem illegalInstruction (w : BitVec 64) : Statement (.illegalInstruction w) := ⟨rfl, rfl⟩
theorem writeLands (h : Rh) : Statement (.writeLands h) := ⟨rfl, rfl⟩
theorem progressPointReached (t : Tid) (e : Eng) : Statement (.progressPointReached t e) := ⟨rfl, rfl⟩
theorem subarrayWake (t : Tid) : Statement (.subarrayWake t) := ⟨rfl, rfl⟩
theorem sendStagingReady (c : Nat) : Statement (.sendStagingReady c) := ⟨rfl, rfl⟩
theorem directoryEviction (line : Nat) : Statement (.directoryEviction line) := ⟨rfl, rfl⟩
theorem patrolScrub (line : Nat) (err : BitVec 2) : Statement (.patrolScrub line err) := ⟨rfl, rfl⟩
theorem dieRejoinComplete (die : BitVec 2) : Statement (.dieRejoinComplete die) := ⟨rfl, rfl⟩
theorem packageReset : Statement .packageReset := ⟨rfl, rfl⟩

end Sys2Proof.Laws.HasWord
end

