-- ==== Sys2Proof/Laws/Vector.lean ====
section
/-!
SUPPORT. What a fixed-latency vector instruction does when its registers are ready, said once: it lands the writes due and adds its own.
-/

namespace Sys2Proof.Machine

open Sys2Proof

theorem fput_fput {α : Type} (m : FMap α) (k : Nat) (v w : α) : fput (fput m k v) k w = fput m k w := by
  induction m with
  | nil => simp [fput]
  | cons c m ih =>
    obtain ⟨j, x⟩ := c
    simp only [fput]
    split
    · simp [fput]
    · split
      · simp [fput]
      · simp [fput, *]

@[simp] theorem State.setRes_setRes (s : State) (h : Nat) (r q : Resident) : (s.setRes h r).setRes h q = s.setRes h q := by
  simp [State.setRes, fput_fput]

/-- The vector program whose turn it is runs the instruction. -/
theorem onVec_of {s : State} {h : Nat} (k : Nat → Out) (e : s.who = some (.task h .v)) : onVec s k = k h := by simp [onVec, e]

theorem Resident.push_streams (r : Resident) (n : Nat) : (r.push n).streams = r.streams := by
  unfold Resident.push
  split <;> rfl

theorem Resident.land_streams (r : Resident) (p : PendW) : (r.land p).streams = r.streams := by
  unfold Resident.land
  split
  · exact Resident.push_streams _ _
  · rfl

theorem foldl_land_streams (l : List PendW) : ∀ r : Resident, (l.foldl Resident.land r).streams = r.streams := by
  induction l with
  | nil => intro r; rfl
  | cons p l ih => intro r; rw [List.foldl_cons, ih, Resident.land_streams]

/-- Landing writes changes no stream register, so no register's binding. -/
theorem landTo_portBind (r : Resident) (x n : Nat) : (r.landTo x).portBind n = r.portBind n := by
  simp [Resident.portBind, Resident.stream, Resident.landTo, foldl_land_streams]

/-- With no gap rule broken there is no gap fault. -/
theorem gapReg_none {s : State} {h : Nat} {rd : List VTgt} {wr : List (VTgt × Option Nat)} (hg : NoGap s h rd wr) :
    (s.landed h).gapReg h (rd.filter VTgt.real) (wr.filter (fun x => x.1.real)) = none := by
  have hu : ∀ t, (s.landed h).uncovered h t = s.uncovered h t := fun t => by cases t <;> rfl
  unfold State.gapReg
  rcases hg with hc | ⟨hr, hw⟩
  · simp [hc]
  · simp only
    split
    · rfl
    · have h1 : (rd.filter VTgt.real).find? (fun t => ((s.landed h).res h).pend.any (fun p => p.tgt == t) || (s.landed h).uncovered h t) = none := by
        rw [List.find?_eq_none]
        intro t ht
        simp only [List.mem_filter] at ht
        obtain ⟨a, b⟩ := hr t ht.1 ht.2
        simp [hu, a]
        exact b
      rw [h1]
      simp only [Option.map_eq_none_iff, List.find?_eq_none]
      rintro ⟨t, l⟩ ht
      simp only [List.mem_filter] at ht
      obtain ⟨a, b⟩ := hw _ ht.1 ht.2
      cases l with
      | none => simp_all
      | some l =>
        simp only [hu]
        simp_all

theorem filterMap_none {α β : Type} [BEq β] {l : List α} {f : α → Option β} (h : ∀ t ∈ l, f t = none) : (l.filterMap f).eraseDups = [] := by
  rw [List.filterMap_eq_nil_iff.2 h]
  rfl

theorem portsBound_nil {r : Resident} {b : Nat} {l : List VTgt} (hb : b ≠ 0) (h : ∀ n, .vreg n ∈ l → r.portBind n = 0) :
    portsBound r b l = [] := by
  refine filterMap_none (fun t ht => ?_)
  cases t with
  | vreg n => simp [h n ht, Ne.symm hb]
  | mask n => rfl

/-- A vector instruction whose registers are ready reads its operands in the state where the writes due have landed (R97, R99). -/
theorem vReady_of {s : State} {h : Nat} {rd : List VTgt} {wr : List (VTgt × Option Nat)} (k : State → Out)
    (v : VectorReady s h rd wr) : vReady Rp.none h false [] rd wr s k = k (s.landed h) := by
  obtain ⟨-, hp, hg⟩ := v
  have p1 : ∀ b, b ≠ 0 → portsBound (s.res h) b (rd.filter VTgt.real) = [] := fun b hb => portsBound_nil hb (fun n hn => hp n (.inl (List.mem_filter.1 hn).1))
  have p2 : ∀ b, b ≠ 0 → portsBound (s.res h) b ((wr.filter (fun t => t.1.real)).map (·.1)) = [] := fun b hb => portsBound_nil hb (fun n hn => by
    obtain ⟨⟨t, l⟩, hm, rfl⟩ := List.mem_map.1 hn
    exact hp n (.inr ⟨l, (List.mem_filter.1 hm).1⟩))
  have g := gapReg_none hg
  have g' : ∀ (f : VTgt → Bool) (f' : VTgt × Option Nat → Bool), (∀ t ∈ rd.filter VTgt.real, f t = true) →
      (∀ x ∈ wr.filter (fun x => x.1.real), f' x = true) →
      (s.landed h).gapReg h ((rd.filter VTgt.real).filter f) ((wr.filter (fun x => x.1.real)).filter f') = none := fun f f' a b => by
    rw [List.filter_eq_self.2 a, List.filter_eq_self.2 b, g]
  simp only [State.landed, State.modRes_eq] at *
  unfold vReady
  simp only [p1 1 (by decide), p1 2 (by decide), p2 1 (by decide), p2 2 (by decide), State.modRes_eq, and_self, if_true]
  split
  · rename_i n e
    rw [g'] at e
    · cases e
    · intro t ht
      cases t with
      | vreg n => simp [hp n (.inl (List.mem_filter.1 ht).1)]
      | mask n => rfl
    · rintro ⟨t, l⟩ ht
      cases t with
      | vreg n => simp [hp n (.inr ⟨l, (List.mem_filter.1 ht).1⟩)]
      | mask n => rfl
  · simp [vPorts]

/-- A fixed-latency instruction whose registers are ready lands the writes due and adds its own. -/
theorem vFixed_of {s : State} {h : Nat} {g : BitVec 2} {l : Nat} {rd wr : List VTgt} {val : State → VRes}
    (v : VectorReady s h rd (wr.map (fun t => (t, some l)))) :
    vFixed Rp.none h g l rd wr val s =
      .next (vNext Rp.none h g.toNat (((s.landed h).modRes h (fun r => r.apply l (val (s.landed h)))).fresh1)) := vReady_of _ v

/-- What control leaves after a fixed-latency instruction is an issue over the state before it. -/
theorem vNext_issues (s : State) (h : Nat) (g : BitVec 2) (r : Resident) :
    VectorIssues h g r s (vNext Rp.none h g.toNat ((s.setRes h r).fresh1)) := by
  refine ⟨⟨rfl, ?_, fun c => rfl⟩, ?_, ?_, ?_, ?_⟩
  · intro k hk
    simp [vNext, State.issued, State.countTile, State.res_setRes_other, hk]
    rfl
  all_goals simp [vNext, State.issued, State.countTile, Resident.setPrg, Resident.prg, Rp.none, Resident.setRepIdx]

end Sys2Proof.Machine
end

