-- ==== Sys2Proof/Tests/Slice0.lean ====
section
/-!
SUPPORT. Tests: ill-formed terms that the checks refuse, single steps with results worked out from the rules by hand, and for every statement a state
and operands that meet its hypotheses, clause by clause.
-/

set_option Elab.async false

namespace Sys2Proof.Tests

open Sys2Proof Sys2Proof.Machine

/-- What a next state shows. -/
def shows {α : Type} (o : Host.Outcome State Fault Refusal) (f : State → α) : Option α :=
  match o with
  | .next t => some (f t)
  | .fault _ => none
  | .refused _ => none

/-- An ACTIVE resident whose engines all stand at byte 0x10000, every window granted. -/
def resA : Resident :=
  { Resident.start with
    life := .active, estat := 0x55, rctl := 0,
    sc := { SCtx.start.enter 0x10000 with
            sregs := [(1, 5), (2, 7), (3, 0xFFFFFFFFFFFFFFFF), (4, 0x10100), (5, 0x8000000000000000), (8, 0x3FFFF8), (9, 0x1200000), (10, 0x1100000),
                      (11, 2), (12, 0x100000), (13, 0x100001), (14, 77), (15, 0x10001), (16, 0x3FFFF9), (18, 0x10001100000)] },
    v := { Prg.start with pc := 0x10000 }, m := { Prg.start with pc := 0x10000 }, c := { Prg.start with pc := 0x10000 },
    slabWin := 0xFFFFFFFF, ringWin := 0xFFFFFFFF, chWin := 0xFFFF, ephWin := 0, spWin := 0x0040000000000000 }

/-- Tile 0 runs resident 0 on every engine and holds the translation of page 1. -/
def tileA : Tile :=
  { Tile.start with cur := [(0, some 0), (1, some 0), (2, some 0), (3, some 0)], tlb := [{ asid := 0, page := 1, res := .leaf 3 probeLeaf }] }

/-- It is the turn of an engine of resident r on tile i. -/
def engState (e : Eng) (r : Resident) (i : Tile) : State :=
  { State.reset with turn := .eng 0 e, residents := [(0, r)], tiles := [(0, i)], rights := [(0, BitVec.allOnes 256), (86, BitVec.allOnes 256)] }

def stA (e : Eng) : State := engState e resA tileA

/-- The turn of supervisor core 0, with these registers. -/
def svState (regs : FMap Word) (s : State) : State :=
  { s with turn := .sv 0, svs := [(0, { SvCore.start with running := true, sc := { SCtx.start.enter 0x10000 with sregs := regs } })] }

abbrev w0 : Who := .task 0 .s
abbrev wv : Who := .task 0 .v
abbrev wm : Who := .task 0 .m
abbrev wc : Who := .task 0 .c

/-- What page 1 translates to. -/
def tgtA (a : Nat) : Target := { aper := 0, pa := a, peer := 0, kind := 1 }

theorem scalar_turn (r : Resident) (i : Tile) (h : i.cur = tileA.cur := by rfl) : ScalarTurn (engState .s r i) w0 := by
  refine ⟨?_, fun _ _ h => by cases h; rfl⟩
  simp [engState, State.who, State.tile, fget, h, tileA]
  rfl

theorem not_held {s : State} {h : Nat} {e : Eng} {glob : Bool} {a n : Nat} (x : s.heldBy (hTile h) (!glob) (s.res h).asid a n none = false) :
    NotHeld s (.task h e) glob a n := x

theorem sv_turn (regs : FMap Word) (s : State) : ScalarTurn (svState regs s) (.sv 0) := ⟨rfl, fun _ _ h => by cases h⟩

/-- A load of the scalar program from an RC page that has not been performed. -/
def gaccA : GAcc :=
  { id := 1, owner := .task 0, path := 0, isStore := false, tgt := tgtA 0x10100, va := 0x10100, asid := 0, n := 8, data := [], acq := false, rel := false,
    scope := 0, dest := .sreg 6 true, failed := none, sent := false, combining := false, nt := false, iaddr := 0x10000, fenced := none, fencedU := none, serial := none, since := 0 }
/-- A live event of handle 0x1100000 that has counted 2. -/
def stEvent : State := { stA .s with events := [(0, { EventObj.start with live := true, count := 2 })] }
/-- Page tables at 0x100000 for ASID 0: tables at level 0 to 2, a leaf at level 3. -/
def tablesA : Memory :=
  memWrite (memWrite (memWrite (memWrite (memWrite [] 0 (leBytes 16 (1 + 2 ^ 20))) 0x100000 (leBytes 8 0x110001)) 0x110000 (leBytes 8 0x120001))
    0x120000 (leBytes 8 0x130001)) 0x130008 (leBytes 8 probeLeaf.toNat)

/-! ## Ill-formed terms -/

/-- Scalar words: scopes 5 to 7 (R89), zero-extension codes above 2, odd pair registers (R148), a FORK of nothing. -/
theorem test_illformed_scalar : [
    (Instr.ldsZ 1 2 3).wf .scalar, (Instr.ldgZ 1 2 3).wf .scalar, (Instr.ldgAcq 1 2 5 0).wf .scalar, (Instr.ldgAcqZ 1 2 7 0).wf .scalar,
    (Instr.ldgAcqZ 1 2 0 3).wf .scalar, (Instr.stgRel 1 2 5 0).wf .scalar, (Instr.amo 1 2 3 0 5).wf .scalar, (Instr.red 1 2 0 6).wf .scalar,
    (Instr.amoq 2 3 4 0 5).wf .scalar, (Instr.amoq 1 3 4 0 0).wf .scalar, (Instr.amoq 2 3 5 0 0).wf .scalar, (Instr.fork 0 0 0).wf .scalar,
    (Instr.vectorEnd).wf .scalar, (Instr.boot).wf .scalar].all (fun b => !b) = true := by decide +kernel
/-- The local forms: rings above 31 and channels above 15 (R238), registers an engine does not have (R90), counts of zero, odd pairs, a fence of two other
engines' paths (R246), directions of SBIND. -/
theorem test_illformed_local : [
    (Instr.rinit 32 1).wf .scalar, (Instr.rinit 0 32).wf .vector, (Instr.rinit 0 16).wf .matrix, (Instr.rinit 0 32).wf .copy,
    (Instr.rclaim 0 1 0).wf .scalar, (Instr.rclaim 32 1 1).wf .scalar, (Instr.rpub 0 1 0).wf .scalar, (Instr.rpub 32 1 1).wf .scalar,
    (Instr.rwfill 0 1 0).wf .scalar, (Instr.rwfill 32 1 1).wf .scalar, (Instr.rwfree 0 1 0).wf .scalar, (Instr.rwfree 32 1 1).wf .scalar,
    (Instr.rcons 32 1).wf .scalar, (Instr.rcons 0 0).wf .scalar, (Instr.rread 32 1 0).wf .scalar, (Instr.raddr 32 1).wf .scalar,
    (Instr.wmwait 16 1).wf .scalar, (Instr.wmarm 16 2 0).wf .scalar, (Instr.wmarm 0 1 0).wf .scalar, (Instr.wmread 16 1).wf .scalar, (Instr.wmidle 16).wf .scalar,
    (Instr.evsig 1 0).wf .scalar, (Instr.evsig 32 1).wf .vector, (Instr.evsigr 1).wf .scalar, (Instr.evwait 1).wf .scalar, (Instr.evread 1).wf .scalar,
    (Instr.evset 1).wf .scalar, (Instr.evsetC 1).wf .scalar, (Instr.fenceX 1 2 0).wf .scalar, (Instr.fenceX 7 7 5).wf .scalar, (Instr.fenceXu 0 2 0).wf .vector,
    (Instr.sset 16 1 0).wf .scalar, (Instr.sset 0 1 0).wf .vector, (Instr.sget 16 1 0).wf .copy, (Instr.sbind 0 0).wf .scalar, (Instr.sbind 0 3).wf .scalar,
    (Instr.sbind 16 1).wf .scalar, (Instr.sunbind 16).wf .scalar, (Instr.ccomm 32).wf .copy, (Instr.cstart 32).wf .copy, (Instr.cfree 32).wf .copy].all (fun b => !b) = true := by
  decide +kernel
/-- Vector words: unassigned codes, conversions (R171), load and store counters, compare-exchange distances, packs, an atomic above v119. -/
theorem test_illformed_vector : [
    (Instr.vbr 6 0 0).wf .vector, (Instr.vfcmp 1 8 2 3 0 0).wf .vector, (Instr.vicmp 1 6 2 3 0 0).wf .vector, (Instr.vdcmp 1 8 2 3 0 0).wf .vector,
    (Instr.vcmpx 1 2 0 0 7 7).wf .vector, (Instr.vcmpx 1 2 0 0 8 0).wf .vector, (Instr.vcmpx 1 2 0 0 3 3).wf .vector, (Instr.vcmpxPayload 1 2 3 0 0 3 3).wf .vector,
    (Instr.vextrD 1 2 0 1).wf .vector, (Instr.vlds 1 2 0 6 0).wf .vector, (Instr.vsts 1 2 0 6 0).wf .vector, (Instr.vldg 1 2 0 6 0).wf .vector, (Instr.vstg 1 2 0 6 0).wf .vector,
    (Instr.vslr 1 2 0 6 0 0).wf .vector, (Instr.vslw 1 2 0 6 0 0).wf .vector, (Instr.vcvt 1 2 0 14 0 0).wf .vector, (Instr.vcvt 1 2 0 0 14 0).wf .vector,
    (Instr.vcvt 1 2 0 3 3 0).wf .vector, (Instr.vcvt 1 2 0 13 1 0).wf .vector, (Instr.vcvt 1 2 0 1 13 0).wf .vector, (Instr.vcvtSr 1 2 0 1 0 2).wf .vector,
    (Instr.vgaths 1 2 3 0 6 0).wf .vector, (Instr.vscats 1 2 3 0 6 0).wf .vector, (Instr.vgathg 1 2 3 0 6 0).wf .vector, (Instr.vscatg 1 2 3 0 6 0).wf .vector,
    (Instr.vldsr 1 2 3 0 6 0).wf .vector, (Instr.vstsr 1 2 3 0 6 0).wf .vector, (Instr.vldgr 1 2 3 0 6 0).wf .vector, (Instr.vstgr 1 2 3 0 6 0).wf .vector,
    (Instr.waitc 0 6 0).wf .vector, (Instr.vamo 120 0 1 0 0).wf .vector, (Instr.vpackE3m2 1 5 0 0).wf .vector, (Instr.vunpkE3m2 1 5 0 0).wf .vector,
    (Instr.vpack 1 0 2 0 0).wf .vector, (Instr.vunpk 1 1 4 0 0).wf .vector].all (fun b => !b) = true := by decide +kernel
/-- Matrix, copy, collective and handler words: streams below q8 (R105), scaling code 3, the channel field without K (R229), NT to a scratchpad, odd pairs, counts of zero. -/
theorem test_illformed_engines : [
    (Instr.mma 0 7 8 0 0 0).wf .matrix, (Instr.mma 0 8 7 0 0 0).wf .matrix, (Instr.mmas 0 7 8 0 0 0 0).wf .matrix, (Instr.sbp 0 8 7 0 0 0).wf .matrix,
    (Instr.ephb 7 0).wf .matrix, (Instr.ephl 7 0).wf .matrix, (Instr.ephs 7 0).wf .matrix, (Instr.fft2 7 8 0 0 0).wf .matrix, (Instr.fft3 8 7 0 0 0).wf .matrix,
    (Instr.fft4 8 8 0 3 0).wf .matrix, (Instr.fft5 8 8 0 3 0).wf .matrix, (Instr.leg 0 7 8 0 0 0 0).wf .matrix, (Instr.legi 7 8 0).wf .matrix,
    (Instr.nget 0 5).wf .matrix, (Instr.mbr 6 0 0).wf .matrix,
    (Instr.copy 1 0 0 0 0 0 0 0).wf .copy, (Instr.copy 0 0 0 0 1 0 1 0).wf .copy, (Instr.copy2d 0 0 0 1 0 0 0 0).wf .copy, (Instr.cgath 0 0 0 1 0 0 0 0 0).wf .copy,
    (Instr.cscat 0 0 1 0 0 0 0).wf .copy, (Instr.cscat 0 0 0 0 1 1 0).wf .copy, (Instr.fill 1 0 0 0 0 0 0).wf .copy, (Instr.cbr 6 0 0).wf .copy,
    (Instr.wait 0 0).wf .collective, (Instr.signal 0 0).wf .collective, (Instr.hcmp 0 0 0 6).wf .handler, (Instr.hbr 3 0 1).wf .handler, (Instr.hbr 0 0 0).wf .handler].all
      (fun b => !b) = true := by decide +kernel
/-- Events: tiles above 287, links above 223, a request past the aperture, a handler the host has not, an unknown scrub result; an instruction is no event. -/
theorem test_illformed_events : [
    (Instr.blockLimit 288 .s).eventWf, (Instr.unsettledLimit (.task 288)).eventWf, (Instr.clockGate 288 .s).eventWf, (Instr.subarrayGate 288 0).eventWf,
    (Instr.datapathComplete 288).eventWf, (Instr.transferComplete 288).eventWf, (Instr.streamFetch 288 0).eventWf, (Instr.saveContext 511).eventWf,
    (Instr.flitRetry 224 true).eventWf, (Instr.linkFence 224).eventWf, (Instr.hostWrite false true 0xFFFFFF [1, 2] false).eventWf, (Instr.hostRead false false 0xFFFFFFFFFF 2).eventWf,
    (Instr.hostAtomic false 0 2 0 0).eventWf, (Instr.patrolScrub 0 3).eventWf, (Instr.subarrayWake 288).eventWf, (Instr.add 1 2 3).eventWf].all (fun b => !b) = true := by decide +kernel

/-! ## Words written out from the encoding tables -/

/-- ADD s5, s6, s7; ADDI s5, s2, -3; SRAI s9, s9, 63; ORI s23, s23, 0x400; STG.rel; TLBI; RESUME; RETT. -/
theorem test_decode_scalar : decode .scalar 0x04518700 = .ok (.add 5 6 7) ∧ decode .scalar 0x0850BFFD = .ok (.addi 5 2 0x3FFD) ∧
    decode .scalar 0x2892403F = .ok (.srai 9 9 63) ∧ decode .scalar 0x1175C400 = .ok (.ori 23 23 0x400) ∧ decode .scalar 0xDD840E05 = .ok (.tlbi 24 16 14) ∧
    decode .scalar 0xD0000000 = .ok .rett ∧ decode .scalar 0xFC000000 = .error .unassignedOpcode ∧ decode .scalar 0x045187FF = .error .unassignedFunction ∧
    decode .scalar 1 = .error .reservedField := ⟨rfl, rfl, rfl, rfl, rfl, rfl, rfl, rfl, rfl⟩
theorem test_decode_handler : decode .handler 0x96100003 = .ok (.hshf 6 1 0 3) ∧ decode .handler 0x17600000 = .ok (.hld 7 6 0) ∧ decode .handler 0xE0700000 = .ok (.hret 7) :=
  ⟨rfl, rfl, rfl⟩
/-- Words of the other engines. -/
theorem test_decode_engines : decode .vector 0 = .ok .nop ∧ decode .matrix 0x54000000 = .ok .matrixEnd ∧ decode .copy 0x34000000 = .ok .copyEnd ∧
    decodeStep 0x2C00000000000000 = .ok (.endl 0) ∧ decodeStep 1 = .error .reservedField := ⟨rfl, rfl, rfl, rfl, rfl⟩
/-- A word's bytes stand least significant first. -/
theorem test_bytes : decodeBytes .scalar [0x00, 0x87, 0x51, 0x04, 9] = .ok (.add 5 6 7, [9]) := rfl

/-! ## A word for every instruction

Each word is put together from the match value and the fields of its row of the opcode table (03_encoding_and_assembly), the step words from R108 and R265,
with operand values that differ from field to field. -/

theorem test_words_scalar_1 :
    decode .scalar 0x00000000 = .ok (.nop) ∧
    decode .scalar 0x04A12300 = .ok (.add 10 4 35) ∧
    decode .scalar 0x06684601 = .ok (.sub 38 33 6) ∧
    decode .scalar 0x04593502 = .ok (.and 5 36 53) ∧
    decode .scalar 0x07DA4403 = .ok (.or 61 41 4) ∧
    decode .scalar 0x05A3F704 = .ok (.xor 26 15 55) ∧
    decode .scalar 0x05B22405 = .ok (.shl 27 8 36) ∧
    decode .scalar 0x04C95806 = .ok (.shr 12 37 24) ∧
    decode .scalar 0x06E12007 = .ok (.sra 46 4 32) ∧
    decode .scalar 0x05C79E08 = .ok (.slt 28 30 30) ∧
    decode .scalar 0x050B4609 = .ok (.sltu 16 45 6) ∧
    decode .scalar 0x0625930A = .ok (.mul 34 22 19) ∧
    decode .scalar 0x0456D60B = .ok (.mulh 5 27 22) ∧
    decode .scalar 0x060FB10C = .ok (.mulhu 32 62 49) ∧
    decode .scalar 0x0735570D = .ok (.div 51 21 23) ∧
    decode .scalar 0x06617D0E = .ok (.divu 38 5 61) ∧
    decode .scalar 0x06D1140F = .ok (.rem 45 4 20) ∧
    decode .scalar 0x06C4F910 = .ok (.remu 44 19 57) ∧
    decode .scalar 0x042B4811 = .ok (.min 2 45 8) ∧
    decode .scalar 0x04E25A12 = .ok (.max 14 9 26) ∧
    decode .scalar 0x0782E413 = .ok (.minu 56 11 36) ∧
    decode .scalar 0x049E2E14 = .ok (.maxu 9 56 46) ∧
    decode .scalar 0x05764015 = .ok (.clz 23 25) ∧
    decode .scalar 0x05328016 = .ok (.ctz 19 10) ∧
    decode .scalar 0x04FD8017 = .ok (.popc 15 54) ∧
    decode .scalar 0x091297A2 = .ok (.addi 17 10 6050) ∧
    decode .scalar 0x0D51B7BF = .ok (.andi 21 6 14271) ∧
    decode .scalar 0x13891989 = .ok (.ori 56 36 6537) :=
  ⟨rfl, rfl, rfl, rfl, rfl, rfl, rfl, rfl, rfl, rfl, rfl, rfl, rfl, rfl, rfl, rfl, rfl, rfl, rfl, rfl, rfl, rfl, rfl, rfl, rfl, rfl, rfl, rfl⟩
theorem test_words_scalar_2 :
    decode .scalar 0x15F13F05 = .ok (.xori 31 4 16133) ∧
    decode .scalar 0x18B9C004 = .ok (.slti 11 39 4) ∧
    decode .scalar 0x1E360481 = .ok (.sltiu 35 24 1153) ∧
    decode .scalar 0x228A4017 = .ok (.shli 40 41 23) ∧
    decode .scalar 0x25FDC03F = .ok (.shri 31 55 63) ∧
    decode .scalar 0x29F28016 = .ok (.srai 31 10 22) ∧
    decode .scalar 0x2DF2CD23 = .ok (.muli 31 11 3363) ∧
    decode .scalar 0x32E8B0D6 = .ok (.lui 46 569558) ∧
    decode .scalar 0x3662E98E = .ok (.addpc 38 190862) ∧
    decode .scalar 0x4BBCA2AA = .ok (.lds 2 59 50 8874) ∧
    decode .scalar 0x5A8C7397 = .ok (.sts 2 40 49 13207) ∧
    decode .scalar 0x68F801DB = .ok (.ldg 2 15 32 475) ∧
    decode .scalar 0x78DFB3C0 = .ok (.stg 2 13 62 13248) ∧
    decode .scalar 0x82CB8001 = .ok (.ldsZ 44 46 1) ∧
    decode .scalar 0x81FB0005 = .ok (.ldgZ 31 44 1) ∧
    decode .scalar 0x8086404B = .ok (.ldgAcq 8 25 2 3) ∧
    decode .scalar 0x80E4006E = .ok (.ldgAcqZ 14 16 3 2) ∧
    decode .scalar 0x827D0053 = .ok (.stgRel 39 52 2 3) ∧
    decode .scalar 0x84489F21 = .ok (.amo 4 34 31 4 1) ∧
    decode .scalar 0x88048791 = .ok (.red 18 7 18 1) ∧
    decode .scalar 0x8DA15CB1 = .ok (.amoq 26 5 28 22 1) ∧
    decode .scalar 0x90A02EDF = .ok (.crr 10 11999) ∧
    decode .scalar 0x940E5DF0 = .ok (.crw 57 7664) ∧
    decode .scalar 0x9BD00000 = .ok (.time 61) ∧
    decode .scalar 0x9C0000E3 = .ok (.trap 227) ∧
    decode .scalar 0xA2B2E644 = .ok (.beq 43 11 1 1604) ∧
    decode .scalar 0xA460A095 = .ok (.bne 6 2 1 149) ∧
    decode .scalar 0xAA284EA0 = .ok (.blt 34 33 0 3744) :=
  ⟨rfl, rfl, rfl, rfl, rfl, rfl, rfl, rfl, rfl, rfl, rfl, rfl, rfl, rfl, rfl, rfl, rfl, rfl, rfl, rfl, rfl, rfl, rfl, rfl, rfl, rfl, rfl, rfl⟩
theorem test_words_scalar_3 :
    decode .scalar 0xACD4A426 = .ok (.bge 13 18 1 1062) ∧
    decode .scalar 0xB37862DD = .ok (.bltu 55 33 1 733) ∧
    decode .scalar 0xB74725AB = .ok (.bgeu 52 28 1 1451) ∧
    decode .scalar 0xBA71DF76 = .ok (.jump 1 7462774) ∧
    decode .scalar 0xBEADA54E = .ok (.jal 1 11380046) ∧
    decode .scalar 0xC35882C4 = .ok (.jalr 53 34 708) ∧
    decode .scalar 0xC5050C00 = .ok (.fork 16 20 12) ∧
    decode .scalar 0xC8000000 = .ok (.join) ∧
    decode .scalar 0xCC000000 = .ok (.sEnd) ∧
    decode .scalar 0xD0000000 = .ok (.rett) ∧
    decode .scalar 0xD5488000 = .ok (.ccreate 20 34) ∧
    decode .scalar 0xD53B0001 = .ok (.cjoin 19 44) ∧
    decode .scalar 0xD405C002 = .ok (.cleave 23) ∧
    decode .scalar 0xD4044003 = .ok (.bar 17) ∧
    decode .scalar 0xD8293C00 = .ok (.glaunch 2 36 60) ∧
    decode .scalar 0xDDDD6B00 = .ok (.rdr 29 53 43) ∧
    decode .scalar 0xDF6FED01 = .ok (.wrr 54 63 45) ∧
    decode .scalar 0xDCFDAF02 = .ok (.resume 15 54 47) ∧
    decode .scalar 0xDDA18003 = .ok (.preempt 26 6) ∧
    decode .scalar 0xDC1C0004 = .ok (.teardown 1 48) ∧
    decode .scalar 0xDDC19905 = .ok (.tlbi 28 6 25) ∧
    decode .scalar 0xDEB7C006 = .ok (.cresume 43 31) ∧
    decode .scalar 0xDC32C007 = .ok (.cabort 3 11) ∧
    decode .scalar 0xE001F800 = .ok (.rinit 1 62) ∧
    decode .scalar 0xE04FFB01 = .ok (.rclaim 15 62 769) ∧
    decode .scalar 0xE0962190 = .ok (.rpub 22 8 400) ∧
    decode .scalar 0xE0CF88DF = .ok (.rwfill 15 34 223) ∧
    decode .scalar 0xE1024AD7 = .ok (.rwfree 2 18 727) :=
  ⟨rfl, rfl, rfl, rfl, rfl, rfl, rfl, rfl, rfl, rfl, rfl, rfl, rfl, rfl, rfl, rfl, rfl, rfl, rfl, rfl, rfl, rfl, rfl, rfl, rfl, rfl, rfl, rfl⟩
theorem test_words_scalar_4 :
    decode .scalar 0xE15D0175 = .ok (.rcons 29 373) ∧
    decode .scalar 0xE198F800 = .ok (.rread 24 62 0) ∧
    decode .scalar 0xE1C54000 = .ok (.raddr 5 16) ∧
    decode .scalar 0xE405CC00 = .ok (.wmwait 5 51) ∧
    decode .scalar 0xE446A001 = .ok (.wmarm 6 40 1) ∧
    decode .scalar 0xE48E0C00 = .ok (.wmread 14 3) ∧
    decode .scalar 0xE4CB0000 = .ok (.wmidle 11) ∧
    decode .scalar 0xE800C760 = .ok (.evsig 49 864) ∧
    decode .scalar 0xE8408800 = .ok (.evsigr 34) ∧
    decode .scalar 0xE8802000 = .ok (.evwait 8) ∧
    decode .scalar 0xE8C08000 = .ok (.evread 32) ∧
    decode .scalar 0xE9005000 = .ok (.evset 20) ∧
    decode .scalar 0xE9003801 = .ok (.evsetC 14) ∧
    decode .scalar 0xEC0003C8 = .ok (.fenceX 7 4 4) ∧
    decode .scalar 0xEC400372 = .ok (.fenceXu 6 7 1) ∧
    decode .scalar 0xF0048406 = .ok (.sset 4 33 6) ∧
    decode .scalar 0xF041F402 = .ok (.sget 1 61 2) ∧
    decode .scalar 0xF08C0001 = .ok (.sbind 12 1) ∧
    decode .scalar 0xF0C90000 = .ok (.sunbind 9) ∧
    decode .scalar 0xF4003400 = .ok (.ccomm 13) ∧
    decode .scalar 0xF440EC00 = .ok (.cstart 59) ∧
    decode .scalar 0xF480E000 = .ok (.cfree 56) :=
  ⟨rfl, rfl, rfl, rfl, rfl, rfl, rfl, rfl, rfl, rfl, rfl, rfl, rfl, rfl, rfl, rfl, rfl, rfl, rfl, rfl, rfl, rfl⟩
theorem test_words_vector_1 :
    decode .vector 0x00000000 = .ok (.nop) ∧
    decode .vector 0xE0194800 = .ok (.rinit 25 18) ∧
    decode .vector 0xE05E67A5 = .ok (.rclaim 30 25 933) ∧
    decode .vector 0xE08441A9 = .ok (.rpub 4 16 425) ∧
    decode .vector 0xE0DC2134 = .ok (.rwfill 28 8 308) ∧
    decode .vector 0xE1161D1F = .ok (.rwfree 22 7 287) ∧
    decode .vector 0xE15F01A5 = .ok (.rcons 31 421) ∧
    decode .vector 0xE1895C03 = .ok (.rread 9 23 3) ∧
    decode .vector 0xE1CF1C00 = .ok (.raddr 15 7) ∧
    decode .vector 0xE4012800 = .ok (.wmwait 1 10) ∧
    decode .vector 0xE4453801 = .ok (.wmarm 5 14 1) ∧
    decode .vector 0xE48E7400 = .ok (.wmread 14 29) ∧
    decode .vector 0xE4CA0000 = .ok (.wmidle 10) ∧
    decode .vector 0xE80036A2 = .ok (.evsig 13 674) ∧
    decode .vector 0xE8406800 = .ok (.evsigr 26) ∧
    decode .vector 0xE8802800 = .ok (.evwait 10) ∧
    decode .vector 0xE8C02800 = .ok (.evread 10) ∧
    decode .vector 0xE9001800 = .ok (.evset 6) ∧
    decode .vector 0xE9003801 = .ok (.evsetC 14) ∧
    decode .vector 0xEC0003F2 = .ok (.fenceX 7 7 1) ∧
    decode .vector 0xEC400312 = .ok (.fenceXu 6 1 1) ∧
    decode .vector 0x06AC63FA = .ok (.vadd 2 86 24 127 2) ∧
    decode .vector 0x0B03E21B = .ok (.vsub 3 1 120 67 3) ∧
    decode .vector 0x0EE18536 = .ok (.vmul 2 112 97 38 6) ∧
    decode .vector 0x13CE0C62 = .ok (.vmin 3 103 3 12 2) ∧
    decode .vector 0x16D212D3 = .ok (.vmax 2 105 4 90 3) ∧
    decode .vector 0x1B79696E = .ok (.vand 3 60 90 45 6) ∧
    decode .vector 0x1E818882 = .ok (.vor 2 64 98 16 2) :=
  ⟨rfl, rfl, rfl, rfl, rfl, rfl, rfl, rfl, rfl, rfl, rfl, rfl, rfl, rfl, rfl, rfl, rfl, rfl, rfl, rfl, rfl, rfl, rfl, rfl, rfl, rfl, rfl, rfl⟩
theorem test_words_vector_2 :
    decode .vector 0x2126F0B0 = .ok (.vxor 1 19 60 22 0) ∧
    decode .vector 0x279B13ED = .ok (.vshl 3 77 68 125 5) ∧
    decode .vector 0x29B9FBFE = .ok (.vshr 1 92 126 127 6) ∧
    decode .vector 0x2D2769B9 = .ok (.vsra 1 19 90 55 1) ∧
    decode .vector 0x335504E7 = .ok (.vaddi 3 42 65 231) ∧
    decode .vector 0x36F0181D = .ok (.vshli 2 120 6 29) ∧
    decode .vector 0x34A7D909 = .ok (.vshri 0 83 118 9) ∧
    decode .vector 0x35420A1F = .ok (.vsrai 1 33 2 31) ∧
    decode .vector 0x38D43DCA = .ok (.vbr 1 21 15818) ∧
    decode .vector 0x3C000000 = .ok (.vectorEnd) ∧
    decode .vector 0x432B1782 = .ok (.vfadd 3 21 69 112 2) ∧
    decode .vector 0x4648312D = .ok (.vfsub 2 36 12 37 5) ∧
    decode .vector 0x4934BE3C = .ok (.vfmul 1 26 47 71 4) ∧
    decode .vector 0x4E570BE9 = .ok (.vfma 2 43 66 125 1) ∧
    decode .vector 0x513EA92A = .ok (.vfmin 1 31 42 37 2) ∧
    decode .vector 0x5512B447 = .ok (.vfmax 1 9 45 8 7) ∧
    decode .vector 0x5B6D013B = .ok (.vfcmp 3 6 6 64 39 3) ∧
    decode .vector 0x5C59162C = .ok (.vicmp 0 5 4 69 69 4) ∧
    decode .vector 0x6370BAB9 = .ok (.vdadd 3 56 46 87 1) ∧
    decode .vector 0x676AD3BA = .ok (.vdsub 3 53 52 119 2) ∧
    decode .vector 0x6BC73221 = .ok (.vdmul 3 99 76 68 1) ∧
    decode .vector 0x6E150AA6 = .ok (.vdfma 2 10 66 84 6) ∧
    decode .vector 0x736D1212 = .ok (.vdmin 3 54 68 66 2) ∧
    decode .vector 0x759D2451 = .ok (.vdmax 1 78 73 10 1) ∧
    decode .vector 0x7B2AF346 = .ok (.vdcmp 3 2 5 60 104 6) ∧
    decode .vector 0x7FB8911F = .ok (.vsel 3 92 36 35 7) ∧
    decode .vector 0x80740F97 = .ok (.vdot 0 58 3 114 7) ∧
    decode .vector 0x873E1A63 = .ok (.vlmul 3 31 6 76 3) :=
  ⟨rfl, rfl, rfl, rfl, rfl, rfl, rfl, rfl, rfl, rfl, rfl, rfl, rfl, rfl, rfl, rfl, rfl, rfl, rfl, rfl, rfl, rfl, rfl, rfl, rfl, rfl, rfl, rfl⟩
theorem test_words_vector_3 :
    decode .vector 0x8A9DCBD6 = .ok (.vldiv 2 78 114 122 6) ∧
    decode .vector 0x8F6BC02A = .ok (.vlpow 3 53 57365) ∧
    decode .vector 0x914058C3 = .ok (.vperm 1 32 22 24 3) ∧
    decode .vector 0x964A019A = .ok (.vcmpx 2 37 1 1 3 2) ∧
    decode .vector 0x96CAE7BD = .ok (.vcmpxPayload 2 101 57 1 1 7 5) ∧
    decode .vector 0x9A3D6000 = .ok (.vbcast 2 30 22) ∧
    decode .vector 0x9BE0C200 = .ok (.vbcastD 3 112 12) ∧
    decode .vector 0x9E0F8442 = .ok (.vextr 2 7 97 66) ∧
    decode .vector 0x9E1570AE = .ok (.vextrD 2 10 92 46) ∧
    decode .vector 0xA2E3C6BC = .ok (.vlds 2 113 28 3 188) ∧
    decode .vector 0xA7E769B2 = .ok (.vsts 3 115 22 4 434) ∧
    decode .vector 0xAB4DE415 = .ok (.vldg 3 38 30 2 21) ∧
    decode .vector 0xAF345343 = .ok (.vstg 3 26 5 1 323) ∧
    decode .vector 0xB13D7907 = .ok (.vslr 1 30 23 4 1 7) ∧
    decode .vector 0xB70D320B = .ok (.vslw 3 6 19 1 0 11) ∧
    decode .vector 0xBA198311 = .ok (.vcvt 2 12 96 12 4 1) ∧
    decode .vector 0xBFC91859 = .ok (.vcvtSr 3 100 70 1 6 1) ∧
    decode .vector 0xC2B726B5 = .ok (.vgaths 2 91 73 21 5 1) ∧
    decode .vector 0xC578D085 = .ok (.vscats 1 60 52 4 1 1) ∧
    decode .vector 0xCA1EE952 = .ok (.vgathg 2 15 58 10 4 2) ∧
    decode .vector 0xCE1611AF = .ok (.vscatg 2 11 4 13 3 3) ∧
    decode .vector 0xD34A09C7 = .ok (.vldsr 3 37 2 14 1 3) ∧
    decode .vector 0xD5540675 = .ok (.vstsr 1 42 1 19 5 1) ∧
    decode .vector 0xDBFA55A5 = .ok (.vldgr 3 125 21 13 1 1) ∧
    decode .vector 0xDE4E3BCA = .ok (.vstgr 2 39 14 30 2 2) ∧
    decode .vector 0xF3040030 = .ok (.waitc 3 2 48) ∧
    decode .vector 0xF45CB9DF = .ok (.vamo 11 75 19 23 3) ∧
    decode .vector 0xF914CC00 = .ok (.rep 17 2 3 1 1) :=
  ⟨rfl, rfl, rfl, rfl, rfl, rfl, rfl, rfl, rfl, rfl, rfl, rfl, rfl, rfl, rfl, rfl, rfl, rfl, rfl, rfl, rfl, rfl, rfl, rfl, rfl, rfl, rfl, rfl⟩
theorem test_words_vector_4 :
    decode .vector 0xFD004279 = .ok (.vmov 1 33 30 1) ∧
    decode .vector 0xFF018453 = .ok (.vnot 3 66 20 3) ∧
    decode .vector 0xFE028371 = .ok (.viabs 2 65 92 1) ∧
    decode .vector 0xFF0376CD = .ok (.vineg 3 59 51 1) ∧
    decode .vector 0xFD04C8D2 = .ok (.vfneg 1 100 52 2) ∧
    decode .vector 0xFF053842 = .ok (.vfabs 3 28 16 2) ∧
    decode .vector 0xFC06E03E = .ok (.vdneg 0 112 15 2) ∧
    decode .vector 0xFF07CF62 = .ok (.vdabs 3 103 88 2) ∧
    decode .vector 0xFE0889F7 = .ok (.vclz 2 68 125 3) ∧
    decode .vector 0xFE09CE15 = .ok (.vpopc 2 103 5 1) ∧
    decode .vector 0xFD10072D = .ok (.vtolog 1 3 75 1) ∧
    decode .vector 0xFD1131E3 = .ok (.vfromlog 1 24 120 3) ∧
    decode .vector 0xFD124366 = .ok (.vexp2l 1 33 89 2) ∧
    decode .vector 0xFC1328F9 = .ok (.vlog2f 0 20 62 1) ∧
    decode .vector 0xFF200CE8 = .ok (.mand 3 6 7 2) ∧
    decode .vector 0xFE210E34 = .ok (.mor 2 7 1 5) ∧
    decode .vector 0xFD2202F0 = .ok (.mxor 1 1 7 4) ∧
    decode .vector 0xFE23066C = .ok (.mandn 2 3 3 3) ∧
    decode .vector 0xFD240A08 = .ok (.mnot 1 5 2) ∧
    decode .vector 0xFD25060C = .ok (.mmov 1 3 3) ∧
    decode .vector 0xFF263E18 = .ok (.mpopc 3 31 6) ∧
    decode .vector 0xFF303193 = .ok (.vrsum 3 24 100 3) ∧
    decode .vector 0xFE31CDC1 = .ok (.vrmin 2 102 112 1) ∧
    decode .vector 0xFE32AF09 = .ok (.vrmax 2 87 66 1) ∧
    decode .vector 0xFF3456B2 = .ok (.vrfsum 3 43 44 2) ∧
    decode .vector 0xFD355A6F = .ok (.vrfmin 1 45 27 3) ∧
    decode .vector 0xFE36C659 = .ok (.vrfmax 2 99 22 1) ∧
    decode .vector 0xFE3895E0 = .ok (.vrdsum 2 74 120 0) :=
  ⟨rfl, rfl, rfl, rfl, rfl, rfl, rfl, rfl, rfl, rfl, rfl, rfl, rfl, rfl, rfl, rfl, rfl, rfl, rfl, rfl, rfl, rfl, rfl, rfl, rfl, rfl, rfl, rfl⟩
theorem test_words_vector_5 :
    decode .vector 0xFC394FFF = .ok (.vrdmin 0 39 127 3) ∧
    decode .vector 0xFD3A5293 = .ok (.vrdmax 1 41 36 3) ∧
    decode .vector 0xFD40101C = .ok (.kmov 1 8 7) ∧
    decode .vector 0xFE412844 = .ok (.kadd 2 20 17) ∧
    decode .vector 0xFD42040C = .ok (.ksub 1 2 3) ∧
    decode .vector 0xFF6247C4 = .ok (.vpackE3m2 3 2 35 113) ∧
    decode .vector 0xFE6BE150 = .ok (.vunpkE3m2 2 3 112 84) ∧
    decode .vector 0xFEB80940 = .ok (.vpack 2 3 8 4 80) ∧
    decode .vector 0xFFE127B0 = .ok (.vunpk 3 2 1 19 108) :=
  ⟨rfl, rfl, rfl, rfl, rfl, rfl, rfl, rfl, rfl⟩
theorem test_words_matrix_1 :
    decode .matrix 0x00000000 = .ok (.nop) ∧
    decode .matrix 0xE0112800 = .ok (.rinit 17 10) ∧
    decode .matrix 0xE049290D = .ok (.rclaim 9 10 269) ∧
    decode .matrix 0xE09B395B = .ok (.rpub 27 14 347) ∧
    decode .matrix 0xE0D80EE0 = .ok (.rwfill 24 3 736) ∧
    decode .matrix 0xE11B3F0A = .ok (.rwfree 27 15 778) ∧
    decode .matrix 0xE15E03AF = .ok (.rcons 30 943) ∧
    decode .matrix 0xE18B3402 = .ok (.rread 11 13 2) ∧
    decode .matrix 0xE1CE1000 = .ok (.raddr 14 4) ∧
    decode .matrix 0xE40C0C00 = .ok (.wmwait 12 3) ∧
    decode .matrix 0xE44B0801 = .ok (.wmarm 11 2 1) ∧
    decode .matrix 0xE4882800 = .ok (.wmread 8 10) ∧
    decode .matrix 0xE4CF0000 = .ok (.wmidle 15) ∧
    decode .matrix 0xE8002FCF = .ok (.evsig 11 975) ∧
    decode .matrix 0xE8403800 = .ok (.evsigr 14) ∧
    decode .matrix 0xE8800800 = .ok (.evwait 2) ∧
    decode .matrix 0xE8C03800 = .ok (.evread 14) ∧
    decode .matrix 0xE9000800 = .ok (.evset 2) ∧
    decode .matrix 0xE9001001 = .ok (.evsetC 4) ∧
    decode .matrix 0xEC0002F8 = .ok (.fenceX 5 7 4) ∧
    decode .matrix 0xEC4003A6 = .ok (.fenceXu 7 2 3) ∧
    decode .matrix 0x061B7803 = .ok (.mma 16 13 11 12 1 1) ∧
    decode .matrix 0x091D7807 = .ok (.mmas 8 14 11 12 1 1 1) ∧
    decode .matrix 0x0EB75E01 = .ok (.sbp 21 11 10 15 0 1) ∧
    decode .matrix 0x1001AA00 = .ok (.ephb 13 5) ∧
    decode .matrix 0x14011400 = .ok (.ephl 8 10) ∧
    decode .matrix 0x18011C00 = .ok (.ephs 8 14) ∧
    decode .matrix 0x1FE00001 = .ok (.mzero 31 1) :=
  ⟨rfl, rfl, rfl, rfl, rfl, rfl, rfl, rfl, rfl, rfl, rfl, rfl, rfl, rfl, rfl, rfl, rfl, rfl, rfl, rfl, rfl, rfl, rfl, rfl, rfl, rfl, rfl, rfl⟩
theorem test_words_matrix_2 :
    decode .matrix 0x2013BE05 = .ok (.fft2 9 13 15 2 1) ∧
    decode .matrix 0x241DE803 = .ok (.fft3 14 15 4 1 1) ∧
    decode .matrix 0x28131803 = .ok (.fft4 9 8 12 1 1) ∧
    decode .matrix 0x2C15EE05 = .ok (.fft5 10 15 7 2 1) ∧
    decode .matrix 0x31759007 = .ok (.leg 11 10 12 8 1 1 1) ∧
    decode .matrix 0x34136C00 = .ok (.legi 9 11 6) ∧
    decode .matrix 0x3B400000 = .ok (.macq 26) ∧
    decode .matrix 0x3D000000 = .ok (.mrel 8) ∧
    decode .matrix 0x423B0000 = .ok (.nadd 8 14 12) ∧
    decode .matrix 0x42908001 = .ok (.nsub 10 4 2) ∧
    decode .matrix 0x42E58002 = .ok (.nand 11 9 6) ∧
    decode .matrix 0x40EEC003 = .ok (.nor 3 11 11) ∧
    decode .matrix 0x405B8004 = .ok (.nxor 1 6 14) ∧
    decode .matrix 0x41D58005 = .ok (.nshl 7 5 6) ∧
    decode .matrix 0x43548006 = .ok (.nshr 13 5 2) ∧
    decode .matrix 0x414E0007 = .ok (.nsra 5 3 8) ∧
    decode .matrix 0x40CCC008 = .ok (.nmul 3 3 3) ∧
    decode .matrix 0x42698009 = .ok (.nmin 9 10 6) ∧
    decode .matrix 0x4151400A = .ok (.nmax 5 4 5) ∧
    decode .matrix 0x40E5800B = .ok (.nminu 3 9 6) ∧
    decode .matrix 0x414A000C = .ok (.nmaxu 5 2 8) ∧
    decode .matrix 0x45371FCE = .ok (.naddi 4 13 204750) ∧
    decode .matrix 0x485FF844 = .ok (.nseth 1 7 3 63556) ∧
    decode .matrix 0x4D400001 = .ok (.nget 5 1) ∧
    decode .matrix 0x528902F9 = .ok (.mbr 5 1 66297) ∧
    decode .matrix 0x54000000 = .ok (.matrixEnd) ∧
    decode .matrix 0x58000000 = .ok (.mwake) :=
  ⟨rfl, rfl, rfl, rfl, rfl, rfl, rfl, rfl, rfl, rfl, rfl, rfl, rfl, rfl, rfl, rfl, rfl, rfl, rfl, rfl, rfl, rfl, rfl, rfl, rfl, rfl, rfl⟩
theorem test_words_copy_1 :
    decode .copy 0x00000000 = .ok (.nop) ∧
    decode .copy 0xE0035000 = .ok (.rinit 3 20) ∧
    decode .copy 0xE0572002 = .ok (.rclaim 23 8 2) ∧
    decode .copy 0xE0997540 = .ok (.rpub 25 29 320) ∧
    decode .copy 0xE0CF452F = .ok (.rwfill 15 17 303) ∧
    decode .copy 0xE11751BB = .ok (.rwfree 23 20 443) ∧
    decode .copy 0xE14D0399 = .ok (.rcons 13 921) ∧
    decode .copy 0xE18C2803 = .ok (.rread 12 10 3) ∧
    decode .copy 0xE1DB3000 = .ok (.raddr 27 12) ∧
    decode .copy 0xE4057000 = .ok (.wmwait 5 28) ∧
    decode .copy 0xE44A0801 = .ok (.wmarm 10 2 1) ∧
    decode .copy 0xE4825000 = .ok (.wmread 2 20) ∧
    decode .copy 0xE4CD0000 = .ok (.wmidle 13) ∧
    decode .copy 0xE8003A0D = .ok (.evsig 14 525) ∧
    decode .copy 0xE8401800 = .ok (.evsigr 6) ∧
    decode .copy 0xE8803000 = .ok (.evwait 12) ∧
    decode .copy 0xE8C05000 = .ok (.evread 20) ∧
    decode .copy 0xE9001800 = .ok (.evset 6) ∧
    decode .copy 0xE9001001 = .ok (.evsetC 4) ∧
    decode .copy 0xEC0000F2 = .ok (.fenceX 1 7 1) ∧
    decode .copy 0xEC400180 = .ok (.fenceXu 3 0 0) ∧
    decode .copy 0xF00B1C04 = .ok (.sset 11 7 4) ∧
    decode .copy 0xF0436C02 = .ok (.sget 3 27 2) ∧
    decode .copy 0xF08D0001 = .ok (.sbind 13 1) ∧
    decode .copy 0xF0CD0000 = .ok (.sunbind 13) ∧
    decode .copy 0xF4006C00 = .ok (.ccomm 27) ∧
    decode .copy 0xF4404C00 = .ok (.cstart 19) ∧
    decode .copy 0xF4802C00 = .ok (.cfree 11) :=
  ⟨rfl, rfl, rfl, rfl, rfl, rfl, rfl, rfl, rfl, rfl, rfl, rfl, rfl, rfl, rfl, rfl, rfl, rfl, rfl, rfl, rfl, rfl, rfl, rfl, rfl, rfl, rfl, rfl⟩
theorem test_words_copy_2 :
    decode .copy 0x043B8D80 = .ok (.cadd 29 24 27) ∧
    decode .copy 0x0419AF01 = .ok (.csub 12 26 30) ∧
    decode .copy 0x0405D902 = .ok (.cand 2 29 18) ∧
    decode .copy 0x0412B303 = .ok (.cor 9 11 6) ∧
    decode .copy 0x04165C04 = .ok (.cxor 11 5 24) ∧
    decode .copy 0x04350885 = .ok (.cshl 26 16 17) ∧
    decode .copy 0x040A9506 = .ok (.cshr 5 9 10) ∧
    decode .copy 0x04207C87 = .ok (.csra 16 7 25) ∧
    decode .copy 0x04111F88 = .ok (.cmul 8 17 31) ∧
    decode .copy 0x0402EE89 = .ok (.cmin 1 14 29) ∧
    decode .copy 0x042F748A = .ok (.cmax 23 23 9) ∧
    decode .copy 0x04152B0B = .ok (.cminu 10 18 22) ∧
    decode .copy 0x0432128C = .ok (.cmaxu 25 1 5) ∧
    decode .copy 0x081B1139 = .ok (.caddi 13 17 313) ∧
    decode .copy 0x0C17176A = .ok (.cseth 11 17 1898) ∧
    decode .copy 0x1103AC87 = .ok (.copy 4 1 26 25 0 1 1 1) ∧
    decode .copy 0x15103707 = .ok (.copy2d 4 8 3 14 0 1 1 1) ∧
    decode .copy 0x1ABFDF37 = .ok (.cgath 10 31 29 30 3 0 1 1 1) ∧
    decode .copy 0x1C28A112 = .ok (.cscat 20 10 2 1 0 1 0) ∧
    decode .copy 0x23A5C286 = .ok (.fill 14 18 28 5 0 1 1) ∧
    decode .copy 0x24014900 = .ok (.pref 20 18) ∧
    decode .copy 0x282297B4 = .ok (.clds 17 9 1972) ∧
    decode .copy 0x2C2830A4 = .ok (.cldg 20 3 164) ∧
    decode .copy 0x32950A18 = .ok (.cbr 5 5 68120) ∧
    decode .copy 0x34000000 = .ok (.copyEnd) :=
  ⟨rfl, rfl, rfl, rfl, rfl, rfl, rfl, rfl, rfl, rfl, rfl, rfl, rfl, rfl, rfl, rfl, rfl, rfl, rfl, rfl, rfl, rfl, rfl, rfl, rfl⟩
theorem test_words_handler_1 :
    decode .handler 0x00000000 = .ok (.hnop) ∧
    decode .handler 0x1C501F17 = .ok (.hld 12 5 7959) ∧
    decode .handler 0x20C4C668 = .ok (.hst 12 4 50792) ∧
    decode .handler 0x37006BD0 = .ok (.hli 7 27600) ∧
    decode .handler 0x3110DF0E = .ok (.hlis 1 57102) ∧
    decode .handler 0x42912EB8 = .ok (.hadd 2 9 1 11960) ∧
    decode .handler 0x51640000 = .ok (.hsub 1 6 4) ∧
    decode .handler 0x69D70000 = .ok (.hand 9 13 7) ∧
    decode .handler 0x7B430000 = .ok (.hor 11 4 3) ∧
    decode .handler 0x87EE0000 = .ok (.hxor 7 14 14) ∧
    decode .handler 0x9C9000C9 = .ok (.hshf 12 9 3 9) ∧
    decode .handler 0xA89C0001 = .ok (.hfadd 8 9 12 1) ∧
    decode .handler 0xB4AF0001 = .ok (.hcmp 4 10 15 1) ∧
    decode .handler 0xCC440000 = .ok (.hsel 12 4 4) ∧
    decode .handler 0xD18081B9 = .ok (.hbr 1 8 33209) ∧
    decode .handler 0xE0B00000 = .ok (.hret 11) ∧
    decode .handler 0xF0900000 = .ok (.hfail 9) :=
  ⟨rfl, rfl, rfl, rfl, rfl, rfl, rfl, rfl, rfl, rfl, rfl, rfl, rfl, rfl, rfl, rfl, rfl⟩
theorem test_words_collective :
    decodeStep 0x0000000000000000 = .ok (.collNop) ∧
    decodeStep 0x05FF800013412345 = .ok (.send 1 0xFF 0x80001 3 true 0x12 0x345) ∧
    decodeStep 0x0A05000067080801 = .ok (.recv 2 5 6 7 0x80 0x801) ∧
    decodeStep 0x0F01000024805006 = .ok (.rrs 3 1 2 4 true 5 6) ∧
    decodeStep 0x1102000034005006 = .ok (.rrf 1 2 3 4 5 6) ∧
    decodeStep 0x1500000009A03004 = .ok (.collCopy 1 10 9 3 4) ∧
    decodeStep 0x180000000B0ABCDE = .ok (.bcast 11 0xABCDE) ∧
    decodeStep 0x1C0000000C000000 = .ok (.xpose 12) ∧
    decodeStep 0x200000000D123456 = .ok (.wait 13 0x123456) ∧
    decodeStep 0x240000000E654321 = .ok (.signal 14 0x654321) ∧
    decodeStep 0x2A00000000FEDCBA = .ok (.loop 2 0xFEDCBA) ∧
    decodeStep 0x2F00000000000000 = .ok (.endl 3) :=
  ⟨rfl, rfl, rfl, rfl, rfl, rfl, rfl, rfl, rfl, rfl, rfl, rfl⟩

/-! ## The scalar engine -/

/-- A register after one instruction of resident 0's scalar program. -/
def sres (i : Instr) (d : BitVec 6 := 6) : Option Word := shows (exec i (stA .s)) (fun t => t.sreg w0 d)

theorem test_add_wraps : sres (.add 6 2 3) = some 6 := by decide
theorem test_sub_borrows : sres (.sub 6 1 2) = some 0xFFFFFFFFFFFFFFFE := by decide
theorem test_shl_takes_six_bits : sres (.shl 6 1 4) = some 5 := by decide
theorem test_sra_sign : sres (.sra 6 5 1) = some 0xFC00000000000000 := by decide
theorem test_slt_signed : sres (.slt 6 3 1) = some 1 ∧ sres (.sltu 6 3 1) = some 0 := by decide
theorem test_mulh_signed : sres (.mulh 6 3 1) = some 0xFFFFFFFFFFFFFFFF ∧ sres (.mulhu 6 3 1) = some 4 := by decide
theorem test_div_edges : sres (.div 6 5 3) = some 0x8000000000000000 ∧ sres (.div 6 1 0) = some 0xFFFFFFFFFFFFFFFF ∧ sres (.rem 6 1 0) = some 5 ∧
    sres (.rem 6 5 3) = some 0 := by decide
theorem test_clz_edges : sres (.clz 6 0) = some 64 ∧ sres (.clz 6 1) = some 61 ∧ sres (.ctz 6 4) = some 8 ∧ sres (.popc 6 3) = some 64 := by decide
theorem test_addi_signed : sres (.addi 6 1 0x3FFF) = some 4 := by decide
theorem test_andi_signed : sres (.andi 6 3 0x2000) = some 0xFFFFFFFFFFFFE000 := by decide
theorem test_sltiu_extends : sres (.sltiu 6 1 0x3FFF) = some 1 := by decide
theorem test_lui_signed : sres (.lui 6 0x80000) = some 0xFFFFFFFF80000000 := by decide
theorem test_addpc : sres (.addpc 6 1) = some 0x11000 := by decide
theorem test_s0_stays_zero : sres (.add 0 1 2) 0 = some 0 := by decide
theorem test_sts_lds : (shows (exec (.sts 1 3 8 0) (stA .s)) (fun t =>
    (memRead (t.tile 0).spad 0x3FFFF8 4, (shows (exec (.lds 1 6 8 0) t) (fun u => u.sreg w0 6), shows (exec (.ldsZ 6 8 1) t) (fun u => u.sreg w0 6))))) =
    some ([0xFF, 0xFF, 0, 0], some 0xFFFFFFFFFFFFFFFF, some 0xFFFF) := by decide
theorem test_beq_delay : shows (exec (.beq 0 0 0 0x10) (stA .s)) (fun t => ((t.sc w0).pc, (t.sc w0).nx1, (t.sc w0).nx2, (t.sc w0).a0)) =
    some (0x10004, 0x10008, 0x10040, false) := by decide
theorem test_bne_not_taken_annuls : shows (exec (.bne 0 0 1 0x10) (stA .s)) (fun t => ((t.sc w0).nx2, (t.sc w0).a0, (t.sc w0).a1)) =
    some (0x1000C, true, true) := by decide
theorem test_jalr_reads_before_it_links : shows (exec (.jalr 4 4 4) (stA .s)) (fun t => ((t.sc w0).nx2, t.sreg w0 4)) = some (0x10104, 0x1000C) := by decide
theorem test_trap : shows (exec (.trap 9) (stA .s)) (fun t => ((t.sc w0).epc, (t.sc w0).tcause, (t.sc w0).pc)) = some (0x10004, 0x902, 0) := by decide
theorem test_crw_rctl : (shows (exec (.crw 1 2) (stA .s)) (fun t => (t.res 0).rng)) = some 5 := by decide

theorem witness_ScalarTwoOperandResults : ScalarTurn (stA .s) w0 ∧ ScalarTurn (svState [] State.reset) (.sv 0) :=
  ⟨scalar_turn _ _, sv_turn _ _⟩
theorem witness_ScalarMultiplyDivideResults : ScalarTurn (stA .s) w0 ∧ (stA .s).sreg w0 0 = 0 ∧ (stA .s).sreg w0 1 ≠ 0 := ⟨scalar_turn _ _, by decide⟩
theorem witness_ScalarImmediateResults : ScalarTurn (stA .s) w0 := scalar_turn _ _

/-- The last 8 bytes of the window. -/
theorem witness_ScalarScratchpadAccesses : let s := stA .s; ScalarTurn s w0 ∧ (s.sreg w0 8).toNat = 0x3FFFF8 ∧ 0x3FFFF8 + 8 ≤ (s.res 0).spSize ∧
    0x3FFFF8 % 8 = 0 ∧ NotHeld s w0 false ((s.res 0).spBase + 0x3FFFF8) 8 := ⟨scalar_turn _ _, by decide, by decide, by decide, not_held (by decide)⟩

theorem witness_ScalarScratchpadFaults : let s := stA .s
    ScalarTurn s w0 ∧ ((s.res 0).spSize < (BitVec.ofInt 64 ((s.sreg w0 8).toInt + 1)).toNat + 8) ∧
    ((s.sreg w0 16).toNat + 2 ≤ (s.res 0).spSize ∧ (s.sreg w0 16).toNat % 2 ≠ 0 ∧ NotHeld s w0 false ((s.res 0).spBase + (s.sreg w0 16).toNat) 2) ∧
    ScalarTurn (svState [] State.reset) (.sv 0) :=
  ⟨scalar_turn _ _, by decide, ⟨by decide, by decide, not_held (by decide)⟩, sv_turn _ _⟩

theorem witness_ScalarGlobalLoadsIssue : let s := stA .s
    ScalarTurn s w0 ∧ (s.sreg w0 4).toNat = 0x10100 ∧ NotHeld s w0 true 0x10100 8 ∧ Translates s w0 0x10100 .load false (tgtA 0x10100) probeLeaf ∧
    Translates s w0 0x10100 .load true (tgtA 0x10100) probeLeaf :=
  ⟨scalar_turn _ _, by decide, not_held (by decide), ⟨by decide, by decide⟩, ⟨by decide, by decide⟩⟩

theorem witness_ScalarGlobalStoresIssue : let s := stA .s
    ScalarTurn s w0 ∧ (s.sreg w0 4).toNat = 0x10100 ∧ NotHeld s w0 true 0x10100 8 ∧ Translates s w0 0x10100 .store false (tgtA 0x10100) probeLeaf ∧
    Translates s w0 0x10100 .store true (tgtA 0x10100) probeLeaf :=
  ⟨scalar_turn _ _, by decide, not_held (by decide), ⟨by decide, by decide⟩, ⟨by decide, by decide⟩⟩
/-- Page 1 is an SO page of package 1 with remote rights. -/
def leafP : BitVec 64 := 0x0040000000005D0F
def tgtPeer : Target := { aper := 2, pa := 0x10100, peer := 1, kind := 0 }
def stP (r : Resident) : State := engState .s r { tileA with tlb := [{ asid := 0, page := 1, res := .leaf 3 leafP }] }
theorem witness_ScalarGlobalStoresIssue_numbered : let s := stP resA
    ScalarTurn s w0 ∧ NotHeld s w0 true 0x10100 8 ∧ Translates s w0 0x10100 .store false tgtPeer leafP ∧ Translates s w0 0x10100 .store true tgtPeer leafP ∧
    SerialsFree s w0 1 1 := ⟨scalar_turn _ _, not_held (by decide), ⟨by decide, by decide⟩, ⟨by decide, by decide⟩, by unfold SerialsFree; decide⟩

/-- Handlers 0 (4 bytes), 1 (8 bytes), 19 (16 bytes) and 23 at an address that suits all; a slot with no handler. -/
theorem witness_ScalarAtomicsIssue : let s := stA .s
    ScalarTurn s w0 ∧ s.handlerWidth 0 = 4 ∧ s.handlerWidth 1 = 8 ∧ s.handlerWidth 19 = 16 ∧ s.handlerWidth 31 = 0 ∧ (s.sreg w0 4).toNat % 16 = 0 ∧
    SerialsFree s w0 s.pkgId 1 ∧ (tgtA 0x10100).aper ≠ 2 ∧ (tgtA 0x10100).aper ≠ 3 ∧
    Translates s w0 0x10100 .atomic true (tgtA 0x10100) probeLeaf ∧ Translates s w0 0x10100 .red true (tgtA 0x10100) probeLeaf ∧
    Translates s w0 0x10100 .read23 true (tgtA 0x10100) probeLeaf ∧ (s.sreg w0 15).toNat % 4 ≠ 0 :=
  ⟨scalar_turn _ _, by decide, by decide, by decide, by decide, by decide, by unfold SerialsFree; decide, by decide, by decide, ⟨by decide, by decide⟩, ⟨by decide, by decide⟩, ⟨by decide, by decide⟩, by decide⟩
/-- A peer's page with the right and without it; 2^30 operations that no acknowledgement covers. -/
theorem witness_ScalarAtomicsIssue_peer : let s := stP resA
    let r := engState .s resA { tileA with tlb := [{ asid := 0, page := 1, res := .leaf 3 (leafP &&& ~~~0x400#64) }] }
    let f := stP { resA with seqs := [(1, { SeqState.start with next := 0x40000001 })] }
    (ScalarTurn s w0 ∧ Translates s w0 0x10100 .atomic true tgtPeer leafP ∧ leafP.getLsbD 10 = true ∧ SerialsFree s w0 1 1) ∧
    (ScalarTurn r w0 ∧ Translates r w0 0x10100 .atomic true tgtPeer (leafP &&& ~~~0x400#64) ∧ (leafP &&& ~~~0x400#64).getLsbD 10 = false) ∧
    (ScalarTurn f w0 ∧ Translates f w0 0x10100 .atomic true tgtPeer leafP ∧ ¬ SerialsFree f w0 1 1) :=
  ⟨⟨scalar_turn _ _, ⟨by decide, by decide⟩, by decide, by unfold SerialsFree; decide⟩, ⟨scalar_turn _ _, ⟨by decide, by decide⟩, by decide⟩,
    ⟨scalar_turn _ _, ⟨by decide, by decide⟩, by unfold SerialsFree; decide⟩⟩

theorem witness_ScalarBranches : let s := stA .s
    ScalarTurn s w0 ∧ s.sreg w0 1 = s.sreg w0 1 ∧ s.sreg w0 1 ≠ s.sreg w0 2 ∧ (s.sreg w0 3).toInt < (s.sreg w0 0).toInt ∧ (s.sreg w0 0).toNat < (s.sreg w0 3).toNat :=
  ⟨scalar_turn _ _, by decide⟩

theorem witness_ScalarJumpsAndLinks : let s := stA .s
    ScalarTurn s w0 ∧ (BitVec.ofInt 64 ((s.sreg w0 4).toInt + (4 : BitVec 14).toInt)).toNat % 4 = 0 ∧
    (BitVec.ofInt 64 ((s.sreg w0 4).toInt + (3 : BitVec 14).toInt)).toNat % 4 ≠ 0 := ⟨scalar_turn _ _, by decide⟩

/-- Outside a trap, and inside one. -/
def stTrap : State := engState .s { resA with sc := { resA.sc with tstat := 4 } } tileA
theorem witness_ScalarTrapAndReturn : (ScalarTurn (stA .s) w0 ∧ ((stA .s).sc w0).tstat.getLsbD 2 = false) ∧
    ScalarTurn stTrap w0 ∧ (stTrap.sc w0).tstat.getLsbD 2 = true := ⟨⟨scalar_turn _ _, by decide⟩, scalar_turn _ _, by decide⟩

/-- Every number written out; one that names no register. -/
theorem witness_ControlRegisterAccess : let s := stA .s
    ScalarTurn s w0 ∧ (∀ n ∈ [0x001, 0x00F, 0x103], (BitVec.ofNat 14 n).toNat = n) ∧ (0x3FFF : BitVec 14).toNat ∉ [0x001, 0x002, 0x011, 0x103] ∧
    ScalarTurn (svState [] State.reset) (.sv 0) := ⟨scalar_turn _ _, by decide, by decide, sv_turn _ _⟩
/-- A map that lists the keys below n, all with one value. -/
theorem fget_range {α : Type} (d c : α) (n k : Nat) (h : k < n) : fget d ((List.range n).map (fun j => (j, c))) k = c := by
  have key : ∀ (l : List Nat), k ∈ l → fget d (l.map (fun j => (j, c))) k = c := by
    intro l
    induction l with
    | nil => intro h; cases h
    | cons a l ih =>
      intro h
      simp only [List.map_cons, fget]
      split
      · rfl
      · next hk => exact ih ((List.mem_cons.mp h).resolve_left (fun e => hk e.symm))
  exact key _ (List.mem_range.mpr h)

/-- Every other engine idle. -/
def stIdle : State := engState .s { resA with estat := 1 } tileA
theorem witness_ForkJoinEnd :
    (ScalarTurn stIdle w0 ∧ (∀ x ∈ [(Eng.v, (4 : BitVec 6)), (Eng.m, 0), (Eng.c, 4)],
      x.2 ≠ 0 → (stIdle.res 0).est x.1 = 0 ∧ (stIdle.sreg w0 x.2).toNat % 4 = 0 ∧ (stIdle.sreg w0 x.2).toNat < 2 ^ 56)) ∧
    (ScalarTurn (stA .s) w0 ∧ ((stA .s).res 0).est .v ≠ 0) ∧ (¬ (stIdle.sreg w0 3).toNat < 2 ^ 56) ∧
    ((∀ e ∈ [Eng.v, .m, .c], (stIdle.res 0).est e ≠ 1 ∧ (stIdle.res 0).est e ≠ 2) ∧ (stIdle.res 0).preempt = false ∧ (stIdle.res 0).s.pass = false) ∧
    ((∀ e ∈ [Eng.v, .m, .c], (stIdle.res 0).est e = 0) ∧ (stIdle.res 0).life = .active) ∧
    (∃ e ∈ [Eng.v, .m, .c], ((stA .s).res 0).est e ≠ 0) :=
  ⟨⟨scalar_turn _ _, by decide⟩, ⟨scalar_turn _ _, by decide⟩, by decide, by decide, by decide, by decide⟩

/-- A cohort of one rank whose handle is 77, empty, or held by resident 0's task or another. -/
def stCohort (m : Option Member) : State :=
  { stA .s with cohorts := [(0, { Cohort.start with live := true, handle := 77, size := 1, members := [(0, m)] })] }
def memberA : Member := { key := 0, asid := 0, nodeInst := 0, taskNum := 0, pkg := 0, atLaunch := false, arrived := false, waits := false, passed := false, reply := none }
theorem witness_CohortMembership : let s := stA .s
    ScalarTurn s w0 ∧ (0 < (s.sreg w0 12).toNat ∧ (s.sreg w0 12).toNat = 2 ^ 20) ∧ (0 < 65536 ∧ (s.cohort 0).live = false) ∧
    ((s.sreg w0 0).toNat = 0 ∧ 2 ^ 20 < (s.sreg w0 13).toNat) ∧
    (∀ m ∈ [none, some memberA, some { memberA with taskNum := 1 }],
      hdlPkg ((stCohort m).sreg w0 14) = (stCohort m).pkgId ∧ (stCohort m).cohortOf ((stCohort m).sreg w0 14) = some 0) ∧
    (stCohort (some memberA)).rankIn 0 ((stCohort (some memberA)).res 0) = some 0 ∧
    (0 < ((stCohort none).cohort 0).size ∧ ((stCohort none).cohort 0).at 0 = none) ∧
    (((stCohort (some { memberA with taskNum := 1 })).cohort 0).size = 1 ∧ ((stCohort (some { memberA with taskNum := 1 })).cohort 0).at 0 ≠ none ∧
      ((stA .s).res 0).taskNum ≠ 1) ∧
    (hdlPkg (s.sreg w0 14) = s.pkgId ∧ s.cohortOf (s.sreg w0 14) = none) ∧ hdlPkg (s.sreg w0 18) ≠ s.pkgId ∧
    ((let u := svState [(14, 77)] (stCohort none)
      ScalarTurn u (.sv 0) ∧ u.cohortOf (u.sreg (.sv 0) 14) = some 0) ∧ (svState [] s).cohortOf ((svState [] s).sreg (.sv 0) 14) = none) :=
  ⟨scalar_turn _ _, by decide, by decide, by decide, by decide, by decide, by decide, by decide, by decide, by decide, ⟨sv_turn _ _, by decide⟩, by decide⟩
def stFull (n : Nat) : State := { stA .s with cohorts := (List.range n).map (fun j => (j, { Cohort.start with live := true })) }
theorem full_live (n j : Nat) (h : j < n) : ((stFull n).cohort j).live = true := by
  unfold stFull State.cohort
  rw [fget_range _ _ _ _ h]
theorem witness_CohortMembership_full : ∀ j, j < 65536 → ((stFull 65536).cohort j).live = true := full_live 65536
/-- The last of two members, with the other waiting here or for another package's request; the first of two, settled and not; one whose generation is over. -/
def stBar (a b : Member) (c : SCtx) : State :=
  { engState .s { resA with sc := c } tileA with cohorts := [(0, { Cohort.start with live := true, handle := 77, size := 2, members := [(0, some a), (1, some b)] })] }

theorem witness_BarrierOfTheLastMemberPasses :
    let o := { memberA with taskNum := 1 }
    (∀ x ∈ [(stBar memberA { o with arrived := true, waits := true, reply := some 3 } resA.sc, memberA), (stBar memberA o resA.sc, memberA),
        (stBar memberA o { resA.sc with nx1 := 0x20000 }, memberA), (stBar { memberA with passed := true } o resA.sc, { memberA with passed := true })], let s := x.1
      hdlPkg (s.sreg w0 14) = s.pkgId ∧ s.cohortOf (s.sreg w0 14) = some 0 ∧ s.gaccs = [] ∧ s.routs = [] ∧ (s.res 0).preempt = false ∧ (s.res 0).s.pass = false ∧
      (s.cohort 0).members.map (·.1) = List.range (s.cohort 0).members.length ∧ (s.cohort 0).at 0 = some x.2 ∧ s.rankIn 0 (s.res 0) = some 0 ∧ x.2.arrived = false) ∧
    ScalarTurn (stBar memberA o resA.sc) w0 ∧ ((stBar memberA o resA.sc).cohort 0).size = 2 ∧ (resA.sc.settled = true ∧ ({ resA.sc with nx1 := 0x20000 } : SCtx).settled = false) ∧
    (((stBar memberA o resA.sc).cohort 0).at 1 = some o ∧ o.arrived = false) ∧
    ((stBar memberA { o with arrived := true } resA.sc).cohort 0).at 1 = some { o with arrived := true } := by
  refine ⟨by decide, ⟨rfl, fun _ _ h => by cases h; rfl⟩, by decide, by decide, by decide, by decide⟩

/-- A live graph of handle 0x1200000, with instances queued. -/
def stGraph (n : Nat) : State :=
  { stA .s with graphs := [(0, { Graph.start with live := true })], queues := List.replicate n { graph := 0, first := 9, rebase := 0, level := 0 } }
theorem witness_GraphLaunch : let s := stGraph 0
    ScalarTurn s w0 ∧ s.hasRight 86 (s.classOfWho w0) 1 = true ∧ s.gaccs = [] ∧
    (s.graphLive (s.sreg w0 9) = true ∧ hdlAsid (s.sreg w0 9) = s.asidOf w0 ∧ (s.queues.filter (fun q => decide (q.level = (s.res 0).prio))).length < 4096 ∧
      s.instUsed 5 (s.graph 0).rcnt = false) ∧
    s.graphLive (s.sreg w0 10) = false ∧ ({ s with rights := [] } : State).hasRight 86 (s.classOfWho w0) 1 = false :=
  ⟨⟨rfl, fun _ _ h => by cases h; rfl⟩, by decide, rfl, by decide, by decide, by decide⟩
/-- An instance whose replays take every number. -/
theorem witness_GraphLaunch_none : let s : State := { stGraph 1 with graphs := [(0, { Graph.start with live := true, rcnt := 2 ^ 24 })] }
    s.graphLive (s.sreg w0 9) = true ∧ ∀ n : BitVec 24, ¬ (n ≠ 0 ∧ s.instUsed n.toNat (s.graph 0).rcnt = false) := by
  refine ⟨by decide, fun n h => ?_⟩
  have hn := n.isLt
  simp [State.instUsed, stGraph, State.graph, fget, Graph.start] at h
  omega
theorem witness_GraphLaunch_full : let s := stGraph 4096
    4096 ≤ (s.queues.filter (fun q => decide (q.level = (s.res 0).prio))).length := by
  have h : (stGraph 4096).queues.filter (fun q => decide (q.level = ((stGraph 4096).res 0).prio)) = (stGraph 4096).queues := by
    rw [List.filter_eq_self]
    intro q hq
    rw [List.eq_of_mem_replicate hq]
    decide
  exact Nat.le_of_eq ((congrArg List.length h).trans List.length_replicate).symm

/-- Supervisor core 0 over resident 0, with a parked copy program. -/
def stSup (r : Resident) : State := svState [(1, 0), (2, 2), (3, 3), (4, 0x1000), (5, 288), (6, 0x0001)] (engState .s r tileA)
def recA : FaultRec := { code := 0x02, src := 3, flags := 0, lane := 0, handle := 0, asid := 0, iaddr := 0x10000, vaddr := 0, nodeInst := 0, taskNum := 0, detail := 0, comm := 0, repidx := 0 }
def resParked : Resident := { resA with estat := 0x95, c := { resA.c with park := some { kind := .instr, fault := recA } } }
theorem witness_SupervisorFunctionsOnResidents : let s := stSup resParked
    ScalarTurn s (.sv 0) ∧ (s.sreg (.sv 0) 1).toNat = 0 ∧ (s.res 0).life = .active ∧ s.resCr 0 true 2 = some 1 ∧
    (supWritable 2 = true ∧ s.writeOk 0 { core := 0, reg := 3, value := s.sreg (.sv 0) 3, cr := 2 } = true ∧
      ((s.res 0).supWrite s.stamp 2 (s.sreg (.sv 0) 3)).isSome = true) ∧
    ((s.sreg (.sv 0) 3).toNat < 4 ∧ pathEng (BitVec.ofNat 3 (s.sreg (.sv 0) 3).toNat) = .c ∧ (s.res 0).est .c = 2 ∧
      ((s.res 0).prg .c).park = some { kind := .instr, fault := recA }) := ⟨sv_turn _ _, by decide, by decide, by decide, by decide, by decide⟩

theorem witness_SupervisorFunctionStatuses : let w : Who := .sv 0
    ScalarTurn (stSup resA) w ∧ 4096 ≤ ((stSup resA).sreg w 4).toNat ∧ 288 ≤ ((stSup resA).sreg w 5).toNat % 512 ∧
    (((stSup Resident.start).res 0).life = .free ∧ ((stSup Resident.start).sreg w 2).toNat < 8) ∧
    (((stSup { resA with life := .draining }).res 0).life ≠ .free ∧ ((stSup { resA with life := .draining }).res 0).life ≠ .active) :=
  ⟨sv_turn _ _, by decide, by decide, by decide, by decide⟩

/-- An access in flight through a page named, another that has left; page tables for page 1; a member with a step that receives into channel 2. -/
theorem witness_SupervisorInvalidationAndCollectives : let w : Who := .sv 0
    let s := svState [(1, 0xC000), (2, 0x8000), (3, 0x10000), (4, 0x7FFF), (14, 77), (5, 0x4000), (6, 0x10100)] { State.reset with rights := [(0, BitVec.allOnes 256)] }
    let c := fun (r : CRun) => { s with events := stEvent.events, comms := [(5, { Comm.start with live := true, handle := 77, run := r, event := 0x1100000 })] }
    ScalarTurn s w ∧ ((s.sreg w 4).toNat < 2 ^ 16 ∧ (s.sreg w 4).toNat / 2 ^ 14 = 1) ∧ ((s.sreg w 2).toNat / 2 ^ 14 = 2 ∧ BitVec.ofNat 14 (s.sreg w 2).toNat = 0) ∧
    (s.gaccs = [] ∧ s.routs = []) ∧ ((s.sreg w 1).toNat / 2 ^ 14 = 3 ∧ 2 ^ 16 ≤ (s.sreg w 3).toNat) ∧
    (let g := { gaccA with tgt := { gaccA.tgt with pa := 0x20100 } }
     let u := { s with gaccs := [g], mem := tablesA }
     g.asid = BitVec.ofNat 14 (s.sreg w 5).toNat ∧ (s.sreg w 5).toNat / 2 ^ 14 = 1 ∧ g.failed = none ∧ g.sent = false ∧ g.dest ≠ .flush ∧ g.isStore = false ∧ g.va < 2 ^ 56 ∧
     (u.walk g.asid g.va).1 = .leaf 3 probeLeaf ∧ leafA probeLeaf = true ∧
     u.checkLeaf g.asid (u.classOfOwner g.owner) 3 probeLeaf g.va .load false = .ok (tgtA 0x10100) probeLeaf) ∧
    ({ gaccA with sent := true }.failed = none) ∧ gaccA.owner ≠ .sv 0 ∧
    (∀ r ∈ [CRun.idle, .running, .stopped 5, .stopped 4, .completed], (c r).commOf ((c r).sreg w 14) = some 5 ∧ ((c r).comm 5).run = r ∧
      (c r).eventLive ((c r).comm 5).event = true) ∧ s.commOf (s.sreg w 14) = none ∧ ScalarTurn (stA .s) w0 :=
  ⟨sv_turn _ _, by decide, by decide, by decide, by decide, by decide +kernel, by decide, by decide, by decide, by decide, scalar_turn _ _⟩


/-! ## Waits, rings, watermarks, events, fences, streams, collective functions -/

theorem witness_FalseWaitLeavesTheInstruction : let s := stA .s
    s.waitHolds 0 (.ringFilled 0 1) = false ∧ ((s.res 0).prg .s).pass = false ∧ (s.res 0).sc.settled = true ∧ (s.res 0).pend = [] := by decide +kernel

/-- A ring of four slots of 64 bytes whose HEAD is about to wrap: one slot filled, one claimed. -/
def ringA : Ring := { base := 0, slotsz := 64, nslots := 4, head := 0xFFFFFFFF, tail := 0, claim := 1, cfg := true, hslot := 3 }
def stRing (g : Ring) (win : BitVec 32 := 0xFFFFFFFF) : State :=
  engState .s { resA with ringWin := win, sc := { resA.sc with sregs := [(17, 0x200103FFF00)] } } { tileA with rings := [(0, g)] }
/-- A datapath instruction under way. -/
def dpR : DataPath := { id := 0, instr := .nop, iaddr := 0, shape := 0, qa := 0, qb := 0, units := 0, asleep := false, stopped := false }
/-- The last slot of the ring claimed; transfers and datapath instructions under way hold a publication back. -/
theorem witness_RingFunctions : let s := stRing ringA
    let g := s.ring 0 0
    s.who = some w0 ∧ (s.res 0).ringOk 0 = true ∧ Unhindered s w0 ∧
    (ringWordOk (s.lreg w0 17) (s.res 0).spSize = true ∧ ((stRing { ringA with claim := 0xFFFFFFFF }).ring 0 0).claim = ((stRing { ringA with claim := 0xFFFFFFFF }).ring 0 0).head ∧
      ((stA .s).ring 0 0).cfg = false) ∧
    (g.cfg = true ∧ 2 ≤ g.nslots.toNat ∧ 2 ≤ g.nslots.toNat - (g.claim - g.head).toNat) ∧
    ((s.lreg w0 0).setWidth 32 = g.tail ∧ 1 ≤ (g.claim - g.tail).toNat ∧ s.vops = []) ∧
    1 ≤ (g.tail - g.head).toNat ∧ g.nslots ≠ 0 ∧
    (let m := engState .m { resA with dp := some dpR } { tileA with rings := [(0, ringA)] }
     m.who = some wm ∧ (m.res 0).ringOk 0 = true ∧ Unhindered m wm ∧ (m.res 0).dp ≠ none ∧ (m.lreg wm 0).setWidth 32 = (m.ring 0 0).tail) :=
  ⟨by decide +kernel, by decide +kernel, ⟨by decide +kernel, by decide +kernel⟩, by decide +kernel, by decide +kernel, by decide +kernel, by decide +kernel, by decide +kernel,
    by decide +kernel, by decide +kernel, ⟨by decide +kernel, by decide +kernel⟩, by decide +kernel, by decide +kernel⟩
theorem test_rpub : shows (exec (.rpub 0 0 1) (stRing ringA)) (fun t => (t.ring 0 0).tail) = some 1 := by decide +kernel
theorem test_rcons_wraps : shows (exec (.rcons 0 1) (stRing ringA)) (fun t => ((t.ring 0 0).head, (t.ring 0 0).hslot)) = some (0, 0) := by decide +kernel

theorem witness_RingFaults : let s := stRing ringA
    let g := s.ring 0 0
    ((stRing ringA 0).who = some w0 ∧ ((stRing ringA 0).res 0).ringOk 0 = false) ∧ (s.who = some w0 ∧ (s.res 0).ringOk 0 = true ∧ g.cfg = true) ∧
    g.nslots.toNat < 5 ∧ ((g.claim - g.tail).toNat < 2 ∧ (s.lreg w0 0).setWidth 32 = g.tail) ∧ (g.tail - g.head).toNat < 2 := by decide +kernel

def stChan (c : Chan) : State :=
  engState .s { resA with sc := { resA.sc with sregs := [(17, 0x400000)] } } { tileA with chans := [(2, c)] }
/-- Idle, its whole range filled; armed with one byte to come; being filled. -/
def chIdle : Chan := { Chan.start with space := true, limit := 256, wm := 256 }
def chArmed : Chan := { chIdle with wm := 255 }
theorem witness_WatermarkFunctions : let s := stChan chIdle
    let c := s.chan 0 2
    s.who = some w0 ∧ (s.res 0).chanOk 2 = true ∧ Unhindered s w0 ∧
    (c.base.toNat ≤ (BitVec.ofNat 64 ((s.lreg w0 0).toNat + (s.res 0).spBase)).toNat ∧ (BitVec.ofNat 64 ((s.lreg w0 0).toNat + (s.res 0).spBase)).toNat ≤ c.wm.toNat) ∧
    (¬ (c.base.toNat ≤ c.wm.toNat ∧ c.wm.toNat < c.limit.toNat) ∧ (s.lreg w0 16).toNat ≤ (s.lreg w0 17).toNat ∧
      (s.lreg w0 17).toNat - (s.lreg w0 16).toNat ≤ 2 ^ 32 ∧ (s.lreg w0 17).toNat ≤ (s.res 0).spSize ∧ (s.lreg w0 17).toNat < 2 ^ 56) ∧
    (((stChan chArmed).chan 0 2).base.toNat ≤ ((stChan chArmed).chan 0 2).wm.toNat ∧
      ((stChan chArmed).chan 0 2).wm.toNat < ((stChan chArmed).chan 0 2).limit.toNat) ∧
    c.filling = false ∧ ((stChan { chArmed with filling := true }).chan 0 2).filling = true :=
  ⟨by decide +kernel, by decide +kernel, ⟨by decide +kernel, by decide +kernel⟩, by decide +kernel, by decide +kernel, by decide +kernel, by decide +kernel⟩

/-- A question about an event of package 1. -/
def reqEv : RReq :=
  { src := 0, id := 5, serial := none, rt := false, rp := false, inc := 0, ct := none, cls := 7, addr := 0, op := .evRead 0x10001100000, op0 := 0, op1 := 0, scope := 3 }
/-- An event of this package; one of package 1, not asked for, asked for, answered with a count or that it is dead. -/
def routEv (st : Option RStatus) : ROut :=
  { id := 5, owner := .task 0, path := 0, peer := 1, dest := .eventInfo 0x10001100000, va := 0, tgt := tgtPeer, iaddr := 0x10000, req := reqEv, scope := 3, leave := .free,
    status := st, inc := 0, busy := false, answer := 2, data := [], since := 0 }
def stFar (l : List ROut) : State := { stA .s with routs := l }
theorem witness_EventFunctions : let s := stEvent
    (s.who = some w0 ∧ hdlAsid (s.lreg w0 10) = s.asidOf w0 ∧ hdlType (s.lreg w0 10) = 1 ∧ hdlPkg (s.lreg w0 10) = s.pkgId ∧ s.eventLive (s.lreg w0 10) = true ∧
      Unhindered s w0) ∧
    (s.hasRight 86 (s.classOfWho w0) 1 = true ∧ SerialsFree s w0 (hdlPkg (s.lreg w0 10)) 1) ∧ ({ s with rights := [] } : State).hasRight 86 (s.classOfWho w0) 1 = false ∧
    ((s.eventObj (hdlIdx (s.lreg w0 10))).count - s.lreg w0 11).toNat < 2 ^ 63 :=
  ⟨⟨by decide +kernel, by decide +kernel, by decide +kernel, by decide +kernel, by decide +kernel, ⟨by decide +kernel, by decide +kernel⟩⟩,
    ⟨by decide +kernel, by unfold SerialsFree; decide +kernel⟩, by decide +kernel, by decide +kernel⟩
theorem witness_EventFunctions_far : ∀ l ∈ [[], [routEv none], [routEv (some .performed)]], let s := stFar l
    s.who = some w0 ∧ hdlAsid (s.lreg w0 18) = s.asidOf w0 ∧ hdlType (s.lreg w0 18) = 1 ∧ hdlPkg (s.lreg w0 18) ≠ s.pkgId ∧ Unhindered s w0 ∧
    s.eventRout w0.owner w0.path (s.lreg w0 18) = l.head? ∧ ((2 : Word) - s.lreg w0 19).toNat < 2 ^ 63 := by
  intro l hl
  simp at hl
  rcases hl with rfl | rfl | rfl <;>
    exact ⟨by decide +kernel, by decide +kernel, by decide +kernel, by decide +kernel, ⟨by decide +kernel, by decide +kernel⟩, by decide +kernel, by decide +kernel⟩
theorem witness_EventFaults : let s := stEvent
    s.who = some w0 ∧ hdlType (s.lreg w0 9) ≠ 1 ∧ hdlAsid (s.lreg w0 3) ≠ s.asidOf w0 ∧
    (hdlPkg ((stA .s).lreg w0 10) = (stA .s).pkgId ∧ (stA .s).eventLive ((stA .s).lreg w0 10) = false) ∧
    (let u := stFar [routEv (some .stateUse)]
     u.who = some w0 ∧ u.eventRout w0.owner w0.path (u.lreg w0 18) = some (routEv (some .stateUse)) ∧ (routEv (some .stateUse)).status = some .stateUse) := by decide +kernel
theorem test_evwait_counts_modulo : shows (exec (.evwait 10) { stEvent with events := [(0, { EventObj.start with live := true, count := 1 })] })
    (fun t => (t.sc w0).pc) = some 0x10000 := by decide +kernel

/-- Set A empty, with an access that stands before it and may go on; a write of a host port not flushed; a fence that stands since before the access. -/
theorem witness_FencesComplete : let s := stA .s
    let b := { stA .s with gaccs := [gaccA], nextId := 2 }
    let p : Posted := { port := true, owner := .task 0, path := 0, id := 1, at_ := 5 }
    let f := { b with unflushed := [p] }
    let o := { b with residents := [(0, { resA with sc := { resA.sc with fence := some 1 } })] }
    s.who = some w0 ∧ (s.gaccs = [] ∧ s.routs = [] ∧ s.vops = [] ∧ (s.res 0).dp = none ∧ (s.res 0).xf = none) ∧ s.unflushed = [] ∧
    (b.who = some w0 ∧ gaccA.id < b.nextId ∧ gaccA.tgt.kind ≠ 2 ∧ gaccA.owner = w0.owner ∧ gaccA.path = 0 ∧ gaccA.failed = none ∧ gaccA.isStore = false) ∧
    (f.who = some w0 ∧ p.id < f.nextId ∧ p.owner = w0.owner ∧ p.path = 0 ∧ (4 : BitVec 3) = 4) ∧ (o.who = some w0 ∧ o.fenceOf w0 = some 1 ∧ ¬ gaccA.id < 1) := by decide +kernel

/-- Stream register 0: a scratchpad vector stream of one vector at the last 512 bytes of the window. -/
def strmA : BitVec 512 := stPut (stPut (stPut (stPut 0 4 2 2) 8 1 1) 64 56 0x3FFE00) 384 32 1
def stStream (x : BitVec 512) : State := engState .s { resA with streams := [(0, x)] } tileA
/-- Stream register 0: a scratchpad vector stream of one vector at the last 512 bytes of the window, unbound, bound as an output that has stored all or not, as an input. -/
theorem witness_StreamFunctions : let s := stStream strmA
    let q := (s.res 0).stream 0
    s.who = some w0 ∧ (stKind q = 2 ∧ stBind q = 0 ∧ stCount q = 1 ∧ (stBase q).toNat % 64 = 0 ∧ (stRs q).toNat % 64 = 0 ∧ stSpace q = true ∧
      (stBase q).toNat + 512 = (s.res 0).spSize) ∧
    (stBase (stPut strmA 64 56 0x3FFE40)).toNat + 512 > (s.res 0).spSize ∧
    (let b := stStream (stPut strmA 6 2 2)
     b.who = some w0 ∧ stBind ((b.res 0).stream 0) = 2 ∧ fget none (b.res 0).portFault 0 = none ∧ (b.res 0).staged.getLsbD 0 = false ∧ (b.res 0).pend = [] ∧ b.vops = []) ∧
    (let b := engState .s { resA with streams := [(0, stPut strmA 6 2 2)], staged := 1 } tileA
     b.who = some w0 ∧ stBind ((b.res 0).stream 0) = 2 ∧ (b.res 0).staged.getLsbD 0 = true) ∧
    stBind (((stStream (stPut strmA 6 2 1)).res 0).stream 0) = 1 := by decide +kernel

/-- Bytes that loads have brought, from byte 0x10100 and further places. -/
def bytesAt (a : Nat) (bs : List Byte) : FMap Byte := ((List.range bs.length).zip bs).map (fun ib => (a + ib.1, ib.2))
/-- A record at byte 0x10100. -/
def stRec (l : FMap Byte) : State := { stCohort (some memberA) with recs := [(recKey (.task 0) 0, l)] }
theorem brought {s : State} {o : Owner} {p : BitVec 3} {va n : Nat} {bs : List Byte}
    (h : ((readUnits 1 [(va, n)]).all (fun u => (allBytes (s.recBytes o p) u.1 u.2).isSome) &&
      decide (bs = (readUnits 1 [(va, n)]).flatMap (fun u => (allBytes (s.recBytes o p) u.1 u.2).getD []))) = true) : Brought s o p va n bs := by
  rw [Bool.and_eq_true, List.all_eq_true, decide_eq_true_eq] at h
  exact h
def recCcomm (f : Nat) : List Byte := leBytes 8 77 ++ [3, 16, 4, BitVec.ofNat 8 f] ++ leBytes 4 1 ++ List.replicate 48 0
/-- A well-formed record, with room and without; one whose flags are too large; one not read. -/
theorem witness_CollectiveFunctions_ccomm : let s := stRec (bytesAt 0x10100 (recCcomm 1))
    let full := { s with comms := [(0, { Comm.start with live := true, slots := 16, chunkBytes := 524288 })] }
    s.who = some w0 ∧ s.gaccs = [] ∧ (s.lreg w0 4).toNat = 0x10100 ∧ 0x10100 % 64 = 0 ∧ RecordHere s w0 0x10100 64 (recCcomm 1) ∧ RecordHere full w0 0x10100 64 (recCcomm 1) ∧
    RecordHere (stRec (bytesAt 0x10100 (recCcomm 2))) w0 0x10100 64 (recCcomm 2) ∧ (s.res 0).task = none ∧
    ((recNat (recCcomm 1) 8 1 ≤ 3 ∧ recNat (recCcomm 1) 9 1 = 16 ∧ recNat (recCcomm 1) 10 1 = 4 ∧ recNat (recCcomm 1) 11 1 = 1 ∧ recNat (recCcomm 1) 12 4 ≠ 0 ∧
      recNat (recCcomm 1) 16 48 = 0) ∧ ¬ recNat (recCcomm 2) 11 1 ≤ 1) ∧
    (hdlPkg (BitVec.ofNat 64 (recNat (recCcomm 1) 0 8)) = s.pkgId ∧ s.cohortOf (BitVec.ofNat 64 (recNat (recCcomm 1) 0 8)) = some 0 ∧ s.rankIn 0 (s.res 0) = some 0) ∧
    ((s.comm 0).live = false ∧ (s.commsOf 0).map (fun y => 8 * y.slots * y.chunkBytes) = []) ∧ ((full.commsOf 0).map (fun y => 8 * y.slots * y.chunkBytes)) = [67108864] ∧
    ((stA .s).recBytes w0.owner w0.path = [] ∧ NotHeld (stA .s) w0 true 0x10100 64 ∧
      ∀ i, i < 8 → Translates (stA .s) w0 (0x10100 + 8 * i) .load false (tgtA (0x10100 + 8 * i)) probeLeaf) := by
  refine ⟨by decide +kernel, by decide +kernel, by decide +kernel, by decide, ⟨not_held (by decide +kernel), brought (by decide +kernel)⟩,
    ⟨not_held (by decide +kernel), brought (by decide +kernel)⟩, ⟨not_held (by decide +kernel), brought (by decide +kernel)⟩, by decide +kernel, by decide +kernel, by decide +kernel,
    by decide +kernel, by decide +kernel, by decide +kernel, not_held (by decide +kernel), ?_⟩
  unfold Translates; decide +kernel

/-- A program of one step, SIGNAL of event 0x1100000 by 1, with its descriptor. -/
def progA : List Byte := leBytes 8 0x2400000000000001
def descA : List Byte := leBytes 32 (0x1100000 + 2 ^ 176)
def recCstart (z : Nat) : List Byte := leBytes 8 77 ++ leBytes 8 0x10200 ++ leBytes 4 1 ++ leBytes 4 z ++ leBytes 8 0x10300 ++ List.replicate 32 0
def stStart (live : Bool) (run : CRun) (p : List Byte := progA) (z : Nat := 0) : State :=
  { stRec (bytesAt 0x10100 (recCstart z) ++ bytesAt 0x10200 p ++ bytesAt 0x10300 descA) with
    events := stEvent.events, comms := [(3, { Comm.start with live := live, handle := 77, size := 1, run := run })] }
theorem witness_CollectiveFunctions_cstart : (∀ run ∈ [CRun.idle, .completed, .running, .stopped 5], let s := stStart true run
    s.who = some w0 ∧ (s.lreg w0 4).toNat = 0x10100 ∧ (s.res 0).task = none ∧ s.commOf 77 = some 3 ∧ (s.comm 3).run = run) ∧ (stStart true .idle).gaccs = [] ∧
    BitVec.ofNat 64 (recNat (recCstart 0) 0 8) = 77 ∧ recNat (recCstart 0) 8 8 % 8 = 0 ∧ recNat (recCstart 0) 16 4 = 1 ∧ recNat (recCstart 0) 20 4 = 0 ∧
    recNat (recCstart 0) 48 16 = 0 ∧
    (stStart true .idle).programOk ((cutWords 8 progA).map (BitVec.ofNat 64)) ((cutWords 32 descA).map (BitVec.ofNat 256)) = true ∧
    (cutWords 32 descA).all (fun d => decide (hdlPkg (dBase (BitVec.ofNat 256 d)) = 0)) = true :=
  ⟨by decide +kernel, rfl, by decide +kernel, by decide +kernel, by decide +kernel, by decide +kernel, by decide +kernel, by decide +kernel, by decide +kernel⟩
theorem witness_CollectiveFunctions_records : let s := stStart true .idle
    let b := leBytes 8 0x2C00000000000000
    let u := stStart true .idle b
    (recNat (recCstart 0) 8 8 = 0x10200 ∧ 8 * recNat (recCstart 0) 16 4 = 8 ∧ recNat (recCstart 0) 24 8 = 0x10300 ∧
      32 * descCount ((cutWords 8 progA).map (BitVec.ofNat 64)) = 32 ∧ recNat (recCstart 1) 20 4 ≠ 0) ∧
    RecordHere s w0 0x10100 64 (recCstart 0) ∧ RecordHere s w0 0x10200 8 progA ∧ RecordHere s w0 0x10300 32 descA ∧
    RecordHere (stStart true .idle progA 1) w0 0x10100 64 (recCstart 1) ∧
    (RecordHere u w0 0x10200 8 b ∧ u.programOk ((cutWords 8 b).map (BitVec.ofNat 64)) [] = false ∧ descCount ((cutWords 8 b).map (BitVec.ofNat 64)) = 0) :=
  ⟨by decide +kernel, ⟨not_held (by decide +kernel), brought (by decide +kernel)⟩, ⟨not_held (by decide +kernel), brought (by decide +kernel)⟩,
    ⟨not_held (by decide +kernel), brought (by decide +kernel)⟩, ⟨not_held (by decide +kernel), brought (by decide +kernel)⟩,
    ⟨not_held (by decide +kernel), brought (by decide +kernel)⟩, by decide +kernel, by decide +kernel⟩
theorem witness_CollectiveFunctions_others :
    (stStart false .idle).commOf (BitVec.ofNat 64 (recNat (recCstart 0) 0 8)) = none ∧
    (∀ run ∈ [CRun.idle, .completed, .running, .stopped 5], (stStart true run).commOf ((stStart true run).lreg w0 14) = some 3 ∧ ((stStart true run).comm 3).run = run) ∧
    (stStart false .idle).commOf ((stStart false .idle).lreg w0 14) = none ∧ ((stA .s).lreg w0 15).toNat % 64 ≠ 0 := by decide +kernel


/-! ## The vector engine -/

/-- A vector register with these lanes, the others 0. -/
def lanesOf (l : List Nat) : VReg := BitVec.ofNat 4096 (l.foldr (fun x acc => x + 2 ^ 32 * acc) 0)
/-- v1, v2, v3 hold a few lanes, m1 the first two, k1 a page address, k2 the last row of the window, k3 −1. -/
def resV : Resident :=
  { resA with
    vregs := [(1, lanesOf [5, 0xFFFFFFFF, 0x80000000]), (2, lanesOf [7, 1, 1]), (3, lanesOf [0x3F800000, 0x3F800000, 0xFF800000])],
    mregs := [(1, 3)], kregs := [(1, 0x10100), (2, 0x3FFE00), (3, 0xFFFFFFFFFFFFFFFF), (4, 4)] }
def stV : State := engState .v resV tileA

/-- With VCTL.CHECK = 0 and no stream bound, any registers are ready. -/
theorem vector_ready (rd : List VTgt) (wr : List (VTgt × Option Nat)) : VectorReady stV 0 rd wr := by
  refine ⟨by decide, fun n _ => ?_, Or.inl (by decide +kernel)⟩
  change (if 120 ≤ n then stBind ((stV.res 0).stream (n - 120)) else 0) = 0
  split
  · change (BitVec.extractLsb' 6 2 (fget (0 : BitVec 512) [] (n - 120))).toNat = 0
    rw [show fget (0 : BitVec 512) [] (n - 120) = 0 from rfl]
    decide +kernel
  · rfl

/-- With CHECK = 1, a write to v9 that has not landed lets v1 and v2 be read and v8 be written. -/
def stChecked : State := engState .v { resV with vctl := 1, pend := [{ at_ := 3, tgt := .vreg 9, val := 0, en := allBits, flg := 0 }] } tileA
theorem vector_ready_checked : VectorReady stChecked 0 [.vreg 1, .vreg 2, .mask 1] [(.vreg 8, some 2)] := by
  refine ⟨by decide, fun n hn => ?_, Or.inr ⟨by decide +kernel, ?_⟩⟩
  · rcases hn with h | ⟨l, h⟩
    · simp at h; rcases h with rfl | rfl <;> decide
    · simp at h; obtain ⟨rfl, _⟩ := h; decide
  · intro x hx _
    simp at hx
    subst hx
    refine ⟨by decide +kernel, fun l _ p hp ht => ?_⟩
    have : p = { at_ := 3, tgt := .vreg 9, val := 0, en := allBits, flg := 0 } := by
      have : (stChecked.landed 0 |>.res 0).pend = [{ at_ := 3, tgt := .vreg 9, val := 0, en := allBits, flg := 0 }] := by decide +kernel
      rw [this] at hp
      simpa using hp
    subst this
    exact absurd ht (by decide)

/-- Lane i of the write that one instruction of the vector program leaves pending, and the bits it enables there. -/
def vres (i : Instr) (j : Nat) : Option (BitVec 32 × BitVec 32) :=
  shows (exec i stV) (fun t => match (t.res 0).pend with | p :: _ => (lane p.val j, lane p.en j) | [] => (0, 0))
theorem test_vadd_masked : vres (.vadd 0 8 1 2 1) 1 = some (0, 0xFFFFFFFF) ∧ (vres (.vadd 0 8 1 2 1) 2).map (·.2) = some 0 := by decide +kernel
theorem test_vmin_signed : (vres (.vmin 0 8 1 2 0) 1).map (·.1) = some 0xFFFFFFFF ∧ (vres (.vmax 0 8 1 2 0) 1).map (·.1) = some 1 := by decide +kernel
theorem test_viabs_wraps : (vres (.viabs 0 8 1 0) 2).map (·.1) = some 0x80000000 := by decide +kernel
theorem test_vfadd : (vres (.vfadd 0 8 3 3 0) 1).map (·.1) = some 0x40000000 ∧ (vres (.vfsub 0 8 3 3 0) 2).map (·.1) = some 0x7FC00000 := by decide +kernel
theorem test_vdot : (vres (.vdot 0 8 1 2 0) 1).map (·.1) = some 0xFFFFFFFF := by decide +kernel
theorem test_vrsum : (vres (.vrsum 0 8 1 1) 77).map (·.1) = some 4 := by decide +kernel
theorem test_vbr_decrements : shows (exec (.vbr 5 4 0x3FFFE) stV) (fun t => (t.kread 0 4, (t.res 0).v.pc)) = some (3, 0xFFF8) := by decide +kernel
theorem test_vadd_moves_on : shows (exec (.vadd 3 8 1 2 1) stV) (fun t => ((t.res 0).v.pc, (t.res 0).vpos, (t.res 0).pend.map (·.at_))) =
    some (0x10004, 4, [2]) := by decide +kernel

theorem witness_VectorIntegerResults : VectorReady stV 0 [.vreg 1, .vreg 2, .mask 1] [(.vreg 8, some 2)] ∧ VectorReady stV 0 [.vreg 1] [(.vreg 8, some 2)] ∧
    VectorReady stV 0 [.vreg 1, .mask 1] [(.vreg 8, some 2)] ∧ VectorReady stChecked 0 [.vreg 1, .vreg 2, .mask 1] [(.vreg 8, some 2)] :=
  ⟨vector_ready _ _, vector_ready _ _, vector_ready _ _, vector_ready_checked⟩
theorem witness_VectorFloatResults : VectorReady stV 0 [.vreg 1, .vreg 2, .mask 1] [(.vreg 8, some 4)] ∧
    VectorReady stV 0 [.vreg 1, .vreg 2, .vreg 8, .mask 1] [(.vreg 8, some 4)] ∧ VectorReady stV 0 [.vreg 1, .vreg 2, .mask 1] [(.vreg 8, some 6)] ∧
    VectorReady stV 0 [.vreg 1, .vreg 2, .vreg 8, .mask 1] [(.vreg 8, some 6)] ∧ VectorReady stV 0 [.vreg 1, .mask 1] [(.vreg 8, some 4)] :=
  ⟨vector_ready _ _, vector_ready _ _, vector_ready _ _, vector_ready _ _, vector_ready _ _⟩
theorem witness_VectorComparesAndMasks : VectorReady stV 0 [.vreg 1, .vreg 2, .mask 1] [(.mask 2, some 4)] ∧
    VectorReady stV 0 [.vreg 1, .vreg 2, .mask 1] [(.mask 0, some 2)] ∧ VectorReady stV 0 [.mask 1, .mask 2] [(.mask 3, some 2)] ∧
    VectorReady stV 0 [.mask 1] [(.mask 7, some 2)] ∧ VectorReady stV 0 [.mask 7] [] :=
  ⟨vector_ready _ _, vector_ready _ _, vector_ready _ _, vector_ready _ _, vector_ready _ _⟩
theorem witness_VectorReductions : VectorReady stV 0 [.vreg 1, .mask 1] [(.vreg 8, some 6)] ∧
    (List.range 128).filter (fun j => ((stV.landed 0).mread 0 1).getLsbD j) = [0, 1] ∧
    (List.range 128).filter (fun j => ((stV.landed 0).mread 0 2).getLsbD j) = [] := ⟨vector_ready _ _, by decide +kernel, by decide +kernel⟩
theorem witness_VectorPermutesAndLogPath : VectorReady stV 0 [.vreg 1, .vreg 2, .mask 1] [(.vreg 8, some 3)] ∧
    (VectorReady stV 0 [.vreg 8, .vreg 1] [(.vreg 8, some 3), (.vreg 1, some 3)] ∧ (6 : BitVec 3).toNat < 7) ∧
    VectorReady stV 0 [.vreg 1, .vreg 2, .vreg 8, .mask 1] [(.vreg 8, some 4)] ∧ VectorReady stV 0 [.vreg 1, .vreg 2, .mask 1] [(.vreg 8, some 8)] ∧
    VectorReady stV 0 [.vreg 1, .mask 1] [(.vreg 8, some 8)] :=
  ⟨vector_ready _ _, ⟨vector_ready _ _, by decide⟩, vector_ready _ _, vector_ready _ _, vector_ready _ _⟩
/-- fp32 to fp16, in a named mode, in the resident's, and stochastically. -/
theorem witness_VectorConversions : VectorReady stV 0 [.vreg 3] [(.vreg 8, some 4)] ∧ VectorReady stV 0 [.vreg 3] [(.vreg 8, some 2)] ∧
    NFmt.ofCode 0 = some .fp32 ∧ NFmt.ofCode 3 = some .fp16 ∧ cvtPair 3 0 = true ∧ ((stV.landed 0).res 0).rmode ≠ 4 ∧
    (let r := { resV with rctl := 4 }
     r.rmode = 4) := ⟨vector_ready _ _, vector_ready _ _, by decide, by decide, by decide, by decide +kernel, by decide⟩
theorem witness_VectorScalarValuesAndControl : let s := stV
    VectorReady s 0 [] [(.vreg 8, some 2)] ∧ VectorReady s 0 [.vreg 1] [] ∧ s.who = some wv ∧
    (s.pathBusy (.task 0) 1 = false ∧ (s.res 0).settle.portsHeld = false ∧ s.vops.all (fun v => v.h != 0 || decide (v.fault = none)) = true ∧
      ∀ y, stBind ((s.res 0).stream y) = 2 → fget none (s.res 0).portFault y = none) :=
  ⟨vector_ready _ _, vector_ready _ _, by decide, by decide, by decide +kernel, by decide, fun _ _ => rfl⟩

/-- VADD v1, v2, v3 under m1 follows the prefix. -/
def stRep : State := { stV with mem := memWrite [] 0x10004 (leBytes 4 ((encode (.vadd 0 1 2 3 1)).getD 0).toNat) }
theorem witness_VectorRepeat : let s := stRep
    s.who = some wv ∧ (∃ x, s.fetchWord wv ((s.res 0).v.pc + 4) = .word x ∧ decodeVector x = .ok (.vadd 0 1 2 3 1)) ∧
    (∀ j, j < 64 → (1 + j * 1) % 128 < 120) ∧ (s.res 0).rep = 0 ∧ (s.res 0).repIdx < 64 ∧
    (∃ x, ({ s with mem := [] } : State).fetchWord wv ((s.res 0).v.pc + 4) = .word x ∧ unprefixable (x.extractLsb' 26 6).toNat = true) := by
  refine ⟨by decide, ⟨_, rfl, rfl⟩, by decide, by decide, by decide, ⟨_, rfl, by decide⟩⟩
theorem witness_VectorRepeat_ready : VectorReady stV 0 [.vreg 2, .vreg 3, .mask 1] [(.vreg 1, some 2)] := vector_ready _ _

/-- The last row of the window, and a page of global memory. -/
theorem witness_VectorMemoryAccesses : let s := stV
    let r := (s.landed 0).res 0
    VectorReady s 0 [.vreg 2, .mask 1] [(.vreg 8, none)] ∧ VectorReady s 0 [.mask 0, .vreg 8] [] ∧ r.lanesDone = 0 ∧ fget (0 : BitVec 6) r.wcnt 5 ≠ 63 ∧
    (BitVec.ofInt 64 ((s.kread 0 2).toInt + 64 * 0 + 4 * 0)).toNat % 64 = 0 ∧
    (∀ j ∈ List.range 128, (BitVec.ofInt 64 ((s.kread 0 2).toInt + 64 * 0 + 4 * j)).toNat + 4 ≤ r.spSize) ∧
    (∀ j ∈ [0, 1], (BitVec.ofNat 64 ((s.kread 0 1).toNat + j * (s.kread 0 4).toNat)).toNat % 4 = 0) :=
  ⟨vector_ready _ _, vector_ready _ _, by decide +kernel, by decide +kernel, by decide, by decide +kernel, by decide⟩
/-- The pages are not of another package, or are, with serials free. -/
theorem witness_VectorMemoryAccesses_global : (∀ j ∈ List.range 128,
    Translates (stV.landed 0) wv (0x10100 + 4 * j) .load false (tgtA (0x10100 + 4 * j)) probeLeaf ∧
    Translates (stV.landed 0) wv (0x10100 + 4 * j) .store false (tgtA (0x10100 + 4 * j)) probeLeaf) ∧
    (let s := engState .v resV { tileA with tlb := [{ asid := 0, page := 1, res := .leaf 3 leafP }] }
     s.who = some wv ∧ SerialsFree s wv 1 128 ∧ ∀ j ∈ List.range 128, Translates (s.landed 0) wv (0x10100 + 4 * j) .store false { tgtPeer with pa := 0x10100 + 4 * j } leafP) := by
  unfold Translates SerialsFree; decide +kernel

def stSlab (full : Bool) (win : BitVec 32) : State := engState .v { resV with slabWin := win } { tileA with slabfe := if full then 0xFFFFFFFF else 0 }
theorem witness_VectorSlabsCountersAtomics :
    (∀ full ∈ [true, false], let s := stSlab full 0xFFFFFFFF
      s.who = some wv ∧ (s.res 0).portBind 8 = 0 ∧ (s.res 0).check = false ∧ fget (0 : BitVec 6) (s.res 0).wcnt 5 ≠ 63 ∧
      (s.res 0).slabOk 31 = true ∧ (s.res 0).v.pass = false ∧ (s.res 0).preempt = false ∧ s.slabFull (hTile 0) 31 = full ∧ s.slabClaimed (hTile 0) 31 = false) ∧
    ((stSlab true 0x7FFFFFFF).res 0).slabOk 31 = false ∧
    ((fget (0 : BitVec 6) (stV.res 0).wcnt 5).toNat ≤ 0 ∧ ∀ v ∈ stV.covered 0 5 0, v.fault = none) := by decide +kernel
theorem witness_VectorSlabsCountersAtomics_vamo : let s := stV
    VectorReady s 0 [.vreg 8, .vreg 9] [(.vreg 8, none)] ∧ (s.res 0).lanesDone = 0 ∧ s.handlerWidth 0 = 4 ∧ fget (0 : BitVec 6) (s.res 0).wcnt (vamoCtr 3) ≠ 63 ∧
    (∀ i, i < 128 → (BitVec.ofInt 64 ((s.kread 0 1).toInt + (lane ((s.landed 0).vread 0 9) (1 * i)).toInt)).toNat = 0x10100) ∧
    (∀ b, Translates (s.landed 0) wv 0x10100 .atomic b (tgtA 0x10100) probeLeaf) ∧ (tgtA 0x10100).aper = 0 ∧ SerialsFree s wv s.pkgId 128 := by
  refine ⟨vector_ready _ _, by decide +kernel, by decide, by decide +kernel, by decide +kernel, ?_, by decide, ?_⟩
  · unfold Translates; decide +kernel
  · unfold SerialsFree; decide +kernel


/-! ## The matrix and copy engines -/

def resM : Resident :=
  { resA with
    ephWin := 0x000E38, cregs := [(1, 0x3FFFF8), (2, 0x10100), (3, 0x10101), (4, 0x3FFFF8), (5, 8), (6, 0x3FFFFF), (7, 0x100000008), (8, 0x800000008), (9, 64), (10, 1)] }
theorem witness_LocalRegisterResults : let m := engState .m resM tileA
    let s := engState .c resM tileA
    m.who = some wm ∧ (3 : BitVec 18).toNat < 4 ∧ s.who = some wc ∧ (fget (0 : Word) (s.res 0).cregs 1).toNat = 0x3FFFF8 ∧ 0x3FFFF8 + 8 ≤ (s.res 0).spSize ∧
    NotHeld s wc false ((s.res 0).spBase + 0x3FFFF8) 8 ∧
    ((s.res 0).spSize < (BitVec.ofInt 64 ((fget (0 : Word) (s.res 0).cregs 1).toInt + 8 * 1)).toNat + 8) ∧
    (NotHeld s wc true 0x10100 8 ∧ Translates s wc (fget (0 : Word) (s.res 0).cregs 2).toNat .load false (tgtA 0x10100) probeLeaf) ∧
    (fget (0 : Word) (s.res 0).cregs 3).toNat % 8 ≠ 0 :=
  ⟨by decide, by decide, by decide, by decide, by decide, not_held (by decide), by decide, ⟨not_held (by decide), ⟨by decide +kernel, by decide +kernel⟩⟩, by decide⟩
theorem test_nseth : shows (exec (.nseth 5 0 3 0xABCD) (engState .m resM tileA)) (fun t => t.lreg wm 5) = some 0xABCD000000000000 := by decide
theorem test_cseth : shows (exec (.cseth 7 5 0xFFF) (engState .c resM tileA)) (fun t => t.lreg wc 7) = some 0x8FFF := by decide
theorem test_caddi_signed : shows (exec (.caddi 7 5 0xFFF) (engState .c resM tileA)) (fun t => t.lreg wc 7) = some 7 := by decide

theorem witness_MatrixAndCopyControl : let s := engState .m resM tileA
    let b := { s with gaccs := [{ gaccA with path := 2 }] }
    let c := { engState .c resM tileA with gaccs := [{ gaccA with path := 3 }] }
    s.who = some wm ∧ s.pathBusy (.task 0) 2 = false ∧ b.pathBusy (.task 0) 2 = true ∧ (s.res 0).dp = none ∧ mgStat (s.tile 0).mgate = 0 ∧
    mgStat ((engState .m resM { tileA with mgate := 0xF0 }).tile 0).mgate ≠ 0 ∧
    c.who = some wc ∧ c.pathBusy (.task 0) 3 = true ∧ (engState .c resM tileA).pathBusy (.task 0) 3 = false := by decide

/-- A matrix stream of a format, a base, a row stride, an element stride. -/
def mqOf (fmt base rs es : Nat) : BitVec 512 := BitVec.ofNat 512 (fmt + 16 + 2 ^ 64 * base + 2 ^ 128 * rs + 2 ^ 160 * es)
/-- int8 operands, weights, and the two sides of a transform in fp32. -/
def resD : Resident :=
  { resM with
    nregs := [(1, 0x004000400040), (2, 0x0001003C0001), (3, 0x000000020001), (4, 0x000000000001), (5, 0x004000010001)],
    streams := [(8, mqOf 9 0 64 0), (9, mqOf 9 0x10000 64 0), (10, mqOf 0 0 512 8), (11, mqOf 0 0x1000 512 8)] }
def dpOf (i : Instr) (r : Resident) (qa qb n : Nat) : DataPath :=
  { id := 0, instr := i, iaddr := r.m.pc, shape := fget (0 : Word) r.nregs n, qa := r.stream qa, qb := r.stream qb, units := 0, asleep := false, stopped := false }
def stD (full : Bool) : State := engState .m resD { tileA with slabfe := if full then 0xFFFFFFFF else 0 }
theorem witness_MatrixDatapathBegins_dense : let s := stD false
    let x := s.res 0
    let qa := x.stream 8
    let qb := x.stream 9
    let ten := [0, 2, 3, 4, 5, 6, 7, 9, 10, 11]
    s.who = some wm ∧ x.dp = none ∧ (s.tile (hTile 0)).slabfe.getLsbD 31 = false ∧ Unhindered s wm ∧ x.slabWin.getLsbD 31 = true ∧
    MatrixSide qa ten ∧ MatrixSide qb ten ∧ (let m := shM (fget 0 x.nregs 1); let c := shN (fget 0 x.nregs 1); let k := shK (fget 0 x.nregs 1)
      (1 ≤ m ∧ m ≤ 64 ∧ 1 ≤ c ∧ c ≤ 64 ∧ 1 ≤ k ∧ k ≤ 16384) ∧ RowsIn x.spSize qa m k ∧ RowsIn x.spSize qb c k ∧ mqSblk qa ≠ 3 ∧
      ScalesIn x.spSize qa m ((k + 16 * 2 ^ mqSblk qa - 1) / (16 * 2 ^ mqSblk qa)) ∧ TensorIn x.spSize qa m ∧ ¬ 1 ≤ shN (fget 0 x.nregs 4)) := by
  refine ⟨by decide, by decide, by decide, ⟨by decide, by decide⟩, by decide, ?_⟩
  unfold MatrixSide RowsIn ScalesIn TensorIn
  decide +kernel
theorem witness_MatrixDatapathBegins_ephemeris : let x := (stD false).res 0
    let qa := x.stream 8
    let qb := x.stream 9
    let m := shM (fget 0 x.nregs 1)
    let c := shN (fget 0 x.nregs 1)
    let k := shK (fget 0 x.nregs 1)
    MatrixSide qa [9, 4, 5, 2] ∧ MatrixSide qb [9, 10, 11, 7] ∧ SlotsIn x qb c k ∧ mqRecov qb = 0 ∧ ScalesIn x.spSize qa m (k / 64) ∧ ScalesIn x.spSize qb c (k / 64) ∧
    TensorIn x.spSize qb c ∧ ImagesIn x.spSize qb (mqBase qb) c (k / 64) := by
  unfold MatrixSide SlotsIn ScalesIn TensorIn ImagesIn
  decide +kernel
/-- The two sides of a transform, with their fields. -/
def sideA : BitVec 512 := mqOf 0 0 512 8
def sideB : BitVec 512 := mqOf 0 0x1000 512 8
theorem sides : (stD true).res 0 = resD ∧ resD.stream 10 = sideA ∧ resD.stream 11 = sideB ∧ resD.spSize = 0x400000 :=
  ⟨by decide +kernel, by decide +kernel, by decide +kernel, by decide +kernel⟩
theorem sideA_fields : mqKind sideA = 1 ∧ mqFmt sideA = 0 ∧ mqBase sideA = 0 ∧ mqRs sideA = 512 ∧ mqEs sideA = 8 := by decide +kernel
theorem sideB_fields : mqKind sideB = 1 ∧ mqFmt sideB = 0 ∧ mqBase sideB = 0x1000 ∧ mqRs sideB = 512 ∧ mqEs sideB = 8 := by decide +kernel
theorem witness_MatrixDatapathBegins_sides : RealSides sideA sideB 4 ∧ (∀ q ∈ [sideA, sideB], mqEs q % 4 = 0 ∧ 2 * 4 ≤ mqEs q) ∧ 3 * 4 ≤ mqRs sideB := by
  simp [RealSides, sideA_fields, sideB_fields]
/-- One row of 60 elements, of a seed, and of a degree, with a header of zeros. -/
theorem witness_MatrixDatapathBegins_transforms : let s := stD true
    let x := s.res 0
    s.who = some wm ∧ x.dp = none ∧ (s.tile (hTile 0)).slabfe.getLsbD 31 = true ∧
    (shM (fget 0 x.nregs 2) = 1 ∧ shN (fget 0 x.nregs 2) = 60 ∧ shK (fget 0 x.nregs 2) = 1 ∧ ∀ r ∈ [2, 3, 4, 5], 60 % (1 * r) = 0) ∧
    (shM (fget 0 x.nregs 3) = 1 ∧ shN (fget 0 x.nregs 3) = 2) ∧ s.heldBy (hTile 0) true x.asid (x.spBase + 0) 64 none = false ∧ memRead (s.tile (hTile 0)).spad x.spBase 64 = List.replicate 64 0 := by
  decide +kernel
/-- The ranges of the two sides lie apart. -/
theorem witness_MatrixDatapathBegins_apart :
    let elems := fun (q : BitVec 512) (g : Nat × Nat) => ∃ t p, t < 1 ∧ p < 60 ∧ g = (mqBase q + t * mqRs q + p * mqEs q, 2 * 4)
    let values := fun (q : BitVec 512) (off cnt : Nat) (g : Nat × Nat) => ∃ l, l < 1 ∧ g = (mqBase q + off + l * mqRs q, cnt * 4)
    ApartIn 0x400000 (elems sideA) (elems sideB) ∧ ApartIn 0x400000 (values sideA 0 2) (fun g => g = (mqBase sideB, 64) ∨ values sideB 64 3 g) ∧
    ApartIn 0x400000 (fun g => g = (mqBase sideA, 64) ∨ values sideA 64 3 g) (values sideB 0 2) := by
  simp only [ApartIn, sideA_fields, sideB_fields]
  refine ⟨⟨?_, ?_⟩, ⟨?_, ?_⟩, ⟨?_, ?_⟩⟩
  · rintro g (⟨t, p, ht, hp, rfl⟩ | ⟨t, p, ht, hp, rfl⟩) <;> simp only <;> omega
  · rintro a b ⟨t, p, ht, hp, rfl⟩ ⟨u, q, hu, hq, rfl⟩; simp only; omega
  · rintro g (⟨l, hl, rfl⟩ | rfl | ⟨l, hl, rfl⟩) <;> simp only <;> omega
  · rintro a b ⟨l, hl, rfl⟩ (rfl | ⟨k, hk, rfl⟩) <;> simp only <;> omega
  · rintro g ((rfl | ⟨l, hl, rfl⟩) | ⟨l, hl, rfl⟩) <;> simp only <;> omega
  · rintro a b (rfl | ⟨l, hl, rfl⟩) ⟨k, hk, rfl⟩ <;> simp only <;> omega
/-- A window granted to no slab; a LEG whose header a watermark holds; a datapath instruction under way. -/
theorem witness_MatrixDatapathBegins_others : ((engState .m { resD with slabWin := 0 } tileA).res 0).slabWin.getLsbD 31 = false ∧
    (let s := engState .m resD { tileA with chans := [(0, { Chan.start with space := true, limit := 64 })] }
     s.who = some wm ∧ (s.res 0).dp = none ∧ ¬ NotHeld s wm false ((s.res 0).spBase + mqBase ((s.res 0).stream 10)) 64) ∧
    (let s := engState .m { resD with dp := some (dpOf (.mma 31 8 9 1 1 1) resD 8 9 1) } tileA
     s.who = some wm ∧ (s.res 0).dp ≠ none) := by
  refine ⟨by decide, ⟨by decide, by decide, fun h => ?_⟩, by decide⟩
  exact absurd h (by unfold NotHeld; decide +kernel)

/-- An int8 product of one element by one under way: (−2) × 3 added to slab 31, or its datapath stopped short or done. -/
def dpA : DataPath := dpOf (.mma 31 8 9 1 0 1) { resD with nregs := [(1, 0x000100010001)] } 8 9 1
def stDp (d : DataPath) (spad : Memory) (chans : FMap Chan) : State := engState .m { resD with dp := some d } { tileA with spad := spad, chans := chans }
def spadA : Memory := memWrite (memWrite [] 0 [0xFE]) 0x10000 [3]
theorem witness_MatrixDatapathWork : let s := stDp dpA spadA []
    s.cur 0 .m = some 0 ∧ (s.res 0).dp = some dpA ∧ dpA.stopped = false ∧ dpA.asleep = false ∧ dpA.units < dpTotal dpA ∧ s.unitHeld 0 dpA = false ∧
    (s.res 0).preempt = false ∧ (mqFormat dpA.qa).isInt = true ∧ (mqFormat dpA.qb).isInt = true ∧ shM dpA.shape ≤ 64 ∧ shN dpA.shape ≤ 64 := by decide +kernel
theorem test_mma_product : shows (exec (.progressPointReached 0 .m) (stDp dpA spadA [])) (fun t => t.slabWord 0 31 0) = some 0xFFFFFFFA := by decide +kernel
theorem witness_MatrixDatapathWork_others :
    (let d := dpOf (.sbp 31 8 9 5 1 1) resD 8 9 5
     let s := stDp d [] []
     (s.res 0).dp = some d ∧ d.units < dpTotal d ∧ s.unitHeld 0 d = false ∧ (match s.dpUnit 0 d with | .error _ => true | .ok _ => false) = true) ∧
    (stDp dpA spadA [(0, { Chan.start with space := true, limit := 256 })]).unitHeld 0 dpA = true ∧
    (let d := { dpA with units := 1 }
     dpTotal d ≤ d.units) ∧
    ((∀ q < 8, ∀ d, ((stA .m).res (mkHandle 0 q)).dp = some d → d.stopped = true ∨ (subArrays d).getLsbD 0 = false) ∧ mgIdle ((stA .m).tile 0).mgate ≠ 0 ∧
      (mgKeep ((stA .m).tile 0).mgate).getLsbD 0 = false) := by
  refine ⟨by decide +kernel, by decide +kernel, by decide +kernel, fun q hq d hd => ?_, by decide, by decide⟩
  have : ∀ q < 8, ((stA .m).res (mkHandle 0 q)).dp = none := by decide
  rw [this q hq] at hd
  cases hd
/-- A wake while a datapath instruction sleeps on gated sub-arrays. -/
theorem witness_MatrixDatapathWork_wake :
    let d := { dpA with asleep := true }
    let s := engState .m { resD with dp := some d } { tileA with mgate := 0xF0, waking := true }
    (s.res (mkHandle 0 0)).dp = some d ∧ d.asleep = true ∧ (s.tile 0).waking = true ∧ mgStat (s.tile 0).mgate ≠ 0 := by decide +kernel

def stC (x : Option Xfer) (chans : FMap Chan := []) : State := engState .c { resM with xf := x } { tileA with chans := chans }
/-- COPY of the window's last 8 bytes from its first, FILL with c2, and their fill of channel 2. -/
def xfCopy : Xfer := newXfer (stC none) 0 .copy 4 0 4 0 5 0 0 0 1 1
def xfFill : Xfer := newXfer (stC none) 0 .fill 8 2 4 2 5 0 0 1 1 0
/-- Channel 2 idle, and armed over the last 8 bytes. -/
theorem witness_CopyTransfers : let s := stC none
    let r := s.res 0
    let cr := fun (x : Nat) => fget (0 : Word) r.cregs x
    let c := s.chan 0 2
    s.who = some wc ∧ r.xf = none ∧ (cr 4).toNat + (cr 5).toNat ≤ r.spSize ∧ 1 ≤ (cr 5).toNat ∧ (cr 0).toNat + (cr 5).toNat ≤ (cr 4).toNat ∧
    (cr 7 = 0x100000008 ∧ cr 8 = 0x800000008) ∧ ((cr 9).toNat % 4 = 0 ∧ cr 10 = 1 ∧ (cr 9).toNat + 4 ≤ r.spSize) ∧ r.spSize < (cr 6).toNat + (cr 5).toNat ∧
    r.chWin.getLsbD 2 = true ∧ ¬ (c.base.toNat ≤ c.wm.toNat ∧ c.wm.toNat < c.limit.toNat) ∧
    (let c := (stC none [(2, { Chan.start with space := true, base := 0x3FFF00, wm := 0x3FFFF8, limit := 0x400000 })]).chan 0 2
     c.base.toNat ≤ c.wm.toNat ∧ c.wm.toNat < c.limit.toNat ∧ c.space = true ∧ (cr 4).toNat + r.spBase = c.wm.toNat ∧ c.wm.toNat + (cr 5).toNat ≤ c.limit.toNat) ∧
    ((stC (some xfCopy)).who = some wc ∧ ((stC (some xfCopy)).res 0).xf ≠ none) := by decide +kernel
/-- The granule access over all 8 bytes, its bytes not read, read, ready, and written. -/
def granA (read ready : Bool) (put : Nat) : Gran :=
  { lo := 0, len := 8, dst := 0x3FFFF8, src := [(0, 8, 0)], places := [], into := [], got := if read then (List.range 8).map (fun i => (i, BitVec.ofNat 8 i)) else [],
    ready := ready, put := put }
def xfAt (x : Xfer) (g : List Gran) : Xfer := { x with next := if g = [] then 0 else 8, grans := g }
theorem witness_CopyTransfers_progress : (xfCopy.op = .copy ∧ xfCopy.ss = true ∧ xfFill.op = .fill) ∧
    (∀ x ∈ [xfCopy, xfFill], ∀ g ∈ [[], [granA false false 0], [granA true false 0], [granA true true 0], [granA true true 8]],
      (stC (some (xfAt x g))).cur 0 .c = some 0 ∧ ((stC (some (xfAt x g))).res 0).xf = some (xfAt x g) ∧ x.stopped = false ∧ x.ds = true ∧ x.pos < x.opb.toNat ∧
      ((stC (some (xfAt x g))).res 0).preempt = false ∧ ((stC (some (xfAt x g))).res 0).c.bnd = false ∧ ((stC (some (xfAt x g))).res 0).c.blk < 256) ∧
    (stC (some xfCopy)).gaccs = [] ∧ (∀ kc ∈ ((stC (some xfCopy)).tile 0).chans, kc.2.armed = false) ∧ (granA true false 0).got.length = 8 ∧
    ({ xfCopy with pos := 8 } : Xfer).opb.toNat ≤ ({ xfCopy with pos := 8 } : Xfer).pos := by
  refine ⟨by decide +kernel, by decide +kernel, rfl, by decide +kernel, by decide +kernel, by decide +kernel⟩
theorem test_granule_writes : shows (exec (.progressPointReached 0 .c) (stC (some (xfAt xfCopy [granA true true 0]))))
    (fun t => memRead (t.tile 0).spad 0x3FFFF8 8) = some [0, 1, 2, 3, 4, 5, 6, 7] := by decide +kernel
theorem test_granule_moves_wm : shows (exec (.progressPointReached 0 .c) (stC (some (xfAt xfFill [granA true true 8])) [(2, { Chan.start with filling := true })]))
    (fun t => ((t.chan 0 2).wm, (t.res 0).xf.map (·.pos))) = some (0x400000, some 8) := by decide +kernel

/-! ## Collective steps and handler words -/

/-- A buffer of two blocks of 8 bytes of fp32 in the window at 0x40, with channel 2; a live event; the parameters of a transpose; an event of package 1. -/
def bufD : BitVec 256 := 0x40 + 16 * 2 ^ 64 + 2 * 2 ^ 96 + 2 ^ 144 + 2 * 2 ^ 160
def evD : BitVec 256 := 0x1100000 + 2 ^ 176
def xpD : BitVec 256 := 0x80 + 2 ^ 144 + 255 * 2 ^ 160 + 2 * 2 ^ 176
def farD : BitVec 256 := 0x1100000 + 2 ^ 40 + 2 ^ 176
/-- Rank 0 of a communicator of two, running. -/
def commA : Comm :=
  { Comm.start with live := true, handle := 77, size := 2, slots := 1, chunkBytes := 4096, run := .running, runs := 1, prog := [0, 0], descs := [bufD, evD, xpD, farD] }
def stColl (x : Comm) : State :=
  { engState .s resA tileA with turn := .coll 0, comms := [(0, x)], events := [(0, { EventObj.start with live := true, count := 2 })] }
theorem member_runs (x : Comm) (h : x.live = true) (g : x.run = .running) : MemberRuns (stColl x) 0 x := ⟨rfl, rfl, h, g⟩

def loopProg : List (BitVec 64) := [0x2800000000000000, 0, 0x2C00000000000000]
theorem witness_CollectiveSendingSteps_loops :
    MemberRuns (stColl commA) 0 commA ∧ ClosesAt (loopProg.drop (0 + 1)) 1 ∧ MemberRuns (stColl { commA with prog := loopProg }) 0 { commA with prog := loopProg } ∧
    (∀ n : Nat, let x := { commA with loops := [(0, 0, 2)], ctrs := [(0, n)] }
      MemberRuns (stColl x) 0 x ∧ x.loops = ((0 : BitVec 2).toNat, 0, 2) :: [] ∧ x.counter 0 = n) :=
  ⟨member_runs _ rfl rfl, ⟨⟨_, rfl, by decide +kernel⟩, by decide +kernel, by decide +kernel⟩, member_runs _ rfl rfl, fun n => ⟨member_runs _ rfl rfl, rfl, rfl⟩⟩

theorem witness_CollectiveSendingSteps_events : let s := stColl commA
    let asked := s.askEvent (.coll 0) 4 0 (dBase (commA.desc 3))
    MemberRuns s 0 commA ∧ commA.sends = [] ∧ commA.step = none ∧ dKind (commA.desc 1) = 1 ∧ dKind (commA.desc 3) = 1 ∧
    ((s.eventObj (hdlIdx (dBase (commA.desc 1)))).count - fget 0 commA.captured 1).toNat = 2 ∧ (∀ o ∈ s.routs, o.owner ≠ .coll 0) ∧
    (hdlPkg (dBase (commA.desc 1)) = s.pkgId ∧ s.eventLive (dBase (commA.desc 1)) = true) ∧ hdlPkg (dBase (commA.desc 3)) ≠ s.pkgId ∧
    s.eventRout (.coll 0) 4 (dBase (commA.desc 3)) = none ∧ (s.seqFor (.coll 0) (hdlPkg (dBase (commA.desc 3)))).next = 1 ∧ (s.seqFor (.coll 0) (hdlPkg (dBase (commA.desc 3)))).seen = 0 ∧
    (({ asked with routs := asked.routs.map (fun o => { o with status := some .performed, answer := 3 }) } : State).eventRout (.coll 0) 4 (dBase (commA.desc 3))).map
      (fun o => (o.status, (o.answer.setWidth 64 - fget 0 commA.captured 3 : Word).toNat)) = some (some .performed, 3) ∧
    (EngineSettled s 0 ∧ ¬ EngineSettled { s with gaccs := [{ gaccA with owner := .coll 0, isStore := true }] } 0) :=
  ⟨member_runs _ rfl rfl, by decide +kernel, by decide +kernel, by decide +kernel, by decide +kernel, by decide +kernel, by decide +kernel, by decide +kernel, by decide +kernel,
    by decide +kernel, by decide +kernel, by decide +kernel, by decide +kernel, by unfold EngineSettled; decide +kernel⟩

def stepA (k : StepKind) : StepRun :=
  { kind := k, peer := 1, ord := 0, buf := 0, lo := 0, len := 8, src := 1, off := 0, m := 0, par := 0, began := 0, flush := false, used := [] }
/-- Channel 2 taken over at its WM. -/
def stFill (x : Comm) (wm : BitVec 56) : State :=
  { stColl x with tiles := [(0, { tileA with chans := [(2, { Chan.start with space := true, base := 0x40, wm := wm, limit := 0x50 })] })] }
theorem witness_CollectiveSendingSteps_sends : let s := stColl commA
    let d := commA.desc 0
    dKind d = 0 ∧ (((commA.rank : Int) + (0 : BitVec 8).toInt * 0 + (1 : BitVec 20).toInt) % commA.size).toNat ≠ commA.rank ∧
    (((commA.rank : Int) + (0 : BitVec 8).toInt * 0 + (2 : BitVec 20).toInt) % commA.size).toNat = commA.rank ∧
    (dSpace d = 1 ∧ (s.res (mkHandle (dTile d) 0)).life ≠ .free ∧ (s.res (mkHandle (dTile d) 0)).asid = commA.asid ∧ (s.res (mkHandle (dTile d) 0)).spBase ≤ (dBase d).toNat + 0 ∧
      (dBase d).toNat + 8 + 8 ≤ (s.res (mkHandle (dTile d) 0)).spBase + (s.res (mkHandle (dTile d) 0)).spSize) ∧ dKind (commA.desc 1) ≠ 0 ∧
    ((0 : BitVec 20).toNat < commA.size ∧ commA.size ≤ 2 ^ 20 ∧ commA.size ≤ (2 : BitVec 20).toNat) := by decide +kernel
theorem witness_CollectiveSendingSteps_fills : MayFill (stColl commA) 0 2 true 0x40 16 ∧ MayFill (stFill commA 0x40) 0 2 true 0x40 16 ∧ ¬ MayFill (stFill commA 0x48) 0 2 true 0x40 16 ∧
    MayFill (stColl commA) 0 2 true 0x48 8 ∧ MayFill (stColl commA) 0 0xFF true 0x2000 8 ∧
    (let d := commA.desc 0; dTile d = 0 ∧ dCh d = 2 ∧ dSpace d = 1 ∧ dBase d = 0x40 ∧ dLen d = 16) :=
  ⟨fun _ _ h => absurd h (by decide +kernel), fun _ _ _ => by decide +kernel, fun h => absurd (h (by decide) (by decide +kernel) (by decide +kernel)) (by decide +kernel),
    fun _ _ h => absurd h (by decide +kernel), fun h => absurd rfl h, by decide +kernel⟩
/-- No window of the communicator's ASID holds the block. -/
theorem witness_CollectiveSendingSteps_outside : ¬ StepWindow (stColl { commA with asid := 9 }) { commA with asid := 9 } (commA.desc 0) 0 8 := by
  intro h
  obtain ⟨r, hr, -, ha, -⟩ := h (by decide +kernel)
  have : ∀ r, r < 8 → ((stColl { commA with asid := 9 }).res (mkHandle (dTile (commA.desc 0)) r)).asid ≠ 9 := by decide +kernel
  exact this r hr ha
theorem witness_CollectiveSendingSteps_done :
    let y := { commA with step := some (stepA .send) }
    let b := { commA with step := some { stepA .bcast with peer := 0, off := 8 } }
    let t := { commA with step := some { stepA .xpose with m := 3, par := 0xFF#1024 <<< 472 } }
    (MemberRuns (stColl y) 0 y ∧ y.step = some (stepA .send) ∧ y.sends = [] ∧ ∀ o ∈ (stColl y).routs, o.owner ≠ .coll 0) ∧
    (MemberRuns (stColl b) 0 b ∧ b.rank = 0 ∧ EngineSettled (stColl b) 0) ∧
    (MemberRuns (stColl t) 0 t ∧ t.size < 3 ∧ (0xFF#1024 <<< 472).extractLsb' 472 8 = 0xFF ∧ (0xFF#1024 <<< 472).extractLsb' 640 64 = 0 ∧ EngineSettled (stColl t) 0) := by
  refine ⟨⟨member_runs _ rfl rfl, rfl, rfl, fun o ho => by cases ho⟩, ⟨member_runs _ rfl rfl, rfl, ?_⟩, ⟨member_runs _ rfl rfl, by decide, by decide +kernel, by decide +kernel, ?_⟩⟩ <;>
    (unfold EngineSettled; intro g hg; cases hg)

/-- A transpose of one column of 4-byte elements from 0x1000 to 0x2000. -/
def xpA : List Byte :=
  leBytes 8 77 ++ leBytes 8 0x1000 ++ [0, 0, 1, 0] ++ leBytes 4 0 ++ leBytes 4 1 ++ leBytes 4 1 ++ leBytes 8 8 ++ leBytes 8 4 ++ leBytes 8 0x2000 ++
  [0, 0, 1, 0xFF] ++ leBytes 4 0 ++ leBytes 8 4 ++ leBytes 8 4 ++ List.replicate 48 0
/-- The engine holds these bytes of tile 0's scratchpad. -/
def stHeld (x : Comm) (a : Nat) (bs : List Byte) : State := { stColl x with recs := [(recKey (.coll 0) 4, bytesAt (spadKey 0 + a) bs)] }
theorem bytes_here {s : State} {c tile a n : Nat} {scratch : Bool} {bs : List Byte}
    (h : ((readUnits (if scratch then 4 else 1) [(a, n)]).all (fun u => (allBytes (s.recBytes (.coll c) 4) ((if scratch then spadKey tile else 0) + u.1) u.2).isSome) &&
      decide (bs = (readUnits (if scratch then 4 else 1) [(a, n)]).flatMap (fun u => (allBytes (s.recBytes (.coll c) 4) ((if scratch then spadKey tile else 0) + u.1) u.2).getD []))) = true) :
    BytesHere s c scratch tile a n bs := by
  rw [Bool.and_eq_true, List.all_eq_true, decide_eq_true_eq] at h
  exact h
theorem witness_CollectiveSendingSteps_xpose : let s := stHeld commA 0x80 xpA
    let f := recNat xpA
    BytesHere s 0 true 0 0x80 128 xpA ∧ (dKind (commA.desc 2) = 2 ∧ dBase (commA.desc 2) = 0x80) ∧
    (f 0 8 = 77 ∧ f 18 1 = 1 ∧ f 16 2 = 0 ∧ f 19 1 = 0 ∧ f 20 4 = 0 ∧ f 24 4 = 1 ∧ f 28 4 = 1 ∧ f 58 1 = 1 ∧ f 59 1 = 0xFF ∧ f 56 2 = 0 ∧ f 60 1 = 0 ∧ f 61 3 = 0 ∧
      f 80 8 = 0 ∧ f 96 32 = 0) ∧
    ((s.res (mkHandle 0 0)).life ≠ .free ∧ (s.res (mkHandle 0 0)).asid = commA.asid ∧ (s.res (mkHandle 0 0)).spBase = 0 ∧
      f 8 8 + 1 * 8 + 2 * 4 ≤ (s.res (mkHandle 0 0)).spSize ∧ f 48 8 + 2 * 4 + 4 ≤ (s.res (mkHandle 0 0)).spSize ∧ f 32 8 = 8 ∧ f 40 8 = 4 ∧ f 64 8 = 4 ∧ f 72 8 = 4) :=
  ⟨bytes_here (by decide +kernel), by decide +kernel, by decide +kernel, by decide +kernel⟩

theorem witness_CollectiveReceivingSteps_begin : let s := stColl commA
    let d := commA.desc 0
    MemberRuns s 0 commA ∧ commA.step = none ∧ commA.sends = [] ∧ dKind d = 0 ∧ dLen d / dNblk d = 8 ∧ dNblk d = 2 ∧
    ((s.res (mkHandle (dTile d) 0)).life ≠ .free ∧ (s.res (mkHandle (dTile d) 0)).asid = commA.asid ∧ (s.res (mkHandle (dTile d) 0)).spBase ≤ (dBase d).toNat + 8 ∧
      (dBase d).toNat + 8 + 8 ≤ (s.res (mkHandle (dTile d) 0)).spBase + (s.res (mkHandle (dTile d) 0)).spSize) :=
  ⟨member_runs _ rfl rfl, by decide +kernel, by decide +kernel, by decide +kernel, by decide +kernel, by decide +kernel, by decide +kernel⟩

/-- A chunk from rank 1: eight bytes of a stream, or two wide elements. -/
def chunkA (wide : Bool) (total : Nat) : Chunk :=
  { comm := 0, src := 0, sender := 1, run := 1, kind := .pair, wide := wide, ord := 0, serial := { asid := 0, nodeInst := 0, taskNum := 0, seq := 0 }, offset := 0,
    total := total, data := leBytes 4 0x3F800000 ++ leBytes 4 0x40000000, eights := [0], miss := 0, paid := true, recd := commA.recd, inc := 1, rt := false, rp := false }
def commR (k : StepKind) (wide : Bool) (total off : Nat) : Comm :=
  { commA with step := some { stepA k with off := off }, windows := [{ sender := 1, chunks := [chunkA wide total], out := 0 }] }
theorem witness_CollectiveReceivingSteps_chunks :
    (∀ k ∈ [StepKind.recv, .rrf, .rrs], let x := commR k (decide (k ≠ .recv)) 8 0
      x.live = true ∧ x.run = .running ∧ x.step = some (stepA k) ∧ x.windows.find? (fun w => w.sender == (stepA k).peer) = some { sender := 1, chunks := [chunkA (decide (k ≠ .recv)) 8], out := 0 } ∧
      (stepA k).off < (stepA k).len ∧ x.sends = [] ∧ dSpace (x.desc 0) = 1 ∧ wideFmt (dFmt (x.desc 0)) = true ∧ fmtBits (dFmt (x.desc 0)) = 32) ∧
    (let c := chunkA true 8
     c.run = commA.runs ∧ c.kind = .pair ∧ c.ord = 0 ∧ c.offset ≤ 0 ∧ 0 < c.offset + c.data.length ∧ c.recd = commA.recd ∧ c.total = 8 ∧ c.data.length % 4 = 0 ∧ (chunkA false 16).total ≠ 8) := by decide +kernel
/-- The local bytes of the block are at hand: 3.0 and 4.0. -/
def localA : List Byte := leBytes 4 0x40400000 ++ leBytes 4 0x40800000
theorem witness_CollectiveReceivingSteps_local : BytesHere (stHeld (commR .rrf true 8 0) 0x40 localA) 0 true 0 0x40 8 localA ∧
    BytesHere (stHeld { commA with step := some (stepA .copy) } 0x41 localA) 0 true 0 0x41 8 localA :=
  ⟨bytes_here (by decide +kernel), bytes_here (by decide +kernel)⟩
theorem witness_CollectiveReceivingSteps_ends : let x := commR .recv false 8 8
    let c := { commA with step := some (stepA .copy) }
    let r := { commA with step := some { stepA .rrs with off := 8 } }
    (MemberRuns (stColl x) 0 x ∧ x.step = some { stepA .recv with off := 8 } ∧ EngineSettled (stColl x) 0) ∧
    (MemberRuns (stColl c) 0 c ∧ c.step = some (stepA .copy) ∧ (stepA .copy).off < (stepA .copy).len ∧ (stepA .copy).buf = (0 : BitVec 4).toNat ∧ c.chunkBytes ≠ 0) ∧
    (MemberRuns (stColl r) 0 r ∧ r.sends = []) :=
  ⟨⟨member_runs _ rfl rfl, rfl, fun g hg => by cases hg⟩, ⟨member_runs _ rfl rfl, rfl, by decide, by decide, by decide⟩, ⟨member_runs _ rfl rfl, rfl⟩⟩
theorem test_recv_takes_the_chunk : shows (exec (.recv 0 0 1 0 0 1) (stColl (commR .recv false 8 0))) (fun t => (memRead (t.tile 0).spad 0x40 8, (t.comm 0).step.map (·.off))) =
    some ([0, 0, 0x80, 0x3F, 0, 0, 0, 0x40], some 8) := by decide +kernel
/-- 1.0 + 3.0 and 2.0 + 4.0. -/
theorem test_rrf_adds : shows (exec (.rrf 0 0 1 0 0 1) (stHeld (commR .rrf true 8 0) 0x40 localA)) (fun t => memRead (t.tile 0).spad 0x40 8) =
    some [0, 0, 0x80, 0x40, 0, 0, 0xC0, 0x40] := by decide +kernel

/-- A handler run at slice 3 over window 2, h1 = 5, h2 = −1, byte 8 buffered. -/
def reqA : RReq :=
  { src := 0, id := 9, serial := some { asid := 0, nodeInst := 0, taskNum := 0, seq := 0 }, scope := 0, rt := false, rp := false, inc := 1, ct := none, cls := 8, addr := 0x2000,
    op := .handler 24 8, op0 := 5, op1 := 7 }
def runA : HRun :=
  { prog := [0], idx := 0, w := 8, regs := [(1, 5), (2, 0xFFFFFFFFFFFFFFFF)], buf := [(8, some 0xAB)], window := 2, req := reqA, serialEntry := true }
def stRun : State := { State.reset with turn := .near 3, hruns := [(3, some runA)], mem := [(0x2009, 0xCD)] }
theorem witness_HandlerWords : let s := stRun
    s.turn = .near 3 ∧ fget none s.hruns 3 = some runA ∧ s.poisoned (4096 * runA.window + 8) 8 = false ∧
    ({ s with poison := [0x80] } : State).poisoned (4096 * runA.window + 8) 8 = true ∧ runA.buf.Pairwise (fun p q => p.1 < q.1) ∧
    (∀ p ∈ runA.buf, p.1 < 4096) ∧ 4096 * runA.window + 4096 ≤ Config.cfgBase ∧ (5 : BitVec 3).toNat ≤ 5 ∧ (2 : BitVec 4).toNat ≤ 2 ∧ fget none runA.buf (8 + 1) = none ∧
    (let r := { runA with buf := (List.range 8).map (fun j => (8 + j, some 0xAB)) }
     ∀ j, j < 8 → fget none r.buf (8 + j) ≠ none) := by decide +kernel
def hreg (i : Instr) (d : BitVec 4) : Option Word := shows (exec i stRun) (fun t => match fget none t.hruns 3 with | some r => r.get d | none => 0)
theorem test_hld_sees_the_buffer : hreg (.hld 6 0 8) 6 = some 0xCDAB := by decide +kernel
theorem test_hadd_hcmp : hreg (.hadd 6 1 2 0xFFFF) 6 = some 3 ∧ hreg (.hcmp 6 2 1 2) 6 = some 1 ∧ hreg (.hcmp 6 2 1 3) 6 = some 0 := by decide +kernel
theorem test_hret_commits : shows (exec (.hret 1) stRun) (fun t => memRead t.mem 0x2008 2) = some [0xAB, 0xCD] := by decide +kernel

/-! ## Accesses in flight -/

def stAcc (l : List GAcc) : State := { stA .s with gaccs := l, mem := memWrite [] 0x10100 (leBytes 8 0xFFFFFFFF80000000) }
def stoA (t : Target) : GAcc := { gaccA with isStore := true, tgt := t, dest := .none, data := leBytes 8 0x1122334455667788 }
/-- A host page. -/
def tgtHost : Target := { aper := 3, pa := 2 ^ 51, peer := 0, kind := 1 }
/-- The page is local, or the host's, or an earlier store of the program covers the bytes. -/
theorem witness_AccessEvents_loads :
    (∀ g ∈ [gaccA, { gaccA with dest := .creg 6 }, { gaccA with tgt := tgtHost }], (stAcc [g]).gacc? 1 = some g ∧ g.isStore = false ∧ g.failed = none ∧ (stAcc [g]).mayPerform g = true) ∧
    (gaccA.tgt.aper ≤ 1 ∧ (stAcc [gaccA]).poisoned gaccA.tgt.pa gaccA.n = false ∧ gaccA.tgt.pa < Config.cfgBase) ∧ gaccA.dest = .sreg 6 true ∧
    ownerWho gaccA.owner gaccA.path = some w0 ∧
    (let s := stAcc [stoA (tgtA 0x10100), { gaccA with id := 2 }]
     s.gacc? 2 = some { gaccA with id := 2 } ∧ s.mayPerform { gaccA with id := 2 } = true ∧ s.forwarded { gaccA with id := 2 } = some (leBytes 8 0x1122334455667788)) := by decide +kernel
theorem test_load_extends : shows (exec (.loadComplete 1 0) (stAcc [{ gaccA with n := 4 }])) (fun t => t.sreg w0 6) = some 0xFFFFFFFF80000000 := by decide +kernel
theorem witness_AccessEvents_stores :
    (∀ t ∈ [tgtA 0x10100, tgtHost, tgtPeer], (stAcc [stoA t]).gacc? 1 = some (stoA t) ∧ (stoA t).failed = none ∧ (stoA t).buffered = false ∧ (stAcc [stoA t]).mayPerform (stoA t) = true ∧
      (stAcc [stoA t]).windowBusy t.pa 8 = false ∧ (stAcc [stoA t]).poison.contains (t.pa / 64) = false ∧ (stoA t).data ≠ [] ∧ (stoA t).sent = false ∧ (stAcc [stoA t]).unflushed = []) ∧
    (let g := { stoA tgtHost with combining := true }
     (stAcc [g]).gacc? 1 = some g ∧ g.buffered = true ∧ (stAcc [g]).mayPerform g = true ∧ g.data.length = g.n) ∧ (∀ v l, (stoA tgtHost).dest ≠ .lane v l) := by
  refine ⟨by decide +kernel, by decide +kernel, fun _ _ h => by cases h⟩
theorem test_store_commits : shows (exec (.storeCommit 1) (stAcc [stoA (tgtA 0x10100)])) (fun t => memRead t.mem 0x10100 2) = some [0x88, 0x77] := by decide +kernel

def vopA (load : Bool) : VOp :=
  { id := 4, h := 0, iaddr := 0x10000, ctr := some 1, load := load, remote := false, vd := 8, space := .scratch, todo := 3, all := 3, addrs := [(0, 0), (1, 4)], data := 0,
    failed := 0, fault := none, old := 0, order := 0, finished := false, part := false }
theorem witness_AccessEvents_vector : ∀ load, let s := { stV with vops := [vopA load] }
    s.vop? 4 = some (vopA load) ∧ (vopA load).vd < 120 ∧
    (∀ i, i < 128 → (vopA load).todo.getLsbD i = true → (3 : BitVec 128).getLsbD i = true ∧ s.heldBy (hTile 0) true 0 (fget 0 (vopA load).addrs i) 4 none = false) ∧
    (∀ u ∈ s.vops, u.h = (vopA load).h → u.id < (vopA load).id → u.finished = true) := by
  intro load
  refine ⟨by cases load <;> decide +kernel, by cases load <;> decide +kernel, by cases load <;> decide +kernel, ?_⟩
  intro u hu _ h
  rw [List.mem_singleton.mp hu] at h
  exact absurd h (Nat.lt_irrefl _)
/-- A fixed-latency result that may land. -/
theorem witness_AccessEvents_lands : let p : PendW := { at_ := 0, tgt := .vreg 9, val := 5, en := allBits, flg := 0 }
    let s := engState .v { resV with pend := [p] } tileA
    (s.res (0 : Rh).toNat).pend = [p] ∧ p.at_ ≤ (s.res (0 : Rh).toNat).vpos := by decide +kernel

/-- An input stream and an output stream bound, in the scratchpad and in page 1, with the bytes or pieces of a vector that have moved. -/
def strmG : BitVec 512 := stPut (stPut (stPut 0 4 2 2) 64 56 0x10200) 384 32 1
def stPort (x : BitVec 512) (bind : Nat) (staged : BitVec 8) (n : Nat := 0) : State :=
  engState .v { resV with streams := [(0, stPut x 6 2 bind)], staged := staged, fetch := [(0, (List.range n).map (fun i => (i, 0)))] } tileA
abbrev PortReady (s : State) (bind n : Nat) : Prop :=
  (s.res 0).life = .active ∧ fget none (s.res 0).portFault 0 = none ∧ s.gaccs = [] ∧ (fget [] (s.res 0).fetch 0).length = n ∧
  stBind ((s.res 0).stream 0) = bind ∧ fget [] (s.res 0).ahead 0 = [] ∧ (s.res 0).staged.getLsbD 0 = decide (bind = 2) ∧
  (stPos ((s.res 0).stream 0)).toNat < (stCount ((s.res 0).stream 0)).toNat
theorem witness_AccessEvents_streams : (∀ n ∈ [0, 512], PortReady (stPort strmA 1 0 n) 1 n) ∧ PortReady (stPort strmG 1 0) 1 0 ∧ (∀ n ∈ [0, 128], PortReady (stPort strmA 2 1 n) 2 n) ∧
    (∀ n ∈ [0, 1], PortReady (stPort strmG 2 1 n) 2 n) := by decide +kernel
theorem witness_AccessEvents_streams_free :
    (stVec (((stPort strmA 1 0).res 0).stream 0) 0 = 0x3FFE00 ∧ stSpace (((stPort strmA 1 0).res 0).stream 0) = true ∧
      (stPort strmA 1 0).heldBy (hTile 0) true 0 (((stPort strmA 1 0).res 0).spBase + 0x3FFE00) 512 none = false ∧
      (stPort strmA 1 0).spadVecBusy 0 (((stPort strmA 1 0).res 0).spBase + 0x3FFE00) = false) ∧
    (stVec (((stPort strmG 1 0).res 0).stream 0) 0 = 0x10200 ∧ stSpace (((stPort strmG 1 0).res 0).stream 0) = false ∧
      (stPort strmG 1 0).heldBy (hTile 0) false 0 0x10200 512 none = false) ∧
    (∀ i ∈ List.range 128, Translates (stPort strmG 1 0) wv (0x10200 + 4 * i) .load false (tgtA (0x10200 + 4 * i)) probeLeaf ∧
      Translates (stPort strmG 2 1) wv (0x10200 + 4 * i) .store false (tgtA (0x10200 + 4 * i)) probeLeaf) ∧
    (let s := engState .v { resV with streams := [(0, stPut strmG 6 2 1)], staged := 0, ahead := [(0, [7])] } tileA
     fget [] (s.res 0).ahead 0 = 7 :: [] ∧ stBind ((s.res 0).stream 0) = 1 ∧ (s.res 0).staged.getLsbD 0 = false) := by
  unfold Translates; decide +kernel
theorem test_stream_stores_a_lane : shows (exec (.streamStore 0 0) (engState .v { resV with streams := [(0, stPut strmA 6 2 2)], staged := 1, vregs := [(120, 0xA1B2C3D4)] } tileA))
    (fun t => memRead (t.tile 0).spad 0x3FFE00 4) = some [0xD4, 0xC3, 0xB2, 0xA1] := by decide +kernel

/-- A walk for page 1. -/
def walkA : Walk := { quad := 0, asid := 0, page := 1, waiters := [0, 288] }
def stWalk (m : Memory) : State := { stA .s with walks := [walkA], mem := m }
theorem witness_AccessEvents_walks : (stWalk tablesA).walks[0]? = some walkA ∧ (((stWalk tablesA).walks.take 0).filter (fun v => v.quad == walkA.quad)).length < 64 ∧
    (stWalk tablesA).walkBy 0 0 (1 * 65536) = (.leaf 3 probeLeaf, 0x130008) ∧
    (match ((stWalk []).walkBy 0 0 (1 * 65536)).1 with | .bad _ _ => true | _ => false) = true := by decide +kernel

/-! ## Exactly-once operations -/

def routA : ROut :=
  { id := 9, owner := .task 0, path := 0, peer := 0, dest := .sreg 6 8 false, va := 0x2000, tgt := tgtA 0x2000, iaddr := 0x10000, req := reqA, scope := 3, leave := .free,
    status := none, inc := 1, busy := false, answer := 0, data := [], since := 0 }
def stReq (q : RReq) : State := { stA .s with requests := [q], routs := [routA] }
def slA : Nat := rqSlice reqA
def entA (pending : Bool) : AgEntry :=
  { pkg := 0, serial := { asid := 0, nodeInst := 0, taskNum := 0, seq := 0 }, handler := 1, result := 3, status := .performed, pending := pending, retirable := false, chunk := false }
def floorA (f : BitVec 32) : FMap (List FloorRec) := [(0, [{ pkg := 0, asid := 0, nodeInst := 0, taskNum := 0, floor := f }])]
/-- A fetch-and-add of 8 bytes. -/
def reqAdd : RReq := { reqA with op := .handler 1 8, op0 := 5 }
theorem witness_ExactlyOnceEvents_requests : let s := stReq reqAdd
    s.requests[0]? = some reqAdd ∧ reqAdd.serial ≠ none ∧ reqAdd.src = s.pkgId ∧ s.rout? reqAdd.id = some routA ∧ s.mayLeave routA = true ∧ routA.tgt.aper ≤ 1 ∧
    (routA.scope ≠ 4 ∧ (s.requests.take 0) = []) ∧
    fget none s.hruns slA = none ∧ s.windowBusy reqAdd.addr (rqBytes reqAdd) = false ∧ s.peerAllowed reqAdd = true ∧ reqAdd.inc = s.inc ∧
    s.agFind slA 0 { asid := 0, nodeInst := 0, taskNum := 0, seq := 0 } = none ∧ agRoom (s.agEntries slA) = some [] ∧ s.poisoned reqAdd.addr 8 = false ∧
    reqAdd.addr < Config.cfgBase ∧ ({ s with poison := [0x80] } : State).poisoned reqAdd.addr 8 = true := by decide +kernel
theorem witness_ExactlyOnceEvents_op : (∀ f h, reqAdd.op ≠ .cohort f h) ∧ reqAdd.op = .handler 1 8 := ⟨(fun _ _ h => by cases h), rfl⟩
/-- A request from before a restart; entries that stand; floors above and below; handlers whose slot has the width, or another. -/
theorem witness_ExactlyOnceEvents_more : let s := stReq reqAdd
    ({ reqAdd with inc := 0, rt := true }.inc ≠ s.inc) ∧
    (∀ p ∈ [true, false], ({ s with afterglow := [(slA, [entA p])] } : State).agFind slA 0 { asid := 0, nodeInst := 0, taskNum := 0, seq := 0 } = some (entA p)) ∧
    ((({ s with floors := floorA 0 } : State).floorOf 0 { asid := 0, nodeInst := 0, taskNum := 0, seq := 0 }).map (·.floor)) = some 0 ∧
    ((0 : BitVec 32) - 0).toNat < 2 ^ 31 ∧ 2 ^ 31 ≤ ((0xFFFFFFFF : BitVec 32) - 0).toNat ∧
    24 ≤ (24 : BitVec 5).toNat ∧ (fget HSlot.start s.hslots 24).w ≠ 8 ∧ (fget HSlot.start ({ s with hslots := [(24, { w := 8, prog := [0] })] } : State).hslots 24).w = 8 := by
  decide +kernel
/-- A slice of 4,096 entries none of which may be reused. -/
theorem witness_ExactlyOnceEvents_full : agRoom (List.replicate 4096 (entA false)) = none := by
  unfold agRoom
  rw [List.length_replicate, if_neg (by decide)]
  rw [List.findIdx?_eq_none_iff.mpr (fun x hx => by rw [List.eq_of_mem_replicate hx]; decide)]
theorem test_amo_is_performed_once : shows (exec (.remoteRequest 0) { stReq reqAdd with mem := [(0x2000, 7)] })
    (fun t => (memRead t.mem 0x2000 1, t.responses.map (·.result), (t.agEntries slA).map (·.pending))) = some ([12], [7], [false]) := by decide +kernel
theorem test_amo_is_answered_from_its_entry : shows (exec (.remoteRequest 0) { stReq reqAdd with mem := [(0x2000, 7)], afterglow := [(slA, [entA false])] })
    (fun t => (memRead t.mem 0x2000 1, t.responses.map (·.result))) = some ([7], [3]) := by decide +kernel

def respA (src : BitVec 10) (st : RStatus) : RResp := { src := src, dst := 0, id := 9, status := st, result := 0xFFFFFFFF, data := [], inc := 1 }
def stResp (o : ROut) (st : RStatus) (src : BitVec 10 := 0) : State := { stA .s with responses := [respA src st], routs := [o] }
theorem witness_ExactlyOnceEvents_responses :
    (∀ src ∈ [0, 1], ∀ st ∈ [RStatus.performed, .byHfail, .indeterminate, .retired, .ownerBusy], (stResp routA st src).responses[0]? = some (respA src st) ∧
      (stResp routA st src).rout? (respA src st).id = some routA) ∧
    routA.status = none ∧ routA.dest = .sreg 6 8 false ∧ ownerWho routA.owner routA.path = some w0 ∧ ((stResp routA .indeterminate).res 0).life ≠ .free ∧
    (stResp { routA with dest := .none } .performed).rout? 9 = some { routA with dest := .none } := by decide +kernel
theorem test_response_reaches_the_register : shows (exec (.remoteResponse 0) (stResp { routA with dest := .sreg 6 4 true } .performed)) (fun t => t.sreg w0 6) =
    some 0xFFFFFFFFFFFFFFFF := by decide +kernel
/-- 50 ms have passed since a host operation was issued (R393). -/
theorem witness_ExactlyOnceEvents_resends : let b := { routA with busy := true }
    let hst := { routA with id := 9, tgt := tgtHost }
    (stResp b .ownerBusy).rout? 9 = some b ∧ b.busy = true ∧ (stResp routA .performed).rout? 9 = some routA ∧ routA.busy = false ∧
    ((stA .s).gacc? 9 = none ∧ hst.tgt.aper = 3 ∧ hst.status = none ∧ ({ stA .s with routs := [hst] } : State).rout? 9 = some hst ∧ hst.owner = .task 0 ∧ hst.path = 0 ∧
      (stA .s).requests = []) ∧
    (let g := { gaccA with id := 9, tgt := tgtHost }
     let s := { stA .s with gaccs := [g], stamp := 100000000 }
     s.gacc? 9 = some g ∧ g.tgt.aper = 3 ∧ g.isStore = false ∧ g.failed = none ∧ s.mayPerform g = true ∧ g.owner = .task 0 ∧ g.path = 0 ∧ (s.res 0).life ≠ .free ∧
      (∀ i ∈ [0, 1], fget 100000000 s.hostTimeout i ≤ (s.stamp - g.since).toNat)) := by
  decide +kernel
/-- Sequences 1 and 2 complete since 0 was sent. -/
def stSeq : State := { stA .s with residents := [(0, { resA with seqs := [(0, { SeqState.start with ct := 0, finished := [1, 2] })] })] }
def ackA : AckMsg := { src := 0, asid := 0, nodeInst := 0, taskNum := 0, ct := 2 }
theorem witness_ExactlyOnceEvents_acks :
    ((stSeq.seqOf 0 0).current = 2 ∧ (stSeq.seqOf 0 0).current ≠ (stSeq.seqOf 0 0).ct) ∧ ((stA .s).seqOf 0 0).current = ((stA .s).seqOf 0 0).ct ∧
    (let s := { stA .s with acks := [ackA], floors := floorA 1 }
     s.acks[0]? = some ackA ∧ floorSlice ackA.asid ackA.taskNum = 0 ∧ ((fget [] s.floors 0).find? (fun f => f.isTask 0 0 0 0)).map (·.floor) = some 1 ∧
     2 ^ 31 ≤ ((1 : BitVec 32) - ackA.ct).toNat) ∧
    (let s := { stA .s with retires := [ackA] }
     s.retires[0]? = some ackA ∧ s.taskInFlight 0 0 0 0 = false ∧ ({ s with requests := [reqA] } : State).taskInFlight 0 0 0 0 = true) := by decide +kernel

/-! ## The fabric and the collective engines -/

def pktA (seq : BitVec 32) : Packet := { src := 1, dst := 0, sequenced := true, seq := seq, via := none, hop := 0, body := .request { reqA with src := 1 } }
/-- The second part of a chunk whose first part has come. -/
theorem witness_FabricEvents_arrivals : let s := State.reset
    let x := s.transport 1
    (pktA 0).src ≠ s.pkgId ∧ (pktA 0).dst = s.pkgId ∧ ((pktA x.expected).seq - x.expected).toNat = 0 ∧ x.early = [] ∧ ((pktA 8192).seq - x.expected).toNat = 8192 ∧
    2 ^ 31 ≤ ((pktA 0x80000000).seq - x.expected).toNat ∧
    (let c := chunkA false 8
     (({ s with chunkParts := [c] } : State).chunkParts.find? (fun d => d.src == c.src && d.comm == c.comm && d.sender == c.sender && d.serial == c.serial)) = some c) ∧
    (let p := { pktA 0 with dst := 2 }
     let u := { s with ports := [(pkgMember 2, { Port.start with state := 2 })] }
     p.dst ≠ u.pkgId ∧ pkgGroup p.dst = pkgGroup u.pkgId ∧ p.via = none ∧ (u.port (pkgMember p.dst)).state = 2) := by decide +kernel
theorem test_request_of_a_peer_has_class_7 : shows (exec (.packetArrival (pktA 0)) State.reset) (fun t => t.requests.map (·.cls)) = some [7] := by decide +kernel

def unA (tries : Nat) (acked : Bool) : Unacked := { pkt := { pktA 5 with src := 0, dst := 1 }, tries := tries, acked := acked, since := 0, path := some 3, avoid := [] }
def stUn (u : Unacked) : State := { State.reset with transports := [(1, { Transport.start with next := 6, unacked := [u] })], stamp := 60001 }
/-- An acknowledged request that is not answered, and one that is. -/
theorem witness_FabricEvents_transport :
    (∀ a ∈ [true, false], ∀ n ∈ [1, 6, 7], ((stUn (unA n a)).transport 1).unacked.find? (fun u => u.pkt.seq == 5) = some (unA n a) ∧
      (if (unA n a).tries = 1 then 40000 else 60000) ≤ ((stUn (unA n a)).stamp - (unA n a).since).toNat ∧ ((stUn (unA n a)).transport 1).waiting = []) ∧
    ((stUn (unA 1 false)).transport 1).unacked.find? (fun u => u.pkt.seq == 5 && !u.acked) = some (unA 1 false) ∧ (unA 1 false).path = some 3 ∧
    ¬ (if (unA 2 false).tries = 1 then 40000 else 60000) ≤ ((59999 : Word) - (unA 2 false).since).toNat ∧
    (stUn (unA 1 true)).unanswered (unA 1 true).pkt = false ∧ ({ stUn (unA 1 true) with routs := [{ routA with peer := 1, tgt := { tgtPeer with pa := 0x2000 } }] } : State).unanswered (unA 1 true).pkt = true ∧
    ((stUn (unA 7 false)).rout? 9 = none ∧ ({ stUn (unA 7 false) with routs := [routA] } : State).rout? 9 = some routA) := by decide +kernel
theorem witness_FabricEvents_ports :
    (let s := { State.reset with lanes := [(64, some 64)], ports := [(1, { Port.start with state := 2 })] }
     s.laneOf 64 = some 64 ∧ (s.port 1).state = 2) ∧
    (∀ f ∈ [15, 16], ∀ st ∈ [0, 1, 2, 3, 4], let s := { State.reset with ports := [(1, { Port.start with fails := [(7, f)], state := BitVec.ofNat 4 st })] }
      (s.port 1).fails = [(7, f)] ∧ (s.port 1).state.toNat = st ∧ (s.port 1).queue = []) ∧
    1 ≠ pkgMember State.reset.pkgId ∧
    (let s := { State.reset with ports := [(1, { Port.start with state := 3, queue := [pktA 0] })], stamp := 19999 }
     (s.port 1).state = 3 ∧ (s.port 1).queue ≠ [] ∧ (s.stamp - (s.port 1).since).toNat < 20000) := by decide +kernel
/-- A spare lane of the package's own member, and a lane of another. -/
theorem witness_FabricEvents_lanes : let s := { State.reset with lanes := [(3, none)] }
    let v : Word := 0x300000000
    ((v.extractLsb' 32 12).toNat / 64 = pkgMember s.pkgId ∧ s.laneOf (v.extractLsb' 32 12).toNat = none) ∧
    ((0x4000000000 : Word).extractLsb' 32 12).toNat / 64 ≠ pkgMember s.pkgId := by decide +kernel

def sendA : SendStream :=
  { dest := 1, kind := .pair, wide := false, ord := 0, k0 := 0, total := 8, src := .range 0 0, given := [], staged := 0, sent := 0, accepted := 0, refused := false }
/-- The block's bytes are at hand, or not. -/
theorem witness_CollectiveEngineEvents_staging : let x := { commA with sends := [sendA] }
    let s := stHeld x 0x40 localA
    BytesHere s 0 true 0 0x40 8 localA ∧ s.comm 0 = x ∧ x.live = true ∧ x.run = .running ∧ x.staging.length < 2 ∧ x.nextStage = some sendA ∧ sendA.src = .range 0 0 ∧
    dSpace (x.desc 0) = 1 ∧ (∃ u ∈ readUnits 4 [(0x40, 8)], (allBytes ((stColl x).recBytes (.coll 0) 4) (spadKey 0 + u.1) u.2).isNone = true) ∧
    2 ≤ ({ x with staging := [(1, chunkA false 8), (1, chunkA false 8)] } : Comm).staging.length :=
  ⟨bytes_here (by decide +kernel), by decide +kernel, by decide +kernel, by decide +kernel, by decide +kernel, by decide +kernel, by decide +kernel, by decide +kernel, by decide +kernel,
    by decide⟩
theorem witness_CollectiveEngineEvents_sending : let x := { commA with sends := [{ sendA with staged := 1 }], staging := [(1, chunkA false 8)], credits := [(1, 1)] }
    (stColl x).eligibles 0 0 ≠ [] ∧ (∀ d, d < 4 → 0 < d → (stColl x).eligibles 0 d = []) ∧ (∀ cls, cls < 4 → (stColl commA).eligibles 0 cls = []) := by decide +kernel
def chunkIn : Chunk := { chunkA false 8 with comm := commA.key commA.rank }
/-- A chunk for which there is a window, which is an old run's, which follows in its sender's window, for which there is no window. -/
theorem witness_CollectiveEngineEvents_arrivals : let s := { stColl commA with chunks := [chunkIn] }
    let full := { commA with windows := (List.range 8).map (fun i => { sender := i + 2, chunks := [], out := 0 }) }
    s.chunks[0]? = some chunkIn ∧ s.chunks.take 0 = [] ∧ s.commByKey chunkIn.comm = some 0 ∧ agRoom (s.agEntries (16 * (0 / 256))) = some [] ∧ s.chunkDup 0 chunkIn = false ∧
    (chunkIn.inc = s.inc ∧ { chunkIn with inc := 0, rt := true }.inc ≠ s.inc) ∧
    commA.passed chunkIn = false ∧ commA.window? chunkIn.sender = none ∧ chunkIn.offset = 0 ∧ commA.barred chunkIn = false ∧ commA.windows.length < 8 ∧
    commA.mayBind chunkIn.sender = true ∧ (8 ≤ full.windows.length ∧ full.window? chunkIn.sender = none ∧ full.passed chunkIn = false) ∧
    (let w : CWindow := { sender := 1, chunks := [{ chunkIn with total := 16 }], out := 1 }
     let next := { chunkIn with total := 16, offset := 8, serial := { chunkIn.serial with seq := 1 } }
     commA.follows w next = true ∧ next.paid = true ∧ ({ commA with windows := [w] } : Comm).window? next.sender = some w) := by decide +kernel
theorem witness_CollectiveEngineEvents_credits : let key := commA.key commA.rank
    (∀ m ∈ [CreditMsg.grant key 1 2, .back key 1 1, .release key 1, .accepted key 1 1 .pair 0 1, .bound key 1 1 .pair 0 3, .refuse key 1 1 .pair 0 false true true,
      .indeterminate key 1 1 2], ({ stColl { commA with sends := [sendA] } with creditMsgs := [m] } : State).creditMsgs[0]? = some m ∧
      ({ stColl { commA with sends := [sendA] } with creditMsgs := [m] } : State).commByKey (creditKey m).1 = some 0) ∧
    sendA.dest = 1 ∧ commA.runs = 1 ∧ commA.run = .running ∧ chunksOf commA sendA.total ≤ sendA.accepted + 1 := by decide +kernel
theorem witness_CollectiveEngineEvents_timeouts : let p := stepA .rrf
    let x := { commA with bounded := true, timeout := 1, step := some p }
    let y := { commA with timeout := 1, step := some (stepA .recv) }
    let z := { commA with timeout := 1, sends := [sendA] }
    x.step = some p ∧ x.live = true ∧ x.run = .running ∧ x.bounded = true ∧ p.off < p.len ∧ p.flush = false ∧ (((1999 : Word) - p.began).toNat < 2000 * x.timeout.toNat) ∧
    2000 * x.timeout.toNat ≤ ((2000 : Word) - p.began).toNat ∧ z.sends ≠ [] ∧ z.run = .running ∧ 2000 * z.timeout.toNat < ((2001 : Word) - z.moved).toNat ∧
    (2000 * y.timeout.toNat < ((2001 : Word) - y.moved).toNat ∧ ((2000 : Word) - y.moved).toNat ≤ 2000 * y.timeout.toNat) := by decide +kernel

/-! ## Blocks, traps, faults and their queues -/

def resB (blk : Nat) (nx : Addr) (life : Life) : Resident :=
  { resA with life := life, s := { resA.s with blk := blk }, v := { resA.v with blk := blk }, sc := { resA.sc with nx1 := nx, tstat := 1, tcmp := 10 } }
theorem witness_EngineAndFaultEvents_blocks :
    (let s := engState .s (resB 256 0x10004 .active) tileA
     s.cur 0 .s = some 0 ∧ (s.res 0).sc.settled = true ∧ 256 ≤ (s.res 0).s.blk ∧ 256 ≤ (s.res 0).v.blk ∧ (s.res 0).xf = none ∧
     (∀ j, j < 8 → j ≠ 0 → s.ready (mkHandle 0 j) .s = false)) ∧
    (let s := { engState .s resA { tileA with last := [(0, 0)] } with residents := [(0, resB 256 0x10004 .active), (512, resB 0 0x10004 .active)] }
     s.last 0 .s = 0 ∧ s.ready (mkHandle 0 1) .s = true) ∧ ¬ 256 ≤ ((stA .s).res 0).s.blk := by decide +kernel
def stIdleTile (res : FMap Resident) : State := { State.reset with turn := .eng 0 .s, residents := res }
theorem witness_EngineAndFaultEvents_idle :
    ((stIdleTile []).cur 0 .s = none ∧ ∀ j, j < 8 → (stIdleTile []).ready (mkHandle 0 j) .s = false) ∧
    ((stIdleTile [(0, resA)]).cur 0 .s = none ∧ (stIdleTile [(0, resA)]).pick 0 .s ((stIdleTile [(0, resA)]).last 0 .s) = some 0) := by decide +kernel
/-- A slot of a taken branch stands at the limit; a settled program does not. -/
theorem witness_EngineAndFaultEvents_unsettled : let s := engState .s (resB 320 0x10010 .active) tileA
    320 ≤ (s.res 0).s.blk ∧ (s.res 0).sc.settled = false ∧ s.cur (hTile 0) .s = some (hRes 0) ∧ ((stA .s).res 0).s.blk < 320 := by decide +kernel
theorem witness_EngineAndFaultEvents_timer : let s := { engState .s (resB 0 0x10004 .active) tileA with stamp := 10 }
    s.scalarRuns w0 = true ∧ (s.res 0).deferred = [] ∧ (s.sc w0).tcmp.toNat ≤ s.stamp.toNat ∧ (s.sc w0).tstat.getLsbD 0 = true ∧ (s.sc w0).tstat.getLsbD 2 = false ∧
    ({ s with stamp := 9 } : State).stamp.toNat < (s.sc w0).tcmp.toNat := by decide +kernel
theorem witness_EngineAndFaultEvents_deferred : let o := { routA with status := some .indeterminate }
    let s := { engState .s { resA with deferred := [9] } tileA with routs := [o] }
    s.scalarRuns w0 = true ∧ (s.res 0).deferred = 9 :: [] ∧ s.rout? 9 = some o ∧ o.status = some .indeterminate := by decide +kernel
/-- A wait on ring 0 that began at 0, with WDOG 1 µs. -/
theorem witness_EngineAndFaultEvents_watchdog :
    let s := { engState .s { resA with s := { resA.s with wait := some (.ringFilled 0 1) } } tileA with wdog := 1, stamp := 2001 }
    ((s.res 0).prg .s).wait = some (.ringFilled 0 1) ∧ waitKind (.ringFilled 0 1) = some 0 ∧ (s.res 0).life = .active ∧ (s.res 0).est .s = 1 ∧
    ((s.res 0).prg .s).pass = false ∧ s.waitHolds 0 (.ringFilled 0 1) = false ∧ s.wdog ≠ 0 ∧ 2000 * s.wdog.toNat < (s.stamp - ((s.res 0).prg .s).since).toNat ∧
    ({ s with stamp := 2000 } : State).stamp.toNat ≤ 2000 * s.wdog.toNat := by decide +kernel
def coreA (size : BitVec 17) (head tail : BitVec 32) : SvCore :=
  { SvCore.start with running := true, sc := { SCtx.start.enter 0x10000 with tstat := 1 }, fqsize := size, fqbase := 0x4000, fqhead := head, fqtail := tail, waiting := [recA] }
def stCore (c : SvCore) : State := { State.reset with turn := .sv 1, svs := [(1, c)] }
/-- One entry free in a queue of 64 whose counters wrap; a full one; one that is not configured. -/
theorem witness_EngineAndFaultEvents_queue :
    (let x := (stCore (coreA 64 0xFFFFFFC1 0)).svc 1
     x.waiting = recA :: [] ∧ x.fqsize ≠ 0 ∧ (x.fqtail - x.fqhead).toNat = 63 ∧ x.fqbase.toNat + 64 * (x.fqtail.toNat % x.fqsize.toNat) < Config.cfgBase) ∧
    (let x := (stCore (coreA 64 0xFFFFFFC0 0)).svc 1
     x.fqsize.toNat ≤ (x.fqtail - x.fqhead).toNat) ∧ ((stCore (coreA 0 0 0)).svc 1).fqsize = 0 ∧
    (let x := (stCore (coreA 64 0 1)).svc 1
     x.running = true ∧ x.stopped = false ∧ x.fqhead ≠ x.fqtail ∧ x.sc.tstat.getLsbD 0 = true ∧ x.sc.tstat.getLsbD 2 = false) ∧
    (let x := (stCore { coreA 64 0 0 with stopped := true, sc := { SCtx.start with tstat := 4 } }).svc 1
     x.stopped = true ∧ x.sc.tstat.getLsbD 2 = true ∧ x.fqhead = x.fqtail) := by decide +kernel
theorem witness_EngineAndFaultEvents_illegal : (stA .v).who = some wv ∧ ((stCore (coreA 0 0 0)).who = some (.sv 1) ∧ ((stCore (coreA 0 0 0)).svc 1).sc.tstat.getLsbD 2 = false) ∧
    (stColl commA).turn = .coll 0 := by decide +kernel
theorem test_record_is_written : shows (exec (.faultRecordWrite 1) (stCore (coreA 64 0 3))) (fun t => (memByte t.mem 0x40C0, memByte t.mem 0x40C1, memNat t.mem 0x40F8 8)) =
    some (2, 3, 1) := by decide +kernel

/-! ## Placement and contexts -/

/-- A graph of one launch node of one task, whose image asks for slab 0 and 64 KiB; its replay stands with the node ready. -/
def launchA : LaunchRec := { entry := 0x40, slabs := 1, rings := 0, chans := 0, eph := 0, window := 65536, args := 0, seed := 0 }
def nodeA : GNode := { kind := 0, flags := 0, nin := 0, done := 0, edges := [], spec := 0x1000000 + 2 ^ 128, image := some launchA }
def graphA (nodes : List GNode) : Graph := { Graph.start with live := true, rcnt := 1, nodes := nodes }
def runG (st : NState) : RunInst :=
  { inst := { graph := 0, first := 5, rebase := 0, level := 0 }, replay := 0, started := true, cancelled := false, nodes := [(0, { NodeRun.start with st := st })],
    order := [0], incs := [] }
def stPlace : State := { State.reset with graphs := [(0, graphA [nodeA])], running := [runG .ready] }
def refA : TaskRef :=
  { graph := 0, node := 0, index := 0, replay := 0, asid := 0, nodeInst := 5, level := 0, argBase := 0x10100, cohort := 0, rank := 0, replayed := false, placedAt := 0, tile := 0 }
theorem witness_PlacementEvents_place : (match stPlace.nextAct with | some (.place tk _ _) => decide (stPlace.gnode tk.graph tk.node = some nodeA) | _ => false) = true ∧
    (stPlace.actAt 0).isSome = true ∧ (∀ q, q < 4 → 0 < q → stPlace.actAt q = none) ∧ (stPlace.grantOn 0 0 nodeA 0).isSome = true ∧ nodeA.image = some launchA ∧
    State.reset.nextAct = none := by
  decide +kernel
def savedA : SavedTask :=
  { ref := refA, tile := 0, area := 0, slabWin := 1, ringWin := 0, chWin := 0, ephWin := 0, spWin := 0x1000000000000, into := none, rest := resA }
theorem witness_PlacementEvents_resume : (match ({ State.reset with saved := [savedA] } : State).nextAct with | some (.resume t _) => decide (t = savedA) | _ => false) = true := by decide +kernel
/-- Every resident of tile 0 is taken, by tasks of level 0, and a task saved there at level 1 waits. -/
def stPre : State :=
  { State.reset with saved := [{ savedA with rest := { resA with prio := 1 } }], residents := (List.range 8).map (fun i => (512 * i, resA)) }
theorem witness_PlacementEvents_preempt : (match stPre.nextAct with | some (.preempt _) => true | _ => false) = true := by decide +kernel

def resL : Resident := { resA with life := .loading, argBase := 0x10100, task := some refA }
def stLoad (m : Memory) : State := { engState .s resL tileA with mem := m }
def shapeOf : ArgWord → Nat | .ok _ => 0 | .wait => 1 | .bad _ => 2
/-- The first word has been read, the second not; all have; one's page does not exist. -/
theorem witness_PlacementEvents_arguments : let s := { stLoad tablesA with recs := [(recKey (.task 0) 0, bytesAt 0x10100 (leBytes 8 9))] }
    (s.res 0).life = .loading ∧ (s.res 0).argAddr 0 = 0x10100 ∧ allBytes (s.recBytes (.task 0) 0) 0x10100 8 = some (leBytes 8 9) ∧ (s.res 0).argAddr 1 = 0x10108 ∧
    allBytes (s.recBytes (.task 0) 0) 0x10108 8 = none ∧ s.gaccs = [] ∧
    (match s.kTarget 0 (s.classOf 0) 0x10108 .load with | .ok tg => decide (tg = tgtA 0x10108) | _ => false) = true := by decide +kernel
theorem witness_PlacementEvents_loading : ((stLoad tablesA).argReads 0).1.map shapeOf = List.replicate 8 1 ∧ ((stLoad []).argReads 0).1.map shapeOf = List.replicate 8 2 ∧
    (({ stLoad tablesA with recs := [(recKey (.task 0) 0, bytesAt 0x10100 (List.replicate 64 3))] } : State).argReads 0).1.map shapeOf = List.replicate 8 0 := by decide +kernel

def stCtx (r : Resident) : State := { State.reset with residents := [(0, r)], svpool := 0x200000, svpooln := 1, graphs := [(0, graphA [nodeA])], running := [runG .running] }
theorem witness_PlacementEvents_saving : let r := { resA with task := some refA, preempt := true }
    ((stCtx r).res 0).life = .active ∧ r.held = [] ∧ (stCtx r).stoppedAll 0 = true ∧ (stCtx r).drained 0 = true ∧ (engState .s r tileA).stoppedAll 0 = false ∧
    ((stCtx { r with life := .saving }).freeArea = some 0 ∧ (stCtx r).areaAddr 0 + 98304 ≤ Config.cfgBase) ∧
    ({ stCtx { r with life := .saving } with svpooln := 0 } : State).freeArea = none := by decide +kernel
/-- A save area with nothing in it; and one of zeros with its header. -/
def headBytes (sum : BitVec 64) : List Byte := leBytes 4 0x53564131 ++ leBytes 4 1 ++ List.replicate 72 0 ++ leBytes 8 sum.toNat ++ List.replicate 168 0
def areaBytes : List Byte := headBytes (crc64 (List.replicate 98048 0)) ++ List.replicate 98048 0
def stRestore (m : Memory) : State := { stCtx { resA with task := some refA, life := .restoring } with mem := m, saved := [{ savedA with into := some 0 }] }
theorem witness_PlacementEvents_restoring_bad : let s := { stRestore [] with poison := [0x8000] }
    (s.res 0).life = .restoring ∧ (s.saved.find? (fun u => decide (u.into = some 0))).isSome = true ∧ s.poisoned (s.areaAddr 0) 98304 = true ∧ (s.res 0).task = some refA := by
  decide +kernel
theorem stRestore_mem (m : Memory) : (stRestore m).mem = m := rfl
theorem stRestore_area (m : Memory) : (stRestore m).areaAddr 0 = 0x200000 := rfl
theorem stRestore_sound (m : Memory) : (stRestore m).poisoned 0x200000 98304 = false := rfl
theorem headBytes_len (x : BitVec 64) : (headBytes x).length = 256 := by
  unfold headBytes
  simp only [List.length_append, leBytes_length, List.length_replicate]
theorem headBytes_sum (x : BitVec 64) : ((headBytes x).drop 80).take 8 = leBytes 8 x.toNat := by
  have h : headBytes x = (leBytes 4 0x53564131 ++ leBytes 4 1 ++ List.replicate 72 0) ++ (leBytes 8 x.toNat ++ List.replicate 168 0) := by
    simp only [headBytes, List.append_assoc]
  rw [h, List.drop_left' (by simp only [List.length_append, leBytes_length, List.length_replicate])]
  exact List.take_left' (leBytes_length 8 x.toNat)
theorem headBytes_start (x : BitVec 64) : (headBytes x).take 8 = leBytes 4 0x53564131 ++ leBytes 4 1 := by
  have h : headBytes x = (leBytes 4 0x53564131 ++ leBytes 4 1) ++ (List.replicate 72 0 ++ (leBytes 8 x.toNat ++ List.replicate 168 0)) := by
    simp only [headBytes, List.append_assoc]
  rw [h]
  exact List.take_left' rfl
theorem witness_PlacementEvents_restoring : let s := stRestore (memWrite [] 0x200000 areaBytes)
    s.areaAddr 0 = 0x200000 ∧ s.poisoned 0x200000 98304 = false ∧ memRead s.mem 0x200000 98304 = areaBytes ∧ areaOk areaBytes = true := by
  have len : areaBytes.length = 98304 := by
    unfold areaBytes
    rw [List.length_append, headBytes_len, List.length_replicate]
  refine ⟨stRestore_area _, stRestore_sound _, ?_, ?_⟩
  · have h : ∀ n, areaBytes.length = n → memRead (memWrite [] 0x200000 areaBytes) 0x200000 n = areaBytes := by
      intro n e
      subst e
      exact memRead_memWrite_same [] 0x200000 areaBytes
    rw [stRestore_mem, h 98304 len]
  · have e : areaBytes.drop 256 = List.replicate 98048 0 := List.drop_left' (headBytes_len _)
    have c : areaNat areaBytes 80 8 = (crc64 (List.replicate 98048 0)).toNat := by
      unfold areaNat areaBytes
      rw [List.drop_append_of_le_length (by rw [headBytes_len]; decide),
        List.take_append_of_le_length (by rw [List.length_drop, headBytes_len]; decide), headBytes_sum]
      rw [leNat_leBytes]
      exact Nat.mod_eq_of_lt (BitVec.isLt _)
    have f : areaBytes.take 8 = leBytes 4 0x53564131 ++ leBytes 4 1 := by
      unfold areaBytes
      rw [List.take_append_of_le_length (by rw [headBytes_len]; decide), headBytes_start]
    have a : areaNat areaBytes 0 4 = 0x53564131 := by
      unfold areaNat
      rw [show (areaBytes.drop 0).take 4 = (areaBytes.take 8).take 4 by rw [List.drop_zero, List.take_take]; rfl, f]
      decide
    have b : areaNat areaBytes 4 4 = 1 := by
      unfold areaNat
      rw [show (areaBytes.drop 4).take 4 = (areaBytes.take 8).drop 4 by rw [List.drop_take], f]
      decide
    unfold areaOk
    rw [a, b, c, e]
    simp only [decide_true, Bool.and_self]
theorem witness_PlacementEvents_draining : let s := stCtx { resA with task := some refA, life := .draining, seqs := [(0, SeqState.start)] }
    (s.res 0).life = .draining ∧ s.drained 0 = true ∧ (s.res 0).task = some refA ∧ s.gnode 0 0 = some nodeA ∧ s.runOf 0 = some (runG .running) ∧
    instNum (runG .running).inst.first (runG .running).replay = refA.nodeInst ∧ s.pkgId.toNat ∈ fkeys (s.res 0).seqs ∧
    ({ s with gaccs := [gaccA] } : State).drained 0 = false ∧ (stA .s).drained 0 = true := by decide +kernel
theorem witness_PlacementEvents_replay : (∀ nr ∈ [true, false], let x := { nodeA with flags := if nr then 2 else 0 }
    let s := { stCtx resA with graphs := [(0, graphA [x])], lost := [refA] }
    s.lost[0]? = some refA ∧ s.gnode 0 0 = some x ∧ x.nr = nr ∧ s.runOf 0 = some (runG .running) ∧ ((runG .running).node 0).st ≠ .done) := by decide +kernel
/-- A write of RINGWIN waits while an engine runs, one of RCTL takes effect. -/
theorem witness_PlacementEvents_writes : let y := { core := 0, reg := 3, value := 1, cr := 0x021 : HeldWrite }
    (((engState .s { resA with held := [y] } tileA).res 0).held = [y] ∧ (({ resA with held := [] } : Resident).supWrite 0 y.cr y.value).isSome = true ∧
      (engState .s { resA with held := [y] } tileA).writeOk 0 y = false) ∧
    (engState .s { resA with held := [y], estat := 0 } tileA).writeOk 0 y = true ∧ (∃ e, e ∈ engines ∧ (resA.est e = 1 ∨ resA.est e = 3)) ∧ resA.life = .active :=
  ⟨by decide +kernel, by decide +kernel, ⟨.s, by decide, Or.inl (by decide)⟩, by decide⟩

/-! ## The Orrery -/

/-- A ring of 64 entries at 0x4000 with one command: its code, its handle, its third operand, of ASID 0. -/
def cmdBytes (code : Nat) (hd : Word) (x : Nat) : List Byte :=
  leBytes 8 code ++ leBytes 8 hd.toNat ++ leBytes 8 x ++ List.replicate 40 0
def stCmd (code : Nat) (hd : Word) (x : Nat) : State :=
  { State.reset with crbase := 0x4000, crsize := 64, crtail := 1, mem := memWrite [] 0x4000 (cmdBytes code hd x), pkgId := 3,
                     events := [(0, { EventObj.start with live := true, deps := [{ graph := 0, node := 0, edge := 0, threshold := 1, base := 0 }] })],
                     graphs := [(0, { graphA [nodeA] with prio := 2 })], rights := [(0, BitVec.allOnes 256), (86, BitVec.allOnes 256)] }
/-- The event in slot 0 and the graph in slot 0, of ASID 0 of package 3. -/
def evH : Word := mkHdl 0 3 (EventObj.start.gen) 1 0
def grH : Word := mkHdl 0 3 (Graph.start.gen) 2 0
theorem witness_OrreryEvents_ring : State.reset.cmdEntry = none ∧ (∀ c, c < 8 → let s := stCmd c evH 8
    s.cmdEntry = some (cmdBytes c evH 8) ∧ s.cmdAddr + 64 ≤ Config.cfgBase ∧ recNat (cmdBytes c evH 8) 0 1 = c ∧ recNat (cmdBytes c evH 8) 48 2 = 0 ∧
    BitVec.ofNat 64 (recNat (cmdBytes c evH 8) 8 8) = evH) := by decide +kernel
theorem witness_OrreryEvents_create : let s := stCmd 3 0 0
    freeSlot (fun j => (s.eventObj j).live) s.events.length 1048576 = some 1 := by decide +kernel
/-- A map that lists every number below n with the value x. -/
theorem fget_all {α : Type} (d x : α) (m : FMap α) (k : Nat) (hv : ∀ p ∈ m, p.2 = x) (hk : ∃ p ∈ m, p.1 = k) : fget d m k = x := by
  induction m with
  | nil => obtain ⟨p, hp, _⟩ := hk; cases hp
  | cons p m ih =>
    obtain ⟨j, v⟩ := p
    unfold fget
    split
    · exact hv (j, v) (List.mem_cons_self ..)
    · rename_i hj
      refine ih (fun p hp => hv p (by simp [hp])) ?_
      obtain ⟨p, hp, e⟩ := hk
      rcases List.mem_cons.1 hp with rfl | hp
      · exact absurd e hj
      · exact ⟨p, hp, e⟩
/-- No slot is free when every slot of the type's limit is live. -/
theorem freeSlot_full (f : Nat → Bool) (n lim : Nat) (h : lim ≤ n) (g : ∀ j, j < n → f j = true) : freeSlot f n lim = none := by
  unfold freeSlot
  split
  · rename_i k hk
    have := List.find?_some hk
    have : ¬ k < lim := fun hl => by simp [g k (by omega)] at this
    simp [this]
  · rfl
theorem witness_OrreryEvents_events : (stCmd 4 evH 0).eventLive evH = true ∧ hdlAsid evH = 0 ∧ (stCmd 4 0 0).eventLive 0 = false ∧
    (stCmd 6 evH 8).eventLive evH = true ∧
    (let s := { stCmd 4 evH 0 with running := [runG .waiting] }
     (s.eventObj (hdlIdx evH)).deps = [{ graph := 0, node := 0, edge := 0, threshold := 1, base := 0 }] ∧ s.runOf 0 = some (runG .waiting) ∧
     ((runG .waiting).node 0).st = .waiting) := by decide +kernel
theorem witness_OrreryEvents_graphs : (stCmd 2 grH 0).graphLive grH = true ∧ hdlAsid grH = 0 ∧ (stCmd 2 grH 0).graphBusy (hdlIdx grH) = false ∧
    ({ stCmd 2 grH 0 with running := [runG .ready] } : State).graphBusy (hdlIdx grH) = true ∧ (stCmd 2 0 0).graphLive 0 = false ∧
    ((stCmd 5 grH 0).queues.filter (fun q => decide (q.level = ((stCmd 5 grH 0).graph 0).prio))).length = 0 := by decide +kernel
/-- 4,096 instances of another graph wait at the level. -/
def stQueued : State := { stCmd 5 grH 0 with queues := List.replicate 4096 { graph := 1, first := 5, rebase := 0, level := 2 } }
theorem witness_OrreryEvents_full : 4096 ≤ (stQueued.queues.filter (fun q => decide (q.level = (stQueued.graph 0).prio))).length ∧ stQueued.graphLive grH = true ∧
    stQueued.graphBusy (hdlIdx grH) = false := by decide +kernel
/-- Where no number is in use, an instance gets one. -/
theorem witness_OrreryEvents_inst (n : Nat) : State.reset.newInst n ≠ 0 := by
  unfold State.newInst
  have h : ∀ y, State.reset.instUsed y n = false := fun _ => rfl
  simp only [h, Bool.not_false, Bool.and_true]
  split
  · rename_i y hy
    have h0 := List.find?_some hy
    have hm := List.mem_of_find?_eq_some hy
    obtain ⟨z, _, hz⟩ := List.mem_flatMap.1 hm
    have : y < 2 ^ 24 := by
      rcases List.mem_cons.1 hz with rfl | hz
      · exact Nat.mod_lt _ (by decide)
      · rw [List.mem_singleton.1 hz]; exact Nat.mod_lt _ (by decide)
    intro e
    have := congrArg BitVec.toNat e
    simp at h0 this
    omega
  · rename_i hn
    have f := fun y hy => List.find?_eq_none.1 hn y (List.mem_flatMap.2 ⟨_, List.mem_cons_self, hy⟩)
    have h1 := f _ (List.mem_cons_self)
    have h2 := f _ (List.mem_cons_of_mem _ (List.mem_singleton.2 rfl))
    simp at h1 h2
    omega
theorem witness_OrreryEvents_noSlot (n : Nat) (h : n = 1048576) :
    (let s := { stCmd 3 0 0 with events := (List.range n).map (fun i => (i, { EventObj.start with live := true })) }
     freeSlot (fun j => (s.eventObj j).live) s.events.length 1048576 = none) := by
  apply freeSlot_full
  · rw [List.length_map, List.length_range]
    exact Nat.le_of_eq h.symm
  · intro j hj
    rw [List.length_map, List.length_range] at hj
    exact congrArg EventObj.live (fget_all EventObj.start { EventObj.start with live := true } _ j (by simp) ⟨(j, _), List.mem_map.2 ⟨j, List.mem_range.2 hj, rfl⟩, rfl⟩)

/-- A descriptor at 0x10100 of one node at 0x10180; RCNT 1, priority 1, stride 8. -/
def descB (nodes : Nat) : List Byte := leBytes 8 0x10180 ++ leBytes 2 nodes ++ [1, 0] ++ leBytes 4 1 ++ leBytes 8 8 ++ List.replicate 40 0
/-- A node of a kind with one in-edge, or none; its image at 0x10280; and the image's header and launch record, with an entry or none. -/
def nodeB (kind : Byte) (edge : Nat) : List Byte :=
  [kind, 0, if edge = 0 then 0 else 1] ++ List.replicate 13 0 ++ leBytes 8 edge ++ leBytes 8 (if edge = 0 then 0 else 1) ++ List.replicate 48 0 ++
    leBytes 8 0x10280 ++ leBytes 8 (if kind = 3 then 64 else 0) ++ leBytes 4 (if kind = 3 then 0 else 1) ++ leBytes 2 (if kind = 3 then 0 else 0xFFFF) ++ List.replicate 26 0
def headB : List Byte := leBytes 4 0x5A535449 ++ leBytes 2 1 ++ List.replicate 14 0 ++ leBytes 4 64 ++ List.replicate 40 0
def launchB (entry : Nat) : List Byte := leBytes 8 entry ++ List.replicate 36 0 ++ leBytes 4 65536 ++ leBytes 4 64 ++ List.replicate 76 0
def stReg (a : Nat) (bs : List Byte) : State := { stCmd 1 0x10100 0 with recs := [(recKey ringOwner 4, bytesAt a bs)] }
/-- The same command after its registration failed on a page. -/
theorem witness_OrreryEvents_descriptor : (∀ n ∈ [0, 1], let s := stReg 0x10100 (descB n)
      s.cmdEntry = some (cmdBytes 1 0x10100 0) ∧ s.cmdFailed = false ∧ Brought s ringOwner 4 0x10100 64 (descB n)) ∧
    ({ stCmd 1 0x10100 0 with cmdFailed := true } : State).cmdFailed = true ∧ graphDescOk (descB 1) = true ∧ graphDescOk (descB 0) = false := by
  refine ⟨fun n hn => ?_, rfl, by decide +kernel, by decide +kernel⟩
  rcases List.mem_cons.1 hn with rfl | hn
  · exact ⟨by decide +kernel, by decide +kernel, brought (by decide +kernel)⟩
  · rw [List.mem_singleton.1 hn]
    exact ⟨by decide +kernel, by decide +kernel, brought (by decide +kernel)⟩
/-- An event of package 1, not asked for yet, and answered. -/
def farH : Word := mkHdl 0 1 (EventObj.start.gen) 1 0
def stFarReg (st : RStatus) : State :=
  let s := stCmd 1 0x10100 0
  { s with routs := ((s.askEvent ringOwner 5 0 farH).routs).map (fun o => { o with status := some st }) }
theorem witness_OrreryEvents_nodes : let s := stReg 0x10180 (nodeB 0 farH.toNat)
    Brought s ringOwner 4 0x10180 128 (nodeB 0 farH.toNat) ∧ s.nodeOk 0 (nodeB 0 farH.toNat) = true ∧ s.nodeOk 0 (nodeB 7 0) = false ∧ hdlPkg farH ≠ s.pkgId ∧
    (((parseNode (nodeB 0 farH.toNat)).edges.take (parseNode (nodeB 0 farH.toNat)).nin).map (·.1) = [farH]) ∧ s.eventRout ringOwner 5 farH = none ∧
    (∀ st ∈ [RStatus.performed, .protection], ((stFarReg st).eventRout ringOwner 5 farH).map (·.status) = some (some st)) :=
  ⟨brought (by decide +kernel), by decide +kernel, by decide +kernel, by decide +kernel, by decide +kernel, by decide +kernel, by decide +kernel⟩
theorem witness_OrreryEvents_images : (∀ e ∈ [0x40, 2 ^ 64 - 1], Brought (stReg 0x10280 headB) ringOwner 4 0x10280 64 headB ∧
      Brought (stReg 0x102C0 (launchB e)) ringOwner 4 (0x10280 + recNat headB 20 4) 128 (launchB e)) ∧
    (parseNode (nodeB 0 0)).isLaunch = true ∧ (parseNode (nodeB 0 0)).image_ = 0x10280 ∧ imageHeadOk headB = true ∧ launchOk (launchB 0x40) = true ∧
    launchOk (launchB (2 ^ 64 - 1)) = false ∧ (stCmd 1 0x10100 0).nodeOk 0 (nodeB 0 0) = true ∧
    freeSlot (fun j => ((stCmd 1 0x10100 0).graph j).live) (stCmd 1 0x10100 0).graphs.length 16384 = some 1 ∧
    keysOk [{ parseNode (nodeB 0 0) with image := some (parseLaunch (launchB 0x40)) }] = true ∧
    keysOk [{ parseNode (nodeB 0 0) with spec := 5 * 2 ^ 256, image := some { launchA with eph := 2 } },
      { parseNode (nodeB 4 0) with spec := 5 * 2 ^ 256, image := some { launchA with eph := 1 } }] = false := by
  refine ⟨fun e he => ?_, by decide +kernel, by decide +kernel, by decide +kernel, by decide +kernel, by decide +kernel, by decide +kernel, by decide +kernel, by decide +kernel,
    by decide +kernel⟩
  rcases List.mem_cons.1 he with rfl | he
  · exact ⟨brought (by decide +kernel), brought (by decide +kernel)⟩
  · rw [List.mem_singleton.1 he]
    exact ⟨brought (by decide +kernel), brought (by decide +kernel)⟩

/-- A graph whose one node waits for event 0. -/
def nodeE : GNode := { nodeA with nin := 1, edges := [(evH, 1), (0, 0), (0, 0), (0, 0)] }
def instB : QInst := { graph := 0, first := 5, rebase := 0, level := 2 }
def stReplay (live : Bool) (queues : List QInst) (running : List RunInst) : State :=
  { stCmd 0 0 0 with events := [(0, { EventObj.start with live := live, count := 3 })], graphs := [(0, graphA [nodeE])], queues := queues, running := running }
theorem witness_OrreryEvents_replays :
    ((stReplay true [instB] []).runOf 0 = none ∧ (stReplay true [instB] []).queues.find? (fun q => q.graph == 0) = some instB ∧
      (((stReplay true [instB] []).graph 0).nodes.all (fun x => (x.edges.take x.nin).all (fun ed => (stReplay true [instB] []).eventLive ed.1))) = true) ∧
    (hdlPkg evH = (stReplay false [instB] []).pkgId ∧ (stReplay false [instB] []).eventLive evH = false) ∧
    (let r := { runG .waiting with started := false }
     (stReplay true [] [r]).runOf 0 = some r ∧ r.started = false) ∧
    ((stReplay true [] [runG .ready]).runOf 0 = some (runG .ready) ∧ (runG .ready).started = true) ∧ (stReplay true [] []).runOf 0 = none := by decide +kernel

theorem witness_OrreryEvents_edges : ∀ x ∈ ((stReplay true [instB] []).graph 0).nodes, ∀ ed ∈ x.edges.take x.nin, (stReplay true [instB] []).eventLive ed.1 = true :=
  fun x hx => List.all_eq_true.1 (List.all_eq_true.1 witness_OrreryEvents_replays.1.2.2 x hx)
/-- A cohort of package 3. -/
def cohH : Word := 0x0000030001300000
/-- One node of the graph in slot 0, in a run of it. -/
def stNode (x : GNode) (st : NState) (f : RunInst → RunInst) : State :=
  { stCmd 0 0 0 with events := [(0, { EventObj.start with live := true }), (1, { EventObj.start with live := true })],
                     graphs := [(0, graphA [x, x])], running := [f (runG st)],
                     cohorts := [(0, { Cohort.start with live := true, handle := cohH })], mem := tablesA }
def fired (r : RunInst) : RunInst := { r with nodes := [(0, { NodeRun.start with fired := 1 })], order := [] }
theorem witness_OrreryEvents_ready :
    (∀ k ∈ [0, 1], let s := stNode { nodeE with flags := 1, done := evH } .waiting (fun r => { fired r with replay := k })
      let r := { fired (runG .waiting) with replay := k }
      s.runOf 0 = some r ∧ s.gnode 0 0 = some { nodeE with flags := 1, done := evH } ∧ r.started = true ∧ (r.node 0).st = .waiting ∧
      (∀ e, e < nodeE.nin → (r.node 0).fired.getLsbD e = true) ∧ ({ nodeE with flags := 1 } : GNode).once = true ∧ s.eventLive evH = true) ∧
    (¬ ∀ e, e < nodeE.nin → ((runG .waiting).node 0).fired.getLsbD e = true) ∧ nodeE.stidx = 0 ∧ nodeE.cohort = 0 ∧ nodeE.isLaunch = true := by decide +kernel
/-- A launch node whose tasks join a cohort of this package; one whose argument word 2 takes the status of its first edge's event. -/
def nodeJ : GNode := { nodeE with spec := nodeE.spec + cohH.setWidth 384 * 2 ^ 192 }
def nodeS (a : Nat) : GNode := { nodeE with spec := 2 ^ 128 + BitVec.ofNat 384 a * 2 ^ 64 + 2 * 2 ^ 176 }
theorem witness_OrreryEvents_join : nodeJ.isLaunch = true ∧ nodeJ.stidx = 0 ∧ nodeJ.cohort ≠ 0 ∧ hdlPkg nodeJ.cohort = (stNode nodeJ .waiting fired).pkgId ∧
    (stNode nodeJ .waiting fired).cohortOf nodeJ.cohort = some 0 := by decide +kernel
/-- Its page can be written, or does not exist; the store has been sent, and is performed or not. -/
theorem witness_OrreryEvents_status : (∀ a ∈ [0x10100, 0x30100], let s := stNode (nodeS a) .waiting fired
      (nodeS a).isLaunch = true ∧ (nodeS a).stidx = 2 ∧ (nodeS a).cohort = 0 ∧ s.runOf 0 = some (fired (runG .waiting)) ∧ ((fired (runG .waiting)).node 0).placed = 0 ∧
      ((nodeS a).argBase + s.rebase (fired (runG .waiting))).toNat + 8 * 2 = a + 16) ∧
    (match (stNode (nodeS 0x10100) .waiting fired).kTarget 0 4 0x10110 .store with | .ok tg => decide (tg = tgtA 0x10110) | _ => false) = true ∧
    (match (stNode (nodeS 0x30100) .waiting fired).kTarget 0 4 0x30110 .store with | .error _ => true | _ => false) = true ∧
    (let r := { runG .waiting with nodes := [(0, { NodeRun.start with fired := 1, placed := 1 })] }
     0 < (r.node 0).placed ∧ (∀ e, e < nodeE.nin → (r.node 0).fired.getLsbD e = true)) ∧
    (({ gaccA with owner := nodeOwner 0 0, isStore := true } : GAcc).owner = nodeOwner 0 0) := by decide +kernel
/-- A cohort of package 1. -/
theorem witness_OrreryEvents_far : let x := { nodeE with spec := nodeE.spec + (0x0000010001300000 : Word).setWidth 384 * 2 ^ 192 }
    x.isLaunch = true ∧ x.stidx = 0 ∧ x.cohort ≠ 0 ∧ hdlPkg x.cohort ≠ (stNode x .waiting fired).pkgId := by decide +kernel
theorem witness_OrreryEvents_over :
    (let r := { runG .waiting with nodes := [(0, { NodeRun.start with st := .done }), (1, { NodeRun.start with st := .done })] }
     (stNode nodeE .waiting (fun _ => r)).runOf 0 = some r ∧ r.started = true ∧ (∀ m, m < ((stNode nodeE .waiting (fun _ => r)).graph 0).nodes.length → (r.node m).st = .done) ∧
     ((stNode nodeE .waiting (fun _ => r)).graph 0).rcnt ≤ r.replay + 1 ∧
     (let s := { stNode nodeE .waiting (fun _ => r) with graphs := [(0, { graphA [nodeE] with completion := evH, rcnt := 2 })], binds := [(evH, 9)] }
      ¬ ((r.cancelled = true) ∨ (s.graph 0).rcnt ≤ r.replay + 1) ∧ (s.graph 0).completion ≠ 0 ∧ s.binds.find? (fun b => b.1 == (s.graph 0).completion) = some (evH, 9))) ∧
    (let s := stNode nodeE .ready id
     (∃ m, m < (s.graph 0).nodes.length ∧ m ≠ 0 ∧ ((runG .ready).node m).st = .waiting) ∧ ((runG .ready).node 0).st = .ready ∧ nodeE.isLaunch = true ∧
     ((runG .ready).node 0).counted < nodeE.grid ∧ ((runG .waiting).node 0).st = .waiting) := by decide +kernel
/-- A collective node of no further rank, a copy node of 4,100 bytes, a barrier and an event node. -/
def nodeK (k : Nat) (spec : BitVec 384) : GNode := { nodeE with kind := k, done := evH, spec := spec }
def copyS : BitVec 384 := 0x10000 + 0x18000 * 2 ^ 64 + 4100 * 2 ^ 128
def placedR (k : Nat) : RunInst := { runG .ready with nodes := [(0, { NodeRun.start with st := .ready, placed := k, counted := 1 })] }
theorem witness_OrreryEvents_kinds :
    (nodeK 3 0).kind = 3 ∧ (nodeK 1 0).field 16 4 ≤ ((placedR 0).node 0).placed ∧ nodeE.grid ≤ ((placedR 0).node 0).counted ∧
    ((nodeK 2 copyS).field 16 8 ≤ 4096 * ((placedR 2).node 0).placed ∧ 4096 * ((placedR 1).node 0).placed < (nodeK 2 copyS).field 16 8) ∧
    (∀ q ∈ (stNode (nodeK 2 copyS) .ready (fun _ => placedR 2)).gaccs, q.owner ≠ nodeOwner 0 0) ∧
    (let s := stNode (nodeK 5 ((evH + 1).setWidth 384)) .ready id
     s.eventLive (evH + 1) = true ∧ s.eventLive evH = true ∧ BitVec.ofNat 64 ((nodeK 5 ((evH + 1).setWidth 384)).field 0 8) = evH + 1 ∧ evH + 1 ≠ 0) := by decide +kernel
/-- The last piece of the copy: 4 bytes, at hand. No communicator has a chunk to send; or one of class 3 has. -/
def stCopyNode : State :=
  { stNode (nodeK 2 copyS) .ready (fun _ => placedR 1) with recs := [(recKey (nodeOwner 0 0) 4, bytesAt 0x11000 [1, 2, 3, 4])] }
theorem witness_OrreryEvents_copy : let s := stCopyNode
    0x10000 + 4100 ≤ 2 ^ 56 ∧ footApart [(0x10000, 4100)] [(0x18000, 4100)] = true ∧ min 4096 (4100 - 4096) = 4 ∧ Brought s (nodeOwner 0 0) 4 0x11000 4 [1, 2, 3, 4] ∧
    s.topClass (s.copyQuad 0 0x10000) = none ∧
    (∀ i ∈ List.range 4, (match ({ s with stlbs := [(0, [{ asid := 0, page := 1, res := .leaf 3 probeLeaf }])] } : State).translate (.quad 0) 0 5 (0x19000 + i) .store false with
      | .ok tg _ => decide (tg.aper ≠ 2) | _ => false) = true ∧
      ({ s with stlbs := [(0, [{ asid := 0, page := 1, res := .leaf 3 probeLeaf }])] } : State).dirtyOk (.quad 0) 0 (0x19000 + i) .store = true) :=
  ⟨by decide, by decide, by decide, brought (by decide +kernel), by decide +kernel, by decide +kernel⟩
theorem witness_OrreryEvents_prefetch : (∀ len ∈ [0, 64], let x := nodeK 3 (0x10000 + BitVec.ofNat 384 len * 2 ^ 64)
      x.kind = 3 ∧ x.field 8 8 = len ∧ (x.field 0 8 = 0x10000)) ∧
    (let x := { commA with cls := 3, sends := [{ sendA with staged := 1 }], staging := [(1, chunkA false 8)], credits := [(1, 1)] }
     ({ stCopyNode with comms := [(0, x)] } : State).topClass 0 = some 3) ∧ (stCopyNode.graph 0).prio = 0 := by decide +kernel
/-- A collective node of one rank: the start record at 0x10100, a program of one step at 0x10200, no descriptor. -/
def collS : BitVec 384 := 0x10100 + 2 ^ 128
def startB (handle : Nat) : List Byte := leBytes 8 handle ++ leBytes 8 0x10200 ++ leBytes 4 1 ++ List.replicate 44 0
def stCollNode (run : CRun) : State :=
  { stNode (nodeK 1 collS) .ready (fun _ => placedR 0) with
    recs := [(recKey (nodeOwner 0 0) 4, bytesAt 0x10100 (startB 77) ++ bytesAt 0x10200 (leBytes 8 0))],
    comms := [(0, { Comm.start with live := true, handle := 77, size := 2, run := run })] }
theorem witness_OrreryEvents_collective :
    ((placedR 0).node 0).placed < (nodeK 1 collS).field 16 4 ∧ cstartOk (startB 77) = true ∧ 0x10100 % 64 = 0 ∧
    (∀ run ∈ [CRun.idle, .running], (stCollNode run).commOf (BitVec.ofNat 64 (recNat (startB 77) 0 8)) = some 0 ∧ ((stCollNode run).comm 0).busy = decide (run = .running) ∧
      (stCollNode run).commOf (BitVec.ofNat 64 (recNat (startB 76) 0 8)) = none) ∧
    Brought (stCollNode .idle) (nodeOwner 0 0) 4 0x10100 64 (startB 77) ∧ Brought (stCollNode .idle) (nodeOwner 0 0) 4 0x10200 8 (leBytes 8 0) ∧
    Brought (stCollNode .idle) (nodeOwner 0 0) 4 0 0 [] ∧ descCount ((cutWords 8 (leBytes 8 0)).map (BitVec.ofNat 64)) = 0 ∧
    (stCollNode .idle).programOk [0] [] = true ∧ (∀ hd ∈ descEvents [], hdlPkg hd = (stCollNode .idle).pkgId) ∧ (stCollNode .idle).programOk [0x2C00000000000000] [] = false :=
  ⟨by decide +kernel, by decide +kernel, by decide, by decide +kernel, brought (by decide +kernel), brought (by decide +kernel), brought (by decide +kernel), by decide +kernel,
    by decide +kernel, (fun _ h => by cases h), by decide +kernel⟩
/-- All its members have started: one runs, or has ended with an exclusion or without. -/
theorem witness_OrreryEvents_members : (nodeK 1 collS).field 16 4 ≤ ((placedR 1).node 0).placed ∧
    (∀ z ∈ [(CRun.running, false), (.completed, true), (.completed, false)],
      let x := { commA with startBy := nodeOwner 0 0, ident := (instNum (placedR 1).inst.first (placedR 1).replay).setWidth 84 <<< 20, run := z.1, incomplete := z.2 }
      x.live = true ∧ x.startBy = nodeOwner 0 0 ∧ x.ident.extractLsb' 20 24 = instNum (placedR 1).inst.first (placedR 1).replay ∧ x.busy = decide (z.1 = .running) ∧
      x.incomplete = z.2) := by decide +kernel
def updA (op : ROp) : EventUpd := { idx := 0, gen := EventObj.start.gen, op := op, keep := false }
theorem witness_OrreryEvents_updates :
    (∀ op ∈ [ROp.evSignal 1 3 2, .evSet 7 false, .evSet 7 true], let s := { stReplay true [] [runG .waiting] with updates := [updA op] }
      s.updates[0]? = some (updA op) ∧ (s.eventObj 0).live = true ∧ (s.eventObj 0).gen = (updA op).gen ∧ (updA op).op = op) ∧
    (let s := { stCmd 0 0 0 with updates := [updA (.evSignal 1 3 2)], running := [runG .waiting] }
     (s.eventObj 0).deps = [{ graph := 0, node := 0, edge := 0, threshold := 1, base := 0 }] ∧ s.runOf 0 = some (runG .waiting) ∧
     (1 : Word).toNat ≤ ((s.eventObj 0).count + 1 - 0).toNat) ∧ State.reset.updates[0]? = none ∧ (State.reset.eventObj 0).live = false ∧
    (({ updA (.evSet 7 true) with gen := 0 } : EventUpd).gen ≠ EventObj.start.gen) := by decide +kernel
theorem test_create_event : shows (exec .createEvent (stCmd 3 0 0)) (fun t => (memNat t.mem 0x4020 8, memNat t.mem 0x4028 1, t.crhead)) =
    some (0x0000030001100001, 0, 1) := by decide +kernel

/-! ## The platform -/

def allRights : FMap (BitVec 256) := (List.range 87).map (fun i => (i, BitVec.allOnes 256))
/-- Every right is granted; core 0's mailbox holds a call with four arguments. -/
def stCall (code : Byte) (a0 a1 a2 a3 : Nat) : State :=
  { State.reset with
    booted := true, rights := allRights, mem := memWrite [] 0x10100 (leBytes 4 0xE0700000), diectl := [(1, 2), (2, 3), (3, 4)],
    svs := [(0, { SvCore.start with
      mailbox := (0, code) :: ((List.range 32).zip (leBytes 8 a0 ++ leBytes 8 a1 ++ leBytes 8 a2 ++ leBytes 8 a3)).map (fun ib => (8 + ib.1, ib.2)) ++ [(40, 0xFF)] })] }
def callsB (s : State) (code : Nat) (l : List Nat) : Bool :=
  decide ((s.svc 0).call = some code) && decide ((List.range 4).map (fun i => ((s.svc 0).callArg i).toNat) = l)
/-- The last 8 bytes of HBM and those after them. An earlier posted write, or a run at the slice, holds an atomic back. -/
theorem witness_PlatformEvents_host : let s := stCall 0 0 0 0 0
    barAddr true 0x3100 = 0xFFF0000003100 ∧ barAddr false 0x3100 = 0x3100 ∧ hostClass true = 1 ∧ hostClass false = 0 ∧ s.booted = true ∧
    (s.hostOk 1 0xBFFFFFFFF8 8 .store = true ∧ s.hostOk 1 0xBFFFFFFFF9 8 .store = false ∧
      s.hostOk 0 0xBFFFFFFFF8 8 .load = true ∧ State.reset.hostOk 1 0x100 8 .load = false) ∧
    (fget none s.hruns (homeSlice 0x10100) = none ∧ 0x10100 % 16 = 0 ∧ s.targetOk 1 0x10100 .atomic = true ∧ s.poisoned 0x10100 16 = false ∧ s.gaccs = [] ∧
      State.reset.targetOk 1 0x10100 .atomic = false ∧ ({ s with poison := [0x404] } : State).poisoned 0x10100 16 = true) ∧
    (fget none ({ s with hruns := [(homeSlice 0x10100, some runA)] } : State).hruns (homeSlice 0x10100) ≠ none ∧
      (let g := { stoA (tgtA 0x10100) with owner := .host true }
       g.owner = .host true ∧ g.isStore = true ∧ g.tgt.pa < 0x10100 + 16 ∧ 0x10100 < g.tgt.pa + g.n)) := by decide +kernel
def flashA (signed : Bool) : BootImage :=
  { signed := signed, entry := 0x10000, sasid := 5, sasidEntry := 0x100001, atbase := 0x4000, svpool := 0x200000, svpooln := 1, rights := allRights, cells := [(0x10000, 7)] }
theorem witness_PlatformEvents_boot : ∀ b ∈ [true, false], let s := { State.reset with flash := flashA b, inc := 0xFFFF }
    s.booted = false ∧ s.flash.signed = b ∧ s.flash.cells.wf = true ∧ s.inc = 0xFFFF ∧ ({ s with booted := true } : State).booted = true := by decide +kernel
theorem witness_PlatformEvents_slots :
    (let s := stCall 1 31 8 0x10100 1
     callsB s 1 [31, 8, 0x10100, 1] = true ∧ s.slotRuns 31 = false ∧ 0x10100 + 4 * 1 ≤ Config.hbmEnd ∧ s.poisoned 0x10100 4 = false ∧
     handlerImageOk 8 ((List.range 1).map (fun i => BitVec.ofNat 32 (memNat s.mem (0x10100 + 4 * i) 4))) = true) ∧
    (let s := stCall 1 24 16 0x10104 1
     callsB s 1 [24, 16, 0x10104, 1] = true ∧ handlerImageOk 16 ((List.range 1).map (fun i => BitVec.ofNat 32 (memNat s.mem (0x10104 + 4 * i) 4))) = false) ∧
    callsB (stCall 1 23 8 0x10100 1) 1 [23, 8, 0x10100, 1] = true ∧ State.reset.slotRuns 31 = false ∧ (State.reset.svc 0).call = none ∧
    ({ State.reset with hruns := [(0, some { runA with req := { runA.req with op := .handler 31 8 } })] } : State).slotRuns 31 = true := by decide +kernel
theorem witness_PlatformEvents_calls :
    callsB (stCall 2 16383 1 2 0) 2 [16383, 1, 2, 0] = true ∧ (stCall 2 0 0 0 0).atbase.toNat + 16 * 16383 + 16 ≤ Config.cfgBase ∧ callsB (stCall 2 16384 1 2 0) 2 [16384, 1, 2, 0] = true ∧
    callsB (stCall 3 86 63 15 0) 3 [86, 63, 15, 0] = true ∧ callsB (stCall 3 87 63 15 0) 3 [87, 63, 15, 0] = true ∧
    callsB (stCall 4 0 0 0 0) 4 [0, 0, 0, 0] = true ∧ (stCall 4 0 0 0 0).dieState 0 = 0 ∧ callsB (stCall 4 3 0 0 0) 4 [3, 0, 0, 0] = true ∧
    (stCall 4 3 0 0 0).dieState 3 ≠ 0 ∧ callsB (stCall 4 4 0 0 0) 4 [4, 0, 0, 0] = true ∧
    callsB (stCall 5 1 0 0 0) 5 [1, 0, 0, 0] = true ∧ (stCall 5 1 0 0 0).dieState 1 = 2 ∧ callsB (stCall 5 0 0 0 0) 5 [0, 0, 0, 0] = true ∧ (stCall 5 0 0 0 0).dieState 0 ≠ 2 ∧
    callsB (stCall 5 4 0 0 0) 5 [4, 0, 0, 0] = true ∧
    callsB (stCall 6 3 600 0 0) 6 [3, 600, 0, 0] = true ∧ callsB (stCall 6 4 600 0 0) 6 [4, 600, 0, 0] = true ∧
    callsB (stCall 7 0xBFFFFF0000 0 0 0) 7 [0xBFFFFF0000, 0, 0, 0] = true ∧ 0xBFFFFF0000 % 65536 = 0 ∧ 0xBFFFFF0000 < Config.hbmEnd ∧
    callsB (stCall 7 0xC000000000 0 0 0) 7 [0xC000000000, 0, 0, 0] = true ∧
    callsB (stCall 8 16383 8 0 0) 8 [16383, 8, 0, 0] = true ∧ callsB (stCall 8 16383 64 0 0) 8 [16383, 64, 0, 0] = true := by decide +kernel
theorem witness_PlatformEvents_registers : let s := { stCall 0 0 0 0 0 with ports := [(1, { Port.start with state := 2 })] }
    s.targetOk 3 (Config.cfgBase + 0x3100) .store = true ∧ s.targetOk 2 (Config.cfgBase + 0xC018) .store = true ∧ s.targetOk 2 (Config.cfgBase + 0x30C0) .store = true ∧
    s.targetOk 3 (Config.cfgBase + 0x30C0) .store = true ∧ s.targetOk 1 (Config.cfgBase + 0x30C0) .store = false ∧ s.targetOk 2 (Config.cfgBase + 0x200AC0 + 24) .store = true ∧
    s.targetOk 2 (Config.cfgBase + 0x8FC0) .store = true ∧ s.targetOk 2 (Config.cfgBase + 0x1000) .store = true ∧ s.dieState 0 = 0 ∧ (s.port 1).state = 2 ∧ (s.port 63).state = 0 ∧
    63 ≠ pkgMember s.pkgId ∧ 1 ≠ pkgMember s.pkgId ∧ 1000 ≤ (0xF3E8 : Word).toNat % 4096 ∧ (1 : Word).getLsbD 0 = true ∧ (1 : Word).getLsbD 1 = false ∧ (2 : Word).getLsbD 1 = true ∧
    counterExists 0x120000 = true ∧ counterExists 0x108FF0 = true ∧ counterSrcOk 0x120000 0x25 = true ∧ counterSrcOk 0x120000 0x26 = false := by decide +kernel
theorem witness_PlatformEvents_errors : let s := { stCall 0 0 0 0 0 with corrected := [(7, 64)], meshRetry := [(223, 16)] }
    0x2FFFFFFFF < Config.hbmEnd / 64 ∧ s.dieState 0 = 0 ∧ s.dieState 1 = 2 ∧ s.dieState 2 = 3 ∧ s.dieState 3 = 4 ∧ 64 ≤ fget 0 s.corrected 7 ∧ fget 0 s.corrected 6 < 64 ∧
    16 ≤ fget 0 s.meshRetry 223 ∧ fget 0 s.meshRetry 0 < 16 ∧ s.pcap.toNat < 3201 ∧ 12 < (fget 20 s.dvfs 0).toNat := by decide +kernel
theorem witness_PlatformEvents_data : (((stCtx { resA with task := some refA, life := .saving }).res (0 : Rh).toNat).life = .saving ∧
    ((stCtx { resA with task := some refA, life := .saving }).res (0 : Rh).toNat).task = some refA) ∧
    (stA .s).reading (.task (0 : Rh).toNat .s) = some (.instr, 0x10000) ∧ stV.reading (.task (0 : Rh).toNat .v) = some (.instr, 0x10000) ∧
    (stC none).reading (.task (0 : Rh).toNat .c) = some (.instr, 0x10000) ∧ ((stSup resA).svc 0).running = true ∧ ((stSup resA).svc 0).stopped = false ∧
    ((stSup resA).svc 0).sc.tstat.getLsbD 2 = false := by decide +kernel
theorem test_data_error : shows (exec (.uncorrectableError (.data (.task 0) .s 0x20 0x1020)) (stA .s)) (fun t =>
    ((t.svc 0).waiting.map (fun r => (r.code, r.detail, r.vaddr, r.iaddr)), (t.res 0).est .s)) = some ([(0x31, 0x20, 0x1020, 0x10000)], 2) := by decide +kernel
theorem test_llcpin_is_clamped : shows (exec (.writeLlcpin 0) (stCall 6 3 600 0 0)) (fun t => (fget 0 t.llcpin 3, fget 0 (t.svc 0).mailbox 40)) = some (512, 0) := by decide +kernel
theorem test_host_add : shows (exec (.hostAtomic true 0x10100 0 5 0) (stCall 0 0 0 0 0)) (fun t => (memNat t.mem 0x10100 4, t.hostReads)) =
    some (0xE0700005, [leBytes 4 0xE0700000]) := by decide +kernel
/-- A die is fencing, fenced, rejoining. -/
theorem witness_PlatformEvents_dies : ∀ d ∈ [0, 1, 2, 3, 4], (({ State.reset with diectl := [(0, BitVec.ofNat 4 d)] } : State).dieState 0 = d) := by decide +kernel

/-! ## Steps, invariants, encodings -/

theorem reset_formed : Formed State.reset :=
  ⟨by decide, fun _ => rfl, fun _ _ h => by cases h⟩
theorem reset_ranged : Ranged State.reset := by
  refine ⟨by decide, fun d => ?_, fun q => ?_, fun d => ?_, fun p => ?_, fun c => ⟨Or.inl rfl, rfl⟩, Or.inl rfl, rfl⟩
  · show 12 ≤ (20 : BitVec 5).toNat ∧ (20 : BitVec 5).toNat ≤ 22; decide
  · show (0 : BitVec 16).toNat ≤ 512; decide
  · show (0 : BitVec 4).toNat ≤ 4; decide
  · show (0 : BitVec 4).toNat ≤ 4; decide
/-- An agenda lets an event of the fabric happen, then time pass. -/
noncomputable def stAgenda : State := { State.reset with agenda := [.event (.powerCapStep 0 4000), .tick 5] }
theorem witness_StepKeepsMemoryForm : Formed stAgenda ∧ ∃ t, step stAgenda = .next t := ⟨⟨by decide, fun _ => rfl, fun _ _ h => by cases h⟩, _, rfl⟩
theorem witness_StepKeepsRegisterRanges : Ranged stAgenda ∧ ∃ t, step stAgenda = .next t := by
  refine ⟨⟨by decide, reset_ranged.2.1, reset_ranged.2.2.1, reset_ranged.2.2.2.1, reset_ranged.2.2.2.2.1, fun c => ⟨Or.inl rfl, rfl⟩, Or.inl rfl, rfl⟩, _, rfl⟩
theorem witness_DecodeEncode : (Instr.add 5 6 7).wf .scalar = true ∧ (Instr.matrixEnd).wf .matrix = true ∧ (Instr.endl 0).wf .collective = true := by decide +kernel
/-- The agenda is empty: reset, with no program, and a resident at byte 0x10000 whose bytes are an ADD. -/
def stFetch (word : Nat) (r : Resident) : State := { engState .s r tileA with mem := memWrite [] 0x10000 (leBytes 4 word) }
theorem witness_StepRunsDecoded_fetch :
    (let s := stFetch 0x04518700 resA
     s.agenda = [] ∧ s.turn = .eng 0 .s ∧ s.cur 0 .s = some 0 ∧ (match s.fetchWord w0 0x10000 with | .word x => decide (x = 0x04518700) | _ => false) = true ∧
     (s.touchFetch w0 0x10000).stalls w0 (.add 5 6 7) = false) ∧
    (match ({ stFetch 0 resA with tiles := [(0, { tileA with tlb := [] })] } : State).fetchWord w0 0x10000 with | .miss => true | _ => false) = true ∧
    (match ({ stFetch 0 resA with poison := [1024] } : State).fetchWord w0 0x10000 with | .bad _ => true | _ => false) = true ∧
    (match ({ stFetch 0 resA with turn := .eng 0 .v }).translate w0.tlb 0 (engState .s resA tileA |>.classOfWho w0) 0x10000 .fetch false with | .ok tg _ => decide (tg.pa = 0x10000) | _ => false) = true := by decide +kernel
theorem witness_StepRunsDecoded_issues : Issues (stFetch 0x04518700 resA) 0 .s ∧ Issues (stA .v) 0 .v ∧
    (let x := (engState .s { resA with sc := { resA.sc with a0 := true } } tileA).res 0
     x.life = .active ∧ x.est .s = 1 ∧ x.s.park = none ∧ x.preempt = false ∧ x.s.bnd = false ∧ x.s.blk < 256 ∧ x.deferred = [] ∧ timerReady 0 x.sc = false ∧ x.sc.a0 = true) :=
  ⟨⟨rfl, by decide, rfl, rfl, rfl, by decide, (fun _ h => by cases h), (fun _ h => by cases h), fun _ => ⟨rfl, rfl, fun _ h => by revert h; decide⟩⟩,
   ⟨rfl, by decide, rfl, rfl, rfl, by decide, (fun _ h => by cases h), (fun _ h => by cases h), (fun h => by cases h)⟩, by decide +kernel⟩
theorem witness_StepRunsDecoded_agents :
    (let s := svState [] State.reset
     s.turn = .sv 0 ∧ (s.svc 0).running = true ∧ (s.svc 0).stopped = false ∧ fqReady (s.svc 0) = false ∧ timerReady s.stamp (s.svc 0).sc = false ∧ (s.svc 0).sc.a0 = false) ∧
    ((stColl commA).turn = .coll 0 ∧ ((stColl commA).comm 0).live = true ∧ ((stColl commA).comm 0).run = .running ∧ ((stColl commA).comm 0).prog[((stColl commA).comm 0).pos]? = some 0) ∧
    (let r := { runA with prog := [0xE0700000], idx := 0 }
     let s := { State.reset with turn := .near 0, hruns := [(0, some r)] }
     s.turn = .near 0 ∧ fget none s.hruns 0 = some r ∧ r.prog[r.idx]? = some 0xE0700000) ∧
    (State.reset.cur 0 .s = none ∧ State.reset.turn = .eng 0 .s) ∧ (Instr.powerCapStep 0 4000).eventWf = true ∧ (Instr.add 5 6 7).eventWf = false := by decide +kernel
theorem witness_StepRunsDecoded_words : decode .handler 0xE0700000 = .ok (.hret 7) ∧ decodeStep 0x2C00000000000000 = .ok (.endl 0) ∧ decode .scalar 0x04518700 = .ok (.add 5 6 7) ∧
    decode .scalar 0xFC000000 = .error .unassignedOpcode ∧ decodeStep 1 = .error .reservedField := ⟨rfl, rfl, rfl, rfl, rfl⟩

end Sys2Proof.Tests
end

section
/-!
Every operation on the state keeps the canonical form of memory (the invariant `Formed`).

`Formed` speaks of three things: global memory, the tiles' scratchpads and the handler runs. They are gathered here as the `Cells` of a
state, so that one equation, `(f s).cells = s.cells`, says of an operation that it writes none of them; most operations of the model are
such. The others write by `memWrite`, `memSet` and `fput`, which keep the form.
-/

namespace Sys2Proof.Machine
open Sys2Proof

/-- What `Formed` speaks of: global memory, the scratchpad of each tile, the handler runs. -/
structure Cells where
  mem : Memory
  spad : Nat → Memory
  runs : FMap (Option HRun)

/-- The scratchpads of a table of tiles. -/
def spads (ts : FMap Tile) (k : Nat) : Memory := (fget Tile.start ts k).spad

/-- The cells of a state, by a pattern on its fields: the equation of this definition fires on a state given field by field. -/
def State.cells : State → Cells
  | { mem := m, tiles := ts, hruns := hs, .. } => ⟨m, spads ts, hs⟩

/-- The cells of a state given field by field: an update of other fields leaves them. -/
@[simp] theorem cells_mk : type_of% State.cells.eq_1 := State.cells.eq_1

@[simp] theorem cells_eta (s : State) : (⟨s.mem, spads s.tiles, s.hruns⟩ : Cells) = s.cells := by rfl

/-- A handler's buffer: addresses strictly rising, inside the window (R261). -/
def BufFormed (m : FMap (Option Byte)) : Prop := m.Pairwise (fun p q => p.1 < q.1) ∧ ∀ p ∈ m, p.1 < 4096

/-- A handler run whose private buffer stands in canonical form. -/
def HRun.Formed (r : HRun) : Prop := BufFormed r.buf

/-- `Formed`, said of the cells alone. -/
structure Cells.Formed (c : Cells) : Prop where
  mem : Memory.wf c.mem = true
  spad : ∀ k, Memory.wf (c.spad k) = true
  runs : ∀ k r, fget none c.runs k = some r → r.Formed

theorem formed_iff (s : State) : Formed s ↔ s.cells.Formed :=
  ⟨fun ⟨m, t, r⟩ => ⟨m, t, r⟩, fun ⟨m, t, r⟩ => ⟨m, t, r⟩⟩

@[simp] theorem cells_ite (p : Prop) [Decidable p] (s t : State) : (if p then s else t).cells = if p then s.cells else t.cells :=
  apply_ite State.cells p s t

@[simp] theorem cells_setRes (s : State) (h : Nat) (r : Resident) : (s.setRes h r).cells = s.cells := by rfl
@[simp] theorem cells_setSvc (s : State) (c : Nat) (x : SvCore) : (s.setSvc c x).cells = s.cells := by rfl
@[simp] theorem cells_modRes (s : State) (h : Nat) (f) : (s.modRes h f).cells = s.cells := by rfl
@[simp] theorem cells_modSvc (s : State) (c : Nat) (f) : (s.modSvc c f).cells = s.cells := by rfl

theorem spads_fput {ts : FMap Tile} {t : Nat} {x : Tile} (h : x.spad = (fget Tile.start ts t).spad) : spads (fput ts t x) = spads ts := by
  funext k
  by_cases e : k = t
  · subst e
    simp [spads, h]
  · simp [spads, fget_fput_other _ _ _ e]

/-- An update of a tile that leaves its scratchpad leaves the cells. -/
@[simp] theorem cells_setTile (s : State) (t : Nat) (x : Tile) (h : x.spad = (s.tile t).spad) : (s.setTile t x).cells = s.cells := by
  rw [State.setTile, cells_mk, spads_fput h]
  rfl

@[simp] theorem cells_modTile (s : State) (t : Nat) (f : Tile → Tile) (h : (f (s.tile t)).spad = (s.tile t).spad) :
    (s.modTile t f).cells = s.cells := cells_setTile s t _ h

@[simp] theorem cells_setChan (s : State) (t ch : Nat) (x : Chan) : (s.setChan t ch x).cells = s.cells := cells_modTile _ _ _ rfl

/-- A fold of steps that leave the cells leaves them. -/
@[simp] theorem cells_foldl {α : Type} (f : State → α → State) (l : List α) (h : ∀ s a, (f s a).cells = s.cells) (s : State) :
    (l.foldl f s).cells = s.cells := by
  induction l generalizing s with
  | nil => rfl
  | cons a l ih => rw [List.foldl_cons, ih, h]

theorem mem_fput {α : Type} {m : FMap α} {k : Nat} {v : α} {c : Nat × α} (h : c ∈ fput m k v) : c = (k, v) ∨ c ∈ m := by
  induction m with
  | nil => simpa [fput] using h
  | cons e m ih =>
    simp only [fput] at h
    split at h
    · exact (List.mem_cons.mp h).imp_right (List.mem_cons_of_mem _)
    · split at h
      · exact List.mem_cons.mp h
      · rcases List.mem_cons.mp h with rfl | h
        · exact .inr (List.mem_cons_self ..)
        · exact (ih h).imp_right (List.mem_cons_of_mem _)

theorem fput_rising {α : Type} {m : FMap α} (k : Nat) (v : α) (h : m.Pairwise fun p q => p.1 < q.1) :
    (fput m k v).Pairwise fun p q => p.1 < q.1 := by
  induction m with
  | nil => exact List.pairwise_singleton ..
  | cons e m ih =>
    obtain ⟨he, hm⟩ := List.pairwise_cons.mp h
    simp only [fput]
    split
    · next hk => exact List.pairwise_cons.mpr ⟨fun c hc => hk ▸ he c hc, hm⟩
    · split
      · next hk =>
        refine List.pairwise_cons.mpr ⟨fun c hc => ?_, h⟩
        rcases List.mem_cons.mp hc with rfl | hc
        · exact hk
        · exact Nat.lt_trans hk (he c hc)
      · refine List.pairwise_cons.mpr ⟨fun c hc => ?_, ih hm⟩
        rcases mem_fput hc with rfl | hc
        · show e.1 < k
          omega
        · exact he c hc

theorem bufFormed_fput {m : FMap (Option Byte)} {k : Nat} (v : Option Byte) (h : BufFormed m) (hk : k < 4096) : BufFormed (fput m k v) :=
  ⟨fput_rising k v h.1, fun p hp => (mem_fput hp).elim (fun e => e ▸ hk) (h.2 p)⟩

/-- A doubleword stored inside the window (R261). -/
theorem bufFormed_store {m : FMap (Option Byte)} {o : Nat} (f : Nat → Option Byte) (h : BufFormed m) (ho : o + 8 ≤ 4096) :
    BufFormed ((List.range 8).foldl (fun m j => fput m (o + j) (f j)) m) := by
  have fold : ∀ (l : List Nat), (∀ j ∈ l, j < 8) → ∀ m, BufFormed m → BufFormed (l.foldl (fun m j => fput m (o + j) (f j)) m) := by
    intro l
    induction l with
    | nil => exact fun _ _ hm => hm
    | cons j l ih =>
      intro hl m hm
      have hj := hl j (List.mem_cons_self ..)
      exact ih (fun i hi => hl i (List.mem_cons_of_mem _ hi)) _ (bufFormed_fput _ hm (by omega))
  exact fold _ (fun j hj => List.mem_range.mp hj) m h

/-- A handler's load or store reaches no byte beyond its window of 4,096 (R261). -/
theorem hoff_window (r : HRun) (a : BitVec 4) (i : BitVec 16) : hoff r a i + 8 ≤ 4096 := by
  unfold hoff
  omega

/-! ## Writes -/

theorem formed_mem {c : Cells} {m : Memory} (h : c.Formed) (hm : Memory.wf m = true) : (Cells.mk m c.spad c.runs).Formed :=
  ⟨hm, h.spad, h.runs⟩

@[simp] theorem formed_memWrite {s : State} {a : Nat} {bs : List Byte} (h : s.cells.Formed) :
    (Cells.mk (memWrite s.mem a bs) (spads s.tiles) s.hruns).Formed := formed_mem h (memWrite_wf bs a h.mem)

@[simp] theorem formed_fput_hruns {s : State} {k : Nat} {o : Option HRun} (h : s.cells.Formed) (ho : ∀ r, o = some r → r.Formed) :
    (Cells.mk s.mem (spads s.tiles) (fput s.hruns k o)).Formed := by
  refine ⟨h.mem, h.spad, fun j r hj => ?_⟩
  by_cases e : j = k
  · subst e
    rw [fget_fput_same] at hj
    exact ho r hj
  · rw [fget_fput_other _ _ _ e] at hj
    exact h.runs j r hj

theorem formed_setTile {s : State} {t : Nat} {x : Tile} (h : s.cells.Formed) (hx : Memory.wf x.spad = true) :
    (s.setTile t x).cells.Formed := by
  rw [State.setTile, cells_mk]
  refine ⟨h.mem, fun k => ?_, h.runs⟩
  by_cases e : k = t
  · subst e
    simpa [spads] using hx
  · show Memory.wf (fget Tile.start (fput s.tiles t x) k).spad = true
    rw [fget_fput_other _ _ _ e]
    exact h.spad k

theorem formed_modTile {s : State} {t : Nat} {f : Tile → Tile} (h : s.cells.Formed)
    (hf : ∀ x, Memory.wf x.spad = true → Memory.wf (f x).spad = true) : (s.modTile t f).cells.Formed :=
  formed_setTile h (hf _ (h.spad t))

@[simp] theorem formed_ite (p : Prop) [Decidable p] (c d : Cells) :
    (if p then c else d).Formed ↔ if p then c.Formed else d.Formed := by split <;> rfl

/-- A fold of steps that keep the cells formed keeps them formed. -/
theorem formed_foldl {α : Type} {f : State → α → State} (hf : ∀ s a, s.cells.Formed → (f s a).cells.Formed) {l : List α} {s : State}
    (h : s.cells.Formed) : (l.foldl f s).cells.Formed := by
  induction l generalizing s with
  | nil => exact h
  | cons a l ih => exact ih (hf s a h)

theorem formed_getD {o : Option State} {d : State} (ho : ∀ t, o = some t → t.cells.Formed) (hd : d.cells.Formed) :
    (o.getD d).cells.Formed := by
  cases o with
  | none => exact hd
  | some t => exact ho t rfl

/-- The state in which an access by parts leaves the machine, whatever its result. -/
def PRes.state : PRes → State
  | .ok _ s => s
  | .wait s => s
  | .bad _ s => s

@[simp] theorem PRes.state_ok (bs : List Byte) (s : State) : (PRes.ok bs s).state = s := rfl
@[simp] theorem PRes.state_wait (s : State) : (PRes.wait s).state = s := rfl
@[simp] theorem PRes.state_bad (f : FaultInfo) (s : State) : (PRes.bad f s).state = s := rfl
@[simp] theorem KRes.state_ok (bs : List Byte) (s : State) : (KRes.ok bs s).state = s := rfl
@[simp] theorem KRes.state_wait (s : State) : (KRes.wait s).state = s := rfl
@[simp] theorem KRes.state_stop (s : State) : (KRes.stop s).state = s := rfl

theorem KRes.formed_of_eq_ok {r : KRes} {bs : List Byte} {u : State} (e : r = .ok bs u) (h : r.state.cells.Formed) : u.cells.Formed := by
  subst e
  exact h

theorem PRes.formed_of_eq {r q : PRes} (e : r = q) (h : r.state.cells.Formed) : q.state.cells.Formed := e ▸ h

theorem formed_fst {α : Type} {r : State × α} {u : State} {a : α} (e : r = (u, a)) (h : r.1.cells.Formed) : u.cells.Formed := by
  subst e
  exact h

/-- A fold of a state and a result beside it, by steps that leave the cells, leaves them. -/
theorem cells_foldl_fst {α β : Type} (f : State × β → α → State × β) (l : List α) (h : ∀ x a, (f x a).1.cells = x.1.cells) (x : State × β) :
    (l.foldl f x).1.cells = x.1.cells := by
  induction l generalizing x with
  | nil => rfl
  | cons a l ih => rw [List.foldl_cons, ih, h]

/-- Boot copies the flash into memory byte by byte, below a bound (`State.bootActions`). -/
theorem foldl_memSet_wf (p : Nat → Bool) (l : List (Nat × Byte)) : ∀ {m : Memory}, Memory.wf m = true →
    Memory.wf (l.foldl (fun m ab => if p ab.1 then memSet m ab.1 ab.2 else m) m) = true := by
  induction l with
  | nil => exact fun h => h
  | cons a l ih =>
    intro m h
    refine ih ?_
    dsimp only
    split
    · exact memSet_wf _ _ h
    · exact h

/-- A die that is fenced loses its tiles' scratchpads (`State.fenceDie`). -/
theorem spads_filter (ts : FMap Tile) (p : Nat → Bool) (k : Nat) :
    spads (ts.filter (fun kt => p kt.1)) k = if p k then spads ts k else [] := by
  unfold spads
  induction ts with
  | nil => simp [fget, Tile.start]
  | cons c ts ih =>
    obtain ⟨j, x⟩ := c
    by_cases e : j = k
    · subst e
      by_cases hp : p j <;> simp_all [fget]
    · by_cases hp : p j <;> simp_all [fget]

theorem formed_of_ite {p : Prop} [Decidable p] {s t : State} (hs : p → s.cells.Formed) (ht : ¬p → t.cells.Formed) :
    (if p then s else t).cells.Formed := by
  split
  · exact hs ‹_›
  · exact ht ‹_›

/-! ## Operations on the state

One lemma an operation, in the order of the model's files: `cells_…` where it leaves the cells, `formed_…` where it writes them. -/

/-! ### Machine/Ops.lean -/

@[simp] theorem cells_fresh1 (s : State) : (State.fresh1 s).cells = s.cells := by rfl
@[simp] theorem cells_countTile (s : State) (t src n : Nat) : (State.countTile s t src n).cells = s.cells := by rfl
@[simp] theorem cells_countQuad (s : State) (q src n : Nat) : (State.countQuad s q src n).cells = s.cells := by rfl
@[simp] theorem cells_countOpt (s : State) (e src n : Nat) : (State.countOpt s e src n).cells = s.cells := by rfl
@[simp] theorem cells_modPrg (s : State) (h : Nat) (e : Eng) (f : Prg → Prg) : (State.modPrg s h e f).cells = s.cells := by rfl

@[simp] theorem cells_modSc (s : State) (w : Who) (f : SCtx → SCtx) : (State.modSc s w f).cells = s.cells := by
  unfold State.modSc
  split <;> simp

@[simp] theorem cells_setSreg (s : State) (w : Who) (n : BitVec 6) (v : Word) : (State.setSreg s w n v).cells = s.cells := by
  simp [State.setSreg]

@[simp] theorem cells_issued (s : State) (w : Who) : (State.issued s w).cells = s.cells := by
  unfold State.issued
  split <;> simp

@[simp] theorem cells_advance (s : State) (w : Who) : (State.advance s w).cells = s.cells := by
  unfold State.advance
  split <;> simp

@[simp] theorem cells_keepXf (s : State) (h : Nat) : (s.keepXf h).cells = s.cells :=
  cells_foldl _ _ (fun _ _ => cells_modRes ..) s

@[simp] theorem cells_setCur (s : State) (t : Nat) (e : Eng) (r : Option Nat) : (State.setCur s t e r).cells = s.cells := by
  simp [State.setCur]

@[simp] theorem cells_beginBlock (s : State) (h : Nat) (e : Eng) : (State.beginBlock s h e).cells = s.cells := by rfl

@[simp] theorem cells_switch (s : State) (t : Nat) (e : Eng) : (State.switch s t e).cells = s.cells := by
  unfold State.switch
  split <;> simp

@[simp] theorem cells_endBlock (s : State) (h : Nat) (e : Eng) : (State.endBlock s h e).cells = s.cells := by
  cases e <;> simp [State.endBlock]

@[simp] theorem cells_boundary (s : State) (h : Nat) (e : Eng) : (State.boundary s h e).cells = s.cells := by rfl
@[simp] theorem cells_queueRecord (s : State) (core : Nat) (f : FaultRec) : (State.queueRecord s core f).cells = s.cells := by rfl

@[simp] theorem cells_parkWith (s : State) (h : Nat) (e : Eng) (k : ParkKind) (rec : FaultRec) :
    (State.parkWith s h e k rec).cells = s.cells := by
  simp [State.parkWith]

@[simp] theorem cells_svFault (s : State) (c code : Nat) (va : Word) : (State.svFault s c code va).cells = s.cells := by rfl

@[simp] theorem cells_takeFault (s : State) (w : Who) (k : ParkKind) (f : FaultInfo) : (State.takeFault s w k f).cells = s.cells := by
  unfold State.takeFault
  split <;> simp

@[simp] theorem cells_illegal (s : State) (w : Who) (word : Word) : (State.illegal s w word).cells = s.cells := by
  simp [State.illegal]

@[simp] theorem cells_stateUse (s : State) (w : Who) : (State.stateUse s w).cells = s.cells := by
  simp [State.stateUse]

@[simp] theorem cells_alignFault (s : State) (w : Who) (size : Nat) (va : Word) : (State.alignFault s w size va).cells = s.cells := by
  simp [State.alignFault]

/-! ### Machine/Translate.lean -/

@[simp] theorem cells_fillPwc (s : State) (q : Nat) (asid : BitVec 14) (va : Nat) : (State.fillPwc s q asid va).cells = s.cells := by
  simp [State.fillPwc]

@[simp] theorem cells_invalidate (s : State) (pa n : Nat) : (State.invalidate s pa n).cells = s.cells := by rfl

@[simp] theorem formed_setEntryBits {s : State} {pa : Nat} {bits : BitVec 64} (h : s.cells.Formed) :
    (s.setEntryBits pa bits).cells.Formed := by
  simp [State.setEntryBits, h]

@[simp] theorem cells_tlbDrop (s : State) (l : Tlb) (x : TlbEntry) : (State.tlbDrop s l x).cells = s.cells := by
  unfold State.tlbDrop
  split <;> simp

@[simp] theorem cells_addWalk (s : State) (l : Tlb) (asid : BitVec 14) (va : Nat) : (State.addWalk s l asid va).cells = s.cells := by
  unfold State.addWalk
  split <;> simp

@[simp] theorem cells_tlbFill (s : State) (l : Tlb) (x : TlbEntry) : (State.tlbFill s l x).cells = s.cells := by
  unfold State.tlbFill
  split <;> simp

@[simp] theorem formed_walkComplete {s : State} {k : Nat} (h : s.cells.Formed) : (s.walkComplete k).cells.Formed := by
  unfold State.walkComplete
  split
  · exact h
  · dsimp only
    split <;> simp [h]

@[simp] theorem formed_touchTlb {s : State} {l : Tlb} {asid : BitVec 14} {va : Nat} {a : Acc} (h : s.cells.Formed) :
    (State.touchTlb s l asid va a).cells.Formed := by
  unfold State.touchTlb
  split
  · simp [h]
  · split
    · simp [h]
    · split <;> simp [h]

@[simp] theorem cells_touchFault (s : State) (l : Tlb) (asid : BitVec 14) (va : Nat) : (State.touchFault s l asid va).cells = s.cells := by
  unfold State.touchFault
  split
  · split <;> simp
  · simp

@[simp] theorem cells_touchPin (s : State) (t : Target) (asid : BitVec 14) (va n : Nat) :
    (State.touchPin s t asid va n).cells = s.cells := by
  simp [State.touchPin]

@[simp] theorem formed_touchFetch {s : State} {w : Who} {a : Addr} (h : s.cells.Formed) : (State.touchFetch s w a).cells.Formed := by
  unfold State.touchFetch
  split <;> simp [h]

@[simp] theorem cells_tlbInvalidate (s : State) (hit : TlbEntry → Bool) (stale : PwcEntry → Bool) :
    (s.tlbInvalidate hit stale).cells = s.cells := by
  have same : ∀ ts : FMap Tile, spads (ts.map (fun kt => (kt.1, { kt.2 with tlb := kt.2.tlb.filter (fun x => !hit x) }))) = spads ts := by
    intro ts
    funext k
    induction ts with
    | nil => rfl
    | cons c ts ih =>
      simp only [spads, List.map_cons, fget] at ih ⊢
      split
      · rfl
      · exact ih
  rw [State.tlbInvalidate, cells_mk, same]
  rfl

/-! ### Machine/Access.lean -/

@[simp] theorem formed_spadWrite {s : State} {h off : Nat} {bs : List Byte} (hs : s.cells.Formed) : (s.spadWrite h off bs).cells.Formed :=
  formed_modTile hs fun _ => memWrite_wf bs _

@[simp] theorem cells_dropGacc (s : State) (id : Nat) : (State.dropGacc s id).cells = s.cells := by rfl

@[simp] theorem cells_setSeqFor (s : State) (o : Owner) (pkg : BitVec 10) (x : SeqState) : (State.setSeqFor s o pkg x).cells = s.cells := by
  unfold State.setSeqFor
  split <;> simp

@[simp] theorem cells_takeSeq (s : State) (o : Owner) (pkg : BitVec 10) : (State.takeSeq s o pkg).cells = s.cells := by
  simp [State.takeSeq]

@[simp] theorem cells_unkeep (s : State) (g : GAcc) (k : Nat) : (State.unkeep s g k).cells = s.cells := by
  unfold State.unkeep
  split <;> simp

@[simp] theorem cells_pushGacc (s : State) (g : GAcc) : (State.pushGacc s g).cells = s.cells := by
  unfold State.pushGacc
  split
  · split <;> simp
  · simp

/-! ### Machine/Remote.lean -/

@[simp] theorem cells_setPort (s : State) (p : Nat) (x : Port) : (State.setPort s p x).cells = s.cells := by rfl

@[simp] theorem cells_enqueue (s : State) (p : Packet) (avoid : List Nat) : (State.enqueue s p avoid).cells = s.cells := by
  unfold State.enqueue
  split <;> simp

@[simp] theorem cells_setTransport (s : State) (peer : BitVec 10) (x : Transport) : (State.setTransport s peer x).cells = s.cells := by rfl

@[simp] theorem cells_sendNow (s : State) (dst : BitVec 10) (body : Payload) : (State.sendNow s dst body).cells = s.cells := by
  simp [State.sendNow]

@[simp] theorem cells_sendPacket (s : State) (dst : BitVec 10) (body : Payload) : (State.sendPacket s dst body).cells = s.cells := by
  simp [State.sendPacket]

@[simp] theorem cells_sendLoose (s : State) (dst : BitVec 10) (body : Payload) : (State.sendLoose s dst body).cells = s.cells := by
  simp [State.sendLoose]

@[simp] theorem cells_sendResponse (s : State) (dst : BitVec 10) (r : RResp) : (State.sendResponse s dst r).cells = s.cells := by
  simp [State.sendResponse]

@[simp] theorem cells_setSeq (s : State) (h : Nat) (owner : BitVec 10) (x : SeqState) : (State.setSeq s h owner x).cells = s.cells := by rfl

@[simp] theorem cells_noteReq (s : State) (o : Owner) (pkg : BitVec 10) (q : RReq) : (State.noteReq s o pkg q).cells = s.cells := by
  simp [State.noteReq]

@[simp] theorem cells_issueRemote (s : State) (w : Who) (t : Target) (va : Nat) (op : ROp) (op0 op1 : BitVec 128) (dest : RDest)
    (serial : Bool) (scope : BitVec 3) (leave : Leave) :
    (State.issueRemote s w t va op op0 op1 dest serial scope leave).cells = s.cells := by
  simp [State.issueRemote]

@[simp] theorem cells_flushPort (w : Who) (s : State) (p : Bool) : (State.flushPort w s p).cells = s.cells := by
  simp [State.flushPort]

theorem cells_releaseFlush {s t : State} {o : Owner} {path : BitVec 3} {id : Nat} {but : Option Bool}
    (e : s.releaseFlush o path id but = some t) : t.cells = s.cells := by
  unfold State.releaseFlush at e
  split at e
  · cases e
  · cases e
  · cases e
    exact cells_foldl _ _ (fun _ _ => cells_flushPort ..) s

@[simp] theorem cells_dropRout (s : State) (id : Nat) : (State.dropRout s id).cells = s.cells := by rfl
@[simp] theorem cells_modRout (s : State) (id : Nat) (f : ROut → ROut) : (State.modRout s id f).cells = s.cells := by rfl

@[simp] theorem cells_serialOver (s : State) (o : Owner) (pkg : BitVec 10) (q : Serial) : (State.serialOver s o pkg q).cells = s.cells := by
  simp [State.serialOver]

@[simp] theorem cells_outstandingLess (s : State) (o : Owner) (pkg : BitVec 10) : (State.outstandingLess s o pkg).cells = s.cells := by
  simp [State.outstandingLess]

@[simp] theorem cells_outstandingMore (s : State) (o : Owner) (pkg : BitVec 10) : (State.outstandingMore s o pkg).cells = s.cells := by
  simp [State.outstandingMore]

@[simp] theorem cells_seenAck (s : State) (o : Owner) (pkg : BitVec 10) (c : Serial) : (State.seenAck s o pkg c).cells = s.cells := by
  simp [State.seenAck]

@[simp] theorem cells_ackSeen (s : State) (pkg : BitVec 10) (asid : BitVec 14) (ni : BitVec 24) (tn : BitVec 20) (ct : BitVec 32) :
    (State.ackSeen s pkg asid ni tn ct).cells = s.cells := by
  unfold State.ackSeen
  split <;> simp

@[simp] theorem cells_serialStops (s : State) (o : ROut) : (State.serialStops s o).cells = s.cells := by
  simp [State.serialStops]

@[simp] theorem cells_serialDone (s : State) (o : ROut) : (State.serialDone s o).cells = s.cells := by
  unfold State.serialDone
  split <;> simp

@[simp] theorem cells_finishKept (s : State) (h : Nat) (mine : Nat → Bool) : (State.finishKept s h mine).cells = s.cells := by
  simp [State.finishKept]

@[simp] theorem cells_addDeferred (s : State) (h id : Nat) : (State.addDeferred s h id).cells = s.cells := by
  simp [State.addDeferred]

/-! ### Machine/Operands.lean -/

@[simp] theorem cells_setLreg (s : State) (w : Who) (x : Nat) (v : Word) : (State.setLreg s w x v).cells = s.cells := by
  unfold State.setLreg
  split <;> simp

/-! ### Machine/ScalarAlu.lean -/

@[simp] theorem cells_scalarResult (w : Who) (d : BitVec 6) (v : Word) (s : State) : (scalarResult w d v s).cells = s.cells := by
  simp [scalarResult]

/-! ### Machine/ControlRegs.lean -/

theorem cells_svCrWrite {s t : State} {c n : Nat} {v : Word} (e : s.svCrWrite c n v = some t) : t.cells = s.cells := by
  unfold State.svCrWrite at e
  dsimp only at e
  split at e
  case h_5 =>
    obtain ⟨d, _, rfl⟩ := Option.map_eq_some_iff.mp e
    simp
  all_goals cases e; simp

theorem cells_crWrite {s t : State} {w : Who} {n : Nat} {v : Word} (e : s.crWrite w n v = some t) : t.cells = s.cells := by
  cases w with
  | task h _ =>
    obtain ⟨r, _, rfl⟩ := Option.map_eq_some_iff.mp e
    simp
  | sv c => exact cells_svCrWrite e

/-! ### Machine/ScalarControl.lean -/

@[simp] theorem cells_afterTransfer (s : State) (w : Who) : (State.afterTransfer s w).cells = s.cells := by
  unfold State.afterTransfer
  split <;> simp

@[simp] theorem cells_transfer (s : State) (w : Who) (target : Addr) : (State.transfer s w target).cells = s.cells := by
  simp [State.transfer]

@[simp] theorem cells_jumpTo (w : Who) (n : BitVec 1) (target : Addr) (s : State) : (jumpTo w n target s).cells = s.cells := by
  simp [jumpTo]

@[simp] theorem cells_deliverDeferred (s : State) (h : Nat) : (State.deliverDeferred s h).cells = s.cells := by
  unfold State.deliverDeferred
  dsimp only
  split
  · simp
  · split
    · simp
    · split <;> simp

/-! ### Machine/Cohort.lean -/

@[simp] theorem cells_ccreate (s : State) (w : Who) (n : Nat) : (s.ccreate w n).1.cells = s.cells := by
  unfold State.ccreate
  split <;> simp

@[simp] theorem cells_setCohort (s : State) (k : Nat) (c : Cohort) : (State.setCohort s k c).cells = s.cells := by rfl

@[simp] theorem cells_barrierCheck (s : State) (k : Nat) : (State.barrierCheck s k).cells = s.cells := by
  simp [State.barrierCheck]

@[simp] theorem cells_stopBar (s : State) (h : Nat) (hd : Word) : (State.stopBar s h hd).cells = s.cells := by
  unfold State.stopBar
  split
  · split <;> simp
  · simp

@[simp] theorem cells_remoteCohort (s : State) (w : Who) (fn : BitVec 2) (hd : Word) (dest : RDest) :
    (State.remoteCohort s w fn hd dest).cells = s.cells := by
  simp [State.remoteCohort]

theorem cells_queueInst {s t : State} {g : Nat} {rebase : Word} {level : BitVec 2} {n : BitVec 24}
    (e : s.queueInst g rebase level = some (t, n)) : t.cells = s.cells := by
  unfold State.queueInst at e
  dsimp only at e
  split at e
  · cases e
  · split at e
    · cases e
    · cases e
      simp

/-! ### Machine/Sync.lean -/

@[simp] theorem cells_localResult (w : Who) (x : Nat) (v : Word) (s : State) : (localResult w x v s).cells = s.cells := by
  simp [localResult]

@[simp] theorem cells_askEvent (s : State) (o : Owner) (path : BitVec 3) (iaddr : Addr) (hd : Word) :
    (State.askEvent s o path iaddr hd).cells = s.cells := by
  simp [State.askEvent]

@[simp] theorem cells_seePeer (s : State) (hd count status : Word) : (State.seePeer s hd count status).cells = s.cells := by rfl

@[simp] theorem cells_countsOf (s : State) (o : Owner) (path : BitVec 3) (iaddr : Addr) (hds : List Word) :
    (s.countsOf o path iaddr hds).1.cells = s.cells := by
  unfold State.countsOf
  dsimp only
  split
  · exact cells_foldl _ _ (fun _ _ => cells_askEvent ..) s
  · split
    · rfl
    · split
      · exact cells_foldl _ _ (fun _ _ => cells_dropRout ..) s
      · refine (cells_foldl _ _ (fun u r => ?_) _).trans (cells_foldl _ _ (fun _ _ => cells_dropRout ..) s)
        split <;> simp

theorem formed_countsOf (s : State) (o : Owner) (path : BitVec 3) (iaddr : Addr) (hds : List Word) (h : s.cells.Formed) :
    (s.countsOf o path iaddr hds).1.cells.Formed := by
  rw [cells_countsOf]
  exact h

@[simp] theorem cells_signalEvent (s : State) (w : Who) (hd : Word) (op : ROp) : (State.signalEvent s w hd op).cells = s.cells := by
  simp [State.signalEvent]

@[simp] theorem cells_setFence (s : State) (w : Who) (x : Option Nat) : (State.setFence s w x).cells = s.cells := by
  unfold State.setFence
  split <;> simp

@[simp] theorem cells_markFence (s : State) (w : Who) (src dst : BitVec 3) (u : Bool) (below : Nat) :
    (State.markFence s w src dst u below).cells = s.cells := by rfl

@[simp] theorem cells_fenceFlags (s : State) (w : Who) : (State.fenceFlags s w).cells = s.cells := by
  unfold State.fenceFlags
  split <;> simp

@[simp] theorem cells_dropPort (s : State) (h q : Nat) : (State.dropPort s h q).cells = s.cells := by rfl

/-! ### Machine/MatrixCore.lean -/

@[simp] theorem cells_setSlabWord (s : State) (t z i : Nat) (v : BitVec 32) : (State.setSlabWord s t z i v).cells = s.cells := by
  simp [State.setSlabWord]

@[simp] theorem cells_setSlabFull (s : State) (t z : Nat) (full : Bool) : (State.setSlabFull s t z full).cells = s.cells := by
  simp [State.setSlabFull]

@[simp] theorem cells_slabMap (s : State) (h z m n : Nat) (f : Nat → Nat → BitVec 32 → BitVec 32 × Flg) :
    (State.slabMap s h z m n f).cells = s.cells := by
  simp [State.slabMap]

@[simp] theorem cells_slabZero (s : State) (h z m n : Nat) : (State.slabZero s h z m n).cells = s.cells := by
  simp [State.slabZero]

@[simp] theorem cells_mmaUnit (s : State) (h z : Nat) (qa qb : BitVec 512) (shape : Word) (zi : Bool) (c : Nat) :
    (mmaUnit s h z qa qb shape zi c).cells = s.cells := by
  simp [mmaUnit]

@[simp] theorem cells_mmasUnit (s : State) (h z : Nat) (qa qb : BitVec 512) (shape : Word) (sa zi : Bool) (c : Nat) :
    (mmasUnit s h z qa qb shape sa zi c).cells = s.cells := by
  simp [mmasUnit]

@[simp] theorem cells_setEph (s : State) (h k : Nat) (x : EphSlot) : (State.setEph s h k x).cells = s.cells := by
  simp [State.setEph]

@[simp] theorem cells_putTable (s : State) (h w k img : Nat) (ok : Bool) : (State.putTable s h w k img ok).cells = s.cells := by
  simp [State.putTable]

@[simp] theorem cells_ephbUnit (s : State) (h : Nat) (q : BitVec 512) (n g : Nat) : (ephbUnit s h q n g).cells = s.cells := by
  simp [ephbUnit]

@[simp] theorem cells_ephlUnit (s : State) (h : Nat) (q : BitVec 512) (n g : Nat) : (ephlUnit s h q n g).cells = s.cells := by
  simp [ephlUnit]

@[simp] theorem formed_ephsUnit {s : State} {h : Nat} {q : BitVec 512} {n g : Nat} (hs : s.cells.Formed) :
    (ephsUnit s h q n g).cells.Formed :=
  formed_foldl (fun _ _ hs => formed_spadWrite hs) hs

theorem cells_recover {s t : State} {h : Nat} {q : BitVec 512} {n g j : Nat} (e : s.recover h q n g j = .ok t) : t.cells = s.cells := by
  unfold State.recover at e
  dsimp only at e
  split at e
  · split at e
    · cases e
      simp
    · cases e
  · cases e
    simp
  · cases e

theorem cells_sbpSlots {h : Nat} {q : BitVec 512} {n g : Nat} {t : State} :
    ∀ (js : List Nat) {s : State}, s.sbpSlots h q n g js = .ok t → t.cells = s.cells
  | [], _, e => by cases e; rfl
  | j :: js, s, e => by
    rw [State.sbpSlots] at e
    split at e
    · cases e
    · split at e
      · split at e
        · next u hu => rw [cells_sbpSlots js e, cells_recover hu]
        · cases e
      · exact cells_sbpSlots js e

@[simp] theorem cells_sbpUnit (s : State) (h z : Nat) (qa qb : BitVec 512) (shape : Word) (g : Nat) :
    (sbpUnit s h z qa qb shape g).cells = s.cells := by
  simp [sbpUnit]

/-! ### Machine/Transform.lean -/

@[simp] theorem formed_putCx {s : State} {h : Nat} {f : NFmt} {off : Nat} {x : Cx} (hs : s.cells.Formed) :
    (s.putCx h f off x).cells.Formed :=
  formed_spadWrite hs

@[simp] theorem formed_fftUnit {s : State} {h rad : Nat} {qa qb : BitVec 512} {shape : Word} {inv : Bool} {mode b : Nat}
    (hs : s.cells.Formed) : (fftUnit s h rad qa qb shape inv mode b).cells.Formed := by
  refine formed_foldl (fun u j hu => ?_) hs
  dsimp only
  split
  rw [cells_modRes]
  exact formed_foldl (fun _ _ hv => formed_putCx hv) hu

@[simp] theorem formed_legiUnit {s : State} {h : Nat} {qa qb : BitVec 512} {shape : Word} {l : Nat} (hs : s.cells.Formed) :
    (legiUnit s h qa qb shape l).cells.Formed := by
  simp [legiUnit, hs]

@[simp] theorem cells_putCoef (s : State) (t z : Nat) (f : NFmt) (d : Nat) (x : Cx) : (State.putCoef s t z f d x).cells = s.cells := by
  simp [State.putCoef]

@[simp] theorem formed_legUnit {s : State} {h z : Nat} {qa qb : BitVec 512} {shape : Word} {syn zi : Bool} {d : Nat} (hs : s.cells.Formed) :
    (legUnit s h z qa qb shape syn zi d).cells.Formed := by
  refine formed_spadWrite (formed_foldl (fun u l hu => ?_) (formed_foldl (fun u l hu => ?_) ?_))
  · dsimp only
    split
    rw [cells_modRes]
    exact formed_spadWrite hu
  · dsimp only
    split
    rw [cells_modRes]
    split <;> simp [hu]
  · split
    · split
      · exact formed_foldl (fun _ _ hu => formed_putCx hu) hs
      · simp [hs]
    · exact hs

/-! ### Machine/Matrix.lean -/

@[simp] theorem cells_startDp (s : State) (h : Nat) (d : DataPath) : (State.startDp s h d).cells = s.cells := by rfl
@[simp] theorem cells_contDp (s : State) (h : Nat) : (State.contDp s h).cells = s.cells := by rfl

theorem formed_dpUnit {s t : State} {h : Nat} {d : DataPath} (hs : s.cells.Formed) (e : s.dpUnit h d = .ok t) : t.cells.Formed := by
  unfold State.dpUnit at e
  dsimp only at e
  split at e
  case h_3 =>
    split at e
    · next u hu =>
      cases e
      rw [cells_sbpUnit, cells_sbpSlots _ hu]
      split <;> simp [hs]
    · cases e
  all_goals cases e; simp [hs]

@[simp] theorem formed_matProgress {s : State} {t : Nat} (h : s.cells.Formed) : (s.matProgress t).cells.Formed := by
  unfold State.matProgress
  split
  · exact h
  · split
    · exact h
    · split
      · next e => simp [formed_dpUnit h e]
      · simp [h]

@[simp] theorem cells_dpFinish (s : State) (h : Nat) (i : Instr) : (State.dpFinish s h i).cells = s.cells := by
  unfold State.dpFinish
  split <;> simp

/-! ### Machine/Copy.lean -/

@[simp] theorem cells_arm (x : Xfer) (s : State) (h : Nat) : (Xfer.arm x s h).cells = s.cells := by
  unfold Xfer.arm
  split <;> simp

@[simp] theorem formed_xfStop {s : State} {h : Nat} {x : Xfer} {va : Nat} {a : Acc} {e : Trans} (hs : s.cells.Formed) :
    (s.xfStop h x va a e).cells.Formed := by
  cases e <;> simp [State.xfStop, hs]

@[simp] theorem formed_pushUnits {s : State} {h : Nat} {x : Xfer} {g : Gran} {load : Bool} {l : List (Nat × Nat × Nat × Target)}
    (hs : s.cells.Formed) : (s.pushUnits h x g load l).cells.Formed :=
  formed_foldl (fun _ _ hu => by simp [hu]) hs

@[simp] theorem cells_mix (s : State) (h : Nat) (x : Xfer) (g : Gran) : (s.mix h x g).1.cells = s.cells := by
  unfold State.mix
  split <;> simp

@[simp] theorem cells_setXf (s : State) (h : Nat) (x : Xfer) : (State.setXf s h x).cells = s.cells := by rfl

theorem cells_granRead {s t : State} {h : Nat} {x : Xfer} {g : Gran} (e : s.granRead h x g = some t) : t.cells = s.cells := by
  unfold State.granRead at e
  (repeat' split at e) <;> cases e <;> simp

@[simp] theorem cells_granReady (s : State) (h : Nat) (x : Xfer) (g : Gran) : (s.granReady h x g).cells = s.cells := by
  rw [State.granReady, ← cells_mix s h x g]
  rcases s.mix h x g with ⟨t, y, z⟩
  simp

@[simp] theorem cells_granDone (s : State) (h : Nat) (x : Xfer) (g : Gran) : (State.granDone s h x g).cells = s.cells := by
  unfold State.granDone
  split <;> simp

theorem formed_granStep {s t : State} {h : Nat} {x : Xfer} {g : Gran} {oldest : Bool} (hs : s.cells.Formed)
    (e : s.granStep h x g oldest = some t) : t.cells.Formed := by
  unfold State.granStep at e
  dsimp only at e
  split at e
  · split at e
    · cases e
    · split at e
      · split at e <;> cases e <;> simp [hs]
      · split at e <;> cases e
        simp [hs]
  · split at e
    · cases e
      simp [hs]
    · rw [cells_granRead e]
      exact hs

@[simp] theorem formed_granStart {s : State} {h : Nat} {x : Xfer} (hs : s.cells.Formed) : (s.granStart h x).cells.Formed := by
  unfold State.granStart
  dsimp only
  split
  · exact hs
  · split
    · split <;> simp [hs]
    · split
      · split <;> simp [hs]
      · split
        · split
          · split <;> simp [hs]
          · simp [hs]
        · split
          · split <;> simp [hs]
          · simp [hs]
        · split
          · exact hs
          · split <;> simp [hs]

theorem formed_granAny {s t : State} {h : Nat} {x : Xfer} (hs : s.cells.Formed) :
    ∀ (l : List Gran) {oldest : Bool}, s.granAny h x oldest l = some t → t.cells.Formed
  | [], _, e => by simp [State.granAny] at e
  | g :: gs, oldest, e => by
    rw [State.granAny] at e
    split at e
    · next u hu =>
        cases e
        exact formed_granStep hs hu
    · exact formed_granAny hs gs e

@[simp] theorem formed_copyProgress {s : State} {t : Nat} (h : s.cells.Formed) : (s.copyProgress t).cells.Formed := by
  unfold State.copyProgress
  split
  · exact h
  · split
    · exact h
    · exact formed_getD (fun _ e => formed_granAny h _ e) (formed_granStart h)

@[simp] theorem cells_preemptStop (s : State) (t : Nat) (e : Eng) : (State.preemptStop s t e).cells = s.cells := by
  unfold State.preemptStop
  split <;> simp

/-! ### Machine/Registers.lean -/

@[simp] theorem cells_writeLlcpin (s : State) (q : Nat) (v : Word) : (State.writeLlcpin s q v).cells = s.cells := by rfl
@[simp] theorem cells_writeDvfs (s : State) (d : Nat) (v : Word) : (State.writeDvfs s d v).cells = s.cells := by rfl

@[simp] theorem cells_writePcap (s : State) (v : Word) : (State.writePcap s v).cells = s.cells := by
  simp [State.writePcap]

@[simp] theorem cells_writePortctl (s : State) (p : Nat) (v : Word) : (State.writePortctl s p v).cells = s.cells := by
  simp [State.writePortctl]

@[simp] theorem cells_writeLremap (s : State) (v : Word) : (State.writeLremap s v).cells = s.cells := by
  simp [State.writeLremap]

@[simp] theorem cells_writeTlatch (s : State) : (State.writeTlatch s).cells = s.cells := by rfl

@[simp] theorem cells_writeCr (s : State) (size : Bool) (v : Word) : (State.writeCr s size v).cells = s.cells := by
  simp [State.writeCr]

@[simp] theorem cells_writeCounter (s : State) (off : Nat) (v : Word) : (State.writeCounter s off v).cells = s.cells := by rfl

@[simp] theorem cells_cfgSetByte (s : State) (off : Nat) (b : Byte) : (State.cfgSetByte s off b).cells = s.cells := by
  simp [State.cfgSetByte]

@[simp] theorem cells_cfgSetWord (s : State) (off : Nat) (new v : Word) : (State.cfgSetWord s off new v).cells = s.cells := by
  unfold State.cfgSetWord
  split
  · simp
  · split
    · simp
    · split
      · simp
      · split
        · simp
        · split <;> simp

@[simp] theorem cells_cfgWrite (s : State) (cls off : Nat) (bs : List Byte) : (State.cfgWrite s cls off bs).cells = s.cells := by
  simp [State.cfgWrite]

/-! ### Machine/Events.lean -/

@[simp] theorem cells_setEvent (s : State) (k : Nat) (e : EventObj) : (State.setEvent s k e).cells = s.cells := by rfl

@[simp] theorem cells_postEvent (s : State) (hd : Word) (op : ROp) (keep : Bool) : (State.postEvent s hd op keep).cells = s.cells := by
  simp [State.postEvent]

@[simp] theorem cells_modRun (s : State) (g : Nat) (f : RunInst → RunInst) : (State.modRun s g f).cells = s.cells := by rfl
@[simp] theorem cells_modNode (s : State) (g n : Nat) (f : NodeRun → NodeRun) : (State.modNode s g n f).cells = s.cells := by rfl
@[simp] theorem cells_disarm (s : State) (g n : Nat) : (State.disarm s g n).cells = s.cells := by rfl

@[simp] theorem cells_failNode (s : State) (g n : Nat) : (State.failNode s g n).cells = s.cells := by
  unfold State.failNode
  split
  · simp
  · dsimp only
    split
    · simp
    · split <;> simp

@[simp] theorem cells_fireDep (s : State) (d : Dependant) : (State.fireDep s d).cells = s.cells := by rfl

@[simp] theorem cells_applyUpdate (s : State) (k : Nat) (op : ROp) (keep : Bool) : (State.applyUpdate s k op keep).cells = s.cells := by
  unfold State.applyUpdate
  split <;> simp

@[simp] theorem cells_peerCount (s : State) (hd count status : Word) (set cancel : Bool) :
    (State.peerCount s hd count status set cancel).cells = s.cells := by
  simp [State.peerCount]

@[simp] theorem cells_armPeer (s : State) (k : Nat) (hd : Word) (answer : Option (BitVec 128)) :
    (State.armPeer s k hd answer).cells = s.cells := by
  unfold State.armPeer
  dsimp only
  split <;> simp

/-! ### Machine/Owner.lean -/

@[simp] theorem cells_unpoison (s : State) (pa n : Nat) : (State.unpoison s pa n).cells = s.cells := by rfl

@[simp] theorem formed_commit {s : State} {cls pa : Nat} {bs : List Byte} (h : s.cells.Formed) : (s.commit cls pa bs).cells.Formed := by
  simp [State.commit, h]

@[simp] theorem cells_filled (s : State) (die : Option Nat) (pa : Nat) : (State.filled s die pa).cells = s.cells := by
  unfold State.filled
  split <;> simp

@[simp] theorem cells_setAg (s : State) (sl : Nat) (l : List AgEntry) : (State.setAg s sl l).cells = s.cells := by rfl

@[simp] theorem cells_ackTo (s : State) (pkg : BitVec 10) (asid : BitVec 14) (ni : BitVec 24) (tn : BitVec 20) (ct : BitVec 32) :
    (State.ackTo s pkg asid ni tn ct).cells = s.cells := by
  unfold State.ackTo
  dsimp only
  split <;> simp

@[simp] theorem cells_retireAllOf (s : State) (pkg : BitVec 10) (asid : BitVec 14) (ni : BitVec 24) (tn : BitVec 20) :
    (State.retireAllOf s pkg asid ni tn).cells = s.cells := by rfl

@[simp] theorem cells_respond (s : State) (q : RReq) (st : RStatus) (result : BitVec 128) (data : List Byte) :
    (State.respond s q st result data).cells = s.cells := by
  simp [State.respond]

@[simp] theorem cells_agDone (s : State) (sl : Nat) (q : RReq) (st : RStatus) (result : BitVec 128) :
    (State.agDone s sl q st result).cells = s.cells := by
  unfold State.agDone
  split <;> simp

@[simp] theorem cells_finish (s : State) (sl : Nat) (q : RReq) (st : RStatus) (result : BitVec 128) (data : List Byte) :
    (State.finish s sl q st result data).cells = s.cells := by
  simp [State.finish]

@[simp] theorem cells_performCohort (s : State) (sl : Nat) (q : RReq) (fn : BitVec 2) (hd : Word) :
    (State.performCohort s sl q fn hd).cells = s.cells := by
  unfold State.performCohort
  split
  · simp
  · split
    · dsimp only
      split <;> simp
    · simp
    · simp
    · split <;> simp

@[simp] theorem formed_perform {s : State} {sl : Nat} {q : RReq} (h : s.cells.Formed) : (s.perform sl q).cells.Formed := by
  unfold State.perform
  split
  · split
    · split <;> simp [h]
    · dsimp only
      split
      · simp [h]
      · rw [cells_mk]
        exact formed_fput_hruns h fun r e => by cases e; exact ⟨List.Pairwise.nil, by simp [startRun]⟩
  all_goals simp [h]

@[simp] theorem formed_ownerTakes {s : State} {k : Nat} {q : RReq} (h : s.cells.Formed) : (s.ownerTakes k q).cells.Formed := by
  unfold State.ownerTakes
  cases q.ct <;> dsimp only
  all_goals
    refine formed_of_ite (fun _ => h) fun _ => formed_of_ite (fun _ => by simp [h]) fun _ => ?_
    split
    · exact formed_of_ite (fun _ => by simp [h]) fun _ => by simp [h]
    · refine formed_of_ite (fun _ => by simp [h]) fun _ => ?_
      split
      · exact formed_of_ite (fun _ => by simp [h]) fun _ => by simp [h]
      · refine formed_of_ite (fun _ => by simp [h]) fun _ => ?_
        split <;> simp [h]

@[simp] theorem cells_leaves (s : State) (k : Nat) (q : RReq) (o : ROut) : (State.leaves s k q o).cells = s.cells := by
  simp [State.leaves]

@[simp] theorem formed_hres {s : State} {sl : Nat} {r : HRun} {d : BitVec 4} {v : Word} (h : s.cells.Formed) (hr : r.Formed) :
    (hres s sl r d v).cells.Formed := by
  rw [hres, cells_mk]
  exact formed_fput_hruns h fun _ e => by cases e; exact hr

@[simp] theorem formed_endRun {s : State} {sl : Nat} {r : HRun} {commit : Bool} {st : RStatus} {result : BitVec 128} (h : s.cells.Formed) :
    (s.endRun sl r commit st result).cells.Formed := by
  unfold State.endRun
  rw [cells_finish, cells_mk]
  refine formed_fput_hruns ?_ fun _ e => by cases e
  split
  · exact formed_foldl (fun _ _ hu => formed_commit hu) h
  · exact h

/-! ### Machine/CollCore.lean -/

@[simp] theorem cells_setComm (s : State) (c : Nat) (x : Comm) : (State.setComm s c x).cells = s.cells := by rfl
@[simp] theorem cells_modComm (s : State) (c : Nat) (f : Comm → Comm) : (State.modComm s c f).cells = s.cells := by rfl

@[simp] theorem cells_collStop (s : State) (c cause : Nat) (va : Word) (wr : Bool) :
    (State.collStop s c cause va wr).cells = s.cells := by rfl

@[simp] theorem cells_collIllegal (s : State) (c : Nat) (word : Word) : (State.collIllegal s c word).cells = s.cells := by rfl
@[simp] theorem cells_collMemError (s : State) (c pa : Nat) (va : Word) : (State.collMemError s c pa va).cells = s.cells := by rfl

@[simp] theorem formed_markLeaf {s : State} {asid : BitVec 14} {va : Nat} {store : Bool} (h : s.cells.Formed) :
    (State.markLeaf s asid va store).cells.Formed := by
  unfold State.markLeaf
  split <;> simp [h]

@[simp] theorem formed_kTouch {s : State} {l : Option Tlb} {asid : BitVec 14} {va : Nat} {a : Acc} (h : s.cells.Formed) :
    (State.kTouch s l asid va a).cells.Formed := by
  unfold State.kTouch
  split <;> simp [h]

@[simp] theorem cells_kFault (s : State) (l : Option Tlb) (asid : BitVec 14) (va : Nat) : (State.kFault s l asid va).cells = s.cells := by
  unfold State.kFault
  split <;> simp

@[simp] theorem cells_setRec (s : State) (o : Owner) (path : BitVec 3) (m : FMap Byte) : (State.setRec s o path m).cells = s.cells := by rfl

@[simp] theorem cells_addRec (s : State) (o : Owner) (path : BitVec 3) (a : Nat) (bs : List Byte) :
    (State.addRec s o path a bs).cells = s.cells := by rfl

@[simp] theorem cells_dropRec (s : State) (o : Owner) (path : BitVec 3) (l : List (Nat × Nat)) :
    (State.dropRec s o path l).cells = s.cells := by rfl

@[simp] theorem cells_pushK (s : State) (o : Owner) (asid : BitVec 14) (store : Bool) (t : Target) (va n : Nat) (bs : List Byte)
    (nt : Bool) : (State.pushK s o asid store t va n bs nt).cells = s.cells := by
  simp [State.pushK]

theorem formed_accReadGo (o : Owner) (l : Option Tlb) (asid : BitVec 14) (cls : Nat) :
    ∀ (ps : List (Nat × Nat)) (s : State), s.cells.Formed → (s.accReadGo o l asid cls ps).state.cells.Formed
  | [], _, h => h
  | (va, n) :: ps, s, h => by
    have rest := formed_accReadGo o l asid cls ps
    have ht : (s.kTouch l asid va .load).cells.Formed := formed_kTouch h
    rw [State.accReadGo]
    split
    · have hr := rest s h
      split
      · next e =>
        rw [e] at hr
        exact hr
      · exact hr
    · split
      · have hr := rest s h
        split
        · next e =>
          rw [e] at hr
          exact hr
        · exact hr
      · split
        · exact ht
        · simpa using h
        · next t _ _ =>
          have hr := rest ((s.kTouch l asid va .load).pushK o asid false t va n [] false) (by simpa using ht)
          split
          · next e =>
            rw [e] at hr
            exact hr
          · exact hr

@[simp] theorem formed_accRead {s : State} {o : Owner} {l : Option Tlb} {asid : BitVec 14} {cls : Nat} {r : List (Nat × Nat)}
    (h : s.cells.Formed) : (s.accRead o l asid cls r).state.cells.Formed := by
  have hr := formed_accReadGo o l asid cls (readUnits 1 r) s h
  unfold State.accRead
  split
  · next e => simpa using PRes.formed_of_eq e hr
  · exact hr

@[simp] theorem formed_accKeep (s : State) (o : Owner) (l : Option Tlb) (asid : BitVec 14) (cls : Nat) (r : List (Nat × Nat))
    (h : s.cells.Formed) : (s.accKeep o l asid cls r).state.cells.Formed :=
  formed_accReadGo o l asid cls _ s h

@[simp] theorem formed_accWrite {s : State} {o : Owner} {l : Option Tlb} {asid : BitVec 14} {cls : Nat} {nt : Bool}
    {units : List (Nat × List Byte)} (h : s.cells.Formed) : (s.accWrite o l asid cls nt units).state.cells.Formed := by
  unfold State.accWrite
  split
  · simp [h]
  · simp [h]
  · split
    · exact h
    · exact formed_foldl (fun _ _ hu => by simp [hu]) h

@[simp] theorem formed_kEnd {c : Nat} {r : PRes} (h : r.state.cells.Formed) : (State.kEnd c r).state.cells.Formed := by
  cases r with
  | ok bs s => exact h
  | wait s => exact h
  | bad f s => simpa [State.kEnd] using h

@[simp] theorem formed_kRead {s : State} {c : Nat} {r : List (Nat × Nat)} (h : s.cells.Formed) : (s.kRead c r).state.cells.Formed :=
  formed_kEnd (formed_accRead h)

@[simp] theorem cells_spadFetch (s : State) (c tile : Nat) (r : List (Nat × Nat)) : (s.spadFetch c tile r).state.cells = s.cells := by
  unfold State.spadFetch
  dsimp only
  split <;> simp

@[simp] theorem formed_bufRead {s : State} {c : Nat} {scratch : Bool} {tile : Nat} {r : List (Nat × Nat)} (h : s.cells.Formed) :
    (s.bufRead c scratch tile r).state.cells.Formed := by
  unfold State.bufRead
  split <;> simp [h]

@[simp] theorem formed_bufWrite {s : State} {c : Nat} {scratch : Bool} {tile : Nat} {eights : List Nat} {r : List (Nat × Nat)}
    {bs : List Byte} (h : s.cells.Formed) : (s.bufWrite c scratch tile eights r bs).state.cells.Formed := by
  unfold State.bufWrite
  dsimp only
  split
  · exact formed_foldl (fun _ _ hu => formed_modTile hu fun _ => memWrite_wf _ _) h
  · simp [h]

/-! ### Machine/VectorCore.lean -/

@[simp] theorem cells_vNext (rp : Rp) (h g : Nat) (s : State) : (vNext rp h g s).cells = s.cells := by rfl

@[simp] theorem cells_vFault (rp : Rp) (h : Nat) (k : ParkKind) (f : FaultInfo) (s : State) : (vFault rp h k f s).cells = s.cells := by
  simp [vFault]

@[simp] theorem cells_vStateUse (rp : Rp) (h : Nat) (s : State) : (vStateUse rp h s).cells = s.cells := by
  simp [vStateUse]

@[simp] theorem cells_vPortFault (rp : Rp) (h q : Nat) (f : FaultRec) (s : State) : (vPortFault rp h q f s).cells = s.cells := by
  simp [vPortFault]

/-! ### Machine/VectorMem.lean -/

@[simp] theorem cells_beginVOp (s : State) (v : VOp) : (State.beginVOp s v).cells = s.cells := by rfl

@[simp] theorem formed_pushLanes {s : State} {h vop : Nat} {load : Bool} {data : VReg} {addr : Nat → Word} {lanes : List (Nat × Target)}
    (hs : s.cells.Formed) : (s.pushLanes h vop load data addr lanes).cells.Formed :=
  formed_foldl (fun _ _ hu => by simp [hu]) hs

@[simp] theorem cells_laneFault (s : State) (h va : Nat) : (State.laneFault s h va).cells = s.cells := by
  simp [State.laneFault]

@[simp] theorem cells_deliverVop (s : State) (v : VOp) : (State.deliverVop s v).cells = s.cells := by
  unfold State.deliverVop
  split <;> simp

/-! ### Machine/MemEvents.lean -/

@[simp] theorem cells_modVop (s : State) (id : Nat) (f : VOp → VOp) : (State.modVop s id f).cells = s.cells := by rfl

@[simp] theorem cells_laneDone (s : State) (id i n : Nat) (bs : List Byte) : (State.laneDone s id i n bs).cells = s.cells := by
  unfold State.laneDone
  split <;> simp

@[simp] theorem cells_laneFail (s : State) (id i n : Nat) (f : FaultInfo) : (State.laneFail s id i n f).cells = s.cells := by
  unfold State.laneFail
  split <;> simp

@[simp] theorem cells_giveUp (s : State) (h : Nat) (g : GAcc) : (s.giveUp h g).cells = s.cells :=
  cells_foldl _ _ (fun _ _ => cells_modRes ..) s

@[simp] theorem cells_failAcc (s : State) (g : GAcc) (st : RStatus) : (State.failAcc s g st).cells = s.cells := by
  unfold State.failAcc
  split
  · simp
  · split <;> simp
  · simp
  · split <;> simp
  · simp

@[simp] theorem cells_loadDone (s : State) (g : GAcc) (bs : List Byte) : (State.loadDone s g bs).cells = s.cells := by
  unfold State.loadDone
  split
  · split <;> simp
  · split <;> simp
  · simp
  · split <;> simp
  · split <;> simp
  all_goals simp

@[simp] theorem cells_sendAccess (s : State) (g : GAcc) : (State.sendAccess s g).cells = s.cells := by
  simp [State.sendAccess]

@[simp] theorem cells_pinOf (s : State) (g : GAcc) : (State.pinOf s g).cells = s.cells := by
  simp [State.pinOf]

@[simp] theorem cells_performLoad (s : State) (g : GAcc) (host : List Byte) : (State.performLoad s g host).cells = s.cells := by
  unfold State.performLoad
  split <;> simp

@[simp] theorem cells_post (s : State) (g : GAcc) (pa : Nat) (bs : List Byte) (ro : Bool) :
    (State.post s g pa bs ro).cells = s.cells := by rfl

@[simp] theorem cells_storeDone (s : State) (g : GAcc) : (State.storeDone s g).cells = s.cells := by
  unfold State.storeDone
  split <;> simp

@[simp] theorem formed_commitStore {s : State} {g : GAcc} (h : s.cells.Formed) : (s.commitStore g).cells.Formed := by
  unfold State.commitStore
  dsimp only
  split
  · rw [cells_mk, cells_eta]
    exact formed_foldl (fun _ _ hu => by simp [hu]) h
  · simp [h]

@[simp] theorem formed_performStore {s : State} {g : GAcc} (h : s.cells.Formed) : (s.performStore g).cells.Formed := by
  unfold State.performStore
  split
  · next e =>
    split at e
    · rw [cells_releaseFlush e]
      exact h
    · cases e
  · split
    · split <;> simp [h]
    · split <;> simp [h]

@[simp] theorem formed_laneAgain {s : State} {v : VOp} {i a : Nat} (h : s.cells.Formed) : (State.laneAgain s v i a).cells.Formed := by
  unfold State.laneAgain
  split
  · dsimp only
    split <;> simp [h]
  · dsimp only
    split <;> simp [h]

@[simp] theorem formed_performLane {s : State} {id i : Nat} {host : BitVec 32} (h : s.cells.Formed) :
    (s.performLane id i host).cells.Formed := by
  unfold State.performLane
  split
  · exact h
  · split
    · exact h
    · dsimp only
      split
      · split
        · exact h
        · split
          · simp [h]
          · rw [cells_laneDone]
            exact formed_modTile h fun _ => memWrite_wf _ _
      · split
        · exact h
        · split <;> simp [h]
      · split
        · simp [h]
        · split
          · exact h
          · split
            · split <;> simp [h]
            · simp [h]

@[simp] theorem cells_report (s : State) (v : VOp) : (State.report s v).cells = s.cells := by
  unfold State.report
  split
  · split <;> split <;> simp
  · split <;> simp

@[simp] theorem formed_streamStop {s : State} {h q va : Nat} {a : Acc} {e : Trans} (hs : s.cells.Formed) :
    (s.streamStop h q va a e).cells.Formed := by
  cases e <;> simp [State.streamStop, hs]

@[simp] theorem formed_pushStream {s : State} {h q : Nat} {load : Bool} {data : VReg} {l : List (Nat × Nat × Target)}
    (hs : s.cells.Formed) : (s.pushStream h q load data l).cells.Formed :=
  formed_foldl (fun _ _ hu => by simp [hu]) hs

@[simp] theorem cells_remoteResult (s : State) (o : ROut) (x : RResp) : (State.remoteResult s o x).cells = s.cells := by
  unfold State.remoteResult
  split
  · split <;> simp
  · split <;> simp
  · simp
  · split <;> simp
  all_goals simp

@[simp] theorem cells_remoteFails (s : State) (o : ROut) (st : RStatus) : (State.remoteFails s o st).cells = s.cells := by
  unfold State.remoteFails
  split
  · split
    · split <;> simp
    · simp
  · simp
  · split <;> simp
  · split
    case h_2 => split <;> simp
    all_goals simp

@[simp] theorem cells_answered (s : State) (o : ROut) (x : RResp) : (State.answered s o x).cells = s.cells := by
  unfold State.answered
  split
  · split <;> simp
  · split <;> simp
  · split
    · split <;> split <;> simp
    · split <;> simp
  · split <;> simp

@[simp] theorem cells_resend (s : State) (o : ROut) (q : RReq) : (State.resend s o q).cells = s.cells := by
  simp [State.resend]

/-! ### Machine/Collective.lean -/

@[simp] theorem cells_collResult (w : Who) (x : BitVec 6) (v : Word) (s : State) : (collResult w x v s).cells = s.cells := by
  simp [collResult]

@[simp] theorem cells_ccommForm (s : State) (h : Nat) (bs : List Byte) (rank size : Nat) (pkgs : FMap (BitVec 10)) :
    (s.ccommForm h bs rank size pkgs).1.cells = s.cells := by
  unfold State.ccommForm
  dsimp only
  split
  · rfl
  · split <;> simp

@[simp] theorem cells_sendChunk (s : State) (pkg : BitVec 10) (ch : Chunk) : (State.sendChunk s pkg ch).cells = s.cells := by
  simp [State.sendChunk]

@[simp] theorem cells_sendCredit (s : State) (pkg : BitVec 10) (m : CreditMsg) (cls : BitVec 2) :
    (State.sendCredit s pkg m cls).cells = s.cells := by
  simp [State.sendCredit]

@[simp] theorem cells_tell (s : State) (x : Comm) (rank : Nat) (m : Nat → Nat → CreditMsg) : (State.tell s x rank m).cells = s.cells := by
  simp [State.tell]

@[simp] theorem cells_bindWaiting (c n : Nat) (s : State) : (State.bindWaiting c n s).cells = s.cells := by
  induction n generalizing s with
  | zero => rfl
  | succ n ih =>
    rw [State.bindWaiting]
    dsimp only
    split
    · rfl
    · split
      · rfl
      · rw [ih, cells_tell, cells_setComm]

@[simp] theorem cells_release (s : State) (c sender : Nat) : (s.release c sender).cells = s.cells := by
  rw [State.release, cells_bindWaiting, cells_tell, cells_setComm]

@[simp] theorem cells_freeChunkEntries (s : State) (c : Nat) (l : List (BitVec 10 × Serial)) :
    (State.freeChunkEntries s c l).cells = s.cells := by
  simp [State.freeChunkEntries]

@[simp] theorem cells_startComm (s : State) (c : Nat) (ident : BitVec 84) (by_ : Owner) (bs : List Byte) (prog : List (BitVec 64))
    (ds : List (BitVec 256)) : (State.startComm s c ident by_ bs prog ds).cells = s.cells := by
  simp [State.startComm]

@[simp] theorem formed_descRead {s : State} {c b lo n : Nat} (h : s.cells.Formed) : (s.descRead c b lo n).state.cells.Formed :=
  formed_bufRead h

@[simp] theorem formed_chunkData (s : State) (c : Nat) (st : SendStream) (h : s.cells.Formed) :
    (s.chunkData c st).1.state.cells.Formed := by
  unfold State.chunkData
  dsimp only
  split
  · exact formed_descRead h
  · split
    · next e => exact KRes.formed_of_eq_ok e (formed_descRead h)
    · exact formed_descRead h
  · split <;> exact h
  · split
    · exact formed_bufRead h
    · exact h

@[simp] theorem cells_clearDeficits (s : State) (q : Nat) : (State.clearDeficits s q).cells = s.cells := by rfl

@[simp] theorem cells_collEnd (s : State) (c : Nat) : (State.collEnd s c).cells = s.cells := by
  simp [State.collEnd]

@[simp] theorem cells_stepDone (s : State) (c : Nat) : (s.stepDone c).cells = s.cells := by
  rw [State.stepDone, cells_collEnd, cells_bindWaiting, cells_modComm, cells_freeChunkEntries]

theorem cells_collArm {s t : State} {x : Comm} {tile ch : Nat} {scratch : Bool} {a n : Nat} (e : s.collArm x tile ch scratch a n = some t) :
    t.cells = s.cells := by
  unfold State.collArm at e
  dsimp only at e
  (repeat' split at e) <;> cases e <;> simp

@[simp] theorem cells_collMark (s : State) (c tile ch a : Nat) (fill : Bool) : (State.collMark s c tile ch a fill).cells = s.cells := by
  simp [State.collMark]

@[simp] theorem cells_beginStep (s : State) (c : Nat) (p : StepRun) : (State.beginStep s c p).cells = s.cells := by rfl
@[simp] theorem cells_collBad (s : State) (c cause : Nat) : (State.collBad s c cause).cells = s.cells := by rfl

@[simp] theorem cells_useChunk (s : State) (c : Nat) (ch : Chunk) : (State.useChunk s c ch).cells = s.cells := by
  unfold State.useChunk
  dsimp only
  split <;> simp

@[simp] theorem formed_formPos {s : State} {c : Nat} {p : StepRun} {n : Nat} {out onward : List Byte} {eights : List Nat} {fl : Flg}
    {miss : BitVec 64} (h : s.cells.Formed) : (s.formPos c p n out onward eights fl miss).state.cells.Formed := by
  have hw : ∀ sc tile r, (if p.kind = .rrs then KRes.ok [] s else s.bufWrite c sc tile eights r out).state.cells.Formed := by
    intro sc tile r
    split <;> simp [h]
  unfold State.formPos
  dsimp only
  split
  · next e => simpa using KRes.formed_of_eq_ok e (hw _ _ _)
  · exact hw _ _ _

@[simp] theorem formed_takeChunk {s : State} {c : Nat} {p : StepRun} {ch : Chunk} (h : s.cells.Formed) :
    (s.takeChunk c p ch).state.cells.Formed := by
  have hd : ∀ n, (match p.kind with | .rrs | .rrf => s.descRead c p.buf (p.lo + p.off) n | _ => KRes.ok [] s).state.cells.Formed := by
    intro n
    split <;> simp [h]
  unfold State.takeChunk
  dsimp only
  split
  · simp [h]
  · split
    · next e =>
      have hu := KRes.formed_of_eq_ok e (hd _)
      split
      · next e' =>
        have hv := KRes.formed_of_eq_ok e' (formed_formPos hu)
        simp only [KRes.state_ok]
        split <;> simp [hv]
      · exact formed_formPos hu
    · exact hd _

@[simp] theorem formed_copyPart {s : State} {c : Nat} {p : StepRun} {scratch : Bool} {tile : Nat} {src : Nat → List (Nat × Nat)}
    {left : Nat} (h : s.cells.Formed) : (s.copyPart c p scratch tile src left).state.cells.Formed := by
  unfold State.copyPart
  dsimp only
  split
  · next e => exact formed_formPos (KRes.formed_of_eq_ok e (formed_bufRead h))
  · exact formed_bufRead h

@[simp] theorem cells_stepMark (s : State) (c : Nat) (fill : Bool) : (State.stepMark s c fill).cells = s.cells := by
  unfold State.stepMark
  dsimp only
  split <;> simp

@[simp] theorem formed_flushPos {s : State} {c : Nat} {p : StepRun} (h : s.cells.Formed) : (s.flushPos c p).state.cells.Formed := by
  unfold State.flushPos
  dsimp only
  split
  · next e =>
    have hu := KRes.formed_of_eq_ok e (formed_descRead h)
    split
    · next e' =>
      rw [KRes.state_ok, cells_modComm]
      refine KRes.formed_of_eq_ok e' ?_
      split <;> exact formed_formPos hu
    · split <;> exact formed_formPos hu
  · exact formed_descRead h

@[simp] theorem formed_recvProgress {s : State} {c : Nat} {p : StepRun} (h : s.cells.Formed) : (s.recvProgress c p).cells.Formed := by
  unfold State.recvProgress
  dsimp only
  split
  · split
    · split <;> simp [h]
    · split
      · simp [h]
      · split <;> simp [h]
    · split <;> simp [h]
  · split
    · exact h
    · split
      · simp [h]
      · split <;> simp [h]

@[simp] theorem cells_xposeMark (s : State) (c : Nat) (fill : Bool) : (State.xposeMark s c fill).cells = s.cells := by
  unfold State.xposeMark
  dsimp only
  split <;> simp

@[simp] theorem cells_xposeNext (s : State) (c : Nat) (p : StepRun) : (State.xposeNext s c p).cells = s.cells := by
  simp [State.xposeNext]

@[simp] theorem formed_xposeProgress {s : State} {c : Nat} {p : StepRun} (h : s.cells.Formed) : (s.xposeProgress c p).cells.Formed := by
  unfold State.xposeProgress
  dsimp only
  split
  · split <;> simp [h]
  · split
    · simp [h]
    · split
      · simp [h]
      · split <;> simp [h]

@[simp] theorem cells_refuse (s : State) (c : Nat) (ch : Chunk) (held : Bool) : (State.refuse s c ch held).cells = s.cells := by
  simp [State.refuse]

@[simp] theorem cells_refuseBusy (s : State) (c : Nat) (ch : Chunk) : (State.refuseBusy s c ch).cells = s.cells := by
  simp [State.refuseBusy]

@[simp] theorem cells_accept (s : State) (c : Nat) (ch : Chunk) : (State.accept s c ch).cells = s.cells := by
  simp [State.accept]

@[simp] theorem cells_passBack (s : State) (c : Nat) (ch : Chunk) : (State.passBack s c ch).cells = s.cells := by
  unfold State.passBack
  split
  · dsimp only
    split <;> simp
  · dsimp only
    split <;> simp

@[simp] theorem cells_storeChunk (s : State) (c : Nat) (ch : Chunk) (f : Comm → Comm) : (State.storeChunk s c ch f).cells = s.cells := by
  unfold State.storeChunk
  dsimp only
  split <;> simp

@[simp] theorem cells_placeChunk (s : State) (c : Nat) (ch : Chunk) : (State.placeChunk s c ch).cells = s.cells := by
  unfold State.placeChunk
  split
  · dsimp only
    split
    · simp
    · split <;> simp
  · dsimp only
    split
    · simp
    · split <;> simp

@[simp] theorem cells_chunkArrives (s : State) (c : Nat) (ch : Chunk) : (State.chunkArrives s c ch).cells = s.cells := by
  simp [State.chunkArrives]

@[simp] theorem cells_collResume (s : State) (c : Nat) : (s.collResume c).1.cells = s.cells := by
  unfold State.collResume
  split <;> simp

@[simp] theorem cells_collAbort (s : State) (c : Nat) : (State.collAbort s c).cells = s.cells := by
  unfold State.collAbort
  dsimp only
  split <;> split <;> simp

/-! ### Machine/Orrery.lean -/

@[simp] theorem formed_cmdDone {s : State} {status : Nat} {hd : Option Word} (h : s.cells.Formed) :
    (State.cmdDone s status hd).cells.Formed := by
  unfold State.cmdDone
  split <;> simp [h]

@[simp] theorem cells_setGraph (s : State) (g : Nat) (x : Graph) : (State.setGraph s g x).cells = s.cells := by rfl

theorem formed_ringRead {s : State} {asid : BitVec 14} {va n : Nat} {k : List Byte → State → State}
    (hk : ∀ bs u, u.cells.Formed → (k bs u).cells.Formed) (h : s.cells.Formed) : (s.ringRead asid va n k).cells.Formed := by
  have hr := formed_accKeep s ringOwner none asid 4 [(va, n)] h
  unfold State.ringRead
  cases e : s.accKeep ringOwner none asid 4 [(va, n)] <;> rw [e] at hr
  · exact hk _ _ hr
  · exact hr
  · exact formed_cmdDone hr

theorem formed_readImages {asid : BitVec 14} {k : List GNode → State → State} (hk : ∀ l u, u.cells.Formed → (k l u).cells.Formed) :
    ∀ (xs acc : List GNode) (s : State), s.cells.Formed → (State.readImages asid xs acc s k).cells.Formed
  | [], acc, s, h => hk _ _ h
  | x :: xs, acc, s, h => by
    rw [State.readImages]
    split
    · refine formed_ringRead (fun _ u hu => ?_) h
      split
      · exact formed_cmdDone hu
      · refine formed_ringRead (fun _ v hv => ?_) hu
        split
        · exact formed_cmdDone hv
        · exact formed_readImages hk xs _ v hv
    · exact formed_readImages hk xs _ s h

theorem formed_askEdges {s : State} {hds : List Word} {k : State → State} (hk : ∀ u, u.cells.Formed → (k u).cells.Formed)
    (h : s.cells.Formed) : (s.askEdges hds k).cells.Formed := by
  have hc := formed_countsOf s ringOwner 5 0 hds h
  unfold State.askEdges
  split
  · next e =>
      rw [e] at hc
      exact hc
  · next e =>
      rw [e] at hc
      exact hk _ hc
  · next e =>
      rw [e] at hc
      exact formed_cmdDone hc

@[simp] theorem cells_armEdge (s : State) (g n e : Nat) (edge : Word × Word) : (s.armEdge g n e edge).1.cells = s.cells := by
  unfold State.armEdge
  dsimp only
  split <;> split <;> simp

@[simp] theorem cells_armAll (s : State) (g : Nat) : (s.armAll g).cells = s.cells := by
  refine (cells_foldl _ _ (fun _ _ => cells_failNode ..) _).trans ?_
  refine cells_foldl_fst _ _ (fun x nx => ?_) _
  refine cells_foldl_fst _ _ (fun y ie => ?_) _
  exact cells_armEdge ..

@[simp] theorem cells_nodeRecord (s : State) (g : Nat) (f : FaultInfo) : (State.nodeRecord s g f).cells = s.cells := by rfl

@[simp] theorem cells_nodeFaults (s : State) (g n : Nat) (f : FaultInfo) : (State.nodeFaults s g n f).cells = s.cells := by
  simp [State.nodeFaults]

@[simp] theorem cells_orrCohort (s : State) (k : Nat) (fn : BitVec 2) (hd : Word) (id : BitVec 128) (n : Nat) (wait : Bool) :
    (State.orrCohort s k fn hd id n wait).cells = s.cells := by
  simp [State.orrCohort]

@[simp] theorem cells_joinGrid (s : State) (g n : Nat) (ni : BitVec 24) (x : GNode) : (State.joinGrid s g n ni x).cells = s.cells := by
  unfold State.joinGrid
  dsimp only
  split
  · simp
  · split
    · split <;> simp
    · simp

@[simp] theorem cells_signalDone (s : State) (x : GNode) (n : Nat) : (State.signalDone s x n).cells = s.cells := by
  simp [State.signalDone]

@[simp] theorem cells_raiseMsix (s : State) (v : Nat) : (State.raiseMsix s v).cells = s.cells := by rfl

@[simp] theorem cells_endInstance (s : State) (g : Nat) (cancelled : Bool) : (State.endInstance s g cancelled).cells = s.cells := by
  unfold State.endInstance
  split
  · dsimp only
    split
    · simp
    · split <;> simp
  · dsimp only
    split
    · simp
    · split <;> simp

@[simp] theorem cells_endReplay (s : State) (g : Nat) : (State.endReplay s g).cells = s.cells := by
  unfold State.endReplay
  split <;> simp

@[simp] theorem cells_nodeDone (s : State) (g n : Nat) (x : GNode) (state : BitVec 2) : (State.nodeDone s g n x state).cells = s.cells := by
  simp [State.nodeDone]

theorem formed_nodeRead {s : State} {g n : Nat} {l : Option Tlb} {cls va len : Nat} {k : List Byte → State → State}
    (hk : ∀ bs u, u.cells.Formed → (k bs u).cells.Formed) (h : s.cells.Formed) : (s.nodeRead g n l cls va len k).cells.Formed := by
  have hr := formed_accKeep s (nodeOwner g n) l (s.graph g).asid cls [(va, len)] h
  unfold State.nodeRead
  cases e : s.accKeep (nodeOwner g n) l (s.graph g).asid cls [(va, len)] <;> rw [e] at hr
  · exact hk _ _ hr
  · exact hr
  · simpa using hr

@[simp] theorem formed_collNode {s : State} {g n : Nat} {x : GNode} {ni : BitVec 24} {i : Nat} (h : s.cells.Formed) :
    (s.collNode g n x ni i).cells.Formed := by
  unfold State.collNode
  dsimp only
  refine formed_of_ite (fun _ => by simp [h]) fun _ => formed_nodeRead (fun bs u hu => ?_) h
  refine formed_of_ite (fun _ => by simp [hu]) fun _ => ?_
  split
  · simp [hu]
  · refine formed_of_ite (fun _ => hu) fun _ => formed_nodeRead (fun pb v hv => formed_nodeRead (fun db w hw => ?_) hv) hu
    refine formed_of_ite (fun _ => by simp [hw]) fun _ => ?_
    split
    · next e => exact formed_fst e (formed_countsOf _ _ _ _ _ hw)
    · next e => simpa using formed_fst e (formed_countsOf _ _ _ _ _ hw)
    · next e => simpa using formed_fst e (formed_countsOf _ _ _ _ _ hw)

@[simp] theorem cells_prefNode (s : State) (g n : Nat) (x : GNode) (r : RunInst) : (State.prefNode s g n x r).cells = s.cells := by
  simp [State.prefNode]

@[simp] theorem formed_copyNode {s : State} {g n : Nat} {x : GNode} {r : RunInst} {k : Nat} (h : s.cells.Formed) :
    (s.copyNode g n x r k).cells.Formed := by
  unfold State.copyNode
  dsimp only
  refine formed_of_ite (fun _ => by simp [h]) fun _ => formed_of_ite (fun _ => h) fun _ => formed_nodeRead (fun bs u hu => ?_) h
  split
  · next e => simpa using PRes.formed_of_eq e (formed_accWrite hu)
  · next e => exact PRes.formed_of_eq e (formed_accWrite hu)
  · next e => simpa using PRes.formed_of_eq e (formed_accWrite hu)

/-! ### Machine/Context.lean -/

@[simp] theorem cells_rehandle (s : State) (a b : Nat) : (State.rehandle s a b).cells = s.cells := by rfl
@[simp] theorem cells_dropOps (s : State) (h : Nat) : (State.dropOps s h).cells = s.cells := by rfl

@[simp] theorem cells_freeRes (s : State) (h : Nat) : (s.freeRes h).cells = s.cells := by
  refine (cells_foldl _ _ (fun _ _ => cells_modSvc ..) _).trans ((cells_foldl _ _ (fun u e => ?_) _).trans (cells_setRes ..))
  simp

@[simp] theorem cells_invalidateEph (s : State) (t : Nat) (win : BitVec 24) : (State.invalidateEph s t win).cells = s.cells := by
  simp [State.invalidateEph]

@[simp] theorem cells_lostRecord (s : State) (t : TaskRef) (tile h detail : Nat) :
    (State.lostRecord s t tile h detail).cells = s.cells := by rfl

@[simp] theorem cells_loseTask (s : State) (t : TaskRef) : (State.loseTask s t).cells = s.cells := by rfl

@[simp] theorem cells_contextLost (s : State) (h detail : Nat) : (State.contextLost s h detail).cells = s.cells := by
  unfold State.contextLost
  split <;> simp

@[simp] theorem cells_applyHeld (s : State) (h : Nat) (ok : HeldWrite → Bool) : (s.applyHeld h ok).cells = s.cells := by
  unfold State.applyHeld
  rcases heldSplit ok (s.res h).held with ⟨go, stay⟩
  exact (cells_foldl _ _ (fun _ _ => cells_modSvc ..) _).trans (cells_modRes ..)

@[simp] theorem formed_writeContext {s : State} {h : Nat} {t : TaskRef} {k : Nat} (hs : s.cells.Formed) :
    (s.writeContext h t k).cells.Formed := by
  unfold State.writeContext
  dsimp only
  rw [cells_freeRes, cells_mk, cells_eta, cells_rehandle, cells_invalidateEph]
  exact formed_commit hs

/-! ### Machine/Placement.lean -/

@[simp] theorem formed_placeOn {s : State} {t : TaskRef} {x : GNode} {h : Nat} {g : Grant} (hs : s.cells.Formed) :
    (s.placeOn t x h g).cells.Formed := by
  unfold State.placeOn
  dsimp only
  rw [cells_setRes, cells_mk, cells_eta]
  split
  · rw [cells_invalidateEph]
    exact formed_modTile hs fun _ => filter_wf _
  · exact formed_modTile hs fun _ => filter_wf _

@[simp] theorem cells_unwait (s : State) (t : TaskRef) (x : GNode) : (State.unwait s t x).cells = s.cells := by
  simp [State.unwait]

@[simp] theorem formed_argRead {s : State} {h i : Nat} (hs : s.cells.Formed) : (s.argRead h i).2.cells.Formed := by
  unfold State.argRead
  dsimp only
  split
  · exact hs
  · split
    · exact hs
    · split
      · split <;> exact hs
      · split
        · exact hs
        · simp [hs]

@[simp] theorem formed_argReads {s : State} {h : Nat} (hs : s.cells.Formed) : (s.argReads h).2.cells.Formed := by
  have fold : ∀ (l : List Nat) (x : List ArgWord × State), x.2.cells.Formed →
      (l.foldl (fun (acc : List ArgWord × State) i => let r := acc.2.argRead h i; (acc.1 ++ [r.1], r.2)) x).2.cells.Formed := by
    intro l
    induction l with
    | nil => exact fun _ hx => hx
    | cons i l ih => exact fun x hx => ih _ (formed_argRead hx)
  exact fold _ _ hs

@[simp] theorem cells_argsOver (s : State) (h : Nat) : (State.argsOver s h).cells = s.cells := by rfl

@[simp] theorem cells_argsDone (s : State) (h : Nat) (ws : List ArgWord) : (State.argsDone s h ws).cells = s.cells := by
  unfold State.argsDone
  dsimp only
  split <;> simp

@[simp] theorem cells_vacateRanks (s : State) (h : Nat) : (State.vacateRanks s h).cells = s.cells := by
  unfold State.vacateRanks
  dsimp only
  split <;> simp

@[simp] theorem cells_retireTask (s : State) (h : Nat) : (State.retireTask s h).cells = s.cells := by
  simp [State.retireTask]

@[simp] theorem cells_reserve (s : State) (h : Nat) (t : TaskRef) (x : GNode) : (State.reserve s h t x).cells = s.cells := by
  simp [State.reserve]

@[simp] theorem cells_countTask (s : State) (t : TaskRef) (x : GNode) : (State.countTask s t x).cells = s.cells := by
  unfold State.countTask
  split <;> simp

@[simp] theorem cells_fenceSaved (s : State) (t : SavedTask) : (State.fenceSaved s t).cells = s.cells := by
  simp [State.fenceSaved]

@[simp] theorem cells_fenceRes (s : State) (h : Nat) : (State.fenceRes s h).cells = s.cells := by
  unfold State.fenceRes
  split
  · simp
  · dsimp only
    split
    · simp
    · split <;> simp

@[simp] theorem formed_fenceDie {s : State} {d : Nat} (h : s.cells.Formed) : (s.fenceDie d).cells.Formed := by
  have hc : ∀ u : State, u.cells.Formed → ∀ p : Nat → Bool, (Cells.mk u.mem (spads (u.tiles.filter fun kt => p kt.1)) u.hruns).Formed := by
    intro u hu p
    refine ⟨hu.mem, fun k => ?_, hu.runs⟩
    show Memory.wf (spads (u.tiles.filter fun kt => p kt.1) k) = true
    rw [spads_filter]
    split
    · exact hu.spad k
    · rfl
  unfold State.fenceDie
  dsimp only
  rw [cells_mk]
  refine hc _ ?_ fun t => !decide (t / 72 = d)
  rw [cells_foldl _ _ (fun _ _ => cells_fenceSaved ..), cells_foldl _ _ (fun _ _ => cells_fenceRes ..)]
  exact h

@[simp] theorem formed_writeDiectl {s : State} {d : Nat} {v : Word} (h : s.cells.Formed) : (State.writeDiectl s d v).cells.Formed := by
  simp [State.writeDiectl, h]

/-! ### Machine/Supervisor.lean -/

@[simp] theorem cells_supvResult (c : Nat) (d : BitVec 6) (st : Nat) (s : State) : (supvResult c d st s).cells = s.cells := by rfl

@[simp] theorem formed_reissueCreg {s : State} {h : Nat} {g : GAcc} (hs : s.cells.Formed) : (s.reissueCreg h g).cells.Formed := by
  unfold State.reissueCreg
  cases s.accessRout g.id <;> dsimp only <;> split <;> simp [hs]

@[simp] theorem formed_retryRemote {s : State} {h : Nat} {e : Eng} {id : Nat} (hs : s.cells.Formed) :
    (s.retryRemote h e id).cells.Formed := by
  unfold State.retryRemote
  simp only [cells_ite, cells_modPrg, ite_self]
  split
  · simp [hs]
  · split
    · simp [hs]
    · split <;> simp [hs]

@[simp] theorem cells_skipRemote (s : State) (id : Nat) : (State.skipRemote s id).cells = s.cells := by
  unfold State.skipRemote
  split
  · simp
  · split <;> simp

@[simp] theorem cells_retryVop (s : State) (v : VOp) : (State.retryVop s v).cells = s.cells := by
  simp [State.retryVop]

@[simp] theorem cells_skipVop (s : State) (v : VOp) : (State.skipVop s v).cells = s.cells := by
  simp [State.skipVop]

@[simp] theorem cells_skipPart (s : State) (h : Nat) : (State.skipPart s h).cells = s.cells := by
  unfold State.skipPart
  split <;> simp

@[simp] theorem cells_abandon (s : State) (h : Nat) (e : Eng) : (State.abandon s h e).cells = s.cells := by
  unfold State.abandon
  split
  · simp
  · split <;> simp
  · simp

@[simp] theorem formed_retryPark {s : State} {h : Nat} {e : Eng} {p : Park} (hs : s.cells.Formed) :
    (State.retryPark s h e p).cells.Formed := by
  unfold State.retryPark
  split
  case h_4 => split <;> simp [hs]
  all_goals simp [hs]

@[simp] theorem cells_skipWait (s : State) (h : Nat) (e : Eng) (x : Wait) : (State.skipWait s h e x).cells = s.cells := by
  unfold State.skipWait
  split
  · split <;> simp
  all_goals simp

@[simp] theorem cells_skipPark (s : State) (h : Nat) (e : Eng) (p : Park) : (State.skipPark s h e p).cells = s.cells := by
  unfold State.skipPark
  split
  case h_5 => split <;> simp
  all_goals simp

@[simp] theorem formed_resume {s : State} {h : Nat} {e : Eng} {skip : Bool} (hs : s.cells.Formed) : (s.resume h e skip).1.cells.Formed := by
  unfold State.resume
  dsimp only
  split
  · split
    · exact hs
    · dsimp only
      split <;> simp [hs]
  · exact hs

@[simp] theorem cells_teardown (s : State) (h : Nat) : (s.teardown h).cells = s.cells := by
  refine (cells_foldl _ _ (fun u e => ?_) _).trans ?_
  · simp
  · rw [cells_mk, cells_eta, cells_modRes, cells_abandon, cells_abandon]

@[simp] theorem cells_retarget (s : State) (g : GAcc) (t : Target) : (State.retarget s g t).cells = s.cells := by
  unfold State.retarget
  split <;> simp

@[simp] theorem formed_retranslate {s : State} {may : BitVec 14 → Nat → Bool} (h : s.cells.Formed) : (s.retranslate may).cells.Formed :=
  formed_foldl (fun _ _ hu => by split <;> simp [hu]) h

@[simp] theorem cells_unpin (s : State) (may : BitVec 14 → Nat → Bool) : (State.unpin s may).cells = s.cells := by rfl

/-! ### Machine/Fabric.lean -/

@[simp] theorem cells_drainPort (s : State) (k n : Nat) : (State.drainPort s k n).cells = s.cells := by
  simp [State.drainPort]

@[simp] theorem cells_drainPorts (s : State) (n : Nat) : (State.drainPorts s n).cells = s.cells := by
  simp [State.drainPorts]

@[simp] theorem cells_packetLost (s : State) (p : Packet) : (State.packetLost s p).cells = s.cells := by
  unfold State.packetLost
  split
  · split <;> simp
  · split <;> simp
  · simp

@[simp] theorem cells_dropUnacked (s : State) (peer : BitVec 10) (u : Unacked) : (State.dropUnacked s peer u).cells = s.cells := by rfl

@[simp] theorem cells_transmitAgain (s : State) (peer : BitVec 10) (u : Unacked) (avoid : List Nat) :
    (State.transmitAgain s peer u avoid).cells = s.cells := by
  unfold State.transmitAgain
  split
  · dsimp only
    split <;> simp
  · dsimp only
    split <;> simp

@[simp] theorem cells_sendWaiting (peer : BitVec 10) (n : Nat) (s : State) : (State.sendWaiting peer n s).cells = s.cells := by
  induction n generalizing s with
  | zero => rfl
  | succ n ih =>
    rw [State.sendWaiting]
    split
    · rfl
    · split
      · rw [ih, cells_sendNow, cells_setTransport]
      · rfl

@[simp] theorem cells_routeLost (s : State) (peer : BitVec 10) (seq : BitVec 32) (at_ : Option (BitVec 10)) :
    (State.routeLost s peer seq at_).cells = s.cells := by
  unfold State.routeLost
  split <;> simp

@[simp] theorem cells_covered1 (s : State) (peer : BitVec 10) (p : Packet) : (State.covered1 s peer p).cells = s.cells := by
  unfold State.covered1
  split <;> simp

@[simp] theorem cells_ackPackets (s : State) (peer : BitVec 10) (cum : BitVec 32) (sel : BitVec 64) :
    (s.ackPackets peer cum sel).cells = s.cells := by
  unfold State.ackPackets
  dsimp only
  rw [cells_sendWaiting, cells_foldl _ _ (fun _ _ => cells_covered1 ..), cells_setTransport]

@[simp] theorem cells_takePart (s : State) (c : Chunk) (i n : Nat) : (State.takePart s c i n).cells = s.cells := by
  simp [State.takePart]

@[simp] theorem cells_deliver (s : State) (p : Packet) : (State.deliver s p).cells = s.cells := by
  unfold State.deliver
  split <;> simp

@[simp] theorem cells_takeEarly (src : BitVec 10) (n : Nat) (s : State) : (State.takeEarly src n s).cells = s.cells := by
  induction n generalizing s with
  | zero => rfl
  | succ n ih =>
    rw [State.takeEarly]
    split
    · rfl
    · rw [ih, cells_deliver, cells_setTransport]

@[simp] theorem cells_sendAck (s : State) (dst : BitVec 10) : (State.sendAck s dst).cells = s.cells := by
  simp [State.sendAck]

@[simp] theorem cells_receive (s : State) (p : Packet) : (State.receive s p).cells = s.cells := by
  simp [State.receive]

@[simp] theorem cells_forward (s : State) (p : Packet) : (State.forward s p).cells = s.cells := by
  unfold State.forward
  split
  split <;> simp

/-! ### Machine/Platform.lean -/

@[simp] theorem formed_bootActions {s : State} (h : s.cells.Formed) : s.bootActions.cells.Formed := by
  rw [State.bootActions, cells_mk]
  refine formed_mem h (memWrite_wf _ _ ?_)
  have hb := foldl_memSet_wf (fun a => decide (a < Config.hbmEnd)) s.flash.cells h.mem
  simp only [decide_eq_true_eq] at hb
  exact hb

@[simp] theorem formed_tryBoot {s : State} (h : s.cells.Formed) : (State.tryBoot s).cells.Formed := by
  simp [State.tryBoot, h]

@[simp] theorem formed_afterReset {s : State} : s.afterReset.cells.Formed :=
  ⟨rfl, fun _ => rfl, fun _ _ e => by cases e⟩

@[simp] theorem cells_endCall (s : State) (core : Nat) (st : Byte) : (State.endCall s core st).cells = s.cells := by rfl

@[simp] theorem cells_retireRegion (s : State) (g : Nat) : (State.retireRegion s g).cells = s.cells := by
  simp [State.retireRegion]

@[simp] theorem cells_dataError (s : State) (w : Who) (k : ParkKind) (ia : Addr) (pa va : Word) :
    (State.dataError s w k ia pa va).cells = s.cells := by
  unfold State.dataError
  split <;> simp

/-! ### Machine/Engines.lean -/

@[simp] theorem cells_limitBlock (s : State) (h : Nat) (e : Eng) : (State.limitBlock s h e).cells = s.cells := by
  simp [State.limitBlock]

@[simp] theorem cells_countTclk (s : State) (n : Nat) : (State.countTclk s n).cells = s.cells := by rfl
@[simp] theorem cells_countMisses (s : State) : (State.countMisses s).cells = s.cells := by rfl

@[simp] theorem cells_tick (s : State) (n : Nat) : (State.tick s n).cells = s.cells := by
  simp [State.tick]

end Sys2Proof.Machine
end

section
/-!
Every instruction keeps the canonical form of memory: an instruction's outcome, where it is a next state, has formed cells.
-/

namespace Sys2Proof.Machine
open Sys2Proof

/-! ## Outcomes -/

/-- A next state, where the outcome is one, has formed cells. -/
def OutFormed (o : Out) : Prop := ∀ t, o = .next t → t.cells.Formed

@[simp] theorem outFormed_next (t : State) : OutFormed (.next t) ↔ t.cells.Formed :=
  ⟨fun h => h t rfl, fun h _ e => by cases e; exact h⟩

@[simp] theorem outFormed_fault (f : Fault) : OutFormed (.fault f) := fun _ e => by cases e

@[simp] theorem outFormed_ite (p : Prop) [Decidable p] (a b : Out) :
    OutFormed (if p then a else b) ↔ if p then OutFormed a else OutFormed b := by
  split <;> rfl

theorem outFormed_of_ite {p : Prop} [Decidable p] {a b : Out} (ha : p → OutFormed a) (hb : ¬p → OutFormed b) :
    OutFormed (if p then a else b) := by
  split
  · exact ha ‹_›
  · exact hb ‹_›

theorem formed_armed {p : Prop} [Decidable p] {s t : State} {x : Comm} {tile ch : Nat} {scratch : Bool} {a n : Nat}
    (e : (if p then some s else s.collArm x tile ch scratch a n) = some t) (h : s.cells.Formed) : t.cells.Formed := by
  split at e
  · cases e
    exact h
  · rw [cells_collArm e]
    exact h

/-! ## Instructions, in the order of the model's files -/

/-! ### Machine/Ops.lean -/

theorem outFormed_waitOp {w : Who} {x : Wait} {s : State} {passes skips : State → Out} (h : s.cells.Formed)
    (hp : ∀ u, u.cells.Formed → OutFormed (passes u)) (hk : ∀ u, u.cells.Formed → OutFormed (skips u)) :
    OutFormed (waitOp w x s passes skips) := by
  have boundary : ∀ (b : Bool) (t : Nat) (e : Eng), (if b then s.boundary t e else s).cells.Formed := by
    intro b t e
    split <;> simp [h]
  cases w with
  | task t e =>
    exact outFormed_of_ite (fun _ => hk _ (boundary _ t e)) fun _ => outFormed_of_ite (fun _ => hp _ (boundary _ t e)) fun _ =>
      outFormed_of_ite (fun _ => by simp [h]) fun _ => by simp [h]
  | sv c => exact outFormed_of_ite (fun _ => hp s h) fun _ => by simp [h]

/-! ### Machine/Access.lean -/

theorem outFormed_heldOp {w : Who} {glob : Bool} {a n : Nat} {s : State} {k : State → Out} (h : s.cells.Formed)
    (hk : ∀ u, u.cells.Formed → OutFormed (k u)) : OutFormed (heldOp w glob a n s k) := by
  cases w with
  | task t e => exact outFormed_of_ite (fun _ => outFormed_waitOp h hk hk) fun _ => hk s h
  | sv c => exact hk s h

theorem outFormed_withTarget {w : Who} {va : Nat} {a : Acc} {acqrel : Bool} {kind : ParkKind} {s : State}
    {k : Target → BitVec 64 → State → Out} (h : s.cells.Formed) (hk : ∀ t l u, u.cells.Formed → OutFormed (k t l u)) :
    OutFormed (withTarget w va a acqrel kind s k) := by
  unfold withTarget
  dsimp only
  split
  · simp [h]
  · simp [h]
  · exact outFormed_of_ite (fun _ => hk _ _ _ (by simp [h])) fun _ => by simp [h]

/-! ### Machine/ScalarAlu.lean -/

theorem outFormed_onScalar {s : State} {k : Who → Out} (h : s.cells.Formed) (hk : ∀ w, OutFormed (k w)) : OutFormed (onScalar s k) := by
  unfold onScalar
  split
  · exact hk _
  · exact hk _
  · simpa using h

@[simp] theorem outFormed_aluOp {d a b : BitVec 6} {f : Word → Word → Word} {s : State} (h : s.cells.Formed) :
    OutFormed (aluOp d a b f s) := by
  refine outFormed_onScalar h fun _ => ?_
  simp [h]

@[simp] theorem outFormed_aluOp1 {d a : BitVec 6} {f : Word → Word} {s : State} (h : s.cells.Formed) : OutFormed (aluOp1 d a f s) := by
  refine outFormed_onScalar h fun _ => ?_
  simp [h]

theorem outFormed_execLui {d : BitVec 6} {i : BitVec 20} {s : State} (h : s.cells.Formed) : OutFormed (execLui d i s) := by
  refine outFormed_onScalar h fun _ => ?_
  simp [h]

theorem outFormed_execAddpc {d : BitVec 6} {i : BitVec 20} {s : State} (h : s.cells.Formed) : OutFormed (execAddpc d i s) := by
  refine outFormed_onScalar h fun _ => ?_
  simp [h]

theorem outFormed_execNop {s : State} (h : s.cells.Formed) : OutFormed (execNop s) := by
  unfold execNop
  split <;> simp [h]

/-! ### Machine/ScalarMem.lean -/

theorem outFormed_scratchAccess {i : Instr} {n : Nat} {a : Word} {s : State} {w : Who} {k : Nat → State → Out} (h : s.cells.Formed)
    (hk : ∀ r u, u.cells.Formed → OutFormed (k r u)) : OutFormed (scratchAccess i n a s w k) := by
  cases w with
  | sv c => simp [scratchAccess, h]
  | task r e =>
    exact outFormed_of_ite (fun _ => by simp [h]) fun _ => outFormed_of_ite (fun _ => by simp [h]) fun _ => outFormed_heldOp h (hk r)

@[simp] theorem outFormed_scratchLoad {i : Instr} {z : BitVec 2} {d : BitVec 6} {a : Who → Word} {signed : Bool} {s : State}
    (h : s.cells.Formed) : OutFormed (scratchLoad i z d a signed s) :=
  outFormed_onScalar h fun _ => outFormed_scratchAccess h fun _ _ hu => by simp [hu]

theorem outFormed_globalAccess {n : Nat} {a : Word} {acc : Acc} {acqrel : Bool} {s : State} {w : Who} {k : Target → State → Out}
    (h : s.cells.Formed) (hk : ∀ t u, u.cells.Formed → OutFormed (k t u)) : OutFormed (globalAccess n a acc acqrel s w k) :=
  outFormed_of_ite (fun _ => by simp [h]) fun _ => outFormed_of_ite (fun _ => by simp [h]) fun _ =>
    outFormed_heldOp h fun _ hu => outFormed_withTarget hu fun t _ v hv => hk t v hv

@[simp] theorem outFormed_globalLoad {z : BitVec 2} {d : BitVec 6} {a : Who → Word} {signed acq : Bool} {scope : BitVec 3} {s : State}
    (h : s.cells.Formed) : OutFormed (globalLoad z d a signed acq scope s) :=
  outFormed_onScalar h fun _ => outFormed_globalAccess h fun _ _ hu => by simp [hu]

@[simp] theorem outFormed_globalStore {z : BitVec 2} {d : BitVec 6} {a : Who → Word} {rel : Bool} {scope : BitVec 3} {s : State}
    (h : s.cells.Formed) : OutFormed (globalStore z d a rel scope s) :=
  outFormed_onScalar h fun _ => outFormed_globalAccess h fun _ _ hu => by simp [hu]

theorem outFormed_execSts {z : BitVec 2} {d a : BitVec 6} {i : BitVec 14} {s : State} (h : s.cells.Formed) :
    OutFormed (execSts z d a i s) :=
  outFormed_onScalar h fun _ => outFormed_scratchAccess h fun _ _ hu => by simp [hu]

@[simp] theorem outFormed_scalarRemote {hd : BitVec 5} {c : BitVec 3} {a : BitVec 6} {red : Bool} {widthOk : Nat → Bool}
    {ops : Who → Nat → BitVec 128 × BitVec 128 × RDest} {s : State} (h : s.cells.Formed) :
    OutFormed (scalarRemote hd c a red widthOk ops s) := by
  refine outFormed_onScalar h fun w => outFormed_of_ite (fun _ => by simp [h]) fun _ => outFormed_of_ite (fun _ => by simp [h]) fun _ =>
    outFormed_withTarget h fun t l u hu => ?_
  exact outFormed_of_ite (fun _ => by simp [hu]) fun _ => outFormed_of_ite (fun _ => by simpa using hu) fun _ => by simp [hu]

/-! ### Machine/ControlRegs.lean -/

theorem outFormed_execCrr {d : BitVec 6} {r : BitVec 14} {s : State} (h : s.cells.Formed) : OutFormed (execCrr d r s) := by
  refine outFormed_onScalar h fun _ => ?_
  split <;> simp [h]

theorem outFormed_execCrw {a : BitVec 6} {r : BitVec 14} {s : State} (h : s.cells.Formed) : OutFormed (execCrw a r s) := by
  refine outFormed_onScalar h fun w => ?_
  split
  · next e => simpa [cells_crWrite e] using h
  · simp [h]

theorem outFormed_execTime {d : BitVec 6} {s : State} (h : s.cells.Formed) : OutFormed (execTime d s) := by
  refine outFormed_onScalar h fun _ => ?_
  simp [h]

theorem outFormed_execTcmpWrite {p : Prog} {v : BitVec 64} {s : State} (h : s.cells.Formed) : OutFormed (execTcmpWrite p v s) := by
  simp [execTcmpWrite, h]

theorem outFormed_execRctlWrite {h : Rh} {v : BitVec 64} {s : State} (hs : s.cells.Formed) : OutFormed (execRctlWrite h v s) := by
  simp [execRctlWrite, hs]

theorem outFormed_execRngWrite {h : Rh} {v : BitVec 64} {s : State} (hs : s.cells.Formed) : OutFormed (execRngWrite h v s) := by
  simp [execRngWrite, hs]

theorem outFormed_execTimerExpiry {p : Prog} {s : State} (h : s.cells.Formed) : OutFormed (execTimerExpiry p s) := by
  simp [execTimerExpiry, h]

theorem outFormed_execFqheadWrite {core : BitVec 3} {v : BitVec 64} {s : State} (h : s.cells.Formed) :
    OutFormed (execFqheadWrite core v s) := by
  simp [execFqheadWrite, h]

theorem outFormed_execFaultQueueConfigWrite {core : BitVec 3} {size : Bool} {v : BitVec 64} {s : State} (h : s.cells.Formed) :
    OutFormed (execFaultQueueConfigWrite core size v s) := by
  simp [execFaultQueueConfigWrite, h]

/-! ### Machine/ScalarControl.lean -/

@[simp] theorem outFormed_branchOp {a b : BitVec 6} {n : BitVec 1} {o : BitVec 13} {cond : Word → Word → Bool} {s : State}
    (h : s.cells.Formed) : OutFormed (branchOp a b n o cond s) := by
  refine outFormed_onScalar h fun _ => ?_
  simp [h]

theorem outFormed_execJump {n : BitVec 1} {o : BitVec 25} {s : State} (h : s.cells.Formed) : OutFormed (execJump n o s) := by
  refine outFormed_onScalar h fun _ => ?_
  simp [h]

theorem outFormed_execJal {n : BitVec 1} {o : BitVec 25} {s : State} (h : s.cells.Formed) : OutFormed (execJal n o s) := by
  refine outFormed_onScalar h fun _ => ?_
  simp [h]

theorem outFormed_execJalr {d a : BitVec 6} {i : BitVec 14} {s : State} (h : s.cells.Formed) : OutFormed (execJalr d a i s) := by
  refine outFormed_onScalar h fun _ => ?_
  simp [h]

theorem outFormed_execTrap {c : BitVec 8} {s : State} (h : s.cells.Formed) : OutFormed (execTrap c s) := by
  refine outFormed_onScalar h fun _ => ?_
  simp [h]

theorem outFormed_execRett {s : State} (h : s.cells.Formed) : OutFormed (execRett s) := by
  refine outFormed_onScalar h fun _ => ?_
  simp [h]

theorem outFormed_execTimerInterrupt {p : Prog} {s : State} (h : s.cells.Formed) : OutFormed (execTimerInterrupt p s) := by
  simp [execTimerInterrupt, h]

theorem outFormed_execFaultQueueInterrupt {core : BitVec 3} {s : State} (h : s.cells.Formed) :
    OutFormed (execFaultQueueInterrupt core s) := by
  simp [execFaultQueueInterrupt, h]

theorem outFormed_execSupervisorFaultTrap {core : BitVec 3} {code : BitVec 8} {addr : BitVec 64} {s : State} (h : s.cells.Formed) :
    OutFormed (execSupervisorFaultTrap core code addr s) := by
  simp [execSupervisorFaultTrap, h]

theorem outFormed_execFork {v m c : BitVec 6} {s : State} (h : s.cells.Formed) : OutFormed (execFork v m c s) := by
  refine outFormed_onScalar h fun _ => ?_
  split <;> simp [h]

theorem outFormed_execJoin {s : State} (h : s.cells.Formed) : OutFormed (execJoin s) := by
  refine outFormed_onScalar h fun w => ?_
  cases w with
  | sv c => simp [h]
  | task n e => exact outFormed_waitOp h (fun _ hu => by simp [hu]) fun _ hu => by simp [hu]

theorem outFormed_execSEnd {s : State} (h : s.cells.Formed) : OutFormed (execSEnd s) := by
  refine outFormed_onScalar h fun _ => ?_
  split <;> simp [h]

theorem outFormed_execDeferredFaultDelivery {h : Rh} {s : State} (hs : s.cells.Formed) : OutFormed (execDeferredFaultDelivery h s) := by
  simp [execDeferredFaultDelivery, hs]

/-! ### Machine/Cohort.lean -/

theorem outFormed_execCcreate {d a : BitVec 6} {s : State} (h : s.cells.Formed) : OutFormed (execCcreate d a s) := by
  refine outFormed_onScalar h fun _ => ?_
  simp [h]

theorem outFormed_execCjoin {d a : BitVec 6} {s : State} (h : s.cells.Formed) : OutFormed (execCjoin d a s) := by
  refine outFormed_onScalar h fun _ => ?_
  dsimp only
  split
  · simp [h]
  · split
    · simp [h]
    · split <;> simp [h]

theorem outFormed_execCleave {a : BitVec 6} {s : State} (h : s.cells.Formed) : OutFormed (execCleave a s) := by
  refine outFormed_onScalar h fun _ => ?_
  dsimp only
  split
  · simp [h]
  · split
    · simp [h]
    · split <;> simp [h]

theorem outFormed_execBar {a : BitVec 6} {s : State} (h : s.cells.Formed) : OutFormed (execBar a s) := by
  refine outFormed_onScalar h fun w => ?_
  cases w with
  | sv c => simp [h]
  | task n e =>
    refine outFormed_of_ite (fun _ => outFormed_of_ite (fun _ => outFormed_waitOp h (fun _ hu => by simp [hu]) fun _ hu => by simp [hu]) fun _ =>
      outFormed_of_ite (fun _ => by simp [h]) fun _ => by simpa using h) fun _ => ?_
    split
    · simp [h]
    · dsimp only
      split
      · simp [h]
      · exact outFormed_of_ite (fun _ => by simpa using h) fun _ =>
          outFormed_waitOp (by simp [h]) (fun _ hu => by simp [hu]) fun _ hu => by simp [hu]

theorem outFormed_execGlaunch {d a b : BitVec 6} {s : State} (h : s.cells.Formed) : OutFormed (execGlaunch d a b s) := by
  refine outFormed_onScalar h fun w => outFormed_of_ite (fun _ => by simp [h]) fun _ => outFormed_of_ite (fun _ => by simpa using h) fun _ =>
    outFormed_of_ite (fun _ => by simp [h]) fun _ => ?_
  split
  · simp [h]
  · next e => simpa [cells_queueInst e] using h

/-! ### Machine/Sync.lean -/

theorem outFormed_onAny {s : State} {k : Who → Out} (h : s.cells.Formed) (hk : ∀ w, OutFormed (k w)) : OutFormed (onAny s k) := by
  unfold onAny
  split
  · exact hk _
  · simpa using h

theorem outFormed_onTile {i : Instr} {s : State} {k : Who → Nat → Out} (h : s.cells.Formed) (hk : ∀ w n, OutFormed (k w n)) :
    OutFormed (onTile i s k) :=
  outFormed_onAny h fun w => by
    cases w with
    | task n e => exact hk _ n
    | sv c => simp [h]

theorem outFormed_ringOp {i : Instr} {b : BitVec 6} {cfg : Bool} {s : State} {k : Who → Nat → Ring → Out} (h : s.cells.Formed)
    (hk : ∀ w n g, OutFormed (k w n g)) : OutFormed (ringOp i b cfg s k) :=
  outFormed_onTile h fun w n => outFormed_of_ite (fun _ => by simp [h]) fun _ => hk w n _

theorem outFormed_execRinit {o x : BitVec 6} {s : State} (h : s.cells.Formed) : OutFormed (execRinit o x s) := by
  refine outFormed_ringOp h fun _ _ _ => ?_
  simp [h]

theorem outFormed_execRclaim {o x : BitVec 6} {n : BitVec 10} {s : State} (h : s.cells.Formed) : OutFormed (execRclaim o x n s) :=
  outFormed_ringOp h fun _ _ _ => outFormed_of_ite (fun _ => by simp [h]) fun _ =>
    outFormed_waitOp h (fun _ hu => by simp [hu]) fun _ hu => by simp [hu]

theorem outFormed_execRpub {o x : BitVec 6} {n : BitVec 10} {s : State} (h : s.cells.Formed) : OutFormed (execRpub o x n s) :=
  outFormed_ringOp h fun _ _ _ => outFormed_of_ite (fun _ => by simp [h]) fun _ => outFormed_of_ite (fun _ => by simpa using h) fun _ =>
    outFormed_waitOp h (fun _ hu => by simp [hu]) fun _ hu => by simp [hu]

theorem outFormed_execRwfill {o x : BitVec 6} {n : BitVec 10} {s : State} (h : s.cells.Formed) : OutFormed (execRwfill o x n s) :=
  outFormed_ringOp h fun _ _ _ => outFormed_waitOp h (fun _ hu => by simp [hu]) fun _ hu => by simp [hu]

theorem outFormed_execRwfree {o x : BitVec 6} {n : BitVec 10} {s : State} (h : s.cells.Formed) : OutFormed (execRwfree o x n s) :=
  outFormed_ringOp h fun _ _ _ => outFormed_of_ite (fun _ => by simp [h]) fun _ =>
    outFormed_waitOp h (fun _ hu => by simp [hu]) fun _ hu => by simp [hu]

theorem outFormed_execRcons {o : BitVec 6} {n : BitVec 10} {s : State} (h : s.cells.Formed) : OutFormed (execRcons o n s) := by
  refine outFormed_ringOp h fun _ _ _ => ?_
  simp [h]

theorem outFormed_execRread {o x : BitVec 6} {sel : BitVec 2} {s : State} (h : s.cells.Formed) : OutFormed (execRread o x sel s) := by
  refine outFormed_ringOp h fun _ _ _ => ?_
  simp [h]

theorem outFormed_execRaddr {o x : BitVec 6} {s : State} (h : s.cells.Formed) : OutFormed (execRaddr o x s) := by
  refine outFormed_ringOp h fun _ _ _ => ?_
  simp [h]

theorem outFormed_chanOp {i : Instr} {c : BitVec 6} {s : State} {k : Who → Nat → Chan → Out} (h : s.cells.Formed)
    (hk : ∀ w n x, OutFormed (k w n x)) : OutFormed (chanOp i c s k) :=
  outFormed_onTile h fun w n => outFormed_of_ite (fun _ => by simp [h]) fun _ => hk w n _

theorem outFormed_execWmwait {o x : BitVec 6} {s : State} (h : s.cells.Formed) : OutFormed (execWmwait o x s) :=
  outFormed_chanOp h fun _ _ _ => outFormed_waitOp h (fun _ hu => by simp [hu]) fun _ hu => by simp [hu]

theorem outFormed_execWmarm {o x : BitVec 6} {p : BitVec 1} {s : State} (h : s.cells.Formed) : OutFormed (execWmarm o x p s) := by
  refine outFormed_chanOp h fun _ _ _ => ?_
  simp [h]

theorem outFormed_execWmread {o x : BitVec 6} {s : State} (h : s.cells.Formed) : OutFormed (execWmread o x s) := by
  refine outFormed_chanOp h fun _ _ _ => ?_
  simp [h]

theorem outFormed_execWmidle {o : BitVec 6} {s : State} (h : s.cells.Formed) : OutFormed (execWmidle o s) := by
  refine outFormed_chanOp h fun _ _ _ => ?_
  simp [h]

theorem outFormed_eventOp {x : BitVec 6} {wr : Bool} {s : State} {k : Who → Word → Out} (h : s.cells.Formed)
    (hk : ∀ w hd, OutFormed (k w hd)) : OutFormed (eventOp x wr s k) :=
  outFormed_onAny h fun w => outFormed_of_ite (fun _ => by simp [h]) fun _ => outFormed_of_ite (fun _ => by simp [h]) fun _ => hk w _

theorem outFormed_withCount {w : Who} {hd : Word} {s : State} {k : State → Out} (h : s.cells.Formed)
    (hk : ∀ u, u.cells.Formed → OutFormed (k u)) : OutFormed (withCount w hd s k) := by
  unfold withCount
  refine outFormed_of_ite (fun _ => hk s h) fun _ => ?_
  split
  · simp [h]
  · dsimp only
    split
    · simpa using h
    · exact hk _ (by simp [h])
    · simp [h]

theorem outFormed_withCounts {w : Who} {hds : List Word} {s : State} {k : State → Out} (h : s.cells.Formed)
    (hk : ∀ u, u.cells.Formed → OutFormed (k u)) : OutFormed (withCounts w hds s k) := by
  have hc := formed_countsOf s w.owner w.path (s.pcOf w) hds h
  unfold withCounts
  split
  · next e => simpa using formed_fst e hc
  · next e => exact hk _ (formed_fst e hc)
  · next e => simpa using formed_fst e hc

@[simp] theorem outFormed_signalOp {w : Who} {hd : Word} {op : ROp} {s : State} (h : s.cells.Formed) : OutFormed (signalOp w hd op s) := by
  simp [signalOp, h]

theorem outFormed_execEvsig {x : BitVec 6} {n : BitVec 10} {s : State} (h : s.cells.Formed) : OutFormed (execEvsig x n s) := by
  refine outFormed_eventOp h fun _ _ => ?_
  simp [h]

theorem outFormed_execEvsigr {x : BitVec 6} {s : State} (h : s.cells.Formed) : OutFormed (execEvsigr x s) := by
  refine outFormed_eventOp h fun _ _ => ?_
  simp [h]

theorem outFormed_execEvwait {x : BitVec 6} {s : State} (h : s.cells.Formed) : OutFormed (execEvwait x s) :=
  outFormed_eventOp h fun _ _ => outFormed_withCount h fun _ hu => outFormed_waitOp hu (fun _ hv => by simp [hv]) fun _ hv => by simp [hv]

theorem outFormed_execEvread {x : BitVec 6} {s : State} (h : s.cells.Formed) : OutFormed (execEvread x s) :=
  outFormed_eventOp h fun _ _ => outFormed_withCount h fun _ hu => by simp [hu]

theorem outFormed_execEvset {x : BitVec 6} {s : State} (h : s.cells.Formed) : OutFormed (execEvset x s) := by
  refine outFormed_eventOp h fun _ _ => ?_
  simp [h]

theorem outFormed_execEvsetC {x : BitVec 6} {s : State} (h : s.cells.Formed) : OutFormed (execEvsetC x s) := by
  refine outFormed_eventOp h fun _ _ => ?_
  simp [h]

@[simp] theorem outFormed_fenceOp {src dst scope : BitVec 3} {u : Bool} {s : State} (h : s.cells.Formed) :
    OutFormed (fenceOp src dst scope u s) := by
  refine outFormed_onAny h fun _ => ?_
  simp [h]

theorem outFormed_streamOp {i : Instr} {x : BitVec 6} {s : State} {k : Who → Nat → BitVec 512 → Out} (h : s.cells.Formed)
    (hk : ∀ w n q, OutFormed (k w n q)) : OutFormed (streamOp i x s k) :=
  outFormed_onTile h fun w n => hk w n _

theorem outFormed_execSset {o x : BitVec 6} {i : BitVec 3} {s : State} (h : s.cells.Formed) : OutFormed (execSset o x i s) := by
  refine outFormed_streamOp h fun _ _ _ => ?_
  simp [h]

theorem outFormed_execSget {o x : BitVec 6} {i : BitVec 3} {s : State} (h : s.cells.Formed) : OutFormed (execSget o x i s) := by
  refine outFormed_streamOp h fun _ _ _ => ?_
  simp [h]

theorem outFormed_execSbind {o : BitVec 6} {d : BitVec 2} {s : State} (h : s.cells.Formed) : OutFormed (execSbind o d s) := by
  refine outFormed_streamOp h fun _ _ _ => ?_
  simp [h]

theorem outFormed_execSunbind {o : BitVec 6} {s : State} (h : s.cells.Formed) : OutFormed (execSunbind o s) := by
  refine outFormed_streamOp h fun _ _ _ => ?_
  simp [h]

/-! ### Machine/Matrix.lean -/

theorem outFormed_onMat {s : State} {k : Nat → Out} (h : s.cells.Formed) (hk : ∀ n, OutFormed (k n)) : OutFormed (onMat s k) := by
  unfold onMat
  split
  · exact hk _
  · simpa using h

@[simp] theorem outFormed_dpIssue {i : Instr} {qa qb ns : BitVec 4} {slab : Option (Nat × Bool)} {s : State} (h : s.cells.Formed) :
    OutFormed (dpIssue i qa qb ns slab s) := by
  refine outFormed_onMat h fun n => outFormed_of_ite (fun _ => by simpa using h) fun _ => outFormed_of_ite (fun _ => by simpa using h) fun _ =>
    outFormed_of_ite (fun _ => by simp [h]) fun _ => ?_
  split
  · simp [h]
  · exact outFormed_waitOp h (fun _ hu => by simp [hu]) fun _ hu => by simp [hu]

theorem outFormed_execDatapathComplete {t : Tid} {s : State} (h : s.cells.Formed) : OutFormed (execDatapathComplete t s) := by
  unfold execDatapathComplete
  split <;> simp [h]

theorem outFormed_execSubarrayGate {t : Tid} {i : BitVec 2} {s : State} (h : s.cells.Formed) : OutFormed (execSubarrayGate t i s) := by
  simp [execSubarrayGate, h]

theorem outFormed_execSubarrayWake {t : Tid} {s : State} (h : s.cells.Formed) : OutFormed (execSubarrayWake t s) := by
  simp [execSubarrayWake, h]

@[simp] theorem outFormed_nalu {d a b : BitVec 4} {f : Word → Word → Word} {s : State} (h : s.cells.Formed) :
    OutFormed (nalu d a b f s) := by
  refine outFormed_onMat h fun _ => ?_
  simp [h]

theorem outFormed_execNaddi {d a : BitVec 4} {i : BitVec 18} {s : State} (h : s.cells.Formed) : OutFormed (execNaddi d a i s) := by
  refine outFormed_onMat h fun _ => ?_
  simp [h]

theorem outFormed_execNseth {d a : BitVec 4} {p : BitVec 2} {v : BitVec 16} {s : State} (h : s.cells.Formed) :
    OutFormed (execNseth d a p v s) := by
  refine outFormed_onMat h fun _ => ?_
  simp [h]

theorem outFormed_execNget {d : BitVec 4} {x : BitVec 18} {s : State} (h : s.cells.Formed) : OutFormed (execNget d x s) := by
  refine outFormed_onMat h fun _ => ?_
  simp [h]

theorem outFormed_execMbr {c : BitVec 3} {a : BitVec 4} {o : BitVec 19} {s : State} (h : s.cells.Formed) : OutFormed (execMbr c a o s) := by
  refine outFormed_onMat h fun _ => ?_
  simp [h]

theorem outFormed_execMatrixEnd {s : State} (h : s.cells.Formed) : OutFormed (execMatrixEnd s) := by
  refine outFormed_onMat h fun _ => ?_
  simp [h]

theorem outFormed_execMwake {s : State} (h : s.cells.Formed) : OutFormed (execMwake s) := by
  refine outFormed_onMat h fun _ => ?_
  simp [h]

/-! ### Machine/Copy.lean -/

theorem outFormed_onCopy {s : State} {k : Nat → Out} (h : s.cells.Formed) (hk : ∀ n, OutFormed (k n)) : OutFormed (onCopy s k) := by
  unfold onCopy
  split
  · exact hk _
  · simpa using h

@[simp] theorem outFormed_xfIssue {mk : Nat → Xfer} {s : State} (h : s.cells.Formed) : OutFormed (xfIssue mk s) := by
  refine outFormed_onCopy h fun _ => ?_
  simp [h]

theorem outFormed_execProgressPointReached {t : Tid} {e : Eng} {s : State} (h : s.cells.Formed) :
    OutFormed (execProgressPointReached t e s) := by
  unfold execProgressPointReached
  split <;> simp [h]

theorem outFormed_execTransferComplete {t : Tid} {s : State} (h : s.cells.Formed) : OutFormed (execTransferComplete t s) := by
  unfold execTransferComplete
  split
  · simpa using h
  · refine outFormed_of_ite (fun _ => by simpa using h) fun _ => ?_
    dsimp only
    rw [outFormed_next]
    split
    · rw [cells_setChan, cells_modRes]
      exact h
    · simpa using h

@[simp] theorem outFormed_calu {d a b : BitVec 5} {f : Word → Word → Word} {s : State} (h : s.cells.Formed) :
    OutFormed (calu d a b f s) := by
  refine outFormed_onCopy h fun _ => ?_
  simp [h]

theorem outFormed_execCaddi {d a : BitVec 5} {i : BitVec 12} {s : State} (h : s.cells.Formed) : OutFormed (execCaddi d a i s) := by
  refine outFormed_onCopy h fun _ => ?_
  simp [h]

theorem outFormed_execCseth {d a : BitVec 5} {i : BitVec 12} {s : State} (h : s.cells.Formed) : OutFormed (execCseth d a i s) := by
  refine outFormed_onCopy h fun _ => ?_
  simp [h]

theorem outFormed_execClds {d a : BitVec 5} {i : BitVec 12} {s : State} (h : s.cells.Formed) : OutFormed (execClds d a i s) :=
  outFormed_onCopy h fun _ => outFormed_of_ite (fun _ => by simp [h]) fun _ => outFormed_of_ite (fun _ => by simp [h]) fun _ =>
    outFormed_heldOp h fun _ hu => by simp [hu]

theorem outFormed_execCldg {d a : BitVec 5} {i : BitVec 12} {s : State} (h : s.cells.Formed) : OutFormed (execCldg d a i s) :=
  outFormed_onCopy h fun _ => outFormed_of_ite (fun _ => by simp [h]) fun _ =>
    outFormed_heldOp h fun _ hu => outFormed_withTarget hu fun _ _ _ hv => by simp [hv]

theorem outFormed_execCbr {c : BitVec 3} {k : BitVec 5} {o : BitVec 18} {s : State} (h : s.cells.Formed) : OutFormed (execCbr c k o s) := by
  refine outFormed_onCopy h fun _ => ?_
  simp [h]

theorem outFormed_execCopyEnd {s : State} (h : s.cells.Formed) : OutFormed (execCopyEnd s) := by
  refine outFormed_onCopy h fun _ => ?_
  simp [h]

/-! ### Machine/Events.lean -/

theorem outFormed_execEventUpdate {k : Nat} {s : State} (h : s.cells.Formed) : OutFormed (execEventUpdate k s) := by
  unfold execEventUpdate
  split <;> simp [h]

/-! ### Machine/Owner.lean -/

theorem outFormed_execAcknowledgement {k : Nat} {s : State} (h : s.cells.Formed) : OutFormed (execAcknowledgement k s) := by
  unfold execAcknowledgement
  split <;> simp [h]

theorem outFormed_execRetireAll {k : Nat} {s : State} (h : s.cells.Formed) : OutFormed (execRetireAll k s) := by
  unfold execRetireAll
  split <;> simp [h]

theorem outFormed_execRemoteRequest {k : Nat} {s : State} (h : s.cells.Formed) : OutFormed (execRemoteRequest k s) := by
  unfold execRemoteRequest
  split
  · simpa using h
  · refine outFormed_of_ite (fun _ => by simp [h]) fun _ => ?_
    split
    · refine outFormed_of_ite (fun _ => by simpa using h) fun _ => ?_
      split
      · next e =>
        split at e
        · simpa [cells_releaseFlush e] using h
        · cases e
      · exact outFormed_of_ite (fun _ => by simp [h]) fun _ => by simp [h]
    · simp [h]

/-- A handler instruction runs only where a run stands in its slot, and that run is formed. -/
theorem outFormed_onNear {s : State} {k : Nat → HRun → Out} (h : s.cells.Formed) (hk : ∀ n r, r.Formed → OutFormed (k n r)) :
    OutFormed (onNear s k) := by
  unfold onNear
  split
  · split
    · next e => exact hk _ _ (h.runs _ _ e)
    · simpa using h
  · simpa using h

@[simp] theorem outFormed_hop {s : State} {d : BitVec 4} {f : HRun → Word} (h : s.cells.Formed) : OutFormed (hop s d f) :=
  outFormed_onNear h fun _ _ hr => by simp [h, hr]

theorem outFormed_execHnop {s : State} (h : s.cells.Formed) : OutFormed (execHnop s) :=
  outFormed_onNear h fun n r hr => by
    rw [outFormed_next, cells_mk]
    exact formed_fput_hruns h fun _ e => by cases e; exact hr

theorem outFormed_execHld {d a : BitVec 4} {i : BitVec 16} {s : State} (h : s.cells.Formed) : OutFormed (execHld d a i s) :=
  outFormed_onNear h fun _ _ hr => outFormed_of_ite (fun _ => by simp [h]) fun _ => by simp [h, hr]

theorem outFormed_execHst {a b : BitVec 4} {i : BitVec 16} {s : State} (h : s.cells.Formed) : OutFormed (execHst a b i s) :=
  outFormed_onNear h fun n r hr => by
    rw [outFormed_next, cells_mk]
    refine formed_fput_hruns h fun _ e => ?_
    cases e
    exact bufFormed_store (fun j => some ((r.get b >>> (8 * j)).setWidth 8)) hr (hoff_window r a i)

theorem outFormed_execHbr {c a : BitVec 4} {i : BitVec 16} {s : State} (h : s.cells.Formed) : OutFormed (execHbr c a i s) :=
  outFormed_onNear h fun n r hr => by
    rw [outFormed_next, cells_mk]
    exact formed_fput_hruns h fun _ e => by cases e; exact hr

theorem outFormed_execHret {a : BitVec 4} {s : State} (h : s.cells.Formed) : OutFormed (execHret a s) := by
  refine outFormed_onNear h fun _ _ _ => ?_
  simp [h]

theorem outFormed_execHfail {a : BitVec 4} {s : State} (h : s.cells.Formed) : OutFormed (execHfail a s) := by
  refine outFormed_onNear h fun _ _ _ => ?_
  simp [h]

/-! ### Machine/VectorCore.lean -/

theorem outFormed_onVec {s : State} {k : Nat → Out} (h : s.cells.Formed) (hk : ∀ n, OutFormed (k n)) : OutFormed (onVec s k) := by
  unfold onVec
  split
  · exact hk _
  · simpa using h

/-- The ports of a vector instruction are waited for one after the other. -/
theorem outFormed_vPorts {n : Nat} {k : State → Out} (hk : ∀ u, u.cells.Formed → OutFormed (k u)) :
    ∀ (ws : List Wait) {s : State}, s.cells.Formed → OutFormed (vPorts n ws s k)
  | [], _, h => hk _ h
  | _ :: ws, _, h => outFormed_waitOp h (fun _ hu => outFormed_vPorts hk ws hu) fun _ hu => outFormed_vPorts hk ws hu

theorem outFormed_vReady {rp : Rp} {n : Nat} {su : Bool} {extra : List Wait} {rd : List VTgt} {wr : List (VTgt × Option Nat)} {s : State}
    {k : State → Out} (h : s.cells.Formed) (hk : ∀ u, u.cells.Formed → OutFormed (k u)) : OutFormed (vReady rp n su extra rd wr s k) := by
  unfold vReady
  dsimp only
  split
  · simp [h]
  · refine outFormed_of_ite (fun _ => by simp [h]) fun _ => ?_
    split
    · simp [h]
    · refine outFormed_vPorts (fun u hu => ?_) _ (by simp [h])
      split
      · simp [hu]
      · exact outFormed_of_ite (fun _ => by simp [hu]) fun _ => hk _ (by simp [hu])

@[simp] theorem outFormed_vFixed {rp : Rp} {h : Nat} {g : BitVec 2} {l : Nat} {rd wr : List VTgt} {val : State → VRes} {s : State}
    (hs : s.cells.Formed) : OutFormed (vFixed rp h g l rd wr val s) :=
  outFormed_vReady hs fun _ hu => by simp [hu]

@[simp] theorem outFormed_vMap {f64 : Bool} {l : Nat} {rp : Rp} {h : Nat} {g : BitVec 2} {d : BitVec 7} {a b : Option (BitVec 7)}
    {dRead : Bool} {m : Nat} {f : Round → Nat → Nat → Nat → Nat × Flg} {s : State} (hs : s.cells.Formed) :
    OutFormed (vMap f64 l rp h g d a b dRead m f s) := by
  simp [vMap, hs]

@[simp] theorem outFormed_vInt {rp : Rp} {h : Nat} {g : BitVec 2} {d a b : BitVec 7} {m : Nat} {f : BitVec 32 → BitVec 32 → BitVec 32}
    {s : State} (hs : s.cells.Formed) : OutFormed (vInt rp h g d a b m f s) := by
  simp [vInt, hs]

@[simp] theorem outFormed_vImm {rp : Rp} {h : Nat} {g : BitVec 2} {d a : BitVec 7} {f : BitVec 32 → BitVec 32} {s : State}
    (hs : s.cells.Formed) : OutFormed (vImm rp h g d a f s) := by
  simp [vImm, hs]

@[simp] theorem outFormed_vFloat {f64 : Bool} {rp : Rp} {h : Nat} {g : BitVec 2} {d a b : BitVec 7} {m : Nat}
    {f : NFmt → Round → Nat → Nat → Nat × Flg} {s : State} (hs : s.cells.Formed) : OutFormed (vFloat f64 rp h g d a b m f s) := by
  simp [vFloat, hs]

@[simp] theorem outFormed_vCompare {f64 : Bool} {l : Nat} {rp : Rp} {h : Nat} {g : BitVec 2} {e : BitVec 3} {a b : BitVec 7} {m : Nat}
    {f : Nat → Nat → Bool} {s : State} (hs : s.cells.Formed) : OutFormed (vCompare f64 l rp h g e a b m f s) := by
  simp [vCompare, hs]

@[simp] theorem outFormed_vUnary {f64 : Bool} {l : Nat} {rp : Rp} {h : Nat} {g : BitVec 2} {d a : BitVec 7} {m : Nat}
    {f : Nat → Nat × Flg} {s : State} (hs : s.cells.Formed) : OutFormed (vUnary f64 l rp h g d a m f s) := by
  simp [vUnary, hs]

@[simp] theorem outFormed_vMaskOp {rp : Rp} {h : Nat} {g : BitVec 2} {d : BitVec 3} {src : List (BitVec 3)}
    {f : (BitVec 3 → BitVec 128) → BitVec 128} {s : State} (hs : s.cells.Formed) : OutFormed (vMaskOp rp h g d src f s) := by
  simp [vMaskOp, hs]

@[simp] theorem outFormed_vReduce {f64 : Bool} {rp : Rp} {h : Nat} {g : BitVec 2} {d a : BitVec 7} {m : Nat}
    {f : Round → Nat → Nat → Nat × Flg} {empty : Nat} {s : State} (hs : s.cells.Formed) :
    OutFormed (vReduce f64 rp h g d a m f empty s) := by
  simp [vReduce, hs]

/-! ### Machine/VectorAlu.lean -/

@[simp] theorem outFormed_vConvert {code : Nat} {rp : Rp} {h : Nat} {g : BitVec 2} {d a : BitVec 7} {t c : BitVec 4} {s : State}
    (hs : s.cells.Formed) : OutFormed (vConvert code rp h g d a t c s) := by
  unfold vConvert
  split <;> simp [hs]

@[simp] theorem outFormed_vPackW {w k : Nat} {rp : Rp} {h : Nat} {g : BitVec 2} {d a : BitVec 7} {s : State} (hs : s.cells.Formed) :
    OutFormed (vPackW w k rp h g d a s) := by
  simp [vPackW, hs]

@[simp] theorem outFormed_vUnpackW {w k : Nat} {rp : Rp} {h : Nat} {g : BitVec 2} {d a : BitVec 7} {s : State} (hs : s.cells.Formed) :
    OutFormed (vUnpackW w k rp h g d a s) := by
  simp [vUnpackW, hs]

@[simp] theorem outFormed_vKop {rp : Rp} {h : Nat} {g : BitVec 2} {d : BitVec 5} {f : State → Word} {s : State} (hs : s.cells.Formed) :
    OutFormed (vKop rp h g d f s) := by
  simp [vKop, hs]

/-! ### Machine/VectorMem.lean -/

@[simp] theorem outFormed_vAccess {rp : Rp} {h : Nat} {g : BitVec 2} {load glob : Bool} {d : BitVec 7} {rd : List VTgt} {c : BitVec 3}
    {contig : Bool} {m : Nat} {addr : State → Nat → Word} {s : State} (hs : s.cells.Formed) :
    OutFormed (vAccess rp h g load glob d rd c contig m addr s) := by
  unfold vAccess
  refine outFormed_vReady hs fun u hu => ?_
  dsimp only
  refine outFormed_of_ite (fun _ => by simpa using hs) fun _ => ?_
  split <;> simp [hs, hu]

@[simp] theorem outFormed_vSlab {load : Bool} {g : BitVec 2} {d : BitVec 7} {z : BitVec 5} {c : BitVec 3} {change : Bool} {row : BitVec 5}
    {s : State} (h : s.cells.Formed) : OutFormed (vSlab load g d z c change row s) :=
  outFormed_onVec h fun _ => outFormed_vReady h fun _ hu => by simp [hu]

theorem outFormed_execWaitc {g : BitVec 2} {c : BitVec 3} {n : BitVec 6} {s : State} (h : s.cells.Formed) :
    OutFormed (execWaitc g c n s) := by
  refine outFormed_onVec h fun n => outFormed_vReady h fun u hu => ?_
  dsimp only
  split <;> simp [hu]

theorem outFormed_execVamo {d a : BitVec 7} {k hd : BitVec 5} {w : BitVec 2} {s : State} (h : s.cells.Formed) :
    OutFormed (execVamo d a k hd w s) := by
  refine outFormed_onVec h fun n => outFormed_vReady h fun u hu => ?_
  dsimp only
  refine outFormed_of_ite (fun _ => by simpa using h) fun _ => ?_
  split
  · rw [outFormed_next, cells_vNext, cells_fresh1]
    exact formed_foldl (fun _ _ hv => by simp [hv]) (by simp [hu])
  · rw [outFormed_next, cells_vFault, cells_laneFault, cells_fresh1]
    exact formed_foldl (fun _ _ hv => by simp [hv]) (by simp [hu])
  · simp [h]

/-! ### Machine/VectorControl.lean -/

/-- The arms in the order of `repCore`; the last, of an instruction that no prefix takes, leaves the state. -/
@[simp] theorem outFormed_repCore {rp : Rp} {h : Nat} {i : Instr} {s : State} (hs : s.cells.Formed) : OutFormed (repCore rp h i s) := by
  unfold repCore
  split
  case h_80 => simpa using hs
  case h_1 | h_2 | h_3 | h_4 | h_5 | h_6 | h_7 | h_8 | h_9 | h_10 | h_11 => exact outFormed_vInt hs
  case h_12 | h_13 | h_14 | h_15 => exact outFormed_vImm hs
  case h_16 | h_17 | h_18 | h_20 | h_21 | h_22 | h_23 | h_24 | h_26 | h_27 => exact outFormed_vFloat hs
  case h_19 | h_25 | h_32 | h_33 | h_34 | h_35 => exact outFormed_vMap hs
  case h_28 | h_29 | h_30 => exact outFormed_vCompare hs
  case h_31 | h_36 | h_37 | h_38 => exact outFormed_vFixed hs
  case h_39 | h_40 => exact outFormed_vConvert hs
  case h_55 | h_56 | h_57 | h_58 | h_59 | h_60 | h_61 | h_62 | h_63 => exact outFormed_vReduce hs
  case h_64 | h_66 => exact outFormed_vPackW hs
  case h_65 | h_67 => exact outFormed_vUnpackW hs
  case h_68 | h_69 | h_70 | h_71 | h_72 | h_73 | h_74 | h_75 | h_76 | h_77 | h_78 | h_79 => exact outFormed_vAccess hs
  all_goals exact outFormed_vUnary hs

theorem outFormed_execRep {c : BitVec 6} {d a b : BitVec 3} {z : BitVec 1} {s : State} (h : s.cells.Formed) :
    OutFormed (execRep c d a b z s) := by
  refine outFormed_onVec h fun _ => ?_
  dsimp only
  split
  · simp [h]
  · simp [h]
  · split
    · simp [h]
    · split
      · simp [h]
      · split <;> simp [h]

theorem outFormed_execVbr {c : BitVec 3} {k : BitVec 5} {o : BitVec 18} {s : State} (h : s.cells.Formed) : OutFormed (execVbr c k o s) := by
  refine outFormed_onVec h fun _ => ?_
  simp [h]

theorem outFormed_execVectorEnd {s : State} (h : s.cells.Formed) : OutFormed (execVectorEnd s) := by
  refine outFormed_onVec h fun _ => ?_
  dsimp only
  split
  · simp [h]
  · split <;> simp [h]

/-! ### Machine/MemEvents.lean -/

theorem outFormed_execLoadComplete {id : Nat} {data : BitVec 64} {s : State} (h : s.cells.Formed) :
    OutFormed (execLoadComplete id data s) := by
  unfold execLoadComplete
  split <;> simp [h]

theorem outFormed_execStoreCommit {id : Nat} {s : State} (h : s.cells.Formed) : OutFormed (execStoreCommit id s) := by
  unfold execStoreCommit
  split <;> simp [h]

theorem outFormed_execWcBufferIssue {k : Nat} {s : State} (h : s.cells.Formed) : OutFormed (execWcBufferIssue k s) := by
  unfold execWcBufferIssue
  split <;> simp [h]

theorem outFormed_execVectorAccessComplete {id : Nat} {lanes : BitVec 128} {data : BitVec 4096} {s : State} (h : s.cells.Formed) :
    OutFormed (execVectorAccessComplete id lanes data s) := by
  have performed : ∀ u : State, u.cells.Formed →
      ((List.range 128).foldl (fun s i => if lanes.getLsbD i then s.performLane id i (lane data i) else s) u).cells.Formed :=
    fun u hu => formed_foldl (fun _ _ hv => formed_of_ite (fun _ => by simp [hv]) fun _ => hv) hu
  unfold execVectorAccessComplete
  split
  · simpa using h
  · next v _ =>
    refine outFormed_of_ite (fun _ => by simpa using h) fun _ => ?_
    cases v.remote <;> dsimp only
    · split
      · simpa using performed s h
      · exact outFormed_of_ite (fun _ => by simpa using performed s h) fun _ => by simpa using performed s h
    · split
      · simpa using h
      · exact outFormed_of_ite (fun _ => by simpa using h) fun _ => by simpa using h

theorem outFormed_execWriteLands {h : Rh} {s : State} (hs : s.cells.Formed) : OutFormed (execWriteLands h s) := by
  simp [execWriteLands, hs]

theorem outFormed_execStreamFetch {h : Rh} {q : BitVec 3} {s : State} (hs : s.cells.Formed) : OutFormed (execStreamFetch h q s) := by
  unfold execStreamFetch
  dsimp only
  refine outFormed_of_ite (fun _ => by simpa using hs) fun _ => outFormed_of_ite (fun _ => by simp [hs]) fun _ =>
    outFormed_of_ite (fun _ => by simpa using hs) fun _ => outFormed_of_ite (fun _ => by simp [hs]) fun _ =>
    outFormed_of_ite (fun _ => by simpa using hs) fun _ => outFormed_of_ite (fun _ => ?_) fun _ => ?_
  · exact outFormed_of_ite (fun _ => by simpa using hs) fun _ => by simp [hs]
  · refine outFormed_of_ite (fun _ => by simpa using hs) fun _ => ?_
    split <;> simp [hs]

theorem outFormed_execStreamStore {h : Rh} {q : BitVec 3} {s : State} (hs : s.cells.Formed) : OutFormed (execStreamStore h q s) := by
  unfold execStreamStore
  dsimp only
  refine outFormed_of_ite (fun _ => by simpa using hs) fun _ => outFormed_of_ite (fun _ => ?_) fun _ => ?_
  · exact outFormed_of_ite (fun _ => by simp [hs]) fun _ => outFormed_of_ite (fun _ => by simpa using hs) fun _ => by simp [hs]
  · refine outFormed_of_ite (fun _ => by simp [hs]) fun _ => outFormed_of_ite (fun _ => by simpa using hs) fun _ => ?_
    split
    · simp [hs]
    · exact outFormed_of_ite (fun _ => by simpa using hs) fun _ => by simp [hs]

theorem outFormed_execRemoteResponse {k : Nat} {s : State} (h : s.cells.Formed) : OutFormed (execRemoteResponse k s) := by
  unfold execRemoteResponse
  split
  · simpa using h
  · dsimp only
    split
    · simp [h]
    · next o _ => cases o.req.ct <;> dsimp only <;> exact outFormed_of_ite (fun _ => by simp [h]) fun _ => by simp [h]

theorem outFormed_execOwnerBusyResend {id : Nat} {s : State} (h : s.cells.Formed) : OutFormed (execOwnerBusyResend id s) := by
  unfold execOwnerBusyResend
  split <;> simp [h]

theorem outFormed_execStandaloneAck {h : Rh} {owner : BitVec 10} {s : State} (hs : s.cells.Formed) :
    OutFormed (execStandaloneAck h owner s) := by
  simp [execStandaloneAck, hs]

theorem outFormed_execHostCompletionTimeout {id : Nat} {s : State} (h : s.cells.Formed) : OutFormed (execHostCompletionTimeout id s) := by
  unfold execHostCompletionTimeout
  split
  · simp [h]
  · split <;> simp [h]

theorem outFormed_execWalkComplete {k : Nat} {s : State} (h : s.cells.Formed) : OutFormed (execWalkComplete k s) := by
  simp [execWalkComplete, h]

theorem outFormed_execDirectoryEviction {line : Nat} {s : State} (h : s.cells.Formed) : OutFormed (execDirectoryEviction line s) := by
  simp [execDirectoryEviction, h]

/-! ### Machine/Collective.lean -/

theorem outFormed_recLoad {w : Who} {r va n : Nat} {s : State} {k : List Byte → State → Out} (h : s.cells.Formed)
    (hk : ∀ bs u, u.cells.Formed → OutFormed (k bs u)) : OutFormed (recLoad w r va n s k) := by
  refine outFormed_heldOp h fun u hu => ?_
  dsimp only
  split
  · exact hk _ u hu
  · split
    · simp [hu]
    · simp [hu]
    · rw [outFormed_next]
      exact formed_foldl (fun _ _ hv => by simp [hv]) hu

theorem outFormed_collOp {i : Instr} {s : State} {k : Who → Nat → Out} (h : s.cells.Formed) (hk : ∀ w n, OutFormed (k w n)) :
    OutFormed (collOp i s k) :=
  outFormed_onTile h fun w n => outFormed_of_ite (fun _ => by simpa using h) fun _ => hk w n

theorem outFormed_collRec {i : Instr} {x : BitVec 6} {s : State} {k : Who → Nat → List Byte → State → Out} (h : s.cells.Formed)
    (hk : ∀ w n bs u, u.cells.Formed → OutFormed (k w n bs u)) : OutFormed (collRec i x s k) :=
  outFormed_collOp h fun w n => outFormed_of_ite (fun _ => by simp [h]) fun _ => outFormed_recLoad h (hk w n)

theorem outFormed_execCcomm {x : BitVec 6} {s : State} (h : s.cells.Formed) : OutFormed (execCcomm x s) := by
  refine outFormed_collRec h fun w n bs u hu => outFormed_of_ite (fun _ => by simp [hu]) fun _ => ?_
  split
  · simp [hu]
  · refine outFormed_of_ite (fun _ => ?_) fun _ => ?_
    · split
      · simp [hu]
      · split <;> simp [hu]
    · split
      · simp [hu]
      · dsimp only
        split <;> simp [hu]

theorem outFormed_execCstart {x : BitVec 6} {s : State} (h : s.cells.Formed) : OutFormed (execCstart x s) := by
  refine outFormed_collRec h fun w n bs u hu => outFormed_of_ite (fun _ => by simp [hu]) fun _ => ?_
  split
  · simp [hu]
  · refine outFormed_of_ite (fun _ => by simp [hu]) fun _ => outFormed_of_ite (fun _ => by simp [hu]) fun _ =>
      outFormed_recLoad hu fun pb v hv => outFormed_recLoad hv fun db x hx => outFormed_of_ite (fun _ => by simp [hx]) fun _ =>
        outFormed_withCounts hx fun y hy => by simp [hy]

theorem outFormed_execCfree {x : BitVec 6} {s : State} (h : s.cells.Formed) : OutFormed (execCfree x s) := by
  refine outFormed_collOp h fun _ _ => ?_
  split <;> simp [h]

theorem outFormed_execSendStagingReady {c : Nat} {s : State} (h : s.cells.Formed) : OutFormed (execSendStagingReady c s) := by
  unfold execSendStagingReady
  refine outFormed_of_ite (fun _ => by simpa using h) fun _ => ?_
  split
  · simpa using h
  · next st _ =>
    have hc := formed_chunkData s c st h
    dsimp only
    split <;> next e => rw [e] at hc; simpa using hc

theorem outFormed_execChunkSend {q : BitVec 2} {s : State} (h : s.cells.Formed) : OutFormed (execChunkSend q s) := by
  unfold execChunkSend
  dsimp only
  split
  · simp [h]
  · split <;> simp [h]

theorem outFormed_onColl {s : State} {k : Nat → Comm → Out} (h : s.cells.Formed) (hk : ∀ c x, OutFormed (k c x)) :
    OutFormed (onColl s k) := by
  unfold onColl
  split
  · exact outFormed_of_ite (fun _ => hk _ _) fun _ => by simpa using h
  · simpa using h

theorem outFormed_blockStep {c : Nat} {x : Comm} {ls : BitVec 2} {pa : BitVec 8} {pb : BitVec 20} {buf : BitVec 4} {ba : BitVec 8}
    {bb : BitVec 12} {s : State} {k : Nat → BitVec 256 → Nat → Nat → Out} (h : s.cells.Formed) (hk : ∀ p d lo n, OutFormed (k p d lo n)) :
    OutFormed (blockStep c x ls pa pb buf ba bb s k) :=
  outFormed_of_ite (fun _ => by simp [h]) fun _ => outFormed_of_ite (fun _ => by simp [h]) fun _ =>
    outFormed_of_ite (fun _ => by simp [h]) fun _ => hk _ _ _ _

@[simp] theorem outFormed_recvStep {kind : StepKind} {ls : BitVec 2} {pa : BitVec 8} {pb : BitVec 20} {buf : BitVec 4} {ba : BitVec 8}
    {bb : BitVec 12} {send : Comm → Nat → Nat → BitVec 256 → Comm × Nat × Nat} {s : State} (h : s.cells.Formed) :
    OutFormed (recvStep kind ls pa pb buf ba bb send s) := by
  refine outFormed_onColl h fun c x => ?_
  split
  · simp [h]
  · refine outFormed_of_ite (fun _ => by simpa using h) fun _ => outFormed_blockStep h fun peer d lo n => ?_
    dsimp only
    split
    · simp [h]
    · next e =>
      have hu := formed_armed e h
      simp [hu]

theorem outFormed_execSend {ls : BitVec 2} {pa : BitVec 8} {pb : BitVec 20} {buf : BitVec 4} {wide : Bool} {ba : BitVec 8}
    {bb : BitVec 12} {s : State} (h : s.cells.Formed) : OutFormed (execSend ls pa pb buf wide ba bb s) := by
  refine outFormed_onColl h fun c x => ?_
  split
  · simp [h]
  · exact outFormed_of_ite (fun _ => by simpa using h) fun _ => outFormed_blockStep h fun _ _ _ _ => by simp [h]

theorem outFormed_execCollCopy {ls : BitVec 2} {dst src : BitVec 4} {ba : BitVec 8} {bb : BitVec 12} {s : State} (h : s.cells.Formed) :
    OutFormed (execCollCopy ls dst src ba bb s) := by
  refine outFormed_onColl h fun c x => ?_
  dsimp only
  split
  · exact outFormed_of_ite (fun _ => by simp [h]) fun _ => by simp [h]
  · refine outFormed_of_ite (fun _ => by simpa using h) fun _ => outFormed_of_ite (fun _ => by simp [h]) fun _ =>
      outFormed_of_ite (fun _ => by simp [h]) fun _ => outFormed_of_ite (fun _ => by simp [h]) fun _ =>
      outFormed_of_ite (fun _ => by simp [h]) fun _ => ?_
    split
    · simp [h]
    · next e => simpa [cells_collArm e] using h

theorem outFormed_execBcast {buf : BitVec 4} {root : BitVec 20} {s : State} (h : s.cells.Formed) : OutFormed (execBcast buf root s) := by
  refine outFormed_onColl h fun c x => ?_
  dsimp only
  split
  · simp [h]
  · refine outFormed_of_ite (fun _ => by simpa using h) fun _ => outFormed_of_ite (fun _ => by simp [h]) fun _ =>
      outFormed_of_ite (fun _ => by simp [h]) fun _ => ?_
    split
    · simp [h]
    · next e =>
      have hu := formed_armed e h
      simp [hu]

theorem outFormed_execXpose {buf : BitVec 4} {s : State} (h : s.cells.Formed) : OutFormed (execXpose buf s) := by
  refine outFormed_onColl h fun c x => ?_
  dsimp only
  split
  · simp [h]
  · refine outFormed_of_ite (fun _ => by simpa using h) fun _ => outFormed_of_ite (fun _ => by simp [h]) fun _ =>
      outFormed_of_ite (fun _ => by simp [h]) fun _ => ?_
    split
    · next e =>
      have hu := KRes.formed_of_eq_ok e (formed_bufRead h)
      refine outFormed_of_ite (fun _ => by simp [hu]) fun _ => outFormed_of_ite (fun _ => by simp [hu]) fun _ => ?_
      split
      · simp [hu]
      · next e' =>
        have hv := hu
        rw [← cells_collArm e'] at hv
        simp [hv]
    · simp [h]

theorem outFormed_execCollNop {s : State} (h : s.cells.Formed) : OutFormed (execCollNop s) := by
  refine outFormed_onColl h fun _ _ => ?_
  simp [h]

theorem outFormed_execWait {buf : BitVec 4} {n : BitVec 24} {s : State} (h : s.cells.Formed) : OutFormed (execWait buf n s) := by
  refine outFormed_onColl h fun _ _ => ?_
  dsimp only
  split
  · simp [h]
  · split
    · simp [h]
    · split
      · simp [h]
      · split
        · simp [h]
        · split <;> simp [h]

theorem outFormed_execSignal {buf : BitVec 4} {n : BitVec 24} {s : State} (h : s.cells.Formed) : OutFormed (execSignal buf n s) := by
  refine outFormed_onColl h fun _ _ => ?_
  split <;> simp [h]

theorem outFormed_execLoop {ls : BitVec 2} {limit : BitVec 24} {s : State} (h : s.cells.Formed) : OutFormed (execLoop ls limit s) := by
  refine outFormed_onColl h fun _ _ => ?_
  simp [h]

theorem outFormed_execEndl {ls : BitVec 2} {s : State} (h : s.cells.Formed) : OutFormed (execEndl ls s) := by
  refine outFormed_onColl h fun _ _ => ?_
  split <;> simp [h]

theorem outFormed_execChunkArrival {k : Nat} {s : State} (h : s.cells.Formed) : OutFormed (execChunkArrival k s) := by
  unfold execChunkArrival
  split
  · simpa using h
  · refine outFormed_of_ite (fun _ => by simpa using h) fun _ => ?_
    dsimp only
    split
    · simp [h]
    · split
      · simp [h]
      · exact outFormed_of_ite (fun _ => by simp [h]) fun _ => by simpa using h

theorem outFormed_execCreditReturn {k : Nat} {s : State} (h : s.cells.Formed) : OutFormed (execCreditReturn k s) := by
  unfold execCreditReturn
  split
  · simpa using h
  · refine outFormed_of_ite (fun _ => by simpa using h) fun _ => ?_
    dsimp only
    split
    · simp [h]
    · split
      · simp [h]
      · simp [h]

theorem outFormed_execFlush {c : Nat} {s : State} (h : s.cells.Formed) : OutFormed (execFlush c s) := by
  unfold execFlush
  dsimp only
  split
  · simpa using h
  · exact outFormed_of_ite (fun _ => by simp [h]) fun _ => by simpa using h

theorem outFormed_execCollectiveWatchdog {c : Nat} {s : State} (h : s.cells.Formed) : OutFormed (execCollectiveWatchdog c s) := by
  simp [execCollectiveWatchdog, h]

/-! ### Machine/Orrery.lean -/

theorem outFormed_onCommand {code : Nat} {s : State} {k : List Byte → BitVec 14 → State} (h : s.cells.Formed)
    (hk : ∀ e a, (k e a).cells.Formed) : OutFormed (onCommand code s k) := by
  unfold onCommand
  split
  · simpa using h
  · exact outFormed_of_ite (fun _ => by simpa using hk _ _) fun _ => outFormed_of_ite (fun _ => by simp [h]) fun _ => by simpa using h

theorem outFormed_execCreateEvent {s : State} (h : s.cells.Formed) : OutFormed (execCreateEvent s) := by
  refine outFormed_onCommand h fun _ _ => ?_
  split <;> simp [h]

theorem outFormed_execDestroyEvent {s : State} (h : s.cells.Formed) : OutFormed (execDestroyEvent s) := by
  refine outFormed_onCommand h fun _ _ => ?_
  simp [h]

theorem outFormed_execDestroyGraph {s : State} (h : s.cells.Formed) : OutFormed (execDestroyGraph s) := by
  refine outFormed_onCommand h fun _ _ => ?_
  simp [h]

theorem outFormed_execLaunch {s : State} (h : s.cells.Formed) : OutFormed (execLaunch s) := by
  refine outFormed_onCommand h fun e a => formed_of_ite (fun _ => by simp [h]) fun _ => formed_of_ite (fun _ => by simp [h]) fun _ => ?_
  split
  · next eq => exact formed_cmdDone (by rw [cells_queueInst eq]; exact h)
  · simp [h]

theorem outFormed_execBindCompletionEvent {s : State} (h : s.cells.Formed) : OutFormed (execBindCompletionEvent s) := by
  refine outFormed_onCommand h fun _ _ => ?_
  simp [h]

theorem outFormed_execCommandRingConfigWrite {size : Bool} {v : BitVec 64} {s : State} (h : s.cells.Formed) :
    OutFormed (execCommandRingConfigWrite size v s) := by
  simp [execCommandRingConfigWrite, h]

theorem outFormed_execRegisterGraph {s : State} (h : s.cells.Formed) : OutFormed (execRegisterGraph s) := by
  refine outFormed_onCommand h fun e a => formed_of_ite (fun _ => by simp [h]) fun _ => formed_ringRead (fun db u hu => ?_) h
  refine formed_of_ite (fun _ => by simp [hu]) fun _ => formed_ringRead (fun nb v hv => ?_) hu
  refine formed_of_ite (fun _ => by simp [hv]) fun _ => formed_askEdges (fun w hw => formed_readImages (fun ns y hy => ?_) _ _ w hw) hv
  refine formed_of_ite (fun _ => by simp [hy]) fun _ => ?_
  split <;> simp [hy]

theorem outFormed_execReplayStart {g : Nat} {s : State} (h : s.cells.Formed) : OutFormed (execReplayStart g s) := by
  unfold execReplayStart
  split
  · simp [h]
  · split <;> simp [h]

theorem outFormed_execNodeReady {g n : Nat} {s : State} (h : s.cells.Formed) : OutFormed (execNodeReady g n s) := by
  unfold execNodeReady
  split
  · dsimp only
    refine outFormed_of_ite (fun _ => by simpa using h) fun _ => outFormed_of_ite (fun _ => by simp [h]) fun _ =>
      outFormed_of_ite (fun _ => by simp [h]) fun _ => outFormed_of_ite (fun _ => ?_) fun _ => by simp [h]
    split
    · next e => simpa using PRes.formed_of_eq e (formed_accWrite h)
    · next e => simpa using PRes.formed_of_eq e (formed_accWrite h)
    · next e => simpa using PRes.formed_of_eq e (formed_accWrite h)
  · simpa using h

theorem outFormed_execNodeComplete {g n : Nat} {s : State} (h : s.cells.Formed) : OutFormed (execNodeComplete g n s) := by
  unfold execNodeComplete
  split
  · split <;> simp [h]
  · simp [h]

/-! ### Machine/Context.lean -/

theorem outFormed_execSaveContext {h : Rh} {s : State} (hs : s.cells.Formed) : OutFormed (execSaveContext h s) := by
  unfold execSaveContext
  dsimp only
  split
  · exact outFormed_of_ite (fun _ => by simpa using hs) fun _ => by simp [hs]
  · split <;> simp [hs]
  · simpa using hs

theorem outFormed_execRestoreContext {h : Rh} {s : State} (hs : s.cells.Formed) : OutFormed (execRestoreContext h s) := by
  unfold execRestoreContext
  dsimp only
  split
  · refine outFormed_of_ite (fun _ => by simp [hs]) fun _ => ?_
    simp [hs]
  · simpa using hs

/-! ### Machine/Placement.lean -/

theorem outFormed_execPlaceTask {s : State} (h : s.cells.Formed) : OutFormed (execPlaceTask s) := by
  unfold execPlaceTask
  split
  · split <;> simp [h]
  · simp [h]

theorem outFormed_execResumeSavedTask {s : State} (h : s.cells.Formed) : OutFormed (execResumeSavedTask s) := by
  unfold execResumeSavedTask
  split <;> simp [h]

theorem outFormed_execOrreryPreempt {s : State} (h : s.cells.Formed) : OutFormed (execOrreryPreempt s) := by
  unfold execOrreryPreempt
  split <;> simp [h]

theorem outFormed_execLoadingComplete {h : Rh} {s : State} (hs : s.cells.Formed) : OutFormed (execLoadingComplete h s) := by
  simp [execLoadingComplete, hs]

theorem outFormed_execDrain {h : Rh} {s : State} (hs : s.cells.Formed) : OutFormed (execDrain h s) := by
  unfold execDrain
  refine outFormed_of_ite (fun _ => by simpa using hs) fun _ => ?_
  simp only [outFormed_next, cells_freeRes, cells_dropOps]
  split
  · split <;> simp [hs]
  · simp [hs]

theorem outFormed_execTaskReplay {k : Nat} {s : State} (h : s.cells.Formed) : OutFormed (execTaskReplay k s) := by
  unfold execTaskReplay
  split
  · simpa using h
  · dsimp only
    split
    · simp [h]
    · exact outFormed_of_ite (fun _ => by simp [h]) fun _ => by simp [h]

theorem outFormed_execDeferredSupervisorWrite {h : Rh} {s : State} (hs : s.cells.Formed) : OutFormed (execDeferredSupervisorWrite h s) := by
  simp [execDeferredSupervisorWrite, hs]

theorem outFormed_execDiectlFence {die : BitVec 2} {v : BitVec 64} {s : State} (h : s.cells.Formed) :
    OutFormed (execDiectlFence die v s) := by
  simp [execDiectlFence, h]

theorem outFormed_execDiectlRejoin {die : BitVec 2} {v : BitVec 64} {s : State} (h : s.cells.Formed) :
    OutFormed (execDiectlRejoin die v s) := by
  simp [execDiectlRejoin, h]

theorem outFormed_execDieRejoinComplete {die : BitVec 2} {s : State} (h : s.cells.Formed) : OutFormed (execDieRejoinComplete die s) := by
  simp [execDieRejoinComplete, h]

/-! ### Machine/Supervisor.lean -/

theorem outFormed_onSupv {i : Instr} {s : State} {k : Nat → Out} (h : s.cells.Formed) (hk : ∀ c, OutFormed (k c)) :
    OutFormed (onSupv i s k) :=
  outFormed_onScalar h fun w => by
    cases w with
    | sv c => exact hk c
    | task n e => simp [h]

theorem outFormed_onResident {c : Nat} {d : BitVec 6} {hd : Word} {ok : Bool} {s : State} {k : Nat → State × Nat} (h : s.cells.Formed)
    (hk : ∀ n, (k n).1.cells.Formed) : OutFormed (onResident c d hd ok s k) :=
  outFormed_of_ite (fun _ => by simp [h]) fun _ => outFormed_of_ite (fun _ => by simp [h]) fun _ => by simpa using hk _

theorem outFormed_execRdr {d a b : BitVec 6} {s : State} (h : s.cells.Formed) : OutFormed (execRdr d a b s) := by
  refine outFormed_onSupv h fun _ => ?_
  dsimp only
  split
  · simp [h]
  · split <;> simp [h]

theorem outFormed_execWrr {d a b : BitVec 6} {s : State} (h : s.cells.Formed) : OutFormed (execWrr d a b s) := by
  refine outFormed_onSupv h fun _ => ?_
  simp [h]

theorem outFormed_execResume {d a b : BitVec 6} {s : State} (h : s.cells.Formed) : OutFormed (execResume d a b s) :=
  outFormed_onSupv h fun _ => outFormed_onResident h fun n => by simp [h]

theorem outFormed_execPreempt {d a : BitVec 6} {s : State} (h : s.cells.Formed) : OutFormed (execPreempt d a s) :=
  outFormed_onSupv h fun _ => outFormed_onResident h fun n => by split <;> simp [h]

theorem outFormed_execTeardown {d a : BitVec 6} {s : State} (h : s.cells.Formed) : OutFormed (execTeardown d a s) :=
  outFormed_onSupv h fun _ => outFormed_onResident h fun n => by split <;> simp [h]

theorem outFormed_execTlbi {d a b : BitVec 6} {s : State} (h : s.cells.Formed) : OutFormed (execTlbi d a b s) := by
  refine outFormed_onSupv h fun _ => ?_
  simp [h]

theorem outFormed_execCresume {d a : BitVec 6} {s : State} (h : s.cells.Formed) : OutFormed (execCresume d a s) := by
  refine outFormed_onSupv h fun _ => ?_
  split <;> simp [h]

theorem outFormed_execCabort {d a : BitVec 6} {s : State} (h : s.cells.Formed) : OutFormed (execCabort d a s) := by
  refine outFormed_onSupv h fun _ => ?_
  split <;> simp [h]

theorem outFormed_execWatchdog {h : Rh} {e : Eng} {s : State} (hs : s.cells.Formed) : OutFormed (execWatchdog h e s) := by
  unfold execWatchdog
  dsimp only
  split
  · simpa using hs
  · split
    · simpa using hs
    · exact outFormed_of_ite (fun _ => by simp [hs]) fun _ => by simpa using hs

theorem outFormed_execFaultRecordWrite {core : BitVec 3} {s : State} (h : s.cells.Formed) : OutFormed (execFaultRecordWrite core s) := by
  unfold execFaultRecordWrite
  dsimp only
  split
  · simpa using h
  · exact outFormed_of_ite (fun _ => by simpa using h) fun _ => by simp [h]

theorem outFormed_execSupervisorRestart {core : BitVec 3} {s : State} (h : s.cells.Formed) : OutFormed (execSupervisorRestart core s) := by
  simp [execSupervisorRestart, h]

/-! ### Machine/Fabric.lean -/

theorem outFormed_execCodewordReplay {lane : BitVec 12} {again : Replay} {s : State} (h : s.cells.Formed) :
    OutFormed (execCodewordReplay lane again s) := by
  unfold execCodewordReplay
  dsimp only
  split
  · simpa using h
  · exact outFormed_of_ite (fun _ => by simpa using h) fun _ => by simp [h]

theorem outFormed_execPortDown {port : BitVec 6} {s : State} (h : s.cells.Formed) : OutFormed (execPortDown port s) := by
  simp [execPortDown, h]

theorem outFormed_execPrep {port : BitVec 6} {v : BitVec 64} {s : State} (h : s.cells.Formed) : OutFormed (execPrep port v s) := by
  simp [execPrep, h]

theorem outFormed_execEnable {port : BitVec 6} {v : BitVec 64} {s : State} (h : s.cells.Formed) : OutFormed (execEnable port v s) := by
  simp [execEnable, h]

theorem outFormed_execPortDrained {port : BitVec 6} {s : State} (h : s.cells.Formed) : OutFormed (execPortDrained port s) := by
  simp [execPortDrained, h]

theorem outFormed_execTrainingComplete {port : BitVec 6} {peer : BitVec 10} {inc : BitVec 16} {s : State} (h : s.cells.Formed) :
    OutFormed (execTrainingComplete port peer inc s) := by
  simp [execTrainingComplete, h]

theorem outFormed_execLaneRemap {v : BitVec 64} {s : State} (h : s.cells.Formed) : OutFormed (execLaneRemap v s) := by
  simp [execLaneRemap, h]

theorem outFormed_execTelemetryLatch {s : State} (h : s.cells.Formed) : OutFormed (execTelemetryLatch s) := by
  simp [execTelemetryLatch, h]

theorem outFormed_execRetransmitTimeout {peer : BitVec 10} {seq : BitVec 32} {s : State} (h : s.cells.Formed) :
    OutFormed (execRetransmitTimeout peer seq s) := by
  unfold execRetransmitTimeout
  split <;> simp [h]

theorem outFormed_execRouteLost (peer : BitVec 10) (seq : BitVec 32) (_port : BitVec 6) (s : State) (h : s.cells.Formed) :
    OutFormed (execRouteLost peer seq _port s) := by
  simp [execRouteLost, h]

theorem outFormed_execTransportAck {peer : BitVec 10} {cum : BitVec 32} {sel : BitVec 64} {s : State} (h : s.cells.Formed) :
    OutFormed (execTransportAck peer cum sel s) := by
  simp [execTransportAck, h]

theorem outFormed_execPacketArrival {p : Packet} {s : State} (h : s.cells.Formed) : OutFormed (execPacketArrival p s) := by
  simp [execPacketArrival, h]

/-! ### Machine/Platform.lean -/

theorem outFormed_execHostWrite {port bar0 : Bool} {pa : BitVec 40} {bytes : List (BitVec 8)} {ro : Bool} {s : State} (h : s.cells.Formed) :
    OutFormed (execHostWrite port bar0 pa bytes ro s) := by
  simp [execHostWrite, h]

theorem outFormed_execHostRead {port bar0 : Bool} {pa : BitVec 40} {n : Nat} {s : State} (h : s.cells.Formed) :
    OutFormed (execHostRead port bar0 pa n s) := by
  simp [execHostRead, h]

theorem outFormed_execHostAtomic {port : Bool} {pa : BitVec 40} {h : BitVec 5} {op0 op1 : BitVec 128} {s : State} (hs : s.cells.Formed) :
    OutFormed (execHostAtomic port pa h op0 op1 s) := by
  simp [execHostAtomic, hs]

theorem outFormed_execBoot {s : State} (h : s.cells.Formed) : OutFormed (execBoot s) := by
  simp [execBoot, h]

theorem outFormed_execPackageReset (s : State) : OutFormed (execPackageReset s) := by
  simp [execPackageReset]

theorem outFormed_onCall {core : BitVec 3} {code : Nat} {s : State} {k : (Nat → Nat) → State × Byte} (h : s.cells.Formed)
    (hk : ∀ a, (k a).1.cells.Formed) : OutFormed (onCall core code s k) :=
  outFormed_of_ite (fun _ => by simpa using hk _) fun _ => by simpa using h

theorem outFormed_execLoadHandlerSlot {core : BitVec 3} {s : State} (h : s.cells.Formed) : OutFormed (execLoadHandlerSlot core s) := by
  unfold execLoadHandlerSlot
  refine outFormed_of_ite (fun _ => by simpa using h) fun _ => outFormed_onCall h fun a => ?_
  dsimp only
  split
  · exact h
  · split <;> simp [h]

theorem outFormed_execWriteAsidEntry {core : BitVec 3} {s : State} (h : s.cells.Formed) : OutFormed (execWriteAsidEntry core s) := by
  refine outFormed_onCall h fun _ => ?_
  split <;> simp [h]

theorem outFormed_execWriteAccessRight {core : BitVec 3} {s : State} (h : s.cells.Formed) : OutFormed (execWriteAccessRight core s) := by
  refine outFormed_onCall h fun _ => ?_
  split <;> simp [h]

theorem outFormed_execFenceDieCall {core : BitVec 3} {s : State} (h : s.cells.Formed) : OutFormed (execFenceDieCall core s) := by
  refine outFormed_onCall h fun _ => ?_
  split
  · simp [h]
  · split <;> simp [h]

theorem outFormed_execRejoinDieCall {core : BitVec 3} {s : State} (h : s.cells.Formed) : OutFormed (execRejoinDieCall core s) := by
  refine outFormed_onCall h fun _ => ?_
  split
  · simp [h]
  · split <;> simp [h]

theorem outFormed_execWriteLlcpin {core : BitVec 3} {s : State} (h : s.cells.Formed) : OutFormed (execWriteLlcpin core s) := by
  refine outFormed_onCall h fun _ => ?_
  split <;> simp [h]

theorem outFormed_execRetireHbmRegion {core : BitVec 3} {s : State} (h : s.cells.Formed) : OutFormed (execRetireHbmRegion core s) := by
  refine outFormed_onCall h fun _ => ?_
  split <;> simp [h]

theorem outFormed_execSetMasterClass {core : BitVec 3} {s : State} (h : s.cells.Formed) : OutFormed (execSetMasterClass core s) := by
  refine outFormed_onCall h fun _ => ?_
  split <;> simp [h]

theorem outFormed_execRegisterWrite {cls : BitVec 6} {off : BitVec 24} {v : BitVec 64} {s : State} (h : s.cells.Formed) :
    OutFormed (execRegisterWrite cls off v s) := by
  simp [execRegisterWrite, h]

theorem outFormed_execLlcpinWrite {q : BitVec 2} {v : BitVec 64} {s : State} (h : s.cells.Formed) : OutFormed (execLlcpinWrite q v s) := by
  simp [execLlcpinWrite, h]

theorem outFormed_execDvfsWrite {cls : BitVec 6} {die : BitVec 2} {v : BitVec 64} {s : State} (h : s.cells.Formed) :
    OutFormed (execDvfsWrite cls die v s) := by
  simp [execDvfsWrite, h]

theorem outFormed_execCounterCtlWrite {off : BitVec 24} {v : BitVec 64} {s : State} (h : s.cells.Formed) :
    OutFormed (execCounterCtlWrite off v s) := by
  simp [execCounterCtlWrite, h]

theorem outFormed_execPowerCapStep {die : BitVec 2} {watts : Nat} {s : State} (h : s.cells.Formed) :
    OutFormed (execPowerCapStep die watts s) := by
  simp [execPowerCapStep, h]

theorem outFormed_execUncorrectableError {e : ErrorPlace} {s : State} (h : s.cells.Formed) : OutFormed (execUncorrectableError e s) := by
  unfold execUncorrectableError
  split
  · exact outFormed_of_ite (fun _ => by simp [h]) fun _ => by simpa using h
  · exact outFormed_of_ite (fun _ => by simp [h]) fun _ => by simpa using h
  · next p _ _ _ =>
    cases p <;> dsimp only
    · refine outFormed_of_ite (fun _ => by simp [h]) fun _ => ?_
      split <;> simp [h]
    · refine outFormed_of_ite (fun _ => by simpa using h) fun _ => ?_
      split <;> simp [h]

theorem outFormed_execPatrolScrub {line : Nat} {err : BitVec 2} {s : State} (h : s.cells.Formed) :
    OutFormed (execPatrolScrub line err s) := by
  unfold execPatrolScrub
  split
  · simp [h]
  · split <;> simp [h]

theorem outFormed_execRegionRetirement {region : Nat} {s : State} (h : s.cells.Formed) : OutFormed (execRegionRetirement region s) := by
  simp [execRegionRetirement, h]

theorem outFormed_execFlitRetry {link : BitVec 8} {again : Bool} {s : State} (h : s.cells.Formed) :
    OutFormed (execFlitRetry link again s) := by
  simp [execFlitRetry, h]

theorem outFormed_execLinkFence {link : BitVec 8} {s : State} (h : s.cells.Formed) : OutFormed (execLinkFence link s) := by
  simp [execLinkFence, h]

/-! ### Machine/Engines.lean -/

theorem outFormed_execBlockLimit {t : Tid} {e : Eng} {s : State} (h : s.cells.Formed) : OutFormed (execBlockLimit t e s) := by
  unfold execBlockLimit
  split <;> simp [h]

theorem outFormed_execUnsettledLimit {p : Prog} {s : State} (h : s.cells.Formed) : OutFormed (execUnsettledLimit p s) := by
  unfold execUnsettledLimit
  split <;> simp [h]

theorem outFormed_execClockGate {t : Tid} {e : Eng} {s : State} (h : s.cells.Formed) : OutFormed (execClockGate t e s) := by
  simp [execClockGate, h]

theorem outFormed_execIdleEngineWake {t : Tid} {e : Eng} {s : State} (h : s.cells.Formed) : OutFormed (execIdleEngineWake t e s) := by
  simp [execIdleEngineWake, h]

theorem outFormed_execIllegalInstruction {w : BitVec 64} {s : State} (h : s.cells.Formed) : OutFormed (execIllegalInstruction w s) := by
  unfold execIllegalInstruction
  split
  · simp [h]
  · split <;> simp [h]

end Sys2Proof.Machine
end

section
/-!
Every step keeps the canonical form of memory (O56); what reset leaves (O55).
-/

namespace Sys2Proof.Machine
open Sys2Proof

/-- The arms in the order of `exec`. An arm names the instruction's meaning where it shares its lemma with others and passes it a function. -/
theorem outFormed_exec {s : State} (h : s.cells.Formed) : ∀ i : Instr, OutFormed (exec i s)
  | .nop => outFormed_execNop h
  | .add .. | .sub .. | .and .. | .or .. | .xor .. => outFormed_aluOp h
  | .shl .. => (outFormed_aluOp h : OutFormed (execShl ..))
  | .shr .. => (outFormed_aluOp h : OutFormed (execShr ..))
  | .sra .. => (outFormed_aluOp h : OutFormed (execSra ..))
  | .slt .. => (outFormed_aluOp h : OutFormed (execSlt ..))
  | .sltu .. => (outFormed_aluOp h : OutFormed (execSltu ..))
  | .mul .. | .mulh .. | .mulhu .. | .div .. | .divu .. | .rem .. | .remu .. | .min .. | .max .. | .minu .. | .maxu .. => outFormed_aluOp h
  | .clz .. => (outFormed_aluOp1 h : OutFormed (execClz ..))
  | .ctz .. => (outFormed_aluOp1 h : OutFormed (execCtz ..))
  | .popc .. => (outFormed_aluOp1 h : OutFormed (execPopc ..))
  | .addi .. => (outFormed_aluOp1 h : OutFormed (execAddi ..))
  | .andi .. => (outFormed_aluOp1 h : OutFormed (execAndi ..))
  | .ori .. => (outFormed_aluOp1 h : OutFormed (execOri ..))
  | .xori .. => (outFormed_aluOp1 h : OutFormed (execXori ..))
  | .slti .. => (outFormed_aluOp1 h : OutFormed (execSlti ..))
  | .sltiu .. => (outFormed_aluOp1 h : OutFormed (execSltiu ..))
  | .shli .. => (outFormed_aluOp1 h : OutFormed (execShli ..))
  | .shri .. => (outFormed_aluOp1 h : OutFormed (execShri ..))
  | .srai .. => (outFormed_aluOp1 h : OutFormed (execSrai ..))
  | .muli .. => (outFormed_aluOp1 h : OutFormed (execMuli ..))
  | .lui .. => outFormed_execLui h
  | .addpc .. => outFormed_execAddpc h
  | .lds .. => (outFormed_scratchLoad h : OutFormed (execLds ..))
  | .sts .. => outFormed_execSts h
  | .ldg .. => (outFormed_globalLoad h : OutFormed (execLdg ..))
  | .stg .. => (outFormed_globalStore h : OutFormed (execStg ..))
  | .ldsZ .. => (outFormed_scratchLoad h : OutFormed (execLdsZ ..))
  | .ldgZ .. => (outFormed_globalLoad h : OutFormed (execLdgZ ..))
  | .ldgAcq .. => (outFormed_globalLoad h : OutFormed (execLdgAcq ..))
  | .ldgAcqZ .. => (outFormed_globalLoad h : OutFormed (execLdgAcqZ ..))
  | .stgRel .. => (outFormed_globalStore h : OutFormed (execStgRel ..))
  | .amo .. => (outFormed_scalarRemote h : OutFormed (execAmo ..))
  | .red .. => (outFormed_scalarRemote h : OutFormed (execRed ..))
  | .amoq .. => (outFormed_scalarRemote h : OutFormed (execAmoq ..))
  | .crr .. => outFormed_execCrr h
  | .crw .. => outFormed_execCrw h
  | .time .. => outFormed_execTime h
  | .trap .. => outFormed_execTrap h
  | .beq .. => (outFormed_branchOp h : OutFormed (execBeq ..))
  | .bne .. => (outFormed_branchOp h : OutFormed (execBne ..))
  | .blt .. => outFormed_branchOp h
  | .bge .. => (outFormed_branchOp h : OutFormed (execBge ..))
  | .bltu .. => outFormed_branchOp h
  | .bgeu .. => (outFormed_branchOp h : OutFormed (execBgeu ..))
  | .jump .. => outFormed_execJump h
  | .jal .. => outFormed_execJal h
  | .jalr .. => outFormed_execJalr h
  | .fork .. => outFormed_execFork h
  | .join => outFormed_execJoin h
  | .sEnd => outFormed_execSEnd h
  | .rett => outFormed_execRett h
  | .ccreate .. => outFormed_execCcreate h
  | .cjoin .. => outFormed_execCjoin h
  | .cleave .. => outFormed_execCleave h
  | .bar .. => outFormed_execBar h
  | .glaunch .. => outFormed_execGlaunch h
  | .rdr .. => outFormed_execRdr h
  | .wrr .. => outFormed_execWrr h
  | .resume .. => outFormed_execResume h
  | .preempt .. => outFormed_execPreempt h
  | .teardown .. => outFormed_execTeardown h
  | .tlbi .. => outFormed_execTlbi h
  | .cresume .. => outFormed_execCresume h
  | .cabort .. => outFormed_execCabort h
  | .rinit .. => outFormed_execRinit h
  | .rclaim .. => outFormed_execRclaim h
  | .rpub .. => outFormed_execRpub h
  | .rwfill .. => outFormed_execRwfill h
  | .rwfree .. => outFormed_execRwfree h
  | .rcons .. => outFormed_execRcons h
  | .rread .. => outFormed_execRread h
  | .raddr .. => outFormed_execRaddr h
  | .wmwait .. => outFormed_execWmwait h
  | .wmarm .. => outFormed_execWmarm h
  | .wmread .. => outFormed_execWmread h
  | .wmidle .. => outFormed_execWmidle h
  | .evsig .. => outFormed_execEvsig h
  | .evsigr .. => outFormed_execEvsigr h
  | .evwait .. => outFormed_execEvwait h
  | .evread .. => outFormed_execEvread h
  | .evset .. => outFormed_execEvset h
  | .evsetC .. => outFormed_execEvsetC h
  | .fenceX .. | .fenceXu .. => outFormed_fenceOp h
  | .sset .. => outFormed_execSset h
  | .sget .. => outFormed_execSget h
  | .sbind .. => outFormed_execSbind h
  | .sunbind .. => outFormed_execSunbind h
  | .ccomm .. => outFormed_execCcomm h
  | .cstart .. => outFormed_execCstart h
  | .cfree .. => outFormed_execCfree h
  | .vadd .. | .vsub .. | .vmul .. | .vmin .. | .vmax .. | .vand .. | .vor .. | .vxor .. | .vshl .. | .vshr .. | .vsra .. =>
    outFormed_onVec h fun _ => outFormed_vInt h
  | .vaddi .. | .vshli .. | .vshri .. | .vsrai .. => outFormed_onVec h fun _ => outFormed_vImm h
  | .vbr .. => outFormed_execVbr h
  | .vectorEnd => outFormed_execVectorEnd h
  | .vfadd .. | .vfsub .. | .vfmul .. => outFormed_onVec h fun _ => outFormed_vFloat h
  | .vfma .. => outFormed_onVec h fun _ => outFormed_vMap h
  | .vfmin .. | .vfmax .. => outFormed_onVec h fun _ => outFormed_vFloat h
  | .vfcmp .. | .vicmp .. => outFormed_onVec h fun _ => outFormed_vCompare h
  | .vdadd .. | .vdsub .. | .vdmul .. => outFormed_onVec h fun _ => outFormed_vFloat h
  | .vdfma .. => outFormed_onVec h fun _ => outFormed_vMap h
  | .vdmin .. | .vdmax .. => outFormed_onVec h fun _ => outFormed_vFloat h
  | .vdcmp .. => outFormed_onVec h fun _ => outFormed_vCompare h
  | .vsel .. => outFormed_onVec h fun _ => outFormed_vFixed h
  | .vdot .. | .vlmul .. | .vldiv .. | .vlpow .. => outFormed_onVec h fun _ => outFormed_vMap h
  | .vperm .. | .vcmpx .. | .vcmpxPayload .. | .vbcast .. | .vbcastD .. | .vextr .. | .vextrD .. =>
    outFormed_onVec h fun _ => outFormed_vFixed h
  | .vlds .. | .vsts .. | .vldg .. | .vstg .. => outFormed_onVec h fun _ => outFormed_vAccess h
  | .vslr .. | .vslw .. => outFormed_vSlab h
  | .vcvt .. | .vcvtSr .. => outFormed_onVec h fun _ => outFormed_vConvert h
  | .vgaths .. | .vscats .. | .vgathg .. | .vscatg .. | .vldsr .. | .vstsr .. | .vldgr .. | .vstgr .. =>
    outFormed_onVec h fun _ => outFormed_vAccess h
  | .waitc .. => outFormed_execWaitc h
  | .vamo .. => outFormed_execVamo h
  | .rep .. => outFormed_execRep h
  | .vmov .. | .vnot .. | .viabs .. | .vineg .. | .vfneg .. | .vfabs .. | .vdneg .. | .vdabs .. | .vclz .. | .vpopc .. | .vtolog ..
    | .vfromlog .. | .vexp2l .. | .vlog2f .. => outFormed_onVec h fun _ => outFormed_vUnary h
  | .mand .. | .mor .. | .mxor .. | .mandn .. | .mnot .. | .mmov .. => outFormed_onVec h fun _ => outFormed_vMaskOp h
  | .mpopc .. => outFormed_onVec h fun _ => outFormed_vFixed h
  | .vrsum .. | .vrmin .. | .vrmax .. | .vrfsum .. | .vrfmin .. | .vrfmax .. | .vrdsum .. | .vrdmin .. | .vrdmax .. =>
    outFormed_onVec h fun _ => outFormed_vReduce h
  | .kmov .. | .kadd .. | .ksub .. => outFormed_onVec h fun _ => outFormed_vKop h
  | .vpackE3m2 .. => outFormed_onVec h fun _ => outFormed_vPackW h
  | .vunpkE3m2 .. => outFormed_onVec h fun _ => outFormed_vUnpackW h
  | .vpack .. => outFormed_onVec h fun _ => outFormed_vPackW h
  | .vunpk .. => outFormed_onVec h fun _ => outFormed_vUnpackW h
  | .mma .. => (outFormed_dpIssue h : OutFormed (execMma ..))
  | .mmas .. => (outFormed_dpIssue h : OutFormed (execMmas ..))
  | .sbp .. => (outFormed_dpIssue h : OutFormed (execSbp ..))
  | .ephb .. => (outFormed_dpIssue h : OutFormed (execEphb ..))
  | .ephl .. => (outFormed_dpIssue h : OutFormed (execEphl ..))
  | .ephs .. => (outFormed_dpIssue h : OutFormed (execEphs ..))
  | .mzero .. => (outFormed_dpIssue h : OutFormed (execMzero ..))
  | .fft2 .. => (outFormed_dpIssue h : OutFormed (execFft2 ..))
  | .fft3 .. => (outFormed_dpIssue h : OutFormed (execFft3 ..))
  | .fft4 .. => (outFormed_dpIssue h : OutFormed (execFft4 ..))
  | .fft5 .. => (outFormed_dpIssue h : OutFormed (execFft5 ..))
  | .leg .. => (outFormed_dpIssue h : OutFormed (execLeg ..))
  | .legi .. => (outFormed_dpIssue h : OutFormed (execLegi ..))
  | .macq .. => (outFormed_dpIssue h : OutFormed (execMacq ..))
  | .mrel .. => (outFormed_dpIssue h : OutFormed (execMrel ..))
  | .nadd .. | .nsub .. | .nand .. | .nor .. | .nxor .. => outFormed_nalu h
  | .nshl .. => (outFormed_nalu h : OutFormed (execNshl ..))
  | .nshr .. => (outFormed_nalu h : OutFormed (execNshr ..))
  | .nsra .. => (outFormed_nalu h : OutFormed (execNsra ..))
  | .nmul .. => outFormed_nalu h
  | .nmin .. => (outFormed_nalu h : OutFormed (execNmin ..))
  | .nmax .. => (outFormed_nalu h : OutFormed (execNmax ..))
  | .nminu .. => (outFormed_nalu h : OutFormed (execNminu ..))
  | .nmaxu .. => (outFormed_nalu h : OutFormed (execNmaxu ..))
  | .naddi .. => outFormed_execNaddi h
  | .nseth .. => outFormed_execNseth h
  | .nget .. => outFormed_execNget h
  | .mbr .. => outFormed_execMbr h
  | .matrixEnd => outFormed_execMatrixEnd h
  | .mwake => outFormed_execMwake h
  | .cadd .. | .csub .. | .cand .. | .cor .. | .cxor .. => outFormed_calu h
  | .cshl .. => (outFormed_calu h : OutFormed (execCshl ..))
  | .cshr .. => (outFormed_calu h : OutFormed (execCshr ..))
  | .csra .. => (outFormed_calu h : OutFormed (execCsra ..))
  | .cmul .. => outFormed_calu h
  | .cmin .. => (outFormed_calu h : OutFormed (execCmin ..))
  | .cmax .. => (outFormed_calu h : OutFormed (execCmax ..))
  | .cminu .. => (outFormed_calu h : OutFormed (execCminu ..))
  | .cmaxu .. => (outFormed_calu h : OutFormed (execCmaxu ..))
  | .caddi .. => outFormed_execCaddi h
  | .cseth .. => outFormed_execCseth h
  | .copy .. | .copy2d .. | .cgath .. | .cscat .. | .fill .. | .pref .. => outFormed_xfIssue h
  | .clds .. => outFormed_execClds h
  | .cldg .. => outFormed_execCldg h
  | .cbr .. => outFormed_execCbr h
  | .copyEnd => outFormed_execCopyEnd h
  | .collNop => outFormed_execCollNop h
  | .send .. => outFormed_execSend h
  | .recv .. => (outFormed_recvStep h : OutFormed (execRecv ..))
  | .rrs .. => (outFormed_recvStep h : OutFormed (execRrs ..))
  | .rrf .. => (outFormed_recvStep h : OutFormed (execRrf ..))
  | .collCopy .. => outFormed_execCollCopy h
  | .bcast .. => outFormed_execBcast h
  | .xpose .. => outFormed_execXpose h
  | .wait .. => outFormed_execWait h
  | .signal .. => outFormed_execSignal h
  | .loop .. => outFormed_execLoop h
  | .endl .. => outFormed_execEndl h
  | .hnop => outFormed_execHnop h
  | .hld .. => outFormed_execHld h
  | .hst .. => outFormed_execHst h
  | .hli .. | .hlis .. | .hadd .. | .hsub .. | .hand .. | .hor .. | .hxor .. | .hshf .. | .hfadd .. | .hcmp .. | .hsel .. => outFormed_hop h
  | .hbr .. => outFormed_execHbr h
  | .hret .. => outFormed_execHret h
  | .hfail .. => outFormed_execHfail h
  | .blockLimit .. => outFormed_execBlockLimit h
  | .unsettledLimit .. => outFormed_execUnsettledLimit h
  | .clockGate .. => outFormed_execClockGate h
  | .idleEngineWake .. => outFormed_execIdleEngineWake h
  | .subarrayGate .. => outFormed_execSubarrayGate h
  | .datapathComplete .. => outFormed_execDatapathComplete h
  | .transferComplete .. => outFormed_execTransferComplete h
  | .vectorAccessComplete .. => outFormed_execVectorAccessComplete h
  | .loadComplete .. => outFormed_execLoadComplete h
  | .streamFetch .. => outFormed_execStreamFetch h
  | .streamStore .. => outFormed_execStreamStore h
  | .timerExpiry .. => outFormed_execTimerExpiry h
  | .timerInterrupt .. => outFormed_execTimerInterrupt h
  | .tcmpWrite .. => outFormed_execTcmpWrite h
  | .rctlWrite .. => outFormed_execRctlWrite h
  | .rngWrite .. => outFormed_execRngWrite h
  | .deferredFaultDelivery .. => outFormed_execDeferredFaultDelivery h
  | .watchdog .. => outFormed_execWatchdog h
  | .faultRecordWrite .. => outFormed_execFaultRecordWrite h
  | .faultQueueInterrupt .. => outFormed_execFaultQueueInterrupt h
  | .fqheadWrite .. => outFormed_execFqheadWrite h
  | .faultQueueConfigWrite .. => outFormed_execFaultQueueConfigWrite h
  | .supervisorFaultTrap .. => outFormed_execSupervisorFaultTrap h
  | .supervisorRestart .. => outFormed_execSupervisorRestart h
  | .placeTask => outFormed_execPlaceTask h
  | .loadingComplete .. => outFormed_execLoadingComplete h
  | .resumeSavedTask => outFormed_execResumeSavedTask h
  | .restoreContext .. => outFormed_execRestoreContext h
  | .saveContext .. => outFormed_execSaveContext h
  | .drain .. => outFormed_execDrain h
  | .deferredSupervisorWrite .. => outFormed_execDeferredSupervisorWrite h
  | .orreryPreempt => outFormed_execOrreryPreempt h
  | .replayStart .. => outFormed_execReplayStart h
  | .nodeReady .. => outFormed_execNodeReady h
  | .nodeComplete .. => outFormed_execNodeComplete h
  | .taskReplay .. => outFormed_execTaskReplay h
  | .eventUpdate .. => outFormed_execEventUpdate h
  | .registerGraph => outFormed_execRegisterGraph h
  | .destroyGraph => outFormed_execDestroyGraph h
  | .createEvent => outFormed_execCreateEvent h
  | .destroyEvent => outFormed_execDestroyEvent h
  | .launch => outFormed_execLaunch h
  | .bindCompletionEvent => outFormed_execBindCompletionEvent h
  | .commandRingConfigWrite .. => outFormed_execCommandRingConfigWrite h
  | .remoteRequest .. => outFormed_execRemoteRequest h
  | .remoteResponse .. => outFormed_execRemoteResponse h
  | .ownerBusyResend .. => outFormed_execOwnerBusyResend h
  | .standaloneAck .. => outFormed_execStandaloneAck h
  | .acknowledgement .. => outFormed_execAcknowledgement h
  | .retireAll .. => outFormed_execRetireAll h
  | .storeCommit .. => outFormed_execStoreCommit h
  | .wcBufferIssue .. => outFormed_execWcBufferIssue h
  | .walkComplete .. => outFormed_execWalkComplete h
  | .uncorrectableError .. => outFormed_execUncorrectableError h
  | .regionRetirement .. => outFormed_execRegionRetirement h
  | .flitRetry .. => outFormed_execFlitRetry h
  | .linkFence .. => outFormed_execLinkFence h
  | .diectlFence .. => outFormed_execDiectlFence h
  | .diectlRejoin .. => outFormed_execDiectlRejoin h
  | .llcpinWrite .. => outFormed_execLlcpinWrite h
  | .chunkSend .. => outFormed_execChunkSend h
  | .chunkArrival .. => outFormed_execChunkArrival h
  | .creditReturn .. => outFormed_execCreditReturn h
  | .flush .. => outFormed_execFlush h
  | .collectiveWatchdog .. => outFormed_execCollectiveWatchdog h
  | .packetArrival .. => outFormed_execPacketArrival h
  | .transportAck .. => outFormed_execTransportAck h
  | .retransmitTimeout .. => outFormed_execRetransmitTimeout h
  | .routeLost _ _ port => outFormed_execRouteLost _ _ port _ h
  | .codewordReplay .. => outFormed_execCodewordReplay h
  | .portDown .. => outFormed_execPortDown h
  | .prep .. => outFormed_execPrep h
  | .enable .. => outFormed_execEnable h
  | .portDrained .. => outFormed_execPortDrained h
  | .trainingComplete .. => outFormed_execTrainingComplete h
  | .laneRemap .. => outFormed_execLaneRemap h
  | .telemetryLatch => outFormed_execTelemetryLatch h
  | .hostWrite .. => outFormed_execHostWrite h
  | .hostRead .. => outFormed_execHostRead h
  | .hostAtomic .. => outFormed_execHostAtomic h
  | .hostCompletionTimeout .. => outFormed_execHostCompletionTimeout h
  | .boot => outFormed_execBoot h
  | .loadHandlerSlot .. => outFormed_execLoadHandlerSlot h
  | .writeAsidEntry .. => outFormed_execWriteAsidEntry h
  | .writeAccessRight .. => outFormed_execWriteAccessRight h
  | .fenceDieCall .. => outFormed_execFenceDieCall h
  | .rejoinDieCall .. => outFormed_execRejoinDieCall h
  | .writeLlcpin .. => outFormed_execWriteLlcpin h
  | .retireHbmRegion .. => outFormed_execRetireHbmRegion h
  | .setMasterClass .. => outFormed_execSetMasterClass h
  | .dvfsWrite .. => outFormed_execDvfsWrite h
  | .powerCapStep .. => outFormed_execPowerCapStep h
  | .counterCtlWrite .. => outFormed_execCounterCtlWrite h
  | .registerWrite .. => outFormed_execRegisterWrite h
  | .illegalInstruction .. => outFormed_execIllegalInstruction h
  | .writeLands .. => outFormed_execWriteLands h
  | .progressPointReached .. => outFormed_execProgressPointReached h
  | .subarrayWake .. => outFormed_execSubarrayWake h
  | .sendStagingReady .. => outFormed_execSendStagingReady h
  | .directoryEviction .. => outFormed_execDirectoryEviction h
  | .patrolScrub .. => outFormed_execPatrolScrub h
  | .dieRejoinComplete .. => outFormed_execDieRejoinComplete h
  | .packageReset => outFormed_execPackageReset s

/-- The state in which the boundaries before an instruction leave a program. -/
def Begin.state : Begin → State
  | .done s => s
  | .go s => s

@[simp] theorem Begin.state_done (s : State) : (Begin.done s).state = s := rfl
@[simp] theorem Begin.state_go (s : State) : (Begin.go s).state = s := rfl

@[simp] theorem Begin.state_ite (p : Prop) [Decidable p] (a b : Begin) : (if p then a else b).state = if p then a.state else b.state :=
  apply_ite Begin.state p a b

@[simp] theorem cells_transferBoundary (s : State) (t : Nat) (e : Eng) : (s.transferBoundary t e).state.cells = s.cells := by
  simp [State.transferBoundary]

@[simp] theorem cells_begin (s : State) (t : Nat) (e : Eng) : (s.begin t e).state.cells = s.cells := by
  unfold State.begin
  cases e with
  | s => simp
  | v => simp
  | m => cases hd : (s.res t).dp <;> simp [hd]
  | c => cases hd : (s.res t).xf <;> simp [hd]

theorem outFormed_runWord {s : State} (h : s.cells.Formed) {w : Who} {x : BitVec 32} : OutFormed (s.runWord w x) := by
  unfold State.runWord
  split
  · exact outFormed_of_ite (fun _ => by simpa using h) fun _ => outFormed_exec h _
  · exact outFormed_exec h _

theorem outFormed_fetchRun {s : State} (h : s.cells.Formed) {w : Who} : OutFormed (s.fetchRun w) := by
  unfold State.fetchRun
  dsimp only
  split
  · simp [h]
  · simp [h]
  · exact outFormed_runWord (by simp [h])

theorem outFormed_issueTask {s : State} (h : s.cells.Formed) {t : Nat} {e : Eng} : OutFormed (s.issueTask t e) := by
  have hb : (s.begin t e).state.cells.Formed := by simpa using h
  unfold State.issueTask
  cases eq : s.begin t e with
  | done u =>
    rw [eq] at hb
    simpa using hb
  | go u =>
    rw [eq] at hb
    have hu : u.cells.Formed := hb
    exact outFormed_of_ite (fun _ => outFormed_of_ite (fun _ => outFormed_exec hu _) fun _ => outFormed_of_ite (fun _ => outFormed_exec hu _) fun _ =>
      outFormed_of_ite (fun _ => by simpa using hu) fun _ => outFormed_fetchRun hu) fun _ => outFormed_fetchRun hu

theorem outFormed_issueSv {s : State} (h : s.cells.Formed) {c : Nat} : OutFormed (s.issueSv c) :=
  outFormed_of_ite (fun _ => by simpa using h) fun _ => outFormed_of_ite (fun _ => outFormed_exec h _) fun _ =>
    outFormed_of_ite (fun _ => outFormed_exec h _) fun _ => outFormed_of_ite (fun _ => by simpa using h) fun _ => outFormed_fetchRun h

theorem outFormed_issueColl {s : State} (h : s.cells.Formed) {c : Nat} : OutFormed (s.issueColl c) := by
  refine outFormed_of_ite (fun _ => by simpa using h) fun _ => ?_
  split
  · simp [h]
  · split
    · exact outFormed_exec h _
    · exact outFormed_exec h _

theorem outFormed_issueNear {s : State} (h : s.cells.Formed) {k : Nat} : OutFormed (s.issueNear k) := by
  unfold State.issueNear
  split
  · simpa using h
  · split
    · simpa using h
    · split
      · exact outFormed_exec h _
      · simpa using h

theorem outFormed_issue {s : State} (h : s.cells.Formed) : OutFormed s.issue := by
  unfold State.issue
  split
  · refine outFormed_of_ite (fun _ => outFormed_fault _) fun _ => ?_
    split
    · exact outFormed_issueTask h
    · exact outFormed_exec h _
  · exact outFormed_of_ite (fun _ => outFormed_fault _) fun _ => outFormed_issueSv h
  · exact outFormed_of_ite (fun _ => outFormed_fault _) fun _ => outFormed_issueColl h
  · exact outFormed_of_ite (fun _ => outFormed_fault _) fun _ => outFormed_issueNear h

/-- A move is an issue, an instruction or event of the agenda, or time passing. -/
theorem outFormed_move {s : State} (h : s.cells.Formed) : OutFormed s.move := by
  unfold State.move
  split
  · exact outFormed_issue h
  · next rest _ =>
    have hr : ({ s with agenda := rest } : State).cells.Formed := by simpa using h
    split
    · exact outFormed_issue (by simpa using h)
    · exact outFormed_of_ite (fun _ => outFormed_exec hr _) fun _ => (outFormed_next _).mpr hr
    · simpa using h

/-- Reset lists nothing in memory, in a scratchpad or among the handler runs. -/
theorem reset_cells_formed : State.reset.cells.Formed :=
  ⟨rfl, fun _ => rfl, fun _ _ e => by cases e⟩

/-- The register ranges hold at reset: no table lists an entry, and the entries read as 20 (the clock step) and 0. -/
theorem reset_keeps_ranges : Ranged State.reset := by
  refine ⟨by decide, fun _ => ?_, fun _ => ?_, fun _ => ?_, fun _ => ?_, fun _ => ⟨.inl rfl, rfl⟩, .inl rfl, rfl⟩
  · exact (by decide : 12 ≤ (20 : BitVec 5).toNat ∧ (20 : BitVec 5).toNat ≤ 22)
  · exact Nat.zero_le _
  · exact Nat.zero_le _
  · exact Nat.zero_le _

end Sys2Proof.Machine

open Sys2Proof Sys2Proof.Machine

/-- Settles O56: a step is a move, and every move from formed cells that leads to a state leads to formed cells. -/
theorem stepKeepsMemoryForm : Obligations.StepKeepsMemoryForm := by
  intro s t h e
  exact (formed_iff t).mpr (outFormed_move ((formed_iff s).mp h) t e)

/-- Settles O55: the tables and maps of reset list nothing, so each entry reads as its table's start. -/
theorem resetState : Obligations.ResetState := by
  refine ⟨(formed_iff _).mpr reset_cells_formed, reset_keeps_ranges, rfl, rfl, rfl, rfl, rfl, rfl, rfl, ?_, ?_, ?_, ?_, ?_, ?_, ?_, ?_, ?_⟩
  · exact fun h => ⟨rfl, rfl, fun w => by cases w <;> exact ⟨rfl, rfl, rfl⟩⟩
  · exact fun k => ⟨rfl, rfl, fun _ => rfl, fun _ => rfl, fun _ => ⟨rfl, (by decide : Chan.start.armed = false)⟩, fun _ => rfl⟩
  · exact fun c => ⟨rfl, rfl, rfl, rfl⟩
  · exact fun d => ⟨rfl, rfl⟩
  · exact fun p => rfl
  · exact fun k => ⟨rfl, rfl⟩
  · exact fun k => ⟨rfl, rfl, rfl, rfl⟩
  · exact fun sl => rfl
  · exact fun a => rfl

end

section
/-!
The scalar program: scratchpad accesses (R16, R133 to R135), compare and branch (R137), traps and the return from them (R24, R140, R141).
-/

namespace Sys2Proof.Machine
open Sys2Proof

/-! ## Addresses and extensions -/

/-- An integer sum with a sign-extended immediate, modulo 2^64, is the address the machine computes. -/
theorem ofInt_add_toInt {n : Nat} (x : Word) (i : BitVec n) : BitVec.ofInt 64 (x.toInt + i.toInt) = x + sx i := by
  rw [BitVec.ofInt_add, BitVec.ofInt_toInt, sx, BitVec.signExtend]

theorem branchTarget_eq {n : Nat} (pc : Addr) (o : BitVec n) : BitVec.ofInt 56 (pc.toNat + 4 * o.toInt) = branchTarget pc o := by
  rw [BitVec.ofInt_add, BitVec.ofInt_mul, BitVec.ofInt_natCast, BitVec.ofNat_toNat, BitVec.setWidth_eq]
  rfl

/-- The value of n bytes lies below 256^n. -/
theorem leNat_lt (bs : List Byte) : leNat bs < 256 ^ bs.length := by
  induction bs with
  | nil => decide
  | cons b bs ih =>
    have := b.isLt
    rw [leNat, List.length_cons, Nat.pow_succ]
    omega

theorem leNat_memRead_lt (m : Memory) (a n : Nat) : leNat (memRead m a n) < 2 ^ (8 * n) := by
  have h := leNat_lt (memRead m a n)
  rwa [memRead, List.length_map, List.length_range, show (256 : Nat) = 2 ^ 8 from rfl, ← Nat.pow_mul] at h

/-- Extension of a value that fits its n bytes: by its sign bit, or by zeros (R133, R134). -/
theorem extBytes_signed {n v : Nat} (h : v < 2 ^ (8 * n)) :
    extBytes true n v = BitVec.ofInt 64 (if v < 2 ^ (8 * n - 1) then v else (v : Int) - 2 ^ (8 * n)) := by
  rw [extBytes, Nat.mod_eq_of_lt h]
  by_cases hv : v < 2 ^ (8 * n - 1)
  · simp [hv, Nat.not_le.2 hv]
  · simp [hv, Nat.not_lt.1 hv]

theorem extBytes_unsigned {n v : Nat} (h : v < 2 ^ (8 * n)) : extBytes false n v = BitVec.ofNat 64 v := by
  simp [extBytes, Nat.mod_eq_of_lt h]

/-! ## What a program's advance keeps -/

@[simp] theorem advance_tiles (s : State) (w : Who) : (s.advance w).tiles = s.tiles := by
  match w with
  | .task _ .s | .task _ .v | .task _ .m | .task _ .c | .sv _ => rfl

@[simp] theorem advance_mem (s : State) (w : Who) : (s.advance w).mem = s.mem := by
  match w with
  | .task _ .s | .task _ .v | .task _ .m | .task _ .c | .sv _ => rfl

@[simp] theorem advance_tile (s : State) (w : Who) (t : Nat) : (s.advance w).tile t = s.tile t := by
  rw [State.tile, advance_tiles, State.tile]

/-! ## Scratchpad accesses -/

theorem spad_spadWrite (s : State) (h off : Nat) (bs : List Byte) :
    ((s.spadWrite h off bs).tile (hTile h)).spad = memWrite (s.tile (hTile h)).spad ((s.res h).spBase + off) bs :=
  congrArg Tile.spad (State.tile_setTile _ _ _)

/-- An aligned access in the window that no watermark holds goes on (R16, R135). -/
theorem scratchAccess_of {i : Instr} {n h : Nat} {e : Eng} {a : Word} {s : State} {k : Nat → State → Out} (hw : a.toNat < (s.res h).spSize)
    (ha : a.toNat % n = 0) (hh : NotHeld s (.task h e) false ((s.res h).spBase + a.toNat) n) :
    scratchAccess i n a s (.task h e) k = k h s := by
  have hin : (s.res h).inWindow a.toNat 1 = true := decide_eq_true hw
  simp [scratchAccess, hin, heldUnsettled_of hh, ha, heldOp_of hh]

/-- An access at or beyond the window's size raises state-use, aligned or not (R16). -/
theorem scratchAccess_outside {i : Instr} {n h : Nat} {e : Eng} {a : Word} {s : State} {k : Nat → State → Out} (hw : (s.res h).spSize ≤ a.toNat) :
    scratchAccess i n a s (.task h e) k = .next (s.stateUse (.task h e)) := by
  have hin : (s.res h).inWindow a.toNat 1 = false := decide_eq_false (by omega)
  simp [scratchAccess, hin]

/-- A misaligned access inside the window raises an alignment fault (R135). -/
theorem scratchAccess_misaligned {i : Instr} {n h : Nat} {e : Eng} {a : Word} {s : State} {k : Nat → State → Out} (hw : a.toNat < (s.res h).spSize)
    (ha : a.toNat % n ≠ 0) (hh : NotHeld s (.task h e) false ((s.res h).spBase + a.toNat) n) :
    scratchAccess i n a s (.task h e) k = .next (s.alignFault (.task h e) n a) := by
  have hin : (s.res h).inWindow a.toNat 1 = true := decide_eq_true hw
  simp [scratchAccess, hin, heldUnsettled_of hh, ha]

section
variable {s : State} {w : Who} (turn : ScalarTurn s w) (z : BitVec 2) (d a : BitVec 6) (i : BitVec 14)
include turn

/-- LDS is an access at s(a) + sext(imm) that writes the bytes sign-extended (R133). -/
theorem exec_lds_access : exec (.lds z d a i) s = scratchAccess (.lds z d a i) (2 ^ z.toNat) (BitVec.ofInt 64 ((s.sreg w a).toInt + i.toInt)) s w
    (fun h s' => .next (scalarResult w d
      (extBytes true (2 ^ z.toNat) (leNat (s'.spadRead h (BitVec.ofInt 64 ((s.sreg w a).toInt + i.toInt)).toNat (2 ^ z.toNat)))) s')) := by
  rw [exec_lds, execLds, scratchLoad, onScalar_of turn, ofInt_add_toInt]
  rfl

/-- STS is an access at s(a) + sext(imm) that writes the low bytes of s(d) (R133). -/
theorem exec_sts_access : exec (.sts z d a i) s = scratchAccess (.sts z d a i) (2 ^ z.toNat) (BitVec.ofInt 64 ((s.sreg w a).toInt + i.toInt)) s w
    (fun h s' => .next ((s'.spadWrite h (BitVec.ofInt 64 ((s.sreg w a).toInt + i.toInt)).toNat
      (leBytes (2 ^ z.toNat) (s.sreg w d).toNat)).advance w)) := by
  rw [exec_sts, execSts, onScalar_of turn, ofInt_add_toInt]
  rfl

/-- LDS_Z is an access at s(a) that writes the bytes zero-extended (R134). -/
theorem exec_ldsZ_access : exec (.ldsZ d a z) s = scratchAccess (.ldsZ d a z) (2 ^ z.toNat) (s.sreg w a) s w
    (fun h s' => .next (scalarResult w d (extBytes false (2 ^ z.toNat) (leNat (s'.spadRead h (s.sreg w a).toNat (2 ^ z.toNat)))) s')) := by
  rw [exec_ldsZ, execLdsZ, scratchLoad, onScalar_of turn]
  rfl

end

end Sys2Proof.Machine

open Sys2Proof Sys2Proof.Machine

/-- Settles O4: an access in the window reads or writes its bytes, and the program advances. -/
theorem scalarScratchpadAccesses : Obligations.ScalarScratchpadAccesses := by
  intro s h z d a i w n tile base va vz turn
  refine ⟨fun hw ha hh => ⟨?_, ?_⟩, fun hw ha hh => ?_⟩
  · exact completes_sreg turn ((exec_lds_access turn z d a i).trans (scratchAccess_of hw ha hh)) (extBytes_signed (leNat_memRead_lt _ _ _))
  · refine ⟨_, (exec_sts_access turn z d a i).trans (scratchAccess_of hw ha hh), advance_steps w _ turn.2, ?_, fun x hx => ?_, fun k hk => ?_,
      fun x => by rw [advance_mem]; rfl⟩
    · rw [advance_tile, spad_spadWrite]
      exact (congrArg (memRead _ _) (leBytes_length n _).symm).trans (memRead_memWrite_same _ _ _)
    · rw [advance_tile, spad_spadWrite]
      exact memByte_memWrite_other _ _ _ x (by rwa [leBytes_length])
    · rw [advance_tile]
      exact State.tile_setTile_other _ _ hk
  · exact completes_sreg turn ((exec_ldsZ_access turn z d a).trans (scratchAccess_of hw ha hh)) (extBytes_unsigned (leNat_memRead_lt _ _ _))

/-- Settles O5: the window is checked before the alignment, and no watermark comes before either. -/
theorem scalarScratchpadFaults : Obligations.ScalarScratchpadFaults := by
  intro s w z d a i turn n va vz
  rw [exec_lds_access turn, exec_sts_access turn, exec_ldsZ_access turn]
  cases w with
  | sv c => exact ⟨rfl, rfl, rfl⟩
  | task h e =>
    exact ⟨fun hw => ⟨scratchAccess_outside hw, scratchAccess_outside hw⟩, scratchAccess_outside,
      fun hw ha hh => ⟨scratchAccess_misaligned hw ha hh, scratchAccess_misaligned hw ha hh⟩, scratchAccess_misaligned⟩
end

section
/-!
Scalar control: compare and branch (R22, R23, R137), traps and the return from them (R24, R140, R141), each built of three updates of the
program: its context, its counts, the mark of a transfer's boundary.
-/

namespace Sys2Proof.Machine
open Sys2Proof

/-! ## Updates of the scalar program alone -/

theorem OnlyScalar.trans {w : Who} {s t u : State} (h : OnlyScalar w s t) (k : OnlyScalar w t u) : OnlyScalar w s u := by
  obtain ⟨⟨hl, hr, hs⟩, hw⟩ := h
  obtain ⟨⟨kl, kr, ks⟩, kw⟩ := k
  refine ⟨⟨?_, fun j hj => (kr j hj).trans (hr j hj), fun c hc => (ks c hc).trans (hs c hc)⟩, ?_⟩
  · rw [Locally] at hl kl ⊢
    rw [kl, hl]
  · cases w with
    | task h e => exact kw.trans (by rw [hw])
    | sv c => exact kw.trans (by rw [hw])

/-- An update of the program's own context. -/
theorem onlyScalar_modSc (w : Who) (s : State) (f : SCtx → SCtx) : OnlyScalar w s (s.modSc w f) := by
  cases w with
  | task h e =>
    refine ⟨⟨rfl, fun j hj => ?_, fun c _ => rfl⟩, by simp⟩
    exact State.res_setRes_other _ _ fun e' => hj e (by rw [e'])
  | sv c =>
    refine ⟨⟨rfl, fun _ _ => rfl, fun j hj => ?_⟩, by simp⟩
    exact State.svc_setSvc_other _ _ fun e' => hj (by rw [e'])

theorem onlyScalar_modPrg (h : Nat) (s : State) (f : Prg → Prg) : OnlyScalar (.task h .s) s (s.modPrg h .s f) := by
  refine ⟨⟨rfl, fun j hj => ?_, fun c _ => rfl⟩, by simp [Resident.setPrg]⟩
  exact State.res_setRes_other _ _ fun e' => hj .s (by rw [e'])

theorem onlyScalar_issued {w : Who} (hw : ∀ h e, w = .task h e → e = .s) (s : State) : OnlyScalar w s (s.issued w) := by
  cases w with
  | task h e =>
    obtain rfl := hw h e rfl
    have hc : OnlyScalar (.task h .s) s (s.countTile (hTile h) 2 1) := ⟨⟨rfl, fun _ _ => rfl, fun _ _ => rfl⟩, rfl⟩
    exact hc.trans (onlyScalar_modPrg h _ fun p => { p with blk := p.blk + 1, turn := p.turn + 1, pass := false })
  | sv c => exact ⟨⟨rfl, fun _ _ => rfl, fun _ _ => rfl⟩, rfl⟩

theorem onlyScalar_afterTransfer {w : Who} (hw : ∀ h e, w = .task h e → e = .s) (s : State) : OnlyScalar w s (s.afterTransfer w) := by
  cases w with
  | task h e => obtain rfl := hw h e rfl; exact onlyScalar_modPrg h s fun p => { p with bnd := true }
  | sv c => exact ⟨⟨rfl, fun _ _ => rfl, fun _ _ => rfl⟩, rfl⟩

@[simp] theorem sc_modSc (w : Who) (s : State) (f : SCtx → SCtx) : (s.modSc w f).sc w = f (s.sc w) := by
  cases w <;> simp [State.sc]

@[simp] theorem Resident.setPrg_sc (r : Resident) (e : Eng) (p : Prg) : (r.setPrg e p).sc = r.sc := by cases e <;> rfl

@[simp] theorem sc_issued (w : Who) (s : State) : (s.issued w).sc w = s.sc w := by
  cases w <;> simp [State.issued, State.sc, State.countTile]

@[simp] theorem sc_afterTransfer (w : Who) (s : State) : (s.afterTransfer w).sc w = s.sc w := by
  cases w <;> simp [State.afterTransfer, State.sc]

/-! ## Transfers -/

/-- A transfer changes the scalar program alone, and its context as a taken transfer does (R22). -/
theorem onlyScalar_transfer {w : Who} (hw : ∀ h e, w = .task h e → e = .s) (s : State) (a : Addr) : OnlyScalar w s (s.transfer w a) :=
  ((onlyScalar_modSc w s _).trans (onlyScalar_issued hw _)).trans (onlyScalar_afterTransfer hw _)

@[simp] theorem sc_transfer (w : Who) (s : State) (a : Addr) : (s.transfer w a).sc w = (s.sc w).taken a := by
  simp [State.transfer]

theorem transfer_jumps {w : Who} (hw : ∀ h e, w = .task h e → e = .s) (s : State) (a : Addr) : ScalarJumps w a false s (s.transfer w a) := by
  refine ⟨onlyScalar_transfer hw s a, ?_⟩
  rw [sc_transfer]
  exact ⟨(s.sc w).taken_queue a, ⟨rfl, rfl, rfl, rfl, rfl, rfl, rfl, rfl⟩, rfl, rfl, rfl⟩

/-- A branch not taken steps the queue. -/
theorem advance_passes {w : Who} (hw : ∀ h e, w = .task h e → e = .s) (s : State) : ScalarPasses w false s (s.advance w) := by
  obtain ⟨ho, ⟨hp, h1, h2, ha0, ha1⟩, ht, hr⟩ := advance_steps w s hw
  exact ⟨ho, hp, h1, h2, ht, hr, ha0, ha1⟩

/-- A branch not taken with n = 1 steps the queue and annuls both slots (R137). -/
theorem annul_passes {w : Who} (hw : ∀ h e, w = .task h e → e = .s) (s : State) : ScalarPasses w true s ((s.advance w).modSc w SCtx.annul) := by
  obtain ⟨ho, ⟨hp, h1, h2, -, -⟩, ht, hr⟩ := advance_steps w s hw
  refine ⟨ho.trans (onlyScalar_modSc w _ _), ?_⟩
  rw [sc_modSc]
  exact ⟨hp, h1, h2, ht, hr, rfl, rfl⟩

/-- A compare and branch whose condition is decided transfers or passes (R137). -/
theorem branch_completes {s : State} {w : Who} {a b : BitVec 6} {n : BitVec 1} {o : BitVec 13} {i : Instr} {f : Word → Word → Bool} {taken : Prop}
    (turn : ScalarTurn s w) (e : exec i s = branchOp a b n o f s) (hf : f (s.sreg w a) (s.sreg w b) = true ↔ taken) :
    (taken → Completes i s (ScalarJumps w (BitVec.ofInt 56 ((s.pcOf w).toNat + 4 * o.toInt)) false s)) ∧
    (¬ taken → Completes i s (ScalarPasses w (n == 1) s)) := by
  rw [Completes, Completes, e, branchOp, onScalar_of turn, branchTarget_eq]
  constructor
  · intro ht
    exact ⟨_, by rw [if_pos (hf.mpr ht)], transfer_jumps turn.2 s _⟩
  · intro ht
    rw [if_neg (mt hf.mp ht)]
    by_cases hn : n = 1
    · exact ⟨_, by rw [if_pos hn], by rw [beq_iff_eq.mpr hn]; exact annul_passes turn.2 s⟩
    · exact ⟨_, by rw [if_neg hn], by rw [beq_eq_false_iff_ne.mpr hn]; exact advance_passes turn.2 s⟩

/-! ## Traps -/

/-- The bits of TSTAT after a trap is taken (R24). -/
theorem tstat_takeTrap (c : SCtx) (k n : Nat) :
    (c.takeTrap k n).tstat.getLsbD 0 = false ∧ (c.takeTrap k n).tstat.getLsbD 1 = c.tstat.getLsbD 0 ∧
    (c.takeTrap k n).tstat.getLsbD 2 = true ∧ (c.takeTrap k n).tstat.getLsbD 3 = c.tstat.getLsbD 3 := by
  rw [SCtx.takeTrap, tstatIE]
  cases h : c.tstat.getLsbD 0 <;> simp

/-- The bits of TSTAT after the return from a trap (R24, R141). -/
theorem tstat_retTrap (c : SCtx) :
    c.retTrap.tstat.getLsbD 0 = c.tstat.getLsbD 1 ∧ c.retTrap.tstat.getLsbD 2 = false ∧ c.retTrap.tstat.getLsbD 3 = c.tstat.getLsbD 3 := by
  rw [SCtx.retTrap, tstatPIE]
  cases h : c.tstat.getLsbD 1 <;> simp

/-- EANN holds the annul bits of the queue that a trap saved (R24). -/
theorem eann_takeTrap (c : SCtx) (k n : Nat) : (c.takeTrap k n).eann.getLsbD 0 = c.a0 ∧ (c.takeTrap k n).eann.getLsbD 1 = c.a1 := by
  rw [SCtx.takeTrap]
  cases c.a0 <;> cases c.a1 <;> simp

end Sys2Proof.Machine

open Sys2Proof Sys2Proof.Machine

/-- Settles O9: the six branches differ only in the condition they decide. -/
theorem scalarBranches : Obligations.ScalarBranches := by
  intro s w a b n o turn x y target branch
  refine ⟨?_, ?_, ?_, ?_, ?_, ?_⟩
  · exact branch_completes turn (exec_beq a b n o s) (by simp [x, y])
  · exact branch_completes turn (exec_bne a b n o s) (by simp [x, y])
  · exact branch_completes turn (exec_blt a b n o s) (by simp [x, y, BitVec.slt])
  · exact branch_completes turn (exec_bge a b n o s) (by simp [x, y, BitVec.slt])
  · exact branch_completes turn (exec_bltu a b n o s) (by simp [x, y, BitVec.ult])
  · exact branch_completes turn (exec_bgeu a b n o s) (by simp [x, y, BitVec.ult])

/-- Settles O11: TRAP takes the trap of R24 over the stepped queue, RETT gives back what a trap saved. -/
theorem scalarTrapAndReturn : Obligations.ScalarTrapAndReturn := by
  intro s w c turn q
  rw [Completes, Completes, exec_trap, execTrap, onScalar_of turn, exec_rett, execRett, onScalar_of turn]
  refine ⟨fun h => ?_, fun h => if_pos h, fun h => ?_, fun h => if_neg (by rw [tstatINTRAP]; simpa using h)⟩
  · obtain ⟨ho, ⟨hp, h1, h2, ha0, ha1⟩, ⟨htv, htc, hts, htm, -⟩, hr⟩ := advance_steps w s turn.2
    have hi : tstatINTRAP (s.sc w) = false := h
    refine ⟨_, by rw [hi]; rfl, ho.trans (onlyScalar_modSc w _ _), ?_⟩
    rw [sc_modSc]
    obtain ⟨b0, b1, b2, b3⟩ := tstat_takeTrap ((s.advance w).sc w) 2 c.toNat
    obtain ⟨e0, e1⟩ := eann_takeTrap ((s.advance w).sc w) 2 c.toNat
    exact ⟨hr, htv, congrArg (· + 4) htv, congrArg (· + 8) htv, rfl, rfl, hp, h1, h2, e0.trans ha0, e1.trans ha1, rfl, htv, htm,
      b0, b1.trans (by rw [hts]), b2, b3.trans (by rw [hts])⟩
  · have hi : tstatINTRAP (s.sc w) = true := h
    refine ⟨_, by rw [hi]; rfl, (onlyScalar_modSc w s _).trans (onlyScalar_issued turn.2 _), ?_⟩
    rw [sc_issued, sc_modSc]
    exact ⟨rfl, rfl, rfl, rfl, rfl, rfl, rfl, rfl, rfl, rfl, rfl, rfl, rfl, tstat_retTrap _⟩
end

section
/-!
A turn: what stands before the instruction of a program lets it issue, and the word at its program counter is fetched, decoded and executed
(R85, R86, R123).
-/

namespace Sys2Proof.Machine
open Sys2Proof

/-! ## The word that is fetched -/

/-- The little-endian number of four bytes, as a word. -/
theorem leWord_eq (b0 b1 b2 b3 : Byte) : BitVec.ofNat 32 (leNat [b0, b1, b2, b3]) = leWord b0 b1 b2 b3 := by
  apply BitVec.eq_of_toNat_eq
  have h0 := b0.isLt
  have h1 := b1.isLt
  have h2 := b2.isLt
  have h3 := b3.isLt
  simp only [leNat, leWord, BitVec.toNat_ofNat, BitVec.toNat_append]
  rw [← Nat.shiftLeft_add_eq_or_of_lt h2, ← Nat.shiftLeft_add_eq_or_of_lt h1, ← Nat.shiftLeft_add_eq_or_of_lt h0]
  simp only [Nat.shiftLeft_eq]
  omega

/-- A translated fetch of a line that is not poisoned answers the four bytes there (R85). -/
theorem fetchWord_ok {s : State} {w : Who} {a : Addr} {t : Target} {leaf : BitVec 64}
    (ht : s.translate w.tlb (s.asidOf w) (s.classOfWho w) a.toNat .fetch false = .ok t leaf) (hp : s.poisoned t.pa 4 = false) :
    ∃ b0 b1 b2 b3, memRead s.mem t.pa 4 = [b0, b1, b2, b3] ∧ s.fetchWord w a = .word (leWord b0 b1 b2 b3) := by
  refine ⟨_, _, _, _, rfl, ?_⟩
  rw [State.fetchWord, ht, ← leWord_eq]
  simp only [hp]
  rfl

section
variable {s : State} {w : Who} (run : step s = s.fetchRun w)
include run

theorem step_of_word {x : BitVec 32} (h : s.fetchWord w (s.pcOf w) = .word x) : step s = (s.touchFetch w (s.pcOf w)).runWord w x := by
  rw [run, State.fetchRun, h]

theorem step_of_instr {x : BitVec 32} {i : Instr} (h : s.fetchWord w (s.pcOf w) = .word x) (hd : decode w.isa x = .ok i) :
    step s = if (s.touchFetch w (s.pcOf w)).stalls w i then .next (s.touchFetch w (s.pcOf w)) else exec i (s.touchFetch w (s.pcOf w)) := by
  rw [step_of_word run h, State.runWord, hd]

theorem step_of_noInstr {x : BitVec 32} {e : DecodeError} (h : s.fetchWord w (s.pcOf w) = .word x) (hd : decode w.isa x = .error e) :
    step s = exec (.illegalInstruction (x.setWidth 64)) (s.touchFetch w (s.pcOf w)) := by
  rw [step_of_word run h, State.runWord, hd]

theorem step_of_badFetch {f : FaultInfo} (h : s.fetchWord w (s.pcOf w) = .bad f) :
    step s = .next ((s.touchFetch w (s.pcOf w)).takeFault w .instr f) := by
  rw [run, State.fetchRun, h]

theorem step_of_missedFetch (h : s.fetchWord w (s.pcOf w) = .miss) : step s = .next (s.touchFetch w (s.pcOf w)) := by
  rw [run, State.fetchRun, h]

end

/-! ## What stands before an instruction -/

/-- The scalar program issues: no pre-emption, no boundary, no limit stands before it, its queue settled or not (R30, R32, R126, R312). -/
theorem begin_scalar {s : State} {h : Nat} (hl : (s.res h).life = .active) (he : (s.res h).est .s = 1) (hp : (s.res h).s.park = none)
    (hq : (s.res h).preempt = false) (hb : (s.res h).s.bnd = false) (hk : (s.res h).s.blk < 256) : s.begin h .s = .go s := by
  have h1 : ¬ 320 ≤ (s.res h).s.blk := by omega
  have h2 : ¬ 256 ≤ (s.res h).s.blk := by omega
  simp only [State.begin, Resident.prg, hl, he, hp, hq, hb, h1, h2]
  simp

/-- Nothing stands before the instruction of a resident that issues. -/
theorem begin_of_issues {s : State} {h : Nat} {e : Eng} (i : Issues s h e) : s.begin h e = .go s := by
  obtain ⟨hl, he, hp, hq, hb, hk, hd, hx, -⟩ := i
  cases e with
  | s => exact begin_scalar hl he hp hq hb hk
  | v =>
    have h2 : ¬ 256 ≤ (s.res h).v.blk := Nat.not_le.2 hk
    simp only [Resident.prg] at hp hb
    simp only [State.begin, Resident.prg, hl, he, hp, hq, hb, h2, State.settledOn]
    simp
  | m =>
    have ht : s.transferBoundary h .m = .go s := by simp [State.transferBoundary, hb]
    cases hdp : (s.res h).dp with
    | none => simp only [State.begin, hl, he, hp, hq, hdp, ht]; simp
    | some d => simp only [State.begin, hl, he, hp, hq, hdp, hd d hdp, ht]; simp
  | c =>
    have ht : s.transferBoundary h .c = .go s := by simp [State.transferBoundary, hb]
    cases hxf : (s.res h).xf with
    | none => simp only [State.begin, hl, he, hp, hq, hxf, ht]; simp
    | some x => simp only [State.begin, hl, he, hp, hq, hxf, hx x hxf, ht]; simp

/-- The timer interrupt is not due where the timer has not come, interrupts are off or a trap is being handled (R24, R25). -/
theorem timerReady_false {stamp : Word} {c : SCtx} (h : c.tcmp.toNat ≤ stamp.toNat → c.tstat.getLsbD 0 = true → c.tstat.getLsbD 2 = true) :
    timerReady stamp c = false := by
  rw [timerReady, timerDue, tstatIE, tstatINTRAP]
  by_cases hd : c.tcmp.toNat ≤ stamp.toNat
  · cases h0 : c.tstat.getLsbD 0 with
    | false => simp
    | true => simp [h hd h0]
  · simp [hd]

/-- A resident that issues fetches its next word and runs it. -/
theorem issueTask_of_issues {s : State} {h : Nat} {e : Eng} (i : Issues s h e) : s.issueTask h e = s.fetchRun (.task h e) := by
  rw [State.issueTask, begin_of_issues i]
  obtain ⟨-, -, -, -, -, -, -, -, hs⟩ := i
  by_cases he : e = .s
  · obtain ⟨hdef, ha, ht⟩ := hs he
    simp [he, hdef, timerReady_false ht, ha]
  · simp [he]

/-- With an empty agenda the agent that has the turn goes on. -/
theorem step_of_agenda_nil {s : State} (h : s.agenda = []) : step s = s.issue := by
  rw [step, State.move, h]

theorem step_eng {s : State} {t r : Nat} {e : Eng} (h : s.agenda = []) (ht : s.turn = .eng t e) (hl : t < 288) (hc : s.cur t e = some r) :
    step s = s.issueTask (mkHandle t r) e := by
  simp only [step_of_agenda_nil h, State.issue, ht, hc, Nat.not_le.2 hl, if_false]

theorem step_sv {s : State} {c : Nat} (h : s.agenda = []) (ht : s.turn = .sv c) (hl : c < 8) : step s = s.issueSv c := by
  simp only [step_of_agenda_nil h, State.issue, ht, Nat.not_le.2 hl, if_false]

/-! ## The stamp -/

theorem drainPorts_stamp (s : State) (n : Nat) : (s.drainPorts n).stamp = s.stamp := by
  have h1 : ∀ (s : State) k n, (s.drainPort k n).stamp = s.stamp := by
    intro s k n
    rw [State.drainPort]
    split
    · rfl
    · rfl
  rw [State.drainPorts]
  generalize flitBudget s.stamp.toNat n = b
  induction fkeys s.ports generalizing s with
  | nil => rfl
  | cons k l ih => rw [List.foldl_cons, ih, h1]

theorem tick_stamp (s : State) (n : Nat) : (s.tick n).stamp = s.stamp + BitVec.ofNat 64 n :=
  congrArg (· + BitVec.ofNat 64 n) (drainPorts_stamp s n)

end Sys2Proof.Machine

open Sys2Proof Sys2Proof.Machine

/-- Settles O60: a turn whose program issues is the fetch and execution of one word; the other agents' turns and the moves of the agenda are
the branches of the step. -/
theorem stepRunsDecoded : Obligations.StepRunsDecoded := by
  intro s fetched ha
  have hf : ∀ w, step s = s.fetchRun w → fetched w w.isa := fun w run =>
    ⟨fun x i hx hi => ⟨fun hs => by rw [step_of_instr run hx hi, hs]; rfl, fun hs => by rw [step_of_instr run hx hi, hs]; rfl⟩,
      fun x e hx he => step_of_noInstr run hx he, fun f hx => step_of_badFetch run hx, fun hx => step_of_missedFetch run hx,
      fun tg leaf ht hp => fetchWord_ok ht hp⟩
  refine ⟨?_, ?_, ?_, ?_, ?_, ?_, ?_, ?_, ?_, ?_⟩
  · intro t e r ht hl hc _ hi
    exact hf _ ((step_eng ha ht hl hc).trans (issueTask_of_issues hi))
  · intro t r ht hl hc _ x hlife hest hpark hpre hbnd hblk hdef htim ha0
    rw [step_eng ha ht hl hc, State.issueTask, begin_scalar hlife hest hpark hpre hbnd hblk]
    simp [x] at hdef htim ha0
    simp [hdef, htim, ha0]
  · intro t e ht hl hc
    simp only [step_of_agenda_nil ha, State.issue, ht, hc, Nat.not_le.2 hl, if_false]
  · intro c ht hl hr hst hfq htim
    have hs := step_sv ha ht hl
    simp only [State.issueSv, hr, hst, hfq, htim] at hs
    refine ⟨fun h0 => hf (.sv c) ?_, fun h0 => ?_⟩ <;> simpa [h0] using hs
  · intro c w ht hl hlive hrun hw
    have hs : step s = s.issueColl c := by simp only [step_of_agenda_nil ha, State.issue, ht, Nat.not_le.2 hl, if_false]
    simp only [State.issueColl, hlive, hrun, hw] at hs
    exact ⟨fun i hi => by rw [hs, hi]; rfl, fun e he => by rw [hs, he]; rfl⟩
  · intro k r w i ht hl hr hw hi
    simp only [step_of_agenda_nil ha, State.issue, ht, Nat.not_le.2 hl, if_false, State.issueNear, hr, hw, hi]
  · exact fun rest a => rfl
  · intro a
    rw [step_of_agenda_nil (s := { s with turn := a }) ha]
    show ({ s with agenda := [], turn := a } : State).issue = _
    rw [← ha]
  · exact fun rest i => ⟨fun h => if_pos h, fun h => if_neg (by simp [h])⟩
  · exact fun rest n => ⟨rfl, tick_stamp _ n⟩
end

section
/-!
The end of a block (R31 to R34): what it leaves of every resident, tile and of memory. The programs of the matrix and copy engines that end or branch (R205, R206, R237).
-/

namespace Sys2Proof.Machine
open Sys2Proof

/-! ## What the end of a block leaves -/

/-- Of a resident only its programs' places and what an engine stops part-way may differ: landed vector writes, the datapath instruction, the transfer and its serials. -/
def Resident.Left (r q : Resident) : Prop :=
  q = { r with s := q.s, v := q.v, m := q.m, c := q.c, vregs := q.vregs, mregs := q.mregs, rctl := q.rctl, pend := q.pend, staged := q.staged, pushed := q.pushed,
               vpos := q.vpos, vctl := q.vctl, rep := q.rep, dp := q.dp, mprog := q.mprog, xf := q.xf, cprog := q.cprog, kept := q.kept, seqs := q.seqs }

/-- Of a tile only which resident an engine runs may differ. -/
def Tile.Left (x y : Tile) : Prop := y = { x with cur := y.cur, last := y.last, gated := y.gated }

/-- Of the machine only residents and tiles, as above, the event counters and the accesses in flight may differ. -/
structure BlockEnded (s t : State) : Prop where
  rest : t = { s with residents := t.residents, tiles := t.tiles, counters := t.counters, gaccs := t.gaccs }
  res : ∀ k, (s.res k).Left (t.res k)
  tile : ∀ k, (s.tile k).Left (t.tile k)

theorem Resident.Left.refl (r : Resident) : r.Left r := rfl
theorem Tile.Left.refl (x : Tile) : x.Left x := rfl
theorem BlockEnded.refl (s : State) : BlockEnded s s := ⟨rfl, fun _ => rfl, fun _ => rfl⟩

theorem Resident.Left.trans {r q p : Resident} (h : r.Left q) (k : q.Left p) : r.Left p := by
  rw [Resident.Left] at h k ⊢
  rw [k, h]

theorem Tile.Left.trans {x y z : Tile} (h : x.Left y) (k : y.Left z) : x.Left z := by
  rw [Tile.Left] at h k ⊢
  rw [k, h]

theorem BlockEnded.trans {s t u : State} (h : BlockEnded s t) (k : BlockEnded t u) : BlockEnded s u :=
  ⟨by rw [k.rest, h.rest], fun j => (h.res j).trans (k.res j), fun j => (h.tile j).trans (k.tile j)⟩

/-- An update of one resident that leaves it so. -/
theorem blockEnded_setRes (s : State) {h : Nat} {r : Resident} (e : (s.res h).Left r) : BlockEnded s (s.setRes h r) := by
  refine ⟨rfl, fun k => ?_, fun _ => rfl⟩
  by_cases n : k = h
  · rw [n, State.res_setRes]; exact e
  · rw [State.res_setRes_other _ _ n]; exact .refl _

theorem blockEnded_setTile (s : State) {j : Nat} {x : Tile} (e : (s.tile j).Left x) : BlockEnded s (s.setTile j x) := by
  refine ⟨rfl, fun _ => rfl, fun k => ?_⟩
  by_cases n : k = j
  · rw [n, State.tile_setTile]; exact e
  · rw [State.tile_setTile_other _ _ n]; exact .refl _

theorem Resident.left_setPrg (r : Resident) (e : Eng) (p : Prg) : r.Left (r.setPrg e p) := by cases e <;> rfl

theorem Resident.left_push (r : Resident) (n : Nat) : r.Left (r.push n) := by
  unfold Resident.push
  split <;> rfl

theorem Resident.left_land (r : Resident) (p : PendW) : r.Left (r.land p) := by
  unfold Resident.land
  split
  · exact .trans (q := { r with rctl := _, vregs := _ }) rfl (Resident.left_push _ _)
  · rfl

theorem Resident.left_settle (r : Resident) : r.Left r.settle := by
  have fold : ∀ (l : List PendW) (q : Resident), q.Left (l.foldl Resident.land q) := fun l => by
    induction l with
    | nil => exact .refl
    | cons p l ih => exact fun q => (q.left_land p).trans (ih _)
  exact (fold r.pend r).trans rfl

/-- What an engine leaves of a resident at the end of its block. -/
theorem Resident.left_leave (r : Resident) (e : Eng) : r.Left (r.leave e) := by
  cases e with
  | s => rfl
  | v =>
    refine r.left_settle.trans ?_
    show Resident.Left _ (Resident.interrupt _)
    unfold Resident.interrupt
    split <;> rfl
  | m =>
    show r.Left r.stopDp
    unfold Resident.stopDp
    repeat' split
    all_goals rfl
  | c =>
    show r.Left r.stopXf
    unfold Resident.stopXf
    repeat' split
    all_goals rfl

theorem Resident.left_keepSerial (r : Resident) (g : GAcc) (d : Bool) : r.Left (r.keepSerial g d) := by
  unfold Resident.keepSerial
  split <;> rfl

theorem blockEnded_keepXf (s : State) (h : Nat) : BlockEnded s (s.keepXf h) := by
  unfold State.keepXf
  generalize s.gaccs.filter _ = l
  induction l generalizing s with
  | nil => exact .refl s
  | cons g l ih => exact (blockEnded_setRes s ((s.res h).left_keepSerial g _)).trans (ih _)

theorem blockEnded_switch (s : State) (t : Nat) (e : Eng) : BlockEnded s (s.switch t e) := by
  unfold State.switch
  split
  · exact (blockEnded_setTile (x := { s.tile t with cur := _, last := _, gated := _ }) s rfl).trans (.trans (blockEnded_setRes _ (Resident.left_setPrg _ _ _)) ⟨rfl, fun _ => rfl, fun _ => rfl⟩)
  · exact blockEnded_setTile (x := { s.tile t with cur := _ }) s rfl

/-- A block's end changes only what R31 and R32 say. -/
theorem blockEnded_endBlock (s : State) (h : Nat) (e : Eng) : BlockEnded s (s.endBlock h e) := by
  have hk : BlockEnded s (if e = .c then s.keepXf h else s) := by split; exacts [blockEnded_keepXf s h, .refl s]
  have hl := hk.trans (blockEnded_setRes (if e = .c then s.keepXf h else s) (((if e = .c then s.keepXf h else s).res h).left_leave e))
  have hg : ∀ u : State, BlockEnded u (if e = .c then { u with gaccs := u.gaccs.filter (fun g => !g.ofGranule h) } else u) := fun u => by
    split; exacts [⟨rfl, fun _ => rfl, fun _ => rfl⟩, .refl u]
  have hs : ∀ u : State, BlockEnded u (if u.cur (hTile h) e = some (hRes h) then u.switch (hTile h) e else u) := fun u => by
    split; exacts [blockEnded_switch _ _ _, .refl u]
  exact (hl.trans (hg _)).trans (hs _)

theorem BlockEnded.mem {s t : State} (h : BlockEnded s t) : t.mem = s.mem := by rw [h.rest]
theorem BlockEnded.cohorts {s t : State} (h : BlockEnded s t) : t.cohorts = s.cohorts := by rw [h.rest]

/-! ## ESTAT -/

theorem Resident.est_eq (r : Resident) (e : Eng) : r.est e = (r.estat.extractLsb' (2 * engCode e) 2).toNat := by
  simp [Resident.est, BitVec.extractLsb'_toNat]

theorem engCode_inj {d e : Eng} (h : engCode d = engCode e) : d = e := by cases d <;> cases e <;> simp_all [engCode]
theorem engCode_lt (e : Eng) : engCode e < 4 := by cases e <;> decide

/-- The bits of an engine's field of ESTAT. -/
theorem Resident.field_setEst (r : Resident) (d e : Eng) (x : Nat) :
    (r.setEst e x).estat.extractLsb' (2 * engCode d) 2 = if d = e then BitVec.ofNat 2 x else r.estat.extractLsb' (2 * engCode d) 2 := by
  have h3 : ∀ n, (3 : BitVec 8).getLsbD n = decide (n < 2) := fun n => by
    show Nat.testBit (2 ^ 2 - 1) n = _
    rw [Nat.testBit_two_pow_sub_one]
  have hx : ∀ n, (BitVec.ofNat 8 (x % 4)).getLsbD n = (decide (n < 2) && x.testBit n) := fun n => by
    rw [BitVec.getLsbD_ofNat, show (4 : Nat) = 2 ^ 2 from rfl, Nat.testBit_mod_two_pow]
    by_cases h : n < 2 <;> simp [h]; omega
  have ld := engCode_lt d
  ext i hi
  simp only [Resident.setEst, BitVec.getElem_extractLsb', BitVec.getLsbD_or, BitVec.getLsbD_and, BitVec.getLsbD_not, BitVec.getLsbD_shiftLeft, h3, hx]
  by_cases h : d = e
  · subst h
    have a : 2 * engCode d + i < 8 := by omega
    simp [a, hi, ← BitVec.getLsbD_eq_getElem, BitVec.getLsbD_ofNat]
  · have ne : engCode d ≠ engCode e := mt engCode_inj h
    have a : 2 * engCode d + i < 8 := by omega
    by_cases lt : 2 * engCode d + i < 2 * engCode e
    · simp [h, a, lt]
    · have ge : ¬ 2 * engCode d + i - 2 * engCode e < 2 := by omega
      simp [h, a, ge]

/-- What an engine's field of ESTAT reads after one is set. -/
theorem Resident.est_setEst (r : Resident) (d e : Eng) {x : Nat} (hx : x < 4) : (r.setEst e x).est d = if d = e then x else r.est d := by
  rw [est_eq, field_setEst, est_eq]
  split
  · rw [BitVec.toNat_ofNat]; omega
  · rfl
theorem Resident.Left.est {r q : Resident} (h : r.Left q) (e : Eng) : q.est e = r.est e := by
  rw [Resident.Left] at h
  rw [h]
  rfl

/-! ## Branches and ends of the matrix and copy programs -/

/-- The condition codes of R89. -/
theorem condHolds_iff (c : BitVec 3) (x : Word) : condHolds c x = true ↔
    c = 0 ∨ (c = 1 ∧ x = 0) ∨ (c = 2 ∧ x ≠ 0) ∨ (c = 3 ∧ x.toInt < 0) ∨ (c = 4 ∧ 0 ≤ x.toInt) ∨ (5 ≤ c.toNat ∧ x ≠ 0) := by
  have codes : ∀ c : BitVec 3, c = 0 ∨ c = 1 ∨ c = 2 ∨ c = 3 ∨ c = 4 ∨ c = 5 ∨ c = 6 ∨ c = 7 := by decide
  rcases codes c with rfl | rfl | rfl | rfl | rfl | rfl | rfl | rfl <;> simp [condHolds, BitVec.slt]

/-- The place of a program after a branch that chooses address a. -/
def Prg.branched (p : Prg) (a : Addr) : Prg := { p with pc := a, blk := p.blk + 1, turn := p.turn + 1, pass := false, bnd := true }

theorem countTile_setRes (s : State) (h : Nat) (r : Resident) (t k n : Nat) : (s.setRes h r).countTile t k n = (s.countTile t k n).setRes h r := rfl
@[simp] theorem res_countTile (s : State) (t k n h : Nat) : (s.countTile t k n).res h = s.res h := rfl

/-- A matrix or copy program's branch moves its place alone (R205, R237). -/
theorem branch_eq {e : Eng} (he : e = .m ∨ e = .c) (u : State) (h : Nat) (a : Addr) :
    ((u.advance (.task h e)).modPrg h e (fun p => { p with pc := a })).afterTransfer (.task h e) =
      (u.countTile (hTile h) (2 + engCode e) 1).setRes h ((u.res h).setPrg e (((u.res h).prg e).branched a)) := by
  rcases he with rfl | rfl <;>
    simp [State.advance, State.issued, State.afterTransfer, countTile_setRes, Resident.setPrg, Resident.prg, Prg.branched]

@[simp] theorem Resident.prg_setPrg (r : Resident) (e : Eng) (p : Prg) : (r.setPrg e p).prg e = p := by cases e <;> rfl

/-- A matrix or copy program's branch over state u to the address that its condition chooses (R89, R205, R237). -/
theorem branch_completes_local {e : Eng} (he : e = .m ∨ e = .c) {s u : State} {h n : Nat} {i : Instr} {c : BitVec 3} {x : Word} {o : BitVec n} {takes : Prop}
    (eq : exec i s = .next (((u.advance (.task h e)).modPrg h e (fun p => { p with pc :=
      (if condHolds c x then branchTarget ((s.res h).prg e).pc o else ((s.res h).prg e).pc + 4) })).afterTransfer (.task h e)))
    (ht : condHolds c x = true ↔ takes) :
    Completes i s (fun t => Locally u t ∧ (∀ y, y ≠ h → t.res y = u.res y) ∧ t.res h = (u.res h).setPrg e ((t.res h).prg e) ∧
      (takes → ((t.res h).prg e).pc = BitVec.ofInt 56 (((s.res h).prg e).pc.toNat + 4 * o.toInt)) ∧
      (¬ takes → ((t.res h).prg e).pc = ((s.res h).prg e).pc + 4) ∧ ((t.res h).prg e).bnd = true) := by
  rw [branch_eq he] at eq
  refine ⟨_, eq, rfl, fun y n => State.res_setRes_other _ _ n, ?_⟩
  rw [State.res_setRes, Resident.prg_setPrg, branchTarget_eq]
  refine ⟨rfl, fun k => ?_, fun k => ?_, rfl⟩
  · rw [Prg.branched, if_pos (ht.mpr k)]
  · rw [Prg.branched, if_neg (mt ht.mp k)]

/-- A program that ends leaves ESTAT at 3 and every register, scratchpad and slab as it was. -/
theorem ends_of {s : State} {h : Nat} {e : Eng} :
    let t := (s.modRes h (fun r => r.setEst e 3)).endBlock h e
    (t.res h).est e = 3 ∧ t.mem = s.mem ∧ (t.res h).nregs = (s.res h).nregs ∧ (t.res h).cregs = (s.res h).cregs ∧
      ∀ j, (t.tile j).spad = (s.tile j).spad ∧ (t.tile j).slabs = (s.tile j).slabs ∧ (t.tile j).slabfe = (s.tile j).slabfe := by
  intro t
  have end_ : BlockEnded (s.modRes h (fun r => r.setEst e 3)) t := blockEnded_endBlock _ h e
  have hr := end_.res h
  rw [State.modRes_eq, State.res_setRes] at hr
  refine ⟨(hr.est e).trans (by rw [Resident.est_setEst _ _ _ (by decide), if_pos rfl]), end_.mem, by rw [hr]; rfl, by rw [hr]; rfl, fun j => ?_⟩
  rw [end_.tile j]
  exact ⟨rfl, rfl, rfl⟩

theorem onMat_of {s : State} {h : Nat} (e : s.who = some (.task h .m)) (k : Nat → Out) : onMat s k = k h := by rw [onMat, e]
theorem onCopy_of {s : State} {h : Nat} (e : s.who = some (.task h .c)) (k : Nat → Out) : onCopy s k = k h := by rw [onCopy, e]

end Sys2Proof.Machine

open Sys2Proof Sys2Proof.Machine

/-- Settles O40: both engines branch by one rule and end by another. -/
theorem matrixAndCopyControl : Obligations.MatrixAndCopyControl := by
  intro s h c a o k oc takes branches ends
  refine ⟨fun turn => ⟨?_, fun quiet => ?_, fun busy => ?_, fun idle awake => ?_, fun idle asleep => ?_⟩, fun turn => ⟨?_, fun quiet => ?_, fun busy => ?_⟩⟩
  · refine branch_completes_local (.inl rfl) ?_ (condHolds_iff c _)
    rw [exec_mbr, execMbr, onMat_of turn]
    rfl
  · exact ⟨_, by rw [exec_matrixEnd, execMatrixEnd, onMat_of turn, quiet]; rfl, ends_of⟩
  · rw [exec_matrixEnd, execMatrixEnd, onMat_of turn, busy]; rfl
  · exact completes_programSteps (by rw [exec_mwake, execMwake, onMat_of turn, idle, if_neg (by simp), if_neg (by simp [awake])])
  · rw [exec_mwake, execMwake, onMat_of turn, idle, if_neg (by simp), if_pos asleep]
    rfl
  · refine branch_completes_local (.inr rfl) ?_ (condHolds_iff c _)
    rw [exec_cbr, execCbr, onCopy_of turn]
    rfl
  · exact ⟨_, by rw [exec_copyEnd, execCopyEnd, onCopy_of turn, quiet]; rfl, ends_of⟩
  · rw [exec_copyEnd, execCopyEnd, onCopy_of turn, busy]; rfl
end

section
/-!
The other programs of a resident as its scalar program starts, awaits and ends them: FORK, JOIN and END (R36, R38, R39, R144, R145).
-/

namespace Sys2Proof.Machine
open Sys2Proof

/-! ## FORK -/

/-- The local registers of an engine that has its own. -/
def Resident.locals (r : Resident) : Eng → FMap Word
  | .s => [] | .v => r.kregs | .m => r.nregs | .c => r.cregs

theorem lreg_eq_locals (s : State) (h : Nat) {e : Eng} (he : e ≠ .s) (i : Nat) : s.lreg (.task h e) i = fget 0 ((s.res h).locals e) i := by
  cases e with
  | s => exact absurd rfl he
  | v | m | c => rfl

/-- Locals 0 to 7 from s1 to s8, the others kept (R36). -/
def Resident.passed (r : Resident) (m : FMap Word) : FMap Word := (List.range 8).foldl (fun m i => fset (0 : Word) m i (r.sc.get (i + 1))) m

/-- Successive writes to the first n keys. -/
theorem fget_foldl_fset (f : Nat → Word) (m : FMap Word) (n i : Nat) (hi : i < n) :
    fget 0 ((List.range n).foldl (fun m i => fset (0 : Word) m i (f i)) m) i = f i := by
  induction n with
  | zero => omega
  | succ n ih =>
    rw [List.range_succ, List.foldl_append, List.foldl_cons, List.foldl_nil]
    by_cases e : i = n
    · rw [e, fget_fset_same]
    · rw [fget_fset_other _ _ _ e, ih (by omega)]

/-- What the start of an engine's program does to every engine's program, ESTAT field and locals. -/
theorem Resident.start1_of {e : Eng} (he : e ≠ .s) (r : Resident) (a : Word) (d : Eng) :
    (r.start1 e a).est d = (if d = e then 1 else r.est d) ∧
    (r.start1 e a).prg d = (if d = e then { Prg.start with pc := a.setWidth 56 } else r.prg d) ∧
    (r.start1 e a).locals d = (if d = e then r.passed (r.locals d) else r.locals d) := by
  refine ⟨?_, ?_, ?_⟩
  · show (Resident.setEst _ e 1).est d = _
    rw [Resident.est_setEst _ _ _ (by decide)]
    split
    · rfl
    · cases e <;> rfl
  all_goals
    cases e with
    | s => exact absurd rfl he
    | v | m | c => cases d <;> rfl

@[simp] theorem Resident.start1_sc (r : Resident) (e : Eng) (a : Word) : (r.start1 e a).sc = r.sc := by cases e <;> rfl

/-- The programs of a list started one after another. -/
def Resident.starts (r : Resident) (f : BitVec 6 → Word) (l : List (Eng × BitVec 6)) : Resident := l.foldl (fun q x => q.start1 x.1 (f x.2)) r

theorem Resident.starts_sc (f : BitVec 6 → Word) (l : List (Eng × BitVec 6)) (r : Resident) : (r.starts f l).sc = r.sc := by
  induction l generalizing r with
  | nil => rfl
  | cons x l ih => exact (ih _).trans (r.start1_sc _ _)

/-- An engine that the list does not name is left. -/
theorem Resident.starts_other (f : BitVec 6 → Word) {d : Eng} {l : List (Eng × BitVec 6)} (hs : ∀ x ∈ l, x.1 ≠ .s) (hd : ∀ x ∈ l, x.1 ≠ d) (r : Resident) :
    (r.starts f l).est d = r.est d ∧ (r.starts f l).prg d = r.prg d ∧ (r.starts f l).locals d = r.locals d := by
  induction l generalizing r with
  | nil => exact ⟨rfl, rfl, rfl⟩
  | cons x l ih =>
    obtain ⟨h1, h2, h3⟩ := r.start1_of (hs x (by simp)) (f x.2) d
    have n : d ≠ x.1 := (hd x (by simp)).symm
    rw [if_neg n] at h1 h2 h3
    obtain ⟨k1, k2, k3⟩ := ih (fun y hy => hs y (by simp [hy])) (fun y hy => hd y (by simp [hy])) (r.start1 x.1 (f x.2))
    exact ⟨k1.trans h1, k2.trans h2, k3.trans h3⟩

/-- An engine that the list names once runs from its entry with locals 0 to 7 from s1 to s8. -/
theorem Resident.starts_mem (f : BitVec 6 → Word) {l : List (Eng × BitVec 6)} (hs : ∀ x ∈ l, x.1 ≠ .s) (hn : (l.map (·.1)).Nodup) (r : Resident) :
    ∀ x ∈ l, (r.starts f l).est x.1 = 1 ∧ (r.starts f l).prg x.1 = { Prg.start with pc := (f x.2).setWidth 56 } ∧
      ∀ i, i < 8 → fget 0 ((r.starts f l).locals x.1) i = r.sc.get (i + 1) := by
  induction l generalizing r with
  | nil => simp
  | cons y l ih =>
    intro x hx
    rw [List.map_cons, List.nodup_cons] at hn
    have hsl : ∀ z ∈ l, z.1 ≠ .s := fun z hz => hs z (by simp [hz])
    rcases List.mem_cons.mp hx with rfl | hx
    · have other : ∀ z ∈ l, z.1 ≠ x.1 := fun z hz e => hn.1 (List.mem_map.mpr ⟨z, hz, e⟩)
      obtain ⟨k1, k2, k3⟩ := Resident.starts_other f hsl other (r.start1 x.1 (f x.2))
      obtain ⟨h1, h2, h3⟩ := r.start1_of (hs x (by simp)) (f x.2) x.1
      rw [if_pos rfl] at h1 h2 h3
      refine ⟨k1.trans h1, k2.trans h2, fun i hi => ?_⟩
      show fget 0 (((r.start1 x.1 (f x.2)).starts f l).locals x.1) i = _
      rw [k3, h3, Resident.passed, fget_foldl_fset _ _ _ _ hi]
    · obtain ⟨k1, k2, k3⟩ := ih hsl hn.2 (r.start1 y.1 (f y.2)) x hx
      exact ⟨k1, k2, fun i hi => (k3 i hi).trans (by rw [Resident.start1_sc])⟩

theorem mem_forkList (v m c : BitVec 6) (x : Eng × BitVec 6) : x ∈ forkList v m c ↔ x ∈ [(Eng.v, v), (.m, m), (.c, c)] ∧ x.2 ≠ 0 := by
  simp [forkList]

theorem forkList_nodup (v m c : BitVec 6) : ((forkList v m c).map (·.1)).Nodup := by
  have : ((forkList v m c).map (·.1)).Sublist [Eng.v, .m, .c] := (List.filter_sublist (p := fun x => x.2 != 0) (l := [(Eng.v, v), (Eng.m, m), (Eng.c, c)])).map (·.1)
  exact this.nodup (by decide)

/-! ## JOIN -/

/-- What JOIN does with one engine (R38). -/
def Resident.join1 (r : Resident) (e : Eng) : Resident := if r.est e = 3 then r.setEst e 0 else r

theorem Resident.est_join1 (r : Resident) (d e : Eng) : (r.join1 e).est d = if d = e ∧ r.est e = 3 then 0 else r.est d := by
  unfold Resident.join1
  split
  · next h => rw [Resident.est_setEst _ _ _ (by decide)]; simp [h]
  · next h => simp [h]

@[simp] theorem Resident.join1_sc (r : Resident) (e : Eng) : (r.join1 e).sc = r.sc := by
  unfold Resident.join1
  split <;> rfl

theorem Resident.joined_sc (r : Resident) : r.joined.sc = r.sc := by
  show (((r.join1 .v).join1 .m).join1 .c).sc = _
  simp

/-- Every ended program is idle (R38). -/
theorem Resident.est_joined (r : Resident) {e : Eng} (he : e ∈ [Eng.v, .m, .c]) (h : r.est e ≠ 1 ∧ r.est e ≠ 2) : r.joined.est e = 0 := by
  have lt : r.est e < 4 := Nat.mod_lt _ (by decide)
  show (((r.join1 .v).join1 .m).join1 .c).est e = 0
  simp only [Resident.est_join1]
  simp only [List.mem_cons, List.not_mem_nil, or_false] at he
  rcases he with rfl | rfl | rfl <;> simp <;> omega

theorem Locally.trans {s t u : State} (h : Locally s t) (k : Locally t u) : Locally s u := by
  rw [Locally] at h k ⊢
  rw [k, h]

theorem locally_setRes (s : State) (h : Nat) (r : Resident) : Locally s (s.setRes h r) := rfl

/-- A pass of a wait leaves the scalar context; only the scalar program's counts differ. -/
theorem onlyScalar_waited (h : Nat) (s : State) : OnlyScalar (.task h .s) s (s.waited (.task h .s)) ∧ (s.waited (.task h .s)).sc (.task h .s) = s.sc (.task h .s) := by
  have e : s.waited (.task h .s) = if (s.res h).sc.settled then s.boundary h .s else s := rfl
  rw [e]
  split
  · exact ⟨onlyScalar_modPrg h s fun p => { p with blk := 0, bnd := false }, by simp [State.boundary, State.sc]⟩
  · exact ⟨⟨⟨rfl, fun _ _ => rfl, fun _ _ => rfl⟩, rfl⟩, rfl⟩

end Sys2Proof.Machine

open Sys2Proof Sys2Proof.Machine

/-- Settles O13: FORK's starts do not meet, JOIN passes over programs that have ended, END leaves a draining resident. -/
theorem forkJoinEnd : Obligations.ForkJoinEnd := by
  intro s h fv fm fc w named good turn
  have fine : (forkList fv fm fc).any (fun x => (s.res h).est x.1 != 0 || !entryOkAddr ((s.res h).sc.get x.2.toNat)) = false ↔ good := by
    simp only [List.any_eq_false, mem_forkList, entryOkAddr, Bool.or_eq_true, bne_iff_ne, Bool.not_eq_true', Bool.and_eq_false_iff, decide_eq_false_iff_not, not_or,
      not_not, ne_eq, and_imp]
    rfl
  have scalar : ∀ x ∈ named, x.1 ≠ .s := by simp [named]
  refine ⟨fun g => ?_, fun g => ?_, fun est pre pass => ?_, fun est life => ?_, fun ⟨e, he, hn⟩ => ?_⟩
  · let l := forkList fv fm fc
    let q := (s.res h).starts (fun n => (s.res h).sc.get n.toNat) l
    have hl : ∀ x ∈ l, x.1 ≠ .s := fun x hx => scalar x ((mem_forkList ..).mp hx).1
    refine ⟨(s.setRes h q).advance w, ?_, ?_⟩
    · rw [exec_fork, execFork, onScalar_of turn]
      show (if _ then _ else _) = _
      rw [fine.mpr g]
      rfl
    · obtain ⟨⟨⟨loc, others, -⟩, own⟩, queue, -, regs⟩ := advance_steps w (s.setRes h q) turn.2
      have hsc : (s.setRes h q).sc w = s.sc w := (congrArg Resident.sc (State.res_setRes s h q)).trans (Resident.starts_sc _ _ _)
      rw [hsc] at queue regs
      have hq : ∀ e, e ≠ .s → (((s.setRes h q).advance w).res h).est e = q.est e ∧ (((s.setRes h q).advance w).res h).prg e = q.prg e ∧
          (((s.setRes h q).advance w).res h).locals e = q.locals e := fun e he => by
        have o := own
        simp only [w, State.res_setRes] at o
        rw [o]
        cases e with
        | s => exact absurd rfl he
        | v | m | c => exact ⟨rfl, rfl, rfl⟩
      refine ⟨?_, fun k n => ?_, queue, regs, fun x hx hf => ?_, fun x hx hf => ?_⟩
      · exact (locally_setRes s h q).trans loc
      · rw [others k fun e he => n (Who.task.inj he).1.symm, State.res_setRes_other _ _ n]
      · obtain ⟨h1, h2, h3⟩ := hq x.1 (scalar x hx)
        obtain ⟨k1, k2, k3⟩ := Resident.starts_mem (fun n => (s.res h).sc.get n.toNat) hl (forkList_nodup fv fm fc) (s.res h) x ((mem_forkList ..).mpr ⟨hx, hf⟩)
        refine ⟨h1.trans k1, (congrArg Prg.pc (h2.trans k2)), fun i hi => ?_⟩
        rw [lreg_eq_locals _ _ (scalar x hx), h3]
        exact k3 i hi
      · obtain ⟨h1, h2, -⟩ := hq x.1 (scalar x hx)
        have other : ∀ y ∈ l, y.1 ≠ x.1 := fun y hy e => by
          obtain ⟨my, ny⟩ := (mem_forkList ..).mp hy
          have : y = x := by
            simp only [named, List.mem_cons, List.not_mem_nil, or_false] at my hx
            rcases my with rfl | rfl | rfl <;> rcases hx with rfl | rfl | rfl <;> simp_all
          exact ny (this ▸ hf)
        obtain ⟨k1, k2, -⟩ := Resident.starts_other (fun n => (s.res h).sc.get n.toNat) hl other (s.res h)
        exact ⟨h2.trans k2, h1.trans k1⟩
  · rw [exec_fork, execFork, onScalar_of turn]
    exact if_pos ((Bool.not_eq_false _).mp (mt fine.mp g))
  · let u := s.waited w
    obtain ⟨⟨⟨loc, others, -⟩, own⟩, hsc⟩ := onlyScalar_waited h s
    have holds : s.waitHolds w.resident .join = true := by
      simp only [State.waitHolds, List.all_eq_true, Bool.and_eq_true, bne_iff_ne]
      exact est
    refine ⟨(u.modRes h Resident.joined).advance w, ?_, ?_⟩
    · rw [exec_join, execJoin, onScalar_of turn]
      exact waitOp_passes holds ⟨pass, pre⟩
    · obtain ⟨⟨⟨loc', others', -⟩, own'⟩, queue, -, regs⟩ := advance_steps w (u.modRes h Resident.joined) turn.2
      have hj : (u.modRes h Resident.joined).sc w = s.sc w := by
        rw [← hsc]
        exact (congrArg Resident.sc (State.res_setRes _ _ _)).trans (Resident.joined_sc _)
      rw [hj] at queue regs
      refine ⟨?_, fun k n => ?_, queue, regs, fun e he => ?_⟩
      · exact loc.trans ((locally_setRes u h _).trans loc')
      · rw [others' k fun e he => n (Who.task.inj he).1.symm]
        exact (State.res_setRes_other _ _ n).trans (others k fun e he => n (Who.task.inj he).1.symm)
      · have hu : (u.res h).est e = (s.res h).est e := by
          have o := own
          simp only at o
          show ((s.waited (.task h .s)).res h).est e = _
          rw [o]
          rfl
        have o := own'
        simp only [w, State.modRes_eq, State.res_setRes] at o
        show (((u.setRes h (u.res h).joined).advance (.task h .s)).res h).est e = 0
        rw [o]
        exact Resident.est_joined (u.res h) he (by rw [hu]; exact est e he)
  · let r := s.res h
    have end_ := blockEnded_endBlock (s.setRes h { r.setEst .s 0 with life := .draining }) h .s
    have hr := end_.res h
    rw [State.res_setRes] at hr
    refine ⟨_, ?_, ?_, (hr.est .s).trans (Resident.est_setEst _ _ _ (by decide)), fun x => by rw [end_.mem]; rfl⟩
    · rw [exec_sEnd, execSEnd, onScalar_of turn]
      exact if_neg (by simpa using est)
    · rw [hr]
  · rw [exec_sEnd, execSEnd, onScalar_of turn]
    exact if_pos (List.any_eq_true.mpr ⟨e, he, by simpa using hn⟩)

end

section
/-!
Rings and watermarks on every engine (R19 to R21, R240 to R243).
-/

namespace Sys2Proof.Machine
open Sys2Proof

/-! ## Granted rings and channels -/

theorem onTile_of {s : State} {h : Nat} {e : Eng} (turn : s.who = some (.task h e)) (i : Instr) (k : Who → Nat → Out) : onTile i s k = k (.task h e) h := by
  rw [onTile, onAny, turn]

/-- A ring function on a granted ring, configured where it needs that, goes on. -/
theorem ringOp_of {s : State} {h : Nat} {e : Eng} {b : BitVec 6} {cfg : Bool} (turn : s.who = some (.task h e)) (granted : (s.res h).ringOk b.toNat = true)
    (hc : cfg = true → (s.ring (hTile h) b.toNat).cfg = true) (i : Instr) (k : Who → Nat → Ring → Out) :
    ringOp i b cfg s k = k (.task h e) h (s.ring (hTile h) b.toNat) := by
  rw [ringOp, onTile_of turn]
  refine if_neg ?_
  cases cfg
  · simp [granted]
  · simp [granted, hc rfl]

theorem chanOp_of {s : State} {h : Nat} {e : Eng} {c : BitVec 6} (turn : s.who = some (.task h e)) (granted : (s.res h).chanOk c.toNat = true)
    (i : Instr) (k : Who → Nat → Chan → Out) : chanOp i c s k = k (.task h e) h (s.chan (hTile h) c.toNat) := by
  rw [chanOp, onTile_of turn]
  exact if_neg (by simp [granted])

/-- A wait whose condition holds, before an instruction that then steps over what it makes of the state. -/
theorem completes_wait {s : State} {w : Who} {i : Instr} {x : Wait} {f : State → State} {k : State → Out} (u : Unhindered s w)
    (hx : s.waitHolds w.resident x = true) (e : exec i s = waitOp w x s (fun s' => .next ((f s').advance w)) k) :
    Completes i s (ProgramSteps w (f (s.waited w))) :=
  completes_programSteps (e.trans (waitOp_passes hx u))

/-- Whether earlier scratchpad and slab accesses of an engine's program are under way (R242). -/
theorem scratchBusy_false_iff (s : State) (h : Nat) (e : Eng) (wr : Bool) : s.scratchBusy (.task h e) wr = false ↔
    (e = .v → ∀ y ∈ s.vops, y.h = h → y.finished = false → y.load = !wr → y.space = .global) ∧
    (e = .m → (s.res h).dp = none) ∧ (e = .c → (s.res h).xf = none) := by
  cases e with
  | v =>
    simp only [State.scratchBusy, List.any_eq_false, reduceCtorEq, false_implies, true_implies, and_true]
    refine forall₂_congr fun y _ => ?_
    cases y.load <;> cases wr <;> simp
  | s => simp [State.scratchBusy]
  | m => simp [State.scratchBusy]
  | c => simp [State.scratchBusy]

/-! ## Fields of the configuration word -/

theorem extractLsb'_eq_ofNat (v : Word) (lo n : Nat) : v.extractLsb' lo n = BitVec.ofNat n (v.toNat / 2 ^ lo) := by
  rw [BitVec.extractLsb', Nat.shiftRight_eq_div_pow]

/-- A tile-absolute address as a window offset. -/
theorem offOf_ofNat (r : Resident) (a : Nat) : r.offOf (BitVec.ofNat 64 a) = BitVec.ofInt 64 ((a : Int) - r.spBase) := by
  rw [Resident.offOf, Int.sub_eq_add_neg, BitVec.ofInt_add, BitVec.ofInt_neg, BitVec.ofInt_natCast, BitVec.ofInt_natCast, BitVec.sub_eq_add_neg]

theorem bitVec2_cases : ∀ x : BitVec 2, x = 0 ∨ x = 1 ∨ x = 2 ∨ x = 3 := by decide

theorem ringInit_eq (v : Word) (b : Nat) : ringInit v b =
    { base := BitVec.ofNat 22 (b + v.toNat % 2 ^ 22), slotsz := BitVec.ofNat 17 (v.toNat / 2 ^ 22), nslots := BitVec.ofNat 13 (v.toNat / 2 ^ 39), head := 0,
      tail := 0, claim := 0, cfg := true, hslot := 0 } := by
  simp [ringInit, cfgOff, extractLsb'_eq_ofNat]

end Sys2Proof.Machine

open Sys2Proof Sys2Proof.Machine

/-- Settles O21: each function is its wait's pass or a plain step over the ring it leaves. -/
theorem ringFunctions : Obligations.RingFunctions := by
  intro s h e o x n sel w b g v m settled turn granted free
  have busy : ∀ wr, s.scratchBusy w wr = false ↔ settled wr := scratchBusy_false_iff s h e
  have beyond : n.toNat ≤ (g.claim - g.tail).toNat → ¬ (2 ^ 31 ≤ (g.tail - g.tail).toNat ∨ (g.claim - g.tail).toNat < (g.tail - g.tail).toNat + n.toNat) := fun le => by
    simp only [BitVec.sub_self, BitVec.toNat_ofNat]
    omega
  refine ⟨fun ok idle => ?_, fun cfg le room => ?_, fun cfg (at_ : BitVec.setWidth 32 (s.lreg (.task h e) x.toNat) = (s.ring (hTile h) o.toNat).tail) le => ⟨fun q => ?_, fun q => ?_⟩, fun cfg le => ?_, fun cfg le => ⟨fun q => ?_, fun q => ?_⟩,
    ?_, fun cfg nz => ?_⟩
  · rw [← ringInit_eq]
    refine completes_programSteps ?_
    rw [exec_rinit, execRinit, ringOp_of turn granted (by simp)]
    exact if_neg (by simp only [Bool.or_eq_true, Bool.not_eq_true', Bool.and_eq_true, decide_eq_true_eq]; rintro (h | ⟨h, n⟩); exacts [absurd ok (by rw [h]; decide), n (idle h)])
  · have holds : s.waitHolds w.resident (.ringFree b n.toNat) = true := decide_eq_true room
    constructor
    · apply completes_wait (f := fun s' => (s'.setRing (hTile h) b { g with claim := g.claim + n.setWidth 32 }).setLreg w x.toNat (g.claim.setWidth 64)) free holds
      rw [exec_rclaim, execRclaim, ringOp_of turn granted fun _ => cfg]
      exact if_neg (Nat.not_lt.mpr le)
    · apply completes_wait (f := fun s' => s'.setLreg w x.toNat (g.claim.setWidth 64)) free holds
      rw [exec_rwfree, execRwfree, ringOp_of turn granted fun _ => cfg]
      exact if_neg (Nat.not_lt.mpr le)
  · have holds : s.waitHolds w.resident (.ringTail b g.tail) = true := decide_eq_true rfl
    apply completes_wait (f := fun s' => s'.setRing (hTile h) b { g with tail := g.tail + n.setWidth 32 }) free holds
    rw [exec_rpub, execRpub, ringOp_of turn granted fun _ => cfg]
    simp only [at_]
    exact (if_neg (beyond le)).trans (if_neg (by rw [(busy true).mpr q]; decide))
  · rw [exec_rpub, execRpub, ringOp_of turn granted fun _ => cfg]
    simp only [at_]
    exact (if_neg (beyond le)).trans (if_pos (by simpa using mt (busy true).mp q))
  · have holds : s.waitHolds w.resident (.ringFilled b n.toNat) = true := decide_eq_true le
    apply completes_wait (f := fun s' => s'.setLreg w x.toNat (g.head.setWidth 64)) free holds
    rw [exec_rwfill, execRwfill, ringOp_of turn granted fun _ => cfg]
    rfl
  · refine completes_programSteps ?_
    rw [exec_rcons, execRcons, ringOp_of turn granted fun _ => cfg]
    exact (if_neg (Nat.not_lt.mpr le)).trans (if_neg (by rw [(busy false).mpr q]; decide))
  · rw [exec_rcons, execRcons, ringOp_of turn granted fun _ => cfg]
    exact (if_neg (Nat.not_lt.mpr le)).trans (if_pos (by simpa using mt (busy false).mp q))
  · refine completes_programSteps ?_
    rw [exec_rread, execRread, ringOp_of turn granted (by simp)]
    rcases bitVec2_cases sel with rfl | rfl | rfl | rfl <;> rfl
  · refine completes_programSteps ?_
    rw [exec_raddr, execRaddr, ringOp_of turn granted fun _ => cfg]
    simp only [offOf_ofNat, Ring.slotOf]
    rw [if_neg nz]
    push_cast
    rfl

/-- Settles O23: each watermark function is its wait's pass or a plain step over the channel it leaves. -/
theorem watermarkFunctions : Obligations.WatermarkFunctions := by
  intro s h e o x p w ch c r b l off turn granted free
  have armed : c.armed = true ↔ c.base.toNat ≤ c.wm.toNat ∧ c.wm.toNat < c.limit.toNat := by simp [Chan.armed]
  refine ⟨fun inside => ?_, fun idle le size window low => ?_, fun busy => ?_, ?_, fun q => ?_, fun q => ?_⟩
  · have addr : (if c.space then r.absOf (s.lreg w x.toNat) else s.lreg w x.toNat) = BitVec.ofNat 64 (b + if c.space then r.spBase else 0) := by
      cases c.space
      · simp [b]
      · simp [b, Resident.absOf, BitVec.ofNat_add]
    apply completes_wait (f := id) (x := .mark ch (if c.space then r.absOf (s.lreg w x.toNat) else s.lreg w x.toNat)) free
    · rw [addr]
      exact Bool.and_eq_true _ _ ▸ ⟨decide_eq_true inside.1, decide_eq_true inside.2⟩
    · rw [exec_wmwait, execWmwait, chanOp_of turn granted]
      rfl
  · refine completes_programSteps ?_
    rw [exec_wmarm, execWmarm, chanOp_of turn granted]
    refine if_neg ?_
    simp only [Bool.or_eq_true, Bool.and_eq_true, decide_eq_true_eq, not_or, not_and]
    exact ⟨⟨⟨⟨mt armed.mp idle, Nat.not_lt.mpr le⟩, Nat.not_lt.mpr size⟩, fun hp => Nat.not_lt.mpr (window hp)⟩,
      fun _ => ⟨Nat.not_le.mpr (Nat.lt_of_le_of_lt le low), Nat.not_le.mpr low⟩⟩
  · rw [exec_wmarm, execWmarm, chanOp_of turn granted]
    exact if_pos (by rw [armed.mpr busy]; rfl)
  · refine completes_programSteps ?_
    rw [exec_wmread, execWmread, chanOp_of turn granted]
    have value : (if c.space then r.offOf (c.wm.setWidth 64) else c.wm.setWidth 64) = BitVec.ofInt 64 ((c.wm.toNat : Int) - if c.space then r.spBase else 0) := by
      rw [← BitVec.ofNat_toNat]
      cases c.space
      · simp
      · exact offOf_ofNat r _
    rw [← value]
    rfl
  · refine completes_programSteps ?_
    rw [exec_wmidle, execWmidle, chanOp_of turn granted]
    exact if_neg (by rw [q]; decide)
  · rw [exec_wmidle, execWmidle, chanOp_of turn granted]
    exact if_pos q
end

section
/-!
Fences (R14, R246, R280, R289): when set A is performed, what stands behind a completed fence, and the flushes that one of scope h waits for.
-/

namespace Sys2Proof.Machine
open Sys2Proof

/-! ## Set A -/

theorem pathNamed_iff (code p : BitVec 3) : pathNamed code p = true ↔ code = 7 ∨ code = p := by simp [pathNamed]

/-- An access in flight that counts as performed at a scope (R284). -/
theorem performedAt_iff (g : GAcc) (c : BitVec 3) : g.performedAt c = true ↔
    g.isStore = true ∧ g.data.length = g.n ∧ (c.toNat ≤ 1 ∨ (c = 2 ∧ g.tgt.aper = 2 ∧ g.sent = true)) := by
  have one : c ≤ 1#3 ↔ c.toNat ≤ 1 := BitVec.le_def
  cases hs : g.isStore <;> simp [GAcc.performedAt, GAcc.ready, hs, one, and_assoc]

/-- A collective program's member is one that fence path code src covers for the owner (R246). -/
def State.Started (s : State) (o : Owner) (src : BitVec 3) (x : Owner) : Prop :=
  (src = 7 ∨ src = 4) ∧ ∃ k h, x = .coll k ∧ o = .task h ∧ (s.comm k).ident = (s.res h).ident

theorem started_iff (s : State) (o : Owner) (src : BitVec 3) (x : Owner) :
    (pathNamed src 4 && (match x with | .coll c => s.startedBy o c | _ => false)) = true ↔ s.Started o src x := by
  rw [Bool.and_eq_true, pathNamed_iff, State.Started]
  refine and_congr Iff.rfl ?_
  cases x <;> try simp
  cases o <;> simp [State.startedBy, State.comm]

/-- Set A of a fence: every access of it is performed at the scope (R246). -/
structure State.FencePerformed (s : State) (w : Who) (src c : BitVec 3) (u : Bool) (n : Nat) : Prop where
  accesses : ∀ g ∈ s.gaccs, g.id < n → u = true ∨ g.tgt.kind ≠ 2 →
    (g.owner = w.owner → src = 7 ∨ src = g.path → g.failed = none → g.performedAt c = true) ∧ (s.Started w.owner src g.owner → g.performedAt c = true)
  host : ∀ g ∈ s.gaccs, ∀ p, src = 7 ∨ src = 6 → g.id < n → g.owner = .host p → g.isStore = false
  operations : ∀ o ∈ s.routs, o.owner = w.owner → o.id < n →
    (src = 7 ∨ src = o.path → s.remotePerformed o c = true) ∧ (src = 7 ∨ src = 5 → s.handlerDone o = true)
  vectors : ∀ v ∈ s.vops, w.owner = .task v.h → src = 7 ∨ src = 1 → v.id < n → v.space ≠ .global → v.finished = true
  engines : ∀ h e, w = .task h e → (src = 7 ∨ src = 2 → ∀ d, (s.res h).dp = some d → n ≤ d.id) ∧ (src = 7 ∨ src = 3 → ∀ x, (s.res h).xf = some x → n ≤ x.id)

theorem fenceDone_iff (s : State) (w : Who) (src c : BitVec 3) (u : Bool) (n : Nat) : s.fenceDone w src c u n = true ↔ s.FencePerformed w src c u n := by
  have strong : ∀ t : Target, (u || t.strong) = true ↔ u = true ∨ t.kind ≠ 2 := by simp [Target.strong]
  have impl : ∀ a b : Bool, (!a || b) = true ↔ (a = true → b = true) := by decide
  have engines : (match w with
      | .task h _ => (!pathNamed src 2 || (match (s.res h).dp with | some d => decide (n ≤ d.id) | none => true)) &&
          (!pathNamed src 3 || (match (s.res h).xf with | some x => decide (n ≤ x.id) | none => true))
      | .sv _ => true) = true ↔
      ∀ h e, w = .task h e → (src = 7 ∨ src = 2 → ∀ d, (s.res h).dp = some d → n ≤ d.id) ∧ (src = 7 ∨ src = 3 → ∀ x, (s.res h).xf = some x → n ≤ x.id) := by
    cases w with
    | sv c => simp
    | task h e =>
      simp only [Bool.and_eq_true, impl, pathNamed_iff, Who.task.injEq, and_imp]
      cases hd : (s.res h).dp <;> cases hx : (s.res h).xf <;> simp [hd, hx]
  have member : ∀ g : GAcc, (match g.owner with | .coll c' => !(s.startedBy w.owner c' && decide (g.id < n) && (u || g.tgt.strong)) || g.performedAt c | _ => true) = true ↔
      ∀ k h, g.owner = .coll k → w.owner = .task h → (s.comm k).ident = (s.res h).ident → g.id < n → u = true ∨ g.tgt.kind ≠ 2 → g.performedAt c = true := fun g => by
    cases g.owner <;> simp only [reduceCtorEq, false_implies, implies_true, Owner.coll.injEq, impl, Bool.and_eq_true, decide_eq_true_eq, strong]
    cases w.owner <;> simp [State.startedBy, State.comm]
  have host : ∀ g : GAcc, (match g.owner with | .host _ => !(g.isStore && decide (g.id < n)) | _ => true) = true ↔
      ∀ p, g.owner = .host p → g.id < n → g.isStore = false := fun g => by
    cases g.owner <;> simp
    cases g.isStore <;> simp
  unfold State.fenceDone
  simp only [Bool.and_eq_true, List.all_eq_true, impl, decide_eq_true_eq, pathNamed_iff, strong]
  constructor
  · rintro ⟨⟨⟨⟨⟨⟨own, rem⟩, vec⟩, eng⟩, coll⟩, hst⟩, hand⟩
    exact {
      accesses := fun g hg hid hs => ⟨fun ho hp hf => own g hg ⟨⟨⟨⟨ho, hp⟩, hid⟩, hs⟩, hf⟩, fun ⟨hsrc, k, h, hk, ho, he⟩ => (member g).mp (coll hsrc g hg) k h hk ho he hid hs⟩
      host := fun g hg p hsrc hid ho => (host g).mp (hst hsrc g hg) p ho hid
      operations := fun o ho hw hid => ⟨fun hp => rem o ho ⟨⟨hw, hp⟩, hid⟩, fun hsrc => hand hsrc o ho ⟨hw, hid⟩⟩
      vectors := fun v hv ho hsrc hid hs => vec v hv ⟨⟨⟨ho, hsrc⟩, hid⟩, hs⟩
      engines := engines.mp eng }
  · rintro ⟨acc, hst, ops, vec, eng⟩
    exact ⟨⟨⟨⟨⟨⟨fun g hg ⟨⟨⟨⟨ho, hp⟩, hid⟩, hs⟩, hf⟩ => (acc g hg hid hs).1 ho hp hf, fun o ho ⟨⟨hw, hp⟩, hid⟩ => (ops o ho hw hid).1 hp⟩,
      fun v hv ⟨⟨⟨ho, hsrc⟩, hid⟩, hs⟩ => vec v hv ho hsrc hid hs⟩, engines.mpr eng⟩,
      fun hsrc g hg => (member g).mpr fun k h hk ho he hid hs => (acc g hg hid hs).2 ⟨hsrc, k, h, hk, ho, he⟩⟩,
      fun hsrc g hg => (host g).mpr fun p ho hid => hst g hg p hsrc hid ho⟩,
      fun hsrc o ho ⟨hw, hid⟩ => (ops o ho hw hid).2 hsrc⟩

/-- The ports that a fence of scope h flushes: those that carried a write of its set since their last flush (R289). -/
theorem mem_portsToFlush (s : State) (mine : Posted → Bool) (p : Bool) : p ∈ s.portsToFlush mine none ↔ ∃ m ∈ s.unflushed, m.port = p ∧ mine m = true := by
  cases p <;> simp [State.portsToFlush]

theorem fenceCovers_iff (s : State) (w : Who) (src : BitVec 3) (n : Nat) (m : Posted) : s.fenceCovers w src n m = true ↔
    m.id < n ∧ ((m.owner = w.owner ∧ (src = 7 ∨ src = m.path)) ∨ s.Started w.owner src m.owner) := by
  rw [State.fenceCovers, Bool.and_eq_true, Bool.or_eq_true, Bool.and_eq_true, pathNamed_iff, decide_eq_true_eq, decide_eq_true_eq]
  exact and_congr Iff.rfl (or_congr Iff.rfl (started_iff s w.owner src m.owner))

/-! ## What a completed fence leaves -/

/-- An access as a completed fence marks it (R280). -/
def GAcc.marked (w : Who) (src dst : BitVec 3) (u : Bool) (below n : Nat) (g : GAcc) : GAcc :=
  if decide (g.owner = w.owner) && decide (g.id < below) && (pathNamed src g.path || pathNamed dst g.path) then
    let g := if g.fenced = none then { g with fenced := some n } else g
    if u && decide (g.fencedU = none) then { g with fencedU := some n } else g
  else g

theorem markFence_eq (s : State) (w : Who) (src dst : BitVec 3) (u : Bool) (below : Nat) :
    s.markFence w src dst u below = { s with gaccs := s.gaccs.map (GAcc.marked w src dst u below s.nextId) } := rfl

theorem marked_of (w : Who) (src dst : BitVec 3) (u : Bool) (below n : Nat) (g : GAcc) :
    let y := g.marked w src dst u below n
    y = { g with fenced := y.fenced, fencedU := y.fencedU } ∧
    (g.owner = w.owner → g.id < below → (src = 7 ∨ src = g.path) ∨ dst = 7 ∨ dst = g.path →
      y.fenced = some (g.fenced.getD n) ∧ (u = true → y.fencedU = some (g.fencedU.getD n)) ∧ (u = false → y.fencedU = g.fencedU)) ∧
    (g.owner ≠ w.owner ∨ below ≤ g.id ∨ ¬ ((src = 7 ∨ src = g.path) ∨ dst = 7 ∨ dst = g.path) → y = g) := by
  intro y
  have cond : (decide (g.owner = w.owner) && decide (g.id < below) && (pathNamed src g.path || pathNamed dst g.path)) = true ↔
      g.owner = w.owner ∧ g.id < below ∧ ((src = 7 ∨ src = g.path) ∨ dst = 7 ∨ dst = g.path) := by
    simp only [Bool.and_eq_true, Bool.or_eq_true, decide_eq_true_eq, pathNamed_iff, and_assoc]
  by_cases hc : g.owner = w.owner ∧ g.id < below ∧ ((src = 7 ∨ src = g.path) ∨ dst = 7 ∨ dst = g.path)
  · have hf : (if g.fenced = none then { g with fenced := some n } else g) = { g with fenced := some (g.fenced.getD n) } := by
      by_cases hn : g.fenced = none
      · rw [if_pos hn, hn]
        rfl
      · obtain ⟨m, hm⟩ := Option.ne_none_iff_exists'.mp hn
        rw [if_neg hn, hm]
        show g = { g with fenced := some m }
        rw [← hm]
    have hy : y = if u && decide (g.fencedU = none) then { g with fenced := some (g.fenced.getD n), fencedU := some n } else { g with fenced := some (g.fenced.getD n) } := by
      simp only [y, GAcc.marked, cond.mpr hc, if_true, hf]
    refine ⟨?_, fun _ _ _ => ?_, fun h => ?_⟩
    · rw [hy]; split <;> rfl
    · rw [hy]; cases hu : g.fencedU <;> cases u <;> simp
    · obtain ⟨a, b, d⟩ := hc
      rcases h with h | h | h
      · exact absurd a h
      · omega
      · exact absurd d h
  · have hy : y = g := if_neg (mt cond.mp hc)
    exact ⟨by rw [hy], fun a b d => absurd ⟨a, b, d⟩ hc, fun _ => hy⟩

theorem fenceOf_advance (s : State) (w : Who) : (s.advance w).fenceOf w = s.fenceOf w := by
  match w with
  | .task h .s => simp [State.fenceOf, State.advance, State.issued, Resident.setPrg, SCtx.normal]
  | .task h .v => simp [State.fenceOf, State.advance, State.issued, Resident.setPrg, Resident.prg]
  | .task h .m => simp [State.fenceOf, State.advance, State.issued, Resident.setPrg, Resident.prg]
  | .task h .c => simp [State.fenceOf, State.advance, State.issued, Resident.setPrg, Resident.prg]
  | .sv c => simp [State.fenceOf, State.advance, SCtx.normal]

/-- The set A that a fence fixes, or that one gives up, is the program's own and leaves its place. -/
theorem setFence_of (s : State) (w : Who) (x : Option Nat) : (s.setFence w x).fenceOf w = x ∧ (s.setFence w x).pcOf w = s.pcOf w ∧
    s.setFence w x = { s with residents := (s.setFence w x).residents, svs := (s.setFence w x).svs } := by
  match w with
  | .task h .s => exact ⟨by simp [State.setFence, State.fenceOf], by simp [State.setFence, State.pcOf], rfl⟩
  | .task h .v => exact ⟨by simp [State.setFence, State.fenceOf], by simp [State.setFence, State.pcOf], rfl⟩
  | .task h .m => exact ⟨by simp [State.setFence, State.fenceOf], by simp [State.setFence, State.pcOf], rfl⟩
  | .task h .c => exact ⟨by simp [State.setFence, State.fenceOf], by simp [State.setFence, State.pcOf], rfl⟩
  | .sv c => exact ⟨by simp [State.setFence, State.fenceOf], by simp [State.setFence, State.pcOf], rfl⟩

theorem ProgramSteps.locally {w : Who} {u t : State} (h : ProgramSteps w u t) : Locally u t := by
  match w, h with
  | .task _ .s, h => exact h.1.1.1
  | .sv _, h => exact h.1.1.1
  | .task _ .v, h => exact h.1
  | .task _ .m, h => exact h.1
  | .task _ .c, h => exact h.1

theorem Locally.mem {s t : State} (h : Locally s t) : t.mem = s.mem := by rw [h]
theorem Locally.tiles {s t : State} (h : Locally s t) : t.tiles = s.tiles := by rw [h]
theorem Locally.gaccs {s t : State} (h : Locally s t) : t.gaccs = s.gaccs := by rw [h]
theorem Locally.routs {s t : State} (h : Locally s t) : t.routs = s.routs := by rw [h]
theorem Locally.unflushed {s t : State} (h : Locally s t) : t.unflushed = s.unflushed := by rw [h]

/-- The program as a completed fence leaves it, before it goes on. -/
def State.fencePassed (s : State) (w : Who) : State := (s.setFence w none).fenceFlags w

theorem fencePassed_of (s : State) (w : Who) : Advanced w s ((s.fencePassed w).advance w) ∧ ((s.fencePassed w).advance w).fenceOf w = none ∧
    Locally s (s.fencePassed w) := by
  rw [fenceOf_advance]
  have steps := advance_programSteps w (s.fencePassed w)
  match w with
  | .task h .s =>
    obtain ⟨-, queue, -⟩ := steps
    simp only [State.fencePassed, State.setFence, State.fenceFlags, State.sc, State.modRes_eq, State.res_setRes] at queue
    exact ⟨queue, (setFence_of s (.task h .s) none).1, rfl⟩
  | .sv c =>
    obtain ⟨-, queue, -⟩ := steps
    simp only [State.fencePassed, State.setFence, State.fenceFlags, State.sc, State.modSvc_eq, State.svc_setSvc] at queue
    exact ⟨queue, (setFence_of s (.sv c) none).1, rfl⟩
  | .task h .v =>
    obtain ⟨-, -, -, -, pc, -⟩ := steps
    exact ⟨pc.trans (by simp [State.fencePassed, State.setFence, State.fenceFlags, Resident.landFlags, Resident.prg, Resident.setPrg]),
      by simp [State.fencePassed, State.setFence, State.fenceFlags, State.fenceOf, Resident.landFlags, Resident.prg, Resident.setPrg], rfl⟩
  | .task h .m =>
    obtain ⟨-, -, -, -, pc, -⟩ := steps
    exact ⟨pc.trans (by simp [State.fencePassed, State.setFence, State.fenceFlags]), (setFence_of s (.task h .m) none).1, rfl⟩
  | .task h .c =>
    obtain ⟨-, -, -, -, pc, -⟩ := steps
    exact ⟨pc.trans (by simp [State.fencePassed, State.setFence, State.fenceFlags]), (setFence_of s (.task h .c) none).1, rfl⟩

theorem getLsbD_foldl_or (l : List PendW) (f : PendW → Word) (x : Word) (j : Nat) :
    (l.foldl (fun c p => c ||| f p) x).getLsbD j = (x.getLsbD j || l.any (fun p => (f p).getLsbD j)) := by
  induction l generalizing x with
  | nil => simp
  | cons p l ih => rw [List.foldl_cons, ih, BitVec.getLsbD_or, List.any_cons, Bool.or_assoc]

/-- The flags of a vector program's earlier instructions are set (R14). -/
theorem fencePassed_flags (s : State) (h : Nat) {p : PendW} (hp : p ∈ (s.res h).pend) {b : Nat} (hb : b < 4) (hf : p.flg.getLsbD b = true) :
    (((s.fencePassed (.task h .v)).advance (.task h .v)).res h).rctl.getLsbD (4 + b) = true := by
  obtain ⟨-, -, -, hr, -⟩ := advance_programSteps (.task h .v) (s.fencePassed (.task h .v))
  rw [hr]
  have flags : ((s.fencePassed (.task h .v)).res h).rctl = (s.res h).pend.foldl (fun (c : Word) (p : PendW) => c ||| ((p.flg.setWidth 64 : Word) <<< 4)) (s.res h).rctl := by
    simp [State.fencePassed, State.fenceFlags, State.setFence, Resident.landFlags, Resident.setPrg]
  show ((s.fencePassed (.task h .v)).res h).rctl.getLsbD (4 + b) = true
  rw [flags, getLsbD_foldl_or, Bool.or_eq_true, List.any_eq_true]
  refine .inr ⟨p, hp, ?_⟩
  rw [BitVec.getLsbD_shiftLeft, BitVec.getLsbD_setWidth, Nat.add_sub_cancel_left, hf]
  simp
  omega

/-! ## Flushes of the host ports -/

/-- A read of a port's flush by a program. -/
def GAcc.Flushes (g : GAcc) (w : Who) (p : Bool) : Prop := g.dest = .flush ∧ g.owner = w.owner ∧ g.path = w.path ∧ (2 ^ 51 ≤ g.tgt.pa ↔ p = true)

theorem flushPort_of (w : Who) (s : State) (p : Bool) :
    s.flushPort w p = { s with gaccs := (s.flushPort w p).gaccs, nextId := (s.flushPort w p).nextId } ∧
    (∀ g ∈ s.gaccs, g ∈ (s.flushPort w p).gaccs) ∧ ∃ g ∈ (s.flushPort w p).gaccs, g.Flushes w p := by
  unfold State.flushPort
  split
  · next h =>
    obtain ⟨g, hg, hf⟩ := List.any_eq_true.mp h
    simp only [Bool.and_eq_true, decide_eq_true_eq, beq_iff_eq, hostPort] at hf
    obtain ⟨⟨⟨ho, hp⟩, hd⟩, hq⟩ := hf
    exact ⟨rfl, fun g hg => hg, g, hg, hd, ho, hp, by rw [← hq, decide_eq_true_eq]⟩
  · refine ⟨rfl, fun g hg => List.mem_append_left _ hg, _, List.mem_append_right _ (List.mem_singleton_self _), rfl, rfl, rfl, ?_⟩
    show 2 ^ 51 ≤ (if p then 2 ^ 51 else 0) ↔ p = true
    cases p <;> simp

/-- Every port of the list has its read under way (R289); nothing but accesses in flight differs. -/
theorem flushPorts_of (w : Who) (ps : List Bool) (s : State) :
    let t := ps.foldl (State.flushPort w) s
    t = { s with gaccs := t.gaccs, nextId := t.nextId } ∧ (∀ g ∈ s.gaccs, g ∈ t.gaccs) ∧ ∀ p ∈ ps, ∃ g ∈ t.gaccs, g.Flushes w p := by
  induction ps generalizing s with
  | nil => exact ⟨rfl, fun _ h => h, by simp⟩
  | cons p ps ih =>
    obtain ⟨eq1, sub1, g, hg, hf⟩ := flushPort_of w s p
    obtain ⟨eq2, sub2, all⟩ := ih (s.flushPort w p)
    refine ⟨?_, fun g hg => sub2 g (sub1 g hg), fun q hq => ?_⟩
    · rw [List.foldl_cons, eq2, eq1]
    · rcases List.mem_cons.mp hq with rfl | hq
      · exact ⟨g, sub2 g hg, hf⟩
      · exact all q hq

theorem onAny_of {s : State} {w : Who} (turn : s.who = some w) (k : Who → Out) : onAny s k = k w := by rw [onAny, turn]

end Sys2Proof.Machine

open Sys2Proof Sys2Proof.Machine

/-- Settles O26: the fence's test is the statement's set A, and each of its three outcomes leaves the rest of the machine. -/
theorem fencesComplete : Obligations.FencesComplete := by
  intro s w src dst c u i n names started reaches performed covered flushed turn
  have op : exec i s = fenceOp src dst c u s := by cases u <;> rfl
  have done : s.fenceDone w src c u n = true ↔ performed := by
    rw [fenceDone_iff]
    have hr : ∀ g : GAcc, g.performedAt c = true ↔ reaches g := fun g => performedAt_iff g c
    constructor
    · rintro ⟨acc, hst, ops, vec, eng⟩
      exact ⟨fun g hg hid hs => ⟨fun ho hp hf => (hr g).mp ((acc g hg hid hs).1 ho hp hf), fun h => (hr g).mp ((acc g hg hid hs).2 h)⟩, hst, ops, vec, eng⟩
    · rintro ⟨acc, hst, ops, vec, eng⟩
      exact ⟨fun g hg hid hs => ⟨fun ho hp hf => (hr g).mpr ((acc g hg hid hs).1 ho hp hf), fun h => (hr g).mpr ((acc g hg hid hs).2 h)⟩, hst, ops, vec, eng⟩
  let ports := if c = 4 then s.portsToFlush (s.fenceCovers w src n) none else []
  have covers : ∀ m, s.fenceCovers w src n m = true ↔ covered m := fenceCovers_iff s w src n
  have none_left : ports = [] ↔ flushed := by
    by_cases hc : c = 4
    · have hp : ports = s.portsToFlush (s.fenceCovers w src n) none := if_pos hc
      rw [hp, List.eq_nil_iff_forall_not_mem]
      simp only [mem_portsToFlush, covers]
      exact ⟨fun h _ m hm hv => h _ ⟨m, hm, rfl, hv⟩, fun h _ ⟨m, hm, _, hv⟩ => h hc m hm hv⟩
    · exact ⟨fun _ e => absurd e hc, fun _ => if_neg hc⟩
  rw [Completes, Completes, Completes, op, fenceOp, onAny_of turn]
  refine ⟨fun hp hf => ?_, fun hp hf => ?_, fun hp => ?_⟩
  · let v := s.markFence w src dst u n
    obtain ⟨adv, fence, kept⟩ := fencePassed_of v w
    have loc : Locally v ((v.fencePassed w).advance w) := kept.trans (advance_programSteps w (v.fencePassed w)).locally
    have gaccs : ((v.fencePassed w).advance w).gaccs = s.gaccs.map (GAcc.marked w src dst u n s.nextId) := loc.gaccs
    refine ⟨(v.fencePassed w).advance w, (if_pos (done.mpr hp)).trans (if_pos (none_left.mpr hf)), adv, fence, loc.mem, loc.tiles, loc.routs, loc.unflushed, ?_,
      fun k g hg => ?_, fun h hw p hm b hb hb1 => ?_⟩
    · rw [gaccs, List.length_map]
    · obtain ⟨eq, mark, same⟩ := marked_of w src dst u n s.nextId g
      refine ⟨g.marked w src dst u n s.nextId, by rw [gaccs, List.getElem?_map, hg]; rfl, eq, fun a b d => mark a b ?_, fun h => same ?_⟩
      · simpa only [names, or_assoc] using d
      · simpa only [names, or_assoc] using h
    · subst hw
      exact fencePassed_flags v h hm hb hb1
  · obtain ⟨eq, -, all⟩ := flushPorts_of w ports s
    obtain ⟨hn, hpc, eqf⟩ := setFence_of (ports.foldl (State.flushPort w) s) w (some n)
    refine ⟨_, (if_pos (done.mpr hp)).trans (if_neg (mt none_left.mp hf)), hpc.trans (by rw [eq]; rfl), hn, by rw [eqf, eq], by rw [eqf, eq], fun m hm hv => ?_⟩
    have hc : c = 4 := by
      by_contra hc
      exact hf fun e => absurd e hc
    have hport : m.port ∈ ports := by
      have : ports = s.portsToFlush (s.fenceCovers w src n) none := if_pos hc
      rw [this, mem_portsToFlush]
      exact ⟨m, hm, rfl, (covers m).mpr hv⟩
    rw [eqf]
    exact all m.port hport
  · obtain ⟨hn, hpc, eq⟩ := setFence_of s w (some n)
    exact ⟨_, if_neg (mt done.mp hp), hpc, hn, by rw [eq], by rw [eq], by rw [eq], by rw [eq]⟩
end

section
/-!
Stream registers (R28, R247, R248): the bits that an update of a field leaves, and the four stream functions.
-/

namespace Sys2Proof.Machine
open Sys2Proof

/-! ## What a step over a resident leaves -/

/-- A program's step over u leaves its resident but for its place. -/
theorem ProgramSteps.res {h : Nat} {e : Eng} {u t : State} (k : ProgramSteps (.task h e) u t) :
    t.res h = { u.res h with s := (t.res h).s, v := (t.res h).v, m := (t.res h).m, c := (t.res h).c, sc := (t.res h).sc, vpos := (t.res h).vpos } := by
  match e, k with
  | .s, k =>
    have own : t.res h = { u.res h with sc := (t.res h).sc, s := (t.res h).s } := k.1.2
    rw [own]
  | .v, k =>
    have own : t.res h = { (u.res h).setPrg .v ((t.res h).prg .v) with vpos := (t.res h).vpos } := k.2.2.2.1
    rw [own]
    rfl
  | .m, k =>
    have own : t.res h = { (u.res h).setPrg .m ((t.res h).prg .m) with vpos := (t.res h).vpos } := k.2.2.2.1
    rw [own]
    rfl
  | .c, k =>
    have own : t.res h = { (u.res h).setPrg .c ((t.res h).prg .c) with vpos := (t.res h).vpos } := k.2.2.2.1
    rw [own]
    rfl

/-- A program whose resident an instruction updates, its place kept, has moved on (R22). -/
theorem advanced_over {s u : State} {h : Nat} {e : Eng} {r : Resident} (hr : u.res h = r) (hs : r.sc = (s.res h).sc) (hp : r.prg e = (s.res h).prg e) :
    Advanced (.task h e) s (u.advance (.task h e)) := by
  subst hr
  have steps := advance_programSteps (.task h e) u
  match e, steps with
  | .s, steps =>
    have queue := steps.2.1
    simp only [State.sc, hs] at queue
    exact queue
  | .v, steps => exact steps.2.2.2.2.1.trans (by rw [hp])
  | .m, steps => exact steps.2.2.2.2.1.trans (by rw [hp])
  | .c, steps => exact steps.2.2.2.2.1.trans (by rw [hp])

/-! ## Fields of a stream register -/

/-- The bits of a stream register after a field is replaced. -/
theorem getLsbD_stPut (x : BitVec 512) (lo n v j : Nat) (hn : lo + n ≤ 512) (hj : j < 512) :
    (stPut x lo n v).getLsbD j = if lo ≤ j ∧ j < lo + n then v.testBit (j - lo) else x.getLsbD j := by
  have mask : ∀ k, (BitVec.allOnes 512 >>> (512 - n)).getLsbD k = decide (k < n) := fun k => by
    rw [BitVec.getLsbD_ushiftRight, BitVec.getLsbD_allOnes]
    exact decide_eq_decide.mpr (by omega)
  have val : ∀ k, (BitVec.ofNat 512 (v % 2 ^ n)).getLsbD k = (decide (k < n) && v.testBit k) := fun k => by
    rw [BitVec.getLsbD_ofNat, Nat.testBit_mod_two_pow, ← Bool.and_assoc, ← Bool.decide_and]
    exact congrArg (· && _) (decide_eq_decide.mpr (by omega))
  rw [stPut, BitVec.getLsbD_or, BitVec.getLsbD_and, BitVec.getLsbD_not, BitVec.getLsbD_shiftLeft, BitVec.getLsbD_shiftLeft, mask, val]
  by_cases hl : j < lo
  · simp [hj, hl, Nat.not_le.mpr hl]
  · by_cases hu : j < lo + n
    · have : j - lo < n := by omega
      simp [hj, hl, hu, this, Nat.le_of_not_lt hl]
    · have : ¬ j - lo < n := by omega
      simp [hj, hl, hu, this]

/-- The field itself, read back. -/
theorem extractLsb'_stPut_same (x : BitVec 512) (lo n v : Nat) (hn : lo + n ≤ 512) : (stPut x lo n v).extractLsb' lo n = BitVec.ofNat n v := by
  ext i hi
  rw [BitVec.getElem_extractLsb', getLsbD_stPut _ _ _ _ _ hn (by omega), if_pos (by omega), Nat.add_sub_cancel_left]
  simp [← BitVec.getLsbD_eq_getElem, BitVec.getLsbD_ofNat, hi]

/-- A field that shares no bit with the one replaced is kept. -/
theorem extractLsb'_stPut_other (x : BitVec 512) (lo n v lo' n' : Nat) (hn : lo + n ≤ 512) (hn' : lo' + n' ≤ 512) (h : lo' + n' ≤ lo ∨ lo + n ≤ lo') :
    (stPut x lo n v).extractLsb' lo' n' = x.extractLsb' lo' n' := by
  ext i hi
  rw [BitVec.getElem_extractLsb', BitVec.getElem_extractLsb', getLsbD_stPut _ _ _ _ _ hn (by omega), if_neg (by omega)]

@[simp] theorem Resident.stream_setStream (r : Resident) (q : Nat) (x : BitVec 512) : (r.setStream q x).stream q = x := fget_fset_same _ _ _ _

/-- The staging bit of a port, cleared. -/
theorem getLsbD_cleared (x : BitVec 8) {n : Nat} (h : n < 8) : (x &&& ~~~((1 : BitVec 8) <<< n)).getLsbD n = false := by
  simp [h]

/-! ## Binding -/

/-- The addresses of a bound stream's vectors lie between those of its first and last (R248). -/
theorem linear_window (b s : Int) (n : Nat) (size : Int) (hn : n ≠ 0) :
    (0 ≤ min (b + (0 : Nat) * s) (b + (n - 1 : Nat) * s) ∧ max (b + (0 : Nat) * s) (b + (n - 1 : Nat) * s) + 512 ≤ size) ↔
      ∀ k, k < n → 0 ≤ b + (k : Nat) * s ∧ b + (k : Nat) * s + 512 ≤ size := by
  constructor
  · rintro ⟨hl, hh⟩ k hk
    have hk' : (k : Int) ≤ ((n - 1 : Nat) : Int) := by omega
    rcases le_total 0 s with hs | hs
    · have h1 : 0 ≤ (k : Int) * s := mul_nonneg (Int.natCast_nonneg k) hs
      have h2 := mul_le_mul_of_nonneg_right hk' hs
      omega
    · have h1 : (k : Int) * s ≤ 0 := mul_nonpos_of_nonneg_of_nonpos (Int.natCast_nonneg k) hs
      have h2 := mul_le_mul_of_nonpos_right hk' hs
      omega
  · intro h
    have h0 := h 0 (by omega)
    have h1 := h (n - 1) (by omega)
    omega

theorem sbindOk_iff (r : Resident) (n : Nat) (q : BitVec 512) : sbindOk r n q = true ↔
    n < 8 ∧ stKind q = 2 ∧ stBind q = 0 ∧ stCount q ≠ 0 ∧ (stBase q).toNat % 64 = 0 ∧ (stRs q).toNat % 64 = 0 ∧
      (stSpace q = true → ∀ k, k < (stCount q).toNat → 0 ≤ ((stBase q).toNat : Int) + k * (stRs q).toInt ∧
        ((stBase q).toNat : Int) + k * (stRs q).toInt + 512 ≤ r.spSize) := by
  have count : (stCount q).toNat ≠ 0 ↔ stCount q ≠ 0 := not_congr (BitVec.toNat_eq (y := 0)).symm
  unfold sbindOk
  simp only [Bool.and_eq_true, Bool.or_eq_true, Bool.not_eq_true', decide_eq_true_eq, count, and_assoc]
  refine and_congr_right fun _ => and_congr_right fun _ => and_congr_right fun _ => and_congr_right fun hn => and_congr_right fun _ => and_congr_right fun _ => ?_
  have window := linear_window (stBase q).toNat (stRs q).toInt (stCount q).toNat r.spSize (count.mpr hn)
  simp only [stAddr]
  cases stSpace q
  · simp
  · simpa using window

/-! ## Unbinding -/

theorem serialOver_eq (s : State) (h : Nat) (pkg : BitVec 10) (q : Serial) :
    s.serialOver (.task h) pkg q = s ∨ ∃ p, s.serialOver (.task h) pkg q = s.setRes h { s.res h with seqs := p } := by
  by_cases c : (s.seqFor (.task h) pkg).has q.seq = true
  · exact .inl (if_pos c)
  · exact .inr ⟨_, if_neg c⟩

/-- Giving up kept serials updates the sequence states and kept serials of the one resident. -/
theorem finishKept_eq (s : State) (h : Nat) (mine : Nat → Bool) :
    ∃ q k, s.finishKept h mine = s.setRes h { s.res h with seqs := q, kept := k } := by
  have fold : ∀ (l : FMap (BitVec 10 × Serial)) (u : State),
      (∀ X, (l.foldl (fun s e => s.serialOver (.task h) e.2.1 e.2.2) u).setRes h X = u.setRes h X) ∧
      ∃ q, (l.foldl (fun s e => s.serialOver (.task h) e.2.1 e.2.2) u).res h = { u.res h with seqs := q } := fun l => by
    induction l with
    | nil => exact fun u => ⟨fun _ => rfl, _, rfl⟩
    | cons e l ih =>
      intro u
      obtain ⟨same, q, hq⟩ := ih (u.serialOver (.task h) e.2.1 e.2.2)
      have one : (∀ X, (u.serialOver (.task h) e.2.1 e.2.2).setRes h X = u.setRes h X) ∧ ∃ q, (u.serialOver (.task h) e.2.1 e.2.2).res h = { u.res h with seqs := q } := by
        rcases serialOver_eq u h e.2.1 e.2.2 with eq | ⟨p, eq⟩ <;> rw [eq]
        · exact ⟨fun _ => rfl, _, rfl⟩
        · exact ⟨fun X => State.setRes_setRes _ _ _ _, _, State.res_setRes _ _ _⟩
      obtain ⟨p, hp⟩ := one.2
      exact ⟨fun X => (same X).trans (one.1 X), q, by rw [List.foldl_cons, hq, hp]⟩
  obtain ⟨same, q, hq⟩ := fold ((s.res h).kept.filter (fun e => mine e.1)) s
  refine ⟨q, (s.res h).kept.filter (fun e => !mine e.1), (same _).trans ?_⟩
  rw [hq]

end Sys2Proof.Machine

open Sys2Proof Sys2Proof.Machine

/-- Settles O27: each stream function is one update of its stream register, of the staging and of what was fetched ahead. -/
theorem streamFunctions : Obligations.StreamFunctions := by
  intro s h e o x i d w n r q old m at_ bindable stored turn
  have op : ∀ (i : Instr) (k : Who → Nat → BitVec 512 → Out), streamOp i o s k = k w h q := fun i k => onTile_of turn i _
  have free_iff : (decide (fget none r.portFault n ≠ none) || !s.waitHolds h (.portOut n)) = false ↔ stored := by
    simp only [State.waitHolds, stored, Bool.or_eq_false_iff, Bool.not_eq_false', Bool.or_eq_true, Bool.and_eq_true, Bool.not_eq_true', decide_eq_false_iff_not,
      decide_eq_true_eq, not_not, List.any_eq_false, beq_iff_eq]
    refine and_congr_right fun hf => ?_
    rw [or_iff_right (not_not.mpr hf), and_assoc]
    simp only [not_and, Bool.not_eq_false, and_imp]
    rfl
  refine ⟨fun unbound => ?_, fun bound => ?_, ?_, fun ok => ?_, fun bad => ?_, fun free => ?_, fun out held => ?_⟩
  · let v := (old &&& ~~~m) ||| (s.lreg w x.toNat &&& m)
    let u := s.setRes h (r.setStream n (stPut q (64 * i.toNat) 64 v.toNat))
    have lt := i.isLt
    have stream : ((u.advance w).res h).stream n = stPut q (64 * i.toNat) 64 v.toNat := by
      rw [(advance_programSteps w u).res, State.res_setRes]
      exact Resident.stream_setStream _ _ _
    refine ⟨u.advance w, ?_, advanced_over (State.res_setRes ..) rfl (by cases e <;> rfl), ?_, fun j hj ne => ?_⟩
    · rw [exec_sset, execSset, op]
      exact if_neg (not_not.mpr unbound)
    · rw [stream, extractLsb'_stPut_same _ _ _ _ (by omega), BitVec.ofNat_toNat, BitVec.setWidth_eq]
    · rw [stream, extractLsb'_stPut_other _ _ _ _ _ _ (by omega) (by omega) (by omega)]
  · rw [exec_sset, execSset, op]
    exact if_pos bound
  · exact completes_programSteps (by rw [exec_sget, execSget, op]; rfl)
  · have lt : n < 8 := ok.1
    let r' : Resident := { (r.setStream n (stPut (stPut q 6 2 d.toNat) 448 32 0)) with
        staged := r.staged &&& ~~~((1 : BitVec 8) <<< n), pushed := fput r.pushed n 0, fetch := fput r.fetch n [],
        ahead := fput r.ahead n [], portFault := fput r.portFault n none }
    let u := s.setRes h r'
    have field : ∀ lo k, 8 ≤ lo → lo + k ≤ 448 → (stPut (stPut q 6 2 d.toNat) 448 32 0).extractLsb' lo k = q.extractLsb' lo k := fun lo k h1 h2 => by
      rw [extractLsb'_stPut_other _ _ _ _ _ _ (by omega) (by omega) (by omega), extractLsb'_stPut_other _ _ _ _ _ _ (by omega) (by omega) (by omega)]
    have stream : r'.stream n = stPut (stPut q 6 2 d.toNat) 448 32 0 := Resident.stream_setStream _ _ _
    refine ⟨u.advance w, ?_, advanced_over (State.res_setRes ..) rfl (by cases e <;> rfl), ?_⟩
    · rw [exec_sbind, execSbind, op]
      exact if_neg (by simpa using (sbindOk_iff r n q).mpr ok)
    · rw [(advance_programSteps w u).res, State.res_setRes]
      refine ⟨?_, ?_, ?_, ?_, ?_, ?_, ?_, fget_fput_same .., fget_fput_same ..⟩
      · refine (congrArg stBind stream).trans ?_
        rw [stBind, extractLsb'_stPut_other _ _ _ _ _ _ (by omega) (by omega) (by omega), extractLsb'_stPut_same _ _ _ _ (by omega), BitVec.ofNat_toNat, BitVec.setWidth_eq]
      · exact (congrArg stPos stream).trans (extractLsb'_stPut_same _ _ _ _ (by omega))
      · exact (congrArg stBase stream).trans (field 64 56 (by omega) (by omega))
      · exact (congrArg stCount stream).trans (field 384 32 (by omega) (by omega))
      · exact (congrArg stRs stream).trans (field 128 32 (by omega) (by omega))
      · refine (congrArg stSpace stream).trans ?_
        rw [stSpace, getLsbD_stPut _ _ _ _ _ (by omega) (by omega), getLsbD_stPut _ _ _ _ _ (by omega) (by omega)]
        rfl
      · exact getLsbD_cleared _ lt
  · rw [exec_sbind, execSbind, op]
    exact if_pos (by simpa using mt (sbindOk_iff r n q).mp bad)
  · obtain ⟨p, k, kept⟩ := finishKept_eq (s.dropPort h n) h (portKeys n)
    let r' : Resident := { (({ r with seqs := p, kept := k } : Resident).setStream n (stPut q 6 2 0)) with
        staged := if n < 8 then r.staged &&& ~~~((1 : BitVec 8) <<< n) else r.staged,
        ahead := fput r.ahead n [], fetch := fput r.fetch n [], portFault := fput r.portFault n none }
    let u := (s.dropPort h n).setRes h r'
    have stream : r'.stream n = stPut q 6 2 0 := Resident.stream_setStream _ _ _
    have res := (advance_programSteps w u).res
    rw [State.res_setRes] at res
    have loc := (advance_programSteps w u).locally
    refine ⟨u.advance w, ?_, advanced_over (State.res_setRes ..) rfl (by cases e <;> rfl), ?_, ?_, ?_, fun lt => ?_, fun g hg own k' => ?_, ?_, ?_, ?_⟩
    · rw [exec_sunbind, execSunbind, op]
      refine (if_neg ?_).trans ?_
      · rw [Bool.and_eq_true, decide_eq_true_eq]
        rintro ⟨out, held⟩
        exact free.elim (fun ne => ne out) fun st => by rw [free_iff.mpr st] at held; exact Bool.false_ne_true held
      · rw [kept, State.modRes_eq, State.res_setRes, State.setRes_setRes]
        rfl
    · rw [res]
      refine (congrArg stBind stream).trans ?_
      rw [stBind, extractLsb'_stPut_same _ _ _ _ (by omega)]
      rfl
    · rw [res]; exact fget_fput_same ..
    · rw [res]; exact fget_fput_same ..
    · rw [res]
      exact (congrArg (BitVec.getLsbD · n) (if_pos lt)).trans (getLsbD_cleared _ lt)
    · rw [loc.gaccs] at hg
      have left := (List.mem_filter.mp hg).2
      intro hd
      rw [own, hd] at left
      simp at left
    · rw [loc.gaccs]; exact List.filter_sublist
    · exact loc.mem
    · exact loc.tiles
  · rw [exec_sunbind, execSunbind, op]
    exact if_pos (by simp only [out, decide_true, Bool.true_and]; exact (Bool.not_eq_false _).mp (mt free_iff.mp held))
end

section
/-!
Cohorts (R40, R41, R146): a free object and a fresh handle are found by counting, ranks are found in the members' list, and a cohort of another package is asked by a request.
-/

namespace Sys2Proof.Machine
open Sys2Proof

/-! ## Counting -/

/-- Among the first length + 1 numbers one is not in a list. -/
theorem exists_le_length_not_mem (l : List Nat) : ∃ k, k ≤ l.length ∧ k ∉ l := by
  by_contra h
  push Not at h
  have sub : Finset.range (l.length + 1) ⊆ l.toFinset := fun k hk => List.mem_toFinset.mpr (h k (Nat.lt_succ_iff.mp (Finset.mem_range.mp hk)))
  have := (Finset.card_le_card sub).trans l.toFinset_card_le
  rw [Finset.card_range] at this
  omega

/-- What a map reads at a key it does not list. -/
theorem fget_not_mem {α : Type} (d : α) (m : FMap α) (k : Nat) (h : k ∉ m.map (·.1)) : fget d m k = d := by
  induction m with
  | nil => rfl
  | cons c m ih =>
    obtain ⟨j, v⟩ := c
    rw [List.map_cons, List.mem_cons, not_or] at h
    rw [fget, if_neg (Ne.symm h.1), ih h.2]

/-- A value that is not the default stands in the map. -/
theorem mem_of_fget_ne {α : Type} {d : α} {m : FMap α} {k : Nat} (h : fget d m k ≠ d) : (k, fget d m k) ∈ m := by
  induction m with
  | nil => exact absurd rfl h
  | cons c m ih =>
    obtain ⟨j, v⟩ := c
    by_cases e : j = k
    · rw [fget, if_pos e, e]
      exact List.mem_cons_self
    · rw [fget, if_neg e] at h ⊢
      exact List.mem_cons_of_mem _ (ih h)

theorem freeSlot_eq_some {live : Nat → Bool} {n lim k : Nat} (h : freeSlot live n lim = some k) : k < lim ∧ live k = false := by
  unfold freeSlot at h
  split at h
  · next j hj =>
    split at h
    · next lt =>
      cases h
      exact ⟨lt, by simpa using List.find?_some hj⟩
    · cases h
  · cases h

/-- A table of n entries with a free place below its limit has one among its first n + 1 (R146). -/
theorem freeSlot_isSome {live : Nat → Bool} {n lim : Nat} (h : ∃ j, j < lim ∧ live j = false) (few : ∃ k, k ≤ n ∧ live k = false) :
    ∃ k, freeSlot live n lim = some k := by
  obtain ⟨j, hj, dead⟩ := h
  obtain ⟨k, hk, dead'⟩ := few
  obtain ⟨i, hi, hmin⟩ : ∃ i, live i = false ∧ ∀ m, live m = false → i ≤ m := by
    classical
    have ex : ∃ m, live m = false := ⟨j, dead⟩
    exact ⟨Nat.find ex, Nat.find_spec ex, fun m hm => Nat.find_min' ex hm⟩
  have found : (List.range (n + 1)).find? (fun k => !live k) = some i := by
    rw [List.find?_range_eq_some]
    exact ⟨by simp [hi], List.mem_range.mpr (by have := hmin k dead'; omega), fun m hm => by
      by_contra c
      have := hmin m (by simpa using c)
      omega⟩
  refine ⟨i, ?_⟩
  rw [freeSlot, found]
  exact if_pos (Nat.lt_of_le_of_lt (hmin j dead) hj)

theorem freeSlot_eq_none {live : Nat → Bool} {n lim : Nat} (h : ∀ j, j < lim → live j = true) : freeSlot live n lim = none := by
  cases e : freeSlot live n lim with
  | none => rfl
  | some k =>
    obtain ⟨lt, dead⟩ := freeSlot_eq_some e
    rw [h k lt] at dead
    cases dead

/-! ## Fresh handles -/

/-- The i-th candidate for a fresh handle. -/
def State.handleCand (s : State) (i : Nat) : Word :=
  ((Config.freeHandle s.fresh).extractLsb' 50 14) ++ s.pkgId ++ ((Config.freeHandle s.fresh).extractLsb' 0 40 + BitVec.ofNat 40 i)

theorem newHandle_eq (s : State) (used : List Word) :
    s.newHandle used = (((List.range (used.length + 2)).map s.handleCand).find? (fun y => y != 0 && !used.contains y)).getD 1 := rfl

theorem hdlPkg_handleCand (s : State) (i : Nat) : hdlPkg (s.handleCand i) = s.pkgId := by
  ext k hk
  rw [hdlPkg, BitVec.getElem_extractLsb']
  refine BitVec.getLsbD_append.trans ?_
  rw [if_neg (by omega), Nat.add_sub_cancel_left]
  refine BitVec.getLsbD_append.trans ?_
  rw [if_pos hk, BitVec.getLsbD_eq_getElem]

theorem handleCand_inj (s : State) {i j : Nat} (hi : i < 2 ^ 40) (hj : j < 2 ^ 40) (h : s.handleCand i = s.handleCand j) : i = j := by
  have low : ∀ n, (s.handleCand n).extractLsb' 0 40 = (Config.freeHandle s.fresh).extractLsb' 0 40 + BitVec.ofNat 40 n := fun n => by
    ext k hk
    rw [BitVec.getElem_extractLsb', Nat.zero_add]
    refine BitVec.getLsbD_append.trans ?_
    rw [if_pos hk, BitVec.getLsbD_eq_getElem]
  have e := (low i).symm.trans ((congrArg (BitVec.extractLsb' 0 40) h).trans (low j))
  have := congrArg BitVec.toNat (add_left_cancel e)
  rwa [BitVec.toNat_ofNat, BitVec.toNat_ofNat, Nat.mod_eq_of_lt hi, Nat.mod_eq_of_lt hj] at this

/-- A fresh handle names this package, is not 0 and is not in use (R331). -/
theorem newHandle_of (s : State) (used : List Word) (h : used.length + 2 ≤ 2 ^ 40) :
    s.newHandle used ≠ 0 ∧ hdlPkg (s.newHandle used) = s.pkgId ∧ s.newHandle used ∉ used := by
  have found : ∃ y ∈ (List.range (used.length + 2)).map s.handleCand, (y != 0 && !used.contains y) = true := by
    by_contra c
    push Not at c
    have nodup : ((List.range (used.length + 2)).map s.handleCand).Nodup := by
      refine List.Nodup.map_on ?_ List.nodup_range
      exact fun i hi j hj e => handleCand_inj s (by have := List.mem_range.mp hi; omega) (by have := List.mem_range.mp hj; omega) e
    have sub : (List.range (used.length + 2)).map s.handleCand ⊆ 0 :: used := fun y hy => by
      have := c y hy
      by_cases z : y = 0
      · simp [z]
      · exact List.mem_cons_of_mem _ (by simp at this; exact this z)
    have := (List.subperm_of_subset nodup sub).length_le
    simp at this
  obtain ⟨y, hy⟩ := Option.isSome_iff_exists.mp (List.find?_isSome.mpr found)
  have e : s.newHandle used = y := by rw [newHandle_eq, hy]; rfl
  obtain ⟨i, -, hi⟩ := List.mem_map.mp (List.mem_of_find?_eq_some hy)
  have good := List.find?_some hy
  simp only [Bool.and_eq_true, bne_iff_ne, Bool.not_eq_true'] at good
  rw [e]
  exact ⟨good.1, by rw [← hi, hdlPkg_handleCand], by simpa using good.2⟩

/-! ## Ranks -/

theorem rankOf_memberOf (s : State) (k h : Nat) (b : Bool) : (s.cohort k).rankOf (s.memberOf h b) = s.rankIn k (s.res h) := rfl

theorem isTask_iff (m : Member) (pkg : BitVec 10) (r : Resident) : m.isTask pkg r = true ↔
    m.pkg = pkg ∧ m.key = r.key ∧ m.asid = r.asid ∧ m.nodeInst = r.nodeInst ∧ m.taskNum = r.taskNum := by
  simp [Member.isTask, and_assoc]

/-- A task holds no rank when no member is it. -/
theorem rankIn_none {s : State} {k h : Nat} (no : ∀ jm ∈ (s.cohort k).members, ∀ m, jm.2 = some m → m.isTask s.pkgId (s.res h) = false) :
    s.rankIn k (s.res h) = none := by
  rw [State.rankIn, Option.map_eq_none_iff, List.find?_eq_none]
  intro jm hjm
  cases e : jm.2 with
  | none => simp
  | some m => simp [no jm hjm m e]

theorem at_fput_same (c : Cohort) (r : Nat) (x : Option Member) : ({ c with members := fput c.members r x } : Cohort).at r = x := fget_fput_same _ _ _ _
theorem at_fput_other (c : Cohort) {r j : Nat} (x : Option Member) (h : j ≠ r) : ({ c with members := fput c.members r x } : Cohort).at j = c.at j :=
  fget_fput_other _ _ _ h

/-- The lowest vacant rank lies among those that the members' list can fill (R40). -/
theorem vacant_eq_some {c : Cohort} {r : Nat} (hr : r < c.size) (free : c.at r = none) (low : ∀ j, j < r → c.at j ≠ none) : c.vacant = some r := by
  have le : r ≤ c.members.length := by
    obtain ⟨j, hj, out⟩ := exists_le_length_not_mem (c.members.map (·.1))
    rw [List.length_map] at hj
    by_contra lt
    exact low j (by omega) (fget_not_mem none c.members j out)
  rw [Cohort.vacant, List.find?_range_eq_some]
  exact ⟨decide_eq_true free, List.mem_range.mpr (by omega), fun j hj => by simpa using low j hj⟩

theorem vacant_eq_none {c : Cohort} (full : ∀ j, j < c.size → c.at j ≠ none) : c.vacant = none := by
  rw [Cohort.vacant, List.find?_range_eq_none]
  exact fun j hj => by simpa using full j (by omega)

theorem cohort_setCohort_same (s : State) (k : Nat) (c : Cohort) : (s.setCohort k c).cohort k = c := fget_fput_same _ _ _ _
theorem cohort_setCohort_other (s : State) {k i : Nat} (c : Cohort) (h : i ≠ k) : (s.setCohort k c).cohort i = s.cohort i := fget_fput_other _ _ _ h

theorem Locally.cohort {s t : State} (h : Locally s t) (i : Nat) : t.cohort i = s.cohort i := by rw [h]; rfl
theorem Locally.cohorts {s t : State} (h : Locally s t) : t.cohorts = s.cohorts := by rw [h]

theorem join_held {c : Cohort} {m : Member} {r : Nat} (h : c.rankOf m = some r) : c.join m = (c, BitVec.ofNat 64 r) := by
  unfold Cohort.join
  rw [h]

theorem join_vacant {c : Cohort} {m : Member} {r : Nat} (h : c.rankOf m = none) (v : c.vacant = some r) :
    c.join m = ({ c with members := fput c.members r (some m) }, BitVec.ofNat 64 r) := by
  unfold Cohort.join
  rw [h, v]

theorem join_full {c : Cohort} {m : Member} (h : c.rankOf m = none) (v : c.vacant = none) : c.join m = (c, BitVec.ofNat 64 (2 ^ 64 - 1)) := by
  unfold Cohort.join
  rw [h, v]
  rfl

theorem leave_held {c : Cohort} {m : Member} {r : Nat} (h : c.rankOf m = some r) : c.leave m = { c with members := fput c.members r none } := by
  unfold Cohort.leave
  rw [h]

theorem leave_stranger {c : Cohort} {m : Member} (h : c.rankOf m = none) : c.leave m = c := by
  unfold Cohort.leave
  rw [h]

/-- A scalar result over a state whose one cohort an instruction has changed. -/
theorem writes_setCohort {w : Who} (hw : ∀ h e, w = .task h e → e = .s) (s : State) (k : Nat) (c : Cohort) (d : BitVec 6) (v : Word) :
    WritesSreg w d v { s with cohorts := (scalarResult w d v (s.setCohort k c)).cohorts } (scalarResult w d v (s.setCohort k c)) ∧
    (scalarResult w d v (s.setCohort k c)).cohort k = c ∧ ∀ i, i ≠ k → (scalarResult w d v (s.setCohort k c)).cohort i = s.cohort i := by
  have writes := scalarResult_writes w d v (s.setCohort k c) hw
  have loc := writes.1.1.1
  refine ⟨?_, (loc.cohort k).trans (cohort_setCohort_same s k c), fun i n => (loc.cohort i).trans (cohort_setCohort_other s c n)⟩
  rw [loc.cohorts]
  exact writes

/-- A step over a state whose one cohort an instruction has changed. -/
theorem steps_setCohort {w : Who} (hw : ∀ h e, w = .task h e → e = .s) (s : State) (k : Nat) (c : Cohort) :
    ScalarSteps w { s with cohorts := ((s.setCohort k c).advance w).cohorts } ((s.setCohort k c).advance w) ∧
    ((s.setCohort k c).advance w).cohort k = c ∧ ∀ i, i ≠ k → ((s.setCohort k c).advance w).cohort i = s.cohort i := by
  have steps := advance_steps w (s.setCohort k c) hw
  have loc := steps.1.1.1
  refine ⟨?_, (loc.cohort k).trans (cohort_setCohort_same s k c), fun i n => (loc.cohort i).trans (cohort_setCohort_other s c n)⟩
  rw [loc.cohorts]
  exact steps

/-! ## Requests that carry no serial -/

/-- Noting a request without a serial may mark the completed-through value as sent, and no more (R356). -/
theorem noteReq_of (s : State) (h : Nat) (pkg : BitVec 10) {q : RReq} (hq : q.serial = none) :
    ∃ sq, s.noteReq (.task h) pkg q = { s with residents := (s.noteReq (.task h) pkg q).residents } ∧
      (s.noteReq (.task h) pkg q).res h = { s.res h with seqs := sq } ∧ (∀ k, k ≠ h → (s.noteReq (.task h) pkg q).res k = s.res k) ∧
      (fget SeqState.start sq pkg.toNat).next = (s.seqFor (.task h) pkg).next ∧
      (fget SeqState.start sq pkg.toNat).outstanding = (s.seqFor (.task h) pkg).outstanding := by
  have eq : s.noteReq (.task h) pkg q = if q.ct.isSome then s.setSeqFor (.task h) pkg (s.seqFor (.task h) pkg).acked else s := by
    rw [State.noteReq, hq]
    rfl
  rw [eq]
  split
  · refine ⟨fput (s.res h).seqs pkg.toNat (s.seqFor (.task h) pkg).acked, rfl, State.res_setRes _ _ _, fun k n => State.res_setRes_other _ _ n, ?_, ?_⟩ <;>
      rw [fget_fput_same] <;> rfl
  · exact ⟨(s.res h).seqs, rfl, rfl, fun _ _ => rfl, rfl, rfl⟩

/-- A scalar program's request without a serial joins those that leave, and the program goes on (R251, R349). -/
theorem sends_unnumbered (s : State) (h : Nat) (t : Target) (va : Nat) (op : ROp) (op0 op1 : BitVec 128) (dest : RDest) (scope : BitVec 3) (leave : Leave) :
    ∃ q o, Sends (.task h .s) s q o ((s.issueRemote (.task h .s) t va op op0 op1 dest false scope leave).advance (.task h .s)) ∧ q.op = op ∧ q.op0 = op0 ∧
      o.peer = s.ownerPkg t ∧ o.dest = dest ∧ o.leave = leave ∧
      Unnumbered (.task h .s) (s.ownerPkg t) q s ((s.issueRemote (.task h .s) t va op op0 op1 dest false scope leave).advance (.task h .s)) := by
  let w : Who := .task h .s
  let q := s.reqOf w.owner (s.ownerPkg t) (if t.aper = 2 then 7 else s.classOfWho w) t.pa op op0 op1 none scope
  let o := s.routOf w.owner w.path (s.ownerPkg t) dest va t (s.pcOf w) q leave
  let n := s.noteReq w.owner (s.ownerPkg t) q
  let v : State := { n with requests := n.requests ++ [q], routs := n.routs ++ [o], nextId := n.nextId + 1 }
  have hv : s.issueRemote w t va op op0 op1 dest false scope leave = v := rfl
  obtain ⟨sq, rest, own, others, next, outs⟩ := noteReq_of s h (s.ownerPkg t) (q := q) rfl
  obtain ⟨⟨⟨loc, others', svs⟩, own'⟩, queue, traps, regs⟩ := advance_steps w v (fun _ _ e => (Who.task.inj e).2.symm)
  have hown : (v.advance w).res h = { v.res h with sc := ((v.advance w).res h).sc, s := ((v.advance w).res h).s } := own'
  have hres : v.res h = { s.res h with seqs := sq } := own
  have hn : n = { s with residents := n.residents } := rest
  have hsc : v.sc w = s.sc w := by
    show (v.res h).sc = _
    rw [hres]
    rfl
  rw [hsc] at queue traps regs
  rw [hv]
  refine ⟨q, o, ⟨?_, queue, traps, fun k => ?_, fun c => ?_, rfl, rfl, rfl, rfl, rfl, rfl, rfl, rfl, rfl, rfl, rfl, fun h' e' k hw hk hr => ?_⟩, rfl, rfl, rfl, rfl, rfl,
    rfl, ?_, ?_⟩
  · have fields : ∀ A B C, ({ v with residents := A, svs := B, counters := C } : State) =
        { s with requests := s.requests ++ [q], routs := s.routs ++ [o], nextId := s.nextId + 1, residents := A, svs := B, counters := C } := fun A B C => by
      show ({ n with requests := n.requests ++ [q], routs := n.routs ++ [o], nextId := n.nextId + 1, residents := A, svs := B, counters := C } : State) = _
      rw [hn]
    have seqs : (v.advance w).sysSeqs = s.sysSeqs := by
      rw [loc, fields]
    rw [seqs]
    exact Eq.trans loc (fields _ _ _)
  · show (v.advance w).res k = if k = h then _ else _
    split
    · next e =>
      subst e
      let T := (v.advance w).res k
      have hseq : T.seqs = sq := by
        show ((v.advance w).res k).seqs = sq
        rw [hown, hres]
      have hc : { T.sc with sregs := (s.res k).sc.sregs } = T.sc := by
        rw [← show T.sc.sregs = (s.res k).sc.sregs from regs]
      have ht : T = { s.res k with seqs := sq, sc := T.sc, s := T.s } := hown.trans (by rw [hres])
      show T = { s.res k with seqs := T.seqs, sc := { T.sc with sregs := (s.res k).sc.sregs }, s := T.s }
      rw [hc, hseq]
      exact ht
    · next e => exact (others' k fun _ hk => e (Who.task.inj hk).1.symm).trans (others k e)
  · refine (svs c fun e => nomatch e).trans ?_
    show n.svc c = _
    rw [hn]
    rfl
  · obtain ⟨rfl, rfl⟩ := Who.task.inj hw
    have snap : s.replaySnapshot h (s.ownerPkg t) = none := by
      rw [State.replaySnapshot, hk]
      simp [hr]
    constructor
    · show (s.replaySnapshot h (s.ownerPkg t)).isSome = false
      rw [snap]
      rfl
    · show (s.replaySnapshot h (s.ownerPkg t)).getD _ = _
      rw [snap]
      rfl
  · show (fget SeqState.start ((v.advance w).res h).seqs _).next = _
    rw [hown, hres]
    exact next
  · show (fget SeqState.start ((v.advance w).res h).seqs _).outstanding = _
    rw [hown, hres]
    exact outs

/-! ## Creation -/

/-- The handles in use. -/
def State.cohortHandles (s : State) : List Word := (s.cohorts.filter (fun kc => kc.2.live)).map (fun kc => kc.2.handle)

/-- A cohort as it is created in graph g. -/
def State.newCohort (s : State) (w : Who) (n g : Nat) : Cohort :=
  { Cohort.start with live := true, handle := s.newHandle s.cohortHandles, asid := s.asidOf w, size := n, graph := g }

theorem ccreate_of {s : State} {j : Nat} (h : freeSlot (fun k => (s.cohort k).live) s.cohorts.length cohortMax = some j) (w : Who) (n : Nat) :
    ∃ g, s.ccreate w n = ({ s.fresh1 with cohorts := fput s.cohorts j (s.newCohort w n g) }, s.newHandle s.cohortHandles) := by
  unfold State.ccreate
  rw [h]
  exact ⟨_, rfl⟩

theorem ccreate_full {s : State} (h : ∀ j, j < 65536 → (s.cohort j).live = true) (w : Who) (n : Nat) : s.ccreate w n = (s, 0) := by
  unfold State.ccreate
  rw [show freeSlot (fun k => (s.cohort k).live) s.cohorts.length cohortMax = none from freeSlot_eq_none h]

/-- A live cohort's handle is in use. -/
theorem handle_mem_cohortHandles {s : State} {i : Nat} (h : (s.cohort i).live = true) : (s.cohort i).handle ∈ s.cohortHandles := by
  have ne : s.cohort i ≠ Cohort.start := fun e => by rw [e] at h; cases h
  exact List.mem_map.mpr ⟨_, List.mem_filter.mpr ⟨mem_of_fget_ne ne, h⟩, rfl⟩

theorem cohortHandles_length (s : State) : s.cohortHandles.length ≤ s.cohorts.length := by
  rw [State.cohortHandles, List.length_map]
  exact List.length_filter_le _ _

end Sys2Proof.Machine

open Sys2Proof Sys2Proof.Machine

/-- Settles O14: a free object and a fresh handle exist by counting, a rank is found where the members' list shows it, and another package's cohort is asked. -/
theorem cohortMembership : Obligations.CohortMembership := by
  intro s w k d a x turn
  have create : exec (.ccreate d a) s = if x.toNat = 0 ∨ 2 ^ 20 < x.toNat then .next (s.stateUse w)
      else .next (scalarResult w d (s.ccreate w x.toNat).2 (s.ccreate w x.toNat).1) := by
    rw [exec_ccreate, execCcreate, onScalar_of turn]
  refine ⟨fun pos le => ⟨fun room => ?_, fun full => ?_⟩, fun out => ?_, ?_, ?_⟩
  · obtain ⟨j, hj⟩ : ∃ j, freeSlot (fun k => (s.cohort k).live) s.cohorts.length cohortMax = some j := by
      refine freeSlot_isSome room ?_
      obtain ⟨i, hi, out⟩ := exists_le_length_not_mem (s.cohorts.map (·.1))
      exact ⟨i, by simpa using hi, congrArg Cohort.live (fget_not_mem Cohort.start s.cohorts i out)⟩
    obtain ⟨lt, dead⟩ := freeSlot_eq_some hj
    obtain ⟨g, made⟩ := ccreate_of hj w x.toNat
    let hd := s.newHandle s.cohortHandles
    let u : State := { s.fresh1 with cohorts := fput s.cohorts j (s.newCohort w x.toNat g) }
    have writes := scalarResult_writes w d hd u turn.2
    have cohorts : (scalarResult w d hd u).cohorts = fput s.cohorts j (s.newCohort w x.toNat g) := writes.1.1.1.cohorts
    have same : (scalarResult w d hd u).cohort j = s.newCohort w x.toNat g := (writes.1.1.1.cohort j).trans (fget_fput_same _ _ _ _)
    refine ⟨_, by rw [create, if_neg (by omega), made], j, hd, ?_, lt, dead, fun few => ?_, ?_⟩
    · rw [cohorts]
      exact writes
    · have := cohortHandles_length s
      obtain ⟨nz, pkg, new⟩ := newHandle_of s s.cohortHandles (by omega)
      exact ⟨nz, pkg, fun i live e => new (by rw [← show (s.cohort i).handle = s.newHandle s.cohortHandles from e]; exact handle_mem_cohortHandles live)⟩
    · rw [same]
      exact ⟨rfl, rfl, rfl, rfl, fun _ => rfl, fun i hi => (writes.1.1.1.cohort i).trans (fget_fput_other _ _ _ hi)⟩
  · exact ⟨_, by rw [create, if_neg (by omega), ccreate_full full], scalarResult_writes w d 0 s turn.2⟩
  · rw [create, if_pos out]
  · rintro h rfl me c stranger
    have task : ∀ k : Who → Out, onScalar s k = k (.task h .s) := onScalar_of turn
    have me_iff : ∀ m : Member, me m ↔ m.isTask s.pkgId (s.res h) = true := fun m => (isTask_iff m s.pkgId (s.res h)).symm
    have none_of : stranger → s.rankIn k (s.res h) = none := fun st => rankIn_none fun jm hjm m e => (Bool.not_eq_true _).mp (mt (me_iff m).mpr (st jm hjm m e))
    refine ⟨fun pkg found => ?_, fun pkg lost => ?_, fun far => ?_⟩
    · have join : exec (.cjoin d a) s = .next (scalarResult (.task h .s) d (c.join (s.memberOf h false)).2 (s.setCohort k (c.join (s.memberOf h false)).1)) := by
        rw [exec_cjoin, execCjoin, task]
        exact (if_neg (not_not.mpr pkg)).trans (by rw [found])
      have leave : exec (.cleave a) s = .next ((s.setCohort k (c.leave (s.memberOf h false))).advance (.task h .s)) := by
        rw [exec_cleave, execCleave, task]
        exact (if_neg (not_not.mpr pkg)).trans (by rw [found])
      refine ⟨fun r held => ⟨?_, ?_⟩, fun st r lt free low => ?_, fun st full => ?_, fun st => ?_⟩
      · rw [join_held ((rankOf_memberOf s k h false).trans held)] at join
        exact ⟨_, join, writes_setCohort turn.2 s k c d _⟩
      · rw [leave_held ((rankOf_memberOf s k h false).trans held)] at leave
        obtain ⟨steps, same, others⟩ := steps_setCohort turn.2 s k { c with members := fput c.members r none }
        refine ⟨_, leave, steps, ?_⟩
        rw [same]
        exact ⟨at_fput_same c r none, fun j n => at_fput_other c none n, rfl, others⟩
      · rw [join_vacant ((rankOf_memberOf s k h false).trans (none_of st)) (vacant_eq_some lt free low)] at join
        obtain ⟨writes, same, others⟩ := writes_setCohort turn.2 s k { c with members := fput c.members r (some (s.memberOf h false)) } d (BitVec.ofNat 64 r)
        refine ⟨_, join, writes, ?_⟩
        rw [same]
        exact ⟨⟨_, at_fput_same c r _, ⟨rfl, rfl, rfl, rfl, rfl⟩, rfl, rfl, rfl⟩, fun j n => at_fput_other c _ n, rfl, others⟩
      · rw [join_full ((rankOf_memberOf s k h false).trans (none_of st)) (vacant_eq_none full)] at join
        obtain ⟨writes, same, others⟩ := writes_setCohort turn.2 s k c d (BitVec.ofNat 64 (2 ^ 64 - 1))
        exact ⟨_, join, writes, fun i => (Classical.em (i = k)).elim (fun e => by rw [e]; exact same) (others i)⟩
      · rw [leave_stranger ((rankOf_memberOf s k h false).trans (none_of st))] at leave
        obtain ⟨steps, same, others⟩ := steps_setCohort turn.2 s k c
        exact ⟨_, leave, steps, fun i => (Classical.em (i = k)).elim (fun e => by rw [e]; exact same) (others i)⟩
    · rw [exec_cjoin, execCjoin, task, exec_cleave, execCleave, task]
      exact ⟨(if_neg (not_not.mpr pkg)).trans (by rw [lost]), (if_neg (not_not.mpr pkg)).trans (by rw [lost])⟩
    · intro asks
      have sends := fun fn dest leave => sends_unnumbered s h (cohortTarget x) 0 (.cohort fn x) (s.res h).identity 0 dest 3 leave
      constructor
      · refine ⟨_, ?_, sends 1 (.sreg d.toNat 8 false) .free⟩
        rw [exec_cjoin, execCjoin, task]
        exact if_pos far
      · refine ⟨_, ?_, sends 2 .none .free⟩
        rw [exec_cleave, execCleave, task]
        exact if_pos far
  · rintro c rfl
    have core : ∀ k : Who → Out, onScalar s k = k (.sv c) := onScalar_of turn
    rw [Completes, exec_cjoin, execCjoin, core, exec_cleave, execCleave, core]
    refine ⟨rfl, fun found => ⟨_, if_pos ?_, advance_steps _ s turn.2⟩, fun lost => if_neg ?_⟩
    · rw [show s.cohortOf (s.sreg (.sv c) a) = some k from found]
      rfl
    · rw [show s.cohortOf (s.sreg (.sv c) a) = none from lost]
      simp
end

section
/-!
Barriers (R42, R126, R152, R284): the members' list as a table of ranks, the generation that the last arrival completes, and the wait of any other.
-/

namespace Sys2Proof.Machine
open Sys2Proof

/-! ## Tables of distinct keys -/

theorem find?_map_of {α β : Type} {p : α → Bool} {q : β → Bool} {g : α → β} {l : List α} (h : ∀ a ∈ l, q (g a) = p a) :
    (l.map g).find? q = (l.find? p).map g := by
  induction l with
  | nil => rfl
  | cons a l ih =>
    rw [List.map_cons, List.find?_cons, List.find?_cons, h a List.mem_cons_self, ih fun b hb => h b (List.mem_cons_of_mem _ hb)]
    cases p a <;> rfl

theorem fget_of_mem {α : Type} {d v : α} {m : FMap α} {k : Nat} (nodup : (m.map (·.1)).Nodup) (h : (k, v) ∈ m) : fget d m k = v := by
  induction m with
  | nil => cases h
  | cons c m ih =>
    obtain ⟨j, w⟩ := c
    rw [List.map_cons, List.nodup_cons] at nodup
    rcases List.mem_cons.mp h with e | h
    · cases e
      rw [fget, if_pos rfl]
    · have : j ≠ k := fun e => nodup.1 (List.mem_map.mpr ⟨_, h, e.symm⟩)
      rw [fget, if_neg this, ih nodup.2 h]

/-- A write to a key of a rising table replaces its entry. -/
theorem fput_eq_map {α : Type} {m : FMap α} {k : Nat} (v : α) (rising : (m.map (·.1)).Pairwise (· < ·)) (h : k ∈ m.map (·.1)) :
    fput m k v = m.map (fun c => if c.1 = k then (k, v) else c) := by
  induction m with
  | nil => cases h
  | cons c m ih =>
    obtain ⟨j, w⟩ := c
    rw [List.map_cons, List.pairwise_cons] at rising
    by_cases e : k = j
    · subst e
      rw [fput, if_pos rfl, List.map_cons, if_pos rfl]
      refine congrArg _ ((List.map_id m).symm.trans (List.map_congr_left fun c hc => ?_))
      exact (if_neg (Nat.ne_of_gt (rising.1 c.1 (List.mem_map_of_mem hc)))).symm
    · have mem : k ∈ m.map (·.1) := (List.mem_cons.mp h).resolve_left e
      have lt := rising.1 k mem
      rw [fput, if_neg e, if_neg (by simp at lt; omega), List.map_cons, if_neg (Ne.symm e), ih rising.2 mem]

theorem fget_map_option {α β : Type} (f : α → β) (m : FMap (Option α)) (j : Nat) :
    fget none (m.map (fun c => (c.1, c.2.map f))) j = (fget none m j).map f := by
  induction m with
  | nil => rfl
  | cons c m ih =>
    obtain ⟨i, v⟩ := c
    rw [List.map_cons, fget, fget, ih]
    split <;> rfl

/-! ## The members' list -/

/-- The entry is the resident's task. -/
def State.isRankOf (s : State) (h : Nat) (jm : Nat × Option Member) : Bool :=
  match jm.2 with | some m => m.isTask s.pkgId (s.res h) | none => false

/-- The entry of a task's rank. -/
theorem find?_rank {s : State} {h k r : Nat} {x : Member} (nodup : ((s.cohort k).members.map (·.1)).Nodup) (hr : s.rankIn k (s.res h) = some r)
    (hx : (s.cohort k).at r = some x) : (s.cohort k).members.find? (s.isRankOf h) = some (r, some x) := by
  obtain ⟨⟨j, o⟩, found, rfl⟩ := Option.map_eq_some_iff.mp (show ((s.cohort k).members.find? (s.isRankOf h)).map (·.1) = some r from hr)
  have := fget_of_mem (d := none) nodup (List.mem_of_find?_eq_some found)
  rw [found, ← this]
  exact congrArg (fun y => some (j, y)) hx

theorem waitHolds_barrier {s : State} {h k r : Nat} {hd : Word} {y : Member} (pkg : hdlPkg hd = s.pkgId) (live : s.cohortOf hd = some k)
    (found : (s.cohort k).members.find? (s.isRankOf h) = some (r, some y)) : s.waitHolds h (.barrier hd) = y.passed := by
  unfold State.waitHolds
  simp only [pkg, if_true, live]
  change (match (s.cohort k).members.find? (s.isRankOf h) with | some (_, some m) => m.passed | _ => false) = y.passed
  rw [found]

/-- A cohort stays the handle's when its handle and life do (R331). -/
theorem cohortOf_setCohort {s : State} {k : Nat} {hd : Word} {c : Cohort} (h : s.cohortOf hd = some k) (hl : c.live = (s.cohort k).live)
    (hh : c.handle = (s.cohort k).handle) : (s.setCohort k c).cohortOf hd = some k := by
  have scan : ∀ m : FMap Cohort, (m.find? (fun kc => kc.2.live && kc.2.handle == hd && hd != 0)).map (·.1) = some k →
      c.live = (fget Cohort.start m k).live → c.handle = (fget Cohort.start m k).handle →
      ((fput m k c).find? (fun kc => kc.2.live && kc.2.handle == hd && hd != 0)).map (·.1) = some k := fun m => by
    induction m with
    | nil => intro h; cases h
    | cons e m ih =>
      obtain ⟨j, v⟩ := e
      intro h hl hh
      rw [fput]
      by_cases e : k = j
      · subst e
        rw [fget, if_pos rfl] at hl hh
        rw [if_pos rfl, List.find?_cons]
        rw [List.find?_cons] at h
        simp only [hl, hh]
        cases hp : (v.live && v.handle == hd && hd != 0) with
        | true => rfl
        | false => rw [hp] at h; exact h
      · rw [fget, if_neg (Ne.symm e)] at hl hh
        rw [if_neg e]
        split
        · rw [List.find?_cons]
          cases (c.live && c.handle == hd && hd != 0) with
          | true => rfl
          | false => exact h
        · rw [List.find?_cons] at h ⊢
          cases hp : (v.live && v.handle == hd && hd != 0) with
          | true => rw [hp] at h; exact absurd (Option.some.inj h).symm e
          | false => rw [hp] at h; exact ih h hl hh
  exact scan s.cohorts h hl hh

/-! ## Completion -/

theorem complete_of_all {c : Cohort} (len : c.members.length = c.size) (all : ∀ jm ∈ c.members, ∃ m, jm.2 = some m ∧ m.arrived = true) : c.complete = true := by
  rw [Cohort.complete, List.filter_eq_self.mpr, len]
  · simp
  · intro jm hjm
    obtain ⟨m, e, ha⟩ := all jm hjm
    rw [e]
    exact ha

theorem not_complete_of {c : Cohort} {j : Nat} (nodup : (c.members.map (·.1)).Nodup) (inside : ∀ jm ∈ c.members, jm.1 < c.size) (hj : j < c.size)
    (out : ∀ m, c.at j = some m → m.arrived = false) : c.complete = false := by
  rw [Cohort.complete, decide_eq_false_iff_not]
  intro len
  let arrived := c.members.filter (fun jm => match jm.2 with | some m => m.arrived | none => false)
  have sub : arrived.map (·.1) ⊆ (List.range c.size).erase j := by
    intro i hi
    obtain ⟨⟨i, o⟩, hmem, rfl⟩ := List.mem_map.mp hi
    obtain ⟨mem, ha⟩ := List.mem_filter.mp hmem
    have at_ : c.at i = o := fget_of_mem nodup mem
    refine (List.mem_erase_of_ne ?_).mpr (List.mem_range.mpr (inside _ mem))
    rintro rfl
    cases o with
    | none => cases ha
    | some m =>
      have := out m at_
      rw [show m.arrived = true from ha] at this
      cases this
  have nd : (arrived.map (·.1)).Nodup := nodup.sublist (List.filter_sublist.map _)
  have := (List.subperm_of_subset nd sub).length_le
  rw [List.length_map, List.length_erase_of_mem (List.mem_range.mpr hj), List.length_range] at this
  have e : arrived.length = c.size := len
  omega

/-! ## Arrival -/

/-- The entry of one rank of a members' list, rewritten. -/
theorem members_fput {c : Cohort} {r : Nat} {x y : Member} (keys : c.members.map (·.1) = List.range c.members.length) (hx : c.at r = some x) :
    fput c.members r (some y) = c.members.map (fun jm => if jm.1 = r then (r, some y) else jm) := by
  refine fput_eq_map _ ?_ ?_
  · rw [keys]
    exact List.pairwise_lt_range
  · have ne : fget none c.members r ≠ none := fun e => by rw [show c.at r = none from e] at hx; cases hx
    exact List.mem_map.mpr ⟨_, mem_of_fget_ne ne, rfl⟩

theorem arrive_first {c : Cohort} {m x : Member} {r : Nat} (hr : c.rankOf m = some r) (hx : c.at r = some x) (ha : x.arrived = false) (hp : x.passed = false) :
    c.arrive m none = { c with members := fput c.members r (some { x with arrived := true, waits := true, reply := none }) } := by
  unfold Cohort.arrive
  simp [hr, hx, ha, hp]

theorem arrive_passed {c : Cohort} {m x : Member} {r : Nat} (hr : c.rankOf m = some r) (hx : c.at r = some x) (hp : x.passed = true) :
    c.arrive m none = { c with members := fput c.members r (some { x with waits := true }) } := by
  unfold Cohort.arrive
  simp [hr, hx, hp]

theorem takePass_of {c : Cohort} {m y : Member} {r : Nat} (hr : c.rankOf m = some r) (hy : c.at r = some y) :
    c.takePass m = { c with members := fput c.members r (some { y with passed := false }) } := by
  unfold Cohort.takePass
  rw [hr]
  simp [hy]

/-- With nothing of path S in flight, it is performed at every scope. -/
theorem pathPerformed_of_quiet {s : State} {h : Nat} (acc : ∀ g ∈ s.gaccs, g.owner = .task h → g.path ≠ 0)
    (ops : ∀ o ∈ s.routs, o.owner = .task h → o.path = 0 → o.status ≠ none) (scope : BitVec 3) : s.pathPerformed (.task h) 0 scope = true := by
  rw [State.pathPerformed, Bool.and_eq_true, List.all_eq_true, List.all_eq_true]
  refine ⟨fun g hg => ?_, fun o ho => ?_⟩
  · have := acc g hg
    by_cases e : g.owner = .task h
    · have : ¬ g.path = 0#3 := this e
      simp [this]
    · simp [e]
  · have := ops o ho
    by_cases e : o.owner = .task h
    · by_cases p : o.path = 0
      · simp [this e p]
      · have : ¬ o.path = 0#3 := p
        simp [this]
    · simp [e]

/-- BAR of a member whose path S accesses are performed: it arrives, the barrier is checked, and it waits (R42). -/
theorem exec_bar_arrives {s : State} {h k r : Nat} {a : BitVec 6} (turn : ScalarTurn s (.task h .s)) (pkg : hdlPkg (s.sreg (.task h .s) a) = s.pkgId)
    (live : s.cohortOf (s.sreg (.task h .s) a) = some k) (hr : s.rankIn k (s.res h) = some r) (performed : ∀ c, s.pathPerformed (.task h) 0 c = true) :
    exec (.bar a) s = waitOp (.task h .s) (.barrier (s.sreg (.task h .s) a)) ((s.setCohort k ((s.cohort k).arrive (s.memberOf h false) none)).barrierCheck k)
      (fun s' => .next ((s'.setCohort k ((s'.cohort k).takePass (s.memberOf h false))).advance (.task h .s)))
      (fun s' => .next ((s'.setCohort k ((s'.cohort k).takePass (s.memberOf h false))).advance (.task h .s))) := by
  have task : ∀ k : Who → Out, onScalar s k = k (.task h .s) := onScalar_of turn
  have rank : (s.cohort k).rankOf (s.memberOf h false) = some r := hr
  rw [exec_bar, execBar, task]
  refine (if_neg (not_not.mpr pkg)).trans ?_
  simp only [live, rank, performed, Bool.not_true, Bool.false_eq_true, if_false]

/-! ## A generation that completes -/

/-- A member once its generation has completed: its arrival is spent, and a BAR of this package that waits passes (R42). -/
def Member.completed (m : Member) : Member := { m with arrived := false, waits := false, passed := m.waits && decide (m.reply = none) }

/-- A cohort whose generation has completed. -/
def Cohort.completed (c : Cohort) : Cohort := { c with gen := c.gen + 1, members := c.members.map (fun jm => (jm.1, jm.2.map Member.completed)) }

theorem at_completed (c : Cohort) (j : Nat) : c.completed.at j = (c.at j).map Member.completed := fget_map_option _ _ _

theorem Member.passed_completed (m : Member) : m.completed.passed = true ↔ m.waits = true ∧ m.reply = none := by simp [Member.completed]

/-- The members of other packages that a completed generation tells. -/
def Cohort.replies (c : Cohort) : List (BitVec 10 × Nat) :=
  c.members.filterMap (fun jm => match jm.2 with
    | some m => (match m.reply with | some id => if m.waits then some (m.pkg, id) else none | none => none)
    | none => none)

/-- Each member of another package is told (R42). -/
def State.tellAll (s : State) (l : List (BitVec 10 × Nat)) : State := l.foldl (fun s p => s.sendPacket p.1 (.barrierPassed p.2)) s

theorem mem_replies {c : Cohort} {j id : Nat} {m : Member} (hm : c.at j = some m) (hw : m.waits = true) (hr : m.reply = some id) : (m.pkg, id) ∈ c.replies := by
  have ne : fget none c.members j ≠ none := fun e => by rw [show c.at j = none from e] at hm; cases hm
  have mem := mem_of_fget_ne ne
  rw [show fget none c.members j = some m from hm] at mem
  exact List.mem_filterMap.mpr ⟨_, mem, by simp [hr, hw]⟩

theorem barrierCheck_complete {s : State} {k : Nat} (h : (s.cohort k).complete = true) :
    s.barrierCheck k = (s.setCohort k (s.cohort k).completed).tellAll (s.cohort k).replies := by
  unfold State.barrierCheck
  rw [if_pos h]
  rfl

theorem barrierCheck_incomplete {s : State} {k : Nat} (h : (s.cohort k).complete = false) : s.barrierCheck k = s := by
  unfold State.barrierCheck
  rw [if_neg (by rw [h]; decide)]

/-- A packet toward a package is kept for it, or waits for room there (R388). -/
def State.Told (s : State) (p : BitVec 10) (b : Payload) : Prop := (∃ u ∈ (s.transport p).unacked, u.pkt.body = b) ∨ b ∈ (s.transport p).waiting

theorem transport_setTransport (s : State) (d p : BitVec 10) (x : Transport) :
    (s.setTransport d x).transport p = if p.toNat = d.toNat then x else s.transport p := by
  by_cases e : p.toNat = d.toNat
  · rw [if_pos e, State.transport, e]
    exact fget_fput_same _ _ _ _
  · rw [if_neg e]
    exact fget_fput_other _ _ _ e

/-- What a transport that keeps all its packets still keeps. -/
theorem told_setTransport {s : State} {d p : BitVec 10} {x : Transport} {c : Payload} (hu : (s.transport d).unacked ⊆ x.unacked)
    (hw : (s.transport d).waiting ⊆ x.waiting) (h : s.Told p c) : (s.setTransport d x).Told p c := by
  rw [State.Told, transport_setTransport]
  split
  · next e =>
    have : s.transport p = s.transport d := by rw [State.transport, e]; rfl
    rw [State.Told, this] at h
    exact h.imp (fun ⟨u, hm, e⟩ => ⟨u, hu hm, e⟩) fun h => hw h
  · exact h

theorem enqueue_of (s : State) (p : Packet) (l : List Nat) : s.enqueue p l = { s with ports := (s.enqueue p l).ports } := by
  unfold State.enqueue
  split <;> rfl

theorem sendPacket_of (s : State) (d : BitVec 10) (b : Payload) :
    s.sendPacket d b = { s with ports := (s.sendPacket d b).ports, transports := (s.sendPacket d b).transports } ∧ (s.sendPacket d b).Told d b ∧
      ∀ p c, s.Told p c → (s.sendPacket d b).Told p c := by
  unfold State.sendPacket
  dsimp only
  split
  · unfold State.sendNow
    extract_lets x p u s1
    have told : ∀ q c, s1.Told q c → (s1.enqueue p []).Told q c := fun q c h => by rw [enqueue_of]; exact h
    refine ⟨by rw [enqueue_of]; rfl, told _ _ (.inl ⟨u, ?_, rfl⟩), fun q c h => told q c (told_setTransport ?_ (fun _ h => h) h)⟩
    · rw [transport_setTransport, if_pos rfl]
      exact List.mem_append_right _ (List.mem_singleton.mpr rfl)
    · exact fun _ => List.mem_append_left _
  · refine ⟨rfl, .inr ?_, fun q c h => told_setTransport (fun _ h => h) (fun _ => List.mem_append_left _) h⟩
    rw [transport_setTransport, if_pos rfl]
    exact List.mem_append_right _ (List.mem_singleton.mpr rfl)

theorem tellAll_of (l : List (BitVec 10 × Nat)) (s : State) :
    s.tellAll l = { s with ports := (s.tellAll l).ports, transports := (s.tellAll l).transports } ∧
      (∀ p c, s.Told p c → (s.tellAll l).Told p c) ∧ ∀ x ∈ l, (s.tellAll l).Told x.1 (.barrierPassed x.2) := by
  induction l generalizing s with
  | nil => exact ⟨rfl, fun _ _ h => h, by simp⟩
  | cons y l ih =>
    obtain ⟨eq1, told, keep1⟩ := sendPacket_of s y.1 (.barrierPassed y.2)
    obtain ⟨eq2, keep2, all⟩ := ih (s.sendPacket y.1 (.barrierPassed y.2))
    have step : s.tellAll (y :: l) = (s.sendPacket y.1 (.barrierPassed y.2)).tellAll l := rfl
    rw [step]
    refine ⟨by rw [eq2, eq1], fun p c h => keep2 p c (keep1 p c h), fun x hx => ?_⟩
    rcases List.mem_cons.mp hx with rfl | hx
    · exact keep2 _ _ told
    · exact all x hx

/-! ## A wait that ends the block -/

/-- A program whose barrier has not passed is not ready (R31). -/
theorem not_ready_of_barrier {s : State} {h : Nat} {hd : Word} (hw : (s.res h).s.wait = some (.barrier hd)) (pass : (s.res h).s.pass = false)
    (hx : s.waitHolds h (.barrier hd) = false) : s.ready h .s = false := by
  have w : ((s.res h).prg .s).wait = some (.barrier hd) := hw
  have p : ((s.res h).prg .s).pass = false := pass
  unfold State.ready
  simp [w, p, hx]

/-- Whether a barrier's wait holds stands with the cohorts, the requests and the task's identity. -/
theorem waitHolds_barrier_setRes (s : State) {h : Nat} {q : Resident} (hd : Word) (hq : q = { s.res h with s := q.s }) :
    (s.setRes h q).waitHolds h (.barrier hd) = s.waitHolds h (.barrier hd) := by
  unfold State.waitHolds
  rw [State.res_setRes, hq]
  rfl

/-- A switch changes no resident that is not ready (R31, R33). -/
theorem res_switch {s : State} {h t : Nat} {e : Eng} (hr : s.ready h e = false) : (s.switch t e).res h = s.res h := by
  unfold State.switch
  split
  · next j found =>
    have ready : s.ready (mkHandle t j) e = true := List.find?_some (p := fun j => s.ready (mkHandle t j) e) found
    have ne : h ≠ mkHandle t j := by rintro rfl; rw [hr] at ready; cases ready
    exact State.res_setRes_other _ _ ne
  · rfl

/-- The scalar engine leaves a program that waits at a barrier as it stands (R31). -/
theorem res_endBlock_barrier {s : State} {h : Nat} {hd : Word} (hw : (s.res h).s.wait = some (.barrier hd)) (pass : (s.res h).s.pass = false)
    (hx : s.waitHolds h (.barrier hd) = false) : (s.endBlock h .s).res h = s.res h := by
  have same : (s.setRes h (s.res h)).res h = s.res h := State.res_setRes ..
  have idle : (s.setRes h (s.res h)).ready h .s = false := not_ready_of_barrier (by rw [same]; exact hw) (by rw [same]; exact pass)
    ((waitHolds_barrier_setRes s hd rfl).trans hx)
  have block : s.endBlock h .s = if (s.setRes h (s.res h)).cur (hTile h) .s = some (hRes h) then (s.setRes h (s.res h)).switch (hTile h) .s else s.setRes h (s.res h) := rfl
  rw [block]
  split
  · exact (res_switch idle).trans same
  · exact same

/-- A barrier's wait that does not hold ends the block; where the queue is unsettled it raises state-use (R30, R126). -/
theorem waitOp_barrier_waits {s : State} {h : Nat} {hd : Word} {p k : State → Out} (hx : s.waitHolds h (.barrier hd) = false) (pass : (s.res h).s.pass = false) :
    waitOp (.task h .s) (.barrier hd) s p k = .next (if (s.res h).sc.settled then
      (s.modPrg h .s (fun p => { p with wait := some (.barrier hd), since := s.stamp })).endBlock h .s else s.stateUse (.task h .s)) := by
  unfold waitOp
  have e : ((s.res h).prg .s).pass = false := pass
  simp only [e, hx, Bool.false_and, Bool.false_eq_true, if_false]
  split <;> rfl

/-- A scalar program that raises state-use parks; memory, scratchpads and cohorts stand (R35). -/
theorem stateUse_parks (s : State) (h : Nat) : ((s.stateUse (.task h .s)).res h).est .s = 2 ∧ (s.stateUse (.task h .s)).mem = s.mem ∧
    (s.stateUse (.task h .s)).cohorts = s.cohorts ∧ ∀ j, ((s.stateUse (.task h .s)).tile j).spad = (s.tile j).spad := by
  obtain ⟨u, e, est, mem, cohorts, tiles⟩ : ∃ u : State, s.stateUse (.task h .s) = u.endBlock h .s ∧ (u.res h).est .s = 2 ∧ u.mem = s.mem ∧
      u.cohorts = s.cohorts ∧ u.tiles = s.tiles := by
    refine ⟨_, rfl, ?_, rfl, rfl, rfl⟩
    show Resident.est ((State.setRes _ h _).res h) .s = 2
    rw [State.res_setRes]
    show Resident.est ((State.setRes _ h _).res h) .s = 2
    rw [State.res_setRes]
    exact (Resident.est_setEst _ _ _ (by decide)).trans (if_pos rfl)
  have ended := blockEnded_endBlock u h .s
  refine ⟨?_, by rw [e, ended.mem, mem], by rw [e, ended.cohorts, cohorts], fun j => ?_⟩
  · rw [e, (ended.res h).est, est]
  · have := ended.tile j
    rw [Tile.Left] at this
    rw [e, this]
    show (u.tile j).spad = _
    rw [State.tile, tiles]
    rfl

/-- The barrier that no longer passes at once: the member's scalar program waits there, or parks where it cannot (R42, R126). -/
theorem bar_waits {s : State} {h : Nat} {hd : Word} {p k : State → Out} (hx : s.waitHolds h (.barrier hd) = false) (pass : (s.res h).s.pass = false) :
    ∃ t, waitOp (.task h .s) (.barrier hd) s p k = .next t ∧ t.mem = s.mem ∧ t.cohorts = s.cohorts ∧ (∀ j, (t.tile j).spad = (s.tile j).spad) ∧
      ((s.res h).sc.settled = true → (t.res h).s = { (s.res h).s with wait := some (.barrier hd), since := s.stamp } ∧ (t.res h).sc = (s.res h).sc) ∧
      ((s.res h).sc.settled = false → (t.res h).est .s = 2) := by
  refine ⟨_, waitOp_barrier_waits hx pass, ?_⟩
  cases hs : (s.res h).sc.settled with
  | true =>
    rw [if_pos rfl]
    let q := (s.res h).setPrg .s { (s.res h).s with wait := some (.barrier hd), since := s.stamp }
    have same : (s.setRes h q).res h = q := State.res_setRes ..
    have kept : ((s.setRes h q).endBlock h .s).res h = q := by
      rw [res_endBlock_barrier (hd := hd), same]
      · rw [same]; rfl
      · rw [same]; exact pass
      · rw [waitHolds_barrier_setRes s hd rfl, hx]
    have ended := blockEnded_endBlock (s.setRes h q) h .s
    change _ ∧ _
    refine ⟨ended.mem, ended.cohorts, fun j => ?_, fun _ => ?_, fun e => absurd e.symm Bool.false_ne_true⟩
    · have := ended.tile j
      rw [Tile.Left] at this
      change (((s.setRes h q).endBlock h .s).tile j).spad = _
      rw [this]
      rfl
    · change (((s.setRes h q).endBlock h .s).res h).s = _ ∧ (((s.setRes h q).endBlock h .s).res h).sc = _
      rw [kept]
      exact ⟨rfl, rfl⟩
  | false =>
    obtain ⟨est, mem, cohorts, tiles⟩ := stateUse_parks s h
    rw [if_neg Bool.false_ne_true]
    exact ⟨mem, cohorts, tiles, fun e => absurd e Bool.false_ne_true, fun _ => est⟩

/-- A program that steps over a barrier of which it takes the pass: beside its step only its member's pass differs. -/
structure BarPassed (h k r : Nat) (y : Member) (s t : State) : Prop where
  queue : QueueStepped (s.sc (.task h .s)) (t.sc (.task h .s))
  regs : (t.sc (.task h .s)).sregs = (s.sc (.task h .s)).sregs
  mem : t.mem = s.mem
  tiles : t.tiles = s.tiles
  transports : t.transports = s.transports
  alone : ∀ i, i ≠ h → t.res i = s.res i
  cohort : t.cohort k = { s.cohort k with members := fput (s.cohort k).members r (some { y with passed := false }) }
  others : ∀ i, i ≠ k → t.cohort i = s.cohort i

theorem Locally.transports {s t : State} (h : Locally s t) : t.transports = s.transports := by rw [h]

/-- A barrier whose generation has completed passes, and the pass is spent (R42). -/
theorem bar_passes {s : State} {h k r : Nat} {m y : Member} {hd : Word} (hx : s.waitHolds h (.barrier hd) = true) (pre : (s.res h).preempt = false)
    (pass : (s.res h).s.pass = false) (hr : (s.cohort k).rankOf m = some r) (hy : (s.cohort k).at r = some y) :
    ∃ t, waitOp (.task h .s) (.barrier hd) s
        (fun s' => .next ((s'.setCohort k ((s'.cohort k).takePass m)).advance (.task h .s)))
        (fun s' => .next ((s'.setCohort k ((s'.cohort k).takePass m)).advance (.task h .s))) = .next t ∧ BarPassed h k r y s t := by
  refine ⟨_, waitOp_passes hx ⟨pass, pre⟩, ?_⟩
  obtain ⟨⟨⟨loc1, others1, -⟩, -⟩, sc1⟩ := onlyScalar_waited h s
  have cohort1 : (s.waited (.task h .s)).cohort k = s.cohort k := loc1.cohort k
  rw [cohort1, takePass_of hr hy]
  let c := { s.cohort k with members := fput (s.cohort k).members r (some { y with passed := false }) }
  let u := (s.waited (.task h .s)).setCohort k c
  obtain ⟨⟨⟨loc2, others2, -⟩, -⟩, queue, -, regs⟩ := advance_steps (.task h .s) u (by rintro _ _ ⟨⟩; rfl)
  have sc2 : u.sc (.task h .s) = s.sc (.task h .s) := sc1
  rw [sc2] at queue regs
  have own : ∀ {i}, i ≠ h → ∀ e, Who.task h .s ≠ .task i e := fun n _ e => n (Who.task.inj e).1.symm
  exact {
    queue := queue
    regs := regs
    mem := loc2.mem.trans loc1.mem
    tiles := loc2.tiles.trans loc1.tiles
    transports := loc2.transports.trans loc1.transports
    alone := fun i n => (others2 i (own n)).trans (others1 i (own n))
    cohort := (loc2.cohort k).trans (cohort_setCohort_same _ _ _)
    others := fun i n => ((loc2.cohort i).trans (cohort_setCohort_other _ _ n)).trans (loc1.cohort i) }

/-- The entry of a rank in a list rewritten at it. -/
theorem find?_arrived {s : State} {h r : Nat} {c : Cohort} {x y : Member} (keys : c.members.map (·.1) = List.range c.members.length) (hx : c.at r = some x)
    (same : y.isTask s.pkgId (s.res h) = x.isTask s.pkgId (s.res h)) (found : c.members.find? (s.isRankOf h) = some (r, some x)) :
    (fput c.members r (some y)).find? (s.isRankOf h) = some (r, some y) := by
  have nodup : (c.members.map (·.1)).Nodup := by rw [keys]; exact List.nodup_range
  rw [members_fput keys hx, find?_map_of (p := s.isRankOf h) fun jm mem => ?_, found]
  · exact congrArg some (if_pos rfl)
  · split
    · next e =>
      obtain ⟨j, o⟩ := jm
      obtain rfl : j = r := e
      have : o = some x := (fget_of_mem nodup mem).symm.trans hx
      rw [this]
      exact same
    · rfl

/-- The entry of a rank once its generation has completed. -/
theorem find?_completed {s : State} {h r : Nat} {c : Cohort} {x : Member} (found : c.members.find? (s.isRankOf h) = some (r, some x)) :
    c.completed.members.find? (s.isRankOf h) = some (r, some x.completed) := by
  have same : ∀ jm ∈ c.members, s.isRankOf h (jm.1, jm.2.map Member.completed) = s.isRankOf h jm := fun jm _ => by
    obtain ⟨j, o⟩ := jm
    cases o <;> rfl
  exact (find?_map_of same).trans (by rw [found]; rfl)

end Sys2Proof.Machine

open Sys2Proof Sys2Proof.Machine

/-- Settles O15: the last arrival completes the generation and spends its own pass; any other ends its block or parks. -/
theorem barrierOfTheLastMemberPasses : Obligations.BarrierOfTheLastMemberPasses := by
  intro s h k r x a w hd c quiet elsewhere alone turn pkg live hq pre pass keys hx hr ha
  have nodup : (c.members.map (·.1)).Nodup := by rw [keys]; exact List.nodup_range
  have found : c.members.find? (s.isRankOf h) = some (r, some x) := find?_rank nodup hr hx
  have rank : c.rankOf (s.memberOf h false) = some r := hr
  have run := exec_bar_arrives turn pkg live hr fun scope => pathPerformed_of_quiet hq.1 hq.2 scope
  have rankOf : ∀ {d : Cohort} {y : Member}, d.members.find? (s.isRankOf h) = some (r, some y) → d.rankOf (s.memberOf h false) = some r := fun {d _} e => by
    show (d.members.find? (s.isRankOf h)).map (·.1) = some r
    rw [e]
    rfl
  have arrived : ∀ {y : Member}, y.isTask s.pkgId (s.res h) = x.isTask s.pkgId (s.res h) →
      (fput c.members r (some y)).find? (s.isRankOf h) = some (r, some y) := fun e => find?_arrived keys hx e found
  have live1 : ∀ d : Cohort, d.live = c.live → d.handle = c.handle → (s.setCohort k d).cohortOf hd = some k := fun d => cohortOf_setCohort live
  have holds1 : ∀ (y : Member), y.isTask s.pkgId (s.res h) = x.isTask s.pkgId (s.res h) →
      (s.setCohort k { c with members := fput c.members r (some y) }).waitHolds h (.barrier hd) = y.passed := fun y e =>
    waitHolds_barrier pkg (live1 _ rfl rfl) (by rw [cohort_setCohort_same]; exact arrived e)
  have incomplete : (∃ j, j < c.size ∧ j ≠ r ∧ ∀ m, c.at j = some m → m.arrived = false) → (∀ jm ∈ c.members, jm.1 < c.size) →
      ∀ y : Member, ({ c with members := fput c.members r (some y) } : Cohort).complete = false := fun ⟨j, lt, ne, out⟩ inside y => by
    have keys1 : (fput c.members r (some y)).map (·.1) = c.members.map (·.1) := by
      rw [members_fput keys hx, List.map_map]
      refine List.map_congr_left fun jm _ => ?_
      show (if jm.1 = r then (r, some y) else jm).1 = jm.1
      split
      · next e => exact e.symm
      · rfl
    refine not_complete_of (j := j) (by rw [keys1]; exact nodup) (fun jm mem => ?_) lt fun m e => out m ((at_fput_other c _ ne).symm.trans e)
    have : jm.1 ∈ c.members.map (·.1) := keys1 ▸ List.mem_map_of_mem mem
    obtain ⟨jm', mem', e⟩ := List.mem_map.mp this
    exact e ▸ inside jm' mem'
  refine ⟨fun hp len all => ?_, fun hp some_out inside => ?_, fun hp some_out inside => ?_⟩
  · let y : Member := { x with arrived := true, waits := true, reply := none }
    let c1 : Cohort := { c with members := fput c.members r (some y) }
    have arrive : c.arrive (s.memberOf h false) none = c1 := arrive_first rank hx ha hp
    have mapped := members_fput (y := y) keys hx
    have full : c1.complete = true := complete_of_all (by rw [show c1.members = _ from mapped, List.length_map, len]) fun jm mem => by
      rw [show c1.members = _ from mapped] at mem
      obtain ⟨jm', mem', rfl⟩ := List.mem_map.mp mem
      split
      · exact ⟨y, rfl, rfl⟩
      · next n => exact all jm' mem' n
    let s2 := (s.setCohort k c1).setCohort k c1.completed
    have check : (s.setCohort k c1).barrierCheck k = s2.tellAll c1.replies := by
      have := cohort_setCohort_same s k c1
      rw [barrierCheck_complete (by rw [this]; exact full), this]
    obtain ⟨only, -, told⟩ := tellAll_of c1.replies s2
    have cohort3 : (s2.tellAll c1.replies).cohort k = c1.completed := by rw [only]; exact cohort_setCohort_same _ _ _
    have found3 : c1.completed.members.find? (s.isRankOf h) = some (r, some y.completed) := find?_completed (arrived rfl)
    have live3 : (s2.tellAll c1.replies).cohortOf hd = some k := by
      rw [only]
      exact cohortOf_setCohort (live1 c1 rfl rfl) (by rw [cohort_setCohort_same]; rfl) (by rw [cohort_setCohort_same]; rfl)
    have res3 : ∀ i, (s2.tellAll c1.replies).res i = s.res i := fun i => by rw [only]; rfl
    have isRank3 : (s2.tellAll c1.replies).isRankOf h = s.isRankOf h := by rw [only]; rfl
    have pkg3 : (s2.tellAll c1.replies).pkgId = s.pkgId := by rw [only]; rfl
    obtain ⟨t, e, p⟩ := bar_passes (s := s2.tellAll c1.replies) (m := s.memberOf h false) (k := k) (r := r) (y := y.completed) (hd := hd)
      (waitHolds_barrier (pkg.trans pkg3.symm) live3 (by rw [cohort3, isRank3]; exact found3)) (by rw [res3]; exact pre) (by rw [res3]; exact pass)
      (by rw [cohort3]; exact rankOf found3) (by rw [cohort3, at_completed, at_fput_same]; rfl)
    have cohort := p.cohort
    rw [cohort3] at cohort
    have mem : t.mem = s.mem := p.mem.trans (by rw [only]; rfl)
    have tiles : t.tiles = s.tiles := p.tiles.trans (by rw [only]; rfl)
    have sc3 : (s2.tellAll c1.replies).sc w = s.sc w := congrArg Resident.sc (res3 h)
    have others : ∀ i, i ≠ k → t.cohort i = s.cohort i := fun i n => by
      rw [p.others i n, only]
      exact (cohort_setCohort_other _ _ n).trans (cohort_setCohort_other _ _ n)
    refine ⟨t, ?_, sc3 ▸ p.queue, sc3 ▸ p.regs, ⟨mem, fun j => ?_, others⟩, fun i n => (p.alone i n).trans (res3 i), ?_,
      ⟨{ y.completed with passed := false }, ?_, rfl, rfl⟩, fun j m n hm => ⟨m.completed, ?_, rfl, m.passed_completed, fun id hid hw => ?_⟩⟩
    · rw [run, arrive, check]
      exact e
    · rw [State.tile, tiles]
      rfl
    · rw [cohort]
      rfl
    · rw [cohort]
      exact at_fput_same _ _ _
    · rw [cohort, at_fput_other _ _ n, at_completed, at_fput_other c _ n, hm]
      rfl
    · have := told _ (mem_replies ((at_fput_other c _ n).trans hm) hw hid)
      rw [State.Told, State.transport, ← p.transports] at this
      exact this
  · let y : Member := { x with arrived := true, waits := true, reply := none }
    let c1 : Cohort := { c with members := fput c.members r (some y) }
    have arrive : c.arrive (s.memberOf h false) none = c1 := arrive_first rank hx ha hp
    have same := cohort_setCohort_same s k c1
    have check : (s.setCohort k c1).barrierCheck k = s.setCohort k c1 := barrierCheck_incomplete (by rw [same]; exact incomplete some_out inside y)
    obtain ⟨t, e, mem, cohorts, tiles, settled, unsettled⟩ := bar_waits (s := s.setCohort k c1) ((holds1 y rfl).trans hp) pass
    have cohort : ∀ i, t.cohort i = (s.setCohort k c1).cohort i := fun i => by rw [State.cohort, cohorts]; rfl
    refine ⟨t, ?_, ⟨mem, tiles, fun i n => (cohort i).trans (cohort_setCohort_other _ _ n)⟩, ?_, ?_, fun j n => ?_, fun hs => ?_, unsettled⟩
    · rw [run, arrive, check]
      exact e
    · rw [cohort, same]
    · rw [cohort, same]
      exact at_fput_same _ _ _
    · rw [cohort, same]
      exact at_fput_other _ _ n
    · obtain ⟨prg, sc⟩ := settled hs
      exact ⟨congrArg SCtx.pc sc, congrArg Prg.wait prg, sc⟩
  · let y : Member := { x with waits := true }
    let c1 : Cohort := { c with members := fput c.members r (some y) }
    have arrive : c.arrive (s.memberOf h false) none = c1 := arrive_passed rank hx hp
    have same := cohort_setCohort_same s k c1
    have check : (s.setCohort k c1).barrierCheck k = s.setCohort k c1 := barrierCheck_incomplete (by rw [same]; exact incomplete some_out inside y)
    obtain ⟨t, e, p⟩ := bar_passes (s := s.setCohort k c1) (m := s.memberOf h false) (k := k) (r := r) (y := y) (hd := hd) ((holds1 y rfl).trans hp) pre pass
      (by rw [same]; exact rankOf (arrived rfl)) (by rw [same]; exact at_fput_same _ _ _)
    have cohort := p.cohort
    rw [same] at cohort
    refine ⟨t, ?_, p.queue, p.regs, ⟨p.mem, fun j => ?_, fun i n => (p.others i n).trans (cohort_setCohort_other _ _ n)⟩, p.alone, ?_, { y with passed := false }, ?_, ha, rfl⟩
    · rw [run, arrive, check]
      exact e
    · rw [State.tile, p.tiles]
      rfl
    · rw [cohort]
    · rw [cohort]
      exact at_fput_same _ _ _

end

section
/-!
Vector instructions that begin with a wait (R30, R189, R190): the writes that land before it, what it leaves of the resident, slab rows and WAITC.
-/

namespace Sys2Proof.Machine
open Sys2Proof

/-! ## Landing -/

/-- Landed writes change registers, flags and the output ports' staging alone (R97, R188). -/
def Resident.Landed (r q : Resident) : Prop :=
  q = { r with vregs := q.vregs, mregs := q.mregs, rctl := q.rctl, pend := q.pend, staged := q.staged, pushed := q.pushed, vpos := q.vpos }

theorem Resident.landed_push (r : Resident) (n : Nat) : r.Landed (r.push n) := by
  unfold Resident.push
  split <;> rfl

theorem Resident.Landed.trans {r q p : Resident} (h : r.Landed q) (k : q.Landed p) : r.Landed p := by
  rw [Resident.Landed] at h k ⊢
  rw [k, h]

theorem Resident.landed_land (r : Resident) (p : PendW) : r.Landed (r.land p) := by
  unfold Resident.land
  split
  · exact .trans (q := { r with rctl := _, vregs := _ }) rfl (Resident.landed_push _ _)
  · rfl

theorem Resident.landed_foldl (l : List PendW) (r : Resident) : r.Landed (l.foldl Resident.land r) := by
  induction l generalizing r with
  | nil => rfl
  | cons p l ih => exact (r.landed_land p).trans (ih _)

theorem Resident.landed_settle (r : Resident) : r.Landed r.settle := (r.landed_foldl r.pend).trans rfl

theorem Resident.landed_landTo (r : Resident) (x : Nat) : r.Landed (r.landTo x) := (r.landed_foldl _).trans rfl

/-- With nothing left to land, settling changes nothing. -/
theorem Resident.settle_settle (r : Resident) : r.settle.settle = r.settle := rfl

/-! ## The state a vector wait finds -/

/-- The state in which every write of a vector program has landed (R100). -/
def State.settled (s : State) (h : Nat) : State := s.modRes h Resident.settle

theorem res_settled (s : State) (h : Nat) : (s.settled h).res h = (s.res h).settle := State.res_setRes ..

/-- A vector program that has passed a wait: its writes have landed, its block begins (R30, R100). -/
theorem waited_settled (s : State) (h : Nat) : (s.settled h).waited (.task h .v) =
    s.setRes h { (s.res h).settle with v := { (s.res h).settle.v with blk := 0, bnd := false } } := by
  show (s.settled h).setRes h _ = _
  rw [res_settled, State.settled, State.modRes_eq, State.setRes_setRes]
  rfl

/-- Once all writes have landed, only a load that no WAITC covers breaks the gap rule (R99, R101). -/
theorem gapReg_settled {s : State} {h : Nat} {rd : List VTgt} {wr : List (VTgt × Option Nat)}
    (gap : (s.res h).check = false ∨ (∀ t ∈ rd, s.uncovered h t = false) ∧ ∀ t ∈ wr, s.uncovered h t.1 = false) :
    (s.settled h).gapReg h rd wr = none := by
  have check : ((s.settled h).res h).check = (s.res h).check := by
    have := (s.res h).landed_settle
    rw [Resident.Landed] at this
    rw [res_settled, this]
    rfl
  have pend : ((s.settled h).res h).pend = [] := by rw [res_settled]; rfl
  have unc : ∀ t, (s.settled h).uncovered h t = s.uncovered h t := fun t => by cases t <;> rfl
  unfold State.gapReg
  simp only [check, pend, unc, List.any_nil, Bool.false_or]
  rcases gap with off | ⟨hr, hw⟩
  · simp [off]
  · have h1 : rd.find? (fun t => s.uncovered h t) = none := List.find?_eq_none.mpr fun t ht => by simp [hr t ht]
    rw [h1]
    split
    · rfl
    · refine Option.map_eq_none_iff.mpr (List.find?_eq_none.mpr ?_)
      rintro ⟨t, l⟩ ht
      have := hw _ ht
      cases l <;> simp [this]

/-- A vector instruction with a wait of its own, no register of a bound port and no gap: state-use, or its waits over what has landed (R99, R100). -/
theorem vReady_settled {s : State} {h : Nat} {su : Bool} {ws : List Wait} {rd : List VTgt} {wr : List (VTgt × Option Nat)} (k : State → Out)
    (hws : ws ≠ []) (ports : ∀ n, .vreg n ∈ rd ∨ (∃ l, (.vreg n, l) ∈ wr) → (s.res h).portBind n = 0)
    (gap : (s.res h).check = false ∨ (∀ t ∈ rd, s.uncovered h t = false) ∧ ∀ t ∈ wr, s.uncovered h t.1 = false) :
    vReady Rp.none h su ws rd wr s k = if su then .next ((s.settled h).stateUse (.task h .v)) else
      vPorts h ws (s.settled h) (fun u => k (u.modRes h id)) := by
  have p1 : ∀ b, b ≠ 0 → portsBound (s.res h) b (rd.filter VTgt.real) = [] := fun b hb =>
    portsBound_nil hb fun n hn => ports n (.inl (List.mem_filter.mp hn).1)
  have p2 : ∀ b, b ≠ 0 → portsBound (s.res h) b ((wr.filter (fun t => t.1.real)).map (·.1)) = [] := fun b hb => portsBound_nil hb fun n hn => by
    obtain ⟨⟨t, l⟩, hm, rfl⟩ := List.mem_map.mp hn
    exact ports n (.inr ⟨l, (List.mem_filter.mp hm).1⟩)
  have g : ∀ (f : VTgt → Bool) (f' : VTgt × Option Nat → Bool), (s.settled h).gapReg h ((rd.filter VTgt.real).filter f) ((wr.filter (fun t => t.1.real)).filter f') = none :=
    fun f f' => gapReg_settled (gap.imp_right fun ⟨hr, hw⟩ =>
      ⟨fun t ht => hr t (List.mem_filter.mp (List.mem_filter.mp ht).1).1, fun t ht => hw t (List.mem_filter.mp (List.mem_filter.mp ht).1).1⟩)
  unfold vReady
  simp only [p1 1 (by decide), p1 2 (by decide), p2 1 (by decide), p2 2 (by decide), hws, false_and, if_false]
  change (match (s.settled h).gapReg h _ _ with | some n => _ | none => _) = _
  rw [g]
  cases su with
  | true => rfl
  | false => simp; rfl

theorem unhindered_settled {s : State} {h : Nat} (u : Unhindered s (.task h .v)) : Unhindered (s.settled h) (.task h .v) := by
  have e := (s.res h).landed_settle
  rw [Resident.Landed] at e
  show (((s.settled h).res h).v.pass = false ∧ ((s.settled h).res h).preempt = false)
  rw [res_settled, e]
  exact u

/-- A vector instruction whose own wait holds goes on in the state that its wait leaves (R30). -/
theorem vReady_waits {s : State} {h : Nat} {x : Wait} {rd : List VTgt} {wr : List (VTgt × Option Nat)} (k : State → Out)
    (ports : ∀ n, .vreg n ∈ rd ∨ (∃ l, (.vreg n, l) ∈ wr) → (s.res h).portBind n = 0)
    (gap : (s.res h).check = false ∨ (∀ t ∈ rd, s.uncovered h t = false) ∧ ∀ t ∈ wr, s.uncovered h t.1 = false)
    (hx : (s.settled h).waitHolds h x = true) (u : Unhindered s (.task h .v)) :
    vReady Rp.none h false [x] rd wr s k = k ((s.settled h).waited (.task h .v)) := by
  rw [vReady_settled k (List.cons_ne_nil _ _) ports gap, if_neg Bool.false_ne_true]
  have passes := waitOp_passes (w := .task h .v) (p := fun u => vPorts h [] u fun u => k (u.modRes h id)) (k := fun u => vPorts h [] u fun u => k (u.modRes h id)) hx (unhindered_settled u)
  rw [vPorts, passes]
  show k (State.setRes _ h (State.res _ h)) = k _
  rw [waited_settled, State.res_setRes, State.setRes_setRes]

/-! ## Listed accesses -/

/-- An access whose counter has room is listed and counted (R29). -/
theorem beginVOp_of {s : State} {v : VOp} (room : ∀ k, v.ctr = some k → fget (0 : BitVec 6) (s.res v.h).wcnt k ≠ 63) :
    s.beginVOp v = ({ s with vops := s.vops ++ [{ v with id := s.nextId }], nextId := s.nextId + 1 } : State).setRes v.h ((s.res v.h).countUp v.ctr) := by
  obtain ⟨_, h, _, ctr, _⟩ := v
  cases ctr with
  | none => rfl
  | some k =>
    have n : fget (0 : BitVec 6) (s.res h).wcnt k ≠ 63 := room k rfl
    unfold State.beginVOp
    simp only [n, decide_false]
    rfl

theorem ctrOf_eq_some {c : BitVec 3} {k : Nat} : ctrOf c = some k ↔ c.toNat ≤ 5 ∧ c.toNat = k := by
  unfold ctrOf
  split <;> simp_all

/-- A counter below 63 keeps no access waiting. -/
theorem counterWait_nil {s : State} {h : Nat} {c : Option Nat} (room : ∀ k, c = some k → fget (0 : BitVec 6) (s.res h).wcnt k ≠ 63) : s.counterWait h c = [] := by
  unfold State.counterWait
  split
  · next k => exact if_neg (room k rfl)
  · rfl

theorem Resident.wcnt_countUp (r : Resident) (c : BitVec 3) : (r.countUp (ctrOf c)).wcnt =
    if c.toNat ≤ 5 then fput r.wcnt c.toNat (fget (0 : BitVec 6) r.wcnt c.toNat + 1) else r.wcnt := by
  unfold ctrOf
  split <;> rfl

theorem Resident.vregs_countUp (r : Resident) (c : Option Nat) : (r.countUp c).vregs = r.vregs := by cases c <;> rfl
theorem Resident.v_countUp (r : Resident) (c : Option Nat) : (r.countUp c).v = r.v := by cases c <;> rfl

theorem fget_map_keyed {α : Type} {d : α} {l : List Nat} {f : Nat → α} {i : Nat} (hi : i ∈ l) : fget d (l.map (fun j => (j, f j))) i = f i := by
  induction l with
  | nil => cases hi
  | cons a l ih =>
    rw [List.map_cons, fget]
    split
    · next e => exact congrArg f e
    · next n => exact ih ((List.mem_cons.mp hi).resolve_left (Ne.symm n))

/-! ## Slab rows -/

theorem slabClaimed_settled (s : State) (h t z : Nat) : (s.settled h).slabClaimed t z = s.slabClaimed t z := by
  have dp : ∀ k, ((s.settled h).res k).dp = (s.res k).dp := fun k => by
    by_cases e : k = h
    · have := (s.res h).landed_settle
      rw [Resident.Landed] at this
      rw [e, res_settled, this]
    · rw [State.settled, State.modRes_eq, State.res_setRes_other _ _ e]
  unfold State.slabClaimed
  simp only [dp]

/-- The wait of a slab row access holds (R189, R198). -/
theorem waitHolds_slab {s : State} {h z : Nat} {load : Bool} (full : s.slabFull (hTile h) z = load) (free : s.slabClaimed (hTile h) z = false) :
    (s.settled h).waitHolds h (if load then Wait.slabFull z true else .slabEmpty z true) = true := by
  have f : (s.settled h).slabFull (hTile h) z = load := full
  cases load <;> simp [State.waitHolds, f, slabClaimed_settled, free]

/-- A slab row access that its state admits is listed and counted; nothing else of the machine differs (R189). -/
theorem vSlab_lists {s : State} {h : Nat} {load change : Bool} {g : BitVec 2} {d : BitVec 7} {z row : BitVec 5} {c : BitVec 3} (turn : s.who = some (.task h .v))
    (port : (s.res h).portBind d.toNat = 0) (gap : (s.res h).check = false ∨ s.uncovered h (.vreg d.toNat) = false)
    (room : c.toNat ≤ 5 → fget (0 : BitVec 6) (s.res h).wcnt c.toNat ≠ 63) (ok : (s.res h).slabOk z.toNat = true) (u : Unhindered s (.task h .v))
    (full : s.slabFull (hTile h) z.toNat = load) (unclaimed : s.slabClaimed (hTile h) z.toNat = false) :
    ∃ t v, vSlab load g d z c change row s = .next t ∧ v = ({ (((s.settled h).waited (.task h .v)).newVOp h (ctrOf c) load false d.toNat (.slab z.toNat row.toNat change)) with
        id := s.nextId, todo := allLanes, all := allLanes, addrs := (List.range 128).map (fun i => (i, 128 * row.toNat + i)) } : VOp) ∧
      VectorIssues h g ((((s.settled h).waited (.task h .v)).res h).countUp (ctrOf c))
        { (s.settled h).waited (.task h .v) with vops := s.vops ++ [v], nextId := s.nextId + 1 } t := by
  have wcnt : ∀ (q : Resident) (k : Nat), ctrOf c = some k → q.wcnt = (s.res h).wcnt → fget (0 : BitVec 6) q.wcnt k ≠ 63 := fun q k e same => by
    obtain ⟨le, rfl⟩ := ctrOf_eq_some.mp e
    rw [same]
    exact room le
  have nowait : s.counterWait h (ctrOf c) = [] := counterWait_nil fun k e => wcnt _ k e rfl
  let u := (s.settled h).waited (.task h .v)
  have same : (u.res h).wcnt = (s.res h).wcnt := by
    have := (s.res h).landed_settle
    rw [Resident.Landed] at this
    show (((s.settled h).waited (.task h .v)).res h).wcnt = _
    rw [waited_settled, State.res_setRes, this]
  have run : vSlab load g d z c change row s = .next (vNext Rp.none h g.toNat ((u.beginVOp { (u.newVOp h (ctrOf c) load false d.toNat (.slab z.toNat row.toNat change)) with
      todo := allLanes, all := allLanes, addrs := (List.range 128).map (fun i => (i, 128 * row.toNat + i)) }).fresh1)) := by
    unfold vSlab
    rw [onVec_of _ turn, nowait, ok]
    refine vReady_waits _ (fun n hn => ?_) (gap.imp_right fun unc => ?_) (waitHolds_slab full unclaimed) ‹_›
    · have : n = d.toNat := by cases load <;> simp at hn <;> exact hn
      exact this ▸ port
    · cases load <;> simp [unc]
  refine ⟨_, _, run, rfl, ?_⟩
  rw [beginVOp_of (fun k e => wcnt _ k e same)]
  exact vNext_issues _ h g _

/-- Outside SLABWIN a slab row access raises state-use (R16). -/
theorem vSlab_outside {s : State} {h : Nat} {load change : Bool} {g : BitVec 2} {d : BitVec 7} {z row : BitVec 5} {c : BitVec 3} (turn : s.who = some (.task h .v))
    (port : (s.res h).portBind d.toNat = 0) (gap : (s.res h).check = false ∨ s.uncovered h (.vreg d.toNat) = false) (no : (s.res h).slabOk z.toNat = false) :
    vSlab load g d z c change row s = .next ((s.settled h).stateUse (.task h .v)) := by
  unfold vSlab
  rw [onVec_of _ turn, no]
  refine (vReady_settled _ (by simp) (fun n hn => ?_) (gap.imp_right fun unc => ?_)).trans (if_pos rfl)
  · have : n = d.toNat := by cases load <;> simp at hn <;> exact hn
    exact this ▸ port
  · cases load <;> simp [unc]

end Sys2Proof.Machine
end

section
/-!
The lanes of a vector access (R183 to R185, R191): their checks, the set they make, and the remote operations and accesses in flight that they join.
-/

namespace Sys2Proof.Machine
open Sys2Proof

/-! ## Lanes -/

theorem checkLanes_ok {chk : Nat → LaneChk} {t : Nat → Target} {l : List Nat} (h : ∀ i ∈ l, chk i = .ok (t i)) :
    checkLanes chk l = (l.map (fun i => (i, t i)), none) := by
  induction l with
  | nil => rfl
  | cons a l ih => simp [checkLanes, h a List.mem_cons_self, ih fun i hi => h i (List.mem_cons_of_mem _ hi)]

theorem getLsbD_laneSet (l : List Nat) (i : Nat) (hi : i < 128) : (laneSet l).getLsbD i = decide (i ∈ l) := by
  have fold : ∀ (l : List Nat) (m : BitVec 128), (l.foldl (fun m i => m ||| ((1 : BitVec 128) <<< i)) m).getLsbD i = (m.getLsbD i || decide (i ∈ l)) := fun l => by
    induction l with
    | nil => simp
    | cons a l ih =>
      intro m
      have one : ((1 : BitVec 128) <<< a).getLsbD i = decide (i = a) := by
        show ((1#128) <<< a).getLsbD i = _
        rw [BitVec.getLsbD_shiftLeft, BitVec.getLsbD_one]
        by_cases e : i = a
        · subst e
          simp [hi]
        · have : i < a ∨ ¬ i - a = 0 := by omega
          simp [hi, e]
          omega
      rw [List.foldl_cons, ih, BitVec.getLsbD_or, one, Bool.or_assoc]
      by_cases e : i = a <;> simp [e]
  rw [laneSet, fold]
  simp

/-- The lanes of a mask make that mask. -/
theorem laneSet_lanes (m : BitVec 128) : laneSet ((List.range 128).filter (fun i => m.getLsbD i)) = m := by
  refine BitVec.eq_of_getLsbD_eq fun i hi => ?_
  rw [getLsbD_laneSet _ _ hi]
  simp [hi]

theorem laneSet_all {l : List Nat} (h : ∀ i, i < 128 → i ∈ l) : laneSet l = allLanes := by
  refine BitVec.eq_of_getLsbD_eq fun i hi => ?_
  rw [getLsbD_laneSet _ _ hi, allLanes, BitVec.getLsbD_allOnes]
  simp [hi, h i hi]

/-! ## What the lanes of an access change -/

/-- While its lanes issue, of the machine only the accesses and operations under way differ, and of residents the program's own counters and serials. -/
structure Issuing (h : Nat) (s t : State) : Prop where
  rest : t = { s with residents := t.residents, vops := t.vops, gaccs := t.gaccs, routs := t.routs, requests := t.requests, nextId := t.nextId }
  own : t.res h = { s.res h with wcnt := (t.res h).wcnt, seqs := (t.res h).seqs, kept := (t.res h).kept }
  others : ∀ k, k ≠ h → t.res k = s.res k

theorem Issuing.refl (h : Nat) (s : State) : Issuing h s s := ⟨rfl, rfl, fun _ _ => rfl⟩

theorem Issuing.trans {h : Nat} {s t u : State} (a : Issuing h s t) (b : Issuing h t u) : Issuing h s u :=
  ⟨by rw [b.rest, a.rest], by rw [b.own, a.own], fun k n => (b.others k n).trans (a.others k n)⟩

theorem issuing_setRes {h : Nat} {s : State} {r : Resident} (e : r = { s.res h with wcnt := r.wcnt, seqs := r.seqs, kept := r.kept }) : Issuing h s (s.setRes h r) :=
  ⟨rfl, by rw [State.res_setRes]; exact e, fun _ n => State.res_setRes_other _ _ n⟩

theorem Issuing.asidOf {h : Nat} {s t : State} (a : Issuing h s t) (e : Eng) : t.asidOf (.task h e) = s.asidOf (.task h e) := by
  show (t.res h).asid = (s.res h).asid
  rw [a.own]

theorem Issuing.translate {h : Nat} {s t : State} (a : Issuing h s t) (l : Tlb) (asid : BitVec 14) (cls va : Nat) (k : Acc) (q : Bool) :
    t.translate l asid cls va k q = s.translate l asid cls va k q := by
  rw [a.rest]
  rfl

theorem Issuing.classOf {h : Nat} {s t : State} (a : Issuing h s t) (asid : BitVec 14) : t.classOf asid = s.classOf asid := by
  rw [a.rest]
  rfl

/-- While lanes issue, what translates to begin with still does. -/
theorem Issuing.translates {h : Nat} {s t : State} (a : Issuing h s t) {va : Nat} {k : Acc} {q : Bool} {tgt : Target} {leaf : BitVec 64} (hk : k ≠ .store)
    (ok : Translates s (.task h .v) va k q tgt leaf) : Translates t (.task h .v) va k q tgt leaf := by
  refine ⟨?_, if_pos hk⟩
  rw [a.translate, a.asidOf]
  show s.translate _ _ (t.classOf (t.asidOf (.task h .v))) _ _ _ = _
  rw [a.classOf, a.asidOf]
  exact ok.1

theorem issuing_begin {s : State} {v : VOp} (room : ∀ k, v.ctr = some k → fget (0 : BitVec 6) (s.res v.h).wcnt k ≠ 63) : Issuing v.h s (s.beginVOp v) := by
  rw [beginVOp_of room]
  refine ⟨rfl, ?_, fun _ n => State.res_setRes_other _ _ n⟩
  rw [State.res_setRes]
  cases v.ctr <;> rfl

/-- A program's serials are taken or kept: nothing else of the machine differs (R349, R351). -/
structure Numbering (h : Nat) (s t : State) : Prop where
  rest : t = { s with residents := t.residents }
  own : t.res h = { s.res h with seqs := (t.res h).seqs, kept := (t.res h).kept }
  others : ∀ k, k ≠ h → t.res k = s.res k

theorem Numbering.refl (h : Nat) (s : State) : Numbering h s s := ⟨rfl, rfl, fun _ _ => rfl⟩

theorem Numbering.trans {h : Nat} {s t u : State} (a : Numbering h s t) (b : Numbering h t u) : Numbering h s u :=
  ⟨by rw [b.rest, a.rest], by rw [b.own, a.own], fun k n => (b.others k n).trans (a.others k n)⟩

theorem Numbering.issuing {h : Nat} {s t : State} (a : Numbering h s t) : Issuing h s t :=
  ⟨by rw [a.rest], by rw [a.own], a.others⟩

theorem numbering_setRes {h : Nat} {s : State} {r : Resident} (e : r = { s.res h with seqs := r.seqs, kept := r.kept }) : Numbering h s (s.setRes h r) :=
  ⟨rfl, by rw [State.res_setRes]; exact e, fun _ n => State.res_setRes_other _ _ n⟩

theorem numbering_ite (c : Bool) (s : State) (h : Nat) (pkg : BitVec 10) (x : SeqState) : Numbering h s (if c then s.setSeqFor (.task h) pkg x else s) := by
  cases c
  · exact .refl h s
  · exact numbering_setRes rfl

theorem numbering_noteReq (s : State) (h : Nat) (pkg : BitVec 10) (q : RReq) : Numbering h s (s.noteReq (.task h) pkg q) :=
  (numbering_ite q.ct.isSome s h pkg _).trans (numbering_ite q.serial.isSome _ h pkg _)

/-- A program's remote operation joins those under way; a numbered one takes a serial (R253, R349). -/
theorem issueRemote_task (s : State) (h : Nat) (e : Eng) (t : Target) (va : Nat) (op : ROp) (op0 op1 : BitVec 128) (dest : RDest) (serial : Bool) (scope : BitVec 3) (leave : Leave) :
    ∃ o : ROut, Issuing h s (s.issueRemote (.task h e) t va op op0 op1 dest serial scope leave) ∧
      (s.issueRemote (.task h e) t va op op0 op1 dest serial scope leave).routs = s.routs ++ [o] ∧
      (s.issueRemote (.task h e) t va op op0 op1 dest serial scope leave).requests = s.requests ++ [o.req] ∧
      (s.issueRemote (.task h e) t va op op0 op1 dest serial scope leave).vops = s.vops ∧
      o.va = va ∧ o.tgt = t ∧ o.owner = .task h ∧ o.path = (Who.task h e).path ∧ o.req.op = op ∧ o.req.op0 = op0 ∧ o.req.op1 = op1 ∧ o.status = none ∧ o.dest = dest ∧
      (serial = true → t.aper ≠ 3 → o.req.serial ≠ none) := by
  let w : Who := .task h e
  let pkg := s.ownerPkg t
  let ser := serial && decide (t.aper ≠ 3)
  let q := s.reqOf w.owner pkg (if t.aper = 2 then 7 else s.classOfWho w) t.pa op op0 op1 (if ser then some (s.serialOf w.owner (s.seqFor w.owner pkg).next) else none) scope
  let o := s.routOf w.owner w.path pkg dest va t (s.pcOf w) q leave
  let u := if ser then s.takeSeq (.task h) pkg else s
  let v := u.noteReq (.task h) pkg q
  have both : Numbering h s v := (numbering_ite ser s h pkg _).trans (numbering_noteReq u h pkg q)
  have last : Issuing h v { v with requests := v.requests ++ [q], routs := v.routs ++ [o], nextId := v.nextId + 1 } := ⟨rfl, rfl, fun _ _ => rfl⟩
  have eq : s.issueRemote w t va op op0 op1 dest serial scope leave = { v with requests := v.requests ++ [q], routs := v.routs ++ [o], nextId := v.nextId + 1 } := rfl
  refine ⟨o, eq ▸ both.issuing.trans last, ?_, ?_, ?_, rfl, rfl, rfl, rfl, rfl, rfl, rfl, rfl, rfl, fun hs ha => ?_⟩
  · rw [eq, both.rest]
  · rw [eq, both.rest]; rfl
  · rw [eq, both.rest]
  · have ha : ¬ t.aper = 3#3 := ha
    have : ser = true := by simp [ser, hs, ha]
    show (if ser then some _ else none) ≠ none
    rw [this]
    exact Option.some_ne_none _

/-! ## VAMO -/

/-- The operation that one lane or element of VAMO sends (R191, R252). -/
structure VamoSends (h id wd : Nat) (hd : BitVec 5) (addr : Nat → Word) (vd : VReg) (it : Nat × Target) (o : ROut) : Prop where
  va : o.va = (addr it.1).toNat
  tgt : o.tgt = it.2
  owner : o.owner = .task h
  path : o.path = 1
  op : o.req.op = .handler hd wd
  op1 : o.req.op1 = 0
  status : o.status = none
  dest : o.dest = .lane id (wd / 4 * it.1) wd (decide (hd ≠ 20))
  op0 : o.req.op0 = if wd = 8 then (elem vd it.1).setWidth 128 else (lane vd it.1).setWidth 128
  serial : hd ≠ 23 → it.2.aper ≠ 3 → o.req.serial ≠ none

/-- One lane of VAMO issues. -/
def State.vamoLane (h id wd : Nat) (hd : BitVec 5) (addr : Nat → Word) (vd : VReg) (s : State) (it : Nat × Target) : State :=
  (s.touchTlb (Who.task h .v).tlb (s.asidOf (.task h .v)) (addr it.1).toNat (remoteAcc hd.toNat false)).issueRemote (.task h .v) it.2 (addr it.1).toNat (.handler hd wd)
    (if wd = 8 then (elem vd it.1).setWidth 128 else (lane vd it.1).setWidth 128) 0 (.lane id (wd / 4 * it.1) wd (decide (hd ≠ 20))) (hd != 23) 0 .free

theorem remoteAcc_ne_store (hd : Nat) : remoteAcc hd false ≠ .store := by
  unfold remoteAcc
  split <;> simp

/-- The lanes of VAMO whose translations are held each send one operation, in their order (R191). -/
theorem foldl_vamoLane (h id wd : Nat) (hd : BitVec 5) (addr : Nat → Word) (vd : VReg) (l : List (Nat × Target)) (s : State)
    (ok : ∀ it ∈ l, ∃ q leaf, Translates s (.task h .v) (addr it.1).toNat (remoteAcc hd.toNat false) q it.2 leaf) :
    ∃ os, Issuing h s (l.foldl (State.vamoLane h id wd hd addr vd) s) ∧ (l.foldl (State.vamoLane h id wd hd addr vd) s).routs = s.routs ++ os ∧
      (l.foldl (State.vamoLane h id wd hd addr vd) s).requests = s.requests ++ os.map (·.req) ∧ (l.foldl (State.vamoLane h id wd hd addr vd) s).vops = s.vops ∧
      os.length = l.length ∧ ∀ p ∈ l.zip os, VamoSends h id wd hd addr vd p.1 p.2 := by
  induction l generalizing s with
  | nil => exact ⟨[], .refl h s, by simp, by simp, rfl, rfl, by simp⟩
  | cons it l ih =>
    obtain ⟨q, leaf, hit⟩ := ok it List.mem_cons_self
    let op0 : BitVec 128 := if wd = 8 then (elem vd it.1).setWidth 128 else (lane vd it.1).setWidth 128
    have step : s.vamoLane h id wd hd addr vd it = s.issueRemote (.task h .v) it.2 (addr it.1).toNat (.handler hd wd) op0 0
        (.lane id (wd / 4 * it.1) wd (decide (hd ≠ 20))) (hd != 23) 0 .free := by
      unfold State.vamoLane
      rw [touchTlb_hit (w := .task h .v) (remoteAcc_ne_store _) hit]
    obtain ⟨o, iss, routs, requests, vops, va, tgt, owner, path, op, ho0, op1, status, dest, serial⟩ := issueRemote_task s h .v it.2 (addr it.1).toNat (.handler hd wd) op0 0
      (.lane id (wd / 4 * it.1) wd (decide (hd ≠ 20))) (hd != 23) 0 .free
    rw [← step] at iss routs requests vops
    obtain ⟨os, iss', routs', requests', vops', len, all⟩ := ih (s.vamoLane h id wd hd addr vd it) fun it' m => by
      obtain ⟨q, leaf, t⟩ := ok it' (List.mem_cons_of_mem _ m)
      exact ⟨q, leaf, iss.translates (remoteAcc_ne_store _) t⟩
    rw [List.foldl_cons]
    refine ⟨o :: os, iss.trans iss', ?_, ?_, vops'.trans vops, congrArg (· + 1) len, fun p hp => ?_⟩
    · rw [routs', routs, List.append_assoc]; rfl
    · rw [requests', requests, List.append_assoc]; rfl
    · rcases List.mem_cons.mp hp with rfl | hp
      · exact ⟨va, tgt, owner, path, op, op1, status, dest, ho0, fun n => serial (bne_iff_ne.mpr n)⟩
      · exact all p hp

/-- The state that an unprefixed vector instruction leaves when it goes on. -/
theorem vNext_frame (s : State) (h : Nat) (g : BitVec 2) :
    (Locally s (vNext Rp.none h g.toNat s) ∧ (∀ k, k ≠ h → (vNext Rp.none h g.toNat s).res k = s.res k) ∧ ∀ c, (vNext Rp.none h g.toNat s).svc c = s.svc c) ∧
      (vNext Rp.none h g.toNat s).res h = { s.res h with v := ((vNext Rp.none h g.toNat s).res h).v, vpos := (s.res h).vpos + 1 + g.toNat, lanesDone := 0, rep := 0, vctl := (s.res h).vctl &&& 1 } ∧
      ((vNext Rp.none h g.toNat s).res h).v.pc = (s.res h).v.pc + 4 ∧ ((vNext Rp.none h g.toNat s).res h).v.park = (s.res h).v.park ∧
      ((vNext Rp.none h g.toNat s).res h).v.wait = (s.res h).v.wait := by
  refine ⟨⟨rfl, ?_, fun c => rfl⟩, ?_, ?_, ?_, ?_⟩
  · intro k hk
    simp [vNext, State.issued, State.countTile, State.res_setRes_other, hk]
  all_goals simp [vNext, State.issued, State.countTile, Resident.setPrg, Resident.prg, Rp.none, Resident.setRepIdx]

theorem vNext_over (s : State) (h : Nat) (g : BitVec 2) : VectorIssues h g (s.res h) s (vNext Rp.none h g.toNat s.fresh1) := vNext_frame s.fresh1 h g

theorem Locally.vops {s t : State} (h : Locally s t) : t.vops = s.vops := by rw [h]
theorem Locally.requests {s t : State} (h : Locally s t) : t.requests = s.requests := by rw [h]

/-- A lane of VAMO that is aligned and translated, with the rights the handler needs, is checked ok (R191, R253). -/
theorem laneRemote_ok {s : State} {h hd wd : Nat} {a : Word} {t : Target} {leaf : BitVec 64} (al : a.toNat % wd = 0)
    (tr : ∀ b, Translates s (.task h .v) a.toNat (remoteAcc hd false) b t leaf) (ok : remoteLeafOk hd t leaf = true) : s.laneRemote h hd wd a = .ok t := by
  have global : s.laneGlobal h (remoteAcc hd false) wd (decide (a.toNat % wd = 0)) a = .ok t := by
    unfold State.laneGlobal
    simp [al, (tr _).1, (tr false).2]
  unfold State.laneRemote
  simp [global, (tr true).1, ok]

theorem remoteLeafOk_of {hd : Nat} {t : Target} {leaf : BitVec 64} (rap : t.aper = 2 → leaf.getLsbD 10 = true)
    (pcie : t.aper = 3 → hd ∈ [0, 1, 15, 16, 17, 18, 19]) : remoteLeafOk hd t leaf = true := by
  unfold remoteLeafOk
  split
  · next e => exact rap e
  · split
    · next e => exact List.contains_iff_mem.mpr (pcie e)
    · rfl

/-- Beside what has landed, a landed state's resident is the program's. -/
theorem res_landed (s : State) (h : Nat) : (s.landed h).res h = (s.res h).landTo (s.res h).vpos := State.res_setRes ..

theorem res_landed_frame (s : State) (h : Nat) : (s.landed h).res h = { s.res h with
    vregs := ((s.landed h).res h).vregs, mregs := ((s.landed h).res h).mregs, rctl := ((s.landed h).res h).rctl, pend := ((s.landed h).res h).pend,
    staged := ((s.landed h).res h).staged, pushed := ((s.landed h).res h).pushed, vpos := ((s.landed h).res h).vpos } := by
  have := (s.res h).landed_landTo (s.res h).vpos
  rw [← res_landed] at this
  exact this

theorem seqFor_landed (s : State) (h : Nat) (p : BitVec 10) : (s.landed h).seqFor (.task h) p = s.seqFor (.task h) p := by
  have kept := res_landed_frame s h
  show fget SeqState.start ((s.landed h).res h).seqs _ = fget SeqState.start (s.res h).seqs _
  rw [kept]

theorem kread_landed (s : State) (h k : Nat) : (s.landed h).kread h k = s.kread h k := by
  have kept := res_landed_frame s h
  show fget (0 : Word) ((s.landed h).res h).kregs k = _
  rw [kept]
  rfl

theorem remoteAcc_eq (hd : BitVec 5) : remoteAcc hd.toNat false = if hd = 23 then .read23 else .atomic := by
  by_cases e : hd = 23
  · rw [if_pos e, e]; rfl
  · have : hd.toNat ≠ 23 := fun n => e (BitVec.eq_of_toNat_eq n)
    rw [if_neg e]
    simp [remoteAcc, this]

/-- VAMO's elements are the lanes of its register. -/
theorem laneSet_elements {n : Nat} (hn : n = 1 ∨ n = 2) (f : Nat → Target) :
    laneSet (((List.range (128 / n)).map (fun i => (i, f i))).flatMap (fun it => (List.range n).map (fun j => n * it.1 + j))) = allLanes := by
  refine laneSet_all fun i hi => ?_
  have pos : 0 < n := by omega
  refine List.mem_flatMap.mpr ⟨(i / n, f (i / n)), List.mem_map.mpr ⟨i / n, List.mem_range.mpr ?_, rfl⟩, List.mem_map.mpr ⟨i % n, List.mem_range.mpr (Nat.mod_lt _ pos), Nat.div_add_mod i n⟩⟩
  rcases hn with rfl | rfl <;> omega

/-- The access that VAMO lists (R191). -/
def State.vamoOp (s : State) (h : Nat) (d : BitVec 7) (wc : BitVec 2) (step : Nat) (addr : Nat → Word) (oks : List (Nat × Target)) : VOp :=
  { s.newVOp h (some (vamoCtr wc)) true true d.toNat .global with
    todo := laneSet (oks.flatMap (fun it => (List.range step).map (fun j => step * it.1 + j)))
    all := laneSet (oks.flatMap (fun it => (List.range step).map (fun j => step * it.1 + j)))
    addrs := oks.flatMap (fun it => (List.range step).map (fun j => (step * it.1 + j, (addr it.1).toNat))) }

/-- VAMO over ready registers and lanes that all pass their checks: the access begins, its lanes issue, and the program goes on (R191). -/
theorem exec_vamo_of {s : State} {h : Nat} {d a : BitVec 7} {k hd : BitVec 5} {wc : BitVec 2} {tgt : Nat → Target}
    (ready : VectorReady s h [.vreg d.toNat, .vreg a.toNat] [(.vreg d.toNat, none)]) (first : (s.res h).lanesDone = 0)
    (width : s.handlerWidth hd.toNat = 4 ∨ s.handlerWidth hd.toNat = 8) (count : fget (0 : BitVec 6) (s.res h).wcnt (vamoCtr wc) ≠ 63) :
    let u := s.landed h
    let wd := s.handlerWidth hd.toNat
    let addr := fun i => u.kread h k.toNat + (lane (u.vread h a.toNat) (wd / 4 * i)).signExtend 64
    let oks := (List.range (128 / (wd / 4))).map (fun i => (i, tgt i))
    (∀ i, i < 128 / (wd / 4) → u.laneRemote h hd.toNat wd (addr i) = .ok (tgt i) ∧ u.serialRoomN (.task h .v) (u.ownerPkg (tgt i)) (128 / (wd / 4)) = true) →
    exec (.vamo d a k hd wc) s = .next (vNext Rp.none h 0
      (oks.foldl (State.vamoLane h s.nextId wd hd addr (u.vread h d.toNat)) (u.beginVOp (u.vamoOp h d wc (wd / 4) addr oks))).fresh1) := by
  intro u wd addr oks ok
  have done : (u.res h).lanesDone = 0 := by rw [res_landed_frame]; exact first
  have lanes : (List.range (128 / (wd / 4))).filter (fun i => decide ((u.res h).lanesDone ≤ i)) = List.range (128 / (wd / 4)) :=
    List.filter_eq_self.mpr fun i _ => by simp [done]
  have chk : checkLanes (fun i => u.laneRemote h hd.toNat wd (addr i)) (List.range (128 / (wd / 4))) = (oks, none) :=
    checkLanes_ok fun i hi => (ok i (List.mem_range.mp hi)).1
  have room : oks.all (fun it => u.serialRoomN (.task h .v) (u.ownerPkg it.2) oks.length) = true := List.all_eq_true.mpr fun it hit => by
    obtain ⟨i, hi, rfl⟩ := List.mem_map.mp hit
    rw [List.length_map, List.length_range]
    exact (ok i (List.mem_range.mp hi)).2
  have su : (decide (wd = 0) || decide (wd = 16)) = false := by
    have : wd = 4 ∨ wd = 8 := width
    rcases this with e | e <;> simp [e]
  have nowait : s.counterWait h (some (vamoCtr wc)) = [] := counterWait_nil fun k e => by cases e; exact count
  rw [exec_vamo, execVamo, onVec_of _ ready.1]
  dsimp only
  rw [su, nowait]
  refine (vReady_of _ ready).trans ?_
  rw [lanes, chk, room]
  rfl

/-! ## WAITC -/

/-- WAITC whose counter is at its bound passes, and uncovers what it covers (R190). -/
theorem exec_waitc_of {s : State} {h : Nat} {g : BitVec 2} {c : BitVec 3} {n : BitVec 6} (turn : s.who = some (.task h .v))
    (bound : (fget (0 : BitVec 6) (s.res h).wcnt c.toNat).toNat ≤ n.toNat) (u : Unhindered s (.task h .v)) (fine : ∀ v ∈ s.covered h c.toNat n.toNat, v.fault = none) :
    exec (.waitc g c n) s = .next (vNext Rp.none h g.toNat { (s.settled h).waited (.task h .v) with
      vops := s.vops.filter (fun v => !(s.covered h c.toNat n.toNat).any (fun x => x.id == v.id)) }) := by
  have holds : (s.settled h).waitHolds h (.counter c.toNat n.toNat) = true := by
    have e := (s.res h).landed_settle
    rw [Resident.Landed] at e
    show decide ((fget (0 : BitVec 6) ((s.settled h).res h).wcnt c.toNat).toNat ≤ n.toNat) = true
    rw [res_settled, e]
    exact decide_eq_true bound
  have none_ : (s.covered h c.toNat n.toNat).find? (fun v => decide (v.fault ≠ none)) = none := List.find?_eq_none.mpr fun v hv => by simp [fine v hv]
  rw [exec_waitc, execWaitc, onVec_of _ turn, vReady_waits _ (by simp) (.inr (by simp)) holds u]
  have same : ((s.settled h).waited (.task h .v)).covered h c.toNat n.toNat = s.covered h c.toNat n.toNat := by rw [waited_settled]; rfl
  have vops : ((s.settled h).waited (.task h .v)).vops = s.vops := by rw [waited_settled]; rfl
  dsimp only
  rw [same, none_, vops]

end Sys2Proof.Machine

open Sys2Proof Sys2Proof.Machine

/-- Settles O38: a slab row access and WAITC begin with a wait, VAMO sends its lanes' operations in their order. -/
theorem vectorSlabsCountersAtomics : Obligations.VectorSlabsCountersAtomics := by
  intro s h g d a z c ch row n k hd wc tgt leaf w se listed free turn
  have landed := (s.res h).landed_settle
  rw [Resident.Landed] at landed
  let x := (s.settled h).waited w
  have hx : x = s.setRes h { (s.res h).settle with v := { (s.res h).settle.v with blk := 0, bnd := false } } := waited_settled s h
  have xres : x.res h = { (s.res h).settle with v := { (s.res h).settle.v with blk := 0, bnd := false } } := by rw [hx, State.res_setRes]
  have seRes : se.res h = (s.res h).settle := res_settled s h
  refine ⟨fun ⟨port, gap, room⟩ ok u => ?_, fun ⟨port, gap, room⟩ no => ?_, fun bound u fine => ?_, ?_⟩
  · have lists : ∀ load, s.slabFull (hTile h) z.toNat = load → s.slabClaimed (hTile h) z.toNat = false →
        ∃ t, vSlab load g d z c (decide (ch = 1)) row s = .next t ∧ listed load t := fun load full unclaimed => by
      obtain ⟨t, v, run, hv, ⟨loc, -, -⟩, own, pc, -⟩ := vSlab_lists (g := g) (d := d) (z := z) (row := row) (c := c) (change := decide (ch = 1)) turn port gap room ok u full unclaimed
      have base : ∀ y : State, Locally { ({ x with vops := s.vops ++ [v], nextId := s.nextId + 1 } : State) with fresh := x.fresh + 1 } y → y.tiles = s.tiles ∧ y.mem = s.mem ∧ y.gaccs = s.gaccs := fun y e => by
        rw [e, hx]
        exact ⟨rfl, rfl, rfl⟩
      obtain ⟨tiles, mem, gaccs⟩ := base t loc
      refine ⟨t, run, v, loc.vops, by rw [hv]; rfl, by rw [hv]; rfl, by rw [hv]; rfl, by rw [hv]; rfl, by rw [hv], by rw [hv]; rfl, fun i hi => ?_, fun _ => ?_, tiles, mem, gaccs, ?_, ?_, ?_⟩
      · rw [hv]
        exact fget_map_keyed (List.mem_range.mpr hi)
      · rw [hv]
        show x.vread h d.toNat = se.vread h d.toNat
        unfold State.vread
        rw [xres, seRes, hx]
        rfl
      · rw [pc, Resident.v_countUp]
        show (x.res h).v.pc + 4 = _
        rw [xres, landed]
      · rw [own]
        show (Resident.countUp (x.res h) _).vregs = _
        rw [Resident.vregs_countUp, xres, seRes]
      · rw [own]
        show (Resident.countUp (x.res h) _).wcnt = _
        rw [Resident.wcnt_countUp, xres, landed]
    exact ⟨lists true, lists false⟩
  · exact ⟨vSlab_outside turn port gap no, vSlab_outside turn port gap no⟩
  · obtain ⟨⟨loc, -, -⟩, own, pc, -⟩ := vNext_frame { x with vops := s.vops.filter (fun v => !(s.covered h c.toNat n.toNat).any (fun x => x.id == v.id)) } h g
    refine ⟨_, exec_waitc_of turn bound u fine, loc.vops, ?_, ?_, ?_, loc.tiles.trans ?_, loc.mem.trans ?_⟩
    · rw [pc]
      show (x.res h).v.pc + 4 = _
      rw [xres, landed]
    · rw [own]
      show (x.res h).vregs = _
      rw [xres, seRes]
    · rw [own]
      show (x.res h).wcnt = _
      rw [xres, landed]
    · show x.tiles = _
      rw [hx]
      rfl
    · show x.mem = _
      rw [hx]
      rfl
  · intro u wd cnt step addr ready first width count ok
    have kept := res_landed_frame s h
    have addr_eq : addr = fun i => u.kread h k.toNat + (lane (u.vread h a.toNat) (step * i)).signExtend 64 := by
      funext i
      show BitVec.ofInt 64 ((s.kread h k.toNat).toInt + _) = _
      rw [ofInt_add_toInt, ← kread_landed]
      rfl
    have acc := remoteAcc_eq hd
    let oks := (List.range (128 / step)).map (fun i => (i, tgt i))
    have checked : ∀ i, i < 128 / step → u.laneRemote h hd.toNat wd (addr i) = .ok (tgt i) ∧ u.serialRoomN w (u.ownerPkg (tgt i)) (128 / step) = true := fun i hi => by
      obtain ⟨al, tr, rap, pcie, serials⟩ := ok i hi
      refine ⟨laneRemote_ok al (fun b => acc ▸ tr b) (remoteLeafOk_of rap pcie), decide_eq_true ?_⟩
      have : u.seqFor w.owner (u.ownerPkg (tgt i)) = s.seqFor w.owner (if (tgt i).aper = 2 then (tgt i).peer else s.pkgId) := seqFor_landed ..
      rw [this]
      exact serials
    have run := exec_vamo_of (tgt := tgt) ready first width count (by rw [addr_eq] at checked; exact checked)
    rw [← addr_eq] at run
    let v0 := u.vamoOp h d wc step addr oks
    have room : ∀ j, v0.ctr = some j → fget (0 : BitVec 6) (u.res v0.h).wcnt j ≠ 63 := fun j e => by
      cases e
      show fget (0 : BitVec 6) (u.res h).wcnt cnt ≠ 63
      rw [kept]
      exact count
    have begun : Issuing h u (u.beginVOp v0) := issuing_begin room
    obtain ⟨os, iss, routs, requests, vops, len, sends⟩ := foldl_vamoLane h s.nextId wd hd addr (u.vread h d.toNat) oks (u.beginVOp v0) fun it hit => by
      obtain ⟨i, hi, rfl⟩ := List.mem_map.mp hit
      exact ⟨false, leaf i, begun.translates (remoteAcc_ne_store _) (acc ▸ (ok i (List.mem_range.mp hi)).2.1 false)⟩
    let y := oks.foldl (State.vamoLane h s.nextId wd hd addr (u.vread h d.toNat)) (u.beginVOp v0)
    obtain ⟨t, goes, ⟨loc, -, -⟩, own, pc, -⟩ : ∃ t, exec (.vamo d a k hd wc) s = .next t ∧ VectorIssues h 0 (y.res h) y t := ⟨_, run, vNext_over y h 0⟩
    have all : Issuing h u y := begun.trans iss
    have step12 : step = 1 ∨ step = 2 := by
      have : wd = 4 ∨ wd = 8 := width
      rcases this with e | e <;> simp [step, e]
    have listed : u.beginVOp v0 = ({ u with vops := u.vops ++ [{ v0 with id := u.nextId }], nextId := u.nextId + 1 } : State).setRes h ((u.res h).countUp v0.ctr) := beginVOp_of room
    refine ⟨t, goes, { v0 with id := u.nextId }, os, ?_, rfl, rfl, rfl, rfl, laneSet_elements step12 tgt, rfl, ?_, ?_, ?_, fun p hp => ?_, ?_, ?_, ?_, ?_⟩
    · exact loc.vops.trans (vops.trans (by rw [listed]; rfl))
    · exact loc.routs.trans (routs.trans (by rw [listed]; rfl))
    · rw [len, List.length_map, List.length_range]
    · exact loc.requests.trans (requests.trans (by rw [listed]; rfl))
    · have mem : ((p.1, tgt p.1), p.2) ∈ oks.zip os := by
        rw [List.zip_map_left]
        exact List.mem_map.mpr ⟨p, hp, rfl⟩
      obtain ⟨va, tgt', owner, path, op, op1, status, dest, op0, serial⟩ := sends _ mem
      exact ⟨va, tgt', owner, path, op, op1, status, dest, op0, serial⟩
    · exact loc.mem.trans (by rw [all.rest]; rfl)
    · exact loc.tiles.trans (by rw [all.rest]; rfl)
    · rw [own]
      show (y.res h).vregs = _
      rw [all.own]
    · rw [pc, all.own]
      show (u.res h).v.pc + 4 = _
      rw [kept]

end

section
/-!
The accesses of a vector program in flight (R183 to R185): what a translation's use changes, and the lanes of a global access.
-/

namespace Sys2Proof.Machine
open Sys2Proof

/-! ## The use of a translation -/

/-- The use of a translation changes the translation units, the entry's D bit with its line, and no other part of the machine (R298, R300). -/
structure Touched (s t : State) : Prop where
  rest : t = { s with mem := t.mem, tiles := t.tiles, stlbs := t.stlbs, walks := t.walks, counters := t.counters, directory := t.directory }
  tile : ∀ j, t.tile j = { s.tile j with tlb := (t.tile j).tlb }

theorem Touched.refl (s : State) : Touched s s := ⟨rfl, fun _ => rfl⟩

theorem Touched.trans {s t u : State} (a : Touched s t) (b : Touched t u) : Touched s u :=
  ⟨by rw [b.rest, a.rest], fun j => by rw [b.tile, a.tile]⟩

theorem touched_setTile (s : State) {i : Nat} {x : Tile} (e : x = { s.tile i with tlb := x.tlb }) : Touched s (s.setTile i x) := by
  refine ⟨rfl, fun j => ?_⟩
  by_cases n : j = i
  · rw [n, State.tile_setTile]; exact e
  · rw [State.tile_setTile_other _ _ n]

theorem touched_tlbDrop (s : State) (l : Tlb) (x : TlbEntry) : Touched s (s.tlbDrop l x) := by
  cases l with
  | tile t => exact touched_setTile s rfl
  | quad q => exact ⟨rfl, fun _ => rfl⟩

theorem touched_tlbFill (s : State) (l : Tlb) (x : TlbEntry) : Touched s (s.tlbFill l x) := by
  cases l with
  | tile t => exact touched_setTile s rfl
  | quad q => exact ⟨rfl, fun _ => rfl⟩

theorem touched_addWalk (s : State) (l : Tlb) (asid : BitVec 14) (va : Nat) : Touched s (s.addWalk l asid va) := by
  unfold State.addWalk
  dsimp only
  split
  · exact ⟨rfl, fun _ => rfl⟩
  · split
    · cases l <;> exact ⟨rfl, fun _ => rfl⟩
    · exact .refl s

theorem touched_setEntryBits (s : State) (pa : Nat) (bits : BitVec 64) : Touched s (s.setEntryBits pa bits) := ⟨rfl, fun _ => rfl⟩

theorem touched_touchTlb (s : State) (l : Tlb) (asid : BitVec 14) (va : Nat) (a : Acc) : Touched s (s.touchTlb l asid va a) := by
  unfold State.touchTlb
  split
  · exact .refl s
  · split
    · exact touched_addWalk ..
    · split
      · exact touched_tlbDrop ..
      · split
        · dsimp only
          split
          · exact (touched_setEntryBits s _ _).trans ((touched_tlbDrop _ l _).trans (touched_tlbFill _ l _))
          · exact (touched_tlbDrop s l _).trans (touched_tlbDrop _ _ _)
        · exact .refl s

/-- The state with other residents and other accesses under way: what no translation reads. -/
def State.reissue (s : State) (rs : FMap Resident) (vs : List VOp) (gs : List GAcc) (n : Nat) : State :=
  { s with residents := rs, vops := vs, gaccs := gs, nextId := n }

theorem walkFrom_reissue (s : State) (rs : FMap Resident) (vs : List VOp) (gs : List GAcc) (n va fuel lvl t : Nat) :
    (s.reissue rs vs gs n).walkFrom va fuel lvl t = s.walkFrom va fuel lvl t := by
  induction fuel generalizing lvl t with
  | zero => rfl
  | succ fuel ih =>
    unfold State.walkFrom
    simp only [ih]
    rfl

theorem walkBy_reissue (s : State) (rs : FMap Resident) (vs : List VOp) (gs : List GAcc) (n q : Nat) (asid : BitVec 14) (va : Nat) :
    (s.reissue rs vs gs n).walkBy q asid va = s.walkBy q asid va := by
  unfold State.walkBy State.walk
  simp only [walkFrom_reissue]
  rfl

theorem addWalk_reissue (s : State) (rs : FMap Resident) (vs : List VOp) (gs : List GAcc) (n : Nat) (l : Tlb) (asid : BitVec 14) (va : Nat) :
    (s.reissue rs vs gs n).addWalk l asid va = (s.addWalk l asid va).reissue rs vs gs n := by
  unfold State.addWalk
  have walks : (s.reissue rs vs gs n).walks = s.walks := rfl
  dsimp only
  rw [walks]
  split
  · rfl
  · split
    · cases l <;> rfl
    · rfl

/-- A translation's use does not depend on residents or on accesses under way, and leaves them. -/
theorem touchTlb_reissue (s : State) (rs : FMap Resident) (vs : List VOp) (gs : List GAcc) (n : Nat) (l : Tlb) (asid : BitVec 14) (va : Nat) (a : Acc) :
    (s.reissue rs vs gs n).touchTlb l asid va a = (s.touchTlb l asid va a).reissue rs vs gs n := by
  have find : (s.reissue rs vs gs n).tlbFind l asid va = s.tlbFind l asid va := rfl
  have drop : ∀ (u : State) (l : Tlb) (x : TlbEntry), (u.reissue rs vs gs n).tlbDrop l x = (u.tlbDrop l x).reissue rs vs gs n := fun u l x => by cases l <;> rfl
  have fill : ∀ (u : State) (l : Tlb) (x : TlbEntry), (u.reissue rs vs gs n).tlbFill l x = (u.tlbFill l x).reissue rs vs gs n := fun u l x => by cases l <;> rfl
  have bits : ∀ (pa : Nat) (b : BitVec 64), (s.reissue rs vs gs n).setEntryBits pa b = (s.setEntryBits pa b).reissue rs vs gs n := fun _ _ => rfl
  unfold State.touchTlb
  rw [find]
  split
  · rfl
  · split
    · exact addWalk_reissue ..
    · split
      · exact drop ..
      · split
        · rw [walkBy_reissue]
          dsimp only
          split
          · rw [bits, drop, fill]
          · rw [drop, drop]
        · rfl

/-! ## The lanes in flight -/

/-- An access of a task joins those in flight; a store to an RC page of another package takes a serial (R185, R349). -/
theorem pushGacc_task (s : State) {h : Nat} {g : GAcc} (owner : g.owner = .task h) :
    ∃ q u, Numbering h s u ∧ s.pushGacc g = ({ u with gaccs := s.gaccs ++ [{ g with id := s.nextId, serial := q, since := s.stamp }], nextId := s.nextId + 1 } : State) ∧
      (q ≠ none ↔ g.sequenced = true) ∧ (g.sequenced = false → u = s) := by
  unfold State.pushGacc
  dsimp only
  cases seq : g.sequenced with
  | false => exact ⟨none, s, .refl h s, rfl, by simp, fun _ => rfl⟩
  | true =>
    rw [if_pos rfl]
    split
    · next k q _ =>
      have unkept : Numbering h s (s.unkeep g k) := by
        unfold State.unkeep
        rw [owner]
        exact numbering_setRes rfl
      refine ⟨some q, s.unkeep g k, unkept, ?_, by simp, by simp⟩
      rw [unkept.rest]
    · have taken : Numbering h s (s.takeSeq g.owner g.tgt.peer) := by
        rw [owner]
        exact numbering_ite true s h _ _
      refine ⟨some (s.serialOf g.owner (s.seqFor g.owner g.tgt.peer).next), s.takeSeq g.owner g.tgt.peer, taken, ?_, by simp, by simp⟩
      rw [taken.rest]

/-- The access of one lane in flight (R183, R185). -/
structure LaneAccess (h vop : Nat) (load : Bool) (data : VReg) (addr : Nat → Word) (it : Nat × Target) (g : GAcc) : Prop where
  va : g.va = (addr it.1).toNat
  n : g.n = 4
  tgt : g.tgt = it.2
  isStore : g.isStore = !load
  owner : g.owner = .task h
  path : g.path = 1
  dest : g.dest = .lane vop it.1
  acq : g.acq = false
  rel : g.rel = false
  failed : g.failed = none
  data : load = false → g.data = leBytes 4 (lane data it.1).toNat
  serial : g.serial ≠ none ↔ load = false ∧ it.2.aper = 2 ∧ it.2.kind = 0

/-- What one lane makes of its access. -/
def State.laneAcc (s : State) (h vop : Nat) (load : Bool) (data : VReg) (addr : Nat → Word) (it : Nat × Target) : GAcc :=
  if load then mkLoad (.task h .v) s it.2 (addr it.1).toNat 4 false 0 (.lane vop it.1)
  else { mkStore (.task h .v) s it.2 (addr it.1).toNat (leBytes 4 (lane data it.1).toNat) false 0 false with dest := .lane vop it.1 }

/-- A lane uses its translation. -/
def State.touchLane (h : Nat) (load : Bool) (addr : Nat → Word) (s : State) (i : Nat) : State :=
  s.touchTlb (Who.task h .v).tlb (s.asidOf (.task h .v)) (addr i).toNat (if load then .load else .store)

/-- One lane of a global access issues. -/
def State.pushLane (h vop : Nat) (load : Bool) (data : VReg) (addr : Nat → Word) (s : State) (it : Nat × Target) : State :=
  (s.touchLane h load addr it.1).pushGacc ((s.touchLane h load addr it.1).laneAcc h vop load data addr it)

theorem pushLanes_eq (s : State) (h vop : Nat) (load : Bool) (data : VReg) (addr : Nat → Word) (l : List (Nat × Target)) :
    s.pushLanes h vop load data addr l = l.foldl (State.pushLane h vop load data addr) s := rfl

theorem laneAcc_sequenced (s : State) (h vop : Nat) (load : Bool) (data : VReg) (addr : Nat → Word) (it : Nat × Target) :
    (s.laneAcc h vop load data addr it).sequenced = true ↔ load = false ∧ it.2.aper = 2 ∧ it.2.kind = 0 := by
  cases load <;> simp [State.laneAcc, GAcc.sequenced, mkLoad, mkStore]

/-- What a lane's access is once it is in flight. -/
theorem laneAccess_of (s : State) (h vop : Nat) (load : Bool) (data : VReg) (addr : Nat → Word) (it : Nat × Target) {id : Nat} {since : Word} {q : Option Serial}
    (hq : q ≠ none ↔ load = false ∧ it.2.aper = 2 ∧ it.2.kind = 0) :
    LaneAccess h vop load data addr it { s.laneAcc h vop load data addr it with id := id, serial := q, since := since } := by
  cases load
  · exact ⟨rfl, leBytes_length 4 _, rfl, rfl, rfl, rfl, rfl, rfl, rfl, rfl, fun _ => rfl, hq⟩
  · exact ⟨rfl, rfl, rfl, rfl, rfl, rfl, rfl, rfl, rfl, rfl, nofun, hq⟩

/-- The state of a program whose lanes issue, beside the state that only uses their translations. -/
structure Alongside (h : Nat) (x y : State) : Prop where
  rest : x = y.reissue x.residents x.vops x.gaccs x.nextId
  asid : (x.res h).asid = (y.res h).asid

theorem touchLane_keeps (h : Nat) (load : Bool) (addr : Nat → Word) (s : State) (i : Nat) :
    Touched s (s.touchLane h load addr i) := touched_touchTlb ..

theorem Touched.residents {s t : State} (a : Touched s t) : t.residents = s.residents := by rw [a.rest]
theorem Touched.res {s t : State} (a : Touched s t) (k : Nat) : t.res k = s.res k := congrArg (fun rs => fget Resident.start rs k) a.residents

theorem Alongside.touchLane {h : Nat} {x y : State} (a : Alongside h x y) (load : Bool) (addr : Nat → Word) (i : Nat) :
    Alongside h (x.touchLane h load addr i) (y.touchLane h load addr i) := by
  have asid : x.asidOf (.task h .v) = y.asidOf (.task h .v) := a.asid
  have tx := touchLane_keeps h load addr x i
  have ty := touchLane_keeps h load addr y i
  refine ⟨?_, by rw [tx.res, ty.res, a.asid]⟩
  have moved : x.touchLane h load addr i = (y.touchLane h load addr i).reissue x.residents x.vops x.gaccs x.nextId := by
    unfold State.touchLane
    rw [asid, ← touchTlb_reissue, ← a.rest]
  rw [moved]
  rfl

theorem Alongside.numbering {h : Nat} {x y u : State} (a : Alongside h x y) (n : Numbering h x u) : Alongside h u y := by
  refine ⟨?_, by rw [n.own]; exact a.asid⟩
  rw [n.rest, a.rest]
  rfl

/-- What the lanes of a global access leave: y has used the same translations, and beside that only accesses in flight, and at stores serials, differ (R183, R185). -/
structure LanesIssued (h vop : Nat) (load : Bool) (data : VReg) (addr : Nat → Word) (l : List (Nat × Target)) (x x' y' : State) (gs : List GAcc) : Prop where
  along : Alongside h x' y'
  gaccs : x'.gaccs = x.gaccs ++ gs
  length : gs.length = l.length
  each : ∀ p ∈ l.zip gs, LaneAccess h vop load data addr p.1 p.2
  vops : x'.vops = x.vops
  own : x'.res h = { x.res h with seqs := (x'.res h).seqs, kept := (x'.res h).kept }
  unnumbered : (∀ it ∈ l, ¬ (load = false ∧ it.2.aper = 2 ∧ it.2.kind = 0)) → x'.res h = x.res h

theorem foldl_pushLane (h vop : Nat) (load : Bool) (data : VReg) (addr : Nat → Word) (l : List (Nat × Target)) (x y : State) (a : Alongside h x y) :
    ∃ gs, LanesIssued h vop load data addr l x (l.foldl (State.pushLane h vop load data addr) x) ((l.map (·.1)).foldl (State.touchLane h load addr) y) gs := by
  induction l generalizing x y with
  | nil => exact ⟨[], a, by simp, rfl, by simp, rfl, rfl, fun _ => rfl⟩
  | cons it l ih =>
    let u := x.touchLane h load addr it.1
    have touched : Touched x u := touchLane_keeps h load addr x it.1
    obtain ⟨q, v, numbered, joined, some_iff, same⟩ := pushGacc_task u (g := u.laneAcc h vop load data addr it) (by cases load <;> rfl)
    rw [laneAcc_sequenced] at some_iff
    let g : GAcc := { u.laneAcc h vop load data addr it with id := u.nextId, serial := q, since := u.stamp }
    let x1 : State := { v with gaccs := u.gaccs ++ [g], nextId := u.nextId + 1 }
    have step : x.pushLane h vop load data addr it = x1 := joined
    have along : Alongside h x1 (y.touchLane h load addr it.1) := by
      obtain ⟨rest, asid⟩ := (a.touchLane load addr it.1).numbering numbered
      refine ⟨?_, asid⟩
      show ({ v with gaccs := u.gaccs ++ [g], nextId := u.nextId + 1 } : State) = _
      rw [rest]
      rfl
    obtain ⟨gs, k⟩ := ih x1 (y.touchLane h load addr it.1) along
    have gaccs1 : x1.gaccs = x.gaccs ++ [g] := congrArg (· ++ [g]) (by rw [touched.rest])
    have vops1 : x1.vops = x.vops := by
      show v.vops = _
      rw [numbered.rest, touched.rest]
    have own1 : x1.res h = { x.res h with seqs := (x1.res h).seqs, kept := (x1.res h).kept } := numbered.own.trans (by rw [touched.res]; rfl)
    rw [List.foldl_cons, List.map_cons, List.foldl_cons, step]
    refine ⟨g :: gs, k.along, ?_, congrArg (· + 1) k.length, fun p hp => ?_, k.vops.trans vops1, by rw [k.own, own1], fun no => ?_⟩
    · rw [k.gaccs, gaccs1, List.append_assoc]
      rfl
    · rcases List.mem_cons.mp hp with rfl | hp
      · exact laneAccess_of u h vop load data addr it some_iff
      · exact k.each p hp
    · have unseq : (u.laneAcc h vop load data addr it).sequenced = false := Bool.eq_false_iff.mpr fun e => no it List.mem_cons_self ((laneAcc_sequenced ..).mp e)
      rw [k.unnumbered fun it' m => no it' (List.mem_cons_of_mem _ m)]
      show v.res h = _
      rw [same unseq, touched.res]

end Sys2Proof.Machine
end

section
/-!
Vector loads and stores (R181 to R185): the access they list and the addresses of their lanes.
-/

namespace Sys2Proof.Machine
open Sys2Proof

theorem VectorReady.mono {s : State} {h : Nat} {rd rd' : List VTgt} {wr : List (VTgt × Option Nat)} (v : VectorReady s h rd wr) (sub : rd' ⊆ rd) : VectorReady s h rd' wr := by
  obtain ⟨turn, ports, gap⟩ := v
  exact ⟨turn, fun n hn => ports n (hn.imp_left fun m => sub m), gap.imp_right fun ⟨hr, hw⟩ => ⟨fun t m => hr t (sub m), hw⟩⟩

theorem landed_setRes_res (s : State) (h : Nat) : (s.landed h).setRes h ((s.landed h).res h) = s.landed h := by
  rw [res_landed]
  exact State.setRes_setRes ..

/-- The check of one lane of a load or store (R183). -/
def State.laneCheck (s : State) (h : Nat) (load glob contig : Bool) (addr : Nat → Word) (i : Nat) : LaneChk :=
  let al := if contig then decide ((addr 0).toNat % 64 = 0) else decide ((addr i).toNat % 4 = 0)
  if glob then s.laneGlobal h (if load then .load else .store) 4 al (addr i) else s.laneSpad h (!load) al (addr i)

/-- The active lanes of a mask. -/
def activeLanes (m : BitVec 128) : List Nat := (List.range 128).filter (fun i => m.getLsbD i)

/-- The access that a load or store lists, when all its active lanes pass their checks (R183). -/
def State.accessOp (s : State) (h : Nat) (c : BitVec 3) (load glob : Bool) (d : BitVec 7) (mk : BitVec 128) (tgt : Nat → Target) (addr : Nat → Word) : VOp :=
  { s.newVOp h (ctrOf c) load false d.toNat (if glob then .global else .scratch) with
    id := s.nextId, todo := mk, all := mk, addrs := (activeLanes mk).map (fun i => (i, if glob then (addr i).toNat else (tgt i).pa)) }

/-- A load or store over ready registers whose active lanes all pass their checks lists its access, issues its lanes, and the program goes on (R183 to R185). -/
theorem vAccess_of {s : State} {h : Nat} {g : BitVec 2} {load glob contig : Bool} {d : BitVec 7} {rd : List VTgt} {c : BitVec 3} {m : Nat} {addr : State → Nat → Word}
    {tgt : Nat → Target} (ready : VectorReady s h (rd ++ (if load then [] else [.vreg d.toNat]) ++ [.mask m]) (if load then [(.vreg d.toNat, none)] else []))
    (first : ((s.landed h).res h).lanesDone = 0) (count : c.toNat ≤ 5 → fget (0 : BitVec 6) ((s.landed h).res h).wcnt c.toNat ≠ 63) :
    let u := s.landed h
    let v := u.accessOp h c load glob d (u.mread h m) tgt (addr u)
    let x := ({ u with vops := u.vops ++ [v], nextId := u.nextId + 1 } : State).setRes h ((u.res h).countUp (ctrOf c))
    (∀ i ∈ activeLanes (u.mread h m), u.laneCheck h load glob contig (addr u) i = .ok (tgt i)) →
    (load = false → glob = true → u.storeRoom (.task h) ((activeLanes (u.mread h m)).map tgt) = true) →
    vAccess Rp.none h g load glob d rd c contig m addr s = .next (vNext Rp.none h g.toNat
      (if glob then x.pushLanes h u.nextId load v.data (addr u) ((activeLanes (u.mread h m)).map (fun i => (i, tgt i))) else x).fresh1) := by
  intro u v x checked serials
  have kept := res_landed_frame s h
  have wcnt : ∀ k, ctrOf c = some k → fget (0 : BitVec 6) (u.res h).wcnt k ≠ 63 := fun k e => by
    obtain ⟨le, rfl⟩ := ctrOf_eq_some.mp e
    exact count le
  have nowait : s.counterWait h (ctrOf c) = [] := counterWait_nil fun k e => by
    have := wcnt k e
    rw [kept] at this
    exact this
  have done : (u.res h).lanesDone = 0 := first
  have lanes : (List.range 128).filter (fun i => (u.mread h m).getLsbD i && decide ((u.res h).lanesDone ≤ i)) = activeLanes (u.mread h m) :=
    List.filter_congr fun i _ => by simp [done]
  have chk : checkLanes (fun i =>
      let a := addr u i
      let al := if contig then decide ((addr u 0).toNat % 64 = 0) else decide (a.toNat % 4 = 0)
      if glob then u.laneGlobal h (if load then .load else .store) 4 al a else u.laneSpad h (!load) al a) (activeLanes (u.mread h m)) =
      ((activeLanes (u.mread h m)).map (fun i => (i, tgt i)), none) := checkLanes_ok checked
  unfold vAccess
  dsimp only
  rw [nowait]
  refine (vReady_of _ ready).trans ?_
  rw [lanes, chk]
  dsimp only
  have roomed : (!load && glob && !u.storeRoom (.task h) (((activeLanes (u.mread h m)).map (fun i => (i, tgt i))).map (·.2))) = false := by
    rw [List.map_map]
    cases load with
    | true => rfl
    | false =>
      cases glob with
      | false => rfl
      | true => simp [show u.storeRoom (.task h) ((activeLanes (u.mread h m)).map ((·.2) ∘ fun i => (i, tgt i))) = true from serials rfl rfl]
  have unzeroed : (load && (Rp.none.z || decide ((u.res h).portBind d.toNat = 2))) = false := by
    cases load with
    | false => rfl
    | true =>
      have : (u.res h).portBind d.toNat = 0 := by
        rw [res_landed, landTo_portBind]
        exact ready.2.1 _ (.inr ⟨none, List.mem_singleton.mpr rfl⟩)
      simp [this, Rp.none]
  have set : laneSet (((activeLanes (u.mread h m)).map (fun i => (i, tgt i))).map (·.1)) = u.mread h m := by
    rw [List.map_map]
    exact (congrArg laneSet (List.map_id _)).trans (laneSet_lanes _)
  have union : u.mread h m ||| (0 : BitVec 128) = u.mread h m := BitVec.or_zero
  have same : u.modRes h (fun r => r) = u := landed_setRes_res s h
  have listed : u.beginVOp { v with id := 0 } = x := beginVOp_of wcnt
  rw [roomed, unzeroed, set]
  simp only [Bool.false_eq_true, if_false, if_true, List.map_map, Option.isSome_none, Bool.and_false]
  rw [same, union]
  show Host.Outcome.next (vNext Rp.none h g.toNat (if glob then (u.beginVOp { v with id := 0 }).pushLanes h u.nextId load v.data (addr u)
    ((activeLanes (u.mread h m)).map (fun i => (i, tgt i))) else u.beginVOp { v with id := 0 }).fresh1) = _
  rw [listed]

/-! ## Checks -/

theorem laneCheck_scratch {s : State} {h : Nat} {load contig : Bool} {addr : Nat → Word} {i : Nat} (al : if contig then (addr 0).toNat % 64 = 0 else (addr i).toNat % 4 = 0)
    (inside : (addr i).toNat + 4 ≤ (s.res h).spSize) :
    s.laneCheck h load false contig addr i = .ok { aper := 0, pa := (s.res h).spBase + (addr i).toNat, peer := 0, kind := 0 } := by
  have win : (s.res h).inWindow (addr i).toNat 1 = true := decide_eq_true (by omega)
  have aligned : (if contig then decide ((addr 0).toNat % 64 = 0) else decide ((addr i).toNat % 4 = 0)) = true := by
    cases contig <;> exact decide_eq_true al
  unfold State.laneCheck State.laneSpad
  simp [win, aligned]

theorem laneCheck_global {s : State} {h : Nat} {load contig : Bool} {addr : Nat → Word} {i : Nat} {t : Target} {leaf : BitVec 64}
    (al : if contig then (addr 0).toNat % 64 = 0 else (addr i).toNat % 4 = 0)
    (tr : Translates s (.task h .v) (addr i).toNat (if load then .load else .store) false t leaf) : s.laneCheck h load true contig addr i = .ok t := by
  have aligned : (if contig then decide ((addr 0).toNat % 64 = 0) else decide ((addr i).toNat % 4 = 0)) = true := by
    cases contig <;> exact decide_eq_true al
  have plain : ((if load then Acc.load else .store).write && decide ((if load then Acc.load else .store) ≠ .store)) = false := by cases load <;> rfl
  unfold State.laneCheck State.laneGlobal
  simp only [aligned, plain]
  simp [tr.1, tr.2]

/-- Serials for every store of an access (R357). -/
theorem storeRoom_of {s : State} {h : Nat} {l : List Nat} {tgt : Nat → Target} (free : ∀ i ∈ l, (tgt i).aper = 2 → (tgt i).kind = 0 → SerialsFree s (.task h .v) (tgt i).peer l.length) :
    s.storeRoom (.task h) (l.map tgt) = true := List.all_eq_true.mpr fun t ht => by
  obtain ⟨i, hi, rfl⟩ := List.mem_map.mp ht
  by_cases e : (tgt i).aper = 2 ∧ (tgt i).kind = 0
  · have : s.seqRoom (.task h) (tgt i).peer (l.map tgt).length = true := by
      rw [List.length_map]
      exact decide_eq_true (free i hi e.1 e.2)
    rw [this, Bool.or_true]
  · have : (decide ((tgt i).aper = 2) && decide ((tgt i).kind = 0)) = false := by simpa using e
    rw [this]
    rfl

/-! ## Addresses -/

theorem contigAddr_eq (s : State) (h : Nat) (k : BitVec 5) (o : BitVec 9) (i : Nat) :
    contigAddr Rp.none h k o s i = BitVec.ofInt 64 ((s.kread h k.toNat).toInt + 64 * o.toInt + 4 * i) := by
  have off : BitVec.ofInt 64 (64 * o.toInt) = 64 * sx o := BitVec.ofInt_mul _ _
  have word : BitVec.ofInt 64 (4 * i) = BitVec.ofNat 64 (4 * i) := BitVec.ofInt_natCast 64 (4 * i)
  rw [BitVec.ofInt_add, BitVec.ofInt_add, BitVec.ofInt_toInt, off, word]
  show _ + BitVec.ofNat 64 0 + _ = _
  rw [BitVec.add_zero]

theorem indexAddr_eq (s : State) (h : Nat) (k : BitVec 5) (x : BitVec 7) (i : Nat) :
    indexAddr h k x s i = BitVec.ofInt 64 ((s.kread h k.toNat).toInt + (lane (s.vread h x.toNat) i).toInt) := (ofInt_add_toInt _ _).symm

theorem strideAddr_eq (s : State) (h : Nat) (k q : BitVec 5) (i : Nat) :
    strideAddr Rp.none h k q s i = BitVec.ofNat 64 ((s.kread h k.toNat).toNat + i * (s.kread h q.toNat).toNat) := by
  refine BitVec.eq_of_toNat_eq ?_
  simp [strideAddr, Rp.none, BitVec.toNat_add, BitVec.toNat_mul]

theorem serialsFree_landed {s : State} {h : Nat} {e : Eng} {p : BitVec 10} {n : Nat} (free : SerialsFree s (.task h e) p n) : SerialsFree (s.landed h) (.task h e) p n := by
  have same : (s.landed h).seqFor (Who.task h e).owner p = s.seqFor (Who.task h e).owner p := seqFor_landed s h p
  rw [SerialsFree, same]
  exact free

/-! ## The accesses in flight -/

theorem Resident.countUp_ctrOf (r : Resident) (c : BitVec 3) :
    r.countUp (ctrOf c) = if c.toNat ≤ 5 then { r with wcnt := fput r.wcnt c.toNat (fget (0 : BitVec 6) r.wcnt c.toNat + 1) } else r := by
  unfold ctrOf
  split <;> rfl

/-- The registers an access reads, its mask last or its data last. -/
theorem mask_last {rd st : List VTgt} {m : VTgt} : rd ++ st ++ [m] ⊆ rd ++ [m] ++ st := fun t ht => by
  simp only [List.mem_append] at ht ⊢
  tauto

theorem fget_accessOp {s : State} {h : Nat} {c : BitVec 3} {load glob : Bool} {d : BitVec 7} {mk : BitVec 128} {tgt : Nat → Target} {addr : Nat → Word} {i : Nat}
    (hi : i ∈ activeLanes mk) : fget 0 (s.accessOp h c load glob d mk tgt addr).addrs i = if glob then (addr i).toNat else (tgt i).pa := fget_map_keyed hi

/-- A scratchpad load or store whose active lanes lie in the window and are aligned is listed and counted; no byte moves yet (R181, R185). -/
theorem vAccess_scratch {s : State} {h : Nat} {g : BitVec 2} {load contig : Bool} {d : BitVec 7} {rd : List VTgt} {c : BitVec 3} {m : Nat} {addr : State → Nat → Word}
    (ready : VectorReady s h (rd ++ [.mask m] ++ (if load then [] else [.vreg d.toNat])) (if load then [(.vreg d.toNat, none)] else []))
    (first : ((s.landed h).res h).lanesDone = 0) (count : c.toNat ≤ 5 → fget (0 : BitVec 6) ((s.landed h).res h).wcnt c.toNat ≠ 63) :
    let u := s.landed h
    let pa := fun i => (u.res h).spBase + (addr u i).toNat
    let v := u.accessOp h c load false d (u.mread h m) (fun i => { aper := 0, pa := pa i, peer := 0, kind := 0 }) (addr u)
    (∀ i ∈ activeLanes (u.mread h m), (if contig then (addr u 0).toNat % 64 = 0 else (addr u i).toNat % 4 = 0) ∧ (addr u i).toNat + 4 ≤ (u.res h).spSize) →
    ∃ t, vAccess Rp.none h g load false d rd c contig m addr s = .next t ∧
      VectorIssues h g ((u.res h).countUp (ctrOf c)) { s with vops := s.vops ++ [v], nextId := s.nextId + 1 } t := by
  intro u pa v checks
  refine ⟨_, vAccess_of (ready.mono mask_last) first count (fun i hi => laneCheck_scratch (checks i hi).1 (checks i hi).2) (fun _ e => by cases e), ?_⟩
  obtain ⟨⟨loc, others, svs⟩, own⟩ := vNext_issues ({ u with vops := u.vops ++ [v], nextId := u.nextId + 1 } : State) h g ((u.res h).countUp (ctrOf c))
  exact ⟨⟨loc, fun k n => (others k n).trans (State.res_setRes_other _ _ n), svs⟩, own⟩

/-- What a global load or store leaves (R183 to R185). -/
structure GlobalIssues (h : Nat) (g : BitVec 2) (load : Bool) (v : VOp) (addr : Nat → Word) (lanes : List Nat) (tgt : Nat → Target) (r : Resident) (s t : State)
    (gs : List GAcc) : Prop where
  vops : t.vops = s.vops ++ [v]
  gaccs : t.gaccs = s.gaccs ++ gs
  length : gs.length = lanes.length
  each : ∀ p ∈ lanes.zip gs, LaneAccess h v.id load v.data addr (p.1, tgt p.1) p.2
  own : t.res h = { r with v := (t.res h).v, vpos := r.vpos + 1 + g.toNat, lanesDone := 0, rep := 0, vctl := r.vctl &&& 1, seqs := (t.res h).seqs, kept := (t.res h).kept }
  unnumbered : (∀ i ∈ lanes, ¬ (load = false ∧ (tgt i).aper = 2 ∧ (tgt i).kind = 0)) → (t.res h).seqs = r.seqs ∧ (t.res h).kept = r.kept
  pc : (t.res h).v.pc = r.v.pc + 4
  mem : t.mem = (lanes.foldl (State.touchLane h load addr) s).mem
  tile : ∀ j, (t.tile j).spad = (s.tile j).spad ∧ (t.tile j).slabs = (s.tile j).slabs

theorem Alongside.mem {h : Nat} {x y : State} (a : Alongside h x y) : x.mem = y.mem := by rw [a.rest]; rfl
theorem Alongside.tiles {h : Nat} {x y : State} (a : Alongside h x y) : x.tiles = y.tiles := by rw [a.rest]; rfl

theorem touched_foldl (h : Nat) (load : Bool) (addr : Nat → Word) (l : List Nat) (s : State) : Touched s (l.foldl (State.touchLane h load addr) s) := by
  induction l generalizing s with
  | nil => exact .refl s
  | cons i l ih => exact (touchLane_keeps h load addr s i).trans (ih _)

/-- A global load or store whose active lanes are translated and aligned is listed and counted, and its lanes join the accesses in flight (R183, R185). -/
theorem vAccess_global {s : State} {h : Nat} {g : BitVec 2} {load contig : Bool} {d : BitVec 7} {rd : List VTgt} {c : BitVec 3} {m : Nat} {addr : State → Nat → Word}
    {tgt : Nat → Target} {leaf : Nat → BitVec 64}
    (ready : VectorReady s h (rd ++ [.mask m] ++ (if load then [] else [.vreg d.toNat])) (if load then [(.vreg d.toNat, none)] else []))
    (first : ((s.landed h).res h).lanesDone = 0) (count : c.toNat ≤ 5 → fget (0 : BitVec 6) ((s.landed h).res h).wcnt c.toNat ≠ 63) :
    let u := s.landed h
    let lanes := activeLanes (u.mread h m)
    let v := u.accessOp h c load true d (u.mread h m) tgt (addr u)
    (∀ i ∈ lanes, (if contig then (addr u 0).toNat % 64 = 0 else (addr u i).toNat % 4 = 0) ∧
      Translates u (.task h .v) (addr u i).toNat (if load then .load else .store) false (tgt i) (leaf i) ∧
      (load = false → (tgt i).aper = 2 → (tgt i).kind = 0 → SerialsFree u (.task h .v) (tgt i).peer lanes.length)) →
    ∃ t gs, vAccess Rp.none h g load true d rd c contig m addr s = .next t ∧ GlobalIssues h g load v (addr u) lanes tgt ((u.res h).countUp (ctrOf c)) s t gs := by
  intro u lanes v checks
  let r := (u.res h).countUp (ctrOf c)
  let x := ({ u with vops := u.vops ++ [v], nextId := u.nextId + 1 } : State).setRes h r
  have xres : x.res h = r := State.res_setRes ..
  have along : Alongside h x s := by
    refine ⟨rfl, ?_⟩
    have kept := res_landed_frame s h
    rw [xres]
    show ((u.res h).countUp (ctrOf c)).asid = _
    rw [Resident.countUp_ctrOf]
    split <;> (show (u.res h).asid = _; rw [kept])
  obtain ⟨gs, issued⟩ := foldl_pushLane h u.nextId load v.data (addr u) (lanes.map (fun i => (i, tgt i))) x s along
  have map_fst : (lanes.map (fun i => (i, tgt i))).map (·.1) = lanes := by
    rw [List.map_map]
    exact List.map_id _
  rw [map_fst] at issued
  let x' := (lanes.map (fun i => (i, tgt i))).foldl (State.pushLane h u.nextId load v.data (addr u)) x
  have run := vAccess_of (g := g) (contig := contig) (addr := addr) (tgt := tgt) (ready.mono mask_last) first count (fun i hi => laneCheck_global (checks i hi).1 (checks i hi).2.1)
    (fun st _ => storeRoom_of fun i hi => (checks i hi).2.2 st)
  obtain ⟨t, goes, ⟨loc, -, -⟩, own, pc, -⟩ : ∃ t, vAccess Rp.none h g load true d rd c contig m addr s = .next t ∧ VectorIssues h g (x'.res h) x' t := ⟨_, run, vNext_over x' h g⟩
  have own' : x'.res h = { r with seqs := (x'.res h).seqs, kept := (x'.res h).kept } := xres ▸ issued.own
  have y := touched_foldl h load (addr u) lanes s
  have xmem : x'.mem = (lanes.foldl (State.touchLane h load (addr u)) s).mem := issued.along.mem
  have xtiles : x'.tiles = (lanes.foldl (State.touchLane h load (addr u)) s).tiles := issued.along.tiles
  refine ⟨t, gs, goes, {
    vops := loc.vops.trans issued.vops
    gaccs := loc.gaccs.trans issued.gaccs
    length := issued.length.trans (List.length_map _)
    each := fun p hp => issued.each ((p.1, tgt p.1), p.2) (by rw [List.zip_map_left]; exact List.mem_map.mpr ⟨p, hp, rfl⟩)
    own := by
      rw [own, own']
    unnumbered := fun no => ?_
    pc := by rw [pc, own']
    mem := loc.mem.trans xmem
    tile := fun j => ?_ }⟩
  · have same := issued.unnumbered fun it hit => by
      obtain ⟨i, hi, rfl⟩ := List.mem_map.mp hit
      exact no i hi
    rw [own, same, xres]
    exact ⟨rfl, rfl⟩
  · have tiles : t.tile j = (lanes.foldl (State.touchLane h load (addr u)) s).tile j :=
      congrArg (fun ts => fget Tile.start ts j) (loc.tiles.trans xtiles)
    rw [tiles, y.tile]
    exact ⟨rfl, rfl⟩

end Sys2Proof.Machine

open Sys2Proof Sys2Proof.Machine

/-- Settles O37: the twelve loads and stores are one access, over scratchpad or global lanes at contiguous, indexed or strided addresses. -/
theorem vectorMemoryAccesses : Obligations.VectorMemoryAccesses := by
  intro s h g d x k q c o m tgt leaf w u r kb contig gather stride counted lanes ready listed spad glob mk
  have counts : (u.res h).countUp (ctrOf c) = counted := Resident.countUp_ctrOf ..
  have scratch : ∀ (i : Instr) (load base : Bool) (rd : List VTgt) (n : Nat) (addr : State → Nat → Word) (at_ : Nat → Word), addr u = at_ →
      (∀ j ∈ lanes (u.mread h n), if base then (at_ 0).toNat % 64 = 0 else (at_ j).toNat % 4 = 0) → ready (rd ++ [.mask n]) load →
      (s.who = some w → exec i s = vAccess Rp.none h g load false d rd c base n addr s) → spad i load (u.mread h n) at_ :=
    fun i load base rd n addr at_ e aligned ⟨regs, first, count⟩ run inside => by
      subst e
      obtain ⟨t, goes, issues⟩ := vAccess_scratch (g := g) (contig := base) (addr := addr) regs first count fun j hj => ⟨aligned j hj, inside j hj⟩
      rw [counts] at issues
      exact ⟨t, (run regs.1).trans goes, _, issues, rfl, rfl, rfl, rfl, rfl, rfl, rfl, rfl, rfl, rfl, rfl, rfl, fun _ => rfl, fun j hj => fget_accessOp hj⟩
  have keeps : ∀ {α : Type} (f : Resident → α), (∀ n, f { r with wcnt := n } = f r) → f counted = f r := fun f hf => by
    show f (if c.toNat ≤ 5 then _ else r) = f r
    split
    · exact hf _
    · rfl
  have global : ∀ (i : Instr) (load base : Bool) (rd : List VTgt) (n : Nat) (addr : State → Nat → Word) (at_ : Nat → Word), addr u = at_ →
      (∀ j ∈ lanes (u.mread h n), if base then (at_ 0).toNat % 64 = 0 else (at_ j).toNat % 4 = 0) → ready (rd ++ [.mask n]) load →
      (s.who = some w → exec i s = vAccess Rp.none h g load true d rd c base n addr s) → glob i load (u.mread h n) at_ :=
    fun i load base rd n addr at_ e aligned ⟨regs, first, count⟩ run checks => by
      subst e
      obtain ⟨t, gs, goes, issued⟩ := vAccess_global (g := g) (contig := base) (addr := addr) (tgt := tgt) (leaf := leaf) regs first count
        fun j hj => ⟨aligned j hj, (checks j hj).1, fun st ap kd => serialsFree_landed ((checks j hj).2 st ap kd)⟩
      rw [counts] at issued
      refine ⟨t, (run regs.1).trans goes, _, gs, issued.vops, ⟨rfl, rfl, rfl, rfl, rfl, rfl, rfl, rfl, rfl, rfl, rfl, rfl, fun _ => rfl, fun j hj => fget_accessOp hj⟩, issued.gaccs,
        issued.length, fun p hp => ?_, ?_, fun plain => ?_, issued.pc.trans ?_, issued.mem, issued.tile⟩
      · obtain ⟨va, n, tgt', isStore, owner, path, dest, acq, rel, failed, data, serial⟩ := issued.each p hp
        refine ⟨va, n, tgt', isStore, owner, path, dest, acq, rel, failed, fun st => ⟨data st, serial.trans (and_iff_right st)⟩, fun ld => ?_⟩
        exact not_not.mp fun some_ => Bool.false_ne_true ((serial.mp some_).1.symm.trans ld)
      · rw [issued.own, keeps Resident.vpos fun _ => rfl, keeps Resident.vctl fun _ => rfl]
      · rw [← keeps Resident.seqs fun _ => rfl, ← keeps Resident.kept fun _ => rfl]
        refine issued.unnumbered fun j hj ⟨st, ap, kd⟩ => ?_
        rcases plain with ld | no
        · exact Bool.false_ne_true (st.symm.trans ld)
        · exact (no j hj).elim (· ap) (· kd)
      · rw [keeps Resident.v fun _ => rfl]
  have eqC : contigAddr Rp.none h k o u = contig := funext fun i => (contigAddr_eq ..).trans (by rw [kread_landed])
  have eqG : indexAddr h k x u = gather := funext fun i => (indexAddr_eq ..).trans (by rw [kread_landed])
  have eqS : strideAddr Rp.none h k q u = stride := funext fun i => (strideAddr_eq ..).trans (by rw [kread_landed, kread_landed])
  refine ⟨fun al => ⟨?_, ?_⟩, fun al => ⟨?_, ?_⟩, fun al => ⟨?_, ?_⟩⟩
  · exact fun ok => ⟨scratch _ true true [] 0 (contigAddr Rp.none h k o) _ eqC (fun _ _ => al) ok (onVec_of _), global _ true true [] 0 (contigAddr Rp.none h k o) _ eqC (fun _ _ => al) ok (onVec_of _)⟩
  · exact fun ok => ⟨scratch _ false true [] 0 (contigAddr Rp.none h k o) _ eqC (fun _ _ => al) ok (onVec_of _), global _ false true [] 0 (contigAddr Rp.none h k o) _ eqC (fun _ _ => al) ok (onVec_of _)⟩
  · exact fun ok => ⟨scratch _ true false [.vreg x.toNat] m.toNat (indexAddr h k x) _ eqG al ok (onVec_of _), global _ true false [.vreg x.toNat] m.toNat (indexAddr h k x) _ eqG al ok (onVec_of _)⟩
  · exact fun ok => ⟨scratch _ false false [.vreg x.toNat] m.toNat (indexAddr h k x) _ eqG al ok (onVec_of _), global _ false false [.vreg x.toNat] m.toNat (indexAddr h k x) _ eqG al ok (onVec_of _)⟩
  · exact fun ok => ⟨scratch _ true false [] m.toNat (strideAddr Rp.none h k q) _ eqS al ok (onVec_of _), global _ true false [] m.toNat (strideAddr Rp.none h k q) _ eqS al ok (onVec_of _)⟩
  · exact fun ok => ⟨scratch _ false false [] m.toNat (strideAddr Rp.none h k q) _ eqS al ok (onVec_of _), global _ false false [] m.toNat (strideAddr Rp.none h k q) _ eqS al ok (onVec_of _)⟩

end

section
/-!
The lanes and elements of a vector that is given by its digits, and what a lane-wise instruction writes (R97, R157 to R160).
-/

namespace Sys2Proof.Machine
open Sys2Proof

/-! ## Digits -/

/-- Digit i of a number given by its digits. -/
theorem ofDigits_digit (w : Nat) (l : List Nat) (i : Nat) : ofDigits w l / 2 ^ (w * i) % 2 ^ w = l.getD i 0 % 2 ^ w := by
  induction l generalizing i with
  | nil => simp [ofDigits]
  | cons x l ih =>
    cases i with
    | zero => simp [ofDigits]
    | succ i =>
      have low : (x % 2 ^ w + 2 ^ w * ofDigits w l) / 2 ^ w = ofDigits w l := by
        rw [Nat.add_mul_div_left _ _ (Nat.two_pow_pos w), Nat.div_eq_of_lt (Nat.mod_lt _ (Nat.two_pow_pos w)), Nat.zero_add]
      rw [ofDigits, Nat.mul_succ, Nat.add_comm (w * i) w, Nat.pow_add, ← Nat.div_div_eq_div_mul, low, ih, List.getD_cons_succ]

/-- A field of a vector is a digit of its number. -/
theorem extractLsb'_ofNat_digit {w i : Nat} (x : Nat) (inside : w * i + w ≤ 4096) :
    (BitVec.ofNat 4096 x).extractLsb' (w * i) w = BitVec.ofNat w (x / 2 ^ (w * i) % 2 ^ w) := by
  refine BitVec.eq_of_getLsbD_eq fun j hj => ?_
  have below : w * i + j < 4096 := by omega
  rw [BitVec.getLsbD_extractLsb', BitVec.getLsbD_ofNat, BitVec.getLsbD_ofNat, Nat.testBit_mod_two_pow, Nat.testBit_div_two_pow]
  simp [hj, below, Nat.add_comm j]

theorem extractLsb'_ofDigits {w i : Nat} (l : List Nat) (inside : w * i + w ≤ 4096) :
    (BitVec.ofNat 4096 (ofDigits w l)).extractLsb' (w * i) w = BitVec.ofNat w (l.getD i 0) := by
  rw [extractLsb'_ofNat_digit _ inside, ofDigits_digit]
  exact BitVec.eq_of_toNat_eq (by simp)

theorem lane_ofDigits {i : Nat} (l : List Nat) (hi : i < 128) : lane (BitVec.ofNat 4096 (ofDigits 32 l)) i = BitVec.ofNat 32 (l.getD i 0) :=
  extractLsb'_ofDigits l (by omega)

theorem elem_ofDigits {i : Nat} (l : List Nat) (hi : i < 64) : elem (BitVec.ofNat 4096 (ofDigits 64 l)) i = BitVec.ofNat 64 (l.getD i 0) :=
  extractLsb'_ofDigits l (by omega)

theorem getD_map_range {n i : Nat} (f : Nat → Nat) (hi : i < n) : ((List.range n).map f).getD i 0 = f i := by
  simp [List.getD, hi]

theorem lane_ofLanes {i : Nat} (f : Nat → BitVec 32) (hi : i < 128) : lane (ofLanes f) i = f i := by
  rw [ofLanes, lane_ofDigits _ hi, getD_map_range _ hi, BitVec.ofNat_toNat, BitVec.setWidth_eq]

/-- Lanes tell vectors apart. -/
theorem vreg_eq_of_lanes {v w : VReg} (h : ∀ i, i < 128 → lane v i = lane w i) : v = w := by
  refine BitVec.eq_of_getLsbD_eq fun j hj => ?_
  have bit : ∀ x : VReg, (lane x (j / 32)).getLsbD (j % 32) = x.getLsbD j := fun x => by
    simp [lane, Nat.mod_lt, Nat.div_add_mod]
  rw [← bit, ← bit, h _ (by omega)]

theorem laneBits_allLanes : laneBits allLanes = allBits :=
  vreg_eq_of_lanes fun i hi => by
    rw [laneBits, lane_ofLanes _ hi, if_pos (show allLanes.getLsbD i = true from BitVec.getLsbD_allOnes.trans (decide_eq_true hi))]
    change BitVec.allOnes 32 = _
    refine BitVec.eq_of_getLsbD_eq fun j hj => ?_
    have below : 32 * i + j < 4096 := by omega
    rw [lane, BitVec.getLsbD_extractLsb', allBits, BitVec.getLsbD_allOnes, BitVec.getLsbD_allOnes]
    simp [hj, below]

/-! ## Flags -/

/-- One condition of a list of results joined one after another. -/
theorem foldl_or_raises {p : Flg → Bool} (por : ∀ a b, p (a.or b) = (p a || p b)) (l : List (Nat × Flg)) (g : Flg) :
    p (l.foldl (fun g x => g.or x.2) g) = (p g || l.any (fun x => p x.2)) := by
  induction l generalizing g with
  | nil => simp
  | cons x l ih => rw [List.foldl_cons, ih, por, List.any_cons, Bool.or_assoc]

/-- A flag set that holds, for each condition, whether some value of P raises it. -/
theorem flagsOf_of {fl : Flg} {P : Flg → Prop} (each : ∀ p : Flg → Bool, (∀ a b, p (a.or b) = (p a || p b)) → p Flg.none = false →
    (p fl = true ↔ ∃ x, P x ∧ p x = true)) : FlagsOf fl P :=
  ⟨each Flg.inv (fun _ _ => rfl) rfl, each Flg.ovf (fun _ _ => rfl) rfl, each Flg.unf (fun _ _ => rfl) rfl, each Flg.inx (fun _ _ => rfl) rfl⟩

/-- The flags of a lane-wise form are those of its active lanes (R159). -/
theorem flagsOf_active (n : Nat) (act : Nat → Bool) (f : Nat → Nat × Flg) :
    FlagsOf (((List.range n).map (fun i => if act i then f i else (0, Flg.none))).foldl (fun g x => g.or x.2) Flg.none)
      (fun x => ∃ i, i < n ∧ act i = true ∧ x = (f i).2) := by
  refine flagsOf_of fun p por pnone => ?_
  have active : ∀ i, p (if act i then f i else (0, Flg.none)).2 = true ↔ act i = true ∧ p (f i).2 = true := fun i => by
    split <;> simp [*]
  rw [foldl_or_raises por, pnone, Bool.false_or, List.any_map, List.any_eq_true]
  constructor
  · rintro ⟨i, hi, raised⟩
    obtain ⟨on, raised⟩ := (active i).mp raised
    exact ⟨_, ⟨i, List.mem_range.mp hi, on, rfl⟩, raised⟩
  · rintro ⟨_, ⟨i, hi, on, rfl⟩, raised⟩
    exact ⟨i, List.mem_range.mpr hi, (active i).mpr ⟨on, raised⟩⟩

/-! ## Fixed-latency instructions -/

/-- A fixed-latency instruction whose registers are ready issues: its writes join those that have not landed (R97). -/
theorem vFixed_issues {s : State} {h : Nat} (g : BitVec 2) {l : Nat} {rd wr : List VTgt} {val : State → VRes}
    (ready : VectorReady s h rd (wr.map (fun t => (t, some l)))) :
    ∃ t, vFixed Rp.none h g l rd wr val s = .next t ∧ VectorIssues h g (((s.landed h).res h).apply l (val (s.landed h))) s t := by
  refine ⟨_, vFixed_of ready, ?_⟩
  rw [State.modRes_eq, show ∀ r, (s.landed h).setRes h r = s.setRes h r from fun r => State.setRes_setRes ..]
  exact vNext_issues s h g _

/-- One that writes a single register, with its flags. -/
theorem vFixed_writes {s : State} {h : Nat} (g : BitVec 2) {l : Nat} {rd : List VTgt} {tgt : VTgt} {val : State → VRes} {v en : VReg} {fl : Flg}
    (ready : VectorReady s h rd [(tgt, some l)]) (e : val (s.landed h) = { VRes.of [{ tgt := tgt, val := v, en := en }] with flg := fl }) :
    ∃ t, vFixed Rp.none h g l rd [tgt] val s = .next t ∧ FixedWrites h g l tgt en v fl s t := by
  obtain ⟨t, runs, issues⟩ := vFixed_issues g (val := val) (wr := [tgt]) ready
  rw [e] at issues
  exact ⟨t, runs, issues⟩

theorem VectorReady.turn {s : State} {h : Nat} {rd : List VTgt} {wr : List (VTgt × Option Nat)} (ready : VectorReady s h rd wr) : s.who = some (.task h .v) := ready.1

/-- A register bound to no stream takes its write as it is (R188). -/
theorem vwReg_plain {s : State} {h d : Nat} {rd : List VTgt} {wr : List (VTgt × Option Nat)} (ready : VectorReady s h rd wr) {l : Option Nat}
    (hd : (.vreg d, l) ∈ wr) (v en : VReg) : vwReg ((s.landed h).res h) Rp.none d v en = { tgt := .vreg d, val := v, en := en } := by
  obtain ⟨-, ports, -⟩ := ready
  have free : ((s.landed h).res h).portBind d = 0 := by rw [res_landed, landTo_portBind]; exact ports d (.inr ⟨l, hd⟩)
  simp [vwReg, Rp.none, free]

/-! ## Lane-wise forms -/

/-- A source of a lane-wise form; one that is not named reads 0. -/
def State.vsrc (s : State) (h : Nat) : Option (BitVec 7) → VReg
  | some n => s.vread h n.toNat
  | none => 0

/-- The registers that a lane-wise form reads. -/
def vMapReads (d : BitVec 7) (a b : Option (BitVec 7)) (dRead : Bool) (m : Nat) : List VTgt :=
  (a.toList ++ b.toList ++ (if dRead then [d] else [])).map (fun x => VTgt.vreg x.toNat) ++ [.mask m]

/-- What a lane-wise form computes for element i, in the state its operands are read in. -/
def laneResult (f64 : Bool) (s : State) (h : Nat) (d : BitVec 7) (a b : Option (BitVec 7)) (dRead : Bool) (f : Round → Nat → Nat → Nat → Nat × Flg) (i : Nat) : Nat × Flg :=
  f (roundOf (s.res h).rmode) (viewAt f64 (s.vsrc h a) i) (viewAt f64 (s.vsrc h b) i) (viewAt f64 (if dRead then s.vread h d.toNat else 0) i)

section
variable {s : State} {h l m : Nat} {d : BitVec 7} {a b : Option (BitVec 7)} {dRead : Bool}

/-- A lane-wise form writes the digits of its active elements' results, with their flags (R157, R159). -/
theorem vMap_writes (f64 : Bool) (g : BitVec 2) (f : Round → Nat → Nat → Nat → Nat × Flg) (ready : VectorReady s h (vMapReads d a b dRead m) [(.vreg d.toNat, some l)]) :
    let mk := (s.landed h).mread h m
    let rs := (List.range (viewCount f64)).map (fun i => if activeAt f64 mk i then laneResult f64 (s.landed h) h d a b dRead f i else (0, Flg.none))
    ∃ t, vMap f64 l Rp.none h g d a b dRead m f s = .next t ∧
      FixedWrites h g l (.vreg d.toNat) (maskBits f64 mk) (BitVec.ofNat 4096 (ofDigits (viewWidth f64) (rs.map (·.1)))) (rs.foldl (fun g x => g.or x.2) Flg.none) s t :=
  vFixed_writes g ready (congrArg (fun w => ({ VRes.of [w] with flg := _ } : VRes)) (vwReg_plain ready (List.mem_singleton_self _) _ _))

/-- The value of an active element's result among the digits written. -/
theorem getD_results {n i : Nat} {act : Nat → Bool} (r : Nat → Nat × Flg) (hi : i < n) (on : act i = true) :
    (((List.range n).map (fun i => if act i then r i else (0, Flg.none))).map (·.1)).getD i 0 = (r i).1 := by
  rw [List.map_map, getD_map_range _ hi, Function.comp_apply, if_pos on]

/-- A lane-wise form in the 32-bit view. -/
theorem vMap_lanes (g : BitVec 2) (f : Round → Nat → Nat → Nat → Nat × Flg) (ready : VectorReady s h (vMapReads d a b dRead m) [(.vreg d.toNat, some l)]) :
    ∃ t, vMap false l Rp.none h g d a b dRead m f s = .next t ∧ LaneWrites h g l d ((s.landed h).mread h m)
      (fun j => let v := laneResult false (s.landed h) h d a b dRead f j; (BitVec.ofNat 32 v.1, v.2)) s t := by
  obtain ⟨t, runs, writes⟩ := vMap_writes false g f ready
  refine ⟨t, runs, _, _, writes, fun i hi on => ?_, flagsOf_active 128 _ _⟩
  exact (lane_ofDigits _ hi).trans (congrArg _ (getD_results (act := activeAt false _) _ hi on))

/-- A lane-wise form in the fp64 view. -/
theorem vMap_elems (g : BitVec 2) (f : Round → Nat → Nat → Nat → Nat × Flg) (ready : VectorReady s h (vMapReads d a b dRead m) [(.vreg d.toNat, some l)]) :
    ∃ t, vMap true l Rp.none h g d a b dRead m f s = .next t ∧ ElemWrites h g l d ((s.landed h).mread h m)
      (fun j => let v := laneResult true (s.landed h) h d a b dRead f j; (BitVec.ofNat 64 v.1, v.2)) s t := by
  obtain ⟨t, runs, writes⟩ := vMap_writes true g f ready
  refine ⟨t, runs, _, _, writes, fun i hi on => ?_, flagsOf_active 64 _ _⟩
  exact (elem_ofDigits _ hi).trans (congrArg _ (getD_results (act := activeAt true _) _ hi on))

end

/-- A lane-wise form that raises nothing. -/
theorem LaneWrites.plain {h l : Nat} {g : BitVec 2} {d : BitVec 7} {m : BitVec 128} {f : Nat → BitVec 32 × Flg} {s t : State} (w : LaneWrites h g l d m f s t)
    (quiet : ∀ j, (f j).2 = Flg.none) : PlainLanes h g l d m (fun j => (f j).1) s t := by
  obtain ⟨val, fl, writes, lanes, inv, ovf, unf, inx⟩ := w
  have off : ∀ (p : Flg → Bool) {c : Bool}, p Flg.none = false → (c = true ↔ ∃ x, (∃ i, i < 128 ∧ m.getLsbD i = true ∧ x = (f i).2) ∧ p x = true) → c = false := by
    refine fun p c pnone raises => Bool.eq_false_iff.mpr fun on => ?_
    obtain ⟨_, ⟨i, -, -, rfl⟩, raised⟩ := raises.mp on
    rw [quiet, pnone] at raised
    cases raised
  have e : fl = Flg.none := by
    cases fl
    exact Flg.mk.injEq .. ▸ ⟨off Flg.inv rfl inv, off Flg.ovf rfl ovf, off Flg.unf rfl unf, off Flg.inx rfl inx⟩
  exact ⟨val, e ▸ writes, lanes⟩

/-- An instruction of the vector program whose turn it is does what its core does. -/
theorem completes_vec {s : State} {h : Nat} {i : Instr} {k : Nat → Out} {P : State → Prop} (turn : s.who = some (.task h .v)) (e : exec i s = onVec s k)
    (run : ∃ t, k h = .next t ∧ P t) : Completes i s P := by
  obtain ⟨t, runs, holds⟩ := run
  exact ⟨t, (e.trans (onVec_of k turn)).trans runs, holds⟩

theorem Completes.imp {i : Instr} {s : State} {P Q : State → Prop} (c : Completes i s P) (pq : ∀ t, P t → Q t) : Completes i s Q :=
  Exists.imp (fun t => And.imp_right (pq t)) c

/-! ## Floating forms -/

/-- Inverting the sign bit adds half the range (R168). -/
theorem ofNat_xor_sign (k x : Nat) : BitVec.ofNat (k + 1) (BitVec.ofNat (k + 1) x ^^^ BitVec.ofNat (k + 1) (2 ^ k)).toNat = BitVec.ofNat (k + 1) (x + 2 ^ k) := by
  refine BitVec.eq_of_getLsbD_eq fun j hj => ?_
  rw [BitVec.ofNat_toNat, BitVec.setWidth_eq, BitVec.getLsbD_xor]
  simp only [BitVec.getLsbD_ofNat, hj, decide_true, Bool.true_and, Nat.add_comm x]
  rcases Nat.lt_succ_iff_lt_or_eq.mp hj with below | rfl
  · rw [Nat.testBit_two_pow_add_gt below, Nat.testBit_two_pow_of_ne (by omega), Bool.xor_false]
  · rw [Nat.testBit_two_pow_add_eq, Nat.testBit_two_pow_self, Bool.xor_true]

section
variable {s : State} {h : Nat} {i : Instr} {g : BitVec 2} {d a b : BitVec 7} {m : Nat}

/-- A floating form of two sources in fp32 (R164). -/
theorem vFloat_completes (f : NFmt → Round → Nat → Nat → Nat × Flg) (ready : VectorReady s h [.vreg a.toNat, .vreg b.toNat, .mask m] [(.vreg d.toNat, some 4)])
    (e : exec i s = onVec s (fun h => vFloat false Rp.none h g d a b m f s)) :
    Completes i s (LaneWrites h g 4 d ((s.landed h).mread h m) (fun j =>
      let v := f .fp32 (roundOf ((s.landed h).res h).rmode) (lane ((s.landed h).vread h a.toNat) j).toNat (lane ((s.landed h).vread h b.toNat) j).toNat
      (BitVec.ofNat 32 v.1, v.2)) s) :=
  completes_vec ready.turn e (vMap_lanes (a := some a) (b := some b) (dRead := false) g (fun r x y _ => f .fp32 r x y) ready)

/-- One that raises nothing. -/
theorem vFloat_completes_plain (f : NFmt → Nat → Nat → Nat) (ready : VectorReady s h [.vreg a.toNat, .vreg b.toNat, .mask m] [(.vreg d.toNat, some 4)])
    (e : exec i s = onVec s (fun h => vFloat false Rp.none h g d a b m (fun t _ x y => (f t x y, Flg.none)) s)) :
    Completes i s (PlainLanes h g 4 d ((s.landed h).mread h m) (fun j =>
      BitVec.ofNat 32 (f .fp32 (lane ((s.landed h).vread h a.toNat) j).toNat (lane ((s.landed h).vread h b.toNat) j).toNat)) s) :=
  (vFloat_completes (fun t _ x y => (f t x y, Flg.none)) ready e).imp fun _ w => w.plain fun _ => rfl

/-- A floating form of two sources in fp64 (R164). -/
theorem vFloat_completes_fp64 (f : NFmt → Round → Nat → Nat → Nat × Flg) (ready : VectorReady s h [.vreg a.toNat, .vreg b.toNat, .mask m] [(.vreg d.toNat, some 6)])
    (e : exec i s = onVec s (fun h => vFloat true Rp.none h g d a b m f s)) :
    Completes i s (ElemWrites h g 6 d ((s.landed h).mread h m) (fun j =>
      let v := f .fp64 (roundOf ((s.landed h).res h).rmode) (elem ((s.landed h).vread h a.toNat) j).toNat (elem ((s.landed h).vread h b.toNat) j).toNat
      (BitVec.ofNat 64 v.1, v.2)) s) :=
  completes_vec ready.turn e (vMap_elems (a := some a) (b := some b) (dRead := false) g (fun r x y _ => f .fp64 r x y) ready)

/-- A form of one source in the 32-bit view (R168, R170). -/
theorem vUnary_completes {l : Nat} (f : Nat → Nat × Flg) (ready : VectorReady s h [.vreg a.toNat, .mask m] [(.vreg d.toNat, some l)])
    (e : exec i s = onVec s (fun h => vUnary false l Rp.none h g d a m f s)) :
    Completes i s (LaneWrites h g l d ((s.landed h).mread h m) (fun j =>
      let v := f (lane ((s.landed h).vread h a.toNat) j).toNat
      (BitVec.ofNat 32 v.1, v.2)) s) :=
  completes_vec ready.turn e (vMap_lanes (a := some a) (b := none) (dRead := false) g (fun _ x _ _ => f x) ready)

/-- One that raises nothing and gives v. -/
theorem vUnary_completes_plain {l : Nat} (f : Nat → Nat) {v : Nat → BitVec 32} (fv : ∀ x, BitVec.ofNat 32 (f x) = v x)
    (ready : VectorReady s h [.vreg a.toNat, .mask m] [(.vreg d.toNat, some l)])
    (e : exec i s = onVec s (fun h => vUnary false l Rp.none h g d a m (fun x => (f x, Flg.none)) s)) :
    Completes i s (PlainLanes h g l d ((s.landed h).mread h m) (fun j => v (lane ((s.landed h).vread h a.toNat) j).toNat) s) := by
  obtain rfl : (fun x => BitVec.ofNat 32 (f x)) = v := funext fv
  exact (vUnary_completes (fun x => (f x, Flg.none)) ready e).imp fun _ w => w.plain fun _ => rfl

/-- A form of one source in the fp64 view that raises nothing and gives v (R168). -/
theorem vUnary_completes_fp64 {l : Nat} (f : Nat → Nat) {v : Nat → BitVec 64} (fv : ∀ x, BitVec.ofNat 64 (f x) = v x)
    (ready : VectorReady s h [.vreg a.toNat, .mask m] [(.vreg d.toNat, some l)])
    (e : exec i s = onVec s (fun h => vUnary true l Rp.none h g d a m (fun x => (f x, Flg.none)) s)) :
    Completes i s (ElemWrites h g l d ((s.landed h).mread h m) (fun j => (v (elem ((s.landed h).vread h a.toNat) j).toNat, Flg.none)) s) := by
  obtain rfl : (fun x => BitVec.ofNat 64 (f x)) = v := funext fv
  exact completes_vec ready.turn e (vMap_elems (a := some a) (b := none) (dRead := false) g (fun _ x _ _ => (f x, Flg.none)) ready)

end

end Sys2Proof.Machine

open Sys2Proof Sys2Proof.Machine

/-- Settles O30: each floating form is one lane-wise form, in the 32-bit or the fp64 view. -/
theorem vectorFloatResults : Obligations.VectorFloatResults := by
  intro s h g d a b m n
  refine ⟨fun ready => ⟨?_, ?_, ?_, ?_, ?_⟩, fun ready => ?_, fun ready => ⟨?_, ?_, ?_, ?_, ?_⟩, fun ready => ?_, fun ready => ⟨?_, ?_, ?_, ?_⟩⟩
  · exact vFloat_completes fAdd ready (exec_vfadd ..)
  · exact vFloat_completes fSub ready (exec_vfsub ..)
  · exact vFloat_completes fMul ready (exec_vfmul ..)
  · exact vFloat_completes_plain fMin ready (exec_vfmin ..)
  · exact vFloat_completes_plain fMax ready (exec_vfmax ..)
  · exact completes_vec ready.turn (exec_vfma ..) (vMap_lanes (a := some a) (b := some b) (dRead := true) g (fun r x y z => fFma .fp32 r x y z) ready)
  · exact vFloat_completes_fp64 fAdd ready (exec_vdadd ..)
  · exact vFloat_completes_fp64 fSub ready (exec_vdsub ..)
  · exact vFloat_completes_fp64 fMul ready (exec_vdmul ..)
  · exact vFloat_completes_fp64 (fun t _ x y => (fMin t x y, Flg.none)) ready (exec_vdmin ..)
  · exact vFloat_completes_fp64 (fun t _ x y => (fMax t x y, Flg.none)) ready (exec_vdmax ..)
  · exact completes_vec ready.turn (exec_vdfma ..) (vMap_elems (a := some a) (b := some b) (dRead := true) g (fun r x y z => fFma .fp64 r x y z) ready)
  · exact vUnary_completes_plain (fun x => (BitVec.ofNat 32 x ^^^ 0x80000000#32).toNat) (ofNat_xor_sign 31) ready (exec_vfneg ..)
  · exact vUnary_completes_plain (fun x => x % 2 ^ 31) (fun _ => rfl) ready (exec_vfabs ..)
  · exact vUnary_completes_fp64 (fun x => (BitVec.ofNat 64 x ^^^ 0x8000000000000000#64).toNat) (ofNat_xor_sign 63) ready (exec_vdneg ..)
  · exact vUnary_completes_fp64 (fun x => x % 2 ^ 63) (fun _ => rfl) ready (exec_vdabs ..)
end

section
/-!
Lane values of the permutes, the compare-exchange stage, VDOT and the log path (R63, R169, R170, R174, R175).
-/

namespace Sys2Proof.Machine
open Sys2Proof

/-! ## Integers by their codes -/

/-- The value of a signed code is that of its bits in two's complement (R49). -/
theorem intOf_signed {f : NFmt} (int : f.isInt = true) (signed : f ≠ .nat8) (x : Nat) : intOf f x = (BitVec.ofNat f.width x).toInt := by
  have pos : 0 < f.width := by cases f <;> decide
  have half : 2 ^ f.width = 2 * 2 ^ (f.width - 1) := by rw [← Nat.pow_succ', Nat.succ_eq_add_one, Nat.sub_add_cancel pos]
  have low := Nat.mod_lt x (Nat.two_pow_pos f.width)
  rw [intOf, decodeNum, if_pos int, BitVec.toInt_eq_toNat_cond, BitVec.toNat_ofNat]
  by_cases top : 2 ^ (f.width - 1) ≤ x % 2 ^ f.width
  · simp only [signed, top, ne_eq, not_false_eq_true, and_self, if_true]
    rw [if_neg (by omega), Nat.cast_sub low.le]
    push_cast
    ring
  · simp only [top, and_false, if_false, Bool.false_eq_true]
    rw [if_pos (by omega)]

/-- sat_s32 (R5). -/
theorem satS32_eq (x : Int) : satS32 x = (max (-(2 ^ 31)) (min (2 ^ 31 - 1) x), decide (x < -(2 ^ 31) ∨ 2 ^ 31 - 1 < x)) := by
  unfold satS32
  split
  · next low => exact Prod.ext (by omega) (decide_eq_true (.inl low)).symm
  · next low =>
    split
    · next high => exact Prod.ext (by omega) (decide_eq_true (.inr high)).symm
    · next high => exact Prod.ext (by omega) (decide_eq_false (not_or.mpr ⟨low, high⟩)).symm

/-! ## VDOT -/

/-- Byte i of a lane, signed. -/
theorem intOf_byte (v : BitVec 32) (i : Nat) : intOf .int8 (v.toNat / 2 ^ (8 * i)) = (v.extractLsb' (8 * i) 8).toInt := by
  have bits : BitVec.ofNat 8 (v.toNat / 2 ^ (8 * i)) = v.extractLsb' (8 * i) 8 :=
    BitVec.eq_of_toNat_eq (by rw [BitVec.extractLsb'_toNat, BitVec.toNat_ofNat, Nat.shiftRight_eq_div_pow])
  exact (intOf_signed rfl (by decide) _).trans (congrArg BitVec.toInt bits)

theorem intOf_lane (v : BitVec 32) : intOf .int32 v.toNat = v.toInt := by
  rw [intOf_signed rfl (by decide)]
  exact congrArg BitVec.toInt (BitVec.ofNat_toNat 32 v)

/-- The four products of VDOT added to its third source, saturating (R63). -/
theorem dot8_lanes (x y z : BitVec 32) : dot8 x.toNat y.toNat z.toNat =
    (let byte := fun (v : BitVec 32) i => (v.extractLsb' (8 * i) 8).toInt
     let dot := z.toInt + (byte x 0 * byte y 0 + byte x 1 * byte y 1 + byte x 2 * byte y 2 + byte x 3 * byte y 3)
     ((BitVec.ofInt 32 (max (-(2 ^ 31)) (min (2 ^ 31 - 1) dot))).toNat, { Flg.none with ovf := decide (dot < -(2 ^ 31) ∨ 2 ^ 31 - 1 < dot) })) := by
  simp only [dot8, satS32_eq, intOf_byte, intOf_lane, show List.range 4 = [0, 1, 2, 3] from rfl, List.foldl_cons, List.foldl_nil, Int.zero_add]

/-! ## The compare-exchange stage -/

/-- The exchange of a pair is decided at its lower lane, by whichever lane it is asked (R175). -/
theorem cmpxSwap_iff (t e : BitVec 1) (b : BitVec 4) (j : BitVec 3) (v : VReg) (i : Nat) :
    let p := if i.testBit j.toNat then i - 2 ^ j.toNat else i + 2 ^ j.toNat
    let key := fun i => cmpxKey t (lane v i)
    cmpxSwap t e b j v i = true ↔ if (!(Nat.min i p).testBit b.toNat) != decide (e = 1) then key (Nat.max i p) < key (Nat.min i p) else key (Nat.min i p) < key (Nat.max i p) := by
  intro p key
  have pair : min i p = (if i.testBit j.toNat then i - 2 ^ j.toNat else i) ∧ max i p = (if i.testBit j.toNat then i - 2 ^ j.toNat else i) + 2 ^ j.toNat := by
    by_cases hb : i.testBit j.toNat = true
    · have := Nat.ge_two_pow_of_testBit hb
      rw [show p = i - 2 ^ j.toNat from if_pos hb, if_pos hb]
      exact ⟨Nat.min_eq_right (Nat.sub_le ..), by rw [Nat.max_eq_left (Nat.sub_le ..), Nat.sub_add_cancel this]⟩
    · rw [show p = i + 2 ^ j.toNat from if_neg hb, if_neg hb]
      exact ⟨Nat.min_eq_left (Nat.le_add_right ..), Nat.max_eq_right (Nat.le_add_right ..)⟩
  have decides : ∀ (up : Bool) (x y : Int), ((up && decide (x < y)) || (!up && decide (y < x))) = true ↔ if up then x < y else y < x := fun up x y => by
    cases up <;> simp
  show _ ↔ if (!(min i p).testBit b.toNat) != decide (e = 1) then key (max i p) < key (min i p) else key (min i p) < key (max i p)
  rw [pair.1, pair.2]
  exact decides _ _ _

theorem lane_cmpxMove (t e : BitVec 1) (b : BitVec 4) (j : BitVec 3) (keys x : VReg) {i : Nat} (hi : i < 128) :
    lane (cmpxMove t e b j keys x) i =
      if cmpxSwap t e b j keys i then lane x (if i.testBit j.toNat then i - 2 ^ j.toNat else i + 2 ^ j.toNat) else lane x i := lane_ofLanes _ hi

theorem cmpxKey_eq (t : BitVec 1) (x : BitVec 32) : cmpxKey t x = if t = 1 ∧ x.getLsbD 31 = true then (x ^^^ 0x7FFFFFFF).toInt else x.toInt := by
  simp [cmpxKey]

/-! ## A register written as a whole -/

/-- A fixed-latency instruction with one vector register to write, whose registers are ready, leaves that write (R97). -/
theorem vWrite_completes {s : State} {h l : Nat} {i : Instr} {g : BitVec 2} {d : BitVec 7} {rd : Nat → List VTgt} {val en : Nat → State → VReg}
    (ready : VectorReady s h (rd h) [(.vreg d.toNat, some l)])
    (e : exec i s = onVec s (fun h => vFixed Rp.none h g l (rd h) [.vreg d.toNat] (fun s => VRes.of [vwReg (s.res h) Rp.none d.toNat (val h s) (en h s)]) s)) :
    Completes i s (FixedWrites h g l (.vreg d.toNat) (en h (s.landed h)) (val h (s.landed h)) Flg.none s) :=
  completes_vec ready.turn e (vFixed_writes g ready (congrArg (fun w => ({ VRes.of [w] with flg := Flg.none } : VRes)) (vwReg_plain ready (List.mem_singleton_self _) _ _)))

theorem Flg.code_none : Flg.none.code = 0 := by decide

/-- Two writes of one instruction join the others in their order; neither carries a flag (R97). -/
theorem Resident.apply_two (r : Resident) (l : Nat) (v w : VW) : r.apply l (VRes.of [v, w]) = { r with
    pend := insertPend { at_ := r.vpos + l, tgt := w.tgt, val := w.val, en := w.en, flg := 0 } (insertPend { at_ := r.vpos + l, tgt := v.tgt, val := v.val, en := v.en, flg := 0 } r.pend) } := by
  simp only [Resident.apply, VRes.of, List.foldl, Resident.pendOf, Flg.code_none]
  rfl

theorem LaneWrites.congr {h l : Nat} {g : BitVec 2} {d : BitVec 7} {m : BitVec 128} {f f' : Nat → BitVec 32 × Flg} {s t : State} (w : LaneWrites h g l d m f s t)
    (e : ∀ j, f j = f' j) : LaneWrites h g l d m f' s t := funext e ▸ w

/-! ## Masks that are all ones -/

/-- m0 meets no gap rule, so reading it asks nothing more (R99). -/
theorem VectorReady.withM0 {s : State} {h : Nat} {rd : List VTgt} {wr : List (VTgt × Option Nat)} (ready : VectorReady s h rd wr) :
    VectorReady s h (rd ++ [.mask 0]) wr := by
  obtain ⟨turn, ports, gap⟩ := ready
  refine ⟨turn, fun n => ?_, gap.imp_right fun ⟨reads, writes⟩ => ⟨fun t ht real => ?_, writes⟩⟩
  · simpa using ports n
  · rcases List.mem_append.mp ht with ht | ht
    · exact reads t ht real
    · rw [List.mem_singleton.mp ht] at real
      cases real

end Sys2Proof.Machine

open Sys2Proof Sys2Proof.Machine

/-- Settles O33: a permute and an exchange write the vector of their lanes; VDOT and the log path are lane-wise forms. -/
theorem vectorPermutesAndLogPath : Obligations.VectorPermutesAndLogPath := by
  intro s h g d a b m n ty e blk jb pw u mk x y z w key partner up swaps byte dot three
  have swap : ∀ j, cmpxSwap ty e blk jb (u.vread h d.toNat) j = decide (swaps j) := fun j => by
    rw [Bool.eq_iff_iff, decide_eq_true_iff]
    exact (cmpxSwap_iff ..).trans (by simp only [cmpxKey_eq]; rfl)
  have moved : ∀ (v : VReg) j, j < 128 → lane (cmpxMove ty e blk jb (u.vread h d.toNat) v) j = if swaps j then lane v (partner j) else lane v j := fun v j hj => by
    rw [lane_cmpxMove _ _ _ _ _ _ hj, swap]
    simp only [decide_eq_true_iff]
    rfl
  refine ⟨fun ready => ?_, fun ready _ => ?_, fun ready _ => ?_, fun ready => ?_, fun ready => ⟨?_, ?_⟩, fun ready => ?_, fun ready => ⟨?_, ?_, ?_, ?_⟩⟩
  · exact (vWrite_completes (rd := fun _ => _) ready (exec_vperm g d a b m s)).imp fun t writes => ⟨_, writes, fun i hi _ => lane_ofLanes _ hi⟩
  · exact (vWrite_completes (rd := fun _ => _) ready (exec_vcmpx g d ty e blk jb s)).imp fun t writes =>
      ⟨_, laneBits_allLanes ▸ writes, fun i hi _ => moved _ i hi⟩
  · obtain ⟨t, runs, issues⟩ := vFixed_issues g (wr := [.vreg d.toNat, .vreg a.toNat]) (val := fun s => VRes.of [vwReg (s.res h) Rp.none d.toNat
      (cmpxMove ty e blk jb (s.vread h d.toNat) (s.vread h d.toNat)) allBits, vwReg (s.res h) Rp.none a.toNat (cmpxMove ty e blk jb (s.vread h d.toNat) (s.vread h a.toNat)) allBits]) ready
    rw [vwReg_plain ready (l := some 3) (by simp), vwReg_plain ready (l := some 3) (by simp), Resident.apply_two] at issues
    exact completes_vec ready.turn (exec_vcmpxPayload ..) ⟨t, runs, _, _, fun j hj => ⟨moved _ j hj, moved _ j hj⟩, issues⟩
  · refine (completes_vec ready.turn (exec_vdot ..) (vMap_lanes (a := some a) (b := some b) (dRead := true) g (fun _ x y z => dot8 x y z) ready)).imp fun t w => w.congr fun j => ?_
    exact (congrArg (fun v : Nat × Flg => (BitVec.ofNat 32 v.1, v.2)) (dot8_lanes (x j) (y j) (z j))).trans (Prod.ext (BitVec.ofNat_toNat ..) rfl)
  · exact completes_vec ready.turn (exec_vlmul ..) (vMap_lanes (a := some a) (b := some b) (dRead := false) g (fun _ x y _ => lgMul x y) ready)
  · exact completes_vec ready.turn (exec_vldiv ..) (vMap_lanes (a := some a) (b := some b) (dRead := false) g (fun _ x y _ => lgDiv x y) ready)
  · exact completes_vec ready.turn (exec_vlpow ..) (vMap_lanes (a := none) (b := none) (dRead := true) (m := 0) g (fun _ _ _ x => lgPow x pw.toInt) ready.withM0)
  · exact vUnary_completes toLog ready (exec_vtolog ..)
  · exact vUnary_completes fromLog ready (exec_vfromlog ..)
  · exact vUnary_completes exp2L ready (exec_vexp2l ..)
  · exact vUnary_completes log2F ready (exec_vlog2f ..)
end

section
/-!
Conversions of a vector's elements one after another, packs and unpacks (R57 to R59, R171 to R173).
-/

namespace Sys2Proof.Machine
open Sys2Proof

/-! ## Conversions -/

/-- Conversions whose element j rounds by rnd j, the generator standing at st j before it. -/
structure Conversion (code rmode : Nat) (rnd : Nat → Round) (st : Nat → Word) : Prop where
  round : ∀ j, cvtRound code rmode (st j) = (rnd j, st (j + 1))

theorem Conversion.tail {code rmode : Nat} {rnd : Nat → Round} {st : Nat → Word} (c : Conversion code rmode rnd st) :
    Conversion code rmode (fun j => rnd (j + 1)) (fun j => st (j + 1)) := ⟨fun j => c.round (j + 1)⟩

/-- The digits and the last generator state of a vector's conversion (R59, R172). -/
theorem cvtAll_eq (dst src : NFmt) {code rmode : Nat} {rnd : Nat → Round} {st : Nat → Word} (c : Conversion code rmode rnd st) (xs : List Nat) :
    (∀ j, j < xs.length → (cvtAll dst src code rmode xs (st 0)).1.getD j 0 = cvtFill dst (convert dst src (rnd j) (xs.getD j 0)).1) ∧
      (cvtAll dst src code rmode xs (st 0)).2.2 = st xs.length := by
  induction xs generalizing rnd st with
  | nil => exact ⟨fun j hj => absurd hj (Nat.not_lt_zero j), rfl⟩
  | cons x xs ih =>
    obtain ⟨values, last⟩ := ih c.tail
    simp only [cvtAll, c.round]
    refine ⟨fun j hj => ?_, last⟩
    cases j with
    | zero => rfl
    | succ j => exact values j (Nat.lt_of_succ_lt_succ hj)

/-- Its flags are those of its elements. -/
theorem flagsOf_cvtAll (dst src : NFmt) {code rmode : Nat} {rnd : Nat → Round} {st : Nat → Word} (c : Conversion code rmode rnd st) (xs : List Nat) :
    FlagsOf (cvtAll dst src code rmode xs (st 0)).2.1 (fun f => ∃ j, j < xs.length ∧ f = (convert dst src (rnd j) (xs.getD j 0)).2) := by
  refine flagsOf_of fun p por pnone => ?_
  induction xs generalizing rnd st with
  | nil => simp [cvtAll, pnone]
  | cons x xs ih =>
    simp only [cvtAll, c.round, por, Bool.or_eq_true, ih c.tail]
    constructor
    · rintro (raised | ⟨_, ⟨j, hj, rfl⟩, raised⟩)
      · exact ⟨_, ⟨0, Nat.succ_pos _, rfl⟩, raised⟩
      · exact ⟨_, ⟨j + 1, Nat.succ_lt_succ hj, rfl⟩, raised⟩
    · rintro ⟨_, ⟨j, hj, rfl⟩, raised⟩
      cases j with
      | zero => exact .inl raised
      | succ j => exact .inr ⟨_, ⟨j, Nat.lt_of_succ_lt_succ hj, rfl⟩, raised⟩

/-- A mode that is not stochastic leaves the generator (R57). -/
theorem conversion_fixed {code rmode : Nat} {rng : Word} {r : Round} (e : cvtRound code rmode rng = (r, rng)) : Conversion code rmode (fun _ => r) (fun _ => rng) :=
  ⟨fun _ => e⟩

/-- A stochastic one steps it before each element (R58, R59). -/
theorem conversion_stochastic {code rmode : Nat} (sr : code = 4 ∨ code = 5 ∧ rmode = 4) (rng : Word) :
    Conversion code rmode (fun j => .sr (rhoOf (Nat.repeat rngStep (j + 1) rng))) (fun j => Nat.repeat rngStep j rng) := by
  have stochastic : (decide (code = 4) || (decide (code = 5) && decide (rmode = 4))) = true := by
    rcases sr with rfl | ⟨rfl, rfl⟩ <;> rfl
  exact ⟨fun j => if_pos stochastic⟩

/-- The number of elements of a conversion, and element j of its source (R172). -/
def cvtCount (dst src : NFmt) : Nat := if dst = .fp64 ∨ src = .fp64 then 64 else 128
def cvtSource (src : NFmt) (v : VReg) (j : Nat) : Nat := if src = .fp64 then (elem v j).toNat else (lane v j).toNat

/-- The bits of the destination that a conversion writes (R172). -/
def cvtBits (src : NFmt) : VReg := if src = .fp64 then laneBits (BitVec.ofNat 128 (2 ^ 64 - 1)) else allBits

/-- What a conversion computes: the digits, the flags, the generator (R172). -/
def State.converted (s : State) (h code : Nat) (a : BitVec 7) (dst src : NFmt) : List Nat × Flg × Word :=
  cvtAll dst src code (s.res h).rmode ((List.range (cvtCount dst src)).map (cvtSource src (s.vread h a.toNat))) (s.res h).rng

/-- The vector that the digits of a conversion make. -/
def cvtVector (dst : NFmt) (vs : List Nat) : VReg := BitVec.ofNat 4096 (ofDigits (if dst = .fp64 then 64 else 32) vs)

/-- What it writes. -/
def State.cvtRes (s : State) (h code : Nat) (d a : BitVec 7) (dst src : NFmt) : VRes :=
  { VRes.of [vwReg (s.res h) Rp.none d.toNat (cvtVector dst (s.converted h code a dst src).1) (cvtBits src)] with
    flg := (s.converted h code a dst src).2.1, rng := some (s.converted h code a dst src).2.2 }

/-- A conversion between two named formats is a fixed-latency instruction (R171). -/
theorem vConvert_eq {t c : BitVec 4} {dst src : NFmt} (hd : NFmt.ofCode t.toNat = some dst) (hs : NFmt.ofCode c.toNat = some src) (code h : Nat) (g : BitVec 2)
    (d a : BitVec 7) (s : State) : vConvert code Rp.none h g d a t c s = vFixed Rp.none h g 4 [.vreg a.toNat] [.vreg d.toNat] (fun s => s.cvtRes h code d a dst src) s := by
  unfold vConvert
  rw [hd, hs]
  simp only [State.cvtRes, State.converted, cvtCount, Bool.or_eq_true, decide_eq_true_eq]
  rfl

/-- VCVT and VCVTSR convert the elements of their source one after another and leave the generator where the last one left it (R171, R172). -/
theorem vConvert_completes {s : State} {h code : Nat} {i : Instr} {g : BitVec 2} {d a : BitVec 7} {t c : BitVec 4} {dst src : NFmt} {rnd : Nat → Round} {st : Nat → Word}
    (ready : VectorReady s h [.vreg a.toNat] [(.vreg d.toNat, some 4)]) (hd : NFmt.ofCode t.toNat = some dst) (hs : NFmt.ofCode c.toNat = some src)
    (conv : Conversion code ((s.landed h).res h).rmode rnd st) (start : st 0 = ((s.landed h).res h).rng)
    (e : exec i s = onVec s (fun h => vConvert code Rp.none h g d a t c s)) :
    let r := (s.landed h).res h
    let x := cvtSource src ((s.landed h).vread h a.toNat)
    Completes i s (fun u => ∃ val fl,
      (let p : PendW := { at_ := r.vpos + 4, tgt := .vreg d.toNat, val := val, en := cvtBits src, flg := fl.code }
       VectorIssues h g { r with rng := st (cvtCount dst src), pend := insertPend p r.pend } s u) ∧
      (∀ j, j < cvtCount dst src → (if dst = .fp64 then elem val j = BitVec.ofNat 64 (cvtFill dst (convert dst src (rnd j) (x j)).1)
        else lane val j = BitVec.ofNat 32 (cvtFill dst (convert dst src (rnd j) (x j)).1))) ∧
      FlagsOf fl (fun f => ∃ j, j < cvtCount dst src ∧ f = (convert dst src (rnd j) (x j)).2)) := by
  intro r x
  have length : ((List.range (cvtCount dst src)).map x).length = cvtCount dst src := by simp
  have element : ∀ {j}, j < cvtCount dst src → ((List.range (cvtCount dst src)).map x).getD j 0 = x j := fun hj => getD_map_range x hj
  have all : (s.landed h).converted h code a dst src = cvtAll dst src code r.rmode ((List.range (cvtCount dst src)).map x) (st 0) := by rw [start]; rfl
  obtain ⟨values, last⟩ := cvtAll_eq dst src conv ((List.range (cvtCount dst src)).map x)
  have flags := flagsOf_cvtAll dst src conv ((List.range (cvtCount dst src)).map x)
  rw [← all, length] at values last flags
  obtain ⟨u, runs, issues⟩ := vFixed_issues g (wr := [.vreg d.toNat]) (val := fun s => s.cvtRes h code d a dst src) ready
  rw [State.cvtRes, vwReg_plain ready (List.mem_singleton_self _), last] at issues
  refine completes_vec ready.turn e ⟨u, (vConvert_eq hd hs code h g d a s).trans runs, _, _, issues, fun j hj => ?_, ?_⟩
  · have value := values j hj
    rw [element hj] at value
    rw [cvtVector, ← value]
    unfold cvtCount at hj
    split
    · next wide => exact elem_ofDigits _ (by simpa [wide] using hj)
    · next narrow => exact lane_ofDigits _ (by split at hj <;> omega)
  · convert flags using 2
    exact exists_congr fun j => and_congr_right fun hj => by rw [element hj]

/-! ## Packs and unpacks -/

/-- Bit b of element j among packed elements (R173). -/
theorem testBit_ofDigits {w b : Nat} (l : List Nat) (j : Nat) (hb : b < w) : (ofDigits w l).testBit (w * j + b) = (l.getD j 0).testBit b := by
  have digit := congrArg (Nat.testBit · b) (ofDigits_digit w l j)
  simpa [Nat.testBit_mod_two_pow, Nat.testBit_div_two_pow, hb, Nat.add_comm] using digit

/-- A field of a field (R173). -/
theorem ofNat_field (v : VReg) (w k j : Nat) : BitVec.ofNat 32 (v.toNat / 2 ^ (128 * w * k) / 2 ^ (w * j) % 2 ^ w) = (v.extractLsb' (128 * w * k + w * j) w).setWidth 32 := by
  refine BitVec.eq_of_toNat_eq ?_
  rw [BitVec.toNat_setWidth, BitVec.extractLsb'_toNat, BitVec.toNat_ofNat, Nat.shiftRight_eq_div_pow, Nat.div_div_eq_div_mul, ← Nat.pow_add]

end Sys2Proof.Machine

open Sys2Proof Sys2Proof.Machine

/-- Settles O34: a conversion goes through its elements in order; packs and unpacks are a field of each lane. -/
theorem vectorConversions : Obligations.VectorConversions := by
  intro s h g d a t c q k3 k4 wd dst src u r va n x en steps converts packs unpacks ready4 ready2 hd hs pair
  have convertsAs : ∀ {code : Nat} {rnd : Nat → Round} {st : Nat → Word} {i : Instr}, Conversion code r.rmode rnd st → st 0 = r.rng →
      exec i s = onVec s (fun h => vConvert code Rp.none h g d a t c s) → Completes i s (converts rnd (st n)) :=
    fun conv start e => vConvert_completes ready4 hd hs conv start e
  have packsAs : ∀ {w k : Nat} {i : Instr}, exec i s = onVec s (fun h => vPackW w k Rp.none h g d a s) → Completes i s (packs w k) := fun {w k i} e => by
    refine (vWrite_completes (rd := fun _ => _) ready2 e).imp fun t writes => ⟨_, fun j b hj hb inside => ?_, writes⟩
    rw [BitVec.getLsbD_ofNat, decide_eq_true inside, Bool.true_and, Nat.testBit_mul_two_pow, Nat.add_assoc, decide_eq_true (Nat.le_add_right ..), Bool.true_and,
      Nat.add_sub_cancel_left, testBit_ofDigits _ _ hb, getD_map_range _ hj, BitVec.testBit_toNat]
  have unpacksAs : ∀ {w k : Nat} {i : Instr}, exec i s = onVec s (fun h => vUnpackW w k Rp.none h g d a s) → Completes i s (unpacks w k) := fun e =>
    (vWrite_completes (rd := fun _ => _) ready2 e).imp fun t writes => ⟨_, writes, fun j hj => (lane_ofLanes _ hj).trans (ofNat_field ..)⟩
  refine ⟨?_, fun sr => ?_, fun resident other => ?_, packsAs (exec_vpack ..), packsAs (exec_vpackE3m2 ..), unpacksAs (exec_vunpk ..), unpacksAs (exec_vunpkE3m2 ..)⟩
  · refine convertsAs (conversion_fixed ?_) rfl (exec_vcvt ..)
    rcases bitVec2_cases q with rfl | rfl | rfl | rfl <;> rfl
  · refine convertsAs (conversion_stochastic ?_ r.rng) rfl (exec_vcvtSr ..)
    rcases sr with rfl | ⟨rfl, four⟩
    · exact .inl rfl
    · exact .inr ⟨rfl, four⟩
  · subst resident
    exact convertsAs (conversion_fixed (code := 5) (by simp [cvtRound, other])) rfl (exec_vcvtSr ..)
end

section
/-!
The work of the matrix datapath: words of a slab, completion, gating and waking of sub-arrays (R197, R200, R207, R209, R225, R226).
-/

namespace Sys2Proof.Machine
open Sys2Proof

/-! ## Words of a slab -/

/-- Beside slab words and sticky flags, state u is state s. -/
structure SlabWork (s u : State) : Prop where
  rest : u = { s with tiles := u.tiles, residents := u.residents }
  tile : ∀ q, u.tile q = { s.tile q with slabs := (u.tile q).slabs }
  res : ∀ q, u.res q = { s.res q with rctl := (u.res q).rctl }

theorem SlabWork.refl (s : State) : SlabWork s s := ⟨rfl, fun _ => rfl, fun _ => rfl⟩

theorem SlabWork.trans {s t u : State} (a : SlabWork s t) (b : SlabWork t u) : SlabWork s u :=
  ⟨by rw [b.rest, a.rest], fun q => by rw [b.tile, a.tile], fun q => by rw [b.res, a.res]⟩

/-- The update of one word of a slab (R208, R209). -/
def State.slabStep (h z : Nat) (f : Nat → Nat → BitVec 32 → BitVec 32 × Flg) (s : State) (p : Nat × Nat) : State :=
  let v := f p.1 p.2 (s.slabWord (hTile h) z (64 * p.1 + p.2))
  (s.setSlabWord (hTile h) z (64 * p.1 + p.2) v.1).modRes h (fun r => r.raise v.2.matrix)

/-- The rows and columns of a product, row by row. -/
def slabCells (m n : Nat) : List (Nat × Nat) := (List.range m).flatMap (fun i => (List.range n).map (fun j => (i, j)))

theorem mem_slabCells {m n : Nat} {p : Nat × Nat} : p ∈ slabCells m n ↔ p.1 < m ∧ p.2 < n := by
  obtain ⟨i, j⟩ := p
  simp [slabCells]

theorem slabMap_eq (s : State) (h z m n : Nat) (f : Nat → Nat → BitVec 32 → BitVec 32 × Flg) :
    s.slabMap h z m n f = (slabCells m n).foldl (State.slabStep h z f) s := by
  simp only [State.slabMap, slabCells, List.foldl_flatMap, List.foldl_map]
  rfl

theorem slabWork_step (h z : Nat) (f : Nat → Nat → BitVec 32 → BitVec 32 × Flg) (s : State) (p : Nat × Nat) : SlabWork s (s.slabStep h z f p) := by
  refine ⟨rfl, fun q => ?_, fun q => ?_⟩
  · simp only [State.slabStep, State.setSlabWord, State.modRes_eq, State.modTile_eq, State.tile_setRes]
    by_cases e : q = hTile h
    · subst e; simp
    · rw [State.tile_setTile_other _ _ e]
  · simp only [State.slabStep, State.setSlabWord, State.modRes_eq, State.modTile_eq]
    by_cases e : q = h
    · subst e; simp [Resident.raise]
    · rw [State.res_setRes_other _ _ e, State.res_setTile]

theorem slabWork_foldl (h z : Nat) (f : Nat → Nat → BitVec 32 → BitVec 32 × Flg) (l : List (Nat × Nat)) (s : State) :
    SlabWork s (l.foldl (State.slabStep h z f) s) := by
  induction l generalizing s with
  | nil => exact .refl s
  | cons p l ih => exact (slabWork_step h z f s p).trans (ih _)

/-- A word of a tile's slabs after one update. -/
theorem slabs_step (h z : Nat) (f : Nat → Nat → BitVec 32 → BitVec 32 × Flg) (s : State) (p : Nat × Nat) (q x : Nat) :
    fget (0 : BitVec 32) ((s.slabStep h z f p).tile q).slabs x =
      if q = hTile h ∧ x = 4096 * z + (64 * p.1 + p.2) then (f p.1 p.2 (s.slabWord (hTile h) z (64 * p.1 + p.2))).1 else fget 0 (s.tile q).slabs x := by
  simp only [State.slabStep, State.setSlabWord, State.modRes_eq, State.modTile_eq, State.tile_setRes]
  by_cases e : q = hTile h
  · subst e
    rw [State.tile_setTile]
    by_cases ex : x = 4096 * z + (64 * p.1 + p.2)
    · subst ex; simp
    · simp [ex, fget_fset_other _ _ _ ex]
  · simp [e, State.tile_setTile_other _ _ e]

/-- Words that no update names are kept. -/
theorem slabs_foldl_other {h z q x : Nat} (f : Nat → Nat → BitVec 32 → BitVec 32 × Flg) {l : List (Nat × Nat)} (other : ∀ p ∈ l, q = hTile h → x ≠ 4096 * z + (64 * p.1 + p.2))
    (s : State) : fget (0 : BitVec 32) ((l.foldl (State.slabStep h z f) s).tile q).slabs x = fget 0 (s.tile q).slabs x := by
  induction l generalizing s with
  | nil => rfl
  | cons p l ih =>
    rw [List.foldl_cons, ih (fun p hp => other p (List.mem_cons_of_mem _ hp)), slabs_step, if_neg fun e => other p List.mem_cons_self e.1 e.2]

/-- A word that one update names takes that update's value. -/
theorem slabs_foldl_same {h z : Nat} (f : Nat → Nat → BitVec 32 → BitVec 32 × Flg) {l : List (Nat × Nat)} (once : (l.map (fun p => 64 * p.1 + p.2)).Nodup) {p : Nat × Nat}
    (hp : p ∈ l) (s : State) : (l.foldl (State.slabStep h z f) s).slabWord (hTile h) z (64 * p.1 + p.2) = (f p.1 p.2 (s.slabWord (hTile h) z (64 * p.1 + p.2))).1 := by
  induction l generalizing s with
  | nil => cases hp
  | cons c l ih =>
    obtain ⟨new, once⟩ := List.nodup_cons.mp once
    have fresh : ∀ e ∈ l, 64 * e.1 + e.2 ≠ 64 * c.1 + c.2 := fun e he eq => new (List.mem_map.mpr ⟨e, he, eq⟩)
    rcases List.mem_cons.mp hp with rfl | hp
    · rw [List.foldl_cons, State.slabWord, slabs_foldl_other f fun e he _ => ?_, slabs_step, if_pos ⟨rfl, rfl⟩]
      have := fresh e he
      omega
    · rw [List.foldl_cons, ih once hp]
      congr 1
      refine congrArg _ ?_
      rw [State.slabWord, slabs_step, if_neg, State.slabWord]
      have := fresh p hp
      omega

theorem slabCells_once {m n : Nat} (hn : n ≤ 64) : ((slabCells m n).map (fun p => 64 * p.1 + p.2)).Nodup := by
  refine List.Nodup.map_on ?_ ?_
  · rintro ⟨i, j⟩ hp ⟨i', j'⟩ hq e
    have := mem_slabCells.mp hp
    have := mem_slabCells.mp hq
    simp only [Prod.mk.injEq] at *
    omega
  · refine List.nodup_flatMap.mpr ⟨fun i _ => List.nodup_range.map fun j j' e => (Prod.mk.inj e).2, List.nodup_range.imp_of_mem fun _ _ ne => ?_⟩
    intro p hp hq
    obtain ⟨j, -, rfl⟩ := List.mem_map.mp hp
    obtain ⟨j', -, e⟩ := List.mem_map.mp hq
    exact ne (Prod.mk.inj e).1.symm

section
variable {h z m n : Nat} (f : Nat → Nat → BitVec 32 → BitVec 32 × Flg) (s : State)

theorem slabWork_slabMap : SlabWork s (s.slabMap h z m n f) := slabMap_eq s h z m n f ▸ slabWork_foldl h z f _ s

/-- A word of the rows and columns named takes f of its old value. -/
theorem slabWord_slabMap {i j : Nat} (hn : n ≤ 64) (hi : i < m) (hj : j < n) :
    (s.slabMap h z m n f).slabWord (hTile h) z (64 * i + j) = (f i j (s.slabWord (hTile h) z (64 * i + j))).1 := by
  rw [slabMap_eq]
  exact slabs_foldl_same f (slabCells_once hn) (p := (i, j)) (mem_slabCells.mpr ⟨hi, hj⟩) s

/-- Any other word of any tile is kept. -/
theorem slabs_slabMap_other {q x : Nat} (other : q = hTile h → ∀ i j, i < m → j < n → x ≠ 4096 * z + (64 * i + j)) :
    fget (0 : BitVec 32) ((s.slabMap h z m n f).tile q).slabs x = fget 0 (s.tile q).slabs x := by
  rw [slabMap_eq]
  exact slabs_foldl_other f (fun p hp e => other e p.1 p.2 (mem_slabCells.mp hp).1 (mem_slabCells.mp hp).2) s

end

theorem SlabWork.elemAt {s u : State} (a : SlabWork s u) (h : Nat) (q : BitVec 512) (x k : Nat) : u.elemAt h q x k = s.elemAt h q x k := by
  unfold State.elemAt State.packedAt State.spadNat State.spadRead
  rw [a.tile, a.res]
  rfl

/-! ## Integer products -/

/-- One chunk's products added to a word, saturating (R66). -/
theorem chunkUpdateInt_eq (ks : List Nat) (a b : Nat → Int) (w : BitVec 32) : (chunkUpdateInt (ks.map (fun k => (a k, b k))) w).1 =
    BitVec.ofInt 32 (max (-(2 ^ 31)) (min (2 ^ 31 - 1) (w.toInt + (ks.map (fun k => a k * b k)).sum))) := by
  simp only [chunkUpdateInt, satS32_eq, List.foldl_map, List.sum_eq_foldl]

/-- The state a unit of MMA adds to: the first one of a product with ZI finds +0 (R208). -/
def mmaStart (s : State) (h z : Nat) (shape : Word) (zi : Bool) (c : Nat) : State :=
  if zi && decide (c = 0) then s.slabZero h z (shM shape) (shN shape) else s

theorem slabWork_mmaStart (s : State) (h z : Nat) (shape : Word) (zi : Bool) (c : Nat) : SlabWork s (mmaStart s h z shape zi c) := by
  unfold mmaStart
  split
  · exact slabWork_slabMap ..
  · exact .refl s

section
variable {s : State} {h z c : Nat} {qa qb : BitVec 512} {shape : Word} {zi : Bool}

/-- Unit c of MMA over integers (R209). -/
theorem mmaUnit_int (ia : (mqFormat qa).isInt = true) (ib : (mqFormat qb).isInt = true) : mmaUnit s h z qa qb shape zi c =
    (mmaStart s h z shape zi c).slabMap h z (shM shape) (shN shape) (fun i j w =>
      chunkUpdateInt ((unitRange c (chunkLen (mqFormat qa) (mqFormat qb)) (shK shape)).map
        (fun k => (intOf (mqFormat qa) (s.elemAt h qa i k), intOf (mqFormat qb) (s.elemAt h qb j k)))) w) := by
  have kept := (slabWork_mmaStart s h z shape zi c).elemAt
  unfold mmaUnit
  simp only [ia, ib, Bool.and_self, if_true]
  rw [← mmaStart]
  simp only [kept]

theorem slabWork_mmaUnit (ia : (mqFormat qa).isInt = true) (ib : (mqFormat qb).isInt = true) : SlabWork s (mmaUnit s h z qa qb shape zi c) := by
  rw [mmaUnit_int ia ib]
  exact (slabWork_mmaStart s h z shape zi c).trans (slabWork_slabMap ..)

/-- What a word of the product holds when the unit begins. -/
theorem slabWord_mmaStart {i j : Nat} (hn : shN shape ≤ 64) (hi : i < shM shape) (hj : j < shN shape) :
    (mmaStart s h z shape zi c).slabWord (hTile h) z (64 * i + j) = if zi = true ∧ c = 0 then 0 else s.slabWord (hTile h) z (64 * i + j) := by
  unfold mmaStart
  simp only [Bool.and_eq_true, decide_eq_true_eq]
  split
  · exact slabWord_slabMap _ _ hn hi hj
  · rfl

theorem slabs_mmaStart_other {q x : Nat} (other : q = hTile h → ∀ i j, i < shM shape → j < shN shape → x ≠ 4096 * z + (64 * i + j)) :
    fget (0 : BitVec 32) ((mmaStart s h z shape zi c).tile q).slabs x = fget 0 (s.tile q).slabs x := by
  unfold mmaStart
  split
  · exact slabs_slabMap_other _ _ other
  · rfl

theorem slabs_mmaUnit_other {q x : Nat} (ia : (mqFormat qa).isInt = true) (ib : (mqFormat qb).isInt = true)
    (other : q = hTile h → ∀ i j, i < shM shape → j < shN shape → x ≠ 4096 * z + (64 * i + j)) :
    fget (0 : BitVec 32) ((mmaUnit s h z qa qb shape zi c).tile q).slabs x = fget 0 (s.tile q).slabs x := by
  rw [mmaUnit_int ia ib, slabs_slabMap_other _ _ other, slabs_mmaStart_other other]

end

/-! ## Progress points -/

theorem hTile_mkHandle {k : Nat} (hk : k < 288) (r : Nat) : hTile (mkHandle k r) = k := by
  unfold hTile mkHandle
  omega

/-- A datapath instruction in execution that neither stands nor sleeps (R197). -/
structure Working (s : State) (k r : Nat) (d : DataPath) : Prop where
  cur : s.cur k .m = some r
  dp : (s.res (mkHandle k r)).dp = some d
  going : d.stopped = false
  awake : d.asleep = false

section
variable {s : State} {k r : Nat} {d : DataPath} (w : Working s k r d)
include w

theorem Working.dpOf : s.dpOf k = some (mkHandle k r, d) := by
  simp [State.dpOf, w.cur, w.dp, w.going, w.awake]

/-- One unit is done at a progress point (R197). -/
theorem Working.unitDone {u : State} (more : d.units < dpTotal d) (free : s.unitHeld (mkHandle k r) d = false) (work : s.dpUnit (mkHandle k r) d = .ok u) :
    s.matProgress k = u.modRes (mkHandle k r) (fun x => { x with dp := some { d with units := d.units + 1 } }) := by
  simp [State.matProgress, w.dpOf, Nat.not_le.mpr more, free, work]

/-- A unit that meets an invalid table parks the program (R215). -/
theorem Working.unitFails {e c : Nat} (more : d.units < dpTotal d) (free : s.unitHeld (mkHandle k r) d = false) (work : s.dpUnit (mkHandle k r) d = .error (e, c)) :
    s.matProgress k = s.parkWith (mkHandle k r) .m .work (s.mkRecord (mkHandle k r) .m (faultInfo 0x30 (BitVec.ofNat 64 (e % 4096 + 4096 * c))) d.iaddr) := by
  simp [State.matProgress, w.dpOf, Nat.not_le.mpr more, free, work]

/-- A unit that a watermark holds waits (R200). -/
theorem Working.unitWaits (held : s.unitHeld (mkHandle k r) d = true) : s.matProgress k = s := by
  simp [State.matProgress, w.dpOf, held]

theorem Working.completes (all : dpTotal d ≤ d.units) {t : Tid} (ht : t.toNat = k) :
    exec (.datapathComplete t) s = .next ((s.dpFinish (mkHandle k r) d.instr).modRes (mkHandle k r) (fun x => { x with dp := none, mprog := [] })) := by
  rw [exec_datapathComplete, execDatapathComplete, ht, w.dpOf]
  exact if_neg (Nat.not_lt.mpr all)

end

/-- A resident that is not pre-empted goes on (R312). -/
theorem preemptStop_of {s : State} {k r : Nat} (cur : s.cur k .m = some r) (pre : (s.res (mkHandle k r)).preempt = false) : s.preemptStop k .m = s := by
  simp [State.preemptStop, cur, pre]

/-! ## Completion -/

theorem slabfe_setSlabFull (s : State) (t x : Nat) (full : Bool) {z : Nat} (hz : z < 32) :
    ((s.setSlabFull t x full).tile t).slabfe.getLsbD z = if x = z then full else (s.tile t).slabfe.getLsbD z := by
  have bit : ((1 : BitVec 32) <<< x).getLsbD z = decide (x = z) := by
    rw [BitVec.getLsbD_shiftLeft, decide_eq_true hz]
    by_cases e : x = z
    · simp [e]
    · rcases Nat.lt_or_gt_of_ne e with lt | gt
      · simp [e, show ¬ z < x by omega, show z - x ≠ 0 by omega]
      · simp [e, gt]
  rw [State.setSlabFull, State.modTile_eq, State.tile_setTile]
  cases full with
  | true =>
    rw [if_pos rfl, BitVec.getLsbD_or, bit]
    by_cases e : x = z <;> simp [e]
  | false =>
    rw [if_neg Bool.false_ne_true, BitVec.getLsbD_and, BitVec.getLsbD_not, bit, decide_eq_true hz]
    by_cases e : x = z <;> simp [e]

theorem slabs_setSlabFull (s : State) (t x : Nat) (full : Bool) (q : Nat) : ((s.setSlabFull t x full).tile q).slabs = (s.tile q).slabs := by
  by_cases e : q = t
  · subst e; simp [State.setSlabFull]
  · rw [State.setSlabFull, State.modTile_eq, State.tile_setTile_other _ _ e]

/-- A release bit of 1 sets the slab's state (R207). -/
theorem slabfe_release (s : State) (t x : Nat) (r : BitVec 1) (full : Bool) {z : Nat} (hz : z < 32) :
    ((if r = 1 then s.setSlabFull t x full else s).tile t).slabfe.getLsbD z = if x = z ∧ r = 1 then full else (s.tile t).slabfe.getLsbD z := by
  by_cases e : r = 1
  · rw [if_pos e, slabfe_setSlabFull _ _ _ _ hz]
    simp only [e, and_true]
  · rw [if_neg e, if_neg fun x => e x.2]

theorem slabs_release (s : State) (t x : Nat) (r : BitVec 1) (full : Bool) (q : Nat) :
    ((if r = 1 then s.setSlabFull t x full else s).tile q).slabs = (s.tile q).slabs := by
  split
  · exact slabs_setSlabFull ..
  · rfl

/-- A slab without its entries. -/
def State.clearSlab (s : State) (t z : Nat) : State := s.modTile t (fun x => { x with slabs := x.slabs.filter (fun kv => decide (kv.1 / 4096 ≠ z)) })

theorem fget_filter_slab (m : FMap (BitVec 32)) (z x : Nat) :
    fget (0 : BitVec 32) (m.filter (fun kv => decide (kv.1 / 4096 ≠ z))) x = if x / 4096 = z then 0 else fget 0 m x := by
  induction m with
  | nil => simp [fget]
  | cons c m ih =>
    obtain ⟨k, v⟩ := c
    by_cases named : k / 4096 = z
    · rw [List.filter_cons_of_neg (by simp [named]), ih, fget]
      by_cases e : k = x
      · subst e; simp [named]
      · simp [e]
    · rw [List.filter_cons_of_pos (by simp [named]), fget, ih, fget]
      by_cases e : k = x
      · subst e; simp [named]
      · simp [e]

/-- Its words read +0, its state is kept (R208). -/
theorem tile_clearSlab (s : State) (t z : Nat) : (∀ x, fget (0 : BitVec 32) ((s.clearSlab t z).tile t).slabs x = if x / 4096 = z then 0 else fget 0 (s.tile t).slabs x) ∧
    ((s.clearSlab t z).tile t).slabfe = (s.tile t).slabfe := by
  rw [State.clearSlab, State.modTile_eq, State.tile_setTile]
  exact ⟨fun x => fget_filter_slab .., rfl⟩

section
variable (s : State) (h : Nat)

theorem dpFinish_mma (z : BitVec 5) (a b n : BitVec 4) (i r : BitVec 1) : s.dpFinish h (.mma z a b n i r) =
    if r = 1 then s.setSlabFull (hTile h) z.toNat true else s := rfl
theorem dpFinish_mmas (z : BitVec 5) (a b n : BitVec 4) (sa i r : BitVec 1) : s.dpFinish h (.mmas z a b n sa i r) =
    if r = 1 then s.setSlabFull (hTile h) z.toNat true else s := rfl
theorem dpFinish_sbp (z : BitVec 5) (a b n : BitVec 4) (i r : BitVec 1) : s.dpFinish h (.sbp z a b n i r) =
    if r = 1 then s.setSlabFull (hTile h) z.toNat true else s := rfl
theorem dpFinish_macq (z : BitVec 5) : s.dpFinish h (.macq z) = s.setSlabFull (hTile h) z.toNat false := rfl
theorem dpFinish_mrel (z : BitVec 5) : s.dpFinish h (.mrel z) = s.setSlabFull (hTile h) z.toNat true := rfl
theorem dpFinish_mzero (z : BitVec 5) (r : BitVec 1) : s.dpFinish h (.mzero z r) =
    if r = 1 then (s.clearSlab (hTile h) z.toNat).setSlabFull (hTile h) z.toNat true else s.clearSlab (hTile h) z.toNat := rfl

/-- LEG leaves its slab full for Y = 0 and empty for Y = 1 (R223). -/
theorem dpFinish_leg (z : BitVec 5) (a b n : BitVec 4) (i y r : BitVec 1) : s.dpFinish h (.leg z a b n i y r) =
    if r = 1 then s.setSlabFull (hTile h) z.toNat (decide (y = 0)) else s := by
  rcases BitVec.eq_zero_or_eq_one y with rfl | rfl <;> rfl

/-- Completion changes tiles alone. -/
theorem dpFinish_rest (i : Instr) : s.dpFinish h i = { s with tiles := (s.dpFinish h i).tiles } := by
  unfold State.dpFinish
  dsimp only
  repeat' split
  all_goals rfl

/-- No completion but MZERO's changes a word of a slab (R207). -/
theorem slabs_dpFinish {i : Instr} (other : ∀ z r, i ≠ .mzero z r) (q : Nat) : ((s.dpFinish h i).tile q).slabs = (s.tile q).slabs := by
  unfold State.dpFinish
  split
  · exact slabs_release ..
  · exact slabs_release ..
  · exact slabs_release ..
  · next z r => exact absurd rfl (other z r)
  · next z a b n i y r => exact (congrArg (fun u : State => (u.tile q).slabs) (dpFinish_leg s h z a b n i y r)).trans (slabs_release ..)
  · exact slabs_setSlabFull ..
  · exact slabs_setSlabFull ..
  · rfl

end

/-! ## Sub-arrays -/

theorem mgStat_setMgStat (v : Word) (x : BitVec 4) : mgStat (setMgStat v x) = x := by
  refine BitVec.eq_of_getLsbD_eq fun j hj => ?_
  rcases (show j = 0 ∨ j = 1 ∨ j = 2 ∨ j = 3 by omega) with rfl | rfl | rfl | rfl <;> simp [mgStat, setMgStat]

/-- The bit that names sub-array j. -/
def subBit (j : BitVec 2) : BitVec 4 := 1 <<< j.toNat

theorem and_subBit : ∀ (x : BitVec 4) (j : BitVec 2), x.getLsbD j.toNat = false → x &&& subBit j = 0 := by decide

theorem or_subBit : ∀ (x : BitVec 4) (j : BitVec 2), (x ||| subBit j).getLsbD j.toNat = true ∧
    ∀ y, y < 4 → y ≠ j.toNat → (x ||| subBit j).getLsbD y = x.getLsbD y := by decide

/-- A sub-array that no instruction in execution uses is gated, when gating is on and its KEEP bit is 0 (R225). -/
theorem subarrayGate_of {s : State} {t : Tid} {j : BitVec 2}
    (unused : ∀ q dp, q < 8 → (s.res (mkHandle t.toNat q)).dp = some dp → dp.stopped = true ∨ (subArrays dp).getLsbD j.toNat = false)
    (on : mgIdle (s.tile t.toNat).mgate ≠ 0) (keep : (mgKeep (s.tile t.toNat).mgate).getLsbD j.toNat = false) :
    exec (.subarrayGate t j) s = .next (s.modTile t.toNat (fun x => { x with mgate := setMgStat (s.tile t.toNat).mgate (mgStat (s.tile t.toNat).mgate ||| subBit j) })) := by
  have free : (List.range 8).any (fun r => match (s.res (mkHandle t.toNat r)).dp with
      | some d => !d.stopped && decide (subArrays d &&& subBit j ≠ 0)
      | none => false) = false := by
    refine List.any_eq_false.mpr fun r hr => ?_
    split
    · next d hd =>
      rcases unused r d (List.mem_range.mp hr) hd with stopped | other
      · simp [stopped]
      · simp [and_subBit _ _ other]
    · exact Bool.false_ne_true
  rw [exec_subarrayGate, execSubarrayGate]
  refine if_neg (Bool.eq_false_iff.mp ?_)
  exact Bool.or_eq_false_iff.mpr ⟨Bool.or_eq_false_iff.mpr ⟨decide_eq_false on, decide_eq_false (not_not.mpr (and_subBit _ _ keep))⟩, free⟩

/-- The sub-arrays that a sleeping instruction of resident h asks for (R226). -/
def State.asks (s : State) (h : Nat) : BitVec 4 :=
  match (s.res h).dp with
  | some d => if d.asleep then subArrays d else 0
  | none => 0

/-- A bit of the sub-arrays asked for is one that some resident asks for, or of those asked for anyway. -/
theorem getLsbD_asks (s : State) (l : List Nat) (b : BitVec 4) (j : Nat) :
    (l.foldl (fun b h => b ||| s.asks h) b).getLsbD j = (b.getLsbD j || l.any (fun h => (s.asks h).getLsbD j)) := by
  induction l generalizing b with
  | nil => simp
  | cons h l ih => rw [List.foldl_cons, ih, BitVec.getLsbD_or, List.any_cons, Bool.or_assoc]

/-- What is left of v without the sub-arrays asked for holds none that one resident asks for. -/
theorem asks_freed (s : State) {h : Nat} {l : List Nat} (hh : h ∈ l) (b v : BitVec 4) : v &&& ~~~(l.foldl (fun b h => b ||| s.asks h) b) &&& s.asks h = 0 := by
  refine BitVec.eq_of_getLsbD_eq fun j hj => ?_
  rw [BitVec.getLsbD_and, BitVec.getLsbD_and, BitVec.getLsbD_not, getLsbD_asks]
  cases asked : (s.asks h).getLsbD j with
  | false => simp
  | true => rw [List.any_eq_true.mpr ⟨h, hh, asked⟩]; simp

theorem all_freed (s : State) (l : List Nat) (v : BitVec 4) : v &&& ~~~(l.foldl (fun b h => b ||| s.asks h) 15) = 0 := by
  refine BitVec.eq_of_getLsbD_eq fun j hj => ?_
  have full : (15 : BitVec 4).getLsbD j = true := by
    rcases (show j = 0 ∨ j = 1 ∨ j = 2 ∨ j = 3 by omega) with rfl | rfl | rfl | rfl <;> rfl
  rw [BitVec.getLsbD_and, BitVec.getLsbD_not, getLsbD_asks, full]
  simp

/-- One update of each resident of a list. -/
theorem foldl_modRes (f : Resident → Resident) (l : List Nat) (s : State) (once : l.Nodup) :
    (∀ h, h ∈ l → (l.foldl (fun s h => s.modRes h f) s).res h = f (s.res h)) ∧ (∀ h, h ∉ l → (l.foldl (fun s h => s.modRes h f) s).res h = s.res h) ∧
      (l.foldl (fun s h => s.modRes h f) s).mem = s.mem ∧ (l.foldl (fun s h => s.modRes h f) s).tiles = s.tiles := by
  induction l generalizing s with
  | nil => exact ⟨fun h hh => absurd hh List.not_mem_nil, fun _ _ => rfl, rfl, rfl⟩
  | cons k l ih =>
    obtain ⟨new, once⟩ := List.nodup_cons.mp once
    obtain ⟨inside, outside, rest⟩ := ih (s.modRes k f) once
    simp only [List.foldl_cons]
    refine ⟨fun h hh => ?_, fun h hh => ?_, rest⟩
    · by_cases e : h = k
      · subst e
        rw [outside _ new, State.modRes_eq, State.res_setRes]
      · rw [inside _ ((List.mem_cons.mp hh).resolve_left e), State.modRes_eq, State.res_setRes_other _ _ e]
    · rw [outside _ fun m => hh (List.mem_cons_of_mem _ m), State.modRes_eq, State.res_setRes_other _ _ fun e : h = k => hh (e ▸ List.mem_cons_self)]

/-- The handles of a tile's residents. -/
def tileHandles (t : Nat) : List Nat := (List.range 8).map (fun r => mkHandle t r)

theorem tileHandles_nodup (t : Nat) : (tileHandles t).Nodup :=
  List.nodup_range.map fun a b e => by unfold mkHandle at e; omega

/-- A resident whose datapath instruction sleeps no longer (R226). -/
def Resident.awake (r : Resident) : Resident := { r with dp := r.dp.map (fun d => { d with asleep := false }) }

/-- The state in which the sub-arrays asked for are free, all four for MWAKE (R226). -/
def State.freed (s : State) (k : Nat) : State := s.modTile k (fun y => { y with
  waking := false,
  mgate := setMgStat y.mgate (mgStat y.mgate &&& ~~~((tileHandles k).foldl (fun b h => b ||| s.asks h) (if (s.tile k).waking then 15 else 0))) })

theorem exec_subarrayWake_freed (t : Tid) (s : State) : exec (.subarrayWake t) s =
    .next ((tileHandles t.toNat).foldl (fun s h => s.modRes h Resident.awake) (s.freed t.toNat)) := by
  have each : (fun (b : BitVec 4) h => match (s.res h).dp with | some d => if d.asleep then b ||| subArrays d else b | none => b) = fun b h => b ||| s.asks h := by
    funext b h
    unfold State.asks
    split
    · split <;> simp
    · simp
  rw [exec_subarrayWake, State.freed, ← each]
  rfl

/-- A wake frees the sub-arrays asked for, and no instruction of the tile sleeps on (R226). -/
theorem subarrayWake_of (t : Tid) (s : State) : Completes (.subarrayWake t) s (fun u => u.mem = s.mem ∧ u.tile t.toNat = (s.freed t.toNat).tile t.toNat ∧
    ∀ q, q < 8 → u.res (mkHandle t.toNat q) = (s.res (mkHandle t.toNat q)).awake) := by
  obtain ⟨woken, -, mem, tiles⟩ := foldl_modRes Resident.awake (tileHandles t.toNat) (s.freed t.toNat) (tileHandles_nodup _)
  refine ⟨_, exec_subarrayWake_freed t s, mem, congrArg (fun ts => fget Tile.start ts t.toNat) tiles, fun q hq => ?_⟩
  exact (woken _ (List.mem_map.mpr ⟨q, List.mem_range.mpr hq, rfl⟩)).trans (congrArg _ (State.res_setTile ..))

theorem tile_freed (s : State) (k : Nat) : ((s.freed k).tile k).waking = false ∧ mgStat ((s.freed k).tile k).mgate =
    mgStat (s.tile k).mgate &&& ~~~((tileHandles k).foldl (fun b h => b ||| s.asks h) (if (s.tile k).waking then 15 else 0)) := by
  rw [State.freed, State.modTile_eq, State.tile_setTile]
  exact ⟨rfl, mgStat_setMgStat ..⟩

/-! ## A unit of an integer product at its progress point -/

theorem exec_progressPoint (t : Tid) (s : State) : exec (.progressPointReached t .m) s = .next ((s.matProgress t.toNat).preemptStop t.toNat .m) := rfl

/-- A unit that does no more than slab work leaves its count one higher (R197). -/
theorem Working.progress {s u : State} {t : Tid} {r : Nat} {d : DataPath} (w : Working s t.toNat r d) (more : d.units < dpTotal d)
    (free : s.unitHeld (mkHandle t.toNat r) d = false) (pre : (s.res (mkHandle t.toNat r)).preempt = false)
    (work : s.dpUnit (mkHandle t.toNat r) d = .ok u) (kept : SlabWork s u) :
    exec (.progressPointReached t .m) s = .next (u.modRes (mkHandle t.toNat r) (fun x => { x with dp := some { d with units := d.units + 1 } })) := by
  rw [exec_progressPoint, w.unitDone more free work, preemptStop_of (r := r)]
  · rw [State.cur, State.modRes_eq, State.tile_setRes, kept.tile]
    exact w.cur
  · rw [State.modRes_eq, State.res_setRes, kept.res]
    exact pre

end Sys2Proof.Machine

open Sys2Proof Sys2Proof.Machine

/-- Settles O42: a progress point is one unit's work, completion its slab's, gating and waking a change of MGATE. -/
theorem matrixDatapathWork : Obligations.MatrixDatapathWork := by
  intro s t r d j k h hk hr
  have tileK : hTile (mkHandle k r) = k := hTile_mkHandle hk r
  refine ⟨fun cur dp going awake => ?_, fun unused on keep => ?_, ?_⟩
  · have w : Working s k r d := ⟨cur, dp, going, awake⟩
    refine ⟨fun more free pre => ⟨fun z a b n i rl instr ia ib hm hn => ?_, fun e c fails => ?_⟩, fun held pre => ?_, fun all => ?_⟩
    · have work : s.dpUnit h d = .ok (mmaUnit s h z.toNat d.qa d.qb d.shape (decide (i = 1)) d.units) := by rw [State.dpUnit, instr]
      have kept : SlabWork s (mmaUnit s h z.toNat d.qa d.qb d.shape (decide (i = 1)) d.units) := slabWork_mmaUnit ia ib
      refine ⟨_, w.progress more free pre work kept, fun x y hx hy => ?_, fun x y hx hy out => ?_, fun q x out => ?_, ?_, ?_, fun q => ?_⟩
      · show (mmaUnit s h z.toNat d.qa d.qb d.shape (decide (i = 1)) d.units).slabWord k z.toNat (64 * x + y) = _
        rw [← tileK, mmaUnit_int ia ib, slabWord_slabMap _ _ hn hx hy, chunkUpdateInt_eq, slabWord_mmaStart hn hx hy]
        simp only [decide_eq_true_eq]
        rw [apply_ite BitVec.toInt]
        rfl
      · refine slabs_mmaUnit_other ia ib fun _ x' y' hx' hy' => ?_
        have := z.isLt
        omega
      · refine slabs_mmaUnit_other ia ib fun eq x' y' hx' hy' => ?_
        have : q = k := eq.trans tileK
        omega
      · rw [State.modRes_eq, State.res_setRes]
      · rw [State.modRes_eq, State.setRes_mem, kept.rest]
      · rw [State.modRes_eq, State.tile_setRes, kept.tile]
        exact ⟨rfl, rfl⟩
    · rw [exec_progressPoint, w.unitFails more free fails]
    · rw [exec_progressPoint, w.unitWaits held, preemptStop_of cur pre]
    · refine ⟨_, w.completes all rfl, ?_, ?_, ?_, fun z hz => ?_, fun x => ?_⟩
      · rw [State.modRes_eq, State.res_setRes]
      · rw [State.modRes_eq, State.res_setRes]
      · rw [State.modRes_eq, State.setRes_mem, dpFinish_rest]
      · rw [State.modRes_eq, State.tile_setRes]
        generalize d.instr = i
        split
        · rw [dpFinish_mma, tileK, slabfe_release _ _ _ _ _ hz]
        · rw [dpFinish_mmas, tileK, slabfe_release _ _ _ _ _ hz]
        · rw [dpFinish_sbp, tileK, slabfe_release _ _ _ _ _ hz]
        · rw [dpFinish_mzero, tileK, slabfe_release _ _ _ _ _ hz, (tile_clearSlab ..).2]
        · rw [dpFinish_leg, tileK, slabfe_release _ _ _ _ _ hz]
        · rw [dpFinish_macq, tileK, slabfe_setSlabFull _ _ _ _ hz]
        · rw [dpFinish_mrel, tileK, slabfe_setSlabFull _ _ _ _ hz]
        · rw [State.dpFinish.eq_8] <;> assumption
      · rw [State.modRes_eq, State.tile_setRes]
        generalize d.instr = i
        split
        · rw [dpFinish_mzero, tileK, slabs_release, (tile_clearSlab ..).1]
        · next other => rw [slabs_dpFinish s _ fun z rl e => other z rl e]
  · refine ⟨_, subarrayGate_of unused on keep, rfl, ?_⟩
    rw [State.modTile_eq, State.tile_setTile, mgStat_setMgStat]
    exact or_subBit _ j
  · obtain ⟨u, runs, mem, tile, woken⟩ := subarrayWake_of t s
    obtain ⟨waking, stat⟩ := tile_freed s k
    refine ⟨u, runs, mem, tile ▸ waking, fun q dp hq hdp asleep => ⟨?_, ?_⟩, fun asked => ?_⟩
    · rw [woken q hq, Resident.awake, hdp]
      rfl
    · have ask : s.asks (mkHandle k q) = subArrays dp := by simp [State.asks, hdp, asleep]
      rw [tile, stat, ← ask]
      exact asks_freed s (List.mem_map.mpr ⟨q, List.mem_range.mpr hq, rfl⟩) _ _
    · rw [tile, stat, if_pos asked]
      exact all_freed s _ _
end

section
/-!
The encoding (R85, R86, R108): a field placed in a word is read back, so the opcode maps and function tables find the row that wrote the word.
-/

namespace Sys2Proof.Machine
open Sys2Proof

/-! ## Fields of a word (R85) -/

section
variable {N m n lo p : Nat}

/-- A field placed elsewhere leaves the bits lo to lo + n - 1 as they were. -/
theorem extractLsb'_or_shiftLeft_apart (w : BitVec N) (x : BitVec m) (apart : lo + n ≤ p ∨ p + m ≤ lo) :
    (w ||| x.setWidth N <<< p).extractLsb' lo n = w.extractLsb' lo n := by
  refine BitVec.eq_of_getLsbD_eq fun j hj => ?_
  rcases apart with above | below
  · have : lo + j < p := by omega
    simp [this]
  · have : m ≤ lo + j - p := by omega
    simp [BitVec.getLsbD_of_ge x _ this]

/-- A field placed there is read back. -/
theorem extractLsb'_or_shiftLeft_same (w : BitVec N) (x : BitVec n) (inside : lo + n ≤ N) :
    (w ||| x.setWidth N <<< lo).extractLsb' lo n = w.extractLsb' lo n ||| x := by
  refine BitVec.eq_of_getLsbD_eq fun j hj => ?_
  have below : lo + j < N := by omega
  simp [hj, below]

theorem fld_or_put_apart (w : BitVec 32) (x : BitVec m) (apart : lo + n ≤ p ∨ p + m ≤ lo) : fld (w ||| put x p) lo n = fld w lo n :=
  extractLsb'_or_shiftLeft_apart w x apart

theorem fld_or_put_same (w : BitVec 32) (x : BitVec n) (inside : lo + n ≤ 32) : fld (w ||| put x lo) lo n = fld w lo n ||| x :=
  extractLsb'_or_shiftLeft_same w x inside

theorem fld64_or_put64_apart (w : BitVec 64) (x : BitVec m) (apart : lo + n ≤ p ∨ p + m ≤ lo) :
    fld64 (w ||| put64 x p) lo n = fld64 w lo n :=
  extractLsb'_or_shiftLeft_apart w x apart

theorem fld64_or_put64_same (w : BitVec 64) (x : BitVec n) (inside : lo + n ≤ 64) :
    fld64 (w ||| put64 x lo) lo n = fld64 w lo n ||| x :=
  extractLsb'_or_shiftLeft_same w x inside

/-- A field of a word that holds one field, and of the word that holds none. -/
theorem fld64_put64_apart (x : BitVec m) (apart : lo + n ≤ p ∨ p + m ≤ lo) : fld64 (put64 x p) lo n = 0#n := by
  rw [← BitVec.zero_or (x := put64 x p), fld64_or_put64_apart _ x apart, fld64, BitVec.extractLsb'_zero]

theorem fld64_put64_same (x : BitVec n) (inside : lo + n ≤ 64) : fld64 (put64 x lo) lo n = x := by
  rw [← BitVec.zero_or (x := put64 x lo), fld64_or_put64_same _ x inside, fld64, BitVec.extractLsb'_zero, BitVec.zero_or]

theorem fld64_zero : fld64 0#64 lo n = 0#n := BitVec.extractLsb'_zero

/-- A field of a word written as a number. -/
theorem fld_ofNat (x : Nat) (inside : lo + n ≤ 32) : fld (BitVec.ofNat 32 x) lo n = BitVec.ofNat n (x >>> lo) := by
  refine BitVec.eq_of_getLsbD_eq fun j hj => ?_
  have below : lo + j < 32 := by omega
  rw [fld, BitVec.getLsbD_extractLsb', BitVec.getLsbD_ofNat, BitVec.getLsbD_ofNat, Nat.testBit_shiftRight]
  simp [hj, below]

end

theorem two_bits : ∀ z : BitVec 2, z = 0#2 ∨ z = 1#2 ∨ z = 2#2 ∨ z = 3#2 := by decide

/-! ## The word of each instruction, read back by the opcode maps and function tables (R86)

For each instruction of a set the opcode field of its word is read first and names the arm of the map; then the arm's own fields are read, each
being the one placed there, and the reserved ones 0. Where a map has many arms, the arm is shown by its name. -/

section
variable {i : Instr} {w : BitVec 32}

theorem decodeScalar_encode (has : i.isas.contains .scalar = true) (e : encode i = some w) : decodeScalar w = .ok i := by
  cases i <;> cases has <;> cases e
  all_goals
    rw [decodeScalar]
    conv in fld _ _ _ => simp (disch := decide) only [fld_or_put_apart, fld_ofNat]
  case' add | sub | and | or | xor | shl | shr | sra | slt | sltu | mul | mulh | mulhu | div | divu | rem | remu | min | max | minu |
      maxu | clz | ctz | popc => show decodeScalarOp01 _ = _
  case' ldsZ | ldgZ | ldgAcq | ldgAcqZ | stgRel => show decodeScalarOp20 _ = _
  case' ccreate | cjoin | cleave | bar => show decodeScalarOp35 _ = _
  case' glaunch => show decodeScalarOp36 _ = _
  case' rdr | wrr | resume | preempt | teardown | tlbi | cresume | cabort => show decodeScalarOp37 _ = _
  case' rinit | rclaim | rpub | rwfill | rwfree | rcons | rread | raddr => show decodeScalarOp38 _ = _
  case' wmwait | wmarm | wmread | wmidle => show decodeScalarOp39 _ = _
  case' evsig | evsigr | evwait | evread | evset | evsetC => show decodeScalarOp3A _ = _
  case' fenceX | fenceXu => show decodeScalarOp3B _ = _
  case' sset | sget | sbind | sunbind => show decodeScalarOp3C _ = _
  case' ccomm | cstart | cfree => show decodeScalarOp3D _ = _
  case' nop | shli | shri | srai | red | crr | crw | time | trap | fork | join | sEnd | rett => show reserved _ _ _ _ = _
  case' addi | andi | ori | xori | slti | sltiu | muli | lui | addpc | amo | amoq | beq | bne | blt | bge | bltu | bgeu | jump | jal |
      jalr => show Except.ok _ = _
  case' lds z _ _ _ | sts z _ _ _ | ldg z _ _ _ | stg z _ _ _ =>
    rcases two_bits z with rfl | rfl | rfl | rfl <;> show Except.ok _ = _
  all_goals
    simp (disch := decide) only [decodeScalarOp01, decodeScalarOp20, decodeScalarOp35, decodeScalarOp36, decodeScalarOp37, decodeScalarOp38,
      decodeScalarOp39, decodeScalarOp3A, decodeScalarOp3B, decodeScalarOp3C, decodeScalarOp3D, reserved, fld_or_put_apart, fld_or_put_same,
      fld_ofNat, Nat.reduceShiftRight,
      BitVec.reduceOfNat, BitVec.reduceToNat, BitVec.zero_or, BitVec.ofNat_eq_ofNat, BitVec.reduceEq, ↓reduceIte]

theorem decodeVector_encode (has : i.isas.contains .vector = true) (e : encode i = some w) : decodeVector w = .ok i := by
  cases i <;> cases has <;> cases e
  all_goals
    rw [decodeVector]
    conv in fld _ _ _ => simp (disch := decide) only [fld_or_put_apart, fld_ofNat]
  case' vshli | vshri | vsrai => show decodeVectorOp0D _ = _
  case' vcmpx | vcmpxPayload => show decodeVectorOp25 _ = _
  case' vbcast | vbcastD => show decodeVectorOp26 _ = _
  case' vextr | vextrD => show decodeVectorOp27 _ = _
  case' rinit | rclaim | rpub | rwfill | rwfree | rcons | rread | raddr => show decodeVectorOp38 _ = _
  case' wmwait | wmarm | wmread | wmidle => show decodeVectorOp39 _ = _
  case' evsig | evsigr | evwait | evread | evset | evsetC => show decodeVectorOp3A _ = _
  case' fenceX | fenceXu => show decodeVectorOp3B _ = _
  case' vpack | vunpk | vpackE3m2 | vunpkE3m2 | vmov | vnot | viabs | vineg | vfneg | vfabs | vdneg | vdabs | vclz | vpopc | vtolog |
      vfromlog | vexp2l | vlog2f | mand | mor | mxor | mandn | mnot | mmov | mpopc | vrsum | vrmin | vrmax | vrfsum | vrfmin | vrfmax |
      vrdsum | vrdmin | vrdmax | kmov | kadd | ksub => show decodeVectorOp3F _ = _
  case' nop | vectorEnd | vlpow | vslr | vslw | vldsr | vstsr | vldgr | vstgr | waitc | rep => show reserved _ _ _ _ = _
  case' vadd | vsub | vmul | vmin | vmax | vand | vor | vxor | vshl | vshr | vsra | vaddi | vbr | vfadd | vfsub | vfmul | vfma | vfmin |
      vfmax | vfcmp | vicmp | vdadd | vdsub | vdmul | vdfma | vdmin | vdmax | vdcmp | vsel | vdot | vlmul | vldiv | vperm | vlds | vsts |
      vldg | vstg | vcvt | vcvtSr | vgaths | vscats | vgathg | vscatg | vamo => show Except.ok _ = _
  all_goals
    simp (disch := decide) only [decodeVectorOp0D, decodeVectorOp25, decodeVectorOp26, decodeVectorOp27, decodeVectorOp38,
      decodeVectorOp39, decodeVectorOp3A, decodeVectorOp3B, decodeVectorOp3F, reserved, fld_or_put_apart, fld_or_put_same,
      fld_ofNat, Nat.reduceShiftRight, BitVec.reduceOfNat, BitVec.reduceToNat, BitVec.zero_or, BitVec.ofNat_eq_ofNat, BitVec.reduceEq,
      ↓reduceIte]

theorem decodeMatrix_encode (has : i.isas.contains .matrix = true) (e : encode i = some w) : decodeMatrix w = .ok i := by
  cases i <;> cases has <;> cases e
  all_goals
    simp (disch := decide) only [decodeMatrix, decodeMatrixOp10, decodeMatrixOp38, decodeMatrixOp39, decodeMatrixOp3A, decodeMatrixOp3B,
      reserved, fld_or_put_apart, fld_or_put_same, fld_ofNat, Nat.reduceShiftRight,
      BitVec.reduceOfNat, BitVec.reduceToNat, BitVec.zero_or, BitVec.ofNat_eq_ofNat, BitVec.reduceEq, ↓reduceIte]

theorem decodeCopy_encode (has : i.isas.contains .copy = true) (e : encode i = some w) : decodeCopy w = .ok i := by
  cases i <;> cases has <;> cases e
  all_goals
    simp (disch := decide) only [decodeCopy, decodeCopyOp01, decodeCopyOp38, decodeCopyOp39, decodeCopyOp3A, decodeCopyOp3B,
      decodeCopyOp3C, decodeCopyOp3D, reserved, fld_or_put_apart, fld_or_put_same, fld_ofNat, Nat.reduceShiftRight,
      BitVec.reduceOfNat, BitVec.reduceToNat, BitVec.zero_or, BitVec.ofNat_eq_ofNat, BitVec.reduceEq, ↓reduceIte]

theorem decodeHandler_encode (has : i.isas.contains .handler = true) (e : encode i = some w) : decodeHandler w = .ok i := by
  cases i <;> cases has <;> cases e
  all_goals
    simp (disch := decide) only [decodeHandler, decodeHandlerOp03, reserved, fld_or_put_apart, fld_or_put_same, fld_ofNat,
      Nat.reduceShiftRight, BitVec.reduceOfNat, BitVec.reduceToNat, BitVec.zero_or, BitVec.ofNat_eq_ofNat, ↓reduceIte]

end

/-- The word of a collective step (R108). -/
theorem decodeCollective_encode {i : Instr} {w : BitVec 64} (has : i.isas.contains .collective = true) (e : encodeStep i = some w) :
    decodeCollective w = .ok i := by
  have flag : ∀ b, (BitVec.ofBool b == 1#1) = b := by decide
  cases i <;> cases has <;> cases e
  all_goals
    simp (disch := decide) only [decodeCollective, reserved64, fld64_or_put64_apart, fld64_or_put64_same, fld64_put64_apart, fld64_put64_same,
      fld64_zero, flag, BitVec.reduceToNat, BitVec.zero_or, BitVec.ofNat_eq_ofNat, ↓reduceIte]

/-- The encoder's words, as the table of instruction sets has them. -/
theorem hasWord : ∀ i, Laws.HasWord.Statement i := by
  intro i
  cases i <;> exact ⟨rfl, rfl⟩

/-! ## Legal operands pass the guard -/

section
variable {isa : Isa} {i : Instr}

theorem guardWf_ok {r : Except DecodeError Instr} (wf : i.wf isa = true) (ok : r = .ok i) : guardWf isa r = .ok i := by
  rw [ok, guardWf, if_pos wf]

theorem isas_of_wf (wf : i.wf isa = true) : i.isas.contains isa = true := (Bool.and_eq_true_iff.mp wf).1

theorem exists_encode (wf : i.wf isa = true) (word : isa ≠ .collective) : ∃ w, encode i = some w := by
  refine Option.isSome_iff_exists.mp ?_
  rw [(hasWord i).1, List.any_eq_true]
  exact ⟨isa, List.contains_iff_mem.mp (isas_of_wf wf), decide_eq_true word⟩

theorem exists_encodeStep (wf : i.wf .collective = true) : ∃ w, encodeStep i = some w :=
  Option.isSome_iff_exists.mp ((hasWord i).2.trans (isas_of_wf wf))

theorem decode_encode {w : BitVec 32} (wf : i.wf isa = true) (word : isa ≠ .collective) (e : encode i = some w) : decode isa w = .ok i := by
  have has := isas_of_wf wf
  cases isa with
  | scalar => exact guardWf_ok wf (decodeScalar_encode has e)
  | vector => exact guardWf_ok wf (decodeVector_encode has e)
  | matrix => exact guardWf_ok wf (decodeMatrix_encode has e)
  | copy => exact guardWf_ok wf (decodeCopy_encode has e)
  | handler => exact guardWf_ok wf (decodeHandler_encode has e)
  | collective => exact absurd rfl word

theorem decodeStep_encodeStep {w : BitVec 64} (wf : i.wf .collective = true) (e : encodeStep i = some w) : decodeStep w = .ok i :=
  guardWf_ok wf (decodeCollective_encode (isas_of_wf wf) e)

/-! ## The bytes of a word (R2, R85) -/

/-- The four bytes of a number, as a word. -/
theorem leWord_leBytes (v : Nat) :
    leWord (BitVec.ofNat 8 v) (BitVec.ofNat 8 (v / 256)) (BitVec.ofNat 8 (v / 256 / 256)) (BitVec.ofNat 8 (v / 256 / 256 / 256)) = BitVec.ofNat 32 v :=
  (leWord_eq ..).symm.trans ((congrArg _ (leNat_leBytes 4 v)).trans (BitVec.eq_of_toNat_eq (by simp)))

/-- The high and the low half of a word of 64 bits, put together. -/
theorem ofNat_append_ofNat (w : BitVec 64) : BitVec.ofNat 32 (w.toNat / 256 / 256 / 256 / 256) ++ BitVec.ofNat 32 w.toNat = w := by
  have below := w.isLt
  have low := (BitVec.ofNat 32 w.toNat).isLt
  refine BitVec.eq_of_toNat_eq ?_
  rw [BitVec.toNat_append, ← Nat.shiftLeft_add_eq_or_of_lt low, Nat.shiftLeft_eq, BitVec.toNat_ofNat, BitVec.toNat_ofNat]
  omega

theorem decodeBytes_word {w : BitVec 32} (word : isa ≠ .collective) (ok : decode isa w = .ok i) (rest : List Byte) :
    decodeBytes isa (leBytes 4 w.toNat ++ rest) = .ok (i, rest) := by
  have read := (leWord_leBytes w.toNat).trans ((BitVec.ofNat_toNat ..).trans (BitVec.setWidth_eq w))
  cases isa with
  | collective => exact absurd rfl word
  | _ => simp only [leBytes, List.cons_append, List.nil_append, decodeBytes, read, ok]

theorem decodeBytes_step {w : BitVec 64} (ok : decodeStep w = .ok i) (rest : List Byte) :
    decodeBytes .collective (leBytes 8 w.toNat ++ rest) = .ok (i, rest) := by
  simp only [leBytes, List.cons_append, List.nil_append, decodeBytes, leWord_leBytes, ofNat_append_ofNat, ok]

end

end Sys2Proof.Machine

open Sys2Proof Sys2Proof.Machine

/-- Settles O58: each set's opcode map and function tables read the encoder's word back, legal operands pass the guard, and four or eight bytes,
little-endian, are the word. -/
theorem decodeEncode : Obligations.DecodeEncode := by
  intro isa i wf
  refine ⟨?_, fun word => ?_⟩
  · rintro rfl
    obtain ⟨w, e⟩ := exists_encodeStep wf
    have ok := decodeStep_encodeStep wf e
    exact ⟨w, e, ok, decodeBytes_step ok⟩
  · obtain ⟨w, e⟩ := exists_encode wf word
    have ok := decode_encode wf word e
    exact ⟨w, e, ok, decodeBytes_word word ok⟩

/-- Settles O59: the decoder, run on each word. -/
theorem decodeWords : Obligations.DecodeWords :=
  ⟨rfl, rfl, rfl, rfl, rfl, rfl, rfl, rfl, rfl, rfl, rfl, rfl, rfl, rfl, rfl, rfl, rfl, rfl, rfl, rfl⟩
end

section
/-!
One-operand, immediate and upper-immediate values (R129, R131, R132) and the jumps with their links (R93, R138).
-/

namespace Sys2Proof.Machine
open Sys2Proof

/-! ## Zeros and ones of a value (R129) -/

section
variable {n : Nat}

theorem getLsbD_log2 {x : BitVec n} (h : x ≠ 0) : x.getLsbD x.toNat.log2 = true :=
  Nat.testBit_log2 fun zero => h (BitVec.eq_of_toNat_eq zero)

theorem getLsbD_above_log2 (x : BitVec n) {j : Nat} (above : x.toNat.log2 < j) : x.getLsbD j = false :=
  Nat.testBit_lt_two_pow (Nat.lt_of_lt_of_le Nat.lt_log2_self (Nat.pow_le_pow_right (by decide) above))

/-- The leading zeros stand above the highest one. -/
theorem leadZeros_eq (x : BitVec n) : leadZeros x = if x = 0 then n else n - 1 - x.toNat.log2 := by
  unfold leadZeros
  split
  · next zero => rw [List.find?_range_eq_none.mpr fun j _ => by simp [zero], Option.getD_none]
  · next h =>
    have below : x.toNat.log2 < n := BitVec.lt_of_getLsbD (getLsbD_log2 h)
    have first : (List.range n).find? (fun i => x.getLsbD (n - 1 - i)) = some (n - 1 - x.toNat.log2) := by
      refine List.find?_range_eq_some.mpr ⟨?_, List.mem_range.mpr (by omega), fun j hj => ?_⟩
      · rw [Nat.sub_sub_self (by omega)]
        exact getLsbD_log2 h
      · rw [getLsbD_above_log2 x (by omega), Bool.not_false]
    rw [first, Option.getD_some]

/-- The trailing zeros stand below the lowest one. -/
theorem trailZeros_spec (x : BitVec n) :
    trailZeros x ≤ n ∧ (∀ j, j < trailZeros x → x.getLsbD j = false) ∧ (trailZeros x < n → x.getLsbD (trailZeros x) = true) := by
  unfold trailZeros
  cases first : (List.range n).find? (fun i => x.getLsbD i) with
  | none =>
    rw [List.find?_range_eq_none] at first
    exact ⟨Nat.le_refl n, fun j hj => by simpa using first j hj, fun h => absurd h (Nat.lt_irrefl n)⟩
  | some i =>
    obtain ⟨one, inside, zeros⟩ := List.find?_range_eq_some.mp first
    exact ⟨(List.mem_range.mp inside).le, fun j hj => by simpa using zeros j hj, fun _ => one⟩

theorem popCount_eq (x : BitVec n) : popCount x = ((List.range n).filter (fun j => x.getLsbD j)).length := List.countP_eq_length_filter

/-! ## Values in the integers -/

theorem ofInt_mul_toInt (x : Word) (i : BitVec n) : BitVec.ofInt 64 (x.toInt * i.toInt) = x * sx i := by
  rw [BitVec.ofInt_mul, BitVec.ofInt_toInt, sx, BitVec.signExtend]

theorem toInt_sx (i : BitVec n) (narrow : n ≤ 64) : (sx i).toInt = i.toInt := BitVec.toInt_signExtend_of_le narrow

theorem boolWord_decide (p : Prop) [Decidable p] : boolWord (decide p) = if p then 1 else 0 := by
  by_cases h : p <;> simp [boolWord, h]

theorem shiftLeft_eq_ofNat (x : BitVec n) (k : Nat) : x <<< k = BitVec.ofNat n (x.toNat * 2 ^ k) :=
  BitVec.eq_of_toNat_eq (by rw [BitVec.toNat_shiftLeft, BitVec.toNat_ofNat, Nat.shiftLeft_eq])

theorem ushiftRight_eq_ofNat (x : BitVec n) (k : Nat) : x >>> k = BitVec.ofNat n (x.toNat / 2 ^ k) := by
  rw [← Nat.shiftRight_eq_div_pow, ← BitVec.toNat_ushiftRight, BitVec.ofNat_toNat, BitVec.setWidth_eq]

theorem sshiftRight_eq_ofInt (x : BitVec n) (k : Nat) : x.sshiftRight k = BitVec.ofInt n (x.toInt / 2 ^ k) := by
  rw [BitVec.sshiftRight, Int.shiftRight_eq_div_pow, Int.natCast_pow, Int.cast_ofNat_Int]

/-- An upper immediate is imm × 2^12 (R132). -/
theorem upper_eq (u : BitVec 20) : upper u = BitVec.ofInt 64 (u.toInt * 2 ^ 12) := by
  rw [upper, BitVec.signExtend, show (0 : BitVec 12) = 0#12 from rfl, BitVec.toInt_append_zero, Int.mul_comm]

end

/-- An instruction of one operand completes with the value it computes (R128). -/
theorem aluOp1_completes {s : State} {w : Who} {i : Instr} {d a : BitVec 6} {f : Word → Word} {v : Word} (turn : ScalarTurn s w)
    (e : exec i s = aluOp1 d a f s) (value : f (s.sreg w a) = v) : Completes i s (WritesSreg w d v s) :=
  completes_sreg turn (e.trans (onScalar_of turn _)) value

/-! ## Jumps -/

/-- The link is pc + 12 in 56 bits (R138). -/
theorem linkOf_eq (pc : Addr) : linkOf pc = BitVec.ofNat 64 ((pc.toNat + 12) % 2 ^ 56) :=
  BitVec.eq_of_toNat_eq (by simp [linkOf])

/-- A jump transfers, annulling both slots when n = 1 (R93). -/
theorem jumpTo_jumps {w : Who} (hw : ∀ h e, w = .task h e → e = .s) (n : BitVec 1) (a : Addr) (s : State) :
    ScalarJumps w a (n == 1) s (jumpTo w n a s) := by
  have jumps := transfer_jumps hw s a
  rw [jumpTo]
  by_cases annuls : n = 1
  · obtain ⟨only, queue, traps, regs, -⟩ := jumps
    rw [if_pos annuls, beq_iff_eq.mpr annuls]
    refine ⟨only.trans (onlyScalar_modSc w _ _), ?_⟩
    rw [sc_modSc]
    exact ⟨queue, traps, regs, rfl, rfl⟩
  · rw [if_neg annuls, beq_eq_false_iff_ne.mpr annuls]
    exact jumps

end Sys2Proof.Machine

open Sys2Proof Sys2Proof.Machine

/-- Settles O3: each instruction writes the value it computes, which is the integers' value modulo 2^64. -/
theorem scalarImmediateResults : Obligations.ScalarImmediateResults := by
  intro s w d a n i u turn x
  refine ⟨?_, ?_, ?_, ?_, ?_, ?_, ?_, ?_, ?_, ?_, ?_, ?_, ?_, ?_, ?_, ?_⟩
  · exact completes_steps turn (by rw [exec_nop, execNop, turn.1])
  · exact aluOp1_completes turn (exec_clz ..) (by rw [leadZeros_eq, apply_ite (BitVec.ofNat 64)]; rfl)
  · obtain ⟨most, zeros, one⟩ := trailZeros_spec x
    obtain ⟨t, runs, writes⟩ := aluOp1_completes turn (exec_ctz d a s) rfl
    exact ⟨t, runs, trailZeros x, writes, most, zeros, one⟩
  · exact aluOp1_completes turn (exec_popc ..) (congrArg _ (popCount_eq x))
  · exact aluOp1_completes turn (exec_addi ..) (ofInt_add_toInt x i).symm
  · exact aluOp1_completes turn (exec_andi ..) rfl
  · exact aluOp1_completes turn (exec_ori ..) rfl
  · exact aluOp1_completes turn (exec_xori ..) rfl
  · exact aluOp1_completes turn (exec_slti ..) ((boolWord_decide _).trans (by rw [toInt_sx i (by decide)]))
  · exact aluOp1_completes turn (exec_sltiu ..) (boolWord_decide _)
  · exact aluOp1_completes turn (exec_muli ..) (ofInt_mul_toInt x i).symm
  · exact aluOp1_completes turn (exec_shli ..) (shiftLeft_eq_ofNat x _)
  · exact aluOp1_completes turn (exec_shri ..) (ushiftRight_eq_ofNat x _)
  · exact aluOp1_completes turn (exec_srai ..) (sshiftRight_eq_ofInt x _)
  · exact completes_sreg turn ((exec_lui d u s).trans (onScalar_of turn _)) (upper_eq u)
  · refine completes_sreg turn ((exec_addpc d u s).trans (onScalar_of turn _)) ?_
    rw [upper_eq, BitVec.ofInt_add, BitVec.ofInt_natCast, BitVec.ofNat_toNat]

/-- Settles O10: the two jumps differ in their link alone, and JALR transfers to an aligned sum. -/
theorem scalarJumpsAndLinks : Obligations.ScalarJumpsAndLinks := by
  intro s w d a n o i turn target link far
  have links : linkOf (s.pcOf w) = link := linkOf_eq _
  have goes : branchTarget (s.pcOf w) o = target := (branchTarget_eq _ o).symm
  have sum : s.sreg w a + sx i = far := (ofInt_add_toInt _ i).symm
  have jalr : exec (.jalr d a i) s = if far.toNat % 4 ≠ 0 then .next (s.alignFault w 4 far)
      else .next ((s.setSreg w d link).transfer w (far.setWidth 56)) := by
    rw [exec_jalr, execJalr, onScalar_of turn, links, ← sum]
  refine ⟨⟨_, (exec_jump n o s).trans (onScalar_of turn _), ?_⟩, ⟨_, (exec_jal n o s).trans (onScalar_of turn _), ?_⟩, fun aligned => ?_, fun off => ?_⟩
  · rw [goes]
    exact jumpTo_jumps turn.2 n target s
  · rw [goes, links]
    exact jumpTo_jumps turn.2 n target _
  · exact ⟨_, jalr.trans (if_neg (not_not.mpr aligned)), transfer_jumps turn.2 _ _⟩
  · exact jalr.trans (if_pos off)
end

section
/-!
Integer lane values: the operations on 32-bit lanes as the integers' results modulo 2^32 (R161, R162, R168).
-/

namespace Sys2Proof.Machine
open Sys2Proof

/-! ## Values of a lane in the integers -/

section
variable {n : Nat}

theorem ofInt_toInt_sub (x y : BitVec n) : BitVec.ofInt n (x.toInt - y.toInt) = x - y := by
  rw [Int.sub_eq_add_neg, BitVec.ofInt_add, BitVec.ofInt_neg, BitVec.ofInt_toInt, BitVec.ofInt_toInt, BitVec.sub_eq_add_neg]

theorem ofInt_neg_toInt (x : BitVec n) : BitVec.ofInt n (-x.toInt) = 0 - x := by
  rw [BitVec.ofInt_neg, BitVec.ofInt_toInt]
  exact (BitVec.zero_sub x).symm

theorem ofInt_toInt_add_narrow {m : Nat} (x : BitVec n) (i : BitVec m) : BitVec.ofInt n (x.toInt + i.toInt) = x + i.signExtend n := by
  rw [BitVec.ofInt_add, BitVec.ofInt_toInt, BitVec.signExtend]

theorem ofNat_complement (x : BitVec n) : BitVec.ofNat n (2 ^ n - 1 - x.toNat) = ~~~x := by
  rw [← BitVec.toNat_not, BitVec.ofNat_toNat, BitVec.setWidth_eq]

theorem ite_slt (x y u v : BitVec n) : (if x.slt y then u else v) = if x.toInt < y.toInt then u else v := by
  simp only [BitVec.slt_iff_toInt_lt]

/-- The absolute value modulo 2^n: that of the least value is itself (R168). -/
theorem ofNat_natAbs_toInt (x : BitVec n) : BitVec.ofNat n x.toInt.natAbs = if x.slt 0 then 0 - x else x := by
  rw [← BitVec.ofInt_natCast, ite_slt, show (0 : BitVec n).toInt = 0 from BitVec.toInt_zero]
  split
  · next negative => rw [Int.ofNat_natAbs_of_nonpos negative.le, ofInt_neg_toInt]
  · next positive => rw [Int.natAbs_of_nonneg (not_lt.mp positive), BitVec.ofInt_toInt]

/-- The signed maximum, whose model asks for the second's being the greater (R161). -/
theorem max_comm_toInt (x y : BitVec n) : (if x.slt y then y else x) = if y.toInt < x.toInt then x else y := by
  rw [ite_slt]
  rcases lt_trichotomy x.toInt y.toInt with less | same | more
  · rw [if_pos less, if_neg less.not_gt]
  · rw [if_neg same.not_lt, if_neg same.not_gt, BitVec.toInt_inj.mp same]
  · rw [if_neg more.not_gt, if_pos more]

end

/-- The leading zeros of a lane stand above its highest one bit. -/
theorem clz32_lane (p : BitVec 32) : BitVec.ofNat 32 (clz32 p.toNat) = if p = 0 then 32 else BitVec.ofNat 32 (31 - p.toNat.log2) := by
  have zero : p.toNat = 0 ↔ p = 0 := ⟨fun z => BitVec.eq_of_toNat_eq z, fun z => z ▸ rfl⟩
  rw [clz32, bitLen, apply_ite (fun k => BitVec.ofNat 32 (32 - k))]
  simp only [zero]
  congr 1
  rw [Nat.add_comm, ← Nat.sub_sub]

/-! ## Integer forms -/

theorem PlainLanes.congr {h l : Nat} {g : BitVec 2} {d : BitVec 7} {m : BitVec 128} {f f' : Nat → BitVec 32} {s t : State} (w : PlainLanes h g l d m f s t)
    (e : ∀ j, f j = f' j) : PlainLanes h g l d m f' s t := funext e ▸ w

section
variable {s : State} {h : Nat} {i : Instr} {g : BitVec 2} {d a b : BitVec 7} {m : Nat}

/-- An integer form of two sources gives the value of its lanes (R161). -/
theorem vInt_completes {f v : BitVec 32 → BitVec 32 → BitVec 32} (ready : VectorReady s h [.vreg a.toNat, .vreg b.toNat, .mask m] [(.vreg d.toNat, some 2)])
    (e : exec i s = onVec s (fun h => vInt Rp.none h g d a b m f s)) (value : ∀ p q, f p q = v p q) :
    Completes i s (PlainLanes h g 2 d ((s.landed h).mread h m) (fun j => v (lane ((s.landed h).vread h a.toNat) j) (lane ((s.landed h).vread h b.toNat) j)) s) := by
  have lanes := vMap_lanes (a := some a) (b := some b) (dRead := false) g (fun _ x y _ => ((f (BitVec.ofNat 32 x) (BitVec.ofNat 32 y)).toNat, Flg.none)) ready
  refine (completes_vec ready.turn e lanes).imp fun _ w => (w.plain fun _ => rfl).congr fun j => ?_
  simp [laneResult, viewAt, State.vsrc, value]

/-- One of an immediate takes every lane (R162). -/
theorem vImm_completes {f v : BitVec 32 → BitVec 32} (ready : VectorReady s h [.vreg a.toNat] [(.vreg d.toNat, some 2)])
    (e : exec i s = onVec s (fun h => vImm Rp.none h g d a f s)) (value : ∀ p, f p = v p) :
    Completes i s (PlainLanes h g 2 d allLanes (fun j => v (lane ((s.landed h).vread h a.toNat) j)) s) := by
  have lanes := vMap_lanes (a := some a) (b := none) (dRead := false) (m := 0) g (fun _ x _ _ => ((f (BitVec.ofNat 32 x)).toNat, Flg.none)) ready.withM0
  refine (completes_vec ready.turn e lanes).imp fun _ w => (w.plain fun _ => rfl).congr fun j => ?_
  simp [laneResult, viewAt, State.vsrc, value]

/-- One of a single source, whose value is stated of the lane (R168). -/
theorem vUnary_completes_lane {f : Nat → Nat} {v : BitVec 32 → BitVec 32} (ready : VectorReady s h [.vreg a.toNat, .mask m] [(.vreg d.toNat, some 2)])
    (e : exec i s = onVec s (fun h => vUnary false 2 Rp.none h g d a m (fun x => (f x, Flg.none)) s)) (value : ∀ p : BitVec 32, BitVec.ofNat 32 (f p.toNat) = v p) :
    Completes i s (PlainLanes h g 2 d ((s.landed h).mread h m) (fun j => v (lane ((s.landed h).vread h a.toNat) j)) s) :=
  (vUnary_completes_plain f (fun _ => rfl) ready e).imp fun _ w => w.congr fun _ => value _

/-- One whose operation takes the lane as it is. -/
theorem vUnary_completes_bits {f v : BitVec 32 → BitVec 32} (ready : VectorReady s h [.vreg a.toNat, .mask m] [(.vreg d.toNat, some 2)])
    (e : exec i s = onVec s (fun h => vUnary false 2 Rp.none h g d a m (fun x => ((f (BitVec.ofNat 32 x)).toNat, Flg.none)) s)) (value : ∀ p, f p = v p) :
    Completes i s (PlainLanes h g 2 d ((s.landed h).mread h m) (fun j => v (lane ((s.landed h).vread h a.toNat) j)) s) :=
  vUnary_completes_lane ready e fun p => by rw [BitVec.ofNat_toNat, BitVec.ofNat_toNat, BitVec.setWidth_eq, BitVec.setWidth_eq, value]

end

end Sys2Proof.Machine

open Sys2Proof Sys2Proof.Machine

/-- Settles O29: each integer form is one lane-wise form, and its operation on bits is the integers' modulo 2^32. -/
theorem vectorIntegerResults : Obligations.VectorIntegerResults := by
  intro s h g d a b m n i sh u x y two imm one
  refine ⟨?_, ?_, ?_, ?_, ?_, ?_, ?_, ?_, ?_, ?_, ?_, ?_, ?_, ?_, ?_, ?_, ?_, ?_, ?_, ?_, ?_⟩ <;> intro ready
  · exact vInt_completes ready (exec_vadd ..) fun _ _ => rfl
  · exact vInt_completes ready (exec_vsub ..) fun p q => (ofInt_toInt_sub p q).symm
  · exact vInt_completes ready (exec_vmul ..) fun _ _ => rfl
  · exact vInt_completes ready (exec_vmin ..) fun p q => ite_slt p q p q
  · exact vInt_completes ready (exec_vmax ..) max_comm_toInt
  · exact vInt_completes ready (exec_vand ..) fun _ _ => rfl
  · exact vInt_completes ready (exec_vor ..) fun _ _ => rfl
  · exact vInt_completes ready (exec_vxor ..) fun _ _ => rfl
  · exact vInt_completes ready (exec_vshl ..) fun p q => shiftLeft_eq_ofNat p _
  · exact vInt_completes ready (exec_vshr ..) fun p q => ushiftRight_eq_ofNat p _
  · exact vInt_completes ready (exec_vsra ..) fun p q => sshiftRight_eq_ofInt p _
  · exact vImm_completes ready (exec_vaddi ..) fun p => (ofInt_toInt_add_narrow p i).symm
  · exact vImm_completes ready (exec_vshli ..) fun p => shiftLeft_eq_ofNat p _
  · exact vImm_completes ready (exec_vshri ..) fun p => ushiftRight_eq_ofNat p _
  · exact vImm_completes ready (exec_vsrai ..) fun p => sshiftRight_eq_ofInt p _
  · exact vUnary_completes_lane ready (exec_vmov ..) fun p => by rw [BitVec.ofNat_toNat, BitVec.setWidth_eq]
  · exact vUnary_completes_bits ready (exec_vnot ..) fun p => (ofNat_complement p).symm
  · exact vUnary_completes_bits (f := fun v => if v.slt 0 then 0 - v else v) ready (exec_viabs ..) fun p => (ofNat_natAbs_toInt p).symm
  · exact vUnary_completes_bits ready (exec_vineg ..) fun p => (ofInt_neg_toInt p).symm
  · exact vUnary_completes_lane ready (exec_vclz ..) clz32_lane
  · exact vUnary_completes_lane ready (exec_vpopc ..) fun _ => rfl
end

section
/-!
Scalar values of the vector engine, and the branch and the end of its program (R177 to R179, R192, R193).
-/

namespace Sys2Proof.Machine
open Sys2Proof

/-! ## Broadcasts and k registers -/

/-- Lane i of a vector given by its fp64 elements. -/
theorem lane_ofElems {i : Nat} (f : Nat → BitVec 64) (hi : i < 128) : lane (ofElems f) i = (f (i / 2)).extractLsb' (32 * (i % 2)) 32 := by
  have element : elem (ofElems f) (i / 2) = f (i / 2) := by
    rw [ofElems, elem_ofDigits _ (by omega), getD_map_range _ (by omega), BitVec.ofNat_toNat, BitVec.setWidth_eq]
  rw [← element]
  refine BitVec.eq_of_getLsbD_eq fun j hj => ?_
  have place : 64 * (i / 2) + (32 * (i % 2) + j) = 32 * i + j := by omega
  have inside : 32 * (i % 2) + j < 64 := by omega
  simp [lane, elem, hj, inside, place]

/-- An element whose lower lane is l is that lane and the one above. -/
theorem elem_half (v : VReg) {l : Nat} (even : l % 2 = 0) : elem v (l / 2) = lane v (l + 1) ++ lane v l := by
  have twice : 64 * (l / 2) = 32 * l := by omega
  refine BitVec.eq_of_getLsbD_eq fun j hj => ?_
  rw [BitVec.getLsbD_append, elem, twice]
  simp only [lane, BitVec.getLsbD_extractLsb', hj, decide_true, Bool.true_and]
  split
  · next low => rw [decide_eq_true low, Bool.true_and]
  · next high => rw [decide_eq_true (by omega), Bool.true_and, show 32 * (l + 1) + (j - 32) = 32 * l + j by omega]

/-- An instruction whose only result is a k register's value leaves it there (R59, R160). -/
theorem kWrite_completes {s : State} {h l : Nat} {i : Instr} {g : BitVec 2} {d : BitVec 5} {rd : List VTgt} {f : Nat → State → Word} {v : Word}
    (ready : VectorReady s h rd []) (e : exec i s = onVec s (fun h => vFixed Rp.none h g l rd [] (fun s => { VRes.of [] with kw := some (d.toNat, f h s) }) s))
    (value : f h (s.landed h) = v) : Completes i s (KWrites h g d v s) := by
  subst value
  exact completes_vec ready.turn e (vFixed_issues g (wr := []) ready)

/-- An instruction that names no vector register or mask is ready when it is the program's turn. -/
theorem vectorReady_nil {s : State} {h : Nat} (turn : s.who = some (.task h .v)) : VectorReady s h [] [] :=
  ⟨turn, by simp, .inr ⟨by simp, by simp⟩⟩

/-- A k-register instruction is ready when it is the program's turn (R160, R179). -/
theorem vKop_completes {s : State} {h : Nat} {i : Instr} {g : BitVec 2} {d : BitVec 5} {f : Nat → State → Word} {v : Word} (turn : s.who = some (.task h .v))
    (e : exec i s = onVec s (fun h => vKop Rp.none h g d (f h) s)) (value : f h (s.landed h) = v) : Completes i s (KWrites h g d v s) :=
  kWrite_completes (vectorReady_nil turn) e value

/-! ## The branch -/

/-- A branch of the vector program over state u: it issues, and its place is the address chosen, where a block ends (R30, R192). -/
theorem vBranch_completes {s u : State} {h n : Nat} {i : Instr} {c : BitVec 3} {x : Word} {pc : Addr} {o : BitVec n} {takes : Prop}
    (eq : exec i s = .next (((vNext Rp.none h 0 u).modPrg h .v (fun p => { p with pc :=
      (if condHolds c x then branchTarget pc o else pc + 4) })).afterTransfer (.task h .v)))
    (ht : condHolds c x = true ↔ takes) :
    Completes i s (fun t => Locally u t ∧ (∀ y, y ≠ h → t.res y = u.res y) ∧
      t.res h = { u.res h with v := (t.res h).v, vpos := (t.res h).vpos, vctl := (u.res h).vctl &&& 1, lanesDone := 0, rep := 0 } ∧
      (takes → (t.res h).v.pc = BitVec.ofInt 56 (pc.toNat + 4 * o.toInt)) ∧ (¬ takes → (t.res h).v.pc = pc + 4) ∧ (t.res h).v.bnd = true) := by
  obtain ⟨⟨-, others, -⟩, own, -⟩ := vNext_frame u h 0
  have chosen : ∀ (w : State) (f : Prg → Prg), (w.modPrg h .v f).afterTransfer (.task h .v) =
      w.setRes h { w.res h with v := { f (w.res h).v with bnd := true } } := fun w f => by
    simp [State.afterTransfer, State.modPrg, State.modRes_eq, Resident.setPrg, Resident.prg]
  rw [chosen] at eq
  refine ⟨_, eq, rfl, fun y n => (State.res_setRes_other _ _ n).trans (others y n), ?_⟩
  rw [State.res_setRes, branchTarget_eq]
  refine ⟨?_, fun k => if_pos (ht.mpr k), fun k => if_neg (mt ht.mp k), rfl⟩
  rw [show (vNext Rp.none h 0 u).res h = _ from own]

/-- The value a branch tests, which code 5 decrements first, and the state in which it has (R89). -/
def State.branchValue (s : State) (h : Nat) (c : BitVec 3) (k : BitVec 5) : Word := if c = 5 then s.kread h k.toNat - 1 else s.kread h k.toNat
def State.branchCounted (s : State) (h : Nat) (c : BitVec 3) (k : BitVec 5) : State :=
  if c = 5 then s.setLreg (.task h .v) k.toNat (s.branchValue h c k) else s

/-- The state differs in that register alone. -/
theorem branchCounted_frame (s : State) (h : Nat) (c : BitVec 3) (k : BitVec 5) :
    s.branchCounted h c k = { s with residents := (s.branchCounted h c k).residents } ∧ (∀ y, y ≠ h → (s.branchCounted h c k).res y = s.res y) ∧
      (s.branchCounted h c k).res h = { s.res h with kregs := ((s.branchCounted h c k).res h).kregs } ∧
      ∀ y, (s.branchCounted h c k).kread h y = if c = 5 ∧ y = k.toNat then s.branchValue h c k else s.kread h y := by
  unfold State.branchCounted
  by_cases five : c = 5
  · rw [if_pos five]
    refine ⟨rfl, fun y n => State.res_setRes_other _ _ n, ?_, fun y => ?_⟩
    · simp [State.setLreg, State.modRes_eq]
    · simp only [State.kread, State.setLreg, State.modRes_eq, State.res_setRes, five, true_and]
      split
      · next e => rw [e, fget_fset_same]
      · next n => exact fget_fset_other _ _ _ n
  · rw [if_neg five]
    exact ⟨rfl, fun _ _ => rfl, rfl, fun y => (if_neg fun both => five both.1).symm⟩

/-- VBR branches over that state (R192). -/
theorem exec_vbr_branches {s : State} {h : Nat} (turn : s.who = some (.task h .v)) (c : BitVec 3) (k : BitVec 5) (o : BitVec 18) :
    exec (.vbr c k o) s = .next (((vNext Rp.none h 0 (s.branchCounted h c k)).modPrg h .v (fun p => { p with pc :=
      (if condHolds c (s.branchValue h c k) then branchTarget (s.res h).v.pc o else (s.res h).v.pc + 4) })).afterTransfer (.task h .v)) := by
  rw [exec_vbr, execVbr, onVec_of _ turn]
  rfl

/-! ## The end -/

theorem endBlock_vector (s : State) (h : Nat) : s.endBlock h .v =
    if (s.modRes h (fun r => r.leave .v)).cur (hTile h) .v = some (hRes h) then (s.modRes h (fun r => r.leave .v)).switch (hTile h) .v
    else s.modRes h (fun r => r.leave .v) := rfl

/-- The end of a vector program: its block ends, and no switch begins another of it (R31, R37, R193). -/
theorem res_endBlock_ended (s : State) (h : Nat) :
    ((s.modRes h (fun r => r.setEst .v 3)).endBlock h .v).res h = ((s.res h).setEst .v 3).leave .v := by
  have left : ((s.modRes h (fun r => r.setEst .v 3)).modRes h (fun r => r.leave .v)).res h = ((s.res h).setEst .v 3).leave .v := by
    rw [State.modRes_eq, State.modRes_eq, State.res_setRes, State.res_setRes]
  have idle : ((s.modRes h (fun r => r.setEst .v 3)).modRes h (fun r => r.leave .v)).ready h .v = false := by
    have est : (((s.res h).setEst .v 3).leave .v).est .v = 3 :=
      ((Resident.left_leave _ _).est .v).trans (by rw [Resident.est_setEst _ _ _ (by decide), if_pos rfl])
    unfold State.ready
    simp only [left, est]
    simp
  rw [← left, endBlock_vector]
  split
  · exact res_switch idle
  · rfl

/-- A settled resident whose vector program has ended is left with its registers as they are (R100, R104). -/
theorem Resident.leave_ended (r : Resident) : let q := (r.settle.setEst .v 3).leave .v
    q.pend = [] ∧ q.vregs = r.settle.vregs ∧ q.mregs = r.settle.mregs ∧ q.kregs = r.kregs := by
  have kregs : r.settle.kregs = r.kregs := by rw [r.landed_settle]
  have left : (r.settle.setEst .v 3).leave .v = (r.settle.setEst .v 3).interrupt := rfl
  intro q
  rw [← kregs, show q = _ from left, Resident.interrupt]
  split <;> exact ⟨rfl, rfl, rfl, rfl⟩

/-- The state that END leaves once nothing is in flight, before the block ends: every write has landed, and its accesses are listed no longer (R193). -/
def State.vectorDone (s : State) (h : Nat) : State := { s.settled h with vops := (s.settled h).vops.filter (fun v => v.h != h) }

theorem res_vectorDone (s : State) (h : Nat) : (s.vectorDone h).res h = (s.res h).settle := res_settled s h

/-- END of a vector program with nothing in flight, no fault to report and every push taken (R37, R193). -/
theorem exec_vectorEnd_ends {s : State} {h : Nat} (turn : s.who = some (.task h .v)) (quiet : s.pathBusy (.task h) 1 = false)
    (taken : (s.res h).settle.portsHeld = false) (sound : s.vops.all (fun v => v.h != h || decide (v.fault = none)) = true)
    (clear : ∀ y, stBind ((s.res h).stream y) = 2 → fget none (s.res h).portFault y = none) :
    exec .vectorEnd s = .next (((s.vectorDone h).modRes h (fun r => r.setEst .v 3)).endBlock h .v) := by
  have kept := (s.res h).landed_settle
  have noFault : (s.settled h).vops.find? (fun v => v.h == h && v.finished && decide (v.fault ≠ none)) = none := by
    refine List.find?_eq_none.mpr fun v hv => ?_
    have fine := List.all_eq_true.mp sound v hv
    by_cases own : v.h = h <;> simp_all
  have noPort : ((List.range 8).filter (fun q => decide (stBind (((s.settled h).res h).stream q) = 2))).filterMap
      (fun q => (fget none ((s.settled h).res h).portFault q).map (fun f => (q, f))) = [] := by
    refine List.filterMap_eq_nil_iff.mpr fun q hq => ?_
    have bound := of_decide_eq_true (List.mem_filter.mp hq).2
    rw [res_settled, kept] at bound ⊢
    rw [clear q bound]
    rfl
  have still : (s.settled h).pathBusy (.task h) 1 = false := by simpa [State.pathBusy, State.settled] using quiet
  have drained : ((s.settled h).res h).portsHeld = false := by rw [res_settled, taken]
  rw [exec_vectorEnd, execVectorEnd, onVec_of _ turn]
  dsimp only
  rw [show s.modRes h Resident.settle = s.settled h from rfl, noFault]
  dsimp only
  rw [noPort]
  dsimp only
  rw [still, drained]
  rfl

end Sys2Proof.Machine

open Sys2Proof Sys2Proof.Machine

/-- Settles O35: broadcasts and k values are fixed-latency results; a branch issues and chooses its place; END settles the resident and leaves it. -/
theorem vectorScalarValuesAndControl : Obligations.VectorScalarValuesAndControl := by
  intro s h g d a k j l c o u va kr
  refine ⟨fun ready => ⟨?_, ?_⟩, fun ready => ⟨?_, fun even => ?_⟩, fun turn => ⟨?_, ?_, ?_, ?_, fun quiet taken sound clear => ?_⟩⟩
  · refine (vWrite_completes (rd := fun _ => _) ready (exec_vbcast g d k s)).imp fun t writes => ⟨_, writes, fun i hi => ?_⟩
    rw [lane_ofLanes _ hi, kread_landed]
    exact BitVec.setWidth_eq_extractLsb' (by decide)
  · refine (vWrite_completes (rd := fun _ => _) ready (exec_vbcastD g d k s)).imp fun t writes => ⟨_, writes, fun i hi => ?_⟩
    rw [lane_ofElems _ hi, kread_landed]
  · exact kWrite_completes ready (exec_vextr ..) (by rw [BitVec.signExtend])
  · exact kWrite_completes ready (exec_vextrD ..) (elem_half _ even)
  · exact vKop_completes turn (exec_kmov ..) (kread_landed ..)
  · exact vKop_completes turn (exec_kadd ..) (by rw [kread_landed, kread_landed]; rfl)
  · exact vKop_completes turn (exec_ksub ..) (by rw [kread_landed, kread_landed, ofInt_toInt_sub])
  · intro x takes
    obtain ⟨stays, others, own, counts⟩ := branchCounted_frame s h c k
    refine (vBranch_completes (exec_vbr_branches turn c k o) (condHolds_iff c x)).imp fun t ⟨local_, rest, res, yes, no, bnd⟩ => ⟨?_, ?_, ?_, ?_, yes, no, bnd⟩
    · rw [local_, stays]
      rfl
    · exact fun y n => (rest y n).trans (others y n)
    · rw [res, own]
    · refine fun y => Eq.trans ?_ (counts y)
      rw [State.kread, res]
      rfl
  · obtain ⟨est, mem, -⟩ := ends_of (s := s.vectorDone h) (h := h) (e := .v)
    have left := res_endBlock_ended (s.vectorDone h) h
    rw [res_vectorDone] at left
    obtain ⟨pend, vregs, mregs, kregs⟩ := (s.res h).leave_ended
    refine ⟨_, exec_vectorEnd_ends turn quiet taken sound clear, est, ?_, ?_, ?_, ?_, mem⟩ <;> rw [left]
    · exact pend
    · exact vregs
    · exact mregs
    · exact kregs
end

section
/-!
Two-operand scalar results (R128, R129), multiplication and division with their edge values (R130), as the integers' values modulo 2^64.
-/

namespace Sys2Proof.Machine
open Sys2Proof

/-! ## Quotients, remainders and high halves in the integers -/

section
variable {n : Nat}

theorem ite_ult (x y u v : BitVec n) : (if x < y then u else v) = if x.toNat < y.toNat then u else v := by
  simp only [BitVec.lt_def]

theorem mul_eq_ofNat (x y : BitVec n) : x * y = BitVec.ofNat n (x.toNat * y.toNat) := by
  rw [BitVec.ofNat_mul, BitVec.ofNat_toNat, BitVec.ofNat_toNat, BitVec.setWidth_eq, BitVec.setWidth_eq]

theorem sdiv_eq_ofInt (x y : BitVec n) : x.sdiv y = BitVec.ofInt n (x.toInt.tdiv y.toInt) :=
  BitVec.eq_of_toInt_eq (by rw [BitVec.toInt_sdiv, BitVec.toInt_ofInt])

theorem srem_eq_ofInt (x y : BitVec n) : x.srem y = BitVec.ofInt n (x.toInt.tmod y.toInt) := by
  rw [← BitVec.toInt_srem, BitVec.ofInt_toInt]

theorem udiv_eq_ofNat (x y : BitVec n) : x / y = BitVec.ofNat n (x.toNat / y.toNat) := by
  rw [← BitVec.toNat_udiv, BitVec.ofNat_toNat, BitVec.setWidth_eq]

theorem umod_eq_ofNat (x y : BitVec n) : x % y = BitVec.ofNat n (x.toNat % y.toNat) := by
  rw [← BitVec.toNat_umod, BitVec.ofNat_toNat, BitVec.setWidth_eq]

end

/-- The high half of a 128-bit value is its quotient by 2^64. -/
theorem high_half (p : Int) : (BitVec.ofInt 128 p >>> 64).setWidth 64 = BitVec.ofInt 64 (p / 2 ^ 64) := by
  refine BitVec.eq_of_toNat_eq ?_
  rw [BitVec.toNat_setWidth, BitVec.toNat_ushiftRight, BitVec.toNat_ofInt, BitVec.toNat_ofInt, Nat.shiftRight_eq_div_pow]
  omega

theorem mulHighS_eq (x y : Word) : mulHighS x y = BitVec.ofInt 64 (x.toInt * y.toInt / 2 ^ 64) := by
  rw [mulHighS, BitVec.signExtend, BitVec.signExtend, ← BitVec.ofInt_mul, high_half]

theorem mulHighU_eq (x y : Word) : mulHighU x y = BitVec.ofNat 64 (x.toNat * y.toNat / 2 ^ 64) := by
  have wide : x.setWidth 128 * y.setWidth 128 = BitVec.ofInt 128 ((x.toNat * y.toNat : Nat) : Int) := by
    rw [BitVec.ofInt_natCast, ← BitVec.ofNat_toNat, ← BitVec.ofNat_toNat, BitVec.ofNat_mul]
  rw [mulHighU, wide, high_half, ← BitVec.ofInt_natCast, Int.natCast_ediv]
  rfl

/-! ## Instructions of two operands -/

/-- An instruction of two operands completes with the value it computes (R128). -/
theorem aluOp_completes {s : State} {w : Who} {i : Instr} {d a b : BitVec 6} {f : Word → Word → Word} {v : Word} (turn : ScalarTurn s w)
    (e : exec i s = aluOp d a b f s) (value : f (s.sreg w a) (s.sreg w b) = v) : Completes i s (WritesSreg w d v s) :=
  completes_sreg turn (e.trans (onScalar_of turn _)) value

end Sys2Proof.Machine

open Sys2Proof Sys2Proof.Machine

/-- Settles O1: each instruction writes the value it computes, which is the integers' value modulo 2^64. -/
theorem scalarTwoOperandResults : Obligations.ScalarTwoOperandResults := by
  intro s w d a b turn x y
  refine ⟨?_, ?_, ?_, ?_, ?_, ?_, ?_, ?_, ?_, ?_, ?_, ?_, ?_, ?_⟩
  · exact aluOp_completes turn (exec_add ..) (BitVec.add_def _ _)
  · exact aluOp_completes turn (exec_sub ..) (ofInt_toInt_sub x y).symm
  · exact aluOp_completes turn (exec_and ..) rfl
  · exact aluOp_completes turn (exec_or ..) rfl
  · exact aluOp_completes turn (exec_xor ..) rfl
  · exact aluOp_completes turn (exec_shl ..) (shiftLeft_eq_ofNat x _)
  · exact aluOp_completes turn (exec_shr ..) (ushiftRight_eq_ofNat x _)
  · exact aluOp_completes turn (exec_sra ..) (sshiftRight_eq_ofInt x _)
  · exact aluOp_completes turn (exec_slt ..) (boolWord_decide _)
  · exact aluOp_completes turn (exec_sltu ..) (boolWord_decide _)
  · exact aluOp_completes turn (exec_min ..) (ite_slt x y x y)
  · exact aluOp_completes turn (exec_max ..) (ite_slt y x x y)
  · exact aluOp_completes turn (exec_minu ..) (ite_ult x y x y)
  · exact aluOp_completes turn (exec_maxu ..) (ite_ult y x x y)

/-- Settles O2: division by 0 is the model's own case, and every other value is the integers' modulo 2^64. -/
theorem scalarMultiplyDivideResults : Obligations.ScalarMultiplyDivideResults := by
  intro s w d a b turn x y
  refine ⟨?_, ?_, ?_, ?_, ?_, ?_, ?_⟩
  · exact aluOp_completes turn (exec_mul ..) (mul_eq_ofNat x y)
  · exact aluOp_completes turn (exec_mulh ..) (mulHighS_eq x y)
  · exact aluOp_completes turn (exec_mulhu ..) (mulHighU_eq x y)
  · exact aluOp_completes turn (exec_div ..) (by rw [← sdiv_eq_ofInt]; rfl)
  · exact aluOp_completes turn (exec_divu ..) (by rw [← udiv_eq_ofNat]; rfl)
  · exact aluOp_completes turn (exec_rem ..) (by rw [← srem_eq_ofInt]; rfl)
  · exact aluOp_completes turn (exec_remu ..) (by rw [← umod_eq_ofNat]; rfl)
end

section
/-!
Global loads and stores of a scalar program (R124, R133, R134, R276, R281, R350): an access that passes its checks joins those in flight, and the program goes on.
-/

namespace Sys2Proof.Machine
open Sys2Proof

/-! ## An access that passes its checks -/

/-- A global access that is aligned, not held and translated goes on over the use of its translation (R124, R135). -/
theorem globalAccess_of {s : State} {w : Who} {n : Nat} {a : Word} {acc : Acc} {acqrel : Bool} {tgt : Target} {leaf : BitVec 64} {k : Target → State → Out}
    (aligned : a.toNat % n = 0) (free : NotHeld s w true a.toNat n) (tr : Translates s w a.toNat acc acqrel tgt leaf) :
    globalAccess n a acc acqrel s w k = k tgt (s.touchTlb w.tlb (s.asidOf w) a.toNat acc) := by
  rw [globalAccess, heldUnsettled_of free, if_neg (by decide), if_neg (not_not.mpr aligned), heldOp_of free, withTarget_of tr]

theorem Touched.seqFor {s t : State} (a : Touched s t) (o : Owner) (p : BitVec 10) : t.seqFor o p = s.seqFor o p := by
  rw [a.rest]
  cases o <;> rfl

/-! ## Accesses that join those in flight -/

/-- An access as it stands among those in flight: with its number, its serial and its time. -/
def GAcc.joined (g : GAcc) (s : State) (q : Option Serial) : GAcc := { g with id := s.nextId, serial := q, since := s.stamp }

/-- An access that carries no serial joins those in flight and changes nothing else (R124). -/
theorem pushGacc_unnumbered (s : State) {g : GAcc} (plain : g.sequenced = false) :
    s.pushGacc g = { s with gaccs := s.gaccs ++ [g.joined s none], nextId := s.nextId + 1 } := by
  rw [State.pushGacc, plain]
  rfl

/-- A scalar store to an SO page of another package takes the next sequence toward it (R276, R350). -/
theorem pushGacc_numbered (s : State) {g : GAcc} (seq : g.sequenced = true) (dest : g.dest = .none) :
    s.pushGacc g = { s.takeSeq g.owner g.tgt.peer with
      gaccs := s.gaccs ++ [g.joined s (some (s.serialOf g.owner (s.seqFor g.owner g.tgt.peer).next))], nextId := s.nextId + 1 } := by
  have fresh : s.keptFor g = none := by
    rw [State.keptFor]
    simp only [GAcc.keepKey, dest]
    split <;> rfl
  have taken : (s.takeSeq g.owner g.tgt.peer).gaccs = s.gaccs ∧ (s.takeSeq g.owner g.tgt.peer).nextId = s.nextId ∧ (s.takeSeq g.owner g.tgt.peer).stamp = s.stamp := by
    cases g.owner <;> exact ⟨rfl, rfl, rfl⟩
  obtain ⟨gaccs, next, stamp⟩ := taken
  rw [State.pushGacc, seq, fresh, GAcc.joined, ← gaccs, ← next, ← stamp]
  rfl

/-- A serial names its sequence, and a task's names the task (R350). -/
theorem serialOf_seq (s : State) (o : Owner) (n : BitVec 32) : (s.serialOf o n).seq = n := by cases o <;> rfl

/-- One store to a package's SO page finds a serial free (R357). -/
theorem storeRoom_one {s : State} {w : Who} {t : Target} (free : t.aper = 2 ∧ t.kind = 0 → SerialsFree s w t.peer 1) : s.storeRoom w.owner [t] = true := by
  by_cases numbered : t.aper = 2 ∧ t.kind = 0
  · have room : s.seqRoom w.owner t.peer 1 = true := decide_eq_true (free numbered)
    simp [State.storeRoom, room]
  · simpa [State.storeRoom, not_and_or] using .inl (not_and_or.mp numbered)

/-! ## Loads -/

/-- The load that the program has issued (R133, R134, R281). -/
def LoadIssued (s : State) (w : Who) (z : BitVec 2) (d : BitVec 6) (tgt : Target) (acq signed : Bool) (scope : BitVec 3) (addr : Nat) (t : State) : Prop := ∃ g,
  ScalarSteps w { s with gaccs := s.gaccs ++ [g], nextId := s.nextId + 1 } t ∧
  g.id = s.nextId ∧ g.owner = w.owner ∧ g.path = 0 ∧ g.isStore = false ∧ g.tgt = tgt ∧ g.va = addr ∧ g.n = 2 ^ z.toNat ∧
  g.acq = acq ∧ g.rel = false ∧ g.scope = scope ∧ g.dest = .sreg d.toNat signed ∧ g.failed = none

section
variable {s : State} {w : Who} {i : Instr} {z : BitVec 2} {d : BitVec 6} {av : Who → Word} {scope : BitVec 3} {tgt : Target} {leaf : BitVec 64}

/-- The scalar program's path is S. -/
theorem path_of_scalarTurn (turn : ScalarTurn s w) : w.path = 0 := by
  cases w with
  | task h e => rw [turn.2 h e rfl]; rfl
  | sv c => rfl

theorem globalLoad_issues {signed acq : Bool} (turn : ScalarTurn s w) (e : exec i s = globalLoad z d av signed acq scope s) (aligned : (av w).toNat % 2 ^ z.toNat = 0)
    (free : NotHeld s w true (av w).toNat (2 ^ z.toNat)) (tr : Translates s w (av w).toNat .load acq tgt leaf) :
    Completes i s (LoadIssued s w z d tgt acq signed scope (av w).toNat) := by
  refine ⟨_, e.trans ((onScalar_of turn _).trans (globalAccess_of aligned free tr)),
    (mkLoad w s tgt (av w).toNat (2 ^ z.toNat) acq scope (.sreg d.toNat signed)).joined s none, ?_, rfl, rfl, path_of_scalarTurn turn, rfl, rfl, rfl, rfl, rfl, rfl, rfl, rfl, rfl⟩
  rw [touchTlb_hit (by decide) tr, pushGacc_unnumbered s rfl]
  exact advance_steps w _ turn.2

/-! ## Stores -/

/-- The store that the program has issued over u, in which its translation has been used (R133, R281, R298, R350). -/
def StoreIssued (s u : State) (w : Who) (z : BitVec 2) (d : BitVec 6) (tgt : Target) (rel : Bool) (scope : BitVec 3) (addr : Nat) (t : State) : Prop := ∃ g,
  (let x := u.seqFor w.owner tgt.peer
   let v := if tgt.aper = 2 ∧ tgt.kind = 0 then u.setSeqFor w.owner tgt.peer { x with next := x.next + 1, outstanding := x.outstanding + 1 } else u
   ScalarSteps w { v with gaccs := u.gaccs ++ [g], nextId := u.nextId + 1 } t ∧
   (tgt.aper = 2 ∧ tgt.kind = 0 → ∃ q, g.serial = some q ∧ q.seq = x.next ∧
     ∀ h, w = .task h .s → q.asid = (s.res h).asid ∧ q.nodeInst = (s.res h).nodeInst ∧ q.taskNum = (s.res h).taskNum)) ∧
  (¬ (tgt.aper = 2 ∧ tgt.kind = 0) → g.serial = none) ∧
  g.owner = w.owner ∧ g.path = 0 ∧ g.isStore = true ∧ g.tgt = tgt ∧ g.va = addr ∧ g.n = 2 ^ z.toNat ∧
  g.data = leBytes (2 ^ z.toNat) (s.sreg w d).toNat ∧ g.acq = false ∧ g.rel = rel ∧ g.scope = scope ∧ g.failed = none

/-- The store of the low bytes of v that the program makes in state u. -/
def State.scalarStore (u : State) (w : Who) (z : BitVec 2) (v : Word) (tgt : Target) (rel : Bool) (scope : BitVec 3) (addr : Nat) : GAcc :=
  mkStore w u tgt addr (leBytes (2 ^ z.toNat) v.toNat) rel scope false

theorem scalarStore_sequenced (u : State) (w : Who) (z : BitVec 2) (v : Word) (tgt : Target) (rel : Bool) (scope : BitVec 3) (addr : Nat) :
    (u.scalarStore w z v tgt rel scope addr).sequenced = true ↔ tgt.aper = 2 ∧ tgt.kind = 0 := by
  simp [State.scalarStore, mkStore, GAcc.sequenced]

/-- The store joins those in flight, numbered or not, and the program goes on. -/
theorem storeIssued_of {u : State} (used : Touched s u) (turn : ScalarTurn s w) (rel : Bool) (addr : Nat) : StoreIssued s u w z d tgt rel scope addr
    ((u.pushGacc (u.scalarStore w z (s.sreg w d) tgt rel scope addr)).advance w) := by
  have seq := scalarStore_sequenced u w z (s.sreg w d) tgt rel scope addr
  by_cases numbered : tgt.aper = 2 ∧ tgt.kind = 0
  · refine ⟨(u.scalarStore w z (s.sreg w d) tgt rel scope addr).joined u (some (u.serialOf w.owner (u.seqFor w.owner tgt.peer).next)),
      ⟨?_, fun _ => ⟨_, rfl, serialOf_seq .., fun h task => ?_⟩⟩, fun no => absurd numbered no, rfl, path_of_scalarTurn turn, rfl, rfl, rfl,
      leBytes_length .., rfl, rfl, rfl, rfl, rfl⟩
    · rw [pushGacc_numbered u (seq.mpr numbered) rfl, if_pos numbered]
      exact advance_steps w _ turn.2
    · subst task
      rw [← used.res h]
      exact ⟨rfl, rfl, rfl⟩
  · refine ⟨(u.scalarStore w z (s.sreg w d) tgt rel scope addr).joined u none, ⟨?_, fun yes => absurd yes numbered⟩, fun _ => rfl, rfl,
      path_of_scalarTurn turn, rfl, rfl, rfl, leBytes_length .., rfl, rfl, rfl, rfl, rfl⟩
    rw [pushGacc_unnumbered u (Bool.eq_false_iff.mpr (mt seq.mp numbered)), if_neg numbered]
    exact advance_steps w _ turn.2

theorem globalStore_issues {rel : Bool} (turn : ScalarTurn s w) (e : exec i s = globalStore z d av rel scope s) (serials : tgt.aper = 2 ∧ tgt.kind = 0 → SerialsFree s w tgt.peer 1)
    (aligned : (av w).toNat % 2 ^ z.toNat = 0) (free : NotHeld s w true (av w).toNat (2 ^ z.toNat)) (tr : Translates s w (av w).toNat .store rel tgt leaf) :
    Completes i s (StoreIssued s (s.touchTlb w.tlb (s.asidOf w) (av w).toNat .store) w z d tgt rel scope (av w).toNat) := by
  have used := touched_touchTlb s w.tlb (s.asidOf w) (av w).toNat .store
  have room : (s.touchTlb w.tlb (s.asidOf w) (av w).toNat .store).storeRoom w.owner [tgt] = true :=
    storeRoom_one fun numbered => by
      rw [SerialsFree, used.seqFor]
      exact serials numbered
  refine ⟨_, e.trans ((onScalar_of turn _).trans ((globalAccess_of aligned free tr).trans (if_neg ?_))), storeIssued_of used turn rel _⟩
  rw [room]
  decide

end

end Sys2Proof.Machine

open Sys2Proof Sys2Proof.Machine

/-- Settles O6: the four loads are one access, at a sum or at a register, that joins the accesses in flight. -/
theorem scalarGlobalLoadsIssue : Obligations.ScalarGlobalLoadsIssue := by
  intro s w z d a i c tgt leaf turn n va vz issues
  have sum : s.sreg w a + sx i = BitVec.ofInt 64 ((s.sreg w a).toInt + i.toInt) := (ofInt_add_toInt _ i).symm
  refine ⟨fun aligned free tr => ?_, fun aligned free tr => ?_, fun aligned free tr => ⟨?_, ?_⟩⟩
  · have at_ : va = (s.sreg w a + sx i).toNat := congrArg BitVec.toNat sum.symm
    rw [at_] at aligned free tr ⊢
    exact globalLoad_issues (av := fun w => s.sreg w a + sx i) turn (exec_ldg ..) aligned free tr
  · exact globalLoad_issues (av := fun w => s.sreg w a) turn (exec_ldgZ ..) aligned free tr
  · exact globalLoad_issues (av := fun w => s.sreg w a) turn (exec_ldgAcq ..) aligned free tr
  · exact globalLoad_issues (av := fun w => s.sreg w a) turn (exec_ldgAcqZ ..) aligned free tr

/-- Settles O7: the two stores are one access, at a sum or at a register, that takes a serial toward another package's SO page. -/
theorem scalarGlobalStoresIssue : Obligations.ScalarGlobalStoresIssue := by
  intro s w z d a i c tgt leaf turn n va vz numbered issues serials
  have sum : s.sreg w a + sx i = BitVec.ofInt 64 ((s.sreg w a).toInt + i.toInt) := (ofInt_add_toInt _ i).symm
  refine ⟨fun aligned free tr => ?_, fun aligned free tr => ?_⟩
  · have at_ : va = (s.sreg w a + sx i).toNat := congrArg BitVec.toNat sum.symm
    rw [at_] at aligned free tr ⊢
    exact globalStore_issues (av := fun w => s.sreg w a + sx i) turn (exec_stg ..) serials aligned free tr
  · exact globalStore_issues (av := fun w => s.sreg w a) turn (exec_stgRel ..) serials aligned free tr
end

section
/-!
GLAUNCH (R147, R340): a launch's number is found while one is free, and the launch joins the queue of the task's level.
-/

namespace Sys2Proof.Machine
open Sys2Proof

/-! ## Numbers of launches -/

/-- A number that a launch of a graph with len replays may take (R340). -/
def State.InstFree (s : State) (len : Nat) (n : BitVec 24) : Prop := n ≠ 0 ∧ s.instUsed n.toNat len = false

/-- The test that the search makes of a number below 2^24. -/
theorem instFree_ofNat {s : State} {len y : Nat} (below : y < 2 ^ 24) (ok : (y != 0 && !s.instUsed y len) = true) : s.InstFree len (BitVec.ofNat 24 y) := by
  obtain ⟨nz, unused⟩ := Bool.and_eq_true_iff.mp ok
  have value : (BitVec.ofNat 24 y).toNat = y := (BitVec.toNat_ofNat ..).trans (Nat.mod_eq_of_lt below)
  refine ⟨fun zero => bne_iff_ne.mp nz ?_, ?_⟩
  · rw [← value, zero]
    rfl
  · rw [value]
    simpa using unused

/-- The search finds a free number, or none is free and it answers 0 (R147, R340). -/
theorem newInst_spec (s : State) (len : Nat) : s.InstFree len (s.newInst len) ∨ s.newInst len = 0 ∧ ∀ n, ¬ s.InstFree len n := by
  unfold State.newInst
  extract_lets x ends cand free
  split
  · next y found =>
    have below : y < 2 ^ 24 := by
      obtain ⟨z, _, two⟩ := List.mem_flatMap.mp (List.mem_of_find?_eq_some found)
      simp only [List.mem_cons, List.not_mem_nil, or_false] at two
      rcases two with rfl | rfl <;> exact Nat.mod_lt _ (by decide)
    exact .inl (instFree_ofNat below (List.find?_some (p := free) found))
  · cases all : (List.range (2 ^ 24)).find? free with
    | some y => exact .inl (instFree_ofNat (List.mem_range.mp (List.mem_of_find?_eq_some all)) (List.find?_some (p := free) all))
    | none =>
      refine .inr ⟨rfl, fun n ⟨nz, unused⟩ => ?_⟩
      have no := List.find?_eq_none.mp all n.toNat (List.mem_range.mpr n.isLt)
      have pos : n.toNat ≠ 0 := fun zero => nz (BitVec.eq_of_toNat_eq zero)
      simp [free, pos, unused] at no

/-! ## The queue of a level -/

section
variable {s : State} {g : Nat} {rebase : Word} {level : BitVec 2}

/-- A launch joins a queue with room under a free number (R331, R340). -/
theorem queueInst_some (room : (s.queues.filter (fun q => decide (q.level = level))).length < 4096) (avail : ∃ n, s.InstFree (s.graph g).rcnt n) :
    ∃ n, s.InstFree (s.graph g).rcnt n ∧
      s.queueInst g rebase level = some ({ s with fresh := s.fresh + 1, queues := s.queues ++ [{ graph := g, first := n, rebase := rebase, level := level }] }, n) := by
  obtain ⟨n, free⟩ := avail
  have found := (newInst_spec s (s.graph g).rcnt).resolve_right fun no => no.2 n free
  exact ⟨_, found, by rw [State.queueInst, if_neg (Nat.not_le.mpr room)]; exact if_neg found.1⟩

/-- A full queue, or one for whose launch no number is free, takes none (R147). -/
theorem queueInst_none (h : ¬ (s.queues.filter (fun q => decide (q.level = level))).length < 4096 ∨ ∀ n, ¬ s.InstFree (s.graph g).rcnt n) :
    s.queueInst g rebase level = none := by
  by_cases full : 4096 ≤ (s.queues.filter (fun q => decide (q.level = level))).length
  · exact if_pos full
  · have taken := h.resolve_left (not_not.mpr (Nat.not_le.mp full))
    have zero := ((newInst_spec s (s.graph g).rcnt).resolve_left (taken _)).1
    rw [State.queueInst, if_neg full]
    exact if_pos zero

end

/-- No store of the path stands uncommitted (R286). -/
theorem storesOut_of_committed {s : State} {o : Owner} {path : BitVec 3} (done : ∀ g ∈ s.gaccs, g.owner = o → g.path = path → g.isStore = true → g.failed ≠ none) :
    s.storesOut o path = false := List.any_eq_false.mpr fun g hg => by
  simpa [and_imp] using done g hg

/-! ## GLAUNCH -/

section
variable {s : State} {h : Nat} {d a b : BitVec 6}

/-- What GLAUNCH of a graph of the task's own answers: the launch's number, or 0 where the queue does not take it (R147). -/
def State.launched (s : State) (h : Nat) (d : BitVec 6) (hd rebase : Word) : State :=
  match s.queueInst (hdlIdx hd) rebase (s.res h).prio with
  | none => scalarResult (.task h .s) d 0 s
  | some (s', n) => scalarResult (.task h .s) d (n.setWidth 64) s'

/-- GLAUNCH of a task's scalar program: the right, the stores before it, the handle, then the queue (R147). -/
theorem exec_glaunch_task (turn : ScalarTurn s (.task h .s)) : exec (.glaunch d a b) s =
    if !s.hasRight 86 (s.classOfWho (.task h .s)) 1 then .next (s.takeFault (.task h .s) .instr (faultInfo 0x12 2))
    else if s.storesOut (.task h) 0 then .next s
    else if !s.graphLive (s.sreg (.task h .s) a) || hdlAsid (s.sreg (.task h .s) a) ≠ s.asidOf (.task h .s) then .next (scalarResult (.task h .s) d 0 s)
    else .next (s.launched h d (s.sreg (.task h .s) a) (s.sreg (.task h .s) b)) := by
  rw [exec_glaunch, execGlaunch, onScalar_of turn, State.launched]
  dsimp only [Who.owner]
  cases s.queueInst (hdlIdx (s.sreg (.task h .s) a)) (s.sreg (.task h .s) b) (s.res h).prio with
  | none => rfl
  | some q => rfl

/-- With the right and every earlier store committed, GLAUNCH of a graph of its own comes to the queue (R147, R286). -/
theorem exec_glaunch_own (turn : ScalarTurn s (.task h .s)) (right : s.hasRight 86 (s.classOfWho (.task h .s)) 1 = true) (quiet : s.storesOut (.task h) 0 = false)
    (live : s.graphLive (s.sreg (.task h .s) a) = true) (own : hdlAsid (s.sreg (.task h .s) a) = s.asidOf (.task h .s)) :
    exec (.glaunch d a b) s = .next (s.launched h d (s.sreg (.task h .s) a) (s.sreg (.task h .s) b)) := by
  rw [exec_glaunch_task turn, right, quiet, live, own]
  simp

end

end Sys2Proof.Machine

open Sys2Proof Sys2Proof.Machine

/-- Settles O16: the search for a number succeeds exactly while one is free, and every refusal answers 0 over an unchanged machine. -/
theorem graphLaunch : Obligations.GraphLaunch := by
  intro s h d a b w hd level room free turn
  refine ⟨fun no => ?_, fun right committed => ?_⟩
  · rw [exec_glaunch_task turn, no]
    rfl
  · have quiet : s.storesOut (.task h) 0 = false := storesOut_of_committed committed
    refine ⟨fun live own fits avail => ?_, fun other => ?_, fun live own taken => ?_⟩
    · obtain ⟨n, unused, queued⟩ := queueInst_some (rebase := s.sreg w b) fits avail
      refine ⟨_, ?_, n, unused, scalarResult_writes w d _ _ turn.2⟩
      rw [exec_glaunch_own turn right quiet live own, State.launched, queued]
    · refine completes_sreg turn ?_ rfl
      have refused : (!s.graphLive hd || decide (hdlAsid hd ≠ s.asidOf w)) = true := by
        rcases other with dead | foreign
        · rw [dead]; rfl
        · rw [decide_eq_true foreign, Bool.or_true]
      rw [exec_glaunch_task turn, right, quiet]
      exact if_pos refused
    · refine completes_sreg turn ?_ rfl
      rw [exec_glaunch_own turn right quiet live own, State.launched, queueInst_none taken]
end

section
/-!
Supervisor functions on residents (R150 to R153): a function on a supervisor core by its operand, its statuses, and a register write behind an older one that is held (R46).
-/

namespace Sys2Proof.Machine
open Sys2Proof

/-! ## Functions of a supervisor core (R127, R150) -/

section
variable {s : State} {c : Nat}

theorem onSupv_of (turn : ScalarTurn s (.sv c)) (i : Instr) (k : Nat → Out) : onSupv i s k = k c := onScalar_of turn _

/-- The handle of one of the package's residents (R150). -/
theorem handleOk_iff (x : Word) : handleOk x = true ↔ x.toNat < 4096 ∧ x.toNat % 512 < 288 := by simp [handleOk]

theorem onResident_bad {d : BitVec 6} {hd : Word} {ok : Bool} {k : Nat → State × Nat} (bad : handleOk hd = false) :
    onResident c d hd ok s k = .next (supvResult c d 3 s) := if_pos (by rw [bad]; rfl)

theorem onResident_free {d : BitVec 6} {hd : Word} {k : Nat → State × Nat} (good : handleOk hd = true) (free : (s.res hd.toNat).life = .free) :
    onResident c d hd true s k = .next (supvResult c d 2 s) := by
  rw [onResident, good]
  exact if_pos free

theorem onResident_taken {d : BitVec 6} {hd : Word} {k : Nat → State × Nat} (good : handleOk hd = true) (taken : (s.res hd.toNat).life ≠ .free) :
    onResident c d hd true s k = .next (supvResult c d (k hd.toNat).2 (k hd.toNat).1) := by
  rw [onResident, good]
  exact if_neg taken

/-- A function that answers status n over an unchanged machine writes it. -/
theorem completes_status {i : Instr} {d : BitVec 6} {n : Nat} (turn : ScalarTurn s (.sv c)) (e : exec i s = .next (supvResult c d n s)) :
    Completes i s (WritesSreg (.sv c) d (BitVec.ofNat 64 n) s) := completes_sreg turn e rfl

/-- A write to a register of an ACTIVE resident that stands behind an older one, still held, is held too: the core goes on without a status (R46, R151). -/
theorem exec_wrr_behind {d a b : BitVec 6} {h n : Nat} (turn : ScalarTurn s (.sv c)) (good : handleOk (s.sreg (.sv c) a) = true) (hh : (s.sreg (.sv c) a).toNat = h)
    (hn : (s.sreg (.sv c) b).toNat % 16384 = n) (reads : (s.resCr h true n).isSome = true) (writes : supWritable n = true) (taken : (s.res h).life ≠ .free)
    (plain : n ≠ 0x102) (older : (s.res h).held.any (fun y => y.cr == n) = true) :
    exec (.wrr d a b) s = .next ((s.setRes h { s.res h with held := (s.res h).held ++ [{ core := c, reg := d.toNat, value := s.sreg (.sv c) d, cr := n }] }).advance (.sv c)) := by
  rw [exec_wrr, execWrr, onSupv_of turn]
  simp only [hh, hn, good, writes, older, Option.isNone_eq_false_iff.mpr reads, if_neg taken, if_neg plain, Bool.not_true, Bool.and_false, Bool.false_eq_true, if_false]
  rfl

end

/-- Supervisor core 0 writes RNG of resident 0, which is ACTIVE while an older write of RNG, held during its restore, has not been made yet (R46). -/
def heldRng : State :=
  { State.reset with
    turn := .sv 0
    residents := [(0, { Resident.start with life := .active, held := [{ core := 1, reg := 5, value := 9, cr := 2 }] })]
    svs := [(0, { SvCore.start with sc := { SCtx.start with sregs := [(2, 2), (3, 7)] } })] }

theorem heldRng_turn : ScalarTurn heldRng (.sv 0) := ⟨rfl, fun _ _ no => by cases no⟩

/-- WRR of RNG there joins the writes that are held. -/
theorem heldRng_wrr : exec (.wrr 3 1 2) heldRng = .next ((heldRng.setRes 0 { heldRng.res 0 with
    held := [{ core := 1, reg := 5, value := 9, cr := 2 }, { core := 0, reg := 3, value := 7, cr := 2 }] }).advance (.sv 0)) :=
  exec_wrr_behind heldRng_turn (by decide) rfl rfl (by decide) (by decide) (by decide) (by decide) (by decide)

end Sys2Proof.Machine

open Sys2Proof Sys2Proof.Machine

/-- Refutes O17: its clause for WRR leaves out that an older write of the same register may still be held, and the new one then waits behind it. -/
theorem not_supervisorFunctionsOnResidents : ¬ Obligations.SupervisorFunctionsOnResidents := by
  intro claim
  obtain ⟨-, wrr, -⟩ := claim heldRng 0 3 1 2 heldRng_turn (by decide) (by decide) (by decide)
  obtain ⟨t, runs, ⟨⟨-, residents, -⟩, -⟩, -⟩ := wrr { heldRng.res 0 with rng := rngValue 7 } (by decide) (by decide) (by decide) (by decide) rfl
  cases heldRng_wrr.symm.trans runs
  have same := congrArg (fun r => r.held.length) (residents 0 (fun _ no => by cases no))
  revert same
  decide

/-- Settles O18: the handle is judged first, then whether the resident is FREE, then whether it is ACTIVE. -/
theorem supervisorFunctionStatuses : Obligations.SupervisorFunctionStatuses := by
  intro s c d a b w h turn
  have preempt : exec (.preempt d a) s = _ := (exec_preempt d a s).trans (onSupv_of turn _ _)
  have teardown : exec (.teardown d a) s = _ := (exec_teardown d a s).trans (onSupv_of turn _ _)
  have resume : exec (.resume d a b) s = _ := (exec_resume d a b s).trans (onSupv_of turn _ _)
  refine ⟨fun bad => ?_, fun low tile free => ?_, fun low tile taken idle => ?_⟩
  · have no : handleOk (s.sreg w a) = false := Bool.eq_false_iff.mpr fun yes => by
      have := (handleOk_iff _).mp yes
      omega
    exact ⟨completes_status turn (preempt.trans (onResident_bad no)), completes_status turn (teardown.trans (onResident_bad no)),
      completes_status turn (resume.trans (onResident_bad no))⟩
  · have good := (handleOk_iff (s.sreg w a)).mpr ⟨low, tile⟩
    refine ⟨completes_status turn (preempt.trans (onResident_free good free)), completes_status turn (teardown.trans (onResident_free good free)), fun code => ?_⟩
    refine completes_status turn (resume.trans ?_)
    dsimp only
    rw [decide_eq_true code, onResident_free good free]
  · have good := (handleOk_iff (s.sreg w a)).mpr ⟨low, tile⟩
    have one : ∀ f : State × Nat, (if (s.res h).life = .active then f else (s, 1)) = (s, 1) := fun _ => if_neg idle
    refine ⟨completes_status turn (preempt.trans ((onResident_taken good taken).trans ?_)), completes_status turn (teardown.trans ((onResident_taken good taken).trans ?_))⟩
    · rw [one]
    · rw [one]
end

section
/-!
TLBI (R154): what a walk reads, the accesses that are translated again (R298), and what the invalidation waits for.
-/

namespace Sys2Proof.Machine
open Sys2Proof

/-! ## What a walk and its checks read -/

/-- The page tables, their poison and the access rights read the same. -/
structure SamePages (s t : State) : Prop where
  mem : ∀ x, memByte t.mem x = memByte s.mem x
  poison : t.poison = s.poison
  atbase : t.atbase = s.atbase
  rights : t.rights = s.rights

theorem SamePages.trans {s t u : State} (a : SamePages s t) (b : SamePages t u) : SamePages s u :=
  ⟨fun x => (b.mem x).trans (a.mem x), b.poison.trans a.poison, b.atbase.trans a.atbase, b.rights.trans a.rights⟩

section
variable {s t : State} (same : SamePages s t)
include same

theorem SamePages.memNat (a n : Nat) : memNat t.mem a n = Machine.memNat s.mem a n := by
  simp only [Machine.memNat, memRead, same.mem]

theorem SamePages.poisoned (pa n : Nat) : t.poisoned pa n = s.poisoned pa n := by
  rw [State.poisoned, same.poison, State.poisoned]

theorem SamePages.asidEntry (asid : BitVec 14) : t.asidEntry asid = s.asidEntry asid := by
  rw [State.asidEntry, same.memNat, same.atbase, State.asidEntry]

theorem SamePages.walkFrom (va fuel lvl a : Nat) : t.walkFrom va fuel lvl a = s.walkFrom va fuel lvl a := by
  induction fuel generalizing lvl a with
  | zero => rfl
  | succ fuel ih => simp only [State.walkFrom, same.poisoned, same.memNat, ih]

theorem SamePages.walk (asid : BitVec 14) (va : Nat) : t.walk asid va = s.walk asid va := by
  simp only [State.walk, same.poisoned, same.asidEntry, same.walkFrom, same.atbase]

theorem SamePages.checkLeaf (asid : BitVec 14) (cls lvl : Nat) (e : BitVec 64) (va : Nat) (a : Acc) (q : Bool) :
    t.checkLeaf asid cls lvl e va a q = s.checkLeaf asid cls lvl e va a q := by
  have key : ∀ k w, t.keyOk asid k w = s.keyOk asid k w := fun k w => by simp only [State.keyOk, same.asidEntry]
  have right : ∀ x y b, t.hasRight x y b = s.hasRight x y b := fun x y b => by simp only [State.hasRight, same.rights]
  have table : ∀ pa, t.tableOk cls pa a = s.tableOk cls pa a := fun pa => by simp only [State.tableOk, right]
  simp only [State.checkLeaf, key, table]

theorem SamePages.kTarget (asid : BitVec 14) (cls va : Nat) (a : Acc) : t.kTarget asid cls va a = s.kTarget asid cls va a := by
  simp only [State.kTarget, same.walk, same.checkLeaf]

end

/-- A walk that passes its checks gives the access's target. -/
theorem kTarget_ok {s : State} {asid : BitVec 14} {cls va lvl : Nat} {e : BitVec 64} {a : Acc} {tgt : Target} (inside : va < 2 ^ 56)
    (leaf : (s.walk asid va).1 = .leaf lvl e) (ok : s.checkLeaf asid cls lvl e va a false = .ok tgt e) : s.kTarget asid cls va a = .ok tgt := by
  rw [State.kTarget, if_neg (Nat.not_le.mpr inside), leaf]
  dsimp only
  rw [ok]

/-! ## Marking a leaf that is marked (R298) -/

/-- A walk ends on the entry that memory holds at the address it gives. -/
theorem walkFrom_leaf {s : State} {va fuel lvl a l pa : Nat} {e : BitVec 64} (walk : s.walkFrom va fuel lvl a = (.leaf l e, pa)) : e = BitVec.ofNat 64 (memNat s.mem pa 8) := by
  induction fuel generalizing lvl a with
  | zero => cases walk
  | succ fuel ih =>
    unfold State.walkFrom at walk
    dsimp only at walk
    split at walk
    · cases walk
    · split at walk
      · cases walk
      · split at walk
        · cases walk
        · split at walk
          · cases walk
            rfl
          · exact ih walk

theorem walk_leaf {s : State} {asid : BitVec 14} {va l pa : Nat} {e : BitVec 64} (walk : s.walk asid va = (.leaf l e, pa)) : e = BitVec.ofNat 64 (memNat s.mem pa 8) := by
  unfold State.walk at walk
  dsimp only at walk
  split at walk
  · cases walk
  · split at walk
    · cases walk
    · exact walkFrom_leaf walk

/-- The bytes of a number that bytes give. -/
theorem leBytes_leNat (bs : List Byte) : leBytes bs.length (leNat bs) = bs := by
  induction bs with
  | nil => rfl
  | cons b bs ih =>
    have low := b.isLt
    have first : BitVec.ofNat 8 (b.toNat + 256 * leNat bs) = b := BitVec.eq_of_toNat_eq (by rw [BitVec.toNat_ofNat]; omega)
    have rest : (b.toNat + 256 * leNat bs) / 256 = leNat bs := by omega
    rw [leNat, List.length_cons, leBytes, first, rest, ih]

/-- Writing back the bytes that memory holds changes no byte. -/
theorem memByte_memWrite_memRead (m : Memory) (a n x : Nat) : memByte (memWrite m a (memRead m a n)) x = memByte m x := by
  have length : (memRead m a n).length = n := by simp [memRead]
  by_cases inside : a ≤ x ∧ x < a + n
  · obtain ⟨i, rfl⟩ := Nat.exists_eq_add_of_le inside.1
    have lt : i < (memRead m a n).length := by omega
    rw [memByte_memWrite_inside _ m a i lt]
    simp [memRead]
  · exact memByte_memWrite_other _ m a x (by omega)

theorem or_marked {e : BitVec 64} (marked : leafA e = true) : e ||| 0x800#64 = e := by
  refine BitVec.eq_of_getLsbD_eq fun i hi => ?_
  rw [BitVec.getLsbD_or, show 0x800#64 = BitVec.twoPow 64 11 from rfl, BitVec.getLsbD_twoPow]
  by_cases bit : 11 = i
  · subst bit
    rw [show e.getLsbD 11 = true from marked, Bool.true_or]
  · simp [bit]

/-- Marking A in a leaf that has it changes no byte of memory. -/
theorem markLeaf_samePages {s : State} {asid : BitVec 14} {va lvl : Nat} {e : BitVec 64} (leaf : (s.walk asid va).1 = .leaf lvl e) (marked : leafA e = true) :
    SamePages s (s.markLeaf asid va false) := by
  obtain ⟨pa, walk⟩ : ∃ pa, s.walk asid va = (.leaf lvl e, pa) := ⟨_, Prod.ext leaf rfl⟩
  have entry := walk_leaf walk
  have value : memNat s.mem pa 8 < 2 ^ 64 := leNat_memRead_lt s.mem pa 8
  have bytes : leBytes 8 (BitVec.ofNat 64 (memNat s.mem pa 8) ||| 0x800#64).toNat = memRead s.mem pa 8 := by
    rw [← entry, or_marked marked, entry, BitVec.toNat_ofNat, Nat.mod_eq_of_lt value]
    exact leBytes_leNat (memRead s.mem pa 8)
  have same : s.markLeaf asid va false = s.setEntryBits pa 0x800#64 := by
    rw [State.markLeaf, walk]
    rfl
  rw [same]
  refine ⟨fun x => ?_, rfl, rfl, rfl⟩
  show memByte (memWrite s.mem pa (leBytes 8 (BitVec.ofNat 64 (memNat s.mem pa 8) ||| 0x800#64).toNat)) x = _
  rw [bytes, memByte_memWrite_memRead]

/-- Marking a leaf changes memory and the directory alone (R298, R323). -/
theorem markLeaf_frame (s : State) (asid : BitVec 14) (va : Nat) (store : Bool) :
    s.markLeaf asid va store = { s with mem := (s.markLeaf asid va store).mem, directory := (s.markLeaf asid va store).directory } := by
  unfold State.markLeaf
  split <;> rfl

/-! ## Accesses translated again -/

/-- Sequence states alone differ (R350, R356). -/
structure Resequenced (s t : State) : Prop where
  rest : t = { s with residents := t.residents, sysSeqs := t.sysSeqs }
  res : ∀ h, t.res h = { s.res h with seqs := (t.res h).seqs }

theorem Resequenced.refl (s : State) : Resequenced s s := ⟨rfl, fun _ => rfl⟩

theorem Resequenced.trans {s t u : State} (a : Resequenced s t) (b : Resequenced t u) : Resequenced s u :=
  ⟨by rw [b.rest, a.rest], fun h => by rw [b.res, a.res]⟩

theorem Resequenced.gaccs {s t : State} (a : Resequenced s t) : t.gaccs = s.gaccs := by rw [a.rest]

theorem Resequenced.samePages {s t : State} (a : Resequenced s t) : SamePages s t := by
  rw [a.rest]
  exact ⟨fun _ => rfl, rfl, rfl, rfl⟩

theorem resequenced_setSeqFor (s : State) (o : Owner) (pkg : BitVec 10) (x : SeqState) : Resequenced s (s.setSeqFor o pkg x) := by
  cases o with
  | task h =>
    refine ⟨rfl, fun k => ?_⟩
    by_cases own : k = h
    · subst own
      exact (State.res_setRes ..).trans (by rw [State.setSeqFor, State.modRes_eq, State.res_setRes])
    · exact (State.res_setRes_other _ _ own).trans (by rw [State.setSeqFor, State.modRes_eq, State.res_setRes_other _ _ own])
  | sv _ | coll _ | orr _ | host _ => exact ⟨rfl, fun _ => rfl⟩

theorem resequenced_serialOver (s : State) (o : Owner) (pkg : BitVec 10) (q : Serial) : Resequenced s (s.serialOver o pkg q) := by
  unfold State.serialOver
  dsimp only
  split
  · exact .refl s
  · exact resequenced_setSeqFor ..

/-- The accesses of one number take a target and the serial that goes with it. -/
def retargeted (id : Nat) (t : Target) (q : Option Serial) (g : GAcc) : GAcc := if g.id = id then { g with tgt := t, serial := q } else g

/-- An access takes another target: of the machine only sequence states and that access differ (R298, R349). -/
theorem retarget_of (s : State) (g : GAcc) (t : Target) : ∃ u q, Resequenced s u ∧ s.retarget g t = { u with gaccs := s.gaccs.map (retargeted g.id t q) } := by
  have ended : ∀ q, Resequenced s ((s.outstandingLess g.owner g.tgt.peer).serialOver g.owner g.tgt.peer q) := fun q =>
    (resequenced_setSeqFor s _ _ _).trans (resequenced_serialOver ..)
  unfold State.retarget
  extract_lets put n u
  split
  · exact ⟨s, g.serial, .refl s, rfl⟩
  · have free : Resequenced s u := by
      dsimp only [u]
      split
      · exact ended _
      · exact .refl s
    split
    · have taken : Resequenced s (u.takeSeq g.owner t.peer) := free.trans (resequenced_setSeqFor ..)
      exact ⟨_, _, taken, by rw [← taken.gaccs]; rfl⟩
    · exact ⟨u, none, free, by rw [← free.gaccs]; rfl⟩

/-- What translating accesses again leaves: every access stays in flight, with its target and serial at most another; beside them sequence states and marked leaves. -/
structure Retranslated (s t : State) : Prop where
  rest : t = { s with residents := t.residents, sysSeqs := t.sysSeqs, gaccs := t.gaccs, mem := t.mem, directory := t.directory }
  accs : ∀ g ∈ s.gaccs, ∃ y q, { g with tgt := y, serial := q } ∈ t.gaccs

theorem Retranslated.refl (s : State) : Retranslated s s := ⟨rfl, fun g hg => ⟨g.tgt, g.serial, hg⟩⟩

theorem Retranslated.trans {s t u : State} (a : Retranslated s t) (b : Retranslated t u) : Retranslated s u := by
  refine ⟨by rw [b.rest, a.rest], fun g hg => ?_⟩
  obtain ⟨y, q, there⟩ := a.accs g hg
  obtain ⟨z, p, still⟩ := b.accs _ there
  exact ⟨z, p, still⟩

theorem retranslated_retarget (s : State) (g : GAcc) (t : Target) : Retranslated s (s.retarget g t) := by
  obtain ⟨u, q, seqs, eq⟩ := retarget_of s g t
  rw [eq]
  refine ⟨by rw [seqs.rest], fun x hx => ?_⟩
  have there := List.mem_map_of_mem (f := retargeted g.id t q) hx
  by_cases own : x.id = g.id
  · rw [retargeted, if_pos own] at there
    exact ⟨t, q, there⟩
  · rw [retargeted, if_neg own] at there
    exact ⟨x.tgt, x.serial, there⟩

theorem retranslated_markLeaf (s : State) (asid : BitVec 14) (va : Nat) (store : Bool) : Retranslated s (s.markLeaf asid va store) := by
  rw [markLeaf_frame]
  exact ⟨rfl, (Retranslated.refl s).accs⟩

theorem retranslated_retranslate (s : State) (may : BitVec 14 → Nat → Bool) : Retranslated s (s.retranslate may) := by
  unfold State.retranslate
  generalize s.gaccs.filter _ = l
  induction l generalizing s with
  | nil => exact .refl s
  | cons g l ih =>
    refine Retranslated.trans ?_ (ih _)
    dsimp only
    split
    · exact (retranslated_retarget s g _).trans (retranslated_markLeaf ..)
    · exact .refl s

/-- With nothing to translate again nothing changes. -/
theorem retranslate_nothing {s : State} {may : BitVec 14 → Nat → Bool} (ended : ∀ g ∈ s.gaccs, may g.asid g.va = true → g.failed ≠ none ∨ g.dest = .flush) :
    s.retranslate may = s := by
  have none_ : s.gaccs.filter (fun g => may g.asid g.va && !g.sent && decide (g.failed = none) && decide (g.dest ≠ .flush)) = [] :=
    List.filter_eq_nil_iff.mpr fun g hg => by
      have := ended g hg
      grind
  rw [State.retranslate, none_]
  rfl

/-! ## What a TLBI names, and what it waits for -/

theorem tlbiMay_iff {mode : Nat} (known : mode < 3) (asid : BitVec 14) (va : Nat) (a : BitVec 14) (v : Nat) :
    tlbiMay mode asid va a v = true ↔ mode = 2 ∨ (a = asid ∧ (mode = 1 ∨ v / 2 ^ 30 = va / 2 ^ 30)) := by
  obtain rfl | rfl | rfl : mode = 0 ∨ mode = 1 ∨ mode = 2 := by omega
  · simp [tlbiMay]
  · simp [tlbiMay]
  · simp [tlbiMay]

/-- Nothing in flight holds the invalidation: each access it may concern has ended, is a flush, or has a translation still; no handler's operation is open. -/
theorem tlbiBusy_false {s : State} {may : BitVec 14 → Nat → Bool}
    (accs : ∀ g ∈ s.gaccs, may g.asid g.va = true → g.failed ≠ none ∨ g.dest = .flush ∨
      (g.sent = false ∧ ∃ t, s.kTarget g.asid (s.classOfOwner g.owner) g.va (if g.isStore then .store else .load) = .ok t))
    (ops : ∀ o ∈ s.routs, may (s.asidOfOwner o.owner) o.va = true → o.status = none → ∀ hn n, o.req.op ≠ .handler hn n) : s.tlbiBusy may = false := by
  rw [State.tlbiBusy, Bool.or_eq_false_iff, List.any_eq_false, List.any_eq_false]
  refine ⟨fun g hg busy => ?_, fun o ho busy => ?_⟩
  · simp only [Bool.and_eq_true, Bool.or_eq_true, decide_eq_true_eq] at busy
    obtain ⟨⟨⟨named, live⟩, plain⟩, held⟩ := busy
    rcases accs g hg named with failed | flush | ⟨here, t, ok⟩
    · exact failed live
    · exact plain flush
    · rw [here, ok] at held
      simp at held
  · simp only [Bool.and_eq_true, decide_eq_true_eq] at busy
    obtain ⟨⟨live, named⟩, handler⟩ := busy
    cases op : o.req.op with
    | handler hn n => exact ops o ho named live hn n op
    | _ => rw [op] at handler; cases handler

/-- An access of those named that has left holds it. -/
theorem tlbiBusy_of_sent {s : State} {may : BitVec 14 → Nat → Bool} {g : GAcc} (hg : g ∈ s.gaccs) (named : may g.asid g.va = true) (live : g.failed = none)
    (sent : g.sent = true) (plain : g.dest ≠ .flush) : s.tlbiBusy may = true := by
  rw [State.tlbiBusy, Bool.or_eq_true]
  refine .inl (List.any_eq_true.mpr ⟨g, hg, ?_⟩)
  simp [named, live, sent, plain]

/-- Nothing of a supervisor core's own is outstanding. -/
theorem pathBusy_sv {s : State} {c : Nat} (accs : ∀ g ∈ s.gaccs, g.owner = .sv c → g.path = 0 → g.failed ≠ none)
    (ops : ∀ o ∈ s.routs, o.owner = .sv c → o.path = 0 → o.status ≠ none) : s.pathBusy (.sv c) 0 = false := by
  have noAcc : s.gaccs.any (fun g => decide (g.owner = .sv c) && decide (g.path = 0) && decide (g.failed = none)) = false :=
    List.any_eq_false.mpr fun g hg => by simpa [and_imp] using accs g hg
  have noOp : s.routs.any (fun o => decide (o.owner = .sv c) && decide (o.path = 0) && decide (o.status = none)) = false :=
    List.any_eq_false.mpr fun o ho => by simpa [and_imp] using ops o ho
  unfold State.pathBusy
  rw [noAcc, noOp]
  rfl

/-! ## What the invalidation drops -/

/-- Every translation, page-walk cache entry and walk that a TLBI names is gone; scratchpads are kept (R154, R299). -/
def Dropped (mode : Nat) (asid : BitVec 14) (va : Nat) (s t : State) : Prop :=
  (∀ j e, e ∈ (t.tile j).tlb → tlbiHit mode asid va e = false) ∧ (∀ q l, (q, l) ∈ t.stlbs → ∀ e ∈ l, tlbiHit mode asid va e = false) ∧
  (∀ q l, (q, l) ∈ t.pwcs → ∀ e ∈ l, tlbiStale mode asid va e = false) ∧
  (∀ y ∈ t.walks, tlbiHit mode asid va { asid := y.asid, page := y.page, res := .bad 0 0 } = false) ∧ ∀ j, (t.tile j).spad = (s.tile j).spad

theorem fget_map {α β : Type} (f : α → β) (d : α) (m : FMap α) (k : Nat) : fget (f d) (m.map (fun c => (c.1, f c.2))) k = f (fget d m k) := by
  induction m with
  | nil => rfl
  | cons c m ih =>
    obtain ⟨j, v⟩ := c
    by_cases here : j = k
    · simp [fget, here]
    · simpa [fget, here] using ih

/-- A tile without the translations that are named. -/
def Tile.without (x : Tile) (hit : TlbEntry → Bool) : Tile := { x with tlb := x.tlb.filter (fun y => !hit y) }

theorem tile_tlbInvalidate (s : State) (hit : TlbEntry → Bool) (stale : PwcEntry → Bool) (j : Nat) :
    (s.tlbInvalidate hit stale).tile j = (s.tile j).without hit :=
  fget_map (f := fun x : Tile => x.without hit) Tile.start s.tiles j

section
variable {mode : Nat} {asid : BitVec 14} {va : Nat} {s : State}

theorem dropped_tlbInvalidate : Dropped mode asid va s (s.tlbInvalidate (tlbiHit mode asid va) (tlbiStale mode asid va)) := by
  refine ⟨fun j e he => ?_, fun q l hl e he => ?_, fun q l hl e he => ?_, fun y hy => ?_, fun j => by rw [tile_tlbInvalidate, Tile.without]⟩
  · rw [tile_tlbInvalidate] at he
    simpa using (List.mem_filter.mp he).2
  · obtain ⟨c, -, eq⟩ := List.mem_map.mp hl
    cases eq
    simpa using (List.mem_filter.mp he).2
  · obtain ⟨c, -, eq⟩ := List.mem_map.mp hl
    cases eq
    simpa using (List.mem_filter.mp he).2
  · simpa using (List.mem_filter.mp hy).2

/-- A state with the same translation structures has dropped as much. -/
theorem Dropped.of_tables {u t : State} (dropped : Dropped mode asid va s u) (tiles : t.tiles = u.tiles) (stlbs : t.stlbs = u.stlbs) (pwcs : t.pwcs = u.pwcs)
    (walks : t.walks = u.walks) : Dropped mode asid va s t := by
  have tile : ∀ j, t.tile j = u.tile j := fun j => by rw [State.tile, tiles, State.tile]
  simpa only [Dropped, tile, stlbs, pwcs, walks] using dropped

theorem Dropped.retranslated {u t : State} (dropped : Dropped mode asid va s u) (again : Retranslated u t) : Dropped mode asid va s t := by
  refine dropped.of_tables ?_ ?_ ?_ ?_ <;> rw [again.rest]

end

/-! ## Who made an access -/

/-- The makers of accesses stand under the same ASIDs and classes. -/
structure SameMakers (s t : State) : Prop where
  asid : ∀ h, (t.res h).asid = (s.res h).asid
  svs : t.svs = s.svs
  comms : t.comms = s.comms
  graphs : t.graphs = s.graphs
  classes : t.classes = s.classes

theorem SameMakers.trans {s t u : State} (a : SameMakers s t) (b : SameMakers t u) : SameMakers s u :=
  ⟨fun h => (b.asid h).trans (a.asid h), b.svs.trans a.svs, b.comms.trans a.comms, b.graphs.trans a.graphs, b.classes.trans a.classes⟩

theorem Resequenced.sameMakers {s t : State} (a : Resequenced s t) : SameMakers s t :=
  ⟨fun h => by rw [a.res h], by rw [a.rest], by rw [a.rest], by rw [a.rest], by rw [a.rest]⟩

theorem SameMakers.asidOfOwner {s t : State} (same : SameMakers s t) (o : Owner) : t.asidOfOwner o = s.asidOfOwner o := by
  cases o with
  | task h => exact same.asid h
  | sv c => rw [State.asidOfOwner, State.svc, same.svs]; rfl
  | coll c => rw [State.asidOfOwner, State.comm, same.comms]; rfl
  | orr k => rw [State.asidOfOwner, State.graph, same.graphs]; rfl
  | host p => rfl

theorem SameMakers.classOfOwner {s t : State} (same : SameMakers s t) (o : Owner) : t.classOfOwner o = s.classOfOwner o := by
  cases o with
  | task h => rw [State.classOfOwner, same.asid, State.classOf, same.classes]; rfl
  | _ => rfl

/-! ## TLBI -/

/-- What a TLBI leaves: the entries named are dropped, and accesses that have not left are translated again (R154, R298). -/
def State.invalidated (s : State) (mode : Nat) (asid : BitVec 14) (va : Nat) : State :=
  (s.tlbInvalidate (tlbiHit mode asid va) (tlbiStale mode asid va)).retranslate (tlbiMay mode asid va)

section
variable {mode : Nat} {asid : BitVec 14} {va : Nat} {s : State}

theorem retranslated_invalidated : Retranslated (s.tlbInvalidate (tlbiHit mode asid va) (tlbiStale mode asid va)) (s.invalidated mode asid va) :=
  retranslated_retranslate ..

theorem dropped_invalidated : Dropped mode asid va s (s.invalidated mode asid va) := dropped_tlbInvalidate.retranslated retranslated_invalidated

theorem svs_invalidated : (s.invalidated mode asid va).svs = s.svs := by
  rw [retranslated_invalidated.rest]
  rfl

theorem samePages_tlbInvalidate (s : State) (hit : TlbEntry → Bool) (stale : PwcEntry → Bool) : SamePages s (s.tlbInvalidate hit stale) := ⟨fun _ => rfl, rfl, rfl, rfl⟩

theorem sameMakers_tlbInvalidate (s : State) (hit : TlbEntry → Bool) (stale : PwcEntry → Bool) : SameMakers s (s.tlbInvalidate hit stale) := ⟨fun _ => rfl, rfl, rfl, rfl, rfl⟩

/-- The one access in flight, when it has not left and its walk ends on a leaf that is marked, takes the target that it now has (R154, R298). -/
theorem invalidated_one {g : GAcc} {lvl : Nat} {e : BitVec 64} {tgt : Target} (one : s.gaccs = [g]) (named : tlbiMay mode asid va g.asid g.va = true) (live : g.failed = none)
    (here : g.sent = false) (plain : g.dest ≠ .flush) (load : g.isStore = false) (inside : g.va < 2 ^ 56) (leaf : (s.walk g.asid g.va).1 = .leaf lvl e)
    (marked : leafA e = true) (ok : s.checkLeaf g.asid (s.classOfOwner g.owner) lvl e g.va .load false = .ok tgt e) :
    ∃ q, (s.invalidated mode asid va).gaccs = [{ g with tgt := tgt, serial := q }] ∧ SamePages s (s.invalidated mode asid va) ∧ SameMakers s (s.invalidated mode asid va) := by
  have inv := samePages_tlbInvalidate s (tlbiHit mode asid va) (tlbiStale mode asid va)
  have makers := sameMakers_tlbInvalidate s (tlbiHit mode asid va) (tlbiStale mode asid va)
  have only : (s.tlbInvalidate (tlbiHit mode asid va) (tlbiStale mode asid va)).gaccs = [g] := one
  rw [State.invalidated]
  generalize s.tlbInvalidate (tlbiHit mode asid va) (tlbiStale mode asid va) = u at inv makers only ⊢
  have target : u.kTarget g.asid (u.classOfOwner g.owner) g.va .load = .ok tgt := by
    rw [inv.kTarget, makers.classOfOwner]
    exact kTarget_ok inside leaf ok
  have again : u.retranslate (tlbiMay mode asid va) = (u.retarget g tgt).markLeaf g.asid g.va false := by
    simp [State.retranslate, only, named, live, here, plain, load, target]
  obtain ⟨v, q, seqs, taken⟩ := retarget_of u g tgt
  have pages := inv.trans (seqs.samePages)
  have walk : ((u.retarget g tgt).walk g.asid g.va).1 = .leaf lvl e := by
    rw [taken, ← leaf]
    exact congrArg Prod.fst (pages.walk _ _)
  have mark := markLeaf_samePages walk marked
  rw [again, markLeaf_frame]
  refine ⟨q, ?_, ?_, ?_⟩
  · rw [taken]
    simp [only, retargeted]
  · rw [taken] at mark ⊢
    exact pages.trans ⟨mark.mem, rfl, rfl, rfl⟩
  · rw [taken]
    obtain ⟨asids, svs, comms, graphs, classes⟩ := makers.trans seqs.sameMakers
    exact ⟨asids, svs, comms, graphs, classes⟩

/-! ## TLBI on a supervisor core -/

variable {c x : Nat} {d a b : BitVec 6}

/-- An operand with bits above [15:0], of mode 3, or of mode 2 with an ASID is refused (R154). -/
theorem exec_tlbi_bad (turn : ScalarTurn s (.sv c)) (bad : ¬ ((s.sreg (.sv c) a).toNat < 2 ^ 16 ∧ (s.sreg (.sv c) a).toNat / 2 ^ 14 < 3 ∧
      ((s.sreg (.sv c) a).toNat / 2 ^ 14 = 2 → BitVec.ofNat 14 (s.sreg (.sv c) a).toNat = 0))) :
    exec (.tlbi d a b) s = .next (supvResult c d 3 s) := by
  rw [exec_tlbi, execTlbi, onSupv_of turn]
  refine if_pos ?_
  rw [← BitVec.ofNat_toNat]
  by_contra accepted
  obtain ⟨known, small, all⟩ : _ ∧ _ ∧ _ := by simpa only [not_or] using accepted
  have four : (s.sreg (.sv c) a).toNat / 16384 % 4 = (s.sreg (.sv c) a).toNat / 2 ^ 14 := by omega
  rw [four] at known all
  exact bad ⟨by omega, by omega, by simpa using all⟩

/-- Any other operand is carried out; the core tests again while something in flight holds it (R154). -/
theorem exec_tlbi_good (turn : ScalarTurn s (.sv c)) (hx : (s.sreg (.sv c) a).toNat = x) (hva : (s.sreg (.sv c) b).toNat = va) (small : x < 2 ^ 16) (known : x / 2 ^ 14 < 3)
    (all : x / 2 ^ 14 = 2 → BitVec.ofNat 14 x = 0) : exec (.tlbi d a b) s =
      let t := s.invalidated (x / 2 ^ 14) (BitVec.ofNat 14 x) va
      if t.tlbiBusy (tlbiMay (x / 2 ^ 14) (BitVec.ofNat 14 x) va) || t.pathBusy (.sv c) 0 then .next t
      else .next (supvResult c d 0 (t.unpin (tlbiMay (x / 2 ^ 14) (BitVec.ofNat 14 x) va))) := by
  rw [exec_tlbi, execTlbi, onSupv_of turn]
  have four : x / 16384 % 4 = x / 2 ^ 14 := by omega
  dsimp only
  rw [← BitVec.ofNat_toNat, hx, hva, four]
  refine if_neg ?_
  rintro (three | large | ⟨two, named⟩)
  · omega
  · omega
  · exact named (all two)

/-- A status 0 over a state whose supervisor cores stand as before (R150). -/
theorem supvResult_zero {u : State} (svs : u.svs = s.svs) (d : BitVec 6) : (supvResult c d 0 u).sreg (.sv c) d = 0 ∧ SregsKept (.sv c) d s (supvResult c d 0 u) ∧
    QueueStepped (s.sc (.sv c)) ((supvResult c d 0 u).sc (.sv c)) := by
  obtain ⟨-, queue, -, value, kept⟩ := scalarResult_writes (.sv c) d (BitVec.ofNat 64 0) u (by rintro _ _ ⟨⟩)
  have context : u.sc (.sv c) = s.sc (.sv c) := by rw [State.sc, State.svc, svs]; rfl
  refine ⟨value.trans (ite_self _), fun n other => (kept n other).trans ?_, context ▸ queue⟩
  rw [State.sreg, context, State.sreg]

/-- A TLBI that nothing holds completes with status 0 (R154). -/
theorem tlbi_completes (turn : ScalarTurn s (.sv c)) (hx : (s.sreg (.sv c) a).toNat = x) (hva : (s.sreg (.sv c) b).toNat = va) (small : x < 2 ^ 16) (known : x / 2 ^ 14 < 3)
    (all : x / 2 ^ 14 = 2 → BitVec.ofNat 14 x = 0) (free : (s.invalidated (x / 2 ^ 14) (BitVec.ofNat 14 x) va).tlbiBusy (tlbiMay (x / 2 ^ 14) (BitVec.ofNat 14 x) va) = false)
    (quiet : (s.invalidated (x / 2 ^ 14) (BitVec.ofNat 14 x) va).pathBusy (.sv c) 0 = false) :
    Completes (.tlbi d a b) s (fun t => t.sreg (.sv c) d = 0 ∧ SregsKept (.sv c) d s t ∧ QueueStepped (s.sc (.sv c)) (t.sc (.sv c)) ∧
      t.mem = (s.invalidated (x / 2 ^ 14) (BitVec.ofNat 14 x) va).mem ∧ t.gaccs = (s.invalidated (x / 2 ^ 14) (BitVec.ofNat 14 x) va).gaccs ∧
      t.residents = (s.invalidated (x / 2 ^ 14) (BitVec.ofNat 14 x) va).residents ∧ Dropped (x / 2 ^ 14) (BitVec.ofNat 14 x) va s t) := by
  obtain ⟨value, kept, queue⟩ := supvResult_zero (c := c) (u := (s.invalidated (x / 2 ^ 14) (BitVec.ofNat 14 x) va).unpin (tlbiMay (x / 2 ^ 14) (BitVec.ofNat 14 x) va)) svs_invalidated d
  refine ⟨_, (exec_tlbi_good turn hx hva small known all).trans ?_, value, kept, queue, rfl, rfl, rfl, dropped_invalidated.of_tables rfl rfl rfl rfl⟩
  dsimp only
  rw [free, quiet]
  rfl

end

end Sys2Proof.Machine
end

section
/-!
Supervisor functions on members of communicators (R155): what CABORT's teardown leaves of each part of the machine. TLBI, CRESUME and CABORT together.
-/

namespace Sys2Proof.Machine
open Sys2Proof

/-! ## Operations of a member that are given up (R356, R361) -/

section
variable {k : Nat}

/-- The sequence states of a collective member stand apart from those of tasks. -/
theorem serialDone_member (s : State) {o : ROut} (member : o.owner = .coll k) : s.serialDone o = { s with sysSeqs := (s.serialDone o).sysSeqs } := by
  have ends : ∀ (u : State) (pkg : BitVec 10) (q : Serial), u.serialOver (.coll k) pkg q = { u with sysSeqs := (u.serialOver (.coll k) pkg q).sysSeqs } := fun u pkg q => by
    unfold State.serialOver
    dsimp only
    split <;> rfl
  have stops : s.serialStops o = { s with sysSeqs := (s.serialStops o).sysSeqs } := by
    unfold State.serialStops
    rw [member]
    split <;> rfl
  unfold State.serialDone
  split
  · rw [member, ends, stops]
  · rfl

/-- Operations of a member are given up: each has completed, and no outstanding operation keeps its number. -/
def State.endRouts (s : State) (l : List ROut) : State := l.foldl (fun s o => (s.serialDone o).dropRout o.id) s

theorem endRouts_frame {l : List ROut} (members : ∀ o ∈ l, o.owner = .coll k) (s : State) :
    s.endRouts l = { s with sysSeqs := (s.endRouts l).sysSeqs, routs := (s.endRouts l).routs } ∧ ∀ r ∈ (s.endRouts l).routs, r ∈ s.routs ∧ ∀ o ∈ l, r.id ≠ o.id := by
  induction l generalizing s with
  | nil => exact ⟨rfl, fun r hr => ⟨hr, by simp⟩⟩
  | cons o l ih =>
    have done := serialDone_member s (members o List.mem_cons_self)
    obtain ⟨frame, kept⟩ := ih (fun x hx => members x (List.mem_cons_of_mem _ hx)) ((s.serialDone o).dropRout o.id)
    have step : s.endRouts (o :: l) = ((s.serialDone o).dropRout o.id).endRouts l := rfl
    rw [step]
    refine ⟨by rw [frame, State.dropRout, done], fun r hr => ?_⟩
    obtain ⟨there, others⟩ := kept r hr
    obtain ⟨before, own⟩ := List.mem_filter.mp there
    rw [done] at before
    exact ⟨before, List.forall_mem_cons.mpr ⟨by simpa using own, others⟩⟩

end

/-! ## The teardown of a member (R155) -/

theorem freeChunkEntries_frame (s : State) (k : Nat) (l : List (BitVec 10 × Serial)) : s.freeChunkEntries k l = { s with afterglow := (s.freeChunkEntries k l).afterglow } := by
  unfold State.freeChunkEntries
  dsimp only
  induction l generalizing s with
  | nil => rfl
  | cons p l ih =>
    rw [List.foldl_cons, ih]
    rfl

/-- The channel that a member's step fills is filled no more. -/
def State.unfill (s : State) (x : Comm) : State :=
  match x.fills with
  | some (t, ch) => s.setChan t ch { s.chan t ch with filling := false }
  | none => s

theorem unfill_frame (s : State) (x : Comm) : s.unfill x = { s with tiles := (s.unfill x).tiles } ∧
    ∀ j, ((s.unfill x).tile j).spad = (s.tile j).spad ∧ ((s.unfill x).tile j).rings = (s.tile j).rings := by
  unfold State.unfill
  split
  · next t ch _ =>
    refine ⟨rfl, fun j => ?_⟩
    rw [State.setChan_eq]
    by_cases here : j = t
    · rw [here, State.tile_setTile]
      exact ⟨rfl, rfl⟩
    · rw [State.tile_setTile_other _ _ here]
      exact ⟨rfl, rfl⟩
  · exact ⟨rfl, fun _ => ⟨rfl, rfl⟩⟩

/-- A step that receives fills the channel of its buffer's descriptor. -/
theorem fills_recv {x : Comm} {p : StepRun} (step : x.step = some p) (recv : p.kind = .recv) (chan : dCh (x.desc p.buf) ≠ 0xFF) :
    x.fills = some (dTile (x.desc p.buf), dCh (x.desc p.buf)) := by
  unfold Comm.fills
  rw [step]
  simp [recv, chan]

theorem chan_unfill {s : State} {x : Comm} {t ch : Nat} (fills : x.fills = some (t, ch)) : (s.unfill x).chan t ch = { s.chan t ch with filling := false } := by
  rw [State.unfill, fills]
  dsimp only
  rw [State.setChan_eq, State.chan, State.tile_setTile]
  exact fget_fput_same ..

/-- The member goes, with its accesses in flight and the bytes read for it. -/
def State.clearMember (s : State) (k : Nat) : State :=
  ({ s.setComm k Comm.start with gaccs := s.gaccs.filter (fun g => !decide (g.owner = Owner.coll k)) } : State).setRec (.coll k) 4 []

/-- The teardown but for the start event: chunks' entries, the channel, outstanding operations, then the member itself. -/
def State.tornDown (s : State) (k : Nat) : State :=
  let u := (s.freeChunkEntries k (((s.comm k).windows.flatMap (fun w => w.chunks.map (fun ch => (ch.src, ch.serial)))) ++
    (match (s.comm k).step with | some p => p.used | none => []))).unfill (s.comm k)
  (u.endRouts (u.routs.filter (fun o => decide (o.owner = Owner.coll k)))).clearMember k

theorem collAbort_eq (s : State) (k : Nat) : s.collAbort k =
    if (s.comm k).busy then (s.tornDown k).postEvent (s.comm k).event (.evSet 0 true) true else s.tornDown k := rfl

/-- What the teardown leaves as it was, and what it makes of the member, its accesses and its channel. -/
structure TornDown (k : Nat) (s t : State) : Prop where
  rest : t = { s with afterglow := t.afterglow, tiles := t.tiles, sysSeqs := t.sysSeqs, routs := t.routs, recs := t.recs,
                      comms := fput s.comms k Comm.start, gaccs := s.gaccs.filter (fun g => !decide (g.owner = Owner.coll k)) }
  routs : ∀ o ∈ t.routs, o.owner ≠ .coll k
  tile : ∀ j, (t.tile j).spad = (s.tile j).spad ∧ (t.tile j).rings = (s.tile j).rings
  chan : ∀ i ch, (s.comm k).fills = some (i, ch) → t.chan i ch = { s.chan i ch with filling := false }

theorem tornDown_of (s : State) (k : Nat) : TornDown k s (s.tornDown k) := by
  unfold State.tornDown
  generalize ((s.comm k).windows.flatMap (fun w => w.chunks.map (fun ch => (ch.src, ch.serial)))) ++ _ = entries
  have freed := freeChunkEntries_frame s k entries
  obtain ⟨rest, tile⟩ := unfill_frame (s.freeChunkEntries k entries) (s.comm k)
  have tiles : ∀ j, (s.freeChunkEntries k entries).tile j = s.tile j := fun j => by
    rw [freed]
    rfl
  have chan : ∀ i ch, (s.comm k).fills = some (i, ch) → ((s.freeChunkEntries k entries).unfill (s.comm k)).chan i ch = { s.chan i ch with filling := false } :=
    fun i ch fills => (chan_unfill fills).trans (by rw [State.chan, tiles, State.chan])
  simp only [tiles] at tile
  generalize (s.freeChunkEntries k entries).unfill (s.comm k) = u at rest tile chan ⊢
  obtain ⟨given, kept⟩ := endRouts_frame (k := k) (l := u.routs.filter (fun o => decide (o.owner = Owner.coll k))) (fun o ho => by simpa using (List.mem_filter.mp ho).2) u
  dsimp only
  generalize u.endRouts (u.routs.filter (fun o => decide (o.owner = Owner.coll k))) = v at given kept ⊢
  refine ⟨?_, fun o ho own => ?_, fun j => ?_, fun i ch fills => ?_⟩
  · rw [State.clearMember, given, rest, freed]
    rfl
  · obtain ⟨before, numbers⟩ := kept o ho
    exact numbers o (List.mem_filter.mpr ⟨before, decide_eq_true own⟩) rfl
  · rw [given]
    exact tile j
  · rw [given]
    exact chan i ch fills

/-! ## The start event of a member that is torn down (R334) -/

theorem postEvent_frame (s : State) (hd : Word) (op : ROp) (keep : Bool) :
    s.postEvent hd op keep = { s with updates := (s.postEvent hd op keep).updates, ports := (s.postEvent hd op keep).ports, transports := (s.postEvent hd op keep).transports } := by
  unfold State.postEvent
  split
  · rfl
  · split
    · split <;> rfl
    · rw [(sendPacket_of s _ _).1]

theorem collAbort_frame (s : State) (k : Nat) :
    s.collAbort k = { s.tornDown k with updates := (s.collAbort k).updates, ports := (s.collAbort k).ports, transports := (s.collAbort k).transports } := by
  rw [collAbort_eq]
  split
  · exact postEvent_frame ..
  · rfl

section
variable {s : State} {k : Nat}

theorem busy_iff (x : Comm) : x.busy = true ↔ x.run = .running ∨ ∃ z, x.run = .stopped z := by
  rw [Comm.busy]
  cases x.run <;> simp

theorem not_busy_of_rests {x : Comm} (rests : x.run = .idle ∨ x.run = .completed) : x.busy = false := by
  rcases rests with run | run <;> rw [Comm.busy, run]

/-- The start event of a member whose program stands running or stopped takes the cancel form (R155, R271, R334). -/
theorem updates_collAbort_busy (busy : (s.comm k).busy = true) (live : s.eventLive (s.comm k).event = true) (named : (s.comm k).event ≠ 0)
    (here : hdlPkg (s.comm k).event = s.pkgId) : (s.collAbort k).updates =
      s.updates ++ [{ idx := hdlIdx (s.comm k).event, gen := hdlGen (s.comm k).event, op := .evSet 0 true, keep := true }] := by
  rw [collAbort_eq, if_pos busy, State.postEvent, if_neg named, (tornDown_of s k).rest, if_pos here]
  exact congrArg State.updates (if_pos live)

theorem updates_collAbort_idle (idle : (s.comm k).busy = false) : (s.collAbort k).updates = s.updates := by
  rw [collAbort_eq, idle, (tornDown_of s k).rest]
  rfl

/-- Once the teardown is done the member's slot is empty and every other member stands (R155). -/
theorem comm_collAbort (s : State) (k : Nat) : (s.collAbort k).comm k = Comm.start ∧ ∀ j, j ≠ k → (s.collAbort k).comm j = s.comm j := by
  have comms : (s.collAbort k).comms = fput s.comms k Comm.start := by rw [collAbort_frame, (tornDown_of s k).rest]
  refine ⟨?_, fun j other => ?_⟩
  · rw [State.comm, comms]
    exact fget_fput_same ..
  · rw [State.comm, comms]
    exact fget_fput_other _ _ _ other

/-- The accesses and operations of the member are gone; memory, programs, scratchpads and rings stand; the channel that its step filled is filled no more (R155). -/
theorem collAbort_parts (s : State) (k : Nat) : (s.collAbort k).gaccs = s.gaccs.filter (fun g => decide (g.owner ≠ .coll k)) ∧ (∀ o ∈ (s.collAbort k).routs, o.owner ≠ .coll k) ∧
    (s.collAbort k).mem = s.mem ∧ (s.collAbort k).residents = s.residents ∧ (s.collAbort k).svs = s.svs ∧
    (∀ j, ((s.collAbort k).tile j).spad = (s.tile j).spad ∧ ((s.collAbort k).tile j).rings = (s.tile j).rings) ∧
    ∀ i ch, (s.comm k).fills = some (i, ch) → (s.collAbort k).chan i ch = { s.chan i ch with filling := false } := by
  obtain ⟨rest, routs, tile, chan⟩ := tornDown_of s k
  have frame := collAbort_frame s k
  refine ⟨?_, ?_, ?_, ?_, ?_, ?_, ?_⟩
  · rw [frame, rest]
    simp
  · rw [frame]
    exact routs
  · rw [frame, rest]
  · rw [frame, rest]
  · rw [frame, rest]
  · rw [frame]
    exact tile
  · rw [frame]
    exact chan

/-! ## The three functions on a supervisor core -/

variable {c : Nat} {d a b : BitVec 6}

/-- A supervisor function of a task is an illegal instruction (R127). -/
theorem onSupv_task {h : Nat} (turn : ScalarTurn s (.task h .s)) (i : Instr) (f : Nat → Out) : onSupv i s f = .next (s.illegal (.task h .s) (wordOf i)) :=
  onScalar_of turn _

theorem exec_cresume_of (turn : ScalarTurn s (.sv c)) (named : s.commOf (s.sreg (.sv c) a) = some k) :
    exec (.cresume d a) s = .next (scalarResult (.sv c) d (s.collResume k).2 (s.collResume k).1) := by
  rw [exec_cresume, execCresume, onSupv_of turn, named]

theorem exec_cabort_of (turn : ScalarTurn s (.sv c)) (named : s.commOf (s.sreg (.sv c) a) = some k) :
    exec (.cabort d a) s = .next (supvResult c d 0 (s.collAbort k)) := by
  rw [exec_cabort, execCabort, onSupv_of turn, named]

/-- Either function on a handle that names no live member answers 3 (R155). -/
theorem completes_deadMember (turn : ScalarTurn s (.sv c)) (dead : s.commOf (s.sreg (.sv c) a) = none) :
    Completes (.cresume d a) s (WritesSreg (.sv c) d 3 s) ∧ Completes (.cabort d a) s (WritesSreg (.sv c) d 3 s) :=
  ⟨completes_status turn (by rw [exec_cresume, execCresume, onSupv_of turn, dead]), completes_status turn (by rw [exec_cabort, execCabort, onSupv_of turn, dead])⟩

section
variable {x va : Nat} (turn : ScalarTurn s (.sv c)) (hx : (s.sreg (.sv c) a).toNat = x) (hva : (s.sreg (.sv c) b).toNat = va) (small : x < 2 ^ 16) (known : x / 2 ^ 14 < 3)
  (all : x / 2 ^ 14 = 2 → BitVec.ofNat 14 x = 0)
include turn hx hva small known all

/-- With every access named ended or a flush, and no handler's operation open, the TLBI completes (R154). -/
theorem tlbi_nothing (done : ∀ g ∈ s.gaccs, tlbiMay (x / 2 ^ 14) (BitVec.ofNat 14 x) va g.asid g.va = true → g.failed ≠ none ∨ g.dest = .flush)
    (ops : ∀ o ∈ s.routs, tlbiMay (x / 2 ^ 14) (BitVec.ofNat 14 x) va (s.asidOfOwner o.owner) o.va = true → o.status = none → ∀ hn n, o.req.op ≠ .handler hn n)
    (ownAccs : ∀ g ∈ s.gaccs, g.owner = .sv c → g.path = 0 → g.failed ≠ none) (ownOps : ∀ o ∈ s.routs, o.owner = .sv c → o.path = 0 → o.status ≠ none) :
    Completes (.tlbi d a b) s (fun t => t.sreg (.sv c) d = 0 ∧ SregsKept (.sv c) d s t ∧ QueueStepped (s.sc (.sv c)) (t.sc (.sv c)) ∧ t.mem = s.mem ∧ t.gaccs = s.gaccs ∧
      t.residents = s.residents ∧ Dropped (x / 2 ^ 14) (BitVec.ofNat 14 x) va s t) := by
  have same : s.invalidated (x / 2 ^ 14) (BitVec.ofNat 14 x) va = s.tlbInvalidate (tlbiHit (x / 2 ^ 14) (BitVec.ofNat 14 x) va) (tlbiStale (x / 2 ^ 14) (BitVec.ofNat 14 x) va) :=
    retranslate_nothing done
  have completes := tlbi_completes (d := d) turn hx hva small known all
  rw [same] at completes
  exact completes (tlbiBusy_false (fun g hg named => (done g hg named).imp_right .inl) fun o ho named => ops o ho ((sameMakers_tlbInvalidate ..).asidOfOwner o.owner ▸ named))
    (pathBusy_sv ownAccs ownOps)

/-- With one access named in flight, which has a translation still, the TLBI translates it again and completes (R154, R298). -/
theorem tlbi_one {g : GAcc} {lvl : Nat} {e : BitVec 64} {tgt : Target} (one : s.gaccs = [g]) (named : tlbiMay (x / 2 ^ 14) (BitVec.ofNat 14 x) va g.asid g.va = true)
    (live : g.failed = none) (here : g.sent = false) (plain : g.dest ≠ .flush) (load : g.isStore = false) (inside : g.va < 2 ^ 56)
    (leaf : (s.walk g.asid g.va).1 = .leaf lvl e) (marked : leafA e = true) (ok : s.checkLeaf g.asid (s.classOfOwner g.owner) lvl e g.va .load false = .ok tgt e)
    (ops : ∀ o ∈ s.routs, tlbiMay (x / 2 ^ 14) (BitVec.ofNat 14 x) va (s.asidOfOwner o.owner) o.va = true → o.status = none → ∀ hn n, o.req.op ≠ .handler hn n)
    (ownAccs : ∀ g ∈ s.gaccs, g.owner = .sv c → g.path = 0 → g.failed ≠ none) (ownOps : ∀ o ∈ s.routs, o.owner = .sv c → o.path = 0 → o.status ≠ none) :
    Completes (.tlbi d a b) s (fun t => t.sreg (.sv c) d = 0 ∧ QueueStepped (s.sc (.sv c)) (t.sc (.sv c)) ∧ (∃ y, t.gaccs = [{ g with tgt := tgt, serial := y }]) ∧
      Dropped (x / 2 ^ 14) (BitVec.ofNat 14 x) va s t) := by
  obtain ⟨q, gaccs, pages, makers⟩ := invalidated_one one named live here plain load inside leaf marked ok
  have routs : (s.invalidated (x / 2 ^ 14) (BitVec.ofNat 14 x) va).routs = s.routs := by
    rw [retranslated_invalidated.rest]
    rfl
  have free : (s.invalidated (x / 2 ^ 14) (BitVec.ofNat 14 x) va).tlbiBusy (tlbiMay (x / 2 ^ 14) (BitVec.ofNat 14 x) va) = false := by
    refine tlbiBusy_false (fun y hy _ => .inr (.inr ?_)) fun o ho may => ?_
    · rw [gaccs, List.mem_singleton] at hy
      subst hy
      refine ⟨here, tgt, ?_⟩
      rw [pages.kTarget, makers.classOfOwner, load]
      exact kTarget_ok inside leaf ok
    · rw [makers.asidOfOwner] at may
      exact ops o (routs ▸ ho) may
  have quiet : (s.invalidated (x / 2 ^ 14) (BitVec.ofNat 14 x) va).pathBusy (.sv c) 0 = false := by
    refine pathBusy_sv (fun y hy => ?_) fun o ho => ownOps o (routs ▸ ho)
    rw [gaccs, List.mem_singleton] at hy
    subst hy
    exact ownAccs g (by rw [one]; exact List.mem_singleton_self g)
  exact (tlbi_completes turn hx hva small known all free quiet).imp fun t ⟨value, _, queue, _, accs, _, dropped⟩ => ⟨value, queue, ⟨q, accs.trans gaccs⟩, dropped⟩

/-- While an access named has left, the core tests the TLBI again at its next turn (R154). -/
theorem tlbi_held {g : GAcc} (hg : g ∈ s.gaccs) (named : tlbiMay (x / 2 ^ 14) (BitVec.ofNat 14 x) va g.asid g.va = true) (live : g.failed = none) (sent : g.sent = true)
    (plain : g.dest ≠ .flush) : Completes (.tlbi d a b) s (fun t => t.pcOf (.sv c) = s.pcOf (.sv c) ∧ t.sc (.sv c) = s.sc (.sv c) ∧
      Dropped (x / 2 ^ 14) (BitVec.ofNat 14 x) va s t) := by
  obtain ⟨y, q, there⟩ := (retranslated_invalidated (mode := x / 2 ^ 14) (asid := BitVec.ofNat 14 x) (va := va)).accs g hg
  have busy := tlbiBusy_of_sent there named live sent plain
  have context : (s.invalidated (x / 2 ^ 14) (BitVec.ofNat 14 x) va).sc (.sv c) = s.sc (.sv c) := by rw [State.sc, State.svc, svs_invalidated]; rfl
  refine ⟨_, (exec_tlbi_good turn hx hva small known all).trans ?_, congrArg SCtx.pc context, context, dropped_invalidated⟩
  dsimp only
  rw [busy]
  rfl

end

end

end Sys2Proof.Machine

open Sys2Proof Sys2Proof.Machine

/-- Settles O19: TLBI drops, translates again and then waits or completes; the functions on members are the teardown and the resumption of one record. -/
theorem supervisorInvalidationAndCollectives : Obligations.SupervisorInvalidationAndCollectives := by
  intro s c k d a b w x va mode asid named dropped good atomics own m
  refine ⟨fun h turn => ⟨(exec_tlbi ..).trans (onSupv_task turn _ _), (exec_cresume ..).trans (onSupv_task turn _ _), (exec_cabort ..).trans (onSupv_task turn _ _)⟩,
    fun turn => ⟨fun ⟨small, known, all⟩ ops ⟨ownAccs, ownOps⟩ => ?_, fun ⟨small, known, all⟩ ⟨g, hg, may, live, sent, plain⟩ => ?_, fun bad => completes_status turn (exec_tlbi_bad turn bad),
      fun member => ⟨fun stopped => ?_, fun other => ?_, ?_⟩, completes_deadMember turn⟩⟩
  · have may : ∀ i v, tlbiMay mode asid va i v = true ↔ named i v := tlbiMay_iff known asid va
    have open_ : ∀ o ∈ s.routs, tlbiMay mode asid va (s.asidOfOwner o.owner) o.va = true → o.status = none → ∀ hn n, o.req.op ≠ .handler hn n :=
      fun o ho yes => ops o ho ((may _ _).mp yes)
    exact ⟨fun done => tlbi_nothing turn rfl rfl small known all (fun g hg yes => done g hg ((may _ _).mp yes)) open_ ownAccs ownOps,
      fun g lvl e tgt one yes live here plain load inside leaf marked ok =>
        tlbi_one turn rfl rfl small known all one ((may _ _).mpr yes) live here plain load inside leaf marked ok open_ ownAccs ownOps⟩
  · exact tlbi_held turn rfl rfl small known all hg ((tlbiMay_iff known asid va _ _).mpr may) live sent plain
  · have resumed : s.collResume k = ({ s with comms := fput s.comms k { m with run := .running, moved := s.stamp } }, 0) := if_pos stopped
    refine ⟨_, exec_cresume_of turn member, ?_⟩
    rw [resumed]
    exact scalarResult_writes _ _ _ _ turn.2
  · have refused : s.collResume k = (s, 1) := if_neg other
    refine ⟨_, exec_cresume_of turn member, ?_⟩
    rw [refused]
    exact scalarResult_writes _ _ _ _ turn.2
  · obtain ⟨empty, others⟩ := comm_collAbort s k
    obtain ⟨gaccs, routs, mem, residents, svs, tile, chan⟩ := collAbort_parts s k
    obtain ⟨value, kept, queue⟩ := supvResult_zero (c := c) svs d
    refine ⟨_, exec_cabort_of turn member, value, kept, queue, empty, others, gaccs, routs, mem, residents, tile, fun p step recv there => chan _ _ (fills_recv step recv there),
      fun started => updates_collAbort_busy ((busy_iff _).mpr started), fun rests => updates_collAbort_idle (not_busy_of_rests rests)⟩
end

section
/-!
Masks written by compares and mask operations, lanes selected by a mask (R163, R166, R167).
-/

namespace Sys2Proof.Machine
open Sys2Proof

/-! ## Bits of a mask -/

/-- Bit i of a mask that gives each of n elements w equal bits (R157, R166). -/
theorem getLsbD_elementBits {w n i : Nat} (f : Nat → Bool) (inside : i < w * n) (hi : i < 128) :
    (BitVec.ofNat 128 (ofDigits w ((List.range n).map (fun j => if f j then 2 ^ w - 1 else 0)))).getLsbD i = f (i / w) := by
  have pos : 0 < w := Nat.pos_of_mul_pos_right (Nat.zero_lt_of_lt inside)
  have ones : ∀ b : Bool, (if b then 2 ^ w - 1 else 0).testBit (i % w) = b := fun b => by
    cases b <;> simp [Nat.testBit_two_pow_sub_one, Nat.mod_lt i pos]
  have digit := testBit_ofDigits ((List.range n).map (fun j => if f j then 2 ^ w - 1 else 0)) (i / w) (Nat.mod_lt i pos)
  rw [Nat.div_add_mod, getD_map_range _ (Nat.div_lt_of_lt_mul inside), ones] at digit
  rw [BitVec.getLsbD_ofNat, decide_eq_true hi, Bool.true_and, digit]

theorem getLsbD_not_inside {n i : Nat} (x : BitVec n) (hi : i < n) : (~~~x).getLsbD i = !x.getLsbD i := by
  rw [BitVec.getLsbD_not, decide_eq_true hi, Bool.true_and]

/-- A lane of two vectors' merge is the one's where the mask holds it, else the other's (R163). -/
theorem lane_select (v w : VReg) (m : BitVec 128) {i : Nat} (hi : i < 128) :
    lane ((v &&& laneBits m) ||| (w &&& ~~~laneBits m)) i = if m.getLsbD i then lane v i else lane w i := by
  refine BitVec.eq_of_getLsbD_eq fun j hj => ?_
  have below : 32 * i + j < 4096 := by omega
  have bit : ∀ x : VReg, (lane x i).getLsbD j = x.getLsbD (32 * i + j) := fun x => by simp [lane, hj]
  have mask : (laneBits m).getLsbD (32 * i + j) = m.getLsbD i := by
    rw [← bit, laneBits, lane_ofLanes _ hi]
    cases m.getLsbD i
    · exact BitVec.getLsbD_zero
    · exact (BitVec.getLsbD_allOnes (v := 32)).trans (decide_eq_true hj)
  rw [apply_ite (fun x : BitVec 32 => x.getLsbD j), bit, bit, bit, BitVec.getLsbD_or, BitVec.getLsbD_and, BitVec.getLsbD_and, getLsbD_not_inside _ below, mask]
  cases m.getLsbD i <;> simp

/-! ## Writes of a mask -/

theorem MaskWrites.congr {h l : Nat} {g : BitVec 2} {e : BitVec 3} {m : BitVec 128} {f f' : Nat → Bool} {s t : State} (w : MaskWrites h g l e m f s t)
    (same : ∀ j, j < 128 → f j = f' j) : MaskWrites h g l e m f' s t := by
  unfold MaskWrites at *
  split at w
  · next zero => rwa [if_pos zero]
  · next real =>
    obtain ⟨val, writes, bits⟩ := w
    rw [if_neg real]
    exact ⟨val, writes, fun i hi on => (bits i hi on).trans (same i hi)⟩

/-- An instruction that writes nothing leaves the resident as it was (R160). -/
theorem Resident.apply_nothing (r : Resident) (l : Nat) : r.apply l (VRes.of []) = r := rfl

section
variable {s : State} {h l : Nat} {i : Instr} {g : BitVec 2} {e : BitVec 3}

/-- A fixed-latency instruction with one mask to write, whose registers are ready, leaves that write; one to m0 is discarded (R97, R160). -/
theorem vMask_completes {rd : Nat → List VTgt} {val en : Nat → State → BitVec 128} (ready : VectorReady s h (rd h) [(.mask e.toNat, some l)])
    (runs : exec i s = onVec s (fun h => vFixed Rp.none h g l (rd h) [.mask e.toNat] (fun s => VRes.of (vwMask Rp.none e.toNat (val h s) (en h s))) s)) :
    Completes i s (MaskWrites h g l e (en h (s.landed h)) (fun j => (val h (s.landed h)).getLsbD j) s) := by
  refine completes_vec ready.turn runs ?_
  by_cases zero : e = 0
  · subst zero
    obtain ⟨t, runs, issues⟩ := vFixed_issues g (wr := [.mask 0]) (val := fun _ => VRes.of []) ready
    rw [Resident.apply_nothing] at issues
    exact ⟨t, runs, issues⟩
  · have real : e.toNat ≠ 0 := fun z => zero (BitVec.eq_of_toNat_eq z)
    have one : ∀ v en : BitVec 128, vwMask Rp.none e.toNat v en = [{ tgt := .mask e.toNat, val := v.setWidth 4096, en := en.setWidth 4096 }] := fun _ _ => if_neg real
    obtain ⟨t, runs, writes⟩ := vFixed_writes g (fl := Flg.none) (val := fun s => VRes.of (vwMask Rp.none e.toNat (val h s) (en h s))) ready (congrArg VRes.of (one _ _))
    exact ⟨t, runs, cast (if_neg zero).symm ⟨_, writes, fun _ _ _ => rfl⟩⟩

/-- A compare gives both bits of an fp64 element, and the bit of a 32-bit lane, its elements' condition (R166). -/
theorem vCompare_completes (f64 : Bool) {a b : BitVec 7} {m : Nat} {f : Nat → Nat → Bool}
    (ready : VectorReady s h [.vreg a.toNat, .vreg b.toNat, .mask m] [(.mask e.toNat, some l)])
    (runs : exec i s = onVec s (fun h => vCompare f64 l Rp.none h g e a b m f s)) :
    let mk := (s.landed h).mread h m
    let element := fun j => if f64 then j / 2 else j
    Completes i s (MaskWrites h g l e (if f64 then elemMask mk else mk) (fun j =>
      f (viewAt f64 ((s.landed h).vread h a.toNat) (element j)) (viewAt f64 ((s.landed h).vread h b.toNat) (element j))) s) := by
  intro mk element
  refine (vMask_completes (rd := fun _ => _) ready runs).imp fun t w => w.congr fun j hj => ?_
  cases f64 with
  | false => exact (getLsbD_elementBits (w := 1) (n := 128) _ (by omega) hj).trans (by rw [Nat.div_one]; rfl)
  | true => exact getLsbD_elementBits (w := 2) (n := 64) (fun k => f _ _) hj hj

/-- A mask operation writes every bit (R167). -/
theorem vMaskOp_completes {src : List (BitVec 3)} {f : (BitVec 3 → BitVec 128) → BitVec 128} {bits : Nat → Bool}
    (ready : VectorReady s h (src.map (fun x => VTgt.mask x.toNat)) [(.mask e.toNat, some 2)])
    (runs : exec i s = onVec s (fun h => vMaskOp Rp.none h g e src f s)) (value : ∀ j, j < 128 → (f (fun x => (s.landed h).mread h x.toNat)).getLsbD j = bits j) :
    Completes i s (MaskWrites h g 2 e allLanes bits s) :=
  (vMask_completes (rd := fun _ => _) (val := fun h s => f fun x => s.mread h x.toNat) (en := fun _ _ => allLanes) ready runs).imp fun _ w => w.congr value

end

/-! ## Conditions -/

theorem sltN_toNat (x y : BitVec 32) : sltN x.toNat y.toNat = decide (x.toInt < y.toInt) := by
  rw [sltN, BitVec.ofNat_toNat, BitVec.ofNat_toNat, BitVec.setWidth_eq, BitVec.setWidth_eq, BitVec.slt_eq_decide]

/-- The integer conditions by their codes (R166). -/
theorem iCmp_eq (c : BitVec 4) (x y : BitVec 32) : iCmp c.toNat x.toNat y.toNat =
    if c = 0 then decide (x = y) else if c = 1 then decide (x ≠ y) else if c = 2 then decide (x.toInt < y.toInt)
    else if c = 3 then decide (y.toInt ≤ x.toInt) else if c = 4 then decide (x.toNat < y.toNat) else decide (y.toNat ≤ x.toNat) := by
  have code : ∀ n : BitVec 4, c.toNat = n.toNat → c = n := fun n => BitVec.eq_of_toNat_eq
  unfold iCmp
  split
  · next k => rw [code 0 k]; simp [BitVec.toNat_inj]
  · next k => rw [code 1 k]; simp [BitVec.toNat_inj]
  · next k => rw [code 2 k]; simp [sltN_toNat]
  · next k => rw [code 3 k]; simp [sltN_toNat, ← decide_not]
  · next k => rw [code 4 k]; simp
  · next k0 k1 k2 k3 k4 =>
    have other : ∀ n : BitVec 4, c.toNat ≠ n.toNat → c ≠ n := fun n differs same => differs (congrArg BitVec.toNat same)
    rw [if_neg (other 0 k0), if_neg (other 1 k1), if_neg (other 2 k2), if_neg (other 3 k3), if_neg (other 4 k4)]

end Sys2Proof.Machine

open Sys2Proof Sys2Proof.Machine

/-- Settles O31: a compare and a mask operation each write one mask, VSEL writes the merge of its sources by a mask, and MPOPC writes a k register. -/
theorem vectorComparesAndMasks : Obligations.VectorComparesAndMasks := by
  intro s h g c e p q d a b m k u mk x y xd yd bit cmp op2 op1
  refine ⟨fun ready => ?_, fun ready => ?_, fun ready => ?_, fun ready => ?_, fun ready => ⟨?_, ?_, ?_, ?_⟩, fun ready => ⟨?_, ?_⟩, fun ready => ?_⟩
  · exact vCompare_completes false ready (exec_vfcmp ..)
  · exact (vCompare_completes false ready (exec_vicmp ..)).imp fun t w => w.congr fun j _ => iCmp_eq c (x j) (y j)
  · exact vCompare_completes true ready (exec_vdcmp ..)
  · exact (vWrite_completes (rd := fun _ => _) ready (exec_vsel g d a b m s)).imp fun t writes => ⟨_, writes, fun i hi => lane_select _ _ _ hi⟩
  · exact vMaskOp_completes (src := [p, q]) ready (exec_mand ..) fun j _ => BitVec.getLsbD_and
  · exact vMaskOp_completes (src := [p, q]) ready (exec_mor ..) fun j _ => BitVec.getLsbD_or
  · exact vMaskOp_completes (src := [p, q]) ready (exec_mxor ..) fun j _ => BitVec.getLsbD_xor
  · exact vMaskOp_completes (src := [p, q]) ready (exec_mandn ..) fun j hj => BitVec.getLsbD_and.trans (congrArg _ (getLsbD_not_inside _ hj))
  · exact vMaskOp_completes (src := [p]) ready (exec_mnot ..) fun j hj => getLsbD_not_inside _ hj
  · exact vMaskOp_completes (src := [p]) ready (exec_mmov ..) fun _ _ => rfl
  · exact kWrite_completes ready (exec_mpopc ..) rfl
end

section
/-!
The reduction tree: what a property kept by each of its joins says of its value, and the vector a reduction writes (R176).
-/

namespace Sys2Proof.Machine
open Sys2Proof

/-! ## The tree -/

/-- A node of the tree stands for the values of a segment of the leaves: none for no value, and else a value of which R holds with them. -/
def Stands (R : Nat → List Nat → Prop) : Option Nat → List Nat → Prop
  | none, vs => vs = []
  | some v, vs => R v vs

section
variable {R : Nat → List Nat → Prop} {f : Nat → Nat → Nat × Flg}

/-- Two neighbours join by f where both hold a value, and the one that holds a value goes up alone (R176). -/
theorem reduceLevel_values (x y : Option Nat) (rest : List (Option Nat)) :
    (reduceLevel f (x :: y :: rest)).1 = Option.merge (fun x y => (f x y).1) x y :: (reduceLevel f rest).1 := by
  cases x <;> cases y <;> rfl

theorem length_reduceLevel : ∀ l : List (Option Nat), (reduceLevel f l).1.length = (l.length + 1) / 2
  | [] => rfl
  | [_] => by simp [reduceLevel]
  | x :: y :: rest => by
    rw [reduceLevel_values, List.length_cons, length_reduceLevel rest, List.length_cons, List.length_cons]
    omega

/-- Where f raises nothing, a level raises nothing. -/
theorem reduceLevel_quiet (quiet : ∀ x y, (f x y).2 = Flg.none) : ∀ l : List (Option Nat), (reduceLevel f l).2 = Flg.none
  | [] => rfl
  | [_] => rfl
  | none :: _ :: rest => reduceLevel_quiet quiet rest
  | some _ :: none :: rest => reduceLevel_quiet quiet rest
  | some x :: some y :: rest => by
    have joined : (reduceLevel f (some x :: some y :: rest)).2 = (f x y).2.or (reduceLevel f rest).2 := rfl
    rw [joined, quiet, reduceLevel_quiet quiet rest]
    rfl

/-- Nor does the tree. -/
theorem reduceTree_quiet (quiet : ∀ x y, (f x y).2 = Flg.none) (n : Nat) (l : List (Option Nat)) : (reduceTree f n l).2 = Flg.none := by
  induction n generalizing l with
  | zero => rfl
  | succ n ih =>
    have raised : (reduceTree f (n + 1) l).2 = (reduceLevel f l).2.or (reduceTree f n (reduceLevel f l).1).2 := rfl
    rw [raised, reduceLevel_quiet quiet, ih]
    rfl

variable (join : ∀ {x y xs ys}, R x xs → R y ys → R (f x y).1 (xs ++ ys))
include join

theorem stands_merge {x y : Option Nat} {xs ys : List Nat} (hx : Stands R x xs) (hy : Stands R y ys) :
    Stands R (Option.merge (fun x y => (f x y).1) x y) (xs ++ ys) := by
  cases x with
  | none =>
    obtain rfl : xs = [] := hx
    cases y <;> exact hy
  | some x =>
    cases y with
    | none =>
      obtain rfl : ys = [] := hy
      exact (List.append_nil xs).symm ▸ hx
    | some y => exact join hx hy

/-- A level of the tree joins neighbouring segments, in their order. -/
theorem stands_reduceLevel : ∀ {l : List (Option Nat)} {segs : List (List Nat)}, List.Forall₂ (Stands R) l segs →
    ∃ joined, List.Forall₂ (Stands R) (reduceLevel f l).1 joined ∧ joined.flatten = segs.flatten
  | _, _, .nil => ⟨[], .nil, rfl⟩
  | _, _, .cons node .nil => ⟨_, .cons node .nil, rfl⟩
  | x :: y :: rest, xs :: ys :: segs, .cons hx (.cons hy others) => by
    obtain ⟨joined, stand, flat⟩ := stands_reduceLevel others
    rw [reduceLevel_values]
    exact ⟨(xs ++ ys) :: joined, .cons (stands_merge join hx hy) stand, by simp [flat]⟩

/-- The value of a tree that is high enough stands for all its leaves. -/
theorem stands_reduceTree {n : Nat} {l : List (Option Nat)} {segs : List (List Nat)}
    (nodes : List.Forall₂ (Stands R) l segs) (fits : l.length ≤ 2 ^ n) : Stands R (reduceTree f n l).1 segs.flatten := by
  induction n generalizing l segs with
  | zero =>
    cases nodes with
    | nil => rfl
    | cons node rest =>
      obtain rfl : _ = [] := List.eq_nil_of_length_eq_zero (Nat.le_zero.mp (Nat.le_of_succ_le_succ fits))
      cases rest
      simpa [reduceTree] using node
  | succ n ih =>
    obtain ⟨joined, stand, flat⟩ := stands_reduceLevel join nodes
    rw [← flat]
    exact ih stand (by rw [length_reduceLevel]; omega)

/-- The tree over 128 lanes stands for the values of the active ones (R176). -/
theorem stands_activeLanes (one : ∀ x, R x [x]) (act : Nat → Bool) (v : Nat → Nat) :
    Stands R (reduceTree f 7 ((List.range 128).map (fun j => if act j then some (v j) else none))).1 (((List.range 128).filter act).map v) := by
  have leaves : List.Forall₂ (Stands R) ((List.range 128).map (fun j => if act j then some (v j) else none))
      ((List.range 128).map (fun j => if act j then [v j] else [])) := by
    refine List.forall₂_map_left_iff.mpr (List.forall₂_map_right_iff.mpr (List.forall₂_same.mpr fun j _ => ?_))
    split
    · exact one (v j)
    · rfl
  have flat : ((List.range 128).map (fun j => if act j then [v j] else [])).flatten = ((List.range 128).filter act).map v := by
    generalize List.range 128 = js
    induction js with
    | nil => rfl
    | cons j js ih => by_cases on : act j <;> simp [on, ih]
  exact flat ▸ stands_reduceTree join leaves (by simp)

end

/-! ## What the integer reductions keep -/

/-- A value is the sum of others modulo 2^32. -/
def SumOf (v : Nat) (vs : List Nat) : Prop := BitVec.ofNat 32 v = BitVec.ofNat 32 vs.sum

theorem SumOf.join {x y : Nat} {xs ys : List Nat} (hx : SumOf x xs) (hy : SumOf y ys) : SumOf ((x + y) % 2 ^ 32) (xs ++ ys) := by
  have wraps : BitVec.ofNat 32 ((x + y) % 2 ^ 32) = BitVec.ofNat 32 (x + y) := BitVec.eq_of_toNat_eq (by simp)
  rw [SumOf, wraps, List.sum_append, BitVec.ofNat_add, BitVec.ofNat_add, hx, hy]

/-- The tree of sums gives the sum, 0 of no value. -/
theorem SumOf.of_stands : ∀ {v : Option Nat} {vs : List Nat}, Stands SumOf v vs → BitVec.ofNat 32 (v.getD 0) = BitVec.ofNat 32 vs.sum
  | none, _, rfl => rfl
  | some _, _, sum => sum

/-- A value is one of others whose key is the least. -/
def LeastOf (key : BitVec 32 → Int) (v : Nat) (vs : List Nat) : Prop := v ∈ vs ∧ ∀ u ∈ vs, key (BitVec.ofNat 32 v) ≤ key (BitVec.ofNat 32 u)

theorem LeastOf.single (key : BitVec 32 → Int) (x : Nat) : LeastOf key x [x] := by simp [LeastOf]

/-- Of two values, the one whose key is not the greater. -/
def Picks (key : BitVec 32 → Int) (x y z : Nat) : Prop :=
  z = x ∧ key (BitVec.ofNat 32 x) ≤ key (BitVec.ofNat 32 y) ∨ z = y ∧ key (BitVec.ofNat 32 y) ≤ key (BitVec.ofNat 32 x)

/-- The least of two segments is the one picked of their least. -/
theorem LeastOf.join {key : BitVec 32 → Int} {x y z : Nat} {xs ys : List Nat} (hx : LeastOf key x xs) (hy : LeastOf key y ys)
    (pick : Picks key x y z) : LeastOf key z (xs ++ ys) := by
  obtain ⟨inX, leastX⟩ := hx
  obtain ⟨inY, leastY⟩ := hy
  obtain ⟨rfl, le⟩ | ⟨rfl, le⟩ := pick
  · exact ⟨List.mem_append_left _ inX, fun u hu => (List.mem_append.mp hu).elim (leastX u) fun hu => le.trans (leastY u hu)⟩
  · exact ⟨List.mem_append_right _ inY, fun u hu => (List.mem_append.mp hu).elim (fun hu => le.trans (leastX u hu)) (leastY u)⟩

/-- The join of the signed minimum picks the lesser value, and that of the signed maximum the lesser negated one. -/
theorem picks_min (x y : Nat) : Picks BitVec.toInt x y (if sltN x y then x else y) := by
  by_cases less : sltN x y = true
  · exact .inl ⟨if_pos less, (BitVec.slt_iff_toInt_lt.mp less).le⟩
  · exact .inr ⟨if_neg less, not_lt.mp (mt BitVec.slt_iff_toInt_lt.mpr less)⟩

theorem picks_max (x y : Nat) : Picks (fun v => -v.toInt) x y (if sltN x y then y else x) := by
  by_cases less : sltN x y = true
  · exact .inr ⟨if_pos less, neg_le_neg (BitVec.slt_iff_toInt_lt.mp less).le⟩
  · exact .inl ⟨if_neg less, neg_le_neg (not_lt.mp (mt BitVec.slt_iff_toInt_lt.mpr less))⟩

/-! ## Reductions -/

/-- The value and the flags of a reduction (R176). -/
def State.reduced (s : State) (h : Nat) (f64 : Bool) (a : BitVec 7) (m : Nat) (f : Round → Nat → Nat → Nat × Flg) : Option Nat × Flg :=
  reduceTree (f (roundOf (s.res h).rmode)) (if f64 then 6 else 7)
    ((List.range (viewCount f64)).map (fun j => if activeAt f64 (s.mread h m) j then some (viewAt f64 (s.vread h a.toNat) j) else none))

theorem State.reduced_quiet (s : State) (h : Nat) (f64 : Bool) (a : BitVec 7) (m : Nat) (f : Nat → Nat → Nat) :
    (s.reduced h f64 a m (fun _ x y => (f x y, Flg.none))).2 = Flg.none := reduceTree_quiet (fun _ _ => rfl) _ _

section
variable {s : State} {h : Nat} {i : Instr} {g : BitVec 2} {d a : BitVec 7} {m empty : Nat}
  (ready : VectorReady s h [.vreg a.toNat, .mask m] [(.vreg d.toNat, some 6)])
include ready

/-- A reduction leaves the write of its destination in full, with its flags (R176). -/
theorem vReduce_completes (f64 : Bool) {f : Round → Nat → Nat → Nat × Flg} (e : exec i s = onVec s (fun h => vReduce f64 Rp.none h g d a m f empty s)) :
    let v := (s.landed h).reduced h f64 a m f
    let x := v.1.getD empty
    Completes i s (FixedWrites h g 6 (.vreg d.toNat) allBits (if f64 then ofElems (fun _ => BitVec.ofNat 64 x) else ofLanes (fun _ => BitVec.ofNat 32 x)) v.2 s) :=
  completes_vec ready.turn e (vFixed_writes g ready (congrArg (fun w => ({ VRes.of [w] with flg := _ } : VRes)) (vwReg_plain ready (List.mem_singleton_self _) _ _)))

/-- In the 32-bit view every lane takes the value. -/
theorem vReduce_lanes {f : Round → Nat → Nat → Nat × Flg} (e : exec i s = onVec s (fun h => vReduce false Rp.none h g d a m f empty s)) :
    let v := (s.landed h).reduced h false a m f
    Completes i s (WholeVector h g 6 d (fun _ => BitVec.ofNat 32 (v.1.getD empty)) v.2 s) :=
  (vReduce_completes ready false e).imp fun _ writes => ⟨_, writes, fun _ hi => lane_ofLanes _ hi⟩

/-- In the fp64 view every element takes it. -/
theorem vReduce_elems {f : Round → Nat → Nat → Nat × Flg} (e : exec i s = onVec s (fun h => vReduce true Rp.none h g d a m f empty s)) :
    let v := (s.landed h).reduced h true a m f
    Completes i s (WholeVector h g 6 d (fun j => (BitVec.ofNat 64 (v.1.getD empty)).extractLsb' (32 * (j % 2)) 32) v.2 s) :=
  (vReduce_completes ready true e).imp fun _ writes => ⟨_, writes, fun _ hi => lane_ofElems _ hi⟩

/-- One whose joins raise nothing raises nothing. -/
theorem vReduce_lanes_quiet {f : Nat → Nat → Nat} (e : exec i s = onVec s (fun h => vReduce false Rp.none h g d a m (fun _ x y => (f x y, Flg.none)) empty s)) :
    Completes i s (WholeVector h g 6 d (fun _ => BitVec.ofNat 32 (((s.landed h).reduced h false a m (fun _ x y => (f x y, Flg.none))).1.getD empty)) Flg.none s) :=
  (vReduce_lanes ready e).imp fun _ whole => by rwa [State.reduced_quiet] at whole

/-- A reduction that keeps, of two values, one whose key is the least gives an active lane of the least key (R176). -/
theorem vReduce_least {f : Nat → Nat → Nat} {key : BitVec 32 → Int} (pick : ∀ x y, Picks key x y (f x y))
    (e : exec i s = onVec s (fun h => vReduce false Rp.none h g d a m (fun _ x y => (f x y, Flg.none)) empty s)) :
    let active := (List.range 128).filter (fun j => ((s.landed h).mread h m).getLsbD j)
    let x := fun j => lane ((s.landed h).vread h a.toNat) j
    Completes i s (fun t => ∃ v, WholeVector h g 6 d (fun _ => v) Flg.none s t ∧ (active = [] → v = BitVec.ofNat 32 empty) ∧
      (active ≠ [] → (∃ j ∈ active, v = x j) ∧ ∀ j ∈ active, key v ≤ key (x j))) := by
  intro active x
  refine (vReduce_lanes_quiet ready e).imp fun t whole => ⟨_, whole, ?_⟩
  have stands : Stands (LeastOf key) ((s.landed h).reduced h false a m (fun _ x y => (f x y, Flg.none))).1 (active.map (fun j => (x j).toNat)) :=
    stands_activeLanes (fun hx hy => hx.join hy (pick _ _)) (LeastOf.single key) _ _
  generalize ((s.landed h).reduced h false a m (fun _ x y => (f x y, Flg.none))).1 = value at stands
  have code : ∀ j, BitVec.ofNat 32 (x j).toNat = x j := fun j => by rw [BitVec.ofNat_toNat, BitVec.setWidth_eq]
  cases value with
  | none =>
    have nobody : active = [] := List.map_eq_nil_iff.mp stands
    exact ⟨fun _ => rfl, fun anybody => absurd nobody anybody⟩
  | some v =>
    obtain ⟨among, least⟩ := stands
    obtain ⟨j, hj, rfl⟩ := List.mem_map.mp among
    refine ⟨fun nobody => absurd hj (nobody ▸ List.not_mem_nil), fun _ => ⟨⟨j, hj, code j⟩, fun k hk => ?_⟩⟩
    rw [← code k]
    exact least _ (List.mem_map_of_mem hk)

end

end Sys2Proof.Machine

open Sys2Proof Sys2Proof.Machine

/-- Settles O32: a reduction is one value of the tree, written in full; the sum and the extrema are kept by each join of the tree. -/
theorem vectorReductions : Obligations.VectorReductions := by
  intro s h g d a n u mk rm x active tree treeD all allD ready
  refine ⟨?_, ?_, ?_, ?_, ?_, ?_, ?_, ?_, ?_⟩
  · refine (vReduce_lanes_quiet ready (exec_vrsum ..)).imp fun t whole => ?_
    have sum := SumOf.of_stands (stands_activeLanes (f := fun x y => ((x + y) % 2 ^ 32, Flg.none)) SumOf.join (fun _ => by simp [SumOf]) (fun j => mk.getLsbD j) fun j => (x j).toNat)
    exact sum ▸ whole
  · exact vReduce_least ready picks_min (exec_vrmin ..)
  · exact (vReduce_least ready picks_max (exec_vrmax ..)).imp fun t ⟨v, whole, nobody, anybody⟩ =>
      ⟨v, whole, nobody, fun active => (anybody active).imp_right fun least j hj => neg_le_neg_iff.mp (least j hj)⟩
  · exact vReduce_lanes ready (exec_vrfsum ..)
  · exact vReduce_lanes_quiet ready (exec_vrfmin ..)
  · exact vReduce_lanes_quiet ready (exec_vrfmax ..)
  · exact vReduce_elems ready (exec_vrdsum ..)
  · exact vReduce_elems (f := fun _ x y => (fMin .fp64 x y, Flg.none)) ready (exec_vrdmin ..)
  · exact vReduce_elems (f := fun _ x y => (fMax .fp64 x y, Flg.none)) ready (exec_vrdmax ..)
end

section
/-!
Events (R244, R245): what a step of a program writes, requests that carry a serial, and questions about events of other packages.
-/

namespace Sys2Proof.Machine
open Sys2Proof

/-! ## A program's step and its registers -/

/-- A resident whose program on engine e has moved on (R22, R97). -/
def Resident.stepped (r : Resident) (e : Eng) : Resident :=
  { r.setPrg e { r.prg e with pc := if e = .s then (r.prg e).pc else (r.prg e).pc + 4, blk := (r.prg e).blk + 1, turn := (r.prg e).turn + 1, pass := false } with
    sc := if e = .s then r.sc.normal else r.sc, vpos := if e = .v then r.vpos + 1 else r.vpos }

theorem advance_task (s : State) (h : Nat) (e : Eng) :
    s.advance (.task h e) = (s.countTile (hTile h) (2 + engCode e) 1).setRes h ((s.res h).stepped e) := by
  cases e <;> simp [State.advance, State.issued, Resident.stepped, Resident.setPrg, Resident.prg, countTile_setRes]

@[simp] theorem Resident.seqs_stepped (r : Resident) (e : Eng) : (r.stepped e).seqs = r.seqs := by cases e <;> rfl

/-- A step writes the program's place alone: the queue, or the program counter with the distance position. -/
theorem Resident.stepped_eq (r : Resident) (e : Eng) : r.stepped e =
    { r.setPrg e ((r.stepped e).prg e) with
      sc := if e = .s then { (r.stepped e).sc with sregs := r.sc.sregs } else r.sc, vpos := if e = .v then r.vpos + 1 else r.vpos } := by
  cases e <;> rfl

theorem res_advance_task (s : State) (h : Nat) (e : Eng) : (s.advance (.task h e)).res h = (s.res h).stepped e := by
  rw [advance_task, State.res_setRes]

theorem svc_advance_sv (s : State) (c : Nat) : (s.advance (.sv c)).svc c = { s.svc c with sc := (s.svc c).sc.normal } := State.svc_setSvc ..

/-- A step reads as the scalar queue's or the program counter's (R22), whatever else has changed before it. -/
theorem Advanced.of_same {w : Who} {s u t : State} (sc : u.sc w = { s.sc w with sregs := (u.sc w).sregs }) (pc : u.pcOf w = s.pcOf w) (k : Advanced w u t) :
    Advanced w s t := by
  match w, k with
  | .task h .s, k | .sv c, k =>
    simp only [Advanced] at k
    rw [sc] at k
    exact k
  | .task h .v, k => exact Eq.trans k (congrArg (· + 4) pc)
  | .task h .m, k => exact Eq.trans k (congrArg (· + 4) pc)
  | .task h .c, k => exact Eq.trans k (congrArg (· + 4) pc)

theorem advance_advanced (w : Who) (s : State) : Advanced w s (s.advance w) := by
  match w, advance_programSteps w s with
  | .task h .s, k => exact k.2.1
  | .sv c, k => exact k.2.1
  | .task h .v, k => exact k.2.2.2.2.1
  | .task h .m, k => exact k.2.2.2.2.1
  | .task h .c, k => exact k.2.2.2.2.1

@[simp] theorem lreg_advance (w : Who) (s : State) (j : Nat) : (s.advance w).lreg w j = s.lreg w j := by
  match w with
  | .sv c => simp [State.lreg, State.advance]
  | .task h e =>
    have res := res_advance_task s h e
    cases e <;> simp only [State.lreg, res] <;> rfl

theorem lreg_setLreg_same (w : Who) (s : State) (x : Nat) (v : Word) : (s.setLreg w x v).lreg w x = v ∨ x = 0 ∧ ∀ h e, w = .task h e → e = .s := by
  match w with
  | .task h .s =>
    rcases Nat.eq_zero_or_pos x with z | z
    · exact .inr ⟨z, fun _ _ e => (Who.task.inj e).2.symm⟩
    · exact .inl (by simp [State.lreg, State.setLreg, SCtx.get_set_same, Nat.ne_of_gt z])
  | .sv c =>
    rcases Nat.eq_zero_or_pos x with z | z
    · exact .inr ⟨z, nofun⟩
    · exact .inl (by simp [State.lreg, State.setLreg, SCtx.get_set_same, Nat.ne_of_gt z])
  | .task h .v => exact .inl (by simp [State.lreg, State.setLreg])
  | .task h .m => exact .inl (by simp [State.lreg, State.setLreg])
  | .task h .c => exact .inl (by simp [State.lreg, State.setLreg])

theorem lreg_setLreg_other (w : Who) (s : State) {x j : Nat} (v : Word) (n : j ≠ x) : (s.setLreg w x v).lreg w j = s.lreg w j := by
  match w with
  | .task h .s | .sv c => simp [State.lreg, State.setLreg, SCtx.get_set_other _ _ n]
  | .task h .v | .task h .m | .task h .c => simp [State.lreg, State.setLreg, fget_fset_other _ _ _ n]

theorem setLreg_locally (w : Who) (s : State) (x : Nat) (v : Word) : Locally s (s.setLreg w x v) := by
  match w with
  | .task h .s | .sv c | .task h .v | .task h .m | .task h .c => rfl

theorem sc_setLreg (w : Who) (s : State) (x : Nat) (v : Word) : (s.setLreg w x v).sc w = { s.sc w with sregs := ((s.setLreg w x v).sc w).sregs } := by
  match w with
  | .task h .s | .sv c => simp only [State.setLreg, State.sc, State.modRes_eq, State.modSvc_eq, State.res_setRes, State.svc_setSvc]; exact SCtx.set_eq ..
  | .task h .v | .task h .m | .task h .c => simp [State.setLreg, State.sc]

theorem pcOf_setLreg (w : Who) (s : State) (x : Nat) (v : Word) : (s.setLreg w x v).pcOf w = s.pcOf w := by
  have sc := sc_setLreg w s x v
  match w with
  | .task h .s | .sv c =>
    simp only [State.sc] at sc
    simp only [State.pcOf]
    rw [sc]
  | .task h .v | .task h .m | .task h .c => simp [State.setLreg, State.pcOf, Resident.prg]

theorem localResult_advanced (w : Who) (s : State) (x : Nat) (v : Word) : Advanced w s (localResult w x v s) :=
  (advance_advanced w _).of_same (sc_setLreg w s x v) (pcOf_setLreg w s x v)

theorem localResult_locally (w : Who) (s : State) (x : Nat) (v : Word) : Locally s (localResult w x v s) :=
  (setLreg_locally w s x v).trans (advance_programSteps w _).locally

/-! ## Requests that carry a serial -/

theorem seqFor_setSeqFor (s : State) (o : Owner) (pkg : BitVec 10) (x : SeqState) : (s.setSeqFor o pkg x).seqFor o pkg = x := by
  cases o <;> simp [State.seqFor, State.setSeqFor]

theorem setSeqFor_setSeqFor (s : State) (o : Owner) (pkg : BitVec 10) (x y : SeqState) : (s.setSeqFor o pkg x).setSeqFor o pkg y = s.setSeqFor o pkg y := by
  cases o <;> simp [State.setSeqFor, fput_fput]

theorem res_setSeqFor (s : State) (o : Owner) (pkg : BitVec 10) (x : SeqState) (h : Nat) :
    (s.setSeqFor o pkg x).res h = { s.res h with seqs := ((s.setSeqFor o pkg x).res h).seqs } := by
  cases o with
  | task k =>
    by_cases n : h = k
    · subst n
      simp [State.setSeqFor]
    · simp [State.setSeqFor, State.res_setRes_other _ _ n]
  | sv | coll | host | orr => rfl

theorem setSeqFor_rest (s : State) (o : Owner) (pkg : BitVec 10) (x : SeqState) :
    s.setSeqFor o pkg x = { s with residents := (s.setSeqFor o pkg x).residents, sysSeqs := (s.setSeqFor o pkg x).sysSeqs } := by
  cases o <;> rfl

/-- Taking a sequence and noting its request count one operation more toward the owner (R350, R356). -/
theorem noteReq_takeSeq (s : State) (o : Owner) (pkg : BitVec 10) (q : RReq) : ∃ y, (s.takeSeq o pkg).noteReq o pkg q = s.setSeqFor o pkg y ∧
    y.next = (s.seqFor o pkg).next + 1 ∧ y.outstanding = (s.seqFor o pkg).outstanding + 1 := by
  unfold State.noteReq State.takeSeq
  cases q.ct.isSome <;> cases q.serial.isSome <;>
    simp only [if_true, Bool.false_eq_true, if_false, seqFor_setSeqFor, setSeqFor_setSeqFor] <;> exact ⟨_, rfl, rfl, rfl⟩

/-- A request joins those that leave, its operation those outstanding (R251). -/
def State.queueRemote (s : State) (q : RReq) (o : ROut) : State := { s with requests := s.requests ++ [q], routs := s.routs ++ [o], nextId := s.nextId + 1 }

/-- What differs of the machine when a program's request has joined those that leave and the program has gone on. -/
theorem advance_queueRemote (s : State) (w : Who) (pkg : BitVec 10) (y : SeqState) (q : RReq) (o : ROut) :
    let t := ((s.setSeqFor w.owner pkg y).queueRemote q o).advance w
    t = { s with requests := s.requests ++ [q], routs := s.routs ++ [o], nextId := s.nextId + 1, residents := t.residents, svs := t.svs, sysSeqs := t.sysSeqs, counters := t.counters } ∧
    Advanced w s t ∧ TrapsKept (s.sc w) (t.sc w) ∧
    (∀ h, t.res h = match w with
      | .task k e => if h = k then { (s.res k).setPrg e ((t.res k).prg e) with
          sc := if e = .s then { (t.res k).sc with sregs := (s.res k).sc.sregs } else (s.res k).sc,
          vpos := if e = .v then (s.res k).vpos + 1 else (s.res k).vpos, seqs := (t.res k).seqs } else s.res h
      | .sv _ => s.res h) ∧
    (∀ c, t.svc c = match w with
      | .sv k => if c = k then { s.svc k with sc := { (t.svc k).sc with sregs := (s.svc k).sc.sregs } } else s.svc c
      | .task _ _ => s.svc c) ∧
    t.seqFor w.owner pkg = y := by
  cases w with
  | sv c =>
    refine ⟨rfl, advance_advanced (.sv c) _, (advance_steps (.sv c) _ nofun).2.2.1, fun h => rfl, fun j => ?_, seqFor_setSeqFor s (.sv c) pkg y⟩
    show _ = if j = c then _ else _
    split
    · next eq =>
      subst eq
      rw [svc_advance_sv]
      rfl
    · next ne => exact State.svc_setSvc_other _ _ ne
  | task h e =>
    obtain ⟨x, own⟩ : ∃ x, ((s.setSeqFor (Who.task h e).owner pkg y).queueRemote q o).res h = { s.res h with seqs := x } := ⟨_, res_setSeqFor s (.task h) pkg y h⟩
    have stepped : ((((s.setSeqFor (Who.task h e).owner pkg y).queueRemote q o).advance (.task h e)).res h) = ({ s.res h with seqs := x } : Resident).stepped e := by
      rw [res_advance_task, own]
    refine ⟨by cases e <;> rfl, advanced_over own rfl (by cases e <;> rfl), ?_, fun j => ?_, fun c => ?_, ?_⟩
    · show TrapsKept _ (State.res _ h).sc
      rw [stepped]
      cases e <;> exact ⟨rfl, rfl, rfl, rfl, rfl, rfl, rfl, rfl⟩
    · show _ = if j = h then _ else _
      split
      · next eq =>
        subst eq
        rw [stepped]
        cases e <;> rfl
      · next ne =>
        rw [advance_task, State.res_setRes_other _ _ ne]
        exact State.res_setRes_other _ _ ne
    · rw [advance_task]
      rfl
    · show fget SeqState.start (State.res _ h).seqs _ = y
      rw [res_advance_task, Resident.seqs_stepped]
      exact seqFor_setSeqFor s (.task h) pkg y

/-- A request without a replay snapshot goes to the incarnation that the transport holds (R360). -/
theorem reqOf_inc {s : State} {h : Nat} {k : TaskRef} (hk : (s.res h).task = some k) (hr : k.replayed = false) (pkg : BitVec 10) (cls addr : Nat) (op : ROp)
    (op0 op1 : BitVec 128) (serial : Option Serial) (scope : BitVec 3) :
    (s.reqOf (.task h) pkg cls addr op op0 op1 serial scope).rp = false ∧ (s.reqOf (.task h) pkg cls addr op op0 op1 serial scope).inc = s.incOf pkg := by
  have snap : s.replaySnapshot h pkg = none := by
    rw [State.replaySnapshot, hk]
    simp [hr]
  simp only [State.reqOf, snap]
  exact ⟨rfl, rfl⟩

/-- A program's numbered request joins those that leave, and the program goes on (R251, R350). -/
theorem sends_numbered (s : State) (w : Who) {t : Target} (ht : t.aper ≠ 3) (va : Nat) (op : ROp) (op0 op1 : BitVec 128) (dest : RDest) (scope : BitVec 3) (leave : Leave) :
    ∃ q o, Sends w s q o ((s.issueRemote w t va op op0 op1 dest true scope leave).advance w) ∧ q.op = op ∧ q.op0 = op0 ∧ o.peer = s.ownerPkg t ∧ o.dest = dest ∧
      o.leave = leave ∧ Numbered w (s.ownerPkg t) q s ((s.issueRemote w t va op op0 op1 dest true scope leave).advance w) := by
  let pkg := s.ownerPkg t
  let q := s.reqOf w.owner pkg (if t.aper = 2 then 7 else s.classOfWho w) t.pa op op0 op1 (some (s.serialOf w.owner (s.seqFor w.owner pkg).next)) scope
  let o := s.routOf w.owner w.path pkg dest va t (s.pcOf w) q leave
  obtain ⟨y, numbered, next, outs⟩ := noteReq_takeSeq s w.owner pkg q
  have made : s.issueRemote w t va op op0 op1 dest true scope leave = (s.setSeqFor w.owner pkg y).queueRemote q o := by
    unfold State.issueRemote
    simp only [decide_eq_true ht, Bool.and_self, if_true]
    rw [numbered]
    rfl
  rw [made]
  obtain ⟨rest, advanced, traps, res, svs, seq⟩ := advance_queueRemote s w pkg y q o
  refine ⟨q, o, ⟨rest, advanced, traps, res, svs, rfl, rfl, rfl, rfl, rfl, rfl, rfl, rfl, rfl, rfl, rfl, fun h e k hw hk hr => ?_⟩, rfl, rfl, rfl, rfl, rfl,
    ⟨_, rfl, by cases w <;> rfl, fun h e hw => ?_⟩, by rw [seq, next], by rw [seq, outs]⟩
  · subst hw
    exact reqOf_inc hk hr ..
  · subst hw
    exact ⟨rfl, rfl, rfl⟩

/-! ## The event that a function names -/

theorem eventNamed_iff (s : State) (w : Who) (hd : Word) :
    s.eventNamed w hd = true ↔ hdlAsid hd = s.asidOf w ∧ hdlType hd = 1 ∧ (hdlPkg hd = s.pkgId → s.eventLive hd = true) := by
  unfold State.eventNamed
  by_cases here : hdlPkg hd = s.pkgId <;> simp [here, and_assoc]

section
variable {s : State} {w : Who} {x : BitVec 6} {wr : Bool} {k : Who → Word → Out}

theorem eventOp_of (turn : s.who = some w) (named : s.eventNamed w (s.lreg w x.toNat) = true) (right : wr = true → s.hasRight 86 (s.classOfWho w) 1 = true) :
    eventOp x wr s k = k w (s.lreg w x.toNat) := by
  rw [eventOp, onAny, turn]
  refine (if_neg (by rw [named]; decide)).trans (if_neg ?_)
  cases wr
  · simp
  · simp [right rfl]

theorem eventOp_protected (turn : s.who = some w) (named : s.eventNamed w (s.lreg w x.toNat) = true) (no : s.hasRight 86 (s.classOfWho w) 1 = false) :
    eventOp x true s k = .next (s.takeFault w .instr { faultInfo 0x12 2 with flags := 1 }) := by
  rw [eventOp, onAny, turn]
  exact (if_neg (by rw [named]; decide)).trans (if_pos (by rw [no]; decide))

theorem eventOp_dead (turn : s.who = some w) (dead : s.eventNamed w (s.lreg w x.toNat) = false) : eventOp x wr s k = .next (s.stateUse w) := by
  rw [eventOp, onAny, turn]
  exact if_pos (by rw [dead]; decide)

end

theorem ownerPkg_eventTarget (s : State) (hd : Word) : s.ownerPkg (s.eventTarget hd) = hdlPkg hd := by
  unfold State.ownerPkg State.eventTarget
  by_cases here : hdlPkg hd = s.pkgId <;> simp [here]

theorem eventTarget_aper (s : State) (hd : Word) : (s.eventTarget hd).aper ≠ 3 := by
  unfold State.eventTarget
  by_cases here : hdlPkg hd = s.pkgId <;> simp [here]

/-- A signal or set whose serial has room becomes a numbered request, which leaves after every earlier access (R245, R350, R357). -/
theorem signalOp_sends {s : State} {w : Who} {hd : Word} (room : SerialsFree s w (hdlPkg hd) 1) (op : ROp) :
    ∃ t, signalOp w hd op s = .next t ∧ ∃ q o, Sends w s q o t ∧ q.op = op ∧ q.op0 = hd.setWidth 128 ∧ o.peer = hdlPkg hd ∧ o.dest = .none ∧ o.leave = .all ∧
      Numbered w (hdlPkg hd) q s t := by
  refine ⟨_, if_pos (show s.serialRoom w (hdlPkg hd) = true from decide_eq_true (p := _ ≤ 2 ^ 30) room), ?_⟩
  have sends := sends_numbered s w (eventTarget_aper s hd) 0 op (hd.setWidth 128) 0 .none 3 .all
  rwa [ownerPkg_eventTarget] at sends

/-! ## The counts of other packages' events -/

theorem withCount_here {s : State} {w : Who} {hd : Word} (here : hdlPkg hd = s.pkgId) (k : State → Out) : withCount w hd s k = k s := if_pos here

section
variable {s : State} {w : Who} {hd : Word} (far : hdlPkg hd ≠ s.pkgId) (k : State → Out)
include far

theorem withCount_asks (none_ : s.eventRout w.owner w.path hd = none) : withCount w hd s k = .next (s.askEvent w.owner w.path (s.pcOf w) hd) := by
  rw [withCount, if_neg far, none_]

theorem withCount_waits {o : ROut} (asked : s.eventRout w.owner w.path hd = some o) (out : o.status = none) : withCount w hd s k = .next s := by
  rw [withCount, if_neg far, asked]
  simp only [out]

theorem withCount_answered {o : ROut} (asked : s.eventRout w.owner w.path hd = some o) (done : o.status = some .performed) :
    withCount w hd s k = k ((s.dropRout o.id).seePeer hd (o.answer.setWidth 64) ((o.answer >>> 64).setWidth 64)) := by
  rw [withCount, if_neg far, asked]
  simp only [done]

theorem withCount_dead {o : ROut} (asked : s.eventRout w.owner w.path hd = some o) (dead : o.status = some .stateUse) :
    withCount w hd s k = .next ((s.dropRout o.id).fresh1.takeFault w .instr (remoteFault .stateUse o.peer o.inc 0 (Config.freeStateUseDetail s.fresh))) := by
  rw [withCount, if_neg far, asked]
  simp only [dead]

end

theorem pcOf_setSeqFor (s : State) (o : Owner) (pkg : BitVec 10) (x : SeqState) (w : Who) : (s.setSeqFor o pkg x).pcOf w = s.pcOf w := by
  match w with
  | .sv c => rw [setSeqFor_rest]; rfl
  | .task h .s =>
    simp only [State.pcOf]
    rw [res_setSeqFor]
  | .task h .v | .task h .m | .task h .c =>
    simp only [State.pcOf]
    rw [res_setSeqFor]
    rfl

/-- A request without a serial leaves the sequence states but for a completed-through value that is now sent (R349, R356). -/
theorem noteReq_unnumbered (s : State) (o : Owner) (pkg : BitVec 10) {q : RReq} (hq : q.serial = none) :
    s.noteReq o pkg q = s ∨ s.noteReq o pkg q = s.setSeqFor o pkg (s.seqFor o pkg).acked := by
  unfold State.noteReq
  rw [hq]
  cases q.ct.isSome
  · exact .inl rfl
  · exact .inr rfl

/-- Another package is asked for its event's count by a request without a serial; the program stands where it was (R244, R349). -/
theorem askEvent_of (s : State) (w : Who) (hd : Word) : let t := s.askEvent w.owner w.path (s.pcOf w) hd
    ∃ q o, t.pcOf w = s.pcOf w ∧ t.mem = s.mem ∧ t.tiles = s.tiles ∧ t.requests = s.requests ++ [q] ∧ t.routs = s.routs ++ [o] ∧ o.req = q ∧ q.op = .evRead hd ∧
      q.serial = none ∧ o.peer = hdlPkg hd ∧ o.dest = .eventInfo hd ∧ o.owner = w.owner ∧ o.path = w.path ∧ o.status = none := by
  let q := s.reqOf w.owner (hdlPkg hd) 7 (2 ^ 60 + hdlIdx hd) (.evRead hd) (hd.setWidth 128) 0 none 3
  let o := s.routOf w.owner w.path (hdlPkg hd) (.eventInfo hd) 0 (s.eventTarget hd) (s.pcOf w) q .free
  have asked : s.askEvent w.owner w.path (s.pcOf w) hd = (s.noteReq w.owner (hdlPkg hd) q).queueRemote q o := rfl
  have place : ∀ u : State, (u.queueRemote q o).pcOf w = u.pcOf w := fun u => by
    match w with
    | .sv c | .task h .s | .task h .v | .task h .m | .task h .c => rfl
  intro t
  refine ⟨q, o, ?_⟩
  rcases noteReq_unnumbered s w.owner (hdlPkg hd) (q := q) rfl with same | acked
  · have made : t = s.queueRemote q o := asked.trans (by rw [same])
    rw [made, place]
    exact ⟨rfl, rfl, rfl, rfl, rfl, rfl, rfl, rfl, rfl, rfl, rfl, rfl, rfl⟩
  · have made : t = (s.setSeqFor w.owner (hdlPkg hd) (s.seqFor w.owner (hdlPkg hd)).acked).queueRemote q o := asked.trans (by rw [acked])
    rw [made, place, pcOf_setSeqFor, setSeqFor_rest]
    exact ⟨rfl, rfl, rfl, rfl, rfl, rfl, rfl, rfl, rfl, rfl, rfl, rfl, rfl⟩

theorem eventCount_seePeer {s : State} {hd : Word} (far : hdlPkg hd ≠ s.pkgId) (n x : Word) : (s.seePeer hd n x).eventCount hd = n := by
  unfold State.eventCount State.seePeer
  rw [if_neg far]
  simp

/-- A wait that a program passes leaves its place (R30). -/
theorem place_waited (s : State) (w : Who) : (s.waited w).sc w = s.sc w ∧ (s.waited w).pcOf w = s.pcOf w ∧ Locally s (s.waited w) := by
  match w with
  | .sv c => exact ⟨rfl, rfl, rfl⟩
  | .task h .s =>
    obtain ⟨⟨⟨loc, -, -⟩, -⟩, sc⟩ := onlyScalar_waited h s
    exact ⟨sc, congrArg SCtx.pc (show ((s.waited (.task h .s)).res h).sc = (s.res h).sc from sc), loc⟩
  | .task h .v =>
    have settled := (s.res h).landed_settle
    rw [Resident.Landed] at settled
    refine ⟨?_, ?_, rfl⟩ <;> simp only [State.waited, State.boundary, State.sc, State.pcOf, State.modRes_eq, State.res_setRes, if_true] <;> rw [settled] <;> rfl
  | .task h .m | .task h .c => exact ⟨by simp [State.waited, State.boundary, State.sc, Resident.setPrg], by simp [State.waited, State.boundary, State.pcOf], rfl⟩

/-- A parked scalar program holds no fence (R35, R246). -/
theorem parkWith_scalar_fence (s : State) (h : Nat) (k : ParkKind) (rec : FaultRec) : ((s.parkWith h .s k rec).res h).sc.fence = none := by
  unfold State.parkWith
  rw [(blockEnded_endBlock _ h .s).res h]
  simp [State.queueRecord]

/-- A scalar program within a fence that asks for the count of event 0 of package 1, whose answer says that no such event is live. -/
def fencedAsker : State :=
  let hd : Word := 0x0000010000100000
  let q := State.reset.reqOf (.task 0) 1 7 (2 ^ 60) (.evRead hd) (hd.setWidth 128) 0 none 3
  let asked := State.reset.routOf (.task 0) 0 1 (.eventInfo hd) 0 (State.reset.eventTarget hd) 0 q .free
  { State.reset with
    tiles := [(0, { Tile.start with cur := [(0, some 0)] })]
    residents := [(0, { Resident.start with sc := { SCtx.start with sregs := [(1, hd)], fence := some 0 } })]
    routs := [{ asked with status := some .stateUse }] }

end Sys2Proof.Machine

open Sys2Proof Sys2Proof.Machine

/-- Settles O24: each function is a numbered request, or the pass of a wait and a register result over the count, here or as another package answers it. -/
theorem eventFunctions : Obligations.EventFunctions := by
  intro s w x n hd y posts count asked turn asid type live free
  have named : s.eventNamed w hd = true := (eventNamed_iff s w hd).mpr ⟨asid, type, live⟩
  refine ⟨fun right room => ?_, fun no i hi => ?_, fun here => ?_, fun far => ⟨fun unasked i hi => ?_, fun o out waits => ?_, fun o out done => ?_⟩⟩
  · have posted : ∀ (i : Instr) (op : Who → ROp), exec i s = eventOp x true s (fun w hd => signalOp w hd (op w) s) → Completes i s (posts (op w)) := fun i op run =>
      let ⟨t, goes, sent⟩ := signalOp_sends room (op w)
      ⟨t, by rw [run, eventOp_of turn named fun _ => right, ← goes], sent⟩
    refine ⟨?_, posted _ (fun w => .evSignal (s.lreg w (x.toNat + 1)) 0 0) (exec_evsigr ..), posted _ (fun w => .evSet (s.lreg w (x.toNat + 1)) false) (exec_evset ..),
      posted _ (fun w => .evSet (s.lreg w (x.toNat + 1)) true) (exec_evsetC ..)⟩
    rw [BitVec.ofNat_toNat]
    exact posted _ (fun _ => .evSignal (n.setWidth 64) 0 0) (exec_evsig ..)
  · simp only [List.mem_cons, List.not_mem_nil, or_false] at hi
    rcases hi with rfl | rfl | rfl | rfl
    · rw [exec_evsig, execEvsig, eventOp_protected turn named no]
    · rw [exec_evsigr, execEvsigr, eventOp_protected turn named no]
    · rw [exec_evset, execEvset, eventOp_protected turn named no]
    · rw [exec_evsetC, execEvsetC, eventOp_protected turn named no]
  · have counted : s.eventCount hd = count := if_pos here
    refine ⟨fun reached => ?_, completes_programSteps ?_⟩
    · apply completes_wait (f := id) (x := .event hd y) free
      · exact decide_eq_true (by rw [counted]; exact reached)
      · rw [exec_evwait, execEvwait, eventOp_of (wr := false) turn named nofun, withCount_here here]
        rfl
    · rw [exec_evread, execEvread, eventOp_of (wr := false) turn named nofun, withCount_here here, counted]
      rfl
  · simp only [List.mem_cons, List.not_mem_nil, or_false] at hi
    rcases hi with rfl | rfl
    · exact ⟨_, by rw [exec_evwait, execEvwait, eventOp_of (wr := false) turn named nofun, withCount_asks far _ unasked], askEvent_of s w hd⟩
    · exact ⟨_, by rw [exec_evread, execEvread, eventOp_of (wr := false) turn named nofun, withCount_asks far _ unasked], askEvent_of s w hd⟩
  · constructor
    · rw [exec_evwait, execEvwait, eventOp_of (wr := false) turn named nofun, withCount_waits far _ out waits]
    · rw [exec_evread, execEvread, eventOp_of (wr := false) turn named nofun, withCount_waits far _ out waits]
  · let u := (s.dropRout o.id).seePeer hd (o.answer.setWidth 64) ((o.answer >>> 64).setWidth 64)
    have counted : u.eventCount hd = o.answer.setWidth 64 := eventCount_seePeer (s := s.dropRout o.id) far _ _
    have place : u.sc w = s.sc w ∧ u.pcOf w = s.pcOf w ∧ ∀ j, u.lreg w j = s.lreg w j := by
      match w with
      | .sv c | .task h .s | .task h .v | .task h .m | .task h .c => exact ⟨rfl, rfl, fun _ => rfl⟩
    obtain ⟨sc, pc, regs⟩ := place
    refine ⟨?_, fun reached => ?_⟩
    · have loc := localResult_locally w u (x.toNat + 1) (u.eventCount hd)
      refine ⟨localResult w (x.toNat + 1) (u.eventCount hd) u, ?_, (localResult_advanced w u _ _).of_same (by rw [sc]) pc, fun _ => ?_, fun j ne => ?_, loc.routs, loc.mem, loc.tiles⟩
      · rw [exec_evread, execEvread, eventOp_of (wr := false) turn named nofun, withCount_answered far _ out done]
      · rw [localResult, lreg_advance, ← counted]
        exact (lreg_setLreg_same w u (x.toNat + 1) _).resolve_right fun z => Nat.succ_ne_zero _ z.1
      · rw [localResult, lreg_advance, lreg_setLreg_other w u _ ne, regs]
    · have free' : Unhindered u w := by cases w <;> exact free
      have holds : u.waitHolds w.resident (.event hd (u.lreg w (x.toNat + 1))) = true := decide_eq_true (by rw [counted, regs]; exact reached)
      obtain ⟨sc', pc', loc⟩ := place_waited u w
      have loc' := loc.trans (advance_programSteps w (u.waited w)).locally
      refine ⟨(u.waited w).advance w, ?_, (advance_advanced w _).of_same (by rw [sc', sc]) (pc'.trans pc), loc'.routs, loc'.mem⟩
      rw [exec_evwait, execEvwait, eventOp_of (wr := false) turn named nofun, withCount_answered far _ out done]
      exact waitOp_passes holds free'

/-- Refutes O25: a scalar program parked for an event that its package does not know gives up the fence it was within, which `Parks` says it keeps. -/
theorem not_eventFaults : ¬ Obligations.EventFaults := by
  intro holds
  have turn : fencedAsker.who = some (.task 0 .s) := rfl
  have named : fencedAsker.eventNamed (.task 0 .s) (fencedAsker.lreg (.task 0 .s) (1 : BitVec 6).toNat) = true := by decide
  have far : hdlPkg (fencedAsker.lreg (.task 0 .s) (1 : BitVec 6).toNat) ≠ fencedAsker.pkgId := by decide
  obtain ⟨-, dead⟩ := holds fencedAsker (.task 0 .s) 1 0 turn
  obtain ⟨⟨t, goes, rec, ⟨-, -, -, -, kept, -⟩, -⟩, -⟩ := dead _ 0 .s rfl (by decide) (by decide) far rfl rfl
  rw [exec_evread, execEvread, eventOp_of (wr := false) turn named nofun, withCount_dead far _ rfl rfl] at goes
  have none_ : (t.res 0).sc.fence = none := by
    rw [← Host.Outcome.next.inj goes]
    exact parkWith_scalar_fence ..
  rw [kept] at none_
  exact nomatch none_
end

section
/-!
The COLL functions (R250): their records, the communicator that CCOMM forms (R365, R366), the program that CSTART starts (R263, R271), and CFREE.
-/

namespace Sys2Proof.Machine
open Sys2Proof

/-! ## The result of a COLL function -/

/-- A COLL function of resident h has changed nothing that its program reads, before its result: of the resident, how many communicators and starts it has made. -/
structure CollKept (h : Nat) (s u : State) : Prop where
  res : u.res h = { s.res h with ccomms := (u.res h).ccomms, cstarts := (u.res h).cstarts }
  mem : u.mem = s.mem
  tiles : u.tiles = s.tiles
  svs : u.svs = s.svs
  gaccs : u.gaccs = s.gaccs

theorem CollKept.refl (h : Nat) (s : State) : CollKept h s s := ⟨rfl, rfl, rfl, rfl, rfl⟩

theorem CollKept.trans {h : Nat} {s t u : State} (a : CollKept h s t) (b : CollKept h t u) : CollKept h s u :=
  ⟨by rw [b.res, a.res], b.mem.trans a.mem, b.tiles.trans a.tiles, b.svs.trans a.svs, b.gaccs.trans a.gaccs⟩

theorem CollKept.place {h : Nat} {s u : State} (k : CollKept h s u) (e : Eng) :
    u.sc (.task h e) = s.sc (.task h e) ∧ u.pcOf (.task h e) = s.pcOf (.task h e) ∧ ∀ j, u.lreg (.task h e) j = s.lreg (.task h e) j := by
  cases e <;> simp only [State.sc, State.pcOf, State.lreg] <;> rw [k.res] <;> exact ⟨rfl, rfl, fun _ => rfl⟩

/-- The program has taken value v as a COLL function's result and goes on. -/
def CollReturns (h : Nat) (e : Eng) (x : BitVec 6) (v : Word) (s t : State) : Prop :=
  Advanced (.task h e) s t ∧ (e = .s ∧ x = 0 ∨ t.lreg (.task h e) x.toNat = v) ∧ (∀ j, j ≠ x.toNat → t.lreg (.task h e) j = s.lreg (.task h e) j) ∧
  t.mem = s.mem ∧ t.tiles = s.tiles ∧ t.svs = s.svs ∧ t.gaccs = s.gaccs

theorem Locally.comms {s t : State} (h : Locally s t) : t.comms = s.comms := by rw [h]

theorem comms_collResult (w : Who) (x : BitVec 6) (v : Word) (u : State) : (collResult w x v u).comms = u.comms :=
  (localResult_locally w (u.setRec w.owner w.path []) x.toNat v).comms

theorem collResult_returns {h : Nat} {s u : State} (k : CollKept h s u) (e : Eng) (x : BitVec 6) (v : Word) :
    CollReturns h e x v s (collResult (.task h e) x v u) := by
  let n := u.setRec (Who.task h e).owner (Who.task h e).path []
  have kept : CollKept h s n := k.trans ⟨rfl, rfl, rfl, rfl, rfl⟩
  obtain ⟨sc, pc, regs⟩ := kept.place e
  have loc := localResult_locally (.task h e) n x.toNat v
  refine ⟨(localResult_advanced _ n _ _).of_same (by rw [sc]) pc, ?_, fun j ne => ?_, loc.mem.trans kept.mem, loc.tiles.trans kept.tiles, ?_, loc.gaccs.trans kept.gaccs⟩
  · refine (lreg_setLreg_same (.task h e) n x.toNat v).symm.imp (fun ⟨z, only⟩ => ⟨only h e rfl, BitVec.eq_of_toNat_eq z⟩) fun same => ?_
    exact (lreg_advance ..).trans same
  · exact (lreg_advance ..).trans ((lreg_setLreg_other _ n v ne).trans (regs j))
  · exact Eq.trans (by cases e <;> rfl) kept.svs

/-! ## The record that a COLL function reads -/

section
variable {s : State} {h : Nat} {e : Eng} (turn : s.who = some (.task h e))
  (settled : ∀ g ∈ s.gaccs, g.owner = .task h → g.path = (Who.task h e).path → g.isStore = true → g.failed ≠ none)
include turn settled

theorem collOp_of (i : Instr) (k : Who → Nat → Out) : collOp i s k = k (.task h e) h := by
  rw [collOp, onTile_of turn]
  refine if_neg fun out => ?_
  obtain ⟨g, hg, mine⟩ := List.any_eq_true.mp out
  simp only [Bool.and_eq_true, decide_eq_true_eq] at mine
  obtain ⟨⟨⟨own, path⟩, store⟩, ok⟩ := mine
  exact settled g hg own path store ok

theorem collRec_misaligned {x : BitVec 6} (odd : (s.lreg (.task h e) x.toNat).toNat % 64 ≠ 0) (i : Instr) (k : Who → Nat → List Byte → State → Out) :
    collRec i x s k = .next (s.stateUse (.task h e)) := by
  rw [collRec, collOp_of turn settled]
  exact if_pos odd

theorem collRec_aligned {x : BitVec 6} (al : (s.lreg (.task h e) x.toNat).toNat % 64 = 0) (i : Instr) (k : Who → Nat → List Byte → State → Out) :
    collRec i x s k = recLoad (.task h e) h (s.lreg (.task h e) x.toNat).toNat 64 s (k (.task h e) h) := by
  rw [collRec, collOp_of turn settled]
  exact if_neg (not_not.mpr al)

end

/-- A record whose bytes have all come is read (R250). -/
theorem recLoad_here {s : State} {h : Nat} {e : Eng} {va n : Nat} {bs : List Byte} (here : RecordHere s (.task h e) va n bs) (k : List Byte → State → Out) :
    recLoad (.task h e) h va n s k = k bs s := by
  obtain ⟨free, whole, rfl⟩ := here
  rw [recLoad, heldOp_of free]
  have none_ : (readUnits 1 [(va, n)]).filter (fun u => (allBytes (s.recBytes (Who.task h e).owner (Who.task h e).path) u.1 u.2).isNone) = [] :=
    List.filter_eq_nil_iff.mpr fun u hu => by simp [Option.isSome_iff_ne_none.mp (whole u hu)]
  simp only [none_]

/-- The units of an aligned run of doublewords (R275). -/
theorem runUnits_aligned (w m : Nat) : ∀ fuel a, m < fuel → a % 8 = 0 → runUnits w fuel a (8 * m) = (List.range m).map (fun i => (a + 8 * i, 8)) := by
  induction m with
  | zero => intro fuel a hf _; cases fuel <;> simp [runUnits]
  | succ m ih =>
    intro fuel a hf al
    obtain ⟨f, rfl⟩ : ∃ f, fuel = f + 1 := ⟨fuel - 1, by omega⟩
    have unit : nextUnit w a (8 * (m + 1)) (decide (a % 8 = 0)) = 8 := if_pos (by simp [al])
    rw [runUnits, if_neg (by omega)]
    simp only [unit]
    rw [show 8 * (m + 1) - 8 = 8 * m by omega, ih f (a + 8) (by omega) (by omega), List.range_succ_eq_map, List.map_cons, List.map_map]
    refine congrArg _ (List.map_congr_left fun i _ => ?_)
    simp
    omega

theorem readUnits_record {a : Nat} (al : a % 64 = 0) : readUnits 1 [(a, 64)] = (List.range 8).map (fun i => (a + 8 * i, 8)) :=
  (List.append_nil _).trans (runUnits_aligned 1 8 65 a (by omega) (by omega))

/-- Units that translate at once have their targets. -/
theorem targetsOf_of {s : State} {h : Nat} {e : Eng} {a : Acc} {va : Nat → Nat} {tgt : Nat → Target} {leaf : Nat → BitVec 64} (l : List Nat)
    (ok : ∀ i ∈ l, Translates s (.task h e) (va i) a false (tgt i) (leaf i)) :
    s.targetsOf h a (l.map (fun i => (va i, 8, 0))) = .ok (l.map (fun i => (va i, 8, 0, tgt i))) := by
  induction l with
  | nil => rfl
  | cons i l ih =>
    obtain ⟨found, clean⟩ := ok i List.mem_cons_self
    have found' : s.translate (Who.task h .c).tlb (s.asidOf (.task h .c)) (s.classOfWho (.task h .c)) (va i) a false = .ok (tgt i) (leaf i) := found
    have clean' : s.dirtyOk (Who.task h .c).tlb (s.asidOf (.task h .c)) (va i) a = true := clean
    simp only [List.map_cons, State.targetsOf, found', clean', if_true, ih fun j hj => ok j (List.mem_cons_of_mem _ hj)]

/-- A load of eight bytes of a record (R275). -/
structure RecordUnit (w : Who) (va : Nat) (tgt : Target) (g : GAcc) : Prop where
  isStore : g.isStore = false
  va : g.va = va
  n : g.n = 8
  tgt : g.tgt = tgt
  dest : g.dest = .record
  owner : g.owner = w.owner
  path : g.path = w.path

/-- The load of one unit of a record issues. -/
def State.pushRecord (w : Who) (s : State) (p : Nat × Nat × Nat × Target) : State :=
  (s.touchTlb w.tlb (s.asidOf w) p.1 .load).pushGacc (mkLoad w s p.2.2.2 p.1 p.2.1 false 0 .record)

/-- Loads whose translations are held join those in flight, and nothing else of the machine differs. -/
theorem foldl_pushRecord {h : Nat} {e : Eng} {va : Nat → Nat} {tgt : Nat → Target} {leaf : Nat → BitVec 64} (l : List Nat) : ∀ s : State,
    (∀ i ∈ l, Translates s (.task h e) (va i) .load false (tgt i) (leaf i)) →
    ∃ gs, (l.map (fun i => (va i, 8, 0, tgt i))).foldl (State.pushRecord (.task h e)) s = { s with gaccs := s.gaccs ++ gs, nextId := s.nextId + l.length } ∧
      List.Forall₂ (fun i g => RecordUnit (.task h e) (va i) (tgt i) g) l gs := by
  induction l with
  | nil => exact fun s _ => ⟨[], by simp, .nil⟩
  | cons i l ih =>
    intro s ok
    let g : GAcc := { mkLoad (.task h e) s (tgt i) (va i) 8 false 0 .record with id := s.nextId, since := s.stamp }
    have one : s.pushRecord (.task h e) (va i, 8, 0, tgt i) = { s with gaccs := s.gaccs ++ [g], nextId := s.nextId + 1 } := by
      unfold State.pushRecord
      rw [touchTlb_hit (a := .load) (by decide) (ok i List.mem_cons_self)]
      rfl
    obtain ⟨gs, all, each⟩ := ih { s with gaccs := s.gaccs ++ [g], nextId := s.nextId + 1 } fun j hj => ok j (List.mem_cons_of_mem _ hj)
    refine ⟨g :: gs, ?_, .cons ⟨rfl, rfl, rfl, rfl, rfl, rfl, rfl⟩ each⟩
    rw [List.map_cons, List.foldl_cons, one, all, List.length_cons]
    simp [Nat.add_comm, Nat.add_left_comm]

/-- A record of which nothing has been asked for or has come is loaded, a doubleword at a time (R250, R275). -/
theorem recLoad_loads {s : State} {h : Nat} {e : Eng} {a : Nat} {tgt : Nat → Target} {leaf : Nat → BitVec 64} (al : a % 64 = 0) (free : NotHeld s (.task h e) true a 64)
    (empty : s.recBytes (Who.task h e).owner (Who.task h e).path = [])
    (unasked : ∀ g ∈ s.gaccs, g.owner = (Who.task h e).owner → g.path = (Who.task h e).path → g.dest ≠ .record)
    (ok : ∀ i, i < 8 → Translates s (.task h e) (a + 8 * i) .load false (tgt i) (leaf i)) (k : List Byte → State → Out) :
    ∃ gs, recLoad (.task h e) h a 64 s k = .next { s with gaccs := s.gaccs ++ gs, nextId := s.nextId + 8 } ∧
      List.Forall₂ (fun i g => RecordUnit (.task h e) (a + 8 * i) (tgt i) g) (List.range 8) gs := by
  have within_ : ∀ i ∈ List.range 8, Translates s (.task h e) (a + 8 * i) .load false (tgt i) (leaf i) := fun i hi => ok i (List.mem_range.mp hi)
  obtain ⟨gs, loads, each⟩ := foldl_pushRecord (List.range 8) s within_
  refine ⟨gs, ?_, each⟩
  have missing : (readUnits 1 [(a, 64)]).filter (fun u => (allBytes (s.recBytes (Who.task h e).owner (Who.task h e).path) u.1 u.2).isNone) =
      (List.range 8).map (fun i => (a + 8 * i, 8)) := by
    rw [readUnits_record al, empty]
    exact List.filter_eq_self.mpr fun u hu => by
      obtain ⟨i, -, rfl⟩ := List.mem_map.mp hu
      rfl
  have out : ∀ v, (s.gaccs.any fun g => decide (g.owner = (Who.task h e).owner) && decide (g.path = (Who.task h e).path) && decide (g.dest = .record) && decide (g.va = v)) = false :=
    fun v => List.any_eq_false.mpr fun g hg => by
      simp only [Bool.and_eq_true, decide_eq_true_eq, not_and]
      exact fun ⟨⟨own, path⟩, rec⟩ => absurd rec (unasked g hg own path)
  rw [recLoad, heldOp_of free]
  have units : ((List.range 8).map (fun i => (a + 8 * i, 8)) : List (Nat × Nat)) = (a, 8) :: (List.range 7).map (fun i => (a + 8 * (i + 1), 8)) := rfl
  simp only [missing]
  rw [units]
  dsimp only
  rw [← units]
  simp only [out, Bool.not_false, List.filter_true, List.map_map, Function.comp_def]
  rw [targetsOf_of _ within_]
  exact congrArg Host.Outcome.next loads

/-! ## CCOMM (R364 to R366) -/

theorem collKept_of {h : Nat} {s u : State} {m n : FMap Nat} (res : u.res h = { s.res h with ccomms := m, cstarts := n }) (mem : u.mem = s.mem)
    (tiles : u.tiles = s.tiles) (svs : u.svs = s.svs) (gaccs : u.gaccs = s.gaccs) : CollKept h s u :=
  ⟨by rw [res], mem, tiles, svs, gaccs⟩

theorem ccommOk_iff (bs : List Byte) : ccommOk bs = true ↔ recNat bs 8 1 ≤ 3 ∧ 1 ≤ recNat bs 9 1 ∧ recNat bs 9 1 ≤ 16 ∧ recNat bs 10 1 ≤ 4 ∧ recNat bs 11 1 ≤ 1 ∧
    recNat bs 12 4 ≠ 0 ∧ recNat bs 16 48 = 0 := by
  simp [ccommOk, within, and_assoc]

/-- An engine has a free member, and staging for the one a record asks for (R364, R366). -/
def CommRoom (s : State) (q : Nat) (bs : List Byte) : Prop :=
  (∃ i, i < 256 ∧ (s.comm (256 * q + i)).live = false) ∧
  ((s.commsOf q).map (fun y => 8 * y.slots * y.chunkBytes)).sum + 8 * recNat bs 9 1 * (4096 * 2 ^ recNat bs 10 1) ≤ 64 * 2 ^ 20

/-- The member that a record and a rank make, with its handle and its place among those of its cohort and rank (R365). -/
def Comm.formed (r : Resident) (h : Nat) (bs : List Byte) (rank size : Nat) (pkgs : FMap (BitVec 10)) (handle : Word) (ord : Nat) : Comm :=
  { Comm.start with
    live := true, handle := handle, asid := r.asid, cohort := BitVec.ofNat 64 (recNat bs 0 8), ordinal := ord, rank := rank, size := size,
    cls := BitVec.ofNat 2 (recNat bs 8 1), slots := recNat bs 9 1, chunkBytes := 4096 * 2 ^ recNat bs 10 1, bounded := decide (recNat bs 11 1 = 1),
    timeout := BitVec.ofNat 32 (recNat bs 12 4), pkgs := pkgs, ident := r.ident, startBy := .task h }

section
variable (s : State) (h : Nat) (bs : List Byte) (rank size : Nat) (pkgs : FMap (BitVec 10))

theorem ccommForm_full (full : ¬ CommRoom s (hTile h / 72) bs) : s.ccommForm h bs rank size pkgs = (s, 0) := by
  unfold State.ccommForm
  dsimp only
  split
  · rfl
  · next i found =>
    obtain ⟨free, -, -⟩ := List.find?_range_eq_some.mp found
    refine if_pos (Nat.lt_of_not_le fun le => full ⟨⟨i, ?_, by simpa using free⟩, ?_⟩)
    · exact List.mem_range.mp (List.mem_of_find?_eq_some found)
    · rw [List.sum_eq_foldl]
      exact le

theorem ccommForm_formed (room : CommRoom s (hTile h / 72) bs) : ∃ i handle ord u, i < 256 ∧ (s.comm (256 * (hTile h / 72) + i)).live = false ∧
    s.ccommForm h bs rank size pkgs = (u, handle) ∧ CollKept h s u ∧
    u.comms = fput s.comms (256 * (hTile h / 72) + i) (Comm.formed (s.res h) h bs rank size pkgs handle ord) := by
  obtain ⟨⟨j, hj, vacant⟩, le⟩ := room
  rw [List.sum_eq_foldl] at le
  cases found : (List.range 256).find? (fun i => !(s.comm (256 * (hTile h / 72) + i)).live) with
  | none =>
    have taken := List.find?_range_eq_none.mp found j hj
    rw [vacant] at taken
    exact absurd taken (by decide)
  | some i =>
    have free := List.find?_some found
    have form : ∃ handle ord u, s.ccommForm h bs rank size pkgs = (u, handle) ∧ CollKept h s u ∧
        u.comms = fput s.comms (256 * (hTile h / 72) + i) (Comm.formed (s.res h) h bs rank size pkgs handle ord) := by
      unfold State.ccommForm
      dsimp only
      rw [found]
      dsimp only
      rw [if_neg (Nat.not_lt.mpr le)]
      exact ⟨_, _, _, rfl, collKept_of (State.res_setRes _ h _) rfl rfl rfl rfl, rfl⟩
    obtain ⟨handle, ord, u, form⟩ := form
    exact ⟨i, handle, ord, u, List.mem_range.mp (List.mem_of_find?_eq_some found), by simpa using free, form⟩

end

theorem comm_fput {s t : State} {k : Nat} {y : Comm} (eq : t.comms = fput s.comms k y) : t.comm k = y ∧ ∀ j, j ≠ k → t.comm j = s.comm j := by
  unfold State.comm
  rw [eq]
  exact ⟨fget_fput_same .., fun j n => fget_fput_other _ _ _ n⟩

section
variable {s : State} {h : Nat} {e : Eng} {x : BitVec 6} {bs : List Byte} (turn : s.who = some (.task h e))
  (settled : ∀ g ∈ s.gaccs, g.owner = .task h → g.path = (Who.task h e).path → g.isStore = true → g.failed ≠ none)
  (al : (s.lreg (.task h e) x.toNat).toNat % 64 = 0) (here : RecordHere s (.task h e) (s.lreg (.task h e) x.toNat).toNat 64 bs)
include turn settled al here

theorem exec_ccomm_malformed (bad : ccommOk bs = false) : exec (.ccomm x) s = .next (s.stateUse (.task h e)) := by
  rw [exec_ccomm, execCcomm, collRec_aligned turn settled al, recLoad_here here]
  exact if_pos (by rw [bad]; rfl)

variable (first : ∀ t, (s.res h).task = some t → t.replayed = false) (good : ccommOk bs = true)
include first good

/-- CCOMM by a member of a cohort of this package. -/
theorem exec_ccomm_member {k rank : Nat} (pkg : hdlPkg (BitVec.ofNat 64 (recNat bs 0 8)) = s.pkgId) (known : s.cohortOf (BitVec.ofNat 64 (recNat bs 0 8)) = some k)
    (member : s.rankIn k (s.res h) = some rank) : exec (.ccomm x) s =
      .next (collResult (.task h e) x (s.ccommForm h bs rank (s.cohort k).size []).2 (s.ccommForm h bs rank (s.cohort k).size []).1) := by
  rw [exec_ccomm, execCcomm, collRec_aligned turn settled al, recLoad_here here]
  rw [← rankOf_memberOf s k h false] at member
  cases task : (s.res h).task with
  | none => simp [good, task, pkg, known, member]
  | some t => simp [good, task, first t task, pkg, known, member]

theorem exec_ccomm_stranger (pkg : hdlPkg (BitVec.ofNat 64 (recNat bs 0 8)) = s.pkgId)
    (stranger : s.cohortOf (BitVec.ofNat 64 (recNat bs 0 8)) = none ∨ ∃ k, s.cohortOf (BitVec.ofNat 64 (recNat bs 0 8)) = some k ∧ s.rankIn k (s.res h) = none) :
    exec (.ccomm x) s = .next (s.stateUse (.task h e)) := by
  rw [exec_ccomm, execCcomm, collRec_aligned turn settled al, recLoad_here here]
  rcases stranger with unknown | ⟨k, known, no⟩
  · cases task : (s.res h).task with
    | none => simp [good, task, pkg, unknown]
    | some t => simp [good, task, first t task, pkg, unknown]
  · rw [← rankOf_memberOf s k h false] at no
    cases task : (s.res h).task with
    | none => simp [good, task, pkg, known, no]
    | some t => simp [good, task, first t task, pkg, known, no]

/-- CCOMM asks another package for its cohort (R365). -/
theorem exec_ccomm_asks (far : hdlPkg (BitVec.ofNat 64 (recNat bs 0 8)) ≠ s.pkgId) (unasked : s.cohortAsk (.task h e) (BitVec.ofNat 64 (recNat bs 0 8)) = none) :
    exec (.ccomm x) s = .next (s.remoteCohort (.task h e) 0 (BitVec.ofNat 64 (recNat bs 0 8)) (.cohortInfo (BitVec.ofNat 64 (recNat bs 0 8)))) := by
  rw [exec_ccomm, execCcomm, collRec_aligned turn settled al, recLoad_here here]
  cases task : (s.res h).task with
  | none => simp [good, task, far, unasked]
  | some t => simp [good, task, first t task, far, unasked]

end

/-- The question about a cohort leaves the program where it was (R349, R365). -/
theorem remoteCohort_of (s : State) (w : Who) (hd : Word) : let t := s.remoteCohort w 0 hd (.cohortInfo hd)
    ∃ q o, t.pcOf w = s.pcOf w ∧ t.requests = s.requests ++ [q] ∧ t.routs = s.routs ++ [o] ∧ o.req = q ∧ q.op = .cohort 0 hd ∧ o.peer = hdlPkg hd ∧
      o.dest = .cohortInfo hd ∧ t.comms = s.comms ∧ t.mem = s.mem := by
  let me := match w with | .task h _ => (s.res h).identity | .sv _ => 0
  let pkg := s.ownerPkg (cohortTarget hd)
  let q := s.reqOf w.owner pkg (if (cohortTarget hd).aper = 2 then 7 else s.classOfWho w) (cohortTarget hd).pa (.cohort 0 hd) me 0 none 3
  let o := s.routOf w.owner w.path pkg (.cohortInfo hd) 0 (cohortTarget hd) (s.pcOf w) q .free
  have asked : s.remoteCohort w 0 hd (.cohortInfo hd) = (s.noteReq w.owner pkg q).queueRemote q o := rfl
  have place : ∀ u : State, (u.queueRemote q o).pcOf w = u.pcOf w := fun u => by
    match w with
    | .sv c | .task h .s | .task h .v | .task h .m | .task h .c => rfl
  intro t
  refine ⟨q, o, ?_⟩
  rcases noteReq_unnumbered s w.owner pkg (q := q) rfl with same | acked
  · have made : t = s.queueRemote q o := asked.trans (by rw [same])
    rw [made, place]
    exact ⟨rfl, rfl, rfl, rfl, rfl, rfl, rfl, rfl, rfl⟩
  · have made : t = (s.setSeqFor w.owner pkg (s.seqFor w.owner pkg).acked).queueRemote q o := asked.trans (by rw [acked])
    rw [made, place, pcOf_setSeqFor, setSeqFor_rest]
    exact ⟨rfl, rfl, rfl, rfl, rfl, rfl, rfl, rfl, rfl⟩

/-! ## CSTART (R263, R271) -/

theorem cstartOk_iff (bs : List Byte) : cstartOk bs = true ↔ recNat bs 8 8 % 8 = 0 ∧ 1 ≤ recNat bs 16 4 ∧ recNat bs 16 4 ≤ 65536 ∧ recNat bs 20 4 = 0 ∧ recNat bs 48 16 = 0 := by
  simp [cstartOk, within, and_assoc]

theorem Comm.busy_iff (y : Comm) : y.busy = true ↔ y.run = .running ∨ ∃ z, y.run = .stopped z := by
  unfold Comm.busy
  cases y.run <;> simp

theorem Comm.idle_iff (y : Comm) : y.busy = false ↔ y.run = .idle ∨ y.run = .completed := by
  unfold Comm.busy
  cases y.run <;> simp

/-- A task that is not replayed has made none of its starts before (R365). -/
theorem Comm.restarted_first (y : Comm) {r : Resident} (first : ∀ t, r.task = some t → t.replayed = false) : y.restarted r = false := by
  unfold Comm.restarted
  cases task : r.task with
  | none => simp
  | some t => simp [first t task]

/-- Messages about credits and the windows of member c have moved: nothing else of the machine differs (R371). -/
structure WindowsMoved (c : Nat) (s t : State) : Prop where
  rest : t = { s with comms := t.comms, creditMsgs := t.creditMsgs, ports := t.ports, transports := t.transports }
  own : t.comm c = { s.comm c with windows := (t.comm c).windows, refusals := (t.comm c).refusals }
  others : ∀ j, j ≠ c → t.comm j = s.comm j

theorem WindowsMoved.refl (c : Nat) (s : State) : WindowsMoved c s s := ⟨rfl, rfl, fun _ _ => rfl⟩

theorem WindowsMoved.trans {c : Nat} {s t u : State} (a : WindowsMoved c s t) (b : WindowsMoved c t u) : WindowsMoved c s u :=
  ⟨by rw [b.rest, a.rest], by rw [b.own, a.own], fun j n => (b.others j n).trans (a.others j n)⟩

theorem windowsMoved_setComm (s : State) {c : Nat} {y : Comm} (eq : y = { s.comm c with windows := y.windows, refusals := y.refusals }) : WindowsMoved c s (s.setComm c y) := by
  obtain ⟨own, others⟩ := comm_fput (s := s) (t := s.setComm c y) (k := c) (y := y) rfl
  exact ⟨rfl, by rw [own]; exact eq, others⟩

theorem windowsMoved_tell (s : State) (c : Nat) (y : Comm) (rank : Nat) (m : Nat → Nat → CreditMsg) : WindowsMoved c s (s.tell y rank m) := by
  unfold State.tell State.sendCredit
  split
  · exact ⟨rfl, rfl, fun _ _ => rfl⟩
  · have sent := (sendPacket_of s (s.pkgOf y rank) (.credit (m (y.key rank) y.rank) y.cls)).1
    have comms : ∀ j, (s.sendPacket (s.pkgOf y rank) (.credit (m (y.key rank) y.rank) y.cls)).comm j = s.comm j := fun j => by rw [sent]; rfl
    exact ⟨by rw [sent], by rw [comms], fun j _ => comms j⟩

theorem windowsMoved_bindWaiting (c n : Nat) : ∀ s : State, WindowsMoved c s (State.bindWaiting c n s) := by
  induction n with
  | zero => exact .refl c
  | succ n ih =>
    intro s
    unfold State.bindWaiting
    dsimp only
    split
    · exact .refl c s
    · split
      · exact .refl c s
      · exact ((windowsMoved_setComm s (y := { s.comm c with windows := _, refusals := _ }) rfl).trans (windowsMoved_tell ..)).trans (ih _)

theorem windowsMoved_release (s : State) (c sender : Nat) : WindowsMoved c s (s.release c sender) :=
  have vacated : WindowsMoved c s (s.setComm c { s.comm c with windows := (s.comm c).windows.filter (fun w => w.sender != sender) }) := windowsMoved_setComm s rfl
  (vacated.trans (windowsMoved_tell ..)).trans (windowsMoved_bindWaiting c 8 _)

theorem windowsMoved_releases (c : Nat) (l : List Nat) : ∀ s : State, WindowsMoved c s (l.foldl (fun s r => s.release c r) s) := by
  induction l with
  | nil => exact .refl c
  | cons r l ih => exact fun s => (windowsMoved_release s c r).trans (ih _)

/-- The counts that a start captures, by the descriptors' places (R263). -/
def State.countsCaptured (s : State) (ds : List (BitVec 256)) : FMap Word :=
  (List.range ds.length).filterMap (fun i => if dKind (ds.getD i 0) = 1 then some (i, s.eventCount (dBase (ds.getD i 0))) else none)

theorem fget_filterMap_keyed {α : Type} (d : α) (p : Nat → Prop) [DecidablePred p] (f : Nat → α) {j : Nat} (hp : p j) :
    ∀ l : List Nat, j ∈ l → fget d (l.filterMap (fun i => if p i then some (i, f i) else none)) j = f j := by
  intro l
  induction l with
  | nil => exact fun m => absurd m List.not_mem_nil
  | cons i l ih =>
    intro m
    by_cases same : i = j
    · subst same
      simp [hp, fget]
    · have later := ih ((List.mem_cons.mp m).resolve_left (Ne.symm same))
      by_cases hi : p i
      · simpa [hi, fget, same] using later
      · simpa [hi] using later

theorem State.countsCaptured_named (s : State) {ds : List (BitVec 256)} {j : Nat} (hj : j < ds.length) (ev : dKind (ds.getD j 0) = 1) :
    fget 0 (s.countsCaptured ds) j = s.eventCount (dBase (ds.getD j 0)) :=
  fget_filterMap_keyed 0 (fun i => dKind (ds.getD i 0) = 1) (fun i => s.eventCount (dBase (ds.getD i 0))) ev _ (List.mem_range.mpr hj)

/-- What a start leaves: the member's program begun, its windows aside (R263, R363, R371). -/
theorem startComm_of (s : State) (c : Nat) (ident : BitVec 84) (by_ : Owner) (bs : List Byte) (prog : List (BitVec 64)) (ds : List (BitVec 256)) :
    let t := s.startComm c ident by_ bs prog ds
    t = { s with comms := t.comms, creditMsgs := t.creditMsgs, ports := t.ports, transports := t.transports, afterglow := t.afterglow } ∧
    (∃ stamp incs, t.comm c = { (s.comm c).begin ident by_ bs prog ds (s.countsCaptured ds) stamp incs with windows := (t.comm c).windows, refusals := (t.comm c).refusals }) ∧
    ∀ j, j ≠ c → t.comm j = s.comm j := by
  let u := s.freeChunkEntries c (((s.comm c).stale ((s.comm c).runs + 1)).map (fun ch => (ch.src, ch.serial)))
  obtain ⟨l, freed⟩ : ∃ l, u = { s with afterglow := l } := ⟨_, freeChunkEntries_frame ..⟩
  have comms : ∀ j, u.comm j = s.comm j := fun j => by rw [freed]; rfl
  let y := (u.comm c).begin ident by_ bs prog ds (s.countsCaptured ds) u.stamp (u.replayIncs by_)
  have moved : WindowsMoved c (u.setComm c y) (s.startComm c ident by_ bs prog ds) := windowsMoved_releases c _ (u.setComm c y)
  have glow : (s.startComm c ident by_ bs prog ds).afterglow = l := (congrArg State.afterglow moved.rest).trans (congrArg State.afterglow freed)
  obtain ⟨own, others⟩ := comm_fput (s := u) (t := u.setComm c y) (k := c) (y := y) rfl
  refine ⟨moved.rest.trans ?_, ⟨u.stamp, u.replayIncs by_, ?_⟩, fun j n => (moved.others j n).trans ((others j n).trans (comms j))⟩
  · rw [glow]
    exact congrArg (fun u : State => ({ u with comms := _, creditMsgs := _, ports := _, transports := _ } : State)) freed
  · have begun := moved.own
    rw [own] at begun
    rw [← comms c]
    exact begun

/-- Counts of this package's events are all at hand. -/
theorem withCounts_here {s : State} {w : Who} {hds : List Word} (here : ∀ hd ∈ hds, hdlPkg hd = s.pkgId) (k : State → Out) : withCounts w hds s k = k s := by
  have none_ : hds.filter (fun hd => decide (hdlPkg hd ≠ s.pkgId)) = [] := List.filter_eq_nil_iff.mpr fun hd m => by simp [here hd m]
  unfold withCounts State.countsOf
  dsimp only
  rw [none_]
  rfl

/-- The resident counts its start of a member (R365). -/
def State.countStart (s : State) (h : Nat) (m : Comm) : State :=
  s.modRes h (fun r => { r with cstarts := fput r.cstarts m.handle.toNat (fget 0 r.cstarts m.handle.toNat + 1) })

theorem collKept_startComm (s : State) (h c : Nat) (ident : BitVec 84) (by_ : Owner) (bs : List Byte) (prog : List (BitVec 64)) (ds : List (BitVec 256)) :
    CollKept h s (s.startComm c ident by_ bs prog ds) := by
  obtain ⟨rest, -, -⟩ := startComm_of s c ident by_ bs prog ds
  rw [rest]
  exact ⟨rfl, rfl, rfl, rfl, rfl⟩

theorem collKept_countStart (s : State) (h : Nat) (m : Comm) : CollKept h s (s.countStart h m) := collKept_of (State.res_setRes _ h _) rfl rfl rfl rfl

theorem comm_countStart (s : State) (h : Nat) (m : Comm) (j : Nat) : (s.countStart h m).comm j = s.comm j := rfl

section
variable {s : State} {h : Nat} {e : Eng} {x : BitVec 6} {bs : List Byte} (turn : s.who = some (.task h e))
  (settled : ∀ g ∈ s.gaccs, g.owner = .task h → g.path = (Who.task h e).path → g.isStore = true → g.failed ≠ none)
include turn settled

section
variable (al : (s.lreg (.task h e) x.toNat).toNat % 64 = 0) (here : RecordHere s (.task h e) (s.lreg (.task h e) x.toNat).toNat 64 bs)
include al here

theorem exec_cstart_malformed (bad : cstartOk bs = false) : exec (.cstart x) s = .next (s.stateUse (.task h e)) := by
  rw [exec_cstart, execCstart, collRec_aligned turn settled al, recLoad_here here]
  exact if_pos (by rw [bad]; rfl)

variable (good : cstartOk bs = true)
include good

theorem exec_cstart_dead (dead : s.commOf (BitVec.ofNat 64 (recNat bs 0 8)) = none) : exec (.cstart x) s = .next (collResult (.task h e) x 2 s) := by
  rw [exec_cstart, execCstart, collRec_aligned turn settled al, recLoad_here here]
  simp [good, dead]

variable (first : ∀ t, (s.res h).task = some t → t.replayed = false) {c : Nat} (live : s.commOf (BitVec.ofNat 64 (recNat bs 0 8)) = some c)
include first live

theorem exec_cstart_busy (busy : (s.comm c).busy = true) : exec (.cstart x) s = .next (collResult (.task h e) x 1 s) := by
  rw [exec_cstart, execCstart, collRec_aligned turn settled al, recLoad_here here]
  simp [good, live, busy, Comm.restarted_first _ first]

variable {pb db : List Byte} (idle : (s.comm c).busy = false) (progHere : RecordHere s (.task h e) (recNat bs 8 8) (8 * recNat bs 16 4) pb)
  (descsHere : RecordHere s (.task h e) (recNat bs 24 8) (32 * descCount ((cutWords 8 pb).map (BitVec.ofNat 64))) db)
include idle progHere descsHere

theorem exec_cstart_ill (ill : s.programOk ((cutWords 8 pb).map (BitVec.ofNat 64)) ((cutWords 32 db).map (BitVec.ofNat 256)) = false) :
    exec (.cstart x) s = .next (s.stateUse (.task h e)) := by
  rw [exec_cstart, execCstart, collRec_aligned turn settled al, recLoad_here here]
  simp [good, live, idle, Comm.restarted_first _ first, recLoad_here progHere, recLoad_here descsHere, ill]

theorem exec_cstart_starts (well : s.programOk ((cutWords 8 pb).map (BitVec.ofNat 64)) ((cutWords 32 db).map (BitVec.ofNat 256)) = true)
    (near : ∀ d ∈ (cutWords 32 db).map (BitVec.ofNat 256), dKind d = 1 → hdlPkg (dBase d) = s.pkgId) :
    exec (.cstart x) s = .next (collResult (.task h e) x 0 ((s.startComm c (s.res h).ident (.task h) bs ((cutWords 8 pb).map (BitVec.ofNat 64))
      ((cutWords 32 db).map (BitVec.ofNat 256))).countStart h (s.comm c))) := by
  have events : ∀ hd ∈ descEvents ((cutWords 32 db).map (BitVec.ofNat 256)), hdlPkg hd = s.pkgId := fun hd m => by
    obtain ⟨d, hd_, named⟩ := List.mem_filterMap.mp m
    split at named
    · next ev => exact Option.some.inj named ▸ near d hd_ ev
    · cases named
  rw [exec_cstart, execCstart, collRec_aligned turn settled al, recLoad_here here]
  simp [good, live, idle, Comm.restarted_first _ first, recLoad_here progHere, recLoad_here descsHere, well, withCounts_here events, State.countStart]

end

/-! ## CFREE (R271) -/

theorem exec_cfree_dead (dead : s.commOf (s.lreg (.task h e) x.toNat) = none) : exec (.cfree x) s = .next (collResult (.task h e) x 2 s) := by
  rw [exec_cfree, execCfree, collOp_of turn settled]
  simp [dead]

theorem exec_cfree_busy {c : Nat} (live : s.commOf (s.lreg (.task h e) x.toNat) = some c) (busy : (s.comm c).busy = true) :
    exec (.cfree x) s = .next (collResult (.task h e) x 1 s) := by
  rw [exec_cfree, execCfree, collOp_of turn settled]
  simp [live, busy]

theorem exec_cfree_frees {c : Nat} (live : s.commOf (s.lreg (.task h e) x.toNat) = some c) (idle : (s.comm c).busy = false) :
    ∃ l, exec (.cfree x) s = .next (collResult (.task h e) x 0 (({ s with afterglow := l } : State).setComm c Comm.start)) := by
  rw [exec_cfree, execCfree, collOp_of turn settled]
  simp only [live, idle, Bool.false_eq_true, if_false]
  rw [freeChunkEntries_frame]
  exact ⟨_, rfl⟩

end

/-! ## The obligation's clauses -/

section
variable {s : State} {h : Nat} {e : Eng} {x : BitVec 6} {v : Word} {i : Instr}

theorem completes_collResult (ex : exec i s = .next (collResult (.task h e) x v s)) : Completes i s (fun t => CollReturns h e x v s t ∧ t.comms = s.comms) :=
  ⟨_, ex, collResult_returns (.refl h s) e x v, comms_collResult ..⟩

theorem comm_collResult (w : Who) (x : BitVec 6) (v : Word) (u : State) (j : Nat) : (collResult w x v u).comm j = u.comm j := by
  unfold State.comm
  rw [comms_collResult]

/-- A load of eight doublewords of a record of which nothing has come: the program stays where it was. -/
theorem completes_recLoad {a : Nat} {tgt : Nat → Target} {leaf : Nat → BitVec 64} {k : List Byte → State → Out} (ex : exec i s = recLoad (.task h e) h a 64 s k)
    (al : a % 64 = 0) (free : NotHeld s (.task h e) true a 64) (empty : s.recBytes (Who.task h e).owner (Who.task h e).path = [])
    (unasked : ∀ g ∈ s.gaccs, g.owner = (Who.task h e).owner → g.path = (Who.task h e).path → g.dest ≠ .record)
    (ok : ∀ i, i < 8 → Translates s (.task h e) (a + 8 * i) .load false (tgt i) (leaf i)) :
    Completes i s (fun t => ∃ gs, t.gaccs = s.gaccs ++ gs ∧ gs.length = 8 ∧ t.pcOf (.task h e) = s.pcOf (.task h e) ∧ t.mem = s.mem ∧ t.comms = s.comms ∧
      ∀ j, j < 8 → ∃ g, gs[j]? = some g ∧ g.isStore = false ∧ g.va = a + 8 * j ∧ g.n = 8 ∧ g.tgt = tgt j ∧ g.dest = .record ∧ g.owner = (Who.task h e).owner ∧
        g.path = (Who.task h e).path) := by
  obtain ⟨gs, load, each⟩ := recLoad_loads al free empty unasked ok k
  obtain ⟨len, units⟩ := List.forall₂_iff_get.mp each
  rw [List.length_range] at len
  refine ⟨_, ex.trans load, gs, rfl, len.symm, by cases e <;> rfl, rfl, rfl, fun j hj => ⟨gs[j], List.getElem?_eq_getElem _, ?_⟩⟩
  obtain ⟨isStore, va, n, target, dest, owner, path⟩ := units j (by simpa using hj) (by omega)
  simp only [List.get_eq_getElem, List.getElem_range] at isStore va n target dest owner path
  exact ⟨isStore, va, n, target, dest, owner, path⟩

end

end Sys2Proof.Machine

open Sys2Proof Sys2Proof.Machine

/-- Settles O28: a COLL function whose record has come reads it and answers by its checks, and the communicator it forms or starts is read off the place it wrote. -/
theorem collectiveFunctions : Obligations.CollectiveFunctions := by
  intro s h e x k rank c bs pb db tgt leaf w a prog ds returns f cohort handle place staging held room first turn settled
  refine ⟨fun al here once => ?_, fun al here once => ?_, fun odd => ⟨collRec_misaligned turn settled odd .., collRec_misaligned turn settled odd ..⟩,
    fun al free empty unasked ok i mem => ?_, fun live => ⟨fun run => ?_, fun run => ?_⟩, fun dead => completes_collResult (exec_cfree_dead turn settled dead)⟩
  · intro good
    refine ⟨fun ok pkg known member => ⟨fun space => ?_, fun full => ?_⟩, fun bad => ?_, fun ok far unasked => ?_⟩
    · obtain ⟨i, hd, ord, u, hi, vacant, form, kept, comms⟩ := ccommForm_formed s h bs rank (s.cohort k).size [] space
      obtain ⟨own, others⟩ := comm_fput comms
      refine ⟨_, exec_ccomm_member turn settled al here once ((ccommOk_iff bs).mpr ok) pkg known member, i, hd, ?_⟩
      rw [form]
      refine ⟨collResult_returns kept e x hd, hi, vacant, ?_, fun j ne => (comm_collResult ..).trans (others j ne)⟩
      dsimp only
      rw [comm_collResult, own]
      exact ⟨rfl, rfl, rfl, rfl, rfl, rfl, rfl, rfl, rfl, decide_eq_true_iff, rfl, rfl, rfl, rfl, rfl⟩
    · refine completes_collResult ((exec_ccomm_member turn settled al here once ((ccommOk_iff bs).mpr ok) pkg known member).trans ?_)
      rw [ccommForm_full _ _ _ _ _ _ full]
    · rcases bad with bad | ⟨pkg, stranger⟩
      · exact exec_ccomm_malformed turn settled al here (Bool.eq_false_iff.mpr fun ok => bad ((ccommOk_iff bs).mp ok))
      · by_cases ok : good
        · exact exec_ccomm_stranger turn settled al here once ((ccommOk_iff bs).mpr ok) pkg (stranger.imp_right fun no => ⟨k, no⟩)
        · exact exec_ccomm_malformed turn settled al here (Bool.eq_false_iff.mpr fun fit => ok ((ccommOk_iff bs).mp fit))
    · obtain ⟨q, o, asked⟩ := remoteCohort_of s w cohort
      exact ⟨_, exec_ccomm_asks turn settled al here once ((ccommOk_iff bs).mpr ok) far unasked, q, o, asked⟩
  · intro good
    refine ⟨fun bad => ?_, fun ok dead => ?_, fun ok live => ⟨fun run => ?_, fun run ph dh => ⟨fun ill => ?_, fun well near => ?_⟩⟩⟩
    · exact exec_cstart_malformed turn settled al here (Bool.eq_false_iff.mpr fun ok => bad ((cstartOk_iff bs).mp ok))
    · exact completes_collResult (exec_cstart_dead turn settled al here ((cstartOk_iff bs).mpr ok) dead)
    · exact completes_collResult (exec_cstart_busy turn settled al here ((cstartOk_iff bs).mpr ok) once live ((Comm.busy_iff _).mpr run))
    · exact exec_cstart_ill turn settled al here ((cstartOk_iff bs).mpr ok) once live ((Comm.idle_iff _).mpr run) ph dh ill
    · obtain ⟨-, ⟨stamp, incs, begun⟩, others⟩ := startComm_of s c (s.res h).ident (.task h) bs prog ds
      refine ⟨_, exec_cstart_starts turn settled al here ((cstartOk_iff bs).mpr ok) once live ((Comm.idle_iff _).mpr run) ph dh well near,
        collResult_returns ((collKept_startComm ..).trans (collKept_countStart ..)) e x 0, ?_, fun j ne => (comm_collResult ..).trans (others j ne)⟩
      dsimp only
      rw [comm_collResult, comm_countStart, begun]
      exact ⟨rfl, rfl, rfl, rfl, rfl, rfl, rfl, rfl, rfl, rfl, rfl, rfl, rfl, rfl, fun j => s.countsCaptured_named⟩
  · obtain rfl | rfl : i = .ccomm x ∨ i = .cstart x := by simpa using mem
    · exact completes_recLoad (collRec_aligned turn settled al ..) al free empty unasked ok
    · exact completes_recLoad (collRec_aligned turn settled al ..) al free empty unasked ok
  · obtain ⟨l, ex⟩ := exec_cfree_frees turn settled live ((Comm.idle_iff _).mpr run)
    obtain ⟨own, others⟩ := comm_fput (s := s) (t := ({ s with afterglow := l } : State).setComm c Comm.start) (k := c) (y := Comm.start) rfl
    exact ⟨_, ex, collResult_returns ⟨rfl, rfl, rfl, rfl, rfl⟩ e x 0, (comm_collResult ..).trans own, fun j ne => (comm_collResult ..).trans (others j ne)⟩
  · exact completes_collResult (exec_cfree_busy turn settled live ((Comm.busy_iff _).mpr run))
end

section
/-!
The copy engine's transfers: the checks when one begins (R228, R230, R231), its channel, its granule accesses (R232, R283), and its end.
-/

namespace Sys2Proof.Machine
open Sys2Proof

/-! ## Channels -/

theorem chan_setChan_same (s : State) (t o : Nat) (c : Chan) : (s.setChan t o c).chan t o = c := by
  rw [State.setChan_eq, State.chan, State.tile_setTile]
  exact fget_fput_same ..

theorem chan_setChan_other (s : State) (t : Nat) {o j : Nat} (c : Chan) (ne : j ≠ o) : (s.setChan t o c).chan t j = s.chan t j := by
  rw [State.setChan_eq, State.chan, State.tile_setTile]
  exact fget_fput_other _ _ _ ne

/-- A channel's write leaves all but the tile's channels. -/
theorem tile_setChan (s : State) (t o : Nat) (c : Chan) (j : Nat) :
    (s.setChan t o c).tile j = if j = t then { s.tile j with chans := ((s.setChan t o c).tile j).chans } else s.tile j := by
  rw [State.setChan_eq]
  split
  · next same =>
    subst same
    rw [State.tile_setTile]
  · next ne => exact State.tile_setTile_other s _ ne

theorem Chan.armed_iff (c : Chan) : c.armed = true ↔ c.base.toNat ≤ c.wm.toNat ∧ c.wm.toNat < c.limit.toNat := by
  simp [Chan.armed]

/-! ## The checks of a transfer (R228, R230, R231) -/

/-- A range lies in the window, or has start and end below 2^56 (R228). -/
def RangeOk (r : Resident) (spad : BitVec 1) (at_ len : Nat) : Prop := if spad = 1 then at_ + len ≤ r.spSize else at_ + len < 2 ^ 56

/-- A resident's transfer through channel ch of total bytes to a place fits the channel (R16, R231). -/
def ChannelFits (s : State) (h ch : Nat) (td : BitVec 1) (opd total : Nat) : Prop :=
  let c := s.chan (hTile h) ch
  let start := opd + (if td = 1 then (s.res h).spBase else 0)
  (s.res h).chWin.getLsbD ch = true ∧
  (c.base.toNat ≤ c.wm.toNat ∧ c.wm.toNat < c.limit.toNat → (c.space = true ↔ td = 1) ∧ start = c.wm.toNat ∧ start + total ≤ c.limit.toNat)

theorem within_iff (x lo hi : Nat) : within x lo hi = true ↔ lo ≤ x ∧ x ≤ hi := by simp [within]

theorem Xfer.chanOk_some (s : State) (h : Nat) {x : Xfer} {o : Nat} (uses : x.ch = some o) : x.chanOk s h = true ↔
    (s.res h).chWin.getLsbD o = true ∧ (x.op = .copy2d → highInt x.opb1 = x.rowLen) ∧
    ((s.chan (hTile h) o).armed = true → (s.chan (hTile h) o).space = x.ds ∧ (x.extent (s.res h)).1 = (s.chan (hTile h) o).wm.toNat ∧
      (x.extent (s.res h)).2 ≤ (s.chan (hTile h) o).limit.toNat) := by
  unfold Xfer.chanOk
  rw [uses]
  simp only [Bool.and_eq_true, Bool.or_eq_true, decide_eq_true_eq, Bool.not_eq_true', ← Bool.not_eq_true, ne_eq, ← imp_iff_not_or, and_assoc, Resident.chanOk]

section
variable (s : State) (h : Nat) (op : XOp) (opc : Nat) (ch : BitVec 4) (d a b : BitVec 5) (e : Nat) (n k t q : BitVec 1)

/-- The range of each row of a fixed side is checked (R228). -/
theorem newXfer_sideOk (r : Resident) (dst : Bool) : (newXfer s h op opc ch d a b e n k t q).sideOk r dst = true ↔
    ((newXfer s h op opc ch d a b e n k t q).fixedSide dst = true →
      ∀ al ∈ (newXfer s h op opc ch d a b e n k t q).rowsOf dst, RangeOk r (if dst then t else q) al.1 al.2) := by
  unfold Xfer.sideOk
  by_cases fixed : (newXfer s h op opc ch d a b e n k t q).fixedSide dst = true
  · rw [if_neg (by rw [fixed]; decide), List.all_eq_true]
    refine ⟨fun all _ al m => ?_, fun all al m => ?_⟩
    · have one := all al m
      cases dst <;> simpa [newXfer, RangeOk, Resident.inWindow, apply_ite] using one
    · have one := all fixed al m
      cases dst <;> simpa [newXfer, RangeOk, Resident.inWindow, apply_ite] using one
  · simp [fixed]

theorem newXfer_chanOk : (newXfer s h op opc ch d a b e n k t q).chanOk s h = true ↔
    (k = 1 → (op = .copy2d → highInt (s.creg h (b + 1)) = ((s.creg h b).extractLsb' 0 32).toNat) ∧
      ChannelFits s h ch.toNat t (s.creg h d).toNat (newXfer s h op opc ch d a b e n k t q).total) := by
  by_cases used : k = 1
  · have space : ((s.chan (hTile h) ch.toNat).space = decide (t = 1)) ↔ ((s.chan (hTile h) ch.toNat).space = true ↔ t = 1) := by
      rw [Bool.eq_iff_iff, decide_eq_true_iff]
    have start : (s.creg h d).toNat + (if decide (t = 1) = true then (s.res h).spBase else 0) = (s.creg h d).toNat + (if t = 1 then (s.res h).spBase else 0) := by simp
    rw [Xfer.chanOk_some s h (if_pos used : (newXfer s h op opc ch d a b e n k t q).ch = some ch.toNat), ChannelFits, ← Chan.armed_iff, ← space, ← start]
    exact ⟨fun ⟨granted, rows, fits⟩ _ => ⟨rows, granted, fits⟩, fun all => ⟨(all used).2.1, (all used).1, (all used).2.2⟩⟩
  · rw [Xfer.chanOk, show (newXfer s h op opc ch d a b e n k t q).ch = none from if_neg used]
    exact ⟨fun _ u => absurd u used, fun _ => rfl⟩

/-- The checks when a transfer begins, on its operands (R228, R231). -/
theorem newXfer_ok {x : Xfer} (new : x = newXfer s h op opc ch d a b e n k t q) :
    x.ok s h = true ↔ x.sizeOk = true ∧ (x.fixedSide true = true → ∀ al ∈ x.rowsOf true, RangeOk (s.res h) t al.1 al.2) ∧
      (x.fixedSide false = true → ∀ al ∈ x.rowsOf false, RangeOk (s.res h) q al.1 al.2) ∧ x.indexOk (s.res h) = true ∧ x.apart = true ∧
      (k = 1 → (op = .copy2d → highInt (s.creg h (b + 1)) = ((s.creg h b).extractLsb' 0 32).toNat) ∧ ChannelFits s h ch.toNat t (s.creg h d).toNat x.total) := by
  subst new
  simp only [Xfer.ok, Bool.and_eq_true, newXfer_sideOk, newXfer_chanOk, and_assoc, if_true, Bool.false_eq_true, if_false]

/-- Sides in one space share no byte (R228). -/
theorem newXfer_apart {x : Xfer} (new : x = newXfer s h op opc ch d a b e n k t q) (two : op = .copy ∨ op = .copy2d) :
    x.apart = true ↔ (t = q → ∀ y ∈ x.rowsOf true, ∀ z ∈ x.rowsOf false, y.1 + y.2 ≤ z.1 ∨ z.1 + z.2 ≤ y.1) := by
  have spaces : x.ds = x.ss ↔ t = q := by
    have bits : ∀ t q : BitVec 1, decide (t = 1) = decide (q = 1) ↔ t = q := by decide
    rw [new]
    exact bits t q
  have apart : x.apart = (decide (x.ds ≠ x.ss) || footApart (x.rowsOf true) (x.rowsOf false)) := by
    rw [new]
    rcases two with rfl | rfl <;> rfl
  rw [apart, Bool.or_eq_true, decide_eq_true_iff, ne_eq, ← imp_iff_not_or, spaces]
  simp [footApart]

end

section
variable (s : State) (h : Nat) (ch : BitVec 4) (d a b : BitVec 5) (e : BitVec 2) (n k t q : BitVec 1)

theorem copy_ok : (newXfer s h .copy 4 ch d a b 0 n k t q).ok s h = true ↔
    (let cd := (s.creg h d).toNat
     let ca := (s.creg h a).toNat
     let cb := (s.creg h b).toNat
     1 ≤ cb ∧ cb ≤ 2 ^ 32 ∧ RangeOk (s.res h) t cd cb ∧ RangeOk (s.res h) q ca cb ∧ (t = q → cd + cb ≤ ca ∨ ca + cb ≤ cd) ∧
       (k = 1 → ChannelFits s h ch.toNat t cd cb)) := by
  rw [newXfer_ok _ _ _ _ _ _ _ _ _ _ _ _ _ rfl, newXfer_apart _ _ _ _ _ _ _ _ _ _ _ _ _ rfl (.inl rfl)]
  simp [Xfer.sizeOk, within_iff, Xfer.fixedSide, Xfer.rowsOf, Xfer.indexOk, Xfer.total, newXfer, and_assoc]

theorem copy2d_ok :
    let len := ((s.creg h b).extractLsb' 0 32).toNat
    let rows := ((s.creg h b).extractLsb' 32 32).toNat
    let dst := fun i : Nat => moved (s.creg h d) (i * highInt (s.creg h (b + 1)))
    let src := fun i : Nat => moved (s.creg h a) (i * lowInt (s.creg h (b + 1)))
    (newXfer s h .copy2d 5 ch d a b 0 n k t q).ok s h = true ↔ 1 ≤ len ∧ len ≤ 2 ^ 24 ∧ 1 ≤ rows ∧ rows ≤ 2 ^ 20 ∧ len * rows ≤ 2 ^ 32 ∧
       (∀ i, i < rows → RangeOk (s.res h) t (dst i) len ∧ RangeOk (s.res h) q (src i) len) ∧
       (t = q → ∀ i j, i < rows → j < rows → dst i + len ≤ src j ∨ src j + len ≤ dst i) ∧
       (k = 1 → highInt (s.creg h (b + 1)) = len) ∧ (k = 1 → ChannelFits s h ch.toNat t (s.creg h d).toNat (len * rows)) := by
  intro len rows dst src
  rw [newXfer_ok _ _ _ _ _ _ _ _ _ _ _ _ _ rfl, newXfer_apart _ _ _ _ _ _ _ _ _ _ _ _ _ rfl (.inr rfl)]
  have size : (newXfer s h .copy2d 5 ch d a b 0 n k t q).sizeOk = true ↔ 1 ≤ len ∧ len ≤ 2 ^ 24 ∧ 1 ≤ rows ∧ rows ≤ 2 ^ 20 ∧ len * rows ≤ 2 ^ 32 := by
    simp [Xfer.sizeOk, within_iff, Xfer.rowLen, Xfer.rowCount, newXfer, and_assoc, len, rows]
  have dstRows : (newXfer s h .copy2d 5 ch d a b 0 n k t q).rowsOf true = (List.range rows).map (fun i => (dst i, len)) := rfl
  have srcRows : (newXfer s h .copy2d 5 ch d a b 0 n k t q).rowsOf false = (List.range rows).map (fun i => (src i, len)) := rfl
  have total : (newXfer s h .copy2d 5 ch d a b 0 n k t q).total = len * rows := rfl
  have fixed : ∀ side, (newXfer s h .copy2d 5 ch d a b 0 n k t q).fixedSide side = true := fun _ => rfl
  have index : (newXfer s h .copy2d 5 ch d a b 0 n k t q).indexOk (s.res h) = true := rfl
  simp only [size, fixed, index, dstRows, srcRows, total, List.forall_mem_map, List.mem_range, true_imp_iff, true_and]
  grind

/-- Bytes of an element by its size code (R230). -/
def elemSize (e : BitVec 2) : Nat := if e = 3 then 512 else if e = 2 then 64 else if e = 1 then 8 else 4

theorem newXfer_esz (op : XOp) (opc : Nat) (ch : BitVec 4) (k : BitVec 1) : (newXfer s h op opc ch d a b e.toNat n k t q).esz = elemSize e := by
  have codes : ∀ e : BitVec 2, (match e.toNat with | 0 => 4 | 1 => 8 | 2 => 64 | _ => 512) = elemSize e := by decide
  exact codes e

/-- The index array of a gather or scatter is aligned, in the window and of a size R230 allows. -/
def IndexFits (r : Resident) (at_ count : Nat) : Prop := at_ % 4 = 0 ∧ at_ + 4 * count ≤ r.spSize ∧ 1 ≤ count ∧ count ≤ 2 ^ 24

theorem Xfer.index_iff {x : Xfer} (r : Resident) (indexed : x.op = .cgath ∨ x.op = .cscat) :
    x.sizeOk = true ∧ x.indexOk r = true ↔ IndexFits r x.opb.toNat x.opb1.toNat := by
  have size : x.sizeOk = within x.count 1 (2 ^ 24) := by rcases indexed with op | op <;> simp only [Xfer.sizeOk, op]
  have index : x.indexOk r = (decide (x.opb.toNat % 4 = 0) && r.inWindow x.opb.toNat (4 * x.count)) := by
    rcases indexed with op | op <;> simp only [Xfer.indexOk, op]
  rw [size, index, within_iff, Bool.and_eq_true, decide_eq_true_iff, Resident.inWindow, decide_eq_true_iff, Xfer.count, IndexFits]
  tauto

theorem cgath_ok : (newXfer s h .cgath 6 ch d a b e.toNat n k t q).ok s h = true ↔
    IndexFits (s.res h) (s.creg h b).toNat (s.creg h (b + 1)).toNat ∧ RangeOk (s.res h) t (s.creg h d).toNat ((s.creg h (b + 1)).toNat * elemSize e) ∧
      (k = 1 → ChannelFits s h ch.toNat t (s.creg h d).toNat ((s.creg h (b + 1)).toNat * elemSize e)) := by
  have index : (newXfer s h .cgath 6 ch d a b e.toNat n k t q).sizeOk = true ∧ _ ↔ IndexFits (s.res h) (s.creg h b).toNat (s.creg h (b + 1)).toNat :=
    Xfer.index_iff (s.res h) (.inl rfl)
  rw [newXfer_ok _ _ _ _ _ _ _ _ _ _ _ _ _ rfl, ← newXfer_esz s h d a b e n t q .cgath 6 ch k, ← index]
  have dst : (newXfer s h .cgath 6 ch d a b e.toNat n k t q).rowsOf true = [(_, _)] := rfl
  have moved : (newXfer s h .cgath 6 ch d a b e.toNat n k t q).fixedSide false = false := rfl
  have free : (newXfer s h .cgath 6 ch d a b e.toNat n k t q).apart = true := rfl
  rw [dst, moved, free, List.forall_mem_singleton]
  exact ⟨fun ⟨size, dest, _, index, _, channel⟩ => ⟨⟨size, index⟩, dest rfl, fun u => (channel u).2⟩,
    fun ⟨⟨size, index⟩, dest, channel⟩ => ⟨size, fun _ => dest, nofun, index, rfl, fun u => ⟨nofun, channel u⟩⟩⟩

theorem cscat_ok : (newXfer s h .cscat 7 0 d a b e.toNat n 0 t q).ok s h = true ↔
    IndexFits (s.res h) (s.creg h b).toNat (s.creg h (b + 1)).toNat ∧ RangeOk (s.res h) q (s.creg h a).toNat ((s.creg h (b + 1)).toNat * elemSize e) := by
  have index : (newXfer s h .cscat 7 0 d a b e.toNat n 0 t q).sizeOk = true ∧ _ ↔ IndexFits (s.res h) (s.creg h b).toNat (s.creg h (b + 1)).toNat :=
    Xfer.index_iff (s.res h) (.inr rfl)
  rw [newXfer_ok _ _ _ _ _ _ _ _ _ _ _ _ _ rfl, ← newXfer_esz s h d a b e n t q .cscat 7 0 0, ← index]
  have src : (newXfer s h .cscat 7 0 d a b e.toNat n 0 t q).rowsOf false = [(_, _)] := rfl
  have moved : (newXfer s h .cscat 7 0 d a b e.toNat n 0 t q).fixedSide true = false := rfl
  have free : (newXfer s h .cscat 7 0 d a b e.toNat n 0 t q).apart = true := rfl
  rw [src, moved, free, List.forall_mem_singleton]
  exact ⟨fun ⟨size, _, read, index, _, _⟩ => ⟨⟨size, index⟩, read rfl⟩, fun ⟨⟨size, index⟩, read⟩ => ⟨size, nofun, fun _ => read, index, rfl, nofun⟩⟩

theorem fill_ok : (newXfer s h .fill 8 ch d a b 0 n k t 0).ok s h = true ↔
    (let cd := (s.creg h d).toNat
     let cb := (s.creg h b).toNat
     1 ≤ cb ∧ cb ≤ 2 ^ 32 ∧ RangeOk (s.res h) t cd cb ∧ (k = 1 → ChannelFits s h ch.toNat t cd cb)) := by
  rw [newXfer_ok _ _ _ _ _ _ _ _ _ _ _ _ _ rfl]
  simp [Xfer.sizeOk, within_iff, Xfer.fixedSide, Xfer.rowsOf, Xfer.indexOk, Xfer.apart, Xfer.total, newXfer, and_assoc]

theorem pref_ok : (newXfer s h .pref 9 0 0 a b 0 0 0 0 0).ok s h = true ↔
    (let ca := (s.creg h a).toNat
     let cb := (s.creg h b).toNat
     1 ≤ cb ∧ cb ≤ 2 ^ 32 ∧ RangeOk (s.res h) 0 ca cb) := by
  rw [newXfer_ok _ _ _ _ _ _ _ _ _ _ _ _ _ rfl]
  simp [Xfer.sizeOk, within_iff, Xfer.fixedSide, Xfer.rowsOf, Xfer.indexOk, Xfer.apart, newXfer, and_assoc]

end

/-! ## A transfer begins (R227, R231) -/

/-- The channel that a transfer of a resident fills: taken over at its WM, or armed for the extent (R231). -/
def Xfer.filled (x : Xfer) (r : Resident) (c : Chan) : Chan :=
  if c.armed then { c with filling := true }
  else { space := x.ds, base := BitVec.ofNat 56 (x.extent r).1, limit := BitVec.ofNat 56 (x.extent r).2, wm := BitVec.ofNat 56 (x.extent r).1, asid := r.asid, filling := true }

theorem Xfer.arm_none {x : Xfer} (unused : x.ch = none) (s : State) (h : Nat) : x.arm s h = s := by rw [Xfer.arm, unused]

theorem Xfer.arm_some {x : Xfer} {o : Nat} (uses : x.ch = some o) (s : State) (h : Nat) :
    x.arm s h = s.setChan (hTile h) o (x.filled (s.res h) (s.chan (hTile h) o)) := by
  rw [Xfer.arm, uses]
  exact (apply_ite (s.setChan (hTile h) o) _ _ _).symm

/-- Arming a channel leaves all but the tile's channels, and of those all but the transfer's own. -/
theorem Xfer.arm_frame (x : Xfer) (s : State) (h : Nat) : x.arm s h = { s with tiles := (x.arm s h).tiles } ∧
    (∀ j, (x.arm s h).tile j = if j = hTile h ∧ x.ch ≠ none then { s.tile j with chans := ((x.arm s h).tile j).chans } else s.tile j) ∧
    (∀ o, x.ch ≠ some o → (x.arm s h).chan (hTile h) o = s.chan (hTile h) o) ∧
    ∀ o, x.ch = some o → (x.arm s h).chan (hTile h) o = x.filled (s.res h) (s.chan (hTile h) o) := by
  cases used : x.ch with
  | none =>
    rw [x.arm_none used]
    exact ⟨rfl, fun j => (if_neg (by simp)).symm, fun _ _ => rfl, nofun⟩
  | some o =>
    rw [x.arm_some used]
    refine ⟨rfl, fun j => ?_, fun p ne => chan_setChan_other _ _ _ fun same => ne (congrArg some same.symm), fun p same => ?_⟩
    · simpa using tile_setChan s (hTile h) o _ j
    · obtain rfl : o = p := Option.some.inj same
      exact chan_setChan_same ..

/-- A transfer begins: its channel is armed, and its program goes on. -/
def State.xfBegun (s : State) (h : Nat) (x : Xfer) : State :=
  (({ x.arm s h with nextId := s.nextId + 1 } : State).modRes h (fun r => { r with xf := some x })).advance (.task h .c)

section
variable {s : State} {h : Nat} (turn : s.who = some (.task h .c)) (mk : Nat → Xfer)
include turn

theorem xfIssue_behind (busy : (s.res h).xf ≠ none) : xfIssue mk s = .next s := by
  rw [xfIssue, onCopy_of turn]
  exact if_pos (Option.isSome_iff_ne_none.mpr busy)

variable (free : (s.res h).xf = none)
include free

theorem xfIssue_fails (bad : (mk h).ok s h = false) : xfIssue mk s = .next (s.stateUse (.task h .c)) := by
  rw [xfIssue, onCopy_of turn, free]
  simp [bad]

theorem xfIssue_begins (ok : (mk h).ok s h = true) : xfIssue mk s = .next (s.xfBegun h (mk h)) := by
  rw [xfIssue, onCopy_of turn, free]
  simp [ok, State.xfBegun]

end

/-- What has changed when a transfer has begun. -/
theorem xfBegun_of (s : State) (h : Nat) (x : Xfer) : let t := s.xfBegun h x
    t.res h = { s.res h with xf := some x, c := (t.res h).c } ∧ (t.res h).c.pc = (s.res h).c.pc + 4 ∧ (∀ y, y ≠ h → t.res y = s.res y) ∧ t.mem = s.mem ∧ t.gaccs = s.gaccs ∧
    t.tiles = (x.arm s h).tiles := by
  obtain ⟨frame, -, -, -⟩ := x.arm_frame s h
  obtain ⟨mem, gaccs⟩ : (x.arm s h).mem = s.mem ∧ (x.arm s h).gaccs = s.gaccs := by
    rw [frame]
    exact ⟨rfl, rfl⟩
  let v := ({ x.arm s h with nextId := s.nextId + 1 } : State).modRes h (fun r => { r with xf := some x })
  have res : ∀ y, (x.arm s h).res y = s.res y := fun y => by
    rw [frame]
    rfl
  have own : v.res h = { s.res h with xf := some x } := (State.res_setRes _ h _).trans (congrArg (fun r : Resident => { r with xf := some x }) (res h))
  have made : s.xfBegun h x = (v.countTile (hTile h) 5 1).setRes h (({ s.res h with xf := some x } : Resident).stepped .c) := own ▸ advance_task v h .c
  have moved : (s.xfBegun h x).res h = ({ s.res h with xf := some x } : Resident).stepped .c := by rw [made, State.res_setRes]
  intro t
  refine ⟨?_, ?_, fun y ne => ?_, ?_, ?_, ?_⟩
  · show (s.xfBegun h x).res h = { s.res h with xf := some x, c := ((s.xfBegun h x).res h).c }
    rw [moved]
    rfl
  · show ((s.xfBegun h x).res h).c.pc = _
    rw [moved]
    rfl
  · show (s.xfBegun h x).res y = _
    rw [made, State.res_setRes_other _ _ ne]
    exact (State.res_setRes_other _ _ ne).trans (res y)
  · exact (congrArg State.mem made).trans mem
  · exact (congrArg State.gaccs made).trans gaccs
  · exact (congrArg State.tiles made).trans rfl

/-- Instruction i begins a transfer when its checks hold, and else raises state-use: its operands are read, and the channel of its word is armed, or taken over at its WM. -/
def TransferBegins (s : State) (h : Nat) (i : Instr) (op : XOp) (ch : BitVec 4) (d a b : BitVec 5) (k t q n : BitVec 1) (size start total : Nat) (ok : Prop) : Prop :=
  let r := s.res h
  let c := s.chan (hTile h) ch.toNat
  let armed := c.base.toNat ≤ c.wm.toNat ∧ c.wm.toNat < c.limit.toNat
  (¬ ok → exec i s = .next (s.stateUse (.task h .c))) ∧
  (ok → Completes i s (fun u =>
    (∃ y, (u.res h).xf = some y ∧ y.id = s.nextId ∧ y.op = op ∧ y.ch = (if k = 1 then some ch.toNat else none) ∧ (y.nt = true ↔ n = 1) ∧ (y.ds = true ↔ t = 1) ∧
      (y.ss = true ↔ q = 1) ∧ y.esz = size ∧ y.opd = s.creg h d ∧ y.opa = s.creg h a ∧ y.opb = s.creg h b ∧ y.opb1 = s.creg h (b + 1) ∧ y.pos = 0 ∧ y.next = 0 ∧
      y.grans = [] ∧ y.stopped = false) ∧
    u.res h = { r with xf := (u.res h).xf, c := (u.res h).c } ∧ (u.res h).c.pc = r.c.pc + 4 ∧ (∀ y, y ≠ h → u.res y = s.res y) ∧ u.mem = s.mem ∧ u.gaccs = s.gaccs ∧
    (∀ j, u.tile j = if j = hTile h ∧ k = 1 then { s.tile j with chans := (u.tile j).chans } else s.tile j) ∧
    (∀ y, y ≠ ch.toNat → u.chan (hTile h) y = s.chan (hTile h) y) ∧
    (k = 1 → (armed → u.chan (hTile h) ch.toNat = { c with filling := true }) ∧
      (¬ armed → u.chan (hTile h) ch.toNat =
        { space := decide (t = 1), base := BitVec.ofNat 56 start, limit := BitVec.ofNat 56 (start + total), wm := BitVec.ofNat 56 start, asid := r.asid, filling := true }))))

theorem transferBegins {s : State} {h : Nat} {i : Instr} {op : XOp} {opc : Nat} {ch ch' : BitVec 4} {d a b : BitVec 5} {e : Nat} {n k t q : BitVec 1} {size start total : Nat} {ok : Prop}
    (turn : s.who = some (.task h .c)) (free : (s.res h).xf = none) (issue : exec i s = xfIssue (fun r => newXfer s r op opc ch' d a b e n k t q) s)
    (names : k = 1 → ch' = ch ∧ start = (s.creg h d).toNat + (if t = 1 then (s.res h).spBase else 0)) (checks : (newXfer s h op opc ch' d a b e n k t q).ok s h = true ↔ ok) (esz : (newXfer s h op opc ch' d a b e n k t q).esz = size)
    (moves : (newXfer s h op opc ch' d a b e n k t q).total = total) : TransferBegins s h i op ch d a b k t q n size start total ok := by
  generalize new : newXfer s h op opc ch' d a b e n k t q = x at checks esz moves
  have chan : x.ch = if k = 1 then some ch.toNat else none := by
    rw [← new]
    exact ite_congr rfl (fun u => by rw [(names u).1]) fun _ => rfl
  refine ⟨fun bad => issue.trans (xfIssue_fails turn _ free ?_), fun good => ⟨_, issue.trans (xfIssue_begins turn _ free ?_), ?_⟩⟩
  · rw [new]
    exact Bool.eq_false_iff.mpr fun holds => bad (checks.mp holds)
  · rw [new]
    exact checks.mpr good
  · rw [new]
    obtain ⟨res, pc, others, mem, gaccs, tiles⟩ := xfBegun_of s h x
    obtain ⟨-, armTile, armOther, armSame⟩ := x.arm_frame s h
    have tile : ∀ j, (s.xfBegun h x).tile j = (x.arm s h).tile j := fun j => congrArg (fget Tile.start · j) tiles
    have chans : ∀ o, (s.xfBegun h x).chan (hTile h) o = (x.arm s h).chan (hTile h) o := fun o => congrArg (fun y : Tile => fget Chan.start y.chans o) (tile _)
    have under : ((s.xfBegun h x).res h).xf = some x := by rw [res]
    have used : x.ch ≠ none ↔ k = 1 := by rw [chan]; simp
    refine ⟨⟨x, under, ?_⟩, by rw [under]; exact res, pc, others, mem, gaccs, fun j => ?_, fun o ne => (chans o).trans (armOther o fun same => ?_), fun u => ?_⟩
    · subst new
      exact ⟨rfl, rfl, chan, decide_eq_true_iff, decide_eq_true_iff, decide_eq_true_iff, esz, rfl, rfl, rfl, rfl, rfl, rfl, rfl, rfl⟩
    · rw [tile]
      exact (armTile j).trans (if_congr (and_congr_right' used) rfl rfl)
    · rw [chan] at same
      split at same
      · exact ne (Option.some.inj same).symm
      · cases same
    · rw [chans, armSame _ (chan.trans (if_pos u)), Xfer.filled, ← Chan.armed_iff]
      have begin_ : (x.extent (s.res h)).1 = start := by
        rw [(names u).2]
        subst new
        simp [Xfer.extent, newXfer]
      have limit : (x.extent (s.res h)).2 = (x.extent (s.res h)).1 + total := by rw [← moves]; rfl
      have space : x.ds = decide (t = 1) := by rw [← new]; rfl
      exact ⟨fun armed => if_pos armed, fun idle => (if_neg idle).trans (by rw [limit, begin_, space])⟩

end Sys2Proof.Machine
end

section
/-!
A transfer's granule accesses within the scratchpad, one action at a time (R231, R232, R283), and its end.
-/

namespace Sys2Proof.Machine
open Sys2Proof

/-! ## Bytes that arrive in order -/

theorem fput_above {α : Type} {m : FMap α} {k : Nat} (v : α) (below : ∀ c ∈ m, c.1 < k) : fput m k v = m ++ [(k, v)] := by
  induction m with
  | nil => rfl
  | cons c m ih =>
    have lt := below c List.mem_cons_self
    rw [fput, if_neg (by omega), if_neg (by omega), ih fun y hy => below y (List.mem_cons_of_mem _ hy), List.cons_append]

theorem foldl_fput_rising {α : Type} (l : FMap α) : ∀ m : FMap α, (m ++ l).Pairwise (fun p q => p.1 < q.1) → l.foldl (fun m c => fput m c.1 c.2) m = m ++ l := by
  induction l with
  | nil => exact fun m _ => (List.append_nil m).symm
  | cons c l ih =>
    intro m rising
    have below : ∀ y ∈ m, y.1 < c.1 := fun y hy => (List.pairwise_append.mp rising).2.2 y hy c List.mem_cons_self
    rw [List.foldl_cons, fput_above c.2 below, ih _ (by simpa using rising), List.append_assoc, List.singleton_append]

theorem fkeys_zip_range {α : Type} (l : List α) : fkeys ((List.range l.length).zip l) = List.range l.length := List.map_fst_zip (by simp)

theorem zip_range_rising {α : Type} (l : List α) : ((List.range l.length).zip l).Pairwise (fun p q => p.1 < q.1) := by
  rw [← List.pairwise_map (f := Prod.fst), List.map_fst_zip (by simp)]
  exact List.pairwise_lt_range

theorem foldl_fput_zip_range {α : Type} (l : List α) : ((List.range l.length).zip l).foldl (fun m c => fput m c.1 c.2) [] = (List.range l.length).zip l :=
  foldl_fput_rising _ [] (zip_range_rising l)

theorem fget_zip_range {α : Type} (d : α) (l : List α) {i : Nat} (hi : i < l.length) : fget d ((List.range l.length).zip l) i = l[i] := by
  have nodup : (fkeys ((List.range l.length).zip l)).Nodup := by
    rw [fkeys_zip_range]
    exact List.nodup_range
  exact fget_of_mem nodup (List.mem_iff_getElem.mpr ⟨i, by simpa using hi, by simp⟩)

theorem ofNat_shift_extract (v : Word) (k : Nat) : BitVec.ofNat 8 (v >>> k).toNat = v.extractLsb' k 8 := by
  rw [BitVec.toNat_ushiftRight]
  rfl

theorem spadRead_length (s : State) (h off n : Nat) : (s.spadRead h off n).length = n := by simp [State.spadRead, memRead]

/-- A scratchpad write changes the written bytes of the resident's tile alone. -/
theorem spadWrite_of (s : State) (h off : Nat) (bs : List Byte) : let u := s.spadWrite h off bs
    (∀ j, (u.tile j).chans = (s.tile j).chans ∧ (u.tile j).cur = (s.tile j).cur ∧ (j ≠ hTile h → (u.tile j).spad = (s.tile j).spad)) ∧
    (∀ i, (lt : i < bs.length) → memByte (u.tile (hTile h)).spad ((s.res h).spBase + off + i) = bs[i]) ∧
    ∀ z, z < (s.res h).spBase + off ∨ (s.res h).spBase + off + bs.length ≤ z → memByte (u.tile (hTile h)).spad z = memByte (s.tile (hTile h)).spad z := by
  intro u
  refine ⟨fun j => ?_, fun i lt => ?_, fun z out => ?_⟩
  · by_cases own : j = hTile h
    · have tile : u.tile j = { s.tile j with spad := (u.tile j).spad } := by
        subst own
        rw [show u.tile (hTile h) = _ from State.tile_setTile ..]
      rw [tile]
      exact ⟨rfl, rfl, fun other => absurd own other⟩
    · have tile : u.tile j = s.tile j := State.tile_setTile_other _ _ own
      rw [tile]
      exact ⟨rfl, rfl, fun _ => rfl⟩
  · rw [spad_spadWrite]
    exact memByte_memWrite_inside bs _ _ i lt
  · rw [spad_spadWrite]
    exact memByte_memWrite_other bs _ _ z out

/-! ## Units (R275) -/

theorem nextUnit_pos {left : Nat} (key : Nat) (both : Bool) (some_ : 1 ≤ left) : 1 ≤ nextUnit 4 key left both := by
  unfold nextUnit
  split <;> omega

theorem nextUnit_le (key left : Nat) (both : Bool) : nextUnit 4 key left both ≤ 8 ∧ nextUnit 4 key left both ≤ left := by
  unfold nextUnit
  split
  · next whole =>
    simp only [Bool.and_eq_true, decide_eq_true_eq] at whole
    omega
  · omega

/-! ## A transfer under way -/

/-- The transfer x is in execution on tile k, for its resident q (R232). -/
structure Moving (s : State) (k q : Nat) (x : Xfer) : Prop where
  cur : s.cur k .c = some q
  xf : (s.res (mkHandle k q)).xf = some x
  going : x.stopped = false

theorem Moving.xfOf {s : State} {k q : Nat} {x : Xfer} (w : Moving s k q x) : s.xfOf k = some (mkHandle k q, x) := by
  simp [State.xfOf, w.cur, w.xf, w.going]

/-- A COPY or FILL has as many bytes as c(cb) says (R230). -/
theorem Xfer.total_of {x : Xfer} (kind : x.op = .copy ∨ x.op = .fill) : x.total = x.opb.toNat := by
  rcases kind with op | op <;> simp only [Xfer.total, op]

theorem Xfer.indexed_of {x : Xfer} (kind : x.op = .copy ∨ x.op = .fill) : x.indexed = false := by
  rcases kind with op | op <;> simp [Xfer.indexed, op]

theorem Xfer.done_iff {x : Xfer} (kind : x.op = .copy ∨ x.op = .fill) : x.done = true ↔ x.opb.toNat ≤ x.pos := by
  rw [Xfer.done, x.total_of kind]
  rcases kind with op | op <;> simp [op]

/-- A program that is not pre-empted goes on at a progress point of a transfer (R312). -/
theorem copyPreemptStop_of {s : State} {k q : Nat} (cur : s.cur k .c = some q) (pre : (s.res (mkHandle k q)).preempt = false) : s.preemptStop k .c = s := by
  simp [State.preemptStop, cur, pre]

/-- The same transfer, further on. -/
structure Continues (x y : Xfer) : Prop where
  op : y.op = x.op
  ch : y.ch = x.ch
  opd : y.opd = x.opd
  opa : y.opa = x.opa
  opb : y.opb = x.opb

/-- Transfer x of resident h goes on in one action, of which P holds. -/
def GoesOn (s : State) (t : Tid) (h : Nat) (x : Xfer) (P : State → Xfer → Prop) : Prop :=
  Completes (.progressPointReached t .c) s (fun u => ∃ y, (u.res h).xf = some y ∧ u.mem = s.mem ∧ u.gaccs = s.gaccs ∧
    y.op = x.op ∧ y.ch = x.ch ∧ y.opd = x.opd ∧ y.opa = x.opa ∧ y.opb = x.opb ∧ P u y)

/-- One action leaves transfer y in x's place, and of the rest of the machine no more than a tile's scratchpad and channels changed. -/
structure XferStep (s : State) (k h : Nat) (y : Xfer) (u : State) : Prop where
  res : u.res h = { s.res h with xf := some y }
  cur : (u.tile k).cur = (s.tile k).cur
  mem : u.mem = s.mem
  gaccs : u.gaccs = s.gaccs

theorem xferStep_setXf {s v : State} {k h : Nat} {y : Xfer} (res : v.res h = s.res h) (cur : (v.tile k).cur = (s.tile k).cur) (mem : v.mem = s.mem) (gaccs : v.gaccs = s.gaccs) :
    XferStep s k h y (v.setXf h y) :=
  ⟨(State.res_setRes _ h _).trans (by rw [res]), cur, mem, gaccs⟩

section
variable {s u : State} {t : Tid} {q : Nat} {x y : Xfer} (w : Moving s t.toNat q x) (kind : x.op = .copy ∨ x.op = .fill) (more : x.pos < x.opb.toNat)
  (pre : (s.res (mkHandle t.toNat q)).preempt = false)
include w kind more

theorem Moving.copyProgress : s.copyProgress t.toNat = (s.granAny (mkHandle t.toNat q) x true x.grans).getD (s.granStart (mkHandle t.toNat q) x) := by
  have short : x.done = false := Bool.eq_false_iff.mpr fun all => Nat.not_le.mpr more ((x.done_iff kind).mp all)
  rw [State.copyProgress, w.xfOf]
  simp only [short, Bool.false_eq_true, if_false]

include pre

theorem Moving.goesOn {P : State → Xfer → Prop} (step : (s.granAny (mkHandle t.toNat q) x true x.grans).getD (s.granStart (mkHandle t.toNat q) x) = u)
    (after : XferStep s t.toNat (mkHandle t.toNat q) y u) (same : Continues x y) (holds : P u y) : GoesOn s t (mkHandle t.toNat q) x P := by
  obtain ⟨res, cur, mem, gaccs⟩ := after
  refine ⟨u, ?_, y, by rw [res], mem, gaccs, same.op, same.ch, same.opd, same.opa, same.opb, holds⟩
  have cur' : u.cur t.toNat .c = some q := by
    rw [← w.cur, State.cur, cur]
    rfl
  rw [exec_progressPointReached, execProgressPointReached]
  rw [copyPreemptStop_of w.cur pre, w.copyProgress kind more, step, copyPreemptStop_of cur' (by rw [res]; exact pre)]

end

/-! ## A granule access begins (R283) -/

/-- A channel's watermark holds no access of a transfer that is alone in filling one (R21, R231). -/
theorem heldBy_alone {s : State} {t : Nat} {own : Option Nat} (alone : ∀ kc ∈ (s.tile t).chans, some kc.1 = own ∨ kc.2.armed = false) (scratch : Bool) (asid : BitVec 14) (a n : Nat) :
    s.heldBy t scratch asid a n own = false :=
  List.any_eq_false.mpr fun kc mem => by rcases alone kc mem with mine | idle <;> simp [*]

theorem xfHeld_none {s : State} {h : Nat} {x : Xfer} (alone : ∀ kc ∈ (s.tile (hTile h)).chans, some kc.1 = x.ch ∨ kc.2.armed = false) (g : Gran) : s.xfHeld h x g = none :=
  List.find?_eq_none.mpr fun q _ => by simp [heldBy_alone alone]

/-- Bytes that lie in one run are not cut. -/
theorem cutEvery_once {d p n : Nat} (some_ : 1 ≤ n) (lt : p < d) (fits : p + n ≤ d) : cutEvery d (n + 1) p n = [(p, n)] := by
  have whole : min n (d - p % d) = n := by
    rw [Nat.mod_eq_of_lt lt]
    omega
  obtain ⟨m, rfl⟩ : ∃ m, n = m + 1 := ⟨n - 1, by omega⟩
  rw [cutEvery, if_neg (by omega), whole]
  dsimp only
  rw [Nat.sub_self, cutEvery, if_pos rfl]

/-- The granule access at byte p of a COPY or a FILL (R283). -/
theorem Xfer.gran_of {x : Xfer} (kind : x.op = .copy ∨ x.op = .fill) (ix : Nat → Int) {p : Nat} (lt : p < x.opb.toNat) : let g := x.gran ix p
    g.lo = p ∧ g.len = min (64 - (x.opd.toNat + p) % 2 ^ 64 % 64) (x.opb.toNat - p) ∧ g.dst = (x.opd.toNat + p) % 2 ^ 64 ∧ g.got = [] ∧ g.ready = false ∧ g.put = 0 ∧
    (x.op = .copy → g.src = [(0, g.len, (x.opa.toNat + p) % 2 ^ 64)]) := by
  have period : ∀ side, x.period side = x.opb.toNat := fun side => by
    rw [← x.total_of kind]
    rcases kind with op | op <;> simp only [Xfer.period, op]
  have moves : ∀ a : Word, moved a (Int.ofNat p) = (a.toNat + p) % 2 ^ 64 := fun a => by
    rw [moved, Int.ofNat_eq_natCast]
    omega
  have dst : x.addrOf ix true p = (x.opd.toNat + p) % 2 ^ 64 := by
    rw [← moves]
    rcases kind with op | op <;> simp [Xfer.addrOf, op]
  have len : x.granLen ((x.opd.toNat + p) % 2 ^ 64) p = min (64 - (x.opd.toNat + p) % 2 ^ 64 % 64) (x.opb.toNat - p) := by
    rw [Xfer.granLen, period, x.total_of kind, Nat.mod_eq_of_lt lt]
    omega
  intro g
  refine ⟨rfl, ?_, dst, rfl, rfl, rfl, fun copy => ?_⟩
  · show x.granLen (x.addrOf ix true p) p = _
    rw [dst, len]
  · show (cutEvery (x.period false) (x.granLen (x.addrOf ix true p) p + 1) p (x.granLen (x.addrOf ix true p) p)).map _ = [(0, x.granLen (x.addrOf ix true p) p, _)]
    have src : x.addrOf ix false p = (x.opa.toNat + p) % 2 ^ 64 := by
      rw [← moves]
      simp [Xfer.addrOf, copy]
    rw [dst, len, period, cutEvery_once (by omega) lt (by omega), List.map_singleton, Nat.sub_self, src]

/-- A granule access within the scratchpad begins at once: no watermark holds it, and it names no page. -/
theorem granStart_of {s : State} {h : Nat} {x : Xfer} (kind : x.op = .copy ∨ x.op = .fill) (ds : x.ds = true) (src : x.ss = true ∨ x.op = .fill) (lt : x.next < x.opb.toNat)
    (runs : (s.res h).xfStops = false) (alone : ∀ kc ∈ (s.tile (hTile h)).chans, some kc.1 = x.ch ∨ kc.2.armed = false) :
    ∃ places into, s.granStart h x = s.setXf h { x with
      grans := x.grans ++ [{ x.gran (s.xfIndex h x) x.next with places := places, into := into }], next := x.next + (x.gran (s.xfIndex h x) x.next).len } := by
  have open_ : ¬ (x.total ≤ x.next ∨ ((s.res h).xfStops = true ∧ x.unitsAt x.next ≠ x.unitsAt x.pos)) := by
    rw [x.total_of kind, runs]
    simp [lt]
  have inside : (x.ss || decide (x.op = .fill)) = true := by simpa using src
  have sound : x.elemFault (s.res h) s.fresh (x.gran (s.xfIndex h x) x.next) = none := by simp [Xfer.elemFault, x.indexed_of kind]
  unfold State.granStart
  simp only [if_neg open_, xfHeld_none alone, sound, inside, ds, x.indexed_of kind, if_true]
  exact ⟨_, _, rfl⟩

/-! ## A granule access under way -/

theorem spad_setChan (s : State) (t o : Nat) (c : Chan) (j : Nat) : ((s.setChan t o c).tile j).spad = (s.tile j).spad := by
  rw [tile_setChan]
  split <;> rfl

theorem cur_setChan (s : State) (t o : Nat) (c : Chan) (j : Nat) : ((s.setChan t o c).tile j).cur = (s.tile j).cur := by
  rw [tile_setChan]
  split <;> rfl

section
variable {s : State} {h : Nat} {x : Xfer} {g : Gran} (kind : x.op = .copy ∨ x.op = .fill) (ds : x.ds = true)

/-- With no granule access under way the next begins. -/
theorem next_begins {u : State} (grans : x.grans = []) (begun : s.granStart h x = u) : (s.granAny h x true x.grans).getD (s.granStart h x) = u := by
  rw [grans]
  exact begun

/-- The oldest granule access goes on when it can. -/
theorem oldest_steps {u : State} {gs : List Gran} (grans : x.grans = g :: gs) (step : s.granStep h x g true = some u) :
    (s.granAny h x true x.grans).getD (s.granStart h x) = u := by
  rw [grans, State.granAny, step]
  rfl

theorem head_putGran {gs : List Gran} (grans : x.grans = g :: gs) {z : Gran} (lo : z.lo = g.lo) : (x.putGran z).grans.head? = some z := by
  simp [Xfer.putGran, grans, lo]

/-- The bytes of a granule that begins to be read. -/
theorem head_arrive {gs : List Gran} (grans : x.grans = g :: gs) (empty : g.got = []) (some_ : 1 ≤ g.len) (l : List Byte) :
    (x.arrive g.lo l).grans.head? = some { g with got := (List.range l.length).zip l } := by
  have here : g.lo ≤ g.lo ∧ g.lo < g.lo + g.len := by omega
  simp only [Xfer.arrive, grans, List.map_cons, List.head?_cons, here, and_self, if_true, empty, Nat.sub_self, Nat.zero_add, foldl_fput_zip_range]

/-- A granule of a fill is made of the pattern (R230). -/
theorem granStep_fill (op : x.op = .fill) (unready : g.ready = false) (empty : g.got = []) (some_ : 1 ≤ g.len) (oldest : Bool) : s.granStep h x g oldest =
    some (s.setXf h (x.arrive g.lo ((List.range g.len).map (fun i => BitVec.ofNat 8 (x.opa >>> (8 * ((g.lo + i) % 8))).toNat)))) := by
  have short : ¬ g.got.length = g.len := by rw [empty]; simp; omega
  rw [State.granStep, unready, if_neg (by decide), if_neg short, State.granRead, if_pos op, if_pos empty]

/-- The first unit of a granule's source is read from the scratchpad (R230, R275). -/
theorem granStep_read (op : x.op = .copy) (ss : x.ss = true) (unready : g.ready = false) (empty : g.got = []) (some_ : 1 ≤ g.len) {v : Nat} (src : g.src = [(0, g.len, v)]) (oldest : Bool) :
    ∃ n, 1 ≤ n ∧ n ≤ 8 ∧ s.granStep h x g oldest = some (s.setXf h (x.arrive g.lo (s.spadRead h v n))) := by
  have short : ¬ g.got.length = g.len := by rw [empty]; simp; omega
  refine ⟨nextUnit 4 v g.len (decide (v % 8 = 0) && decide ((g.dst + 0) % 8 = 0)), nextUnit_pos _ _ some_, (nextUnit_le ..).1, ?_⟩
  rw [State.granStep, unready, if_neg (by decide), if_neg short, State.granRead, if_neg (by rw [op]; decide), ss, if_neg (by decide), src, empty]
  simp [srcUnits, Nat.one_le_iff_ne_zero.mp some_, fkeys]

include ds

/-- A COPY or FILL into the scratchpad reads no byte that it may have written. -/
theorem mix_of (kind : x.op = .copy ∨ x.op = .fill) : s.mix h x g = (s, x, g) := by
  have apart : x.mayMeet = false := by simp [Xfer.mayMeet, x.indexed_of kind, ds]
  rw [State.mix, apart]
  rfl

/-- The granule's data is whole. -/
theorem granStep_ready (kind : x.op = .copy ∨ x.op = .fill) (unready : g.ready = false) (whole : g.got.length = g.len) (none_ : ∀ a ∈ s.gaccs, ∀ p, a.dest ≠ .xfer p) (oldest : Bool) :
    s.granStep h x g oldest = some (s.setXf h (x.putGran { g with ready := true })) := by
  rw [State.granStep, unready, if_neg (by decide), if_pos whole, State.granReady, mix_of ds kind]
  refine congrArg (fun l => some ({ s.setXf h (x.putGran { g with ready := true }) with gaccs := l } : State)) (a₂ := s.gaccs) ?_
  refine (List.map_congr_left fun a mem => ?_).trans (List.map_id _)
  split
  · next p dest => exact absurd dest (none_ a mem p)
  · rfl

/-- The next unit of a granule is written. -/
theorem granStep_write (ready : g.ready = true) (left : g.put < g.len) : ∃ n, 1 ≤ n ∧ n ≤ 8 ∧ g.put + n ≤ g.len ∧
    s.granStep h x g true = some ((s.spadWrite h (g.dst + g.put) ((List.range n).map (fun i => fget 0 g.got (g.put + i)))).setXf h (x.putGran { g with put := g.put + n })) := by
  refine ⟨g.dstUnit 4 g.put, nextUnit_pos _ _ (by omega), (nextUnit_le ..).1, ?_, ?_⟩
  · have le := (nextUnit_le (g.dst + g.put) (g.len - g.put) (decide ((g.dst + g.put) % 8 = 0) && g.srcAligned g.put)).2
    rw [Gran.dstUnit]
    omega
  · rw [State.granStep, ready, if_pos rfl, if_neg (by decide), ds, if_pos rfl, if_neg (by omega)]

theorem granStep_done (ready : g.ready = true) (all : g.len ≤ g.put) : s.granStep h x g true = some (s.granDone h x g) := by
  rw [State.granStep, ready, if_pos rfl, if_neg (by decide), ds, if_pos rfl, if_pos all]

end

/-- The transfer whose oldest granule access is done (R232). -/
def Xfer.granEnded (x : Xfer) (g : Gran) : Xfer :=
  { x with grans := x.grans.tail, pos := g.lo + g.len, point := decide (x.unitsAt (g.lo + g.len) ≠ x.unitsAt x.pos) }

/-- What the end of the oldest granule access changes: the bytes done, and the channel's WM (R231, R232). -/
theorem granDone_of {s : State} {k h : Nat} {x : Xfer} {g : Gran} (tile : hTile h = k) (ds : x.ds = true) : let u := s.granDone h x g
    XferStep s k h (x.granEnded g) u ∧ (∀ j, (u.tile j).spad = (s.tile j).spad) ∧
      (∀ o, x.ch = some o → (u.chan k o).wm = BitVec.ofNat 56 (max (s.chan k o).wm.toNat ((s.res h).spBase + x.opd.toNat + g.lo + g.len))) ∧
      ∀ o, x.ch ≠ some o → u.chan k o = s.chan k o := by
  subst tile
  let v := s.setXf h (x.granEnded g)
  have res : v.res h = { s.res h with xf := some (x.granEnded g) } := State.res_setRes _ h _
  have done : s.granDone h x g = match x.ch with
    | some o => v.setChan (hTile h) o { v.chan (hTile h) o with wm := BitVec.ofNat 56 (max (v.chan (hTile h) o).wm.toNat ((x.extent (v.res h)).1 + (g.lo + g.len))) }
    | none => v := rfl
  have start : (x.extent (v.res h)).1 + (g.lo + g.len) = (s.res h).spBase + x.opd.toNat + g.lo + g.len := by
    have first : (x.extent (v.res h)).1 = x.opd.toNat + (s.res h).spBase := by
      rw [Xfer.extent, res, ds]
      rfl
    omega
  intro u
  cases uses : x.ch with
  | none =>
    have made : u = v := by
      rw [uses] at done
      exact done
    rw [made]
    exact ⟨⟨res, rfl, rfl, rfl⟩, fun _ => rfl, nofun, fun _ _ => rfl⟩
  | some o =>
    have made : u = v.setChan (hTile h) o { s.chan (hTile h) o with wm := BitVec.ofNat 56 (max (s.chan (hTile h) o).wm.toNat ((s.res h).spBase + x.opd.toNat + g.lo + g.len)) } := by
      rw [uses] at done
      rw [← start]
      exact done
    obtain ⟨spad, cur⟩ : (∀ j, (u.tile j).spad = (s.tile j).spad) ∧ (u.tile (hTile h)).cur = (s.tile (hTile h)).cur :=
      ⟨fun j => by rw [made, spad_setChan]; rfl, by rw [made, cur_setChan]; rfl⟩
    refine ⟨⟨by rw [made]; exact res, cur, by rw [made]; rfl, by rw [made]; rfl⟩, spad, fun i same => ?_, fun i other => ?_⟩
    · obtain rfl : o = i := Option.some.inj same
      rw [made, chan_setChan_same]
    · rw [made, chan_setChan_other _ _ _ fun same => other (congrArg some same.symm)]
      rfl

/-! ## The end of a transfer (R232) -/

section
variable {s : State} {t : Tid} {q : Nat} {x : Xfer} (w : Moving s t.toNat q x)
include w

theorem transferComplete_waits (short : x.done = false) : exec (.transferComplete t) s = .next s := by
  rw [exec_transferComplete, execTransferComplete, w.xfOf]
  simp [short]

theorem transferComplete_of (done : x.done = true) : Completes (.transferComplete t) s (fun u =>
    u.res (mkHandle t.toNat q) = { s.res (mkHandle t.toNat q) with xf := none, cprog := [] } ∧ u.mem = s.mem ∧
    (∀ o, x.ch = some o → u.chan t.toNat o = { s.chan t.toNat o with filling := false }) ∧ (∀ o, x.ch ≠ some o → u.chan t.toNat o = s.chan t.toNat o) ∧
    ∀ j, (u.tile j).spad = (s.tile j).spad) := by
  let v := s.modRes (mkHandle t.toNat q) (fun r => { r with xf := none, cprog := [] })
  have res : v.res (mkHandle t.toNat q) = { s.res (mkHandle t.toNat q) with xf := none, cprog := [] } := State.res_setRes ..
  have ends : exec (.transferComplete t) s = .next (match x.ch with
      | some o => v.setChan t.toNat o { v.chan t.toNat o with filling := false }
      | none => v) := by
    rw [exec_transferComplete, execTransferComplete, w.xfOf]
    simp only [done, Bool.not_true, Bool.false_eq_true, if_false]
    rfl
  cases uses : x.ch with
  | none =>
    rw [uses] at ends
    exact ⟨v, ends, res, rfl, nofun, fun _ _ => rfl, fun _ => rfl⟩
  | some o =>
    rw [uses] at ends
    refine ⟨_, ends, res, rfl, fun i same => ?_, fun i other => ?_, fun j => spad_setChan ..⟩
    · obtain rfl : o = i := Option.some.inj same
      exact chan_setChan_same ..
    · exact chan_setChan_other _ _ _ fun same => other (congrArg some same.symm)

end

/-! ## The actions of a transfer within the scratchpad (R231, R232, R283) -/

/-- No tile's scratchpad or channels have changed. -/
def QuietTiles (s u : State) : Prop := ∀ j, (u.tile j).spad = (s.tile j).spad ∧ (u.tile j).chans = (s.tile j).chans

section
variable {s : State} {t : Tid} {q : Nat} {x : Xfer} (w : Moving s t.toNat q x) (onTile : t.toNat < 288) (more : x.pos < x.opb.toNat)
  (pre : (s.res (mkHandle t.toNat q)).preempt = false)
include w more pre

section
variable (kind : x.op = .copy ∨ x.op = .fill) (ds : x.ds = true)
include kind ds

include onTile in
theorem Moving.begins (src : x.ss = true ∨ x.op = .fill) (grans : x.grans = []) (lt : x.next < x.opb.toNat) (bnd : (s.res (mkHandle t.toNat q)).c.bnd = false)
    (blk : (s.res (mkHandle t.toNat q)).c.blk < 256) (alone : ∀ kc ∈ (s.tile t.toNat).chans, some kc.1 = x.ch ∨ kc.2.armed = false) :
    GoesOn s t (mkHandle t.toNat q) x (fun u y => QuietTiles s u ∧ y.pos = x.pos ∧ ∃ g, y.grans = [g] ∧ g.lo = x.next ∧
      g.len = min (64 - (x.opd.toNat + x.next) % 2 ^ 64 % 64) (x.opb.toNat - x.next) ∧ g.dst = (x.opd.toNat + x.next) % 2 ^ 64 ∧ g.got = [] ∧ g.ready = false ∧ g.put = 0 ∧
      y.next = x.next + g.len ∧ (x.op = .copy → g.src = [(0, g.len, (x.opa.toNat + x.next) % 2 ^ 64)])) := by
  have runs : (s.res (mkHandle t.toNat q)).xfStops = false := by simp [Resident.xfStops, pre, bnd, blk]
  obtain ⟨places, into, made⟩ := granStart_of kind ds src lt runs ((hTile_mkHandle onTile q).symm ▸ alone)
  obtain ⟨lo, len, dst, got, ready, put, from_⟩ := x.gran_of kind (s.xfIndex (mkHandle t.toNat q) x) lt
  exact w.goesOn kind more pre (next_begins grans made) (xferStep_setXf rfl rfl rfl rfl) ⟨rfl, rfl, rfl, rfl, rfl⟩
    ⟨fun _ => ⟨rfl, rfl⟩, rfl, _, congrArg (· ++ [_]) grans, lo, len, dst, got, ready, put, rfl, from_⟩

variable {g : Gran} {gs : List Gran} (grans : x.grans = g :: gs)
include grans

theorem Moving.readies (none_ : ∀ a ∈ s.gaccs, ∀ p, a.dest ≠ .xfer p) (unready : g.ready = false) (whole : g.got.length = g.len) :
    GoesOn s t (mkHandle t.toNat q) x (fun u y => QuietTiles s u ∧ y.pos = x.pos ∧ y.grans.head? = some { g with ready := true }) :=
  w.goesOn kind more pre (oldest_steps grans (granStep_ready ds kind unready whole none_ true)) (xferStep_setXf rfl rfl rfl rfl) ⟨rfl, rfl, rfl, rfl, rfl⟩
    ⟨fun _ => ⟨rfl, rfl⟩, rfl, head_putGran grans rfl⟩

include onTile

theorem Moving.writes (ready : g.ready = true) (left : g.put < g.len) : GoesOn s t (mkHandle t.toNat q) x (fun u y =>
    ∃ len, 1 ≤ len ∧ len ≤ 8 ∧ g.put + len ≤ g.len ∧ y.pos = x.pos ∧ y.grans.head? = some { g with put := g.put + len } ∧
      (∀ j, (u.tile j).chans = (s.tile j).chans ∧ (j ≠ t.toNat → (u.tile j).spad = (s.tile j).spad)) ∧
      (∀ i, i < len → memByte (u.tile t.toNat).spad ((s.res (mkHandle t.toNat q)).spBase + g.dst + g.put + i) = fget 0 g.got (g.put + i)) ∧
      ∀ z, z < (s.res (mkHandle t.toNat q)).spBase + g.dst + g.put ∨ (s.res (mkHandle t.toNat q)).spBase + g.dst + g.put + len ≤ z →
        memByte (u.tile t.toNat).spad z = memByte (s.tile t.toNat).spad z) := by
  obtain ⟨n, pos, le, fits, write⟩ := granStep_write (s := s) (h := mkHandle t.toNat q) (x := x) ds ready left
  obtain ⟨tiles, inside, outside⟩ := spadWrite_of s (mkHandle t.toNat q) (g.dst + g.put) ((List.range n).map (fun i => fget 0 g.got (g.put + i)))
  rw [hTile_mkHandle onTile] at tiles inside outside
  refine w.goesOn kind more pre (oldest_steps grans write) (xferStep_setXf rfl (tiles _).2.1 rfl rfl) ⟨rfl, rfl, rfl, rfl, rfl⟩
    ⟨n, pos, le, fits, rfl, head_putGran grans rfl, fun j => ⟨(tiles j).1, (tiles j).2.2⟩, fun i lt => ?_, fun z out => outside z ?_⟩
  · rw [Nat.add_assoc (s.res (mkHandle t.toNat q)).spBase]
    exact (inside i (by simpa using lt)).trans (by simp)
  · simpa [← Nat.add_assoc] using out

theorem Moving.ends (ready : g.ready = true) (all : g.len ≤ g.put) : GoesOn s t (mkHandle t.toNat q) x (fun u y => y.grans = gs ∧ y.pos = g.lo + g.len ∧
    (∀ j, (u.tile j).spad = (s.tile j).spad) ∧
    (∀ o, x.ch = some o → (u.chan t.toNat o).wm =
      BitVec.ofNat 56 (max (s.chan t.toNat o).wm.toNat ((s.res (mkHandle t.toNat q)).spBase + x.opd.toNat + g.lo + g.len))) ∧
    ∀ o, x.ch ≠ some o → u.chan t.toNat o = s.chan t.toNat o) := by
  obtain ⟨after, spad, wm, others⟩ := granDone_of (s := s) (g := g) (hTile_mkHandle onTile q) ds
  exact w.goesOn kind more pre (oldest_steps grans (granStep_done ds ready all)) after ⟨rfl, rfl, rfl, rfl, rfl⟩
    ⟨by rw [Xfer.granEnded, grans]; rfl, rfl, spad, wm, others⟩

end

section
variable {g : Gran} {gs : List Gran} (grans : x.grans = g :: gs) (unready : g.ready = false) (empty : g.got = []) (some_ : 1 ≤ g.len)
include grans unready empty some_

theorem Moving.fills (fill : x.op = .fill) : GoesOn s t (mkHandle t.toNat q) x (fun u y => QuietTiles s u ∧ y.pos = x.pos ∧
    ∃ z, y.grans.head? = some z ∧ z.lo = g.lo ∧ ∀ i, i < g.len → fget 0 z.got i = x.opa.extractLsb' (8 * ((g.lo + i) % 8)) 8) := by
  refine w.goesOn (.inr fill) more pre (oldest_steps grans (granStep_fill fill unready empty some_ true)) (xferStep_setXf rfl rfl rfl rfl) ⟨rfl, rfl, rfl, rfl, rfl⟩
    ⟨fun _ => ⟨rfl, rfl⟩, rfl, _, head_arrive grans empty some_ _, rfl, fun i lt => ?_⟩
  refine (fget_zip_range 0 _ (by simpa using lt)).trans ?_
  rw [List.getElem_map, List.getElem_range, ofNat_shift_extract]

include onTile

theorem Moving.reads (copy : x.op = .copy) (ss : x.ss = true) {v : Nat} (src : g.src = [(0, g.len, v)]) : GoesOn s t (mkHandle t.toNat q) x (fun u y =>
    QuietTiles s u ∧ y.pos = x.pos ∧ ∃ z len, y.grans.head? = some z ∧ z.lo = g.lo ∧ 1 ≤ len ∧ len ≤ 8 ∧ fkeys z.got = List.range len ∧
      ∀ i, i < len → fget 0 z.got i = memByte (s.tile t.toNat).spad ((s.res (mkHandle t.toNat q)).spBase + v + i)) := by
  obtain ⟨n, pos, le, read⟩ := granStep_read (s := s) (h := mkHandle t.toNat q) copy ss unready empty some_ src true
  have length := spadRead_length s (mkHandle t.toNat q) v n
  refine w.goesOn (.inl copy) more pre (oldest_steps grans read) (xferStep_setXf rfl rfl rfl rfl) ⟨rfl, rfl, rfl, rfl, rfl⟩
    ⟨fun _ => ⟨rfl, rfl⟩, rfl, _, n, head_arrive grans empty some_ _, rfl, pos, le, (fkeys_zip_range _).trans (by rw [length]), fun i lt => ?_⟩
  refine (fget_zip_range 0 _ (by rw [length]; exact lt)).trans ?_
  simp [State.spadRead, memRead, hTile_mkHandle onTile]

end

end

end Sys2Proof.Machine

open Sys2Proof Sys2Proof.Machine

/-- Settles O43: a transfer begins by its checks on the operands read, and its granule accesses go on one action at a time, the oldest first. -/
theorem copyTransfers : Obligations.CopyTransfers := by
  intro s h ch d a b e n k td sd w r cr cd ca cb lenRow rows src dst count esz side row apart c armed start channel index begins
  refine ⟨fun turn => ⟨fun free => ⟨?_, ?_, ?_, ?_, ?_, ?_⟩, fun busy i mem => ?_⟩, ?_⟩
  · exact transferBegins turn free rfl (fun _ => ⟨rfl, rfl⟩) (copy_ok s h ch d a b n k td sd) rfl rfl
  · exact transferBegins turn free rfl (fun _ => ⟨rfl, rfl⟩) (copy2d_ok s h ch d a b n k td sd) rfl rfl
  · have size := newXfer_esz s h d a b e n td sd .cgath 6 ch k
    exact transferBegins turn free rfl (fun _ => ⟨rfl, rfl⟩) (cgath_ok s h ch d a b e n k td sd) size (congrArg ((cr (b + 1)).toNat * ·) size)
  · have size := newXfer_esz s h d a b e n td sd .cscat 7 0 0
    exact transferBegins turn free rfl nofun (cscat_ok s h d a b e n td sd) size (congrArg ((cr (b + 1)).toNat * ·) size)
  · exact transferBegins turn free rfl (fun _ => ⟨rfl, rfl⟩) (fill_ok s h ch d a b n k td) rfl rfl
  · exact transferBegins (k := 0) turn free (exec_pref a b s) nofun (pref_ok s h a b) rfl rfl
  · simp only [List.mem_cons, List.not_mem_nil, or_false] at mem
    rcases mem with rfl | rfl | rfl | rfl | rfl | rfl <;> exact xfIssue_behind turn _ busy
  · intro t q x eq ht _ cur xf going
    subst eq
    have move : Moving s t.toNat q x := ⟨cur, xf, going⟩
    refine ⟨fun op ds more pre none_ => ?_, fun done => ?_, fun kind short => ?_⟩
    · have kind : x.op = .copy ∨ x.op = .fill := op.imp_left And.left
      intro goes quiet
      refine ⟨move.begins ht more pre kind ds (op.imp_left And.right), fun g gs grans _ => ⟨fun unready empty some_ => ⟨?_, fun v copy src => ?_⟩, fun unready whole _ => ?_, ?_, ?_⟩⟩
      · exact move.fills more pre grans unready empty some_
      · obtain ⟨-, ss⟩ := op.resolve_right fun fill => by rw [copy] at fill; cases fill
        exact move.reads ht more pre grans unready empty some_ copy ss src
      · exact move.readies more pre kind ds grans none_ unready whole
      · exact move.writes ht more pre kind ds grans
      · exact move.ends ht more pre kind ds grans
    · have all : x.done = true := by
        rcases done with pref | ⟨kind, all⟩
        · simp [Xfer.done, pref]
        · exact (x.done_iff kind).mpr all
      obtain ⟨u, ends, res, mem, own, others, spad⟩ := transferComplete_of move all
      exact ⟨u, ends, by rw [res], by rw [res], mem, own, others, spad⟩
    · exact transferComplete_waits move (Bool.eq_false_iff.mpr fun all => Nat.not_le.mpr short ((x.done_iff kind).mp all))
end
